-- ==== Sys2Proof/Word.lean ====
section
/-! DEFINITION. The words of the block: bytes, the 32-bit and 64-bit words of registers and number
formats, and little-endian byte order (R7). -/

namespace Sys2Proof

/-- One byte. -/
abbrev Byte := BitVec 8

/-- A 16-bit word: a BF16 value, a metadata word, a descriptor handle. -/
abbrev W16 := BitVec 16

/-- A 32-bit word: an FP32 value, half a register, a queue count. -/
abbrev W32 := BitVec 32

/-- A 64-bit word: a register (R8), a memory address (R251), an FP64 value. -/
abbrev W64 := BitVec 64

end Sys2Proof
end

