-- ==== Sys2Proof/Image.lean ====
section
/-! DEFINITION. The settings that a Dalfy image holds (R431): one structure per section, a field per setting of the tables
the section's row of R431 names. The field layout inside a section is Stecon's (R431), so the model takes a section's
settings as data; the header, the directory and the signature block it reads from the image's bytes (R427 to R429). -/

namespace Sys2Proof

/-- The buddy of a partition (R403, R417): device address, partition and granule list. -/
structure BuddyCfg where
  dev      : Nat
  part     : Nat
  granules : List Nat
  deriving DecidableEq, Repr

/-- The bits set among the lowest `k` of `n`. -/
def bitCount (n k : Nat) : Nat := (List.range k).countP n.testBit

/-- The PARTITION section's entry of one partition (R24 to R29, R35, R140, R236, R247, R295, R344, R372, R572), with the
partition's settings of the REDUNDANCY and POWER sections (R403, R521). `cushions`, `granules` and `ports` are bit maps;
a partition is absent when its cushion map is 0. -/
structure PartCfg where
  cushions      : Nat
  granules      : Nat
  ports         : Nat
  descBase      : Nat
  descCount     : Nat := 16384
  rungRing      : Nat
  rungDepth     : Nat := 1024
  normRing      : Nat
  normDepth     : Nat := 256
  retainBase    : Nat
  retainGiB     : Nat := 8
  jitBase       : Nat
  stagingBase   : Nat
  stagingGiB    : Nat := 4        -- STAGING_SIZE of the SCALE_POLICY section (R67)
  reserveBase   : Nat
  reserve64ths  : Nat := 8
  stormFootprint : Option Nat := none
  ckptInterval  : Nat := 256
  troubleSteps  : Nat := 3
  stormLog2     : Nat := 2       -- STORM_FRACTION = 1 / 2^stormLog2
  clipNorm      : W32 := 0x3F800000  -- CLIP_NORM of GLOBAL
  skipTensor    : Bool := false  -- NONFINITE_POLICY: false STEP, true TENSOR
  rolloutEvery  : Nat := 1
  drainGiveup   : Nat := 20      -- tenths of a second
  partWeight    : Nat := bitCount cushions 24
  remoteTimeoutUs : Nat := 200
  rescaleMax    : Nat := 1
  redGiveup     : Nat := 100     -- tenths of a second
  retractLimit  : Nat := 3
  paired        : Bool := false  -- REDUNDANCY: PAIRED
  buddy         : Option BuddyCfg := none
  pgateIdleUs   : Nat := 100
  deriving DecidableEq, Repr

/-- One weight tensor of the TENSOR_TABLE section (R222, R224) with the per-tensor settings of R236 and R372. Each copy's
planes, header, spill region, directory and streak plane have their addresses here, for SET0 and SET1. -/
structure CopyAddr where
  elems  : Nat
  metas  : Nat
  epis   : Nat
  header : Nat
  spill  : Nat
  dir    : Nat
  streak : Nat
  deriving DecidableEq, Repr

structure SetAddr where
  master : Nat
  slot0  : Nat
  slot1  : Nat
  fwd    : CopyAddr
  bwd    : CopyAddr
  snap   : Nat                   -- the scale snapshot of R222
  deriving DecidableEq, Repr

structure TensorCfg where
  part      : Nat
  tensor    : Nat
  layer     : Nat
  rows      : Nat                -- K of the logical shape K × N; 1 for a vector
  cols      : Nat                -- N
  updatable : Bool
  slots     : Nat                -- 0, 1 or 2 optimiser state slots
  slotBf16  : List Bool          -- whether each slot is BF16
  fwdSlot   : Nat                -- scale slot of the forward narrow copy
  bwdSlot   : Nat
  groupCode : Nat := 6           -- GROUP_SIZE of UINT and LUT copies (R44), as R250 codes it
  groupTable : Nat
  spill64ths : Nat := 8          -- SPILL_FRACTION in 64ths (R140)
  clipMode  : Nat := 1           -- 0 OFF, 1 PER_TENSOR, 2 GLOBAL (R236)
  clipNorm  : W32 := 0x3F800000
  redHeadroom : Nat := 3
  redInitLog2 : Int := 0
  shardGroup : Nat := 0xFFFF     -- communication group of a distributed tensor; 0xFFFF none
  set0      : SetAddr
  set1      : SetAddr
  deriving DecidableEq, Repr

/-- Settings of one GEMM of a layer (R97, R116). `rot` is 0 for NONE, else the group size. -/
structure GemmCfg where
  rot     : Nat := 32
  seed    : Nat
  promote : Nat := 8
  kseg    : Nat := 0
  blocked : Bool := true         -- the GEMM has block-quantised operands (R140)
  deriving DecidableEq, Repr

/-- One layer of the WIDTH_MAP section (R97, R116, R140, R236). -/
structure LayerCfg where
  part    : Nat
  layer   : Nat
  fwd     : GemmCfg := { seed := layer + 1 }
  dx      : GemmCfg := { seed := layer + 1 }
  dw      : GemmCfg := { seed := layer + 1 }
  thrLog2 : Nat := 6             -- LAYER_THRESHOLD = 1 / 2^thrLog2
  early   : Bool := false        -- FB_RELEASE: EARLY
  keep    : Bool := false        -- ACT_CLASS: KEEP
  deriving DecidableEq, Repr

/-- The three GEMMs of a layer (R103), the sides of an operand, and the scale modes (R66). -/
inductive GemmKind where
  | fwd | dx | dw
  deriving DecidableEq, Repr

inductive SlotSide where
  | left | right
  deriving DecidableEq, Repr

inductive ScaleMode where
  | history | fixed | jit
  deriving DecidableEq, Repr

/-- The scale settings of R67 that the image gives for a slot of its own or for a whole partition (R66); none where it gives
no value. -/
structure ScaleOwn where
  mode     : Option ScaleMode := none
  depth    : Option Nat := none
  headroom : Option Nat := none
  crush    : Option Nat := none
  weight   : Option Bool := none
  deriving DecidableEq, Repr

/-- The SCALE_POLICY section (R66, R67, R431): partition-wide values, STAGING_SIZE in GiB by partition, and FIXED tensor scales
by partition and slot. -/
structure ScalePolicy where
  wide    : List (Nat × ScaleOwn) := []
  staging : List (Nat × Nat) := []
  fixed   : List (Nat × Nat × W32) := []
  deriving DecidableEq, Repr

/-- A partition's settings of the REDUNDANCY section (R403). -/
structure PartRed where
  part   : Nat
  paired : Bool := false
  buddy  : Option BuddyCfg := none
  deriving DecidableEq, Repr

/-- One tensor slot of the WIDTH_MAP section (R571) with its settings of R67 and R97 in force, and those of R67 that it has of
its own. -/
structure SlotCfg where
  part     : Nat
  slot     : Nat
  layer    : Nat                 -- 0xFFFFFFFF for a slot that feeds no GEMM of a layer
  gemm     : GemmKind
  side     : SlotSide
  family   : Nat
  width    : Nat
  mode     : ScaleMode := .history
  fixed    : W32 := 0
  depth    : Nat := 16
  headroom : Nat := 1
  crush    : Nat := 4
  weight   : Bool := false
  budget   : Nat := 1
  shift    : Nat := 2
  own      : ScaleOwn := {}
  deriving DecidableEq, Repr

/-- What the WIDTH_MAP section gives for a weight tensor (R44, R140, R236): GROUP_SIZE as R250 codes it, SPILL_FRACTION in
64ths, CLIP_MODE and CLIP_NORM. -/
structure TensorMap where
  part       : Nat
  tensor     : Nat
  groupCode  : Nat := 6
  spill64ths : Nat := 8
  clipMode   : Nat := 1
  clipNorm   : W32 := 0x3F800000
  deriving DecidableEq, Repr

/-- What the MANIFEST section's reduction settings give for a tensor (R372). -/
structure TensorRed where
  part     : Nat
  tensor   : Nat
  headroom : Nat := 3
  initLog2 : Int := 0
  deriving DecidableEq, Repr

/-- A member of a communication group (R274): device, partition, its remote window on this device's memory (R355), and
its backup (R387). -/
structure MemberCfg where
  dev      : Nat
  part     : Nat
  backup   : Option (Nat × Nat)
  deriving DecidableEq, Repr

/-- A remote window (R355): a byte range of this device's memory and the accesses granted. -/
structure WindowCfg where
  base  : Nat
  len   : Nat
  read  : Bool
  write : Bool
  deriving DecidableEq, Repr

/-- A communication group of the MANIFEST section (R274, R341, R355, R372). -/
structure GroupCfg where
  group    : Nat
  members  : List MemberCfg
  grid     : List Nat
  vc       : Nat
  windows  : List WindowCfg
  deadline : Nat := 16           -- RED_DEADLINE, always-on periods
  residue  : Bool := true
  sampleN  : Nat := 1024
  deriving DecidableEq, Repr

/-- This device's entry of a multicast group (R358). -/
structure McastCfg where
  group    : Nat
  root     : Nat
  rootPart : Nat
  ports    : Nat                 -- bit map of output ports
  localRx  : Bool
  rxPart   : Nat
  rxBase   : Nat
  rxLen    : Nat
  receivers : List Nat           -- LOCAL devices, which answer the root (R359)
  edges     : List (Nat × Nat)   -- the links of the tree, as pairs of devices
  deriving DecidableEq, Repr

/-- A pinned route slot of the ROUTING section (R351). -/
structure PinCfg where
  colony : Nat
  slot   : Nat
  member : Nat
  port   : Nat
  deriving DecidableEq, Repr

/-- The STREAM_SPLIT section (R284, R294). -/
structure SplitCfg where
  r : Nat := 19
  w : Nat := 8
  m : Nat := 5
  prefetchDepth : Nat := 4
  prefetchKiB256 : Nat := 8
  deriving DecidableEq, Repr

/-- The VC_MAP section (R344): credits by VC × 3 + hop class, with the ports whose credits differ; weights by VC and
adaptivity of VCs 12 to 14. -/
structure VcCfg where
  credits  : List Nat :=
    List.replicate 24 96 ++ List.replicate 12 16 ++ List.replicate 12 128
  byPort   : List (Nat × List Nat) := []
  weights  : List Nat := List.replicate 16 4
  adaptive : List Bool := [true, true, true]
  deriving DecidableEq, Repr

/-- The ROUTING section (R344, R351, R438, R456). -/
structure RoutingCfg where
  pins          : List PinCfg := []
  replayTimeoutUs : List Nat := List.replicate 36 4   -- per port
  replayLimit   : Nat := 8
  trainLimit    : Nat := 3
  nonminBias    : Nat := 32
  hostStipe     : Bool := false
  commitGiveup  : Nat := 30      -- seconds
  attestLog     : Bool := false  -- ATTEST_POLICY: false REQUIRE, true LOG
  roundGiveup   : Nat := 15      -- tenths of a second
  bootGiveup    : Nat := 30      -- seconds
  deriving DecidableEq, Repr

/-- The device-wide settings of the REDUNDANCY section (R403). -/
structure ReliabilityCfg where
  testPeriod  : Nat := 24        -- hours
  poisonLimit : Nat := 8
  feedImage   : Bool := false    -- FEED_SOURCE: IMAGE
  feedId      : Nat := 0
  deriving DecidableEq, Repr

/-- The UNDERSTORY section (R304, R498). -/
structure UnderstoryCfg where
  scrubPeriod : Nat := 24        -- hours
  lichenIdle  : Nat := 20        -- tenths of a millisecond
  sensorCal   : Nat := 10        -- seconds
  serdesCal   : Nat := 60        -- seconds
  telemPeriod : Nat := 0         -- hundredths of a second; 0 is OFF
  telemBase   : Option Nat := none
  telemFrames : Nat := 4096
  deriving DecidableEq, Repr

/-- The device-wide settings of the POWER section (R521), in the units of its table's steps where it has fractions. -/
structure PowerCfg where
  pllIdle      : Nat := 10       -- ms
  slewUp       : Nat := 200      -- W/ms
  slewDown     : Nat := 400
  floor        : Nat := 1600     -- W
  cap          : Nat := 3200
  thermWarn    : Nat := 95       -- °C
  inletMax     : Nat := 40
  flowMin      : Nat := 25       -- tenths of L/min
  coolantCap   : Nat := 1600
  flowPerKw    : Nat := 125      -- hundredths of L/min per kW
  flowFull     : Nat := 80       -- tenths of L/min
  flowMinReq   : Nat := 10
  flowLead     : Nat := 20       -- tenths of a second
  shelfAddr    : Nat := 0x58
  deriving DecidableEq, Repr

/-- The sections of an image (R431); none where the image holds no such section. -/
structure Sections where
  parts      : Option (List (Nat × PartCfg))
  tensors    : Option (List TensorCfg)
  layers     : Option (List LayerCfg × List SlotCfg × List TensorMap)
  scale      : Option ScalePolicy
  split      : Option SplitCfg
  vcMap      : Option (VcCfg × List (Nat × Nat))       -- with the GROUP VC of each communication group
  manifest   : Option (List GroupCfg × List McastCfg × List (Nat × Nat) × List TensorRed)
  routing    : Option RoutingCfg
  redundancy : Option (ReliabilityCfg × List PartRed)
  understory : Option UnderstoryCfg
  power      : Option (PowerCfg × List (Nat × Nat))   -- with PGATE_IDLE in µs by partition
  deriving DecidableEq, Repr

/-- The settings in force: every section with its absent optional ones at their defaults (R431). Slots, tensors, groups and
partitions hold the settings that the other sections give them (`ImageCfg.resolve`). -/
structure ImageCfg where
  parts      : List (Nat × PartCfg) := []
  tensors    : List TensorCfg := []
  layers     : List LayerCfg := []
  slots      : List SlotCfg := []
  split      : SplitCfg := {}
  vcMap      : VcCfg := {}
  groups     : List GroupCfg := []
  mcast      : List McastCfg := []
  epochTensors : List (Nat × Nat) := []   -- by partition, the most tensors the manifest puts into one epoch (R232)
  routing    : RoutingCfg := {}
  redundancy : ReliabilityCfg := {}
  understory : UnderstoryCfg := {}
  power      : PowerCfg := {}
  policy     : ScalePolicy := {}
  partRed    : List PartRed := []
  partPower  : List (Nat × Nat) := []
  tensorMap  : List TensorMap := []
  tensorRed  : List TensorRed := []
  groupVc    : List (Nat × Nat) := []
  deriving DecidableEq, Repr

/-- The value that a list gives for a key. -/
def givenFor {α : Type} (l : List (Nat × α)) (k : Nat) : Option α := (l.find? (fun e => e.1 == k)).map (·.2)

/-- A slot's scale settings: its own, else the partition-wide value, else the default of R67; the FIXED scale is the policy's. -/
def SlotCfg.resolve (x : ScalePolicy) (k : SlotCfg) : SlotCfg :=
  let w := (givenFor x.wide k.part).getD {}
  { k with
    mode := (k.own.mode.or w.mode).getD .history
    depth := (k.own.depth.or w.depth).getD 16
    headroom := (k.own.headroom.or w.headroom).getD 1
    crush := (k.own.crush.or w.crush).getD 4
    weight := (k.own.weight.or w.weight).getD false
    fixed := ((x.fixed.find? (fun e => e.1 == k.part && e.2.1 == k.slot)).map (·.2.2)).getD 0 }

/-- A tensor's settings of the WIDTH_MAP and MANIFEST sections, else the defaults of R44, R140, R236 and R372. -/
def TensorCfg.resolve (ms : List TensorMap) (rs : List TensorRed) (t : TensorCfg) : TensorCfg :=
  let m : TensorMap := (ms.find? (fun m => m.part == t.part && m.tensor == t.tensor)).getD { part := t.part, tensor := t.tensor }
  let r : TensorRed := (rs.find? (fun r => r.part == t.part && r.tensor == t.tensor)).getD { part := t.part, tensor := t.tensor }
  { t with
    groupCode := m.groupCode
    spill64ths := m.spill64ths
    clipMode := m.clipMode
    clipNorm := m.clipNorm
    redHeadroom := r.headroom
    redInitLog2 := r.initLog2 }

/-- The settings as every section gives them to slots, tensors, groups and partitions (R66, R67, R341, R403, R431, R521). A group
that the VC_MAP section gives no GROUP VC has none: the field holds 0xFF (log 42). -/
def ImageCfg.resolve (c : ImageCfg) : ImageCfg :=
  { c with
    slots := c.slots.map (SlotCfg.resolve c.policy)
    tensors := c.tensors.map (TensorCfg.resolve c.tensorMap c.tensorRed)
    groups := c.groups.map (fun g => { g with vc := (givenFor c.groupVc g.group).getD 0xFF })
    parts := c.parts.map (fun e =>
      let r : PartRed := (c.partRed.find? (fun x => x.part == e.1)).getD { part := e.1 }
      (e.1, { e.2 with
        stagingGiB := (givenFor c.policy.staging e.1).getD 4
        paired := r.paired
        buddy := r.buddy
        pgateIdleUs := (givenFor c.partPower e.1).getD 100 })) }

end Sys2Proof
end

