-- ==== Sys2Proof/Syntax.lean ====
section
/-! DEFINITION. The commands and events of the block: one constructor of Instr per row of spec/opcode_table.json, in the
table's order, with the operands that each row's rule gives it. What the outside world decides (the outcome of a signature
check, a sensor's sample, the bytes of an arriving flit) is an operand of the event. -/

namespace Sys2Proof

/-- The queues of R308. -/
inductive QueueId where
  | frond (f : Nat)
  | cushion (c : Nat)
  | anchor (p : Nat)
  | device
  deriving DecidableEq, Repr

/-- The requesters of R539. A peer's or a remote host's identity has its source fabric address (R543). -/
inductive Requester where
  | host (addr : Nat)
  | peer (addr : Nat)
  | lichen
  | debug
  | sequencer (f : Nat)
  deriving DecidableEq, Repr

/-- The width of a control-space access: 32 or 64 bits, or a narrower access (R9). -/
inductive AccWidth where
  | w32 | w64 | narrow
  deriving DecidableEq, Repr

/-- A control-space access: who, where in the window (R536), and how wide. -/
structure Access where
  req : Requester
  off : Nat
  width : AccWidth
  deriving DecidableEq, Repr

/-- A message: the header of R345 and its payload. `poison` marks its payload bytes as poisoned (R301). -/
structure Msg where
  dst     : Nat := 0
  hops    : Nat := 0
  src     : Nat := 0
  part    : Nat := 0xF
  mtype   : Nat := 0
  flags   : Nat := 0
  tag     : Nat := 0
  status  : Nat := 0
  via     : Nat := 0
  seqno   : Nat := 0
  addr    : Nat := 0
  payload : List Byte := []
  poison  : Bool := false
  deriving DecidableEq, Repr

/-- A message as it arrives: the port, the virtual channel and the hop class (R340, R342). -/
structure Arrival where
  port : Nat
  vc   : Nat
  hc   : Nat
  msg  : Msg
  deriving DecidableEq, Repr

/-- A 256-byte flit as it arrives, whether the FEC decoder marks a byte of it uncorrectable (R338), and how many of its
codewords the FEC corrected and could not correct (R364). -/
structure FlitIn where
  bytes     : List Byte
  fecBad    : Bool
  corrected : Nat := 0
  lost      : Nat := 0
  deriving DecidableEq, Repr

/-- A read of a buddy's feed ID that was answered (R418): the partition whose buddy it is, the value, and whether SOURCE is
other than 0. A read that got no response in time is absent. -/
structure FeedRead where
  part   : Nat
  feed   : Nat
  source : Bool
  deriving DecidableEq, Repr

/-- What verifying an image's signature and finding its sections gave (R429, R431): the operand of CHECK that stands for
the Falcon-1024 verification and for Stecon's field layout. -/
structure CheckInput where
  sigOk    : Bool
  sections : Sections
  feeds    : List FeedRead
  deriving DecidableEq, Repr

/-- A PCIe request at the stipe device (R361, R541). BAR 0, 2, or a window request by its index. -/
structure HostReq where
  write : Bool
  bar   : Nat
  addr  : Nat
  len   : Nat
  data  : List Byte
  enables : List Bool        -- byte enables; none listed means that all are set
  poison : Bool
  tag   : Nat
  gap   : Nat                -- CCLK cycles since the host's last control-space access (R13)
  deriving DecidableEq, Repr

/-- A sample of a sensor: none while the sensor gives no valid sample. -/
abbrev Sample := Option Nat

/-- The kinds of a wake event of the lichen core (R468). -/
inductive WakeCause where
  | mailbox | interrupt | understory
  deriving DecidableEq, Repr

/-- The start-up intervals of R466. -/
inductive StartStage where
  | stage (n : Nat)
  deriving DecidableEq, Repr

/-- What a step of the patrol scrub finds and when: how many reads of the block fail, whether by an uncorrectable indication of
the stack, and the counter's value (R304). -/
structure ScrubFind where
  reads : Nat
  stack : Bool
  now   : Nat
  deriving DecidableEq, Repr

/-- The unit whose test the understory starts, and whether the wake that it needs would carry P above C (R414, R532). -/
structure TestStart where
  unit     : Nat
  withheld : Bool
  deriving DecidableEq, Repr

/-- How a step of an in-field test ended (R415). -/
structure TestOutcome where
  pass : Bool
  deriving DecidableEq, Repr

inductive Instr where
  -- queue entries: queue and entry count; the entry's bytes stand in the queue's ring
  | nop (q : QueueId) (n : W32)
  | fence (q : QueueId) (n : W32)
  | matmul (q : QueueId) (n : W32)
  | storeTiles (q : QueueId) (n : W32) (mb : Nat)
  | layerCheck (q : QueueId) (n : W32)
  | gatherAddFold (q : QueueId) (n : W32)
  | gatherAddSum (q : QueueId) (n : W32)
  | vectorRun (q : QueueId) (n : W32) (mb : Nat) (whole : Bool)
  | fusedSoftmax (q : QueueId) (n : W32) (mb : Nat)
  | sample (q : QueueId) (n : W32)
  | loadProgram (q : QueueId) (n : W32)
  | streamCopy (q : QueueId) (n : W32) (mb : Nat)
  | update (q : QueueId) (n : W32)
  | emitOnly (q : QueueId) (n : W32)
  | stepCommit (q : QueueId) (n : W32)
  | redTensor (q : QueueId) (n : W32)
  | redContrib (q : QueueId) (n : W32)
  | redClose (q : QueueId) (n : W32)
  | check (q : QueueId) (n : W32) (i : CheckInput)
  | commit (q : QueueId) (n : W32) (feeds : List FeedRead)
  | partStart (q : QueueId) (n : W32)
  | partDrain (q : QueueId) (n : W32)
  | partAbort (q : QueueId) (n : W32)
  | partTest (q : QueueId) (n : W32)
  | partClear (q : QueueId) (n : W32)
  | svcTest (q : QueueId) (n : W32)
  | svcExit (q : QueueId) (n : W32)
  | drainedToIdle (p : Nat)
  | commandComplete (q : QueueId) (n : W32)
  | tail (q : QueueId) (a : Requester) (width : AccWidth) (v : W64)
  | resume (q : QueueId) (a : Requester)
  | skip (q : QueueId) (a : Requester)
  -- pinnule instructions: the frond whose resident spores issue their next instruction
  | fadd (f : Nat)
  | fsub (f : Nat)
  | fmul (f : Nat)
  | ffma (f : Nat)
  | fmin (f : Nat)
  | fmax (f : Nat)
  | fabs (f : Nat)
  | fneg (f : Nat)
  | fcmp (f : Nat)
  | sel (f : Nat)
  | iadd (f : Nat)
  | isub (f : Nat)
  | imul (f : Nat)
  | and (f : Nat)
  | or (f : Nat)
  | xor (f : Nat)
  | shl (f : Nat)
  | shr (f : Nat)
  | sar (f : Nat)
  | icmp (f : Nat)
  | cvt (f : Nat)
  | exp2 (f : Nat)
  | log2 (f : Nat)
  | rcp (f : Nat)
  | sqrt (f : Nat)
  | rsqrt (f : Nat)
  | sinpi (f : Nat)
  | cospi (f : Nat)
  | fdiv (f : Nat)
  | ld (f : Nat)
  | st (f : Nat)
  | bcr (f : Nat)
  | bcc (f : Nat)
  | perm (f : Nat)
  | rand (f : Nat)
  | coord (f : Nat)
  | movi (f : Nat)
  | rsum (f : Nat)
  | rmax (f : Nat)
  | rmin (f : Nat)
  | endChunk (f : Nat)
  -- links
  | dataFlit (p : Nat) (fl : FlitIn)
  | controlFlit (p : Nat) (fl : FlitIn)
  | nullFlit (p : Nat) (fl : FlitIn)
  | replayTimeout (p : Nat)
  | ident (p : Nat) (fl : FlitIn)
  | identTimeout (p : Nat) (now : Nat)
  | trainAttemptEnd (p : Nat) (ok : Bool)
  | linkLoss (p : Nat) (lane : Bool)
  | portReset (p : Nat) (a : Requester)
  -- messages
  | forward (a : Arrival)
  | write (a : Arrival)
  | writeAck (a : Arrival)
  | readReq (a : Arrival)
  | readResp (a : Arrival)
  | ctlWrite (a : Arrival)
  | ctlRead (a : Arrival) (gap : Nat)
  | ctlResp (a : Arrival)
  | landWrite (a : Arrival)
  | mcastWrite (a : Arrival)
  | mcastFence (a : Arrival)
  | mcastDone (a : Arrival)
  | remoteTimeout (tag : Nat) (now : Nat)
  | ctlTimeout (tag : Nat) (now : Nat)
  | hostRequest (r : HostReq)
  | hdmaPtrRd (m : Nat) (a : Requester) (v : W32)
  -- reductions
  | redBlocks (a : Arrival)
  | redResult (a : Arrival)
  | redNorm (a : Arrival)
  | backupReq (a : Arrival)
  | checkOk (a : Arrival)
  | retractReq (a : Arrival)
  | confirm (a : Arrival)
  | retract (a : Arrival)
  | redDeadline (p : Nat) (e : Nat) (t : Nat) (member : Nat) (now : Nat)
  | redGiveup (p : Nat) (e : Nat) (now : Nat)
  | epochLocalFail (p : Nat) (e : Nat) (now : Nat)
  | drainGiveup (p : Nat) (dest : Nat) (now : Nat)
  | drainComplete (p : Nat) (t : Nat) (dest : Nat)
  -- fabric management
  | mbxPost (a : Arrival)
  | mbxReply (a : Arrival)
  | intNotify (a : Arrival)
  | attestReq (a : Arrival)
  | attestResp (a : Arrival) (verified : Bool)
  | announce (a : Arrival)
  | routeGossip (a : Arrival) (feeds : List FeedRead)
  | gossipRunStart (feeds : List FeedRead)
  | roundGiveup (now : Nat) (feeds : List FeedRead)
  | barrierJoin (a : Arrival) (feeds : List FeedRead)
  | barrierRelease (a : Arrival) (feeds : List FeedRead)
  | bootGiveup (now : Nat) (feeds : List FeedRead)
  | commitGiveup (now : Nat)
  | startupLate (s : StartStage) (now : Nat)
  | fabAssign (a : Requester) (v : W64)
  -- power and start-up
  | aux33On
  | aux33Loss
  | islandResetRelease
  | powerGood (hostSel : Bool)
  | powerGoodLoss
  | resetN (high : Bool)
  | perstN (high : Bool)
  | pufReconstruct (ok : Bool)
  | lichenBoot (slotA : Bool) (slotB : Bool) (fpA : Bool) (fpB : Bool) (image : Bool)
  | hbmTrainingEnd (s : Nat) (ok : Bool)
  | bootCommit (feeds : List FeedRead)
  | granuleZeroed (g : Nat)
  | restore (a : Requester) (v : W64)
  | restoreEnd (p : Nat)
  | fwUpdate (a : Requester) (v : W64)
  | fwDone (verified : Bool)
  | logSel (a : Requester) (v : W64)
  | hbmTpGo (s : Nat) (a : Requester) (v : W64)
  | hbmTpDataWrite (s : Nat) (a : Requester) (v : W64)
  | hbmTpDataRead (s : Nat) (a : Requester)
  | clearingRead (a : Access) (gap : Nat)
  | registerWrite (a : Access) (v : W64)
  -- mailbox services
  | mailboxGo (c : Nat) (a : Requester) (v : W64)
  | echo (c : Nat)
  | logCopy (c : Nat)
  | telemNow (c : Nat)
  | attest (c : Nat)
  | provision (c : Nat) (verified : Bool)
  | ownerKey (c : Nat) (verified : Bool)
  | sealSecret (c : Nat)
  | unsealSecret (c : Nat)
  | sequencerLogRecord (c : Nat)
  | lichenReply (c : Nat) (status : Nat) (data : List W64)
  | mailboxReset (c : Nat) (a : Requester)
  | lichenSleep (now : Nat)
  | lichenWake (w : WakeCause)
  | watchdog (now : Nat) (request : Bool)
  | logFlush
  | logErase
  -- sensors, power and understory
  | thermalSample (n : Nat) (t : Nat)
  | thermCritTimeout (now : Nat)
  | railSample (n : Nat) (volt : Nat) (curr : Nat) (power : Nat)
  | coolantLimit (inlet : Nat) (outlet : Nat) (flow : Nat)
  | sensorFault (n : Nat)
  | governorWindow (mean : Nat) (throttle : Bool) (held : List (Nat × Nat)) (ballast : List (Nat × Nat))
  | flowReqUpdate
  | clockGate (f : Nat)
  | powerGate (f : Nat) (now : Nat)
  | pllStop (d : Nat) (now : Nat)
  | frondWake (f : Nat) (withheld : Bool)
  | feedIdPoll (bytes : Option (List Byte)) (feeds : List FeedRead)
  | patrolScrub (s : Nat) (find : ScrubFind)
  | hbmTempReadout (s : Nat) (t : Nat)
  | telemetryFrame
  | sensorCalibration
  | serdesCalibration
  | testLedger (now : Nat)
  | testDue (f : Nat)
  | testOverdue (f : Nat)
  | understoryTest (start : TestStart)
  | testComplete (f : Nat) (pass : Bool)
  | lockstepMismatch (f : Nat) (n : W32) (pair : Bool)
  | lockstepRetry (f : Nat) (agrees : Bool)
  -- debug port
  | dbgChallenge
  | dbgUnlock (token : List Byte) (verified : Bool)
  | dbgSel (target : Nat)
  | dbgData (write : Bool) (v : W64)
  | halt
  | run
  | step
  | bpSet (n : Nat) (addr : Nat)
  | bpClr (n : Nat)
  | dbgRead (space : Nat) (addr : Nat)
  | dbgWrite (space : Nat) (addr : Nat)
  | extest (v : List Bool)
  | samplePreload (v : List Bool)
  | idcode
  | bypass (tdi : Bool)
  | flitTime (p : Nat)
  deriving DecidableEq, Repr

end Sys2Proof
end

