-- ==== Sys2Proof/Decode.lean ====
section
/-! DEFINITION. The table gives no row bits: no word spells a command. -/

namespace Sys2Proof

/-- The command that a word spells by the bits of spec/opcode_table.json: none, since no row gives any. -/
def decodeTableWord (_ _ : Nat) : Option Instr := none

end Sys2Proof
end

