-- ==== Sys2Proof/Machine/Fp.lean ====
section
/-! DEFINITION. Floating point as the spec uses it: FP32, BF16 and FP64 values as exact scaled integers, and
rounding once to nearest, ties to even (R7, R56, R57, R61, R200). A finite FP32 value is an integer multiple of
2^-149 and a finite FP64 value one of 2^-1074, so every sum and product below is exact until its one rounding. -/

namespace Sys2Proof.Machine

/-- The quotient `num / den` rounded to the nearest integer, ties to even (R7 RNE). -/
def rneDiv (num den : Nat) : Nat :=
  let q := num / den
  let r := num % den
  if 2 * r > den ∨ (2 * r = den ∧ q % 2 = 1) then q + 1 else q

/-- RNE of a signed quotient; the sign goes with the numerator. -/
def rneDivInt (num : Int) (den : Nat) : Int :=
  if num < 0 then - Int.ofNat (rneDiv num.natAbs den) else Int.ofNat (rneDiv num.natAbs den)

/-- `⌊log₂ (num / den)⌋` of a positive quotient. -/
def floorLog2Rat (num den : Nat) : Int :=
  let k : Int := Int.ofNat (Nat.log2 num) - Int.ofNat (Nat.log2 den)
  let below : Bool := if k ≥ 0 then decide (num < den * 2 ^ k.toNat) else decide (num * 2 ^ (-k).toNat < den)
  if below then k - 1 else k

/-- `num / den × 2^(-u)` rounded by RNE: the significand of a positive quotient at unit `2^u`. -/
def rneAtUnit (num den : Nat) (u : Int) : Nat :=
  if u ≥ 0 then rneDiv num (den * 2 ^ u.toNat) else rneDiv (num * 2 ^ (-u).toNat) den

/-- A binary interchange format of IEEE 754: `p` significand bits, `ebits` exponent bits. -/
structure FpFmt where
  p : Nat
  ebits : Nat
  deriving DecidableEq, Repr

def FpFmt.bias (f : FpFmt) : Nat := 2 ^ (f.ebits - 1) - 1

/-- The exponent of the smallest subnormal: 149 for FP32, 133 for BF16, 1074 for FP64 (negated). -/
def FpFmt.sub (f : FpFmt) : Nat := f.bias + f.p - 2

def fmt32 : FpFmt := ⟨24, 8⟩
def fmtBf16 : FpFmt := ⟨8, 8⟩
def fmt64 : FpFmt := ⟨53, 11⟩

/-- The code of ±∞ without its sign. -/
def FpFmt.infCode (f : FpFmt) : Nat := (2 ^ f.ebits - 1) * 2 ^ (f.p - 1)

/-- The code, without its sign, of the non-negative quotient `num / den` rounded once by RNE with the exponent unbounded
above: subnormals kept. The codes of non-negative values rise with the value, so the significand carries into the exponent
by plain addition. -/
def FpFmt.rawCode (f : FpFmt) (num den : Nat) : Nat :=
  if num = 0 then 0
  else
    let u := max (floorLog2Rat num den - Int.ofNat (f.p - 1)) (- Int.ofNat f.sub)
    (u + Int.ofNat f.sub).toNat * 2 ^ (f.p - 1) + rneAtUnit num den u

/-- The same for an IEEE format: a value that rounds beyond the largest finite value becomes infinity. -/
def FpFmt.roundCode (f : FpFmt) (num den : Nat) : Nat := min (f.rawCode num den) f.infCode

/-- The integer `value × 2^sub` of a finite code without sign. -/
def FpFmt.codeMag (f : FpFmt) (code : Nat) : Nat :=
  let e := code / 2 ^ (f.p - 1)
  let m := code % 2 ^ (f.p - 1)
  if e = 0 then m else (2 ^ (f.p - 1) + m) * 2 ^ (e - 1)

/-! ### FP32 -/

/-- The canonical NaN (R131, R200). -/
def qnan32 : W32 := 0x7FC00000#32
def pinf32 : W32 := 0x7F800000#32
def ninf32 : W32 := 0xFF800000#32
def pzero32 : W32 := 0x00000000#32
def nzero32 : W32 := 0x80000000#32
def one32 : W32 := 0x3F800000#32

def isNeg32 (x : W32) : Bool := x.msb
def mag32 (x : W32) : Nat := x.toNat % 0x80000000
def isNaN32 (x : W32) : Bool := decide (mag32 x > 0x7F800000)
def isInf32 (x : W32) : Bool := decide (mag32 x = 0x7F800000)
def isFinite32 (x : W32) : Bool := decide (mag32 x < 0x7F800000)
def isZero32 (x : W32) : Bool := decide (mag32 x = 0)
/-- A normal FP32 value: exponent field neither 0 nor 255. -/
def isNormal32 (x : W32) : Bool := decide (0x00800000 ≤ mag32 x ∧ mag32 x < 0x7F800000)

def withSign32 (neg : Bool) (mag : Nat) : W32 :=
  BitVec.ofNat 32 (mag + if neg then 0x80000000 else 0)

/-- `value × 2^149` of a finite FP32 value. -/
def int32Of (x : W32) : Int :=
  let m := Int.ofNat (fmt32.codeMag (mag32 x))
  if isNeg32 x then -m else m

/-- A signed quotient rounded once to FP32; `zneg` is the sign of an exact zero. A non-zero quotient that rounds to zero
keeps its sign. -/
def fp32OfRat (n : Int) (den : Nat) (zneg : Bool := false) : W32 :=
  if n = 0 then withSign32 zneg 0 else withSign32 (decide (n < 0)) (fmt32.roundCode n.natAbs den)

/-- `n × 2^e` rounded once to FP32. -/
def fp32OfScaled (n : Int) (e : Int) (zneg : Bool := false) : W32 :=
  if e ≥ 0 then fp32OfRat (n * 2 ^ e.toNat) 1 zneg else fp32OfRat n (2 ^ (-e).toNat) zneg

def fp32Neg (x : W32) : W32 := x ^^^ 0x80000000#32
def fp32Abs (x : W32) : W32 := x &&& 0x7FFFFFFF#32

/-- IEEE 754 addition, RNE, with the canonical NaN. -/
def fp32AddRne (a b : W32) : W32 :=
  if isNaN32 a ∨ isNaN32 b then qnan32
  else if isInf32 a then (if isInf32 b ∧ isNeg32 a ≠ isNeg32 b then qnan32 else a)
  else if isInf32 b then b
  else fp32OfRat (int32Of a + int32Of b) (2 ^ 149) (isNeg32 a && isNeg32 b)

def fp32SubRne (a b : W32) : W32 :=
  if isNaN32 b then qnan32 else fp32AddRne a (fp32Neg b)

/-- IEEE 754 multiplication, RNE. -/
def fp32MulRne (a b : W32) : W32 :=
  let s := isNeg32 a != isNeg32 b
  if isNaN32 a ∨ isNaN32 b then qnan32
  else if isInf32 a ∨ isInf32 b then
    if isZero32 a ∨ isZero32 b then qnan32 else withSign32 s 0x7F800000
  else fp32OfRat (int32Of a * int32Of b) (2 ^ 298) s

/-- Fused multiply-add `a × b + c` with one rounding (R199 FFMA). -/
def fp32FmaRne (a b c : W32) : W32 :=
  let s := isNeg32 a != isNeg32 b
  if isNaN32 a ∨ isNaN32 b ∨ isNaN32 c then qnan32
  else if isInf32 a ∨ isInf32 b then
    if isZero32 a ∨ isZero32 b then qnan32
    else if isInf32 c ∧ isNeg32 c ≠ s then qnan32
    else withSign32 s 0x7F800000
  else if isInf32 c then c
  else fp32OfRat (int32Of a * int32Of b + int32Of c * 2 ^ 149) (2 ^ 298) (s && isNeg32 c)

/-- IEEE 754 division, RNE (R200 FDIV). -/
def fp32DivRne (a b : W32) : W32 :=
  let s := isNeg32 a != isNeg32 b
  if isNaN32 a ∨ isNaN32 b then qnan32
  else if isInf32 a then (if isInf32 b then qnan32 else withSign32 s 0x7F800000)
  else if isInf32 b then withSign32 s 0
  else if isZero32 b then (if isZero32 a then qnan32 else withSign32 s 0x7F800000)
  else
    let n := Int.ofNat (int32Of a).natAbs
    fp32OfRat (if s then -n else n) (int32Of b).natAbs s

/-- IEEE 754 comparison `a < b` of two values of which neither is NaN. -/
def fp32LtNum (a b : W32) : Bool :=
  let key (x : W32) : Int := if isNeg32 x then - Int.ofNat (mag32 x) else Int.ofNat (mag32 x)
  decide (key a < key b)

def fp32Eq (a b : W32) : Bool :=
  !(isNaN32 a) && !(isNaN32 b) && (a == b || (isZero32 a && isZero32 b))
def fp32Lt (a b : W32) : Bool := !(isNaN32 a) && !(isNaN32 b) && fp32LtNum a b
def fp32Le (a b : W32) : Bool := !(isNaN32 a) && !(isNaN32 b) && !(fp32LtNum b a)

/-- The order of FMIN, FMAX and the row reductions: numeric, with −0 below +0 (R200, R201). -/
def fp32OrdKey (x : W32) : Int :=
  if isNeg32 x then - Int.ofNat (mag32 x) - 1 else Int.ofNat (mag32 x)

def fp32Min (a b : W32) : W32 :=
  if isNaN32 a ∨ isNaN32 b then qnan32 else if fp32OrdKey a ≤ fp32OrdKey b then a else b
def fp32Max (a b : W32) : W32 :=
  if isNaN32 a ∨ isNaN32 b then qnan32 else if fp32OrdKey b ≤ fp32OrdKey a then a else b

/-- The largest integer whose square does not exceed `n`, by Newton steps on fuel. -/
def isqrtGo : Nat → Nat → Nat → Nat
  | 0, _, x => x
  | k + 1, n, x =>
    let y := (x + n / x) / 2
    if y < x then isqrtGo k n y else x

def isqrt (n : Nat) : Nat :=
  if n = 0 then 0 else isqrtGo (Nat.log2 n + 2) n (2 ^ (Nat.log2 n / 2 + 1))

/-- An integer that rounds as `√(num × 2^(2k))` does at any precision below its own: the floor of the root, doubled, with
the low bit set when the root is not exact. -/
def stickyRoot (n : Nat) : Nat :=
  let r := isqrt n
  2 * r + (if r * r = n then 0 else 1)

/-- Correctly rounded square root (R200 SQRT). √−0 is −0, as IEEE 754 states. -/
def fp32SqrtRne (a : W32) : W32 :=
  if isNaN32 a then qnan32
  else if isZero32 a then a
  else if isNeg32 a then qnan32
  else if isInf32 a then a
  else
    -- a = I × 2^-149;  √(I × 2^151) × 2^-150 = √(I × 2^-149)
    fp32OfRat (Int.ofNat (stickyRoot ((int32Of a).natAbs * 2 ^ 151))) (2 ^ 151)

def fp32RcpRne (a : W32) : W32 := fp32DivRne one32 a

/-- Correctly rounded reciprocal square root (R200 RSQRT): RSQRT(+∞) = +0 and, as for √ of a zero, RSQRT(±0) = ±∞. -/
def fp32RsqrtRne (a : W32) : W32 :=
  if isNaN32 a then qnan32
  else if isZero32 a then withSign32 (isNeg32 a) 0x7F800000
  else if isNeg32 a then qnan32
  else if isInf32 a then pzero32
  else
    -- 1/√(I × 2^-149) = √(2^149 / I); with N = ⌊2^(149+400) / I⌋ the root is √N × 2^-200, sticky when inexact
    let i := (int32Of a).natAbs
    let n := 2 ^ 549 / i
    let r := isqrt n
    let sticky := if r * r = n ∧ 2 ^ 549 % i = 0 then 0 else 1
    fp32OfRat (Int.ofNat (2 * r + sticky)) (2 ^ 201)

/-! ### BF16 and FP64 -/

/-- BF16 to FP32, exact (R56, R61). -/
def bf16ToFp32 (x : W16) : W32 := x.setWidth 32 <<< 16

/-- FP32 to BF16 (R61): RNE, subnormals kept, overflow to ±∞, NaN to 0x7FC0 with the input's sign. -/
def fp32ToBf16 (x : W32) : W16 :=
  let s : Nat := if isNeg32 x then 0x8000 else 0
  if isNaN32 x then BitVec.ofNat 16 (0x7FC0 + s)
  else if isInf32 x then BitVec.ofNat 16 (0x7F80 + s)
  else BitVec.ofNat 16 (fmtBf16.roundCode (int32Of x).natAbs (2 ^ 149) + s)

def bf16IsNaN (x : W16) : Bool := decide (x.toNat % 0x8000 > 0x7F80)
def bf16IsInf (x : W16) : Bool := decide (x.toNat % 0x8000 = 0x7F80)
def bf16IsZero (x : W16) : Bool := decide (x.toNat % 0x8000 = 0)
def bf16Neg (x : W16) : Bool := x.msb
/-- Significand and exponent of a finite BF16 value (R118 step 3): value = sig × 2^(exp − 134). -/
def bf16SigExp (x : W16) : Nat × Nat :=
  let e := x.toNat / 128 % 256
  let m := x.toNat % 128
  if e ≥ 1 then (128 + m, e) else (m, 1)

def qnan64 : W64 := 0x7FF8000000000000#64
def pinf64 : W64 := 0x7FF0000000000000#64
def mag64 (x : W64) : Nat := x.toNat % 2 ^ 63
def isNaN64 (x : W64) : Bool := decide (mag64 x > 0x7FF0000000000000)
def isInf64 (x : W64) : Bool := decide (mag64 x = 0x7FF0000000000000)
def isFinite64 (x : W64) : Bool := decide (mag64 x < 0x7FF0000000000000)
def int64Of (x : W64) : Int :=
  let m := Int.ofNat (fmt64.codeMag (mag64 x))
  if x.msb then -m else m
def fp64OfRat (n : Int) (den : Nat) (zneg : Bool := false) : W64 :=
  let s : Nat := if n < 0 ∨ (n = 0 ∧ zneg = true) then 2 ^ 63 else 0
  if n = 0 then BitVec.ofNat 64 s else BitVec.ofNat 64 (s + fmt64.roundCode n.natAbs den)
/-- FP64 addition, RNE (R233). -/
def fp64AddRne (a b : W64) : W64 :=
  if isNaN64 a ∨ isNaN64 b then qnan64
  else if isInf64 a then (if isInf64 b ∧ a.msb ≠ b.msb then qnan64 else a)
  else if isInf64 b then b
  else fp64OfRat (int64Of a + int64Of b) (2 ^ 1074) (a.msb && b.msb)

/-- FP64 to FP32, RNE, with the NaN rule of R61. -/
def fp64ToFp32 (x : W64) : W32 :=
  if isNaN64 x then withSign32 x.msb 0x7FC00000
  else if isInf64 x then withSign32 x.msb 0x7F800000
  else fp32OfRat (int64Of x) (2 ^ 1074) x.msb

/-! ### Integers -/

/-- Wrap an integer into 32 bits (R199: results wrap). -/
def wrap32 (n : Int) : W32 := BitVec.ofInt 32 n

/-- FP32 to INT32: RNE, clamped, NaN to 0 (R199 CVT MOD 0). -/
def fp32ToInt32 (x : W32) : W32 :=
  if isNaN32 x then 0#32
  else if isInf32 x then (if isNeg32 x then 0x80000000#32 else 0x7FFFFFFF#32)
  else
    let v := rneDivInt (int32Of x) (2 ^ 149)
    if v < -(2 ^ 31) then 0x80000000#32 else if v > 2 ^ 31 - 1 then 0x7FFFFFFF#32 else wrap32 v

/-- INT32 to FP32, RNE (R199 CVT MOD 1). -/
def int32ToFp32 (x : W32) : W32 := fp32OfRat x.toInt 1

end Sys2Proof.Machine
end

