-- ==== Sys2Proof/Machine/Table.lean ====
section
/-! DEFINITION. Tables with one canonical form, and the byte-order, bit-field and list helpers that every operation
uses (R7). A table is a list of key and value pairs, keys strictly rising, that lists no entry equal to the table's
default; so equal tables are equal data. -/

namespace Sys2Proof.Machine

/-- A sparse table: keys strictly rising. What an unlisted key holds is the default each table's owner names. -/
abbrev Tbl (α : Type) := List (Nat × α)

/-- The entry listed at key `k`. -/
def tblFind {α : Type} : Tbl α → Nat → Option α
  | [], _ => none
  | (j, v) :: t, k => if j = k then some v else if k < j then none else tblFind t k

/-- The table with key `k` listed at `v`, or unlisted. -/
def tblPut {α : Type} : Tbl α → Nat → Option α → Tbl α
  | [], k, some v => [(k, v)]
  | [], _, none => []
  | (j, w) :: t, k, v =>
    if j = k then (match v with | some x => (k, x) :: t | none => t)
    else if k < j then (match v with | some x => (k, x) :: (j, w) :: t | none => (j, w) :: t)
    else (j, w) :: tblPut t k v

/-- What key `k` holds, under default `d`. -/
def tblGet {α : Type} (d : α) (t : Tbl α) (k : Nat) : α := (tblFind t k).getD d

/-- The table with key `k` holding `v`, under default `d`: a default value is not listed. -/
def tblSet {α : Type} [DecidableEq α] (d : α) (t : Tbl α) (k : Nat) (v : α) : Tbl α :=
  tblPut t k (if v = d then none else some v)

def tblModify {α : Type} [DecidableEq α] (d : α) (t : Tbl α) (k : Nat) (f : α → α) : Tbl α :=
  tblSet d t k (f (tblGet d t k))

/-- The canonical form: keys strictly rising, no entry equal to the default. -/
abbrev TblWf {α : Type} [DecidableEq α] (d : α) (t : Tbl α) : Prop :=
  t.Pairwise (fun a b => a.1 < b.1) ∧ ∀ e ∈ t, e.2 ≠ d

/-! ### Bit fields of registers and headers -/

/-- Bits `[lo + w − 1 : lo]` of a number. -/
def bitsOf (n lo w : Nat) : Nat := n / 2 ^ lo % 2 ^ w

/-- `n` with bits `[lo + w − 1 : lo]` replaced by `v`. -/
def putBits (n lo w v : Nat) : Nat :=
  n - bitsOf n lo w * 2 ^ lo + v % 2 ^ w * 2 ^ lo

def bitOf (n lo : Nat) : Bool := bitsOf n lo 1 == 1

/-- A counter field that holds at its all-ones value (R11). -/
def satAdd (w v k : Nat) : Nat := min (v + k) (2 ^ w - 1)

def b2n (b : Bool) : Nat := if b then 1 else 0

/-! ### Byte order: little-endian (R7) -/

def leNat : List Byte → Nat
  | [] => 0
  | b :: t => b.toNat + 256 * leNat t

def leBytes : Nat → Nat → List Byte
  | 0, _ => []
  | k + 1, n => BitVec.ofNat 8 n :: leBytes k (n / 256)

/-- `n` bytes from offset `o` of a list, missing bytes reading as zero. -/
def sliceB (l : List Byte) (o n : Nat) : List Byte :=
  let s := (l.drop o).take n
  s ++ List.replicate (n - s.length) 0#8

/-- The little-endian number of `n` bytes at offset `o`. -/
def leAt (l : List Byte) (o n : Nat) : Nat := leNat (sliceB l o n)

/-- `l` with the bytes from offset `o` replaced by `new`. -/
def spliceB (l : List Byte) (o : Nat) (new : List Byte) : List Byte :=
  let l' := l ++ List.replicate (o + new.length - l.length) 0#8
  l'.take o ++ new ++ l'.drop (o + new.length)

/-! ### Lists -/

/-- Consecutive pieces of `n` elements, the last one shorter. -/
def chunksGo {α : Type} : Nat → Nat → List α → List (List α)
  | 0, _, _ => []
  | _ + 1, _, [] => []
  | f + 1, n, a :: l => (a :: l.take (n - 1)) :: chunksGo f n (l.drop (n - 1))

def chunks {α : Type} (n : Nat) (l : List α) : List (List α) := chunksGo l.length n l

/-- Insertion sort by a `less or equal` test, stable. -/
def insertBy {α : Type} (le : α → α → Bool) (a : α) : List α → List α
  | [] => [a]
  | b :: t => if le a b then a :: b :: t else b :: insertBy le a t

def sortBy {α : Type} (le : α → α → Bool) : List α → List α
  | [] => []
  | a :: t => insertBy le a (sortBy le t)

def updAt {α : Type} (l : List α) (i : Nat) (f : α → α) : List α := l.modify i f

/-- `⌈a / b⌉`. -/
def ceilDiv (a b : Nat) : Nat := (a + b - 1) / b

def roundUp (a b : Nat) : Nat := ceilDiv a b * b

/-- The least `k` with `2^k ≥ n`. -/
def clog2 (n : Nat) : Nat := if n ≤ 1 then 0 else Nat.log2 (n - 1) + 1

/-- The list with repeats removed, first occurrences kept. -/
def dedupNat (l : List Nat) : List Nat := l.foldl (fun acc n => if acc.contains n then acc else acc ++ [n]) []

/-! ### CRC-32C (R288): the Castagnoli polynomial, reflected, initial value and final complement all ones. -/

def crcStep : Nat → Nat → Nat
  | 0, r => r
  | k + 1, r => crcStep k (if r % 2 = 1 then Nat.xor (r / 2) 0x82F63B78 else r / 2)

def crc32c (l : List Byte) : Nat :=
  Nat.xor (l.foldl (fun r b => crcStep 8 (Nat.xor r b.toNat)) 0xFFFFFFFF) 0xFFFFFFFF

end Sys2Proof.Machine
end

