-- ==== Sys2Proof/Machine/State.lean ====
section
/-! DEFINITION. The state of the block as plain data: every register, memory, queue, counter, mode and pin that the spec
gives it, and the queue of commands that wait. Tables list only what differs from their default (Table.lean). -/

namespace Sys2Proof.Machine

/-- Faults. The block stops with none: every access the spec forbids is answered by a status, an error cause or a discarded
access, and the machine goes on. The one constructor keeps the type closed. -/
inductive Fault where
  /-- Raised by no meaning of this model. -/
  | none
  deriving DecidableEq, Repr

/-- Refusals. -/
inductive Refusal where
  /-- Answered by a dispatch arm whose command has no meaning yet. Safe: nothing is claimed of the command. -/
  | notModelled (mnemonic : String)
  deriving DecidableEq, Repr

/-! ### Memory -/

/-- The canonical form of memory: addresses strictly rising, and no byte listed that equals what an unlisted address reads as
(0: R289 for memory that zeroing has passed over; log 15 for the rest). -/
abbrev Memory.wf (mem : List Host.Cell) : Prop := TblWf (0 : Byte) mem

/-- What stands beside each 256-byte unit of HBM, of a local memory or of a cushion cache (R269, R288, R298): the poison
mark, the pad-epoch tag and one WRITTEN bit per 64-byte sector. The CRC of R288 is a function of these and the data. -/
structure UnitMeta where
  poison  : Bool
  tag     : Nat
  written : Nat
  deriving DecidableEq, Repr

/-- A unit as zeroing leaves it (R289). -/
def UnitMeta.zero : UnitMeta := ⟨false, 0, 0⟩

/-- One byte to be written: its value, whether it carries poison, whether it is a pad element's (R267), and under a pad
element's byte the value and poison of an earlier data element of the command at the same place (R263). -/
structure WByte where
  val    : Byte
  poison : Bool
  pad    : Bool
  under  : Option (Byte × Bool) := none
  deriving DecidableEq, Repr

/-- Bytes to be written by one access, by key; the later of two writes to a key stands. -/
abbrev WSet := Tbl WByte

/-- A physical upset that waits in a unit until it is read (R298, R299): how many of the next reads fail their check, and
whether the failure is an uncorrectable indication of the stack rather than a CRC mismatch; in an on-chip memory, one
failing read is a single-bit error and two a double-bit error. -/
structure Upset where
  reads : Nat
  stack : Bool
  deriving DecidableEq, Repr

def Upset.zero : Upset := ⟨0, false⟩

/-- A word of a sequencer's state that is uncorrectable in one copy or in both (R401), waiting until the sequencer reads
it: the queue by its number (`qNum`), the word, and which copies fail. -/
structure SeqUpset where
  queue : Nat
  word  : Nat
  copy0 : Bool
  copy1 : Bool
  deriving DecidableEq, Repr

/-! ### Queues -/

/-- What an issued command waits for before it may complete. -/
inductive WaitFor where
  | done
  | epoch (e : Nat)
  | barrier (e : Nat)
  | settle                 -- a COMMIT that waits for its partitions, or a command that waits for drains
  | remote (tags : List Nat)
  | test
  | vector
  | repeats                -- a LAYER_CHECK whose repeats wait for a slot (R190)
  deriving DecidableEq, Repr

/-- An entry that has issued and has no record yet, or one that is halted: its count, opcode, outcome and what its header
asks at completion. -/
structure Issued where
  n       : W32
  opcode  : Nat
  flags   : Nat
  signal  : Nat
  tag     : Nat
  param   : Nat            -- parameter byte 32, for FENCE
  status  : Nat
  detail  : Nat
  resumed : Bool
  waits   : WaitFor
  deriving DecidableEq, Repr

/-- Which entries of a queue have passed a point: all before `floor`, and those of `ahead`. -/
structure Seen where
  floor : W32
  ahead : List W32
  deriving DecidableEq, Repr

/-- A queue (R308, R309). -/
structure QueueSt where
  tail   : W32
  issued : Seen
  record : Seen
  live   : List Issued
  halted : List Issued
  redo   : List W32        -- halted entries that RESUME has exposed again
  again  : List Issued     -- entries that RETRACT has exposed again (R394)
  deriving DecidableEq, Repr

def QueueSt.empty : QueueSt := ⟨0, ⟨0, []⟩, ⟨0, []⟩, [], [], [], []⟩

/-! ### Fronds -/

/-- The states of a rhizome slot (R167). An ACTIVE slot names the frond queue's entry that fills it, and its HOLD. -/
inductive SlotState where
  | empty
  | active (n : W32) (hold : Bool)
  | done
  | held
  deriving DecidableEq, Repr

/-- What names an output tensor in a slot's record (R166): MATMUL names no output, so the layer, the GEMM and the output's
extents do (log 21). -/
structure OutId where
  layer : Nat
  gemm  : Nat
  rows  : Nat
  cols  : Nat
  deriving DecidableEq, Repr

/-- A rhizome slot (R166): its record and its 1,024 entries in row order. `segTo` is the last segment it covers (R184). -/
structure SlotSt where
  state  : SlotState
  out    : OutId
  m      : Nat
  n      : Nat
  seg    : Nat
  segTo  : Nat
  sa     : W32
  sb     : W32
  use    : Nat
  poison : Bool
  vals   : List W32
  deriving DecidableEq, Repr

def SlotSt.empty : SlotSt := ⟨.empty, ⟨0, 0, 0, 0⟩, 0, 0, 0, 0, 0, 0, 0, false, []⟩

/-- A descriptor as R249 and R250 lay it out. `ext` and `str` have six entries; `dims` counts the dimensions; `resv` says
that every reserved field is zero. -/
structure Desc where
  fam    : Nat
  width  : Nat
  dims   : Nat
  blk    : Nat
  split  : Nat
  space  : Nat
  oob    : Nat
  overlap : Bool
  halo   : Bool
  budget : Nat
  rot    : Nat
  wcopy  : Bool
  group  : Nat
  ext    : List Nat
  str    : List Int
  seed   : Nat
  baseE  : Nat
  baseM  : Nat
  baseX  : Nat
  baseG  : Nat
  slot   : Nat
  pad    : W32
  padLo  : List Nat
  padHi  : List Nat
  shard  : Nat
  resv   : Bool
  deriving DecidableEq, Repr

/-- A pinnule program (R197). -/
structure Prog where
  regs   : Nat
  strict : Bool
  code   : List W64
  deriving DecidableEq, Repr

/-- A handle's binding and the frond queue's entry that made it (R197). The latest binding of a handle before a command is
the one that the command names. -/
structure Binding where
  handle : Nat
  n      : W32
  prog   : Prog
  deriving DecidableEq, Repr

/-- A lane of the resident chunks: the chunk and lane number, the element's linear index among the local elements (R276), its row
and its position in the row, its registers, its predicates K0 to K7 as bits, and whether its last load of IN0 was supplied as
padding (R267; log 113). -/
structure Lane where
  chunk : Nat
  lane  : Nat
  elem  : Nat
  row   : Nat
  col   : Nat
  regs  : List W32
  preds : Nat
  pad   : Bool := false
  deriving DecidableEq, Repr

/-- A vector fault (R210). Cause 1 is LD_BOUNDS, 2 PERM_STRICT. -/
structure VecFault where
  chunk : Nat
  lane  : Nat
  pc    : Nat
  cause : Nat
  deriving DecidableEq, Repr

/-- A value that an ST has given to an output: slot, element index, chunk, value, and whether it is a pad element (R267). -/
structure VStore where
  slot  : Nat
  elem  : Nat
  chunk : Nat
  val   : W32
  pad   : Bool := false
  deriving DecidableEq, Repr

/-- What a program runs with: its operands with the tensor scales read at issue, the outputs it has and which of them are
quantised, its vectors, scalars and SEED, the clip factor at IN1 (R226), the local extents, OUT0 and OUT1 as read at issue
(R248), and, for an update pass, the rows of a panel (R228; 0 for a VECTOR_RUN). -/
structure VCfg where
  prog    : Prog
  ins     : List (Option (Desc × W32))
  have_   : List Bool
  quant   : List Bool
  vrows   : List (Option Desc)
  vcols   : List (Option Desc)
  scalars : List W32
  seed    : W64
  clip    : W32
  ext     : List Nat
  outs    : List (Option Desc)
  panel   : Nat
  deriving DecidableEq, Repr

/-- A program in execution: the entry it belongs to, the rows still to come, the resident lanes and the next instruction,
with the stores, faults, poisoned chunks, blocks read and invalid groups so far, the units read and issue cycles taken, and the
draw of its free values. -/
structure VRun where
  q       : QueueId
  n       : W32
  mb      : Nat
  entry   : List Byte
  cfg     : VCfg
  draw    : Nat
  next    : Nat            -- the first row not yet resident
  lanes   : List Lane
  pc      : Nat
  stores  : List VStore
  faults  : List VecFault
  poisoned : List Nat      -- chunks that loaded poisoned bytes
  blocks  : List (Nat × Nat)
  groups  : List (Nat × Nat)
  units   : List Nat := []
  cycles  : Nat := 0
  deriving DecidableEq, Repr

/-- Clock and power gating of a frond (R37, R531). -/
inductive Gate where
  | awake | clock | power
  deriving DecidableEq, Repr

/-- An event-log record as the units form it (R476): all but SEQ, which the log gives it. -/
structure LogRec where
  type     : Nat
  ticks    : Nat
  boot     : Nat
  source   : Nat
  part     : Option Nat
  severity : Nat
  lost     : Bool
  unitNo   : Nat
  payload  : List Byte
  deriving DecidableEq, Repr

/-- A frond. -/
structure FrondSt where
  slots   : Tbl SlotSt
  progs   : List Binding
  vrun    : Option VRun
  gate    : Gate
  idleAt  : Nat            -- counter value when its last command completed
  seqLog  : List LogRec    -- records that wait for its mailbox channel (R489), at most 4
  lockstep : Option (W32 × Bool)  -- a mismatch awaiting its repeat (R407): the queue position, and whether it is the pair's
  deriving DecidableEq, Repr

def FrondSt.empty : FrondSt := ⟨[], [], none, .awake, 0, [], none⟩

/-! ### Partitions -/

/-- The states of a partition (R320). -/
inductive PartState where
  | idle | loaded | running | draining | test | faulted
  deriving DecidableEq, Repr

/-- A scale history (R71, R90). `entries` is oldest first. -/
structure HistSt where
  entries : List W32
  ovf     : Bool
  warm    : Nat            -- warm-up steps that remain (R92)
  step    : Nat
  head    : Nat            -- the index that the next append writes (R90)
  deriving DecidableEq, Repr

def HistSt.empty : HistSt := ⟨[], false, 0, 0, 0⟩

/-- A JIT scale table entry (R572). -/
structure JitEntry where
  slot  : Nat
  baseM : Nat
  st    : W32
  deriving DecidableEq, Repr

/-- An entry of a scale set (R73). -/
structure ScaleEntry where
  st  : W32
  jit : Bool
  deriving DecidableEq, Repr

/-- A forward-copy slot of a rollout (R31): the version it holds, the scale set that came with it, and the bytes of INCOMING by
the address that they take in the receive region. ACTIVE's bytes stand in the region itself (log 103). -/
structure CopySt where
  version  : Nat
  complete : Bool
  scales   : Tbl ScaleEntry
  cells    : WSet
  deriving DecidableEq, Repr

/-- What the ladder keeps of a layer and pass in a step (R138, R147): how far its slots were raised, its counts, whether a
check has added the copy header's counts, the micro-batches added, and whether it fell back, was spill-full or stood in a
storm (R160). -/
structure LayerSt where
  bump    : Nat
  q       : Nat
  t       : Nat
  copyIn  : Bool
  added   : List Nat
  fell    : Bool
  spillFull : Bool
  stormed : Bool
  deriving DecidableEq, Repr

def LayerSt.zero : LayerSt := ⟨0, 0, 0, false, [], false, false, false⟩

/-- What one command quantised into a slot for one micro-batch in the present step: blocks and troubled blocks. -/
structure MbCount where
  slot : Nat
  mb   : Nat
  q    : Nat
  t    : Nat
  queue : Nat
  n    : W32
  deriving DecidableEq, Repr

/-- A command of the present step, kept so that the ladder and RETRACT can repeat it (R149, R394). -/
structure CmdRec where
  q     : QueueId
  n     : W32
  mb    : Nat
  entry : List Byte
  deriving DecidableEq, Repr

/-- The rung at which a layer's outputs of a micro-batch and pass were last written (R244). -/
structure MbRung where
  layer : Nat
  mb    : Nat
  pass  : Nat
  bump  : Nat
  deriving DecidableEq, Repr

/-- Where an operand of a fallen-back layer lies now (R149, R152): the slot and BASE_M it replaces, its rung, its planes and
copy header in the widening reserve or, under a storm, in the STORM_FOOTPRINT area, and the tensor scale it was quantised with. -/
structure Reloc where
  slot  : Nat
  baseM : Nat
  rung  : Nat
  elems : Nat
  metas : Nat
  epis  : Nat
  head  : Nat
  st    : W32
  storm : Bool
  deriving DecidableEq, Repr

/-- The repeats of a fall-back that wait for a slot (R190): the check's queue and position and its layer, the commands still to
run, the outputs they rebuild, the slots that they fill, and those of them that stand EMPTY again at the end. -/
structure RepeatSt where
  q     : QueueId
  n     : W32
  layer : Nat
  cmds  : List CmdRec
  outs  : List OutId
  fills : List (Nat × Nat)
  empty : List (Nat × Nat)
  deriving DecidableEq, Repr

/-- A command's place in step order (R312): STEP_ORDER, queue number, queue position. -/
structure OrderKey where
  order : Nat
  queue : Nat
  n     : Nat
  deriving DecidableEq, Repr

/-- A storm (R153): the check that started it and that check's layer and pass. -/
structure StormSt where
  key   : OrderKey
  layer : Nat
  pass  : Nat
  deriving DecidableEq, Repr

/-- What a step has computed for one weight tensor (R226 to R238): the norms in FP64, whether its gradient or output was
non-finite, and what has been emitted. -/
structure TensorStep where
  updated  : Bool
  epoch    : Nat
  w2       : W64
  u2       : W64
  g2       : W64
  g2Shard  : W64
  clip     : W32
  nonfinite : Bool
  nonfinOut : Bool
  masked   : Bool
  index    : Nat           -- SHARD and SHARDS of the norm record (R237)
  shards   : Nat
  deriving DecidableEq, Repr

def TensorStep.zero : TensorStep := ⟨false, 0, 0, 0, 0, 0, 0, false, false, false, 0, 0⟩

/-- A drain destination (R241): the buddy, the rollouts that a multicast group reaches, or the checkpoint. -/
inductive DrainDest where
  | buddy
  | rollout (group : Nat)
  | checkpoint
  deriving DecidableEq, Repr

/-- A destination's part of a drain: tensors still to go, receivers that have still to answer (R359), since when the present
tensor waits, whether it was given up, and the bytes and records sent so far. -/
structure DestSt where
  dest    : DrainDest
  waiting : List Nat
  await   : List Nat
  since   : Nat
  gaveUp  : Bool
  refused : Bool           -- a write of the present tensor was refused or not answered, so it is never accepted
  sent    : Nat
  records : Nat
  deriving DecidableEq, Repr

/-- A scale snapshot (R222): the histories and the scale set at the commit that produced a set. -/
structure Snapshot where
  hist   : Tbl HistSt
  scales : Tbl ScaleEntry
  norms  : List Byte       -- the norm records of that commit
  deriving DecidableEq, Repr

def Snapshot.empty : Snapshot := ⟨[], [], []⟩

/-- The drain of a PEAT set (R241): its version, whether it is a checkpoint, and the tensors whose sets the commit replaced. -/
structure DrainSt where
  version : Nat
  ckpt    : Bool
  flipped : List Nat
  dests   : List DestSt
  deriving DecidableEq, Repr

/-! ### Reductions -/

/-- A BFX32 block (R365). -/
structure Bfx where
  m       : List Int
  exp     : Nat
  flags   : Nat
  residue : Nat
  pass    : Nat
  block   : Nat
  count   : Nat
  deriving DecidableEq, Repr

/-- A block that this member has received or formed as a root (R374): its sender, whether it came from a backup, belongs to
the sample's adder context (R390) or is the running sum of a chain. -/
structure Contrib where
  tensor : Nat
  pass   : Nat
  member : Nat
  bfx    : Bfx
  backup : Bool
  sample : Bool
  chain  : Bool
  deriving DecidableEq, Repr

/-- One frond's retained contribution to one block (R396): for each source its 16 elements and the keys of their bytes, and
whether the sources themselves are the retention. -/
structure Retained where
  tensor  : Nat
  block   : Nat
  frond   : Nat
  inPlace : Bool
  vals    : List (List W32)
  keys    : List (List (Option Nat))
  poison  : Bool
  deriving DecidableEq, Repr

/-- A deadline that runs at a colony root (R386). -/
structure Deadline where
  member : Nat
  block  : Nat
  pass   : Nat
  since  : Nat
  deriving DecidableEq, Repr

/-- What a backup has been asked to send (R387): the blocks, and the root that asked. -/
structure BackupAsk where
  block : Nat
  pass  : Nat
  dev   : Nat
  part  : Nat
  deriving DecidableEq, Repr

/-- An accumulator of squares in units of 2^-298 (R231), with what an infinite or NaN term makes of it. -/
structure NormAcc where
  sum : Nat
  inf : Bool
  nan : Bool
  deriving DecidableEq, Repr

def NormAcc.zero : NormAcc := ⟨0, false, false⟩

/-- A tensor that RED_TENSOR has declared (R379). `me` is this member's index in the group, or its primary's at a backup. -/
structure RedTensor where
  tensor   : Nat
  group    : Nat
  axis     : Nat
  scatter  : Bool          -- KIND REDUCE_SCATTER
  desc     : Desc          -- RESULT
  contribs : Nat
  me       : Nat
  backup   : Bool
  exp0     : Nat           -- the agreed exponent (R371)
  passes   : Tbl Nat       -- the present pass by block
  started  : List (Nat × Nat)   -- blocks and passes whose level-2 result has been formed
  written  : List Nat      -- result blocks written
  g2       : NormAcc       -- own shard's G2 (R232)
  norms    : Tbl W64       -- shard G2 by member index (R233)
  armed    : List Deadline
  asks     : List BackupAsk
  deriving DecidableEq, Repr

/-- An open epoch (R392 to R397). -/
structure EpochSt where
  epoch    : Nat
  attempt  : Nat
  closed   : Option Nat    -- the count that RED_CLOSE stated
  since    : Nat           -- when its present time limit began (R395)
  asked    : Bool          -- RED_GIVEUP has sent RETRACT_REQ
  tensors  : List RedTensor
  retained : List Retained
  recvd    : List Contrib
  finals   : List Contrib  -- a block root's results that await the sample's (R390)
  oks      : List (Nat × Nat × Nat)   -- leader: member index, TENSORS, BLOCKS
  bad      : Bool          -- a check at this member has failed in this attempt
  sentOk   : Bool
  answered : Bool          -- leader: CONFIRM or RETRACT sent for this attempt
  used     : Nat           -- bytes in the retention region
  backed   : List Nat      -- tensors with a block taken from a backup
  deriving DecidableEq, Repr

/-- The G2 of a confirmed epoch's tensor (R233, R234), with the shard index and count, and what R397 makes of a command that
names the epoch: it was retracted, a block of the tensor came from a backup. -/
structure G2Rec where
  epoch  : Nat
  tensor : Nat
  g2     : W64
  shard  : W64
  index  : Nat
  shards : Nat
  retracted : Bool
  backed : Bool
  deriving DecidableEq, Repr

/-- A partition. -/
structure PartSt where
  state    : PartState
  fault    : Nat           -- FAULT_STATUS
  padEpoch : Nat
  active   : Option CopySt
  incoming : Option CopySt
  hist     : Tbl HistSt
  amax     : Tbl W32       -- a_n of the present step, by slot
  ovf      : List Nat      -- slots with an overflow in the present step
  nextAmax : Tbl W32       -- the same of the copies emitted for the next step (R230)
  nextOvf  : List Nat
  nextScales : Tbl ScaleEntry   -- scales of those copies, written into the scale set at the commit
  rebias   : List Nat      -- copies that start with bias 0 at the next update pass (R106): tensor × 2 + side
  scales   : Tbl ScaleEntry
  jit      : List JitEntry
  select   : Tbl Nat       -- ACTIVE set by tensor; 0 is SET0
  steps    : Tbl TensorStep
  layers   : Tbl LayerSt   -- by layer × 2 + pass
  counts   : List MbCount
  storm    : Option StormSt
  stormSlots : List Nat    -- slots quantised under the storm (R155)
  used     : Nat           -- bytes of the widening reserve allocated
  relocAt  : Nat           -- where the next widened operand goes, from the base of the reserve
  stormAt  : Nat           -- the same in the STORM_FOOTPRINT area
  mbRungs  : List MbRung
  cmds     : List CmdRec
  relocs   : List Reloc
  traceAt  : Nat           -- entries written to the rung trace
  normAt   : Nat           -- entries written to the norm ring
  epochs   : List EpochSt
  early    : List Msg      -- reduction messages of tensors not declared yet
  g2s      : List G2Rec
  lastG2   : Tbl W64       -- the G2 of the latest norm record whose G2 is finite and non-zero (R371)
  lastConf : Option Nat    -- the last confirmed epoch
  drain    : Option DrainSt
  version  : Nat           -- the version of the ACTIVE set
  snap     : Snapshot      -- the ACTIVE set's
  peatSnap : Snapshot
  traces   : List (List Byte)   -- rung-trace entries since the previous checkpoint
  ckptTraces : List (List Byte) -- those of the checkpoint being drained
  buddyEnd : Tbl Nat       -- where the END record of a buddy slot lies
  accepted : Nat           -- accepted commits since load (ROLLOUT_EVERY)
  commitAt : List Nat      -- counter at the last two STEP_COMMIT completions
  served   : List DrainDest     -- destinations that have had the frozen tensors since load (R224)
  bias0    : Tbl Nat       -- the stored bias, by metadata key, of each weight block that commands quantised in the step (R86)
  altScales : Tbl ScaleEntry    -- scales of the copies in the alternate sets, by slot
  repeats  : Option RepeatSt
  stepFrom : Nat           -- the first epoch that may belong to the present step (R234)
  deriving DecidableEq, Repr

def PartSt.idle : PartSt where
  state := .idle
  fault := 0
  padEpoch := 0
  active := none
  incoming := none
  hist := []
  amax := []
  ovf := []
  nextAmax := []
  nextOvf := []
  nextScales := []
  rebias := []
  scales := []
  jit := []
  select := []
  steps := []
  layers := []
  counts := []
  storm := none
  stormSlots := []
  used := 0
  relocAt := 0
  stormAt := 0
  mbRungs := []
  cmds := []
  relocs := []
  traceAt := 0
  normAt := 0
  epochs := []
  early := []
  g2s := []
  lastG2 := []
  lastConf := none
  drain := none
  version := 0
  snap := Snapshot.empty
  peatSnap := Snapshot.empty
  traces := []
  ckptTraces := []
  buddyEnd := []
  accepted := 0
  commitAt := []
  served := []
  bias0 := []
  altScales := []
  repeats := none
  stepFrom := 0

/-! ### Ports -/

/-- The states of a port (R330). -/
inductive PortState where
  | down | train | ident | up | failed
  deriving DecidableEq, Repr

/-- A route other than R351's: none, by way of a colony member, or on a slot other than the primary's (R390). -/
inductive Detour where
  | none
  | member (m : Nat)
  | otherSlot
  deriving DecidableEq, Repr

/-- A message that waits to be sent: virtual channel, hop class, message and route. -/
structure OutMsg where
  vc  : Nat
  hc  : Nat
  msg : Msg
  way : Detour := .none
  deriving DecidableEq, Repr

/-- A flit kept in the replay buffer: its sequence number and its bytes with the link header as first sent. -/
structure KeptFlit where
  seq   : Nat
  bytes : List Byte
  deriving DecidableEq, Repr

/-- A port. Credits and streams are keyed by VC × 3 + hop class. -/
structure PortSt where
  state     : PortState
  fails     : Nat          -- failed training attempts
  since     : Nat          -- counter at entry into IDENT
  seq       : Nat          -- next sequence number sent
  expect    : Nat          -- E
  nak       : Bool         -- NAK_PENDING
  replay    : List KeptFlit
  resend    : Option Nat   -- the sequence number that a replay has reached
  replays   : Nat          -- consecutive replays without progress
  credits   : Tbl Nat      -- credits to send, granted less used
  granted   : Tbl Nat      -- total credits granted by the partner since UP
  released  : Tbl Nat      -- total credits this receiver has released since UP
  creditAt  : Nat          -- the pair whose credit return went out last
  partials  : Tbl (List Byte)   -- received bytes not yet a whole message
  partialPoison : Tbl (List Bool)  -- of each of those bytes, whether it came in a POISON flit
  inbox     : List OutMsg
  txq       : List OutMsg
  txBytes   : Tbl (List (Byte × Bool × Bool))  -- bytes being sent: byte, poison, first byte of a message
  ctlq      : List (List Byte)  -- CONTROL flit bodies to send
  lastSent  : List Byte
  seenRx    : Bool         -- a valid IDENT has been received
  seenSeen  : Bool         -- one with SEEN = 1 has been received
  seenTx    : Bool         -- one with SEEN = 1 has been sent
  partnerCredits : List Nat
  partnerAddr : Option Nat
  partnerStipe : Bool
  hbmFree   : Bool
  nonce     : List Byte    -- the nonce sent in ATTEST_REQ
  report    : List Byte    -- fragments collected
  usable    : Bool         -- carries more than link-local messages
  link      : Option Nat   -- the remote colony of a global link that is a route candidate
  partLens  : Tbl (List Nat)    -- bytes still in the receive buffer of each flit of a stream, oldest first
  reported  : Tbl Nat      -- releases that a credit return has stated
  nakSend   : Bool         -- a replay request goes out on the next flit
  wrr       : Nat × Nat    -- the VC that R343's round robin serves, and the flits it may still send
  announce  : List Byte    -- the payload of the last ANNOUNCE received, none yet if empty
  recent    : List Bool    -- of the last 1,024 flits, newest first: whether a CONTROL VC took it and another was ready
  alloc     : List Nat     -- VC_CREDITS as they stood at the entry into IDENT (R441)
  deriving DecidableEq, Repr

def PortSt.down : PortSt :=
  ⟨.down, 0, 0, 0, 0, false, [], none, 0, [], [], [], 0, [], [], [], [], [], [], [], false, false, false, [], none, false,
   false, [], [], false, none, [], [], false, (0, 0), [], [], []⟩

/-! ### Fabric -/

/-- A remote transaction or control request that waits for its response (R357, R570). -/
structure Txn where
  tag   : Nat
  dst   : Nat
  vc    : Nat
  since : Nat
  kind  : Nat              -- 0 write, 1 read, 2 control write, 3 control read, 4 buddy drain, 5 checkpoint drain, 6 restore, 7 copy
  part  : Nat
  key   : Nat              -- where a read's data goes
  len   : Nat
  deriving DecidableEq, Repr

/-- The state of gossip (R460, R461). -/
structure GossipSt where
  run     : Nat
  round   : Nat
  since   : Nat
  links   : List (Nat × Nat × Nat × Nat × Bool)   -- colony, member, global port, remote colony, UP
  sets    : Tbl Nat        -- direct reach of a colony, as a 256-bit map
  ports   : List Nat       -- ports that the round still waits for
  got     : List (Nat × Nat × Nat × Nat)           -- port, run, round and fragment received
  done    : Bool           -- round 6 of the run is complete
  want    : Bool           -- a run that this device is to start
  seen    : Nat            -- the highest run seen
  deriving DecidableEq, Repr

/-- A join of a barrier as received (R463): sender, level, count and digest. -/
structure JoinMsg where
  src    : Nat
  level  : Nat
  count  : Nat
  digest : Nat
  deriving DecidableEq, Repr

/-- A fabric barrier (R463, R464), from the first join received or this device's own: epoch (0 for the fabric-ready
barrier), participants' addresses, and the joins held. -/
structure BarrierSt where
  epoch   : Nat
  joined  : Bool
  group   : Nat
  members : List Nat
  digest  : Nat
  joins   : List JoinMsg
  sentUp  : Bool
  since   : Nat
  deriving DecidableEq, Repr

/-- A multicast copy being received (R358, R359): the payload bytes written so far, by their address in the region. -/
structure McastRx where
  group : Nat
  bytes : Nat
  cells : WSet
  deriving DecidableEq, Repr

/-- A host request under way (R362): its tag, the transactions still unanswered, and for a read the data by transaction; and
what a failed write's record names. -/
structure HostOp where
  tag    : Nat
  write  : Bool
  left   : List Nat
  data   : List (Nat × List Byte)
  failed : Bool
  poison : Bool
  deriving DecidableEq, Repr

/-- Shared fabric state: the address, sequence counts, transactions, gossip and barriers. -/
structure FabricSt where
  addr     : Option Nat    -- colony × 16 + member
  outq     : List OutMsg   -- messages of this device's own that wait for a port
  selfq    : List (Nat × Msg)   -- reduction messages between members on this device, with the receiving partition
  seqno    : Tbl Nat       -- SEQNO by destination × 16 + VC
  txns     : List Txn
  nextTag  : Nat
  gossip   : GossipSt
  barriers : List BarrierSt
  seqIn    : Tbl Nat       -- the SEQNO expected next by destination, source and VC (R352)
  mcast    : List McastRx
  mcastSent : List (Nat × Nat × List Nat)  -- group, version, receivers that have answered
  landNext : Tbl Nat       -- next offset expected per member (R363)
  heldAcks : List (Nat × Nat × OutMsg)     -- WRITE_ACKs withheld: member, LEN of the payload, message
  hostDone : List (Nat × Nat × List Byte)  -- host reads answered: tag; 0 data, 1 Completer Abort, 2 Unsupported Request,
                                           -- 3 poisoned data
  hostQ    : List OutMsg                   -- host messages that keep their order (R362)
  dma      : List (Nat × List Byte × Bool) -- writes to host memory made by DMA: host address, bytes, poisoned
  hostOps  : List HostOp
  serials  : Tbl Nat       -- stipe SERIAL announced, by colony
  deriving DecidableEq, Repr

def FabricSt.empty : FabricSt :=
  ⟨none, [], [], [], [], 0, ⟨0, 0, 0, [], [], [], [], false, false, 0⟩, [], [], [], [], [], [], [], [], [], [], []⟩

/-! ### Configuration, flash and management -/

/-- An image in the configuration store (R435, R436). -/
structure StoredImage where
  delta   : Bool
  imageId : Nat
  secVer  : Nat
  digest  : List Byte
  manifest : List Byte     -- the bytes of its MANIFEST section (R421)
  cfg     : ImageCfg
  deriving DecidableEq, Repr

/-- A firmware slot (R481, R482): VERSION, SECURITY_VERSION, state, TRIES and the digest of the image, none for the image that
the device was made with. -/
structure FwSlot where
  version : Nat
  sec     : Nat
  state   : Nat
  tries   : Nat
  sum     : Option (List Byte)
  deriving DecidableEq, Repr

/-- A cushion's entry of the floorplan record (R432, R433). -/
structure FloorCushion where
  map    : Nat
  status : Nat
  deriving DecidableEq, Repr

/-- The floorplan record (R432). -/
structure Floorplan where
  sequence : Nat
  serial   : Nat
  cushions : List FloorCushion
  retired  : List Nat      -- package granules
  deriving DecidableEq, Repr

/-- What secure flash holds. Physical fronds are numbered die × 156 + 13 × cushion-within-die + offset. -/
structure FlashSt where
  fpA       : Floorplan
  fpB       : Floorplan
  fpCounter : Nat
  slotA     : FwSlot
  slotB     : FwSlot
  imageCtr  : Nat          -- image anti-rollback counter (R506)
  fwCtr     : Nat
  image     : Option StoredImage   -- the configuration slot
  hostMode  : Option Bool  -- the retained copy of HOST_MODE (R448)
  log       : Tbl LogRec   -- records in flash by SEQ
  logNext   : Nat          -- SEQ of the next record
  erased    : Nat          -- erase blocks erased in all
  ages      : Tbl Nat      -- test age in seconds by physical frond, as last written to the ledger (R413)
  lastTest  : Tbl Nat
  powered   : Tbl Nat      -- seconds powered by physical frond (R497)
  boots     : Nat          -- entries into BOOT since manufacture
  opened    : Bool
  certified : Bool
  cert      : List Byte
  ownerKey  : Option (List Byte)
  enrol     : Nat          -- enrolment number of the identity (R501, R512)
  sealedAt  : Tbl (List Byte × List Byte × Nat)   -- sealed slots: secret, binding, counter
  deriving DecidableEq, Repr

def FloorCushion.made : FloorCushion := ⟨0xBA9876543210, 0⟩

/-- The floorplan record at manufacture (R433). -/
def Floorplan.made : Floorplan := ⟨1, 0, List.replicate 24 FloorCushion.made, []⟩

/-- Flash as manufactured (log 14): the floorplan record of R433 in both copies, slot A ACTIVE, no image, an empty log. -/
def FlashSt.made : FlashSt :=
  ⟨Floorplan.made, ⟨0, 0, [], []⟩, 1, ⟨1, 0, 4, 0, none⟩, ⟨0, 0, 0, 0, none⟩, 0, 0, none, none, [], 1, 0, [], [], [], 1, false, false, [],
   none, 1, []⟩

/-- The lichen core (R468, R470). -/
inductive LichenState where
  | asleep | waking | running | reset
  deriving DecidableEq, Repr

/-- A restore in progress (R422): what ANC_RESTORE_SRC and ANC_RESTORE_CTRL named, the bytes read so far from another device,
whether a read has failed, and the runs of those bytes that arrived poisoned (R301, R356), as offset and length. -/
structure RestoreSt where
  part   : Nat
  addr   : Nat
  remote : Bool
  dev    : Nat
  bytes  : List Byte
  failed : Bool
  bad    : List (Nat × Nat) := []
  deriving DecidableEq, Repr

/-- Management state. -/
structure MgmtSt where
  lichen    : LichenState
  halted    : Bool         -- halted by the debug port
  workAt    : Nat          -- counter when the core last had work
  fedAt     : Nat          -- counter when firmware last wrote the watchdog
  queue     : List LogRec  -- the log queue (R478)
  lostNext  : Bool
  mbxOrder  : List Nat     -- channels with a request pending, in the order of their GO writes
  frames    : Nat
  faulted   : List Nat     -- sensors in fault (R474): 0 to 239 thermal, 240 to 249 rails, 250 to 252 coolant
  calNext   : Nat
  serdesNext : Nat
  ledgerAt  : Nat
  fwBusy    : Option (Nat × Nat)   -- target slot and image address
  restore   : Option RestoreSt
  fwSlot    : Nat          -- the running firmware slot, 0 A, 1 B
  marks     : Tbl Nat      -- counter at the events of R466: 0 power-good, 1 last mesh port UP, 2 FAB_ASSIGN or first ANNOUNCE,
                           -- 3 stage 5 complete, 4 stage 7 complete
  testing   : List Nat     -- units under test: a physical frond, or 312 + a package cushion
  due       : List Nat     -- units due or scheduled for test
  trained   : Tbl Nat      -- failed training attempts by stack
  scrubAt   : Tbl Nat      -- next block by stack
  scrubSince : Tbl Nat     -- counter when the present or last pass over a stack began
  badBlocks : List Nat     -- HBM units poisoned since the last zeroing of their granule (R411)
  suspect   : List Nat     -- physical fronds
  badCushions : List Nat   -- cushions that failed their test and wait to be withdrawn (R415)
  pairs     : List Nat     -- physical fronds of pairs that await the test of R408
  zeroing   : List Nat     -- granules being zeroed
  verify    : Tbl Nat      -- the status of the failing stage of a partition with VERIFY_FAIL (R465)
  repairs   : List (Nat × List Byte)       -- repairs made on a stack in SERVICE
  tpShift   : Tbl (Nat × List W64)         -- bits shifted and words shifted in, by stack
  late      : List Nat     -- physical fronds whose age of 2 × TEST_PERIOD has been reported (R414)
  testFail  : List Nat     -- partitions in TEST with a failed unit
  deriving DecidableEq, Repr

def MgmtSt.reset : MgmtSt :=
  ⟨.asleep, false, 0, 0, [], false, [], 0, [], 0, 0, 0, none, none, 0, [], [], [], [], [], [], [], [], [], [], [], [], [], [], [],
   []⟩

/-! ### Security, debug and power -/

structure DebugSt where
  target : Nat
  wrData : W64
  rdData : W64
  done   : Bool
  error  : Bool
  nonce  : Option (List Byte)
  opened : Bool            -- the port is open
  writes : Nat             -- writes of words the spec gives no layout, a counter
  boundary : List Bool
  outputs : List Bool
  bypass : Bool
  tdo    : List Bool
  lichenBps : Tbl Nat      -- breakpoints of the lichen core by INDEX
  halted    : List Nat     -- halted sequencer pairs, by queue number (R514)
  bps       : Tbl Nat      -- breakpoints of the pairs by queue number × 4 + INDEX
  stepping  : List Nat     -- halted pairs that a STEP lets issue one command
  passBp    : Tbl Nat      -- the entry at which a breakpoint halted a pair: it issues once the pair runs
  deriving DecidableEq, Repr

def DebugSt.reset : DebugSt := ⟨0, 0, 0, false, false, none, false, 0, [], [], false, [], [], [], [], [], []⟩

/-- The governor and thermal state (chapter 20). Powers are in tenths of a watt. -/
structure PowerSt where
  windows   : List Nat     -- mean power of the last second's windows, newest first
  ceiling   : Nat
  floor     : Nat
  ballast   : Bool         -- ballast ran in the last window
  excRun    : Nat          -- consecutive windows above PWR_CAP (R523)
  excLeft   : Nat          -- windows at or below PWR_CAP that are still to come before the excursion rule ends
  warn      : Option (Nat × Nat)   -- THERM_WARN: the ceiling at entry, and the windows since
  critHold  : Bool
  lowSince  : Option Nat   -- counter when the ceiling under THERM_WARN came to 600 W (R527)
  hot       : Tbl Nat      -- consecutive samples at 110 °C or above, by die sensor
  therm     : Bool         -- a thermal sample has been taken
  inletBad  : Nat          -- consecutive samples with the inlet above its limit (R528)
  flowBad   : Nat
  coolGood  : Nat          -- consecutive samples within limits
  capped    : Bool         -- COOLANT_CAP is in force
  railBad   : Tbl Nat      -- consecutive bad samples by rail, and by 16 + group of stages
  stepWin   : List Nat     -- windows since the profile partition's last STEP_COMMIT, newest first
  lastStep  : Option (Nat × Nat)   -- the profile partition, and the counter at that STEP_COMMIT
  profile   : List Nat     -- 64 bins, each the sum of power × windows; the mean is this over `profLen`
  profLen   : Nat          -- windows between the two STEP_COMMITs of the profile
  pllOff    : List Nat     -- compute dies whose ACLK PLL is stopped
  dieIdleAt : Tbl Nat      -- counter when a die's last frond was power-gated
  deriving DecidableEq, Repr

/-- No partition owns a frond at an entry into BOOT: both dies are wholly power-gated (R18, R25). -/
def PowerSt.reset : PowerSt :=
  ⟨[], 0, 0, false, 0, 0, none, false, none, [], false, 0, 0, 0, false, [], [], none, [], 0, [], [(0, 0), (1, 0)]⟩

/-- The states of the device (R319). -/
inductive DevState where
  | off | standby | boot | ready | service
  deriving DecidableEq, Repr

/-- Input pins (R552 to R555) and the last value on the debug port's TDO. -/
structure Pins where
  aux33   : Bool
  in48    : Bool
  resetN  : Bool
  perstN  : Bool
  hostSel : Bool
  hostRefclk : Bool         -- HOST_REFCLK is driven (R556)
  deriving DecidableEq, Repr

/-- The shadow of one requester identity (R13, R543): the offset whose low half was read, and the high half then. -/
structure Shadow where
  req  : Requester
  off  : Nat
  high : W32
  deriving DecidableEq, Repr

/-- A CHECK's configuration store and the images in force. -/
structure CfgSt where
  committed : StoredImage
  staged    : Option StoredImage
  lastEpoch : Nat
  floor     : Floorplan
  floorOk   : Bool
  deriving DecidableEq, Repr

/-- The built-in image (R449): no partition and every setting at its default. -/
def StoredImage.builtIn : StoredImage := ⟨false, 0, 0, List.replicate 32 0#8, [], {}⟩

def CfgSt.reset : CfgSt := ⟨StoredImage.builtIn, none, 0, Floorplan.made, false⟩

/-- The state of the block. `free` counts the free values drawn so far (log 2). -/
structure State where
  pending  : List Instr
  free     : Nat
  dev      : DevState
  pins     : Pins
  island   : Bool          -- the always-on island is out of reset
  counter  : Nat           -- the local free-running counter (R23)
  regs     : Tbl W64
  lastRead : W64
  shadows  : List Shadow
  mem      : List Host.Cell
  units    : Tbl UnitMeta
  upsets   : Tbl Upset
  rhzUps   : Tbl Nat       -- rhizome slots (128·frond + slot) whose entries hold a single-bit (1) or double-bit (2) error (R402)
  seqUps   : List SeqUpset
  queues   : Tbl QueueSt
  fronds   : Tbl FrondSt
  parts    : Tbl PartSt
  ports    : Tbl PortSt
  fabric   : FabricSt
  cfg      : CfgSt
  flash    : FlashSt
  mgmt     : MgmtSt
  dbgPort  : DebugSt
  power    : PowerSt
  msix     : List Nat      -- MSI-X messages sent: vectors, oldest first
  stipe    : Bool          -- HOST_MODE is STIPE since the entry into BOOT (R441, R448)
  deriving DecidableEq, Repr

/-- The machine right after reset: the device at an entry into BOOT with every register at its reset value (R544), memory
with nothing listed, and flash as manufactured (log 14). -/
def State.reset : State where
  pending  := []
  free     := 0
  dev      := .boot
  pins     := ⟨true, true, true, true, false, true⟩
  island   := true
  counter  := 0
  regs     := []
  lastRead := 0
  shadows  := []
  mem      := []
  units    := []
  upsets   := []
  rhzUps   := []
  seqUps   := []
  queues   := []
  fronds   := []
  parts    := []
  ports    := []
  fabric   := FabricSt.empty
  cfg      := CfgSt.reset
  flash    := FlashSt.made
  mgmt     := MgmtSt.reset
  dbgPort  := DebugSt.reset
  power    := PowerSt.reset
  msix     := []
  stipe    := false

end Sys2Proof.Machine
end

