-- ==== Sys2Proof/Machine/Bfx.lean ====
section
/-! DEFINITION. BFX32 (R365 to R371): its blocks, their conversion, their exact addition and the agreed exponent; the exact
squared norms of R231. -/

namespace Sys2Proof.Machine

/-- The mantissa of the NaN element and the largest mantissa (R366). -/
def nanEl : Int := -(2 ^ 31)
def maxMant : Int := 2 ^ 31 - 1

/-- FLAGS bits (R365). -/
def bfNan : Nat := 0
def bfRescale : Nat := 1
def bfSat : Nat := 2
def bfPoison : Nat := 3
def bfSample : Nat := 4
def bfBackup : Nat := 5

def Bfx.flag (b : Bfx) (k : Nat) : Bool := bitOf b.flags k
def Bfx.setFlag (b : Bfx) (k : Nat) : Bfx := { b with flags := putBits b.flags k 1 1 }
def Bfx.clearFlag (b : Bfx) (k : Nat) : Bfx := { b with flags := putBits b.flags k 1 0 }

/-- RESIDUE (R366). -/
def residueOf (m : List Int) : Nat := ((m.filter (· != nanEl)).foldl (· + ·) 0 % 251).toNat

/-- R367: one element at exponent `e`, and whether it sets RESCALE. -/
def bfxElem (e : Nat) (x : W32) : Int × Bool :=
  if !isFinite32 x then (nanEl, false)
  else
    let m := if e ≤ 8 then int32Of x * 2 ^ (8 - e) else rneDivInt (int32Of x) (2 ^ (e - 8))
    if m > maxMant then (maxMant, true) else if m < -maxMant then (-maxMant, true) else (m, false)

/-- R367: 16 elements of block `b` at exponent `e`. -/
def bfxConvert (xs : List W32) (e pass b : Nat) (poison : Bool) : Bfx :=
  let l := xs.map (bfxElem e)
  let m := l.map (·.1)
  { m := m, exp := e, residue := residueOf m, pass := pass, block := b, count := 1
    flags := b2n (m.any (· == nanEl)) + 2 * b2n (l.any (·.2)) + 8 * b2n poison }

/-- One mantissa sum of R368, and whether it saturates. -/
def mantAdd (a b : Int) : Int × Bool :=
  if a = nanEl ∨ b = nanEl then (nanEl, false)
  else if a + b > maxMant then (maxMant, true)
  else if a + b < -maxMant then (-maxMant, true)
  else (a + b, false)

/-- R368. -/
def bfxAdd (within : Bool) (a b : Bfx) : Bfx :=
  let l := List.zipWith mantAdd a.m b.m
  let m := l.map (·.1)
  let flags := b2n (a.flag bfNan || b.flag bfNan || m.any (· == nanEl))
    + 2 * b2n (a.flag bfRescale || b.flag bfRescale || l.any (·.2)) + 8 * b2n (a.flag bfPoison || b.flag bfPoison)
  { m := m, exp := a.exp, flags := flags, pass := a.pass, block := a.block
    residue := if flags % 4 = 0 then (a.residue + b.residue) % 251 else residueOf m
    count := if within then 1 else a.count + b.count }

/-- One round of the pairwise rule (R201, R374). -/
def pairRound (within : Bool) : List Bfx → List Bfx
  | a :: b :: t => bfxAdd within a b :: pairRound within t
  | l => l

def pairwiseGo (within : Bool) : Nat → List Bfx → List Bfx
  | 0, l => l
  | k + 1, l => if l.length ≤ 1 then l else pairwiseGo within k (pairRound within l)

/-- The pairwise sum of a list (R374); none of an empty one. -/
def bfxPairwise (within : Bool) (l : List Bfx) : Option Bfx := (pairwiseGo within l.length l).head?

/-- The left-to-right sum of a list (levels 1 and 2 of R374). -/
def bfxFold (within : Bool) : List Bfx → Option Bfx
  | [] => none
  | a :: t => some (t.foldl (bfxAdd within) a)

/-- R369: one element of a result block. -/
def bfxValue (b : Bfx) (m : Int) : W32 :=
  if m = nanEl then qnan32
  else if b.flag bfSat && decide (m = maxMant) then pinf32
  else if b.flag bfSat && decide (m = -maxMant) then ninf32
  else fp32OfScaled m (Int.ofNat b.exp - 157)

def bfxBytes (b : Bfx) : List Byte :=
  (b.m.flatMap (fun m => leBytes 4 (BitVec.ofInt 32 m).toNat)) ++
  [BitVec.ofNat 8 b.exp, BitVec.ofNat 8 b.flags, BitVec.ofNat 8 b.residue, BitVec.ofNat 8 b.pass] ++
  leBytes 4 b.block ++ leBytes 2 b.count

def parseBfx (l : List Byte) : Bfx :=
  { m := (List.range 16).map (fun i => (BitVec.ofNat 32 (leAt l (4 * i) 4)).toInt)
    exp := leAt l 64 1, flags := leAt l 65 1, residue := leAt l 66 1, pass := leAt l 67 1
    block := leAt l 68 4, count := leAt l 72 2 }

/-- R390 and R388 compare bytes 0 to 73 with the SAMPLE and BACKUP bits left out. -/
def bfxSame (a b : Bfx) : Bool :=
  let strip (x : Bfx) : Bfx := (x.clearFlag bfSample).clearFlag bfBackup
  decide (strip a = strip b)

/-- A block with a wrong residue (R389): one without NAN or RESCALE. -/
def residueBad (b : Bfx) : Bool := !b.flag bfNan && !b.flag bfRescale && b.residue != residueOf b.m

/-- EXP₀ (R371) from the latest usable G2, if there is one. -/
def agreedExp (g : Option W64) (headroom : Nat) (initLog2 : Int) : Nat :=
  let k : Int := match g with
    | some v => (Int.ofNat (clog2 (int64Of v).toNat) - 1074 + 1) / 2
    | none => initLog2
  (max 1 (min 254 (k + Int.ofNat headroom + 126))).toNat

/-! ### Norms (R231) -/

/-- One more square. -/
def NormAcc.add (a : NormAcc) (x : W32) : NormAcc :=
  if isNaN32 x then { a with nan := true }
  else if isInf32 x then { a with inf := true }
  else { a with sum := a.sum + (int32Of x).natAbs ^ 2 }

/-- The shard value: rounded once to FP64 (R231). -/
def NormAcc.value (a : NormAcc) : W64 :=
  if a.nan then qnan64 else if a.inf then pinf64 else fp64OfRat (Int.ofNat a.sum) (2 ^ 298)

end Sys2Proof.Machine
end

