-- ==== Sys2Proof/Config.lean ====
section
/-! DEFINITION. The values the spec leaves open, each an opaque constant with no body: nothing in Lean can evaluate
one, so a statement about the model holds for every value of it. Each is named in a row of notes/assumptions/. -/

namespace Sys2Proof

/-- Free value (log 3): the contents of register `r` of the spore of element `e` of a VECTOR_RUN or UPDATE before the
program writes it, and of predicate `k` (as register 64 + k), in the run of the given draw. R196 makes outputs functions of
program, operands and position, and no rule states what an unwritten register reads. -/
opaque Config.unwrittenReg (draw element r : Nat) : W32

/-- Free value (log 22): what a lane's destination holds after the lane's vector fault at an instruction (R205, R209). The
fault's chunk makes no store, but a row reduction can carry the value to a lower chunk of its row. -/
opaque Config.faultedLane (draw element pc : Nat) : W32

/-- Free value (log 23): what the store path takes for an element of a block or rotation group of a quantised output that a
VECTOR_RUN stores only in part (R198, R208): no rule states it. -/
opaque Config.unstoredElem (draw slot element : Nat) : W32

/-- Free value (log 4): the result of a transcendental instruction (R200) on operand `a`, used only where the bounds the
model computes with 320 fractional bits do not decide the rounding. `which` is the opcode of R199. -/
opaque Config.undecidedRounding (which : Nat) (a : W32) : W32

/-- Free value (log 5): what byte `i` of SET0 holds after a restore that ends with a status other than OK (R422:
"undefined"). -/
opaque Config.undefinedSet0 (n : Nat) : Byte

/-- Free value (log 6): the colony that an adaptive message's generator draws as its intermediate colony (R353); the
rule names a per-device generator and gives no procedure. -/
opaque Config.viaDraw (n : Nat) : Nat

/-- Free value (log 7): the 32 nonce bytes that the security block draws (R455, R510 DBG_CHALLENGE), by draw number. -/
opaque Config.freshNonce (draw : Nat) : List Byte

/-- Free value (log 8): SHAKE256 (R430, R501, R504): the first `n` bytes of its output over `bytes`. The spec names the
published function and does not define it. -/
opaque Config.shake256 (bytes : List Byte) (n : Nat) : List Byte

/-- Free value (log 9): keys and signatures of Falcon-1024 made inside the security block (R501, R504): signature over
`digest` under the identity key of enrolment number `key`. -/
opaque Config.falconSign (key : Nat) (digest : List Byte) : List Byte

/-- Free value (log 9): the 1,793-byte identity public key of enrolment number `key` (R501). -/
opaque Config.identityKey (key : Nat) : List Byte

/-- Free value (log 52): FW_DIGEST (R507) of the firmware image of a version that the device was made with: its bytes stand in
secure flash and the spec does not give them. -/
opaque Config.firmwareDigest (version : Nat) : List Byte

/-- Free value (log 9): the encryption of a 32-byte secret under the sealing key of enrolment `key` (R509 SEAL); the
model keeps the secret beside it. -/
opaque Config.sealedForm (key : Nat) (secret : List Byte) : List Byte

/-- Free value (log 10): the value of the 64 bits that HBM_TP_DATA shifts out of a stack's IEEE 1500 wrapper data
register for instruction `instr` at shift `n` (R305): the wrapper instructions are the HBM3E standard's. -/
opaque Config.wrapperShiftOut (stack instr n : Nat) : W64

/-- Free value (log 11): a state word of a sequencer or an instruction's effect on lichen SRAM, as the debug port sees it
(R514 SPACE 2 and 3): the spec gives the words no layout. `target`, `space`, `addr`, and a counter of writes. -/
opaque Config.debugWord (target space addr n : Nat) : W64

/-- Free value (log 12): the element code at index `i` of a block that the quantiser writes as a NaN block (R78); the
scale byte 0xFF decides the block's meaning (R55), and no rule states its element codes. -/
opaque Config.nanBlockCode (x : List W32) (i : Nat) : Nat

/-- Free value (log 35): the clip factor of a tensor whose G is a NaN (R234 compares and divides by a real G). -/
opaque Config.nanClip (g : W64) (clipNorm : W32) : W32

/-- Free value (log 37): byte `i` of the norm record, from W2 to CLIP, of an updatable tensor that the step did not update
(R237 states the fields of an updated one); and, at 36, its FLAGS bits 4:0. -/
opaque Config.idleNorm (step tensor i : Nat) : Byte

/-- Free value (log 36): the tensor scale and JIT flag of a weight slot in JIT mode after a restore (R73, R423): a stream
carries no scale set. -/
opaque Config.receivedScale (version slot : Nat) : W32
opaque Config.receivedJit (version slot : Nat) : Bool

/-- Free value (log 65): whether the subgroup order derived from one manifest's bytes differs from that of another (R423): the
layout inside the MANIFEST section is Stecon's (R431). Applied to manifests that differ. -/
opaque Config.orderChanged (a b : List Byte) : Bool

/-- Free value (log 10): whether the wrapper instruction `instr` with the words shifted in is a repair, and then the bytes of its
record: pseudo-channel, bank, row and kind (R306, R477). -/
opaque Config.wrapperRepair (instr : Nat) (words : List W64) : Option (List Byte)

/-- Free value (log 42): the ITEM (`which` 0) or VALUE (`which` 1) of a finding of code `code` for which R437 names none: the
check that failed has no item, or no offending value. -/
opaque Config.findingField (code which n : Nat) : W64

/-- Free value (log 73): a data word of a mailbox reply that its service lists no result for (R488), by draw and register. -/
opaque Config.replyWord (draw k : Nat) : W64

/-- Free value (log 73): the program counter of the lichen core in the record of its reset (R477, type 0x0603). -/
opaque Config.lichenPc (draw : Nat) : Nat

/-- Free value (log 77): the pins as the boundary register samples them (R510): the order of its cells is not stated. -/
opaque Config.boundarySample (draw : Nat) : List Bool

/-- Free value (log 83): the sensor index or the temperature in a record of THERM_WARN or THERM_CRIT that no die sensor brought
on (R526, R535): a stack has no sensor index. -/
opaque Config.thermField (draw which : Nat) : Nat

/-- Free value (log 84): the nominal voltage of a rail in mV (R520): the spec gives none for VCORE_W to VSERDES. -/
opaque Config.nominalVoltage (rail : Nat) : Nat

/-- Free value (log 84): the stage that a record of a shutdown names where a rail has two stages or none (R520, R535). -/
opaque Config.shutdownStage (draw : Nat) : Nat

/-- Free value (log 85): whether the register shows a flow that is not a whole number of units rounded up (R534). -/
opaque Config.flowRoundsUp (draw : Nat) : Bool

/-- Free value (log 19): what a counter that counts only waiting shows when the register at `off` is read, by draw: the rules
that let it count speak of clock cycles and of transactions in flight. -/
opaque Config.waitCount (off lo draw : Nat) : Nat

/-- Free value (log 25): where another member holds a piece of the destination of a STREAM_COPY (R282): by the destination's
base, the device, its partition, the plane and the unit. -/
opaque Config.remotePlace (base dev part plane unit : Nat) : Nat

/-- Free value (log 28): the blocks that a slot's commands quantise in the whole step (R152), as far as no command has shown
them yet. -/
opaque Config.stepBlocks (part slot step : Nat) : Nat

/-- Free value (log 87): the rung of a layer in a pass in which it has no operand slots (R138 takes the lowest among them). -/
opaque Config.idlePassRung (layer pass : Nat) : Fin 4

end Sys2Proof
end

