-- ==== Sys2Proof/Machine/Formats.lean ====
section
/-! DEFINITION. Element formats and scales (chapter 2 of the spec: R38 to R64, and R68): what an element code means, the
block scale UE5M3, group tables, and the conversion of a value to an element code. -/

namespace Sys2Proof.Machine

/-- The format families of R38, by code. -/
inductive Family where
  | sint | uint | fltp | fltr | lut | bf16 | fp32 | reserved
  deriving DecidableEq, Repr

def Family.ofCode (n : Nat) : Family :=
  match n with
  | 0 => .sint | 1 => .uint | 2 => .fltp | 3 => .fltr | 4 => .lut | 5 => .bf16 | 6 => .fp32 | _ => .reserved

/-- An element format. `mini` has an exponent field of `x` bits, `k` mantissa bits and its largest finite code. -/
inductive ElemFmt where
  | bin1
  | int (n : Nat)
  | uint (n : Nat)
  | mini (x k maxCode : Nat)
  | lut4
  deriving DecidableEq, Repr

def e2m1 : ElemFmt := .mini 2 1 0x7
def e2m3 : ElemFmt := .mini 2 3 0x1F
def e3m2 : ElemFmt := .mini 3 2 0x1F
def e4m3 : ElemFmt := .mini 4 3 0x7E
def e5m2 : ElemFmt := .mini 5 2 0x7B

/-- The element format of a family at a width in bits; none where R38 shows a dash. -/
def elemFmt (f : Family) (w : Nat) : Option ElemFmt :=
  match f with
  | .sint => if w = 1 then some .bin1 else if 2 ≤ w ∧ w ≤ 8 then some (.int w) else none
  | .uint => if 2 ≤ w ∧ w ≤ 8 then some (.uint w) else none
  | .fltp => if w = 4 then some e2m1 else if w = 6 then some e2m3 else if w = 8 then some e4m3 else none
  | .fltr => if w = 4 then some e2m1 else if w = 6 then some e3m2 else if w = 8 then some e5m2 else none
  | .lut => if w = 4 then some .lut4 else if w = 6 then some e2m3 else if w = 8 then some e4m3 else none
  | _ => none

/-- Whether tensors of the family are stored in blocks (R38). -/
def Family.blocked : Family → Bool
  | .sint | .uint | .fltp | .fltr | .lut => true
  | _ => false

/-- What a block's group table says of it: nothing, a zero point, a converted LUT4 table with its exponent (R46), or an
entry that R47 calls invalid. -/
inductive Group where
  | none
  | zp (z : Nat)
  | lut (t : Int) (ints : List Int)
  | invalid
  deriving DecidableEq, Repr

def Group.zero : Group → Nat
  | .zp z => z
  | _ => 0

/-- The zero point of a UINT tensor of nominal width `n` (R41, R47). -/
def zpGroup (n z : Nat) : Group := if z < 2 ^ n then .zp z else .invalid

/-- A LUT4 table of 16 BF16 entries converted to integers of one exponent (R46), or found invalid (R47). -/
def lutGroup (entries : List W16) : Group :=
  if entries.any (fun e => bf16IsNaN e || bf16IsInf e) then .invalid
  else if entries.all bf16IsZero then .lut 0 (entries.map (fun _ => (0 : Int)))
  else
    -- the entry of the largest magnitude has the largest code without sign; Emax is its unbiased exponent
    let top := entries.foldl (fun m e => max m (e.toNat % 0x8000)) 0
    let (sig, ex) := bf16SigExp (BitVec.ofNat 16 top)
    let emax : Int := Int.ofNat ex - 134 + Int.ofNat (Nat.log2 sig)
    if emax < -100 ∨ emax > 100 then .invalid
    else
      let t := emax - 7
      .lut t (entries.map (fun e =>
        let (s, x) := bf16SigExp e
        let m := Int.ofNat (rneAtUnit s 1 (t - (Int.ofNat x - 134)))
        if bf16Neg e then -m else m))

/-- The fractional shift f of a format (R40 to R42, R46). -/
def fracShift (f : ElemFmt) (g : Group) : Int :=
  match f with
  | .mini x k _ => Int.ofNat (2 ^ (x - 1) - 1 + k - 1)
  | .lut4 => (match g with | .lut t _ => -t | _ => 0)
  | _ => 0

/-- The magnitude of a minifloat code without sign (R42). -/
def miniMag (k code : Nat) : Nat :=
  let e := code / 2 ^ k
  let m := code % 2 ^ k
  if e = 0 then m else (2 ^ k + m) * 2 ^ (e - 1)

/-- The element integer of a code (R40 to R43, R46); none for a reserved or non-finite code. -/
def elemInt (f : ElemFmt) (g : Group) (code : Nat) : Option Int :=
  match f with
  | .bin1 => some (if code % 2 = 0 then 1 else -1)
  | .int n =>
    let c := code % 2 ^ n
    if c = 2 ^ (n - 1) then Option.none
    else some (if c < 2 ^ (n - 1) then Int.ofNat c else Int.ofNat c - Int.ofNat (2 ^ n))
  | .uint n => some (Int.ofNat (code % 2 ^ n) - Int.ofNat g.zero)
  | .mini x k maxCode =>
    let c := code % 2 ^ (x + k)
    if c > maxCode then Option.none
    else
      let m := Int.ofNat (miniMag k c)
      some (if code / 2 ^ (x + k) % 2 = 1 then -m else m)
  | .lut4 => (match g with | .lut _ ints => some (ints.getD (code % 16) 0) | _ => some 0)

/-- The bound q on an element integer: |I| < 2^q (R117). -/
def elemBound (f : ElemFmt) : Nat :=
  match f with
  | .bin1 => 1
  | .int n => max 1 (n - 1)
  | .uint n => n
  | .mini x k _ => if x = 2 ∧ k = 1 then 4 else if x = 2 then 6 else if x = 3 then 9 else if x = 4 then 18 else 32
  | .lut4 => 8

/-- Slices of an operand format (R63). -/
def slices (f : ElemFmt) : Nat :=
  match f with
  | .bin1 => 1
  | .int n => if n ≤ 4 then 1 else 2
  | .uint n => if n ≤ 4 then 1 else 2
  | .mini x k _ => if x = 2 ∧ k = 1 then 1 else 2
  | .lut4 => 2

/-- The reference magnitude V for the block scale (R68) as `n × 2^e`. -/
def refBlock (f : ElemFmt) (g : Group) : Nat × Int :=
  match f with
  | .bin1 => (1, 0)
  | .int n => (2 ^ (n - 1) - 1, 0)
  | .uint n => (max g.zero (2 ^ n - 1 - g.zero), 0)
  | .mini _ k maxCode => (miniMag k maxCode, - fracShift f g)
  | .lut4 => (match g with
    | .lut t ints => (ints.foldl (fun m i => max m i.natAbs) 0, t)
    | _ => (1, 0))

/-- The reference magnitude V for the tensor scale (R68) as `n × 2^e`. -/
def refTensor (f : ElemFmt) : Nat × Int :=
  match f with
  | .uint n => (2 ^ (n - 1) - 1, 0)
  | .lut4 => (1, 0)
  | _ => refBlock f .none

/-- A block-scale code's value `(8 + M) × 2^(E − 18)` as its integer and exponent (R48). -/
def scaleMant (c : Nat) : Nat := 8 + c % 8
def scaleExp (c : Nat) : Int := Int.ofNat (c / 8) - 18

/-- The element code whose integer is 0 (R80, R110); 0b0 for BIN1. -/
def zeroCode (f : ElemFmt) (g : Group) : Nat :=
  match f with
  | .uint _ => g.zero
  | _ => 0

/-- `a × 2^ea ≥ b × 2^eb`, exactly. -/
def geScaled (a : Nat) (ea : Int) (b : Nat) (eb : Int) : Bool :=
  let m := min ea eb
  decide (a * 2 ^ (ea - m).toNat ≥ b * 2 ^ (eb - m).toNat)

/-- The index of R60 for LUT4: the entry nearest to `num / den`, the lower index on a tie. -/
def nearestLut (ints : List Int) (t : Int) (num : Int) (den : Nat) : Nat :=
  let a : Int := if t < 0 then num * 2 ^ (-t).toNat else num
  let d : Int := Int.ofNat (if t < 0 then den else den * 2 ^ t.toNat)
  let dist (i : Int) : Nat := (a - i * d).natAbs
  ((ints.zipIdx).foldl (fun (best : Nat × Nat) (e : Int × Nat) =>
      if dist e.1 < best.1 then (dist e.1, e.2) else best) (dist (ints.headD 0), 0)).2

/-- The element code of the exact quotient `num / den` (R58 to R60). R60 gives none for a block whose group entry is invalid: the
zero point counts as 0 and the LUT4 index is 0 (DESIGN CHOICE, log 107). -/
def convertElem (f : ElemFmt) (g : Group) (num : Int) (den : Nat) : Nat :=
  match f with
  | .bin1 => if num ≥ 0 then 0 else 1
  | .int n =>
    let lim : Int := Int.ofNat (2 ^ (n - 1) - 1)
    let v := max (-lim) (min lim (rneDivInt num den))
    (v % Int.ofNat (2 ^ n)).toNat
  | .uint n =>
    let v := rneDivInt num den + Int.ofNat g.zero
    (max 0 (min (Int.ofNat (2 ^ n - 1)) v)).toNat
  | .mini x k maxCode =>
    let c := min (FpFmt.rawCode ⟨k + 1, x⟩ num.natAbs den) maxCode
    if num < 0 ∧ c ≠ 0 then c + 2 ^ (x + k) else c
  | .lut4 => (match g with | .lut t ints => nearestLut ints t num den | _ => 0)

/-- Dequantisation of an element that is no epiphyte (R62): one rounding of `I × 2^−f × s_b × S_t`. -/
def dequantElem (f : ElemFmt) (g : Group) (scale code : Nat) (st : W32) : W32 :=
  match elemInt f g code with
  | Option.none => qnan32
  | some i =>
    fp32MulRne (fp32OfScaled (i * Int.ofNat (scaleMant scale)) (scaleExp scale - fracShift f g)) st

end Sys2Proof.Machine
end

