-- ==== Sys2Proof/Machine/Quant.lean ====
section
/-! DEFINITION. Choosing scales, rotation and epiphytes (chapters 3 and 4 of the spec): the tensor scale (R71, R72), the
crozier (R98 to R102), the selection of epiphytes (R108 to R110) and the quantiser (R75 to R85). -/

namespace Sys2Proof.Machine

/-! ### The crozier -/

/-- One word of the sign generator of R98. -/
def signWord (x0 : Nat) : Nat :=
  let x1 := Nat.xor x0 (x0 * 2 ^ 13 % 2 ^ 32)
  let x2 := Nat.xor x1 (x1 / 2 ^ 17)
  Nat.xor x2 (x2 * 2 ^ 5 % 2 ^ 32)

/-- The 128 sign bits of a seed (R98). -/
def signBits (seed : Nat) : Nat :=
  let a := signWord seed
  let b := signWord a
  let c := signWord b
  let d := signWord c
  a + b * 2 ^ 32 + c * 2 ^ 64 + d * 2 ^ 96

/-- One butterfly stage at distance `h` (R99). -/
def butterfly (h : Nat) (v : List W32) : List W32 :=
  (chunks (2 * h) v).flatMap (fun p =>
    let a := p.take h
    let b := p.drop h
    List.zipWith fp32AddRne a b ++ List.zipWith fp32SubRne a b)

/-- The sides of R99. -/
inductive Side where
  | left | right
  deriving DecidableEq, Repr

/-- The factor exponents of R100, by the base-2 logarithm of the size. -/
def croExp (lg : Nat) (side : Side) : Nat :=
  match side with
  | .left => if lg = 4 then 2 else if lg = 7 then 4 else 3
  | .right => if lg = 4 ∨ lg = 5 then 2 else 3

/-- The value 2^−c as FP32. -/
def twoPowNeg (c : Nat) : W32 := fp32OfRat 1 (2 ^ c)

/-- R99 and R102 for one group whose size is a power of two: the values out, and whether ROT_NONFINITE counts. -/
def rotateGroup (v : List W32) (seed : Nat) (side : Side) : List W32 × Bool :=
  let bad := (v.map (fun _ => qnan32), true)
  if v.any (fun t => !isFinite32 t) then bad
  else
    let s := signBits seed
    let lg := Nat.log2 v.length
    let signed := v.zipIdx.map (fun (t, p) => if bitOf s p then fp32Neg t else t)
    let out := (List.range lg).foldl (fun w k => butterfly (2 ^ k) w) signed
    let out := out.map (fun t => fp32MulRne t (twoPowNeg (croExp lg side)))
    if out.any (fun t => !isFinite32 t) then bad else (out, false)

/-- The sizes of the groups along an axis of `len` elements (R101): full groups of `n`, then the powers of two of the
tail, largest first. -/
def rotPieces (n len : Nat) : List Nat :=
  if n = 0 then []
  else List.replicate (len / n) n ++ ([64, 32, 16].filter (fun p => (len % n) / p % 2 = 1 ∧ p < n))

/-- Cut a list into pieces of the given sizes. -/
def cutBy {α : Type} : List Nat → List α → List (List α)
  | [], _ => []
  | n :: ns, l => l.take n :: cutBy ns (l.drop n)

/-- The crozier over one line of the reduction axis (R96, R99, R101): size 0 is NONE. The count is ROT_NONFINITE's. -/
def crozierLine (size seed : Nat) (side : Side) (v : List W32) : List W32 × Nat :=
  if size = 0 then (v, 0)
  else
    let gs := (cutBy (rotPieces size v.length) v).map (fun g => rotateGroup g seed side)
    (gs.flatMap (·.1), gs.countP (·.2))

/-! ### Epiphytes -/

/-- The order of R108: larger magnitude first, lower index first among equals. -/
def epiOrder (x : List W32) : List (W32 × Nat) :=
  sortBy (fun a b => mag32 a.1 > mag32 b.1 || (mag32 a.1 == mag32 b.1 && a.2 ≤ b.2)) x.zipIdx

/-- The test `a ≥ 2^τ × b` of R108. -/
def epiGe (a b : W32) (tau : Nat) : Bool :=
  if isInf32 b then false
  else if isInf32 a then true
  else decide ((int32Of a).natAbs ≥ 2 ^ tau * (int32Of b).natAbs)

/-- select_epiphytes of R108: ascending element indices. -/
def selectEpiphytes (x : List W32) (budget tau : Nat) : List Nat :=
  let order := epiOrder x
  let m (j : Nat) : W32 := ((order[j]?).map (·.1)).getD pzero32
  let takes (j : Nat) : Bool := !isZero32 (m (j - 1)) && epiGe (m (j - 1)) (m j) tau
  let pick (j : Nat) : List Nat := sortBy (fun a b => decide (a ≤ b)) ((order.take j).map (·.2))
  if budget ≥ 2 ∧ takes 2 then pick 2 else if budget ≥ 1 ∧ takes 1 then pick 1 else []

/-- The carried value `x ÷ S_t` in BF16 (R109). -/
def epiValue (x st : W32) : W16 :=
  let s : Nat := if isNeg32 x then 0x8000 else 0
  if isInf32 x then BitVec.ofNat 16 (0x7F80 + s)
  else BitVec.ofNat 16 (fmtBf16.roundCode (int32Of x).natAbs (int32Of st).natAbs + s)

/-! ### Tensor scales -/

/-- R72: the exponent of the tensor scale from an amax estimate of `a` units of 2^−149, clamped to −126 to 127. The smallest
integer e with `2^13 × V × 2^e ≥ 2^h × A`. -/
def scaleExponent (f : ElemFmt) (headroom : Nat) (a : Nat) : Int :=
  if a = 0 then 0
  else
    let (vn, ve) := refTensor f
    -- a × 2^(h−149) ≤ vn × 2^(13+ve+e)
    let shift : Int := 13 + ve + 149 - Int.ofNat headroom
    -- the least e with a ≤ vn × 2^(shift + e)
    let k0 : Int := Int.ofNat (Nat.log2 a) - Int.ofNat (Nat.log2 vn) - 1
    let fits (k : Int) : Bool := geScaled vn k a 0
    let k := if fits k0 then k0 else if fits (k0 + 1) then k0 + 1 else k0 + 2
    max (-126) (min 127 (k - shift))

/-- The FP32 value 2^e of an exponent from −126 to 127. -/
def pow2Fp32 (e : Int) : W32 := BitVec.ofNat 32 ((e + 127).toNat * 2 ^ 23)

/-- An amax in units of 2^−149. -/
def amaxUnits (a : W32) : Nat := (int32Of a).natAbs

/-- The tensor scale from an estimate in units of 2^−149 (R72). -/
def tensorScale (f : ElemFmt) (headroom a : Nat) : W32 := pow2Fp32 (scaleExponent f headroom a)

/-- The larger of two non-negative FP32 values. -/
def amaxJoin (a b : W32) : W32 := if a.toNat ≥ b.toNat then a else b

/-- The largest finite magnitude among values (R69, R87); +0 where there is none. -/
def amaxOf (x : List W32) : W32 := x.foldl (fun m v => if isFinite32 v then amaxJoin m (fp32Abs v) else m) pzero32

/-! ### The quantiser -/

/-- The window of R75. -/
def scaleFloor (b : Nat) : Nat := 1 + 8 * b
def scaleCeil (b : Nat) : Nat := 0xE0 + 8 * b

/-- The settings a quantisation takes from its slot (R567). -/
structure QSet where
  st     : W32
  weight : Bool
  thr    : Nat
  budget : Nat
  tau    : Nat
  deriving DecidableEq, Repr

/-- `value(c) × V × S_t ≥ a`, exactly; `a` and the tensor scale count units of 2^−149. -/
def scaleCovers (v : Nat × Int) (st a c : Nat) : Bool :=
  geScaled (scaleMant c * v.1 * st) (scaleExp c + v.2) a 0

/-- R76: the scale code in the window of bias `b`, and whether the block overflows. -/
def chooseScale (v : Nat × Int) (st a b : Nat) : Nat × Bool :=
  match (List.range' (scaleFloor b) (scaleCeil b + 1 - scaleFloor b)).find? (scaleCovers v st a) with
  | some c => (c, false)
  | none => (scaleCeil b, true)

/-- R77: the code of `x ÷ (value(c) × S_t)`; `x` and `st` count units of 2^−149. -/
def quantElem (f : ElemFmt) (g : Group) (c : Nat) (st : Nat) (x : Int) : Nat :=
  let e := scaleExp c
  if e ≥ 0 then convertElem f g x (scaleMant c * st * 2 ^ e.toNat)
  else convertElem f g (x * 2 ^ (-e).toNat) (scaleMant c * st)

/-- The events of one block (R84), each counted once, and the epiphyte events of R114. -/
structure QEvents where
  nanIn     : Nat := 0
  infIn     : Nat := 0
  overflow  : Nat := 0
  underflow : Nat := 0
  crushed   : Nat := 0
  flushed   : Nat := 0
  taken     : Nat := 0
  epiInf    : Nat := 0
  rotNonfinite : Nat := 0
  deriving DecidableEq, Repr

def QEvents.add (a b : QEvents) : QEvents :=
  ⟨a.nanIn + b.nanIn, a.infIn + b.infIn, a.overflow + b.overflow, a.underflow + b.underflow, a.crushed + b.crushed,
   a.flushed + b.flushed, a.taken + b.taken, a.epiInf + b.epiInf, a.rotNonfinite + b.rotNonfinite⟩

/-- R84: a block is troubled if it overflowed or was crushed. -/
def QEvents.troubled (e : QEvents) : Bool := e.overflow > 0 || e.crushed > 0

/-- A block as the quantiser forms it: element codes, scale byte, epiphyte slots, bias and crush mark. -/
structure QBlock where
  codes : List Nat
  scale : Nat
  epis  : List (Nat × W16)
  bias  : Nat
  crush : Bool
  ev    : QEvents
  deriving DecidableEq, Repr

/-- The element code of a NaN block at index `i`: free within what R78 allows the quantiser to write (log 12). -/
def nanCode (f : ElemFmt) (g : Group) (x : List W32) (i : Nat) : Nat :=
  let w := match f with | .bin1 => 1 | .int n => n | .uint n => n | .mini x k _ => x + k + 1 | .lut4 => 4
  let c := Config.nanBlockCode x i % 2 ^ w
  match elemInt f g c with
  | some v => if v = 0 then zeroCode f g else c
  | none => zeroCode f g

/-- R78: one block from 16 values at bias `b`. -/
def quantiseBlock (f : ElemFmt) (g : Group) (q : QSet) (b : Nat) (x : List W32) : QBlock :=
  let zc := zeroCode f g
  let nanB (ev : QEvents) : QBlock :=
    ⟨(List.range 16).map (nanCode f g x), 0xFF, [], b, false, ev⟩
  if x.any isNaN32 then nanB { nanIn := 1 }
  else
    let epi := selectEpiphytes x q.budget q.tau
    if (x.zipIdx).any (fun (v, i) => isInf32 v && !epi.contains i) then nanB { infIn := 1 }
    else
      let slots := epi.map (fun i => (i, epiValue (x.getD i pzero32) q.st))
      let infs := (epi.filter (fun i => isFinite32 (x.getD i pzero32)
        && bf16IsInf (epiValue (x.getD i pzero32) q.st))).length
      let ev0 : QEvents := { taken := epi.length, epiInf := infs }
      let r := (x.zipIdx).map (fun (v, i) => if epi.contains i then (0 : Int) else int32Of v)
      let nz := r.countP (· != 0)
      let zeros := List.replicate 16 zc
      let zeroScale (b : Nat) := if epi.isEmpty then 0 else scaleFloor b
      if nz = 0 then ⟨zeros, zeroScale b, slots, b, false, ev0⟩
      else
        let st := (int32Of q.st).natAbs
        let a := r.foldl (fun m v => max m v.natAbs) 0
        let v := refBlock f g
        let atBias (b : Nat) : Nat × Bool × List Nat :=
          let (c, o) := chooseScale v st a b
          (c, o, r.map (quantElem f g c st))
        let live (codes : List Nat) : Nat := codes.countP (fun k => elemInt f g k != some 0)
        let kept (codes : List Nat) : Nat :=
          (r.zip codes).countP (fun (v, k) => v != 0 && elemInt f g k != some 0)
        let (c, ovf, codes) := atBias b
        let finish (c : Nat) (codes : List Nat) (ovf : Bool) (bias : Nat) (under : Nat) : QBlock :=
          let crush := decide (nz - kept codes ≥ q.thr)
          let codes' := (codes.zipIdx).map (fun (k, i) => if epi.contains i then zc else k)
          ⟨codes', c, slots, bias, crush,
            { ev0 with overflow := b2n ovf, underflow := under, crushed := b2n crush }⟩
        if !ovf && live codes == 0 then
          let lower := if q.weight then ((List.range b).reverse).find? (fun b' => live (atBias b').2.2 != 0) else none
          match lower with
          | some b' => finish (atBias b').1 (atBias b').2.2 false b' 1
          | none => ⟨zeros, zeroScale 0, slots, 0, false, { ev0 with flushed := 1 }⟩
        else finish c codes ovf (if ovf then (if q.weight then min (b + 1) 3 else b) else b) 0

/-! ### Block storage (R50 to R52, R111) -/

/-- The element-plane bytes of 16 codes at width `w` (R50). -/
def packCodes (w : Nat) (codes : List Nat) : List Byte :=
  leBytes (2 * w) ((codes.zipIdx).foldl (fun n (c, i) => n + (c % 2 ^ w) * 2 ^ (w * i)) 0)

def unpackCodes (w : Nat) (bytes : List Byte) : List Nat :=
  (List.range 16).map (fun i => bitsOf (leNat bytes) (w * i) w)

/-- The shape byte (R52). -/
def shapeByte (width epi bias : Nat) (crush : Bool) : Nat :=
  (width - 1) + epi * 8 + bias * 32 + b2n crush * 128

/-- The metadata word (R51): scale in the low byte, shape in the high byte. -/
def metaBytes (width : Nat) (q : QBlock) : List Byte :=
  [BitVec.ofNat 8 q.scale, BitVec.ofNat 8 (shapeByte width q.epis.length q.bias q.crush)]

/-- The epiphyte slots of a block at budget `B` (R111). -/
def epiBytes (budget : Nat) (slots : List (Nat × W16)) : List Byte :=
  ((List.range budget).flatMap (fun j =>
    match slots[j]? with
    | some (i, v) => leBytes 3 (v.toNat + i * 2 ^ 16)
    | none => leBytes 3 0))

end Sys2Proof.Machine
end

