-- ==== Sys2Proof/Machine/Dot.lean ====
section
/-! DEFINITION. The dot product, bit for bit (chapter 5 of the spec: R115 to R132): what a lane makes of a block
(R55, R112, R118), the terms of a block pair (R120, R121), the sorus run (R122 to R124) and its promotion (R126, R131). -/

namespace Sys2Proof.Machine

/-- What a block holds for the lane that reads it (R55): a NaN block, an all-zero block, or element integers with the
fractional shift, the split scale code, the bound q (R117) and the epiphytes read from the slots. -/
inductive LaneBlock where
  | nan
  | zero
  | vals (ints : List Int) (f : Int) (scaleE : Nat) (scaleM : Nat) (q : Nat) (epis : List (Nat × W16))
  deriving DecidableEq, Repr

def LaneBlock.isNan : LaneBlock → Bool
  | .nan => true
  | _ => false

/-- Counted events of reading a block into a lane (R65). -/
structure ReadEvents where
  rsvd : Nat := 0
  deriving DecidableEq, Repr

/-- The epiphyte slots of R111 as words. -/
def slotWords (budget : Nat) (bytes : List Byte) : List Nat :=
  (List.range budget).map (fun j => leAt bytes (3 * j) 3)

/-- R112: the slots read, or none where they make the block a NaN block. -/
def readSlots : List Nat → Option Nat → Option (List (Nat × W16))
  | [], _ => some []
  | w :: ws, prev =>
    let i := bitsOf w 16 4
    let v : W16 := BitVec.ofNat 16 w
    let bad := bitsOf w 20 4 != 0 || bf16IsNaN v || (match prev with | some p => decide (i ≤ p) | none => false)
    if bad then none
    else (readSlots ws (some i)).map (fun t => (i, v) :: t)

/-- A block as it stands in memory, with what locates it: its metadata word, element codes at the nominal width, its
slots, and, for a widened block, its spill entry when the directory holds one (R143, R145). -/
structure RawBlock where
  nominal : Nat
  elems   : List Byte
  metaWord : Nat
  budget  : Nat
  slots   : List Byte
  group   : Group
  bitmap  : Bool                       -- the block's BITMAP bit (R144); false in a tensor with no spill region
  spill   : Option (List Byte × Nat)   -- the spill entry where the region holds one: element bytes and metadata word
  deriving DecidableEq, Repr

/-- The element integers of codes, or none where one is reserved or non-finite. -/
def elemInts (f : ElemFmt) (g : Group) (codes : List Nat) : Option (List Int) := codes.mapM (elemInt f g)

/-- R55: what a block read by a lane supplies, by the first matching row, and how often RSVD_BLOCKS counts. -/
def laneBlock (fam : Family) (r : RawBlock) : LaneBlock × Nat :=
  let scale := r.metaWord % 256
  let shape := r.metaWord / 256
  let epi := bitsOf shape 3 2
  let width := shape % 8
  if scale = 0xFF then (.nan, 0)
  else if r.group = .invalid then (.nan, 0)
  else if scale = 0 ∧ epi ≠ 3 then (.zero, 0)
  else if width + 1 ≠ r.nominal ∨ (epi = 3 ∧ ¬ r.bitmap) ∨ (epi ≠ 3 ∧ (r.bitmap ∨ epi > r.budget)) then (.nan, 1)
  else if epi = 3 then
    match r.spill with
    | none => (.nan, 1)
    | some (bytes, mw) =>
      if mw % 256 = 0xFF then (.nan, 0)
      else if bitsOf mw 8 3 ≠ 7 ∨ bitsOf mw 11 2 ≠ 3 then (.nan, 1)
      else if mw % 256 = 0 then (.zero, 0)
      else
        match elemFmt fam 8 with
        | none => (.nan, 1)
        | some f8 =>
          match elemInts f8 r.group (unpackCodes 8 bytes) with
          | none => (.nan, 1)
          | some ints => (.vals ints (fracShift f8 r.group) (mw % 256 / 8) (mw % 8) (elemBound f8) [], 0)
  else
    match readSlots ((slotWords r.budget r.slots).take epi) none, elemFmt fam r.nominal with
    | some slots, some f =>
      (match elemInts f r.group (unpackCodes r.nominal r.elems) with
      | none => (.nan, 1)
      | some ints =>
        let ints' := (ints.zipIdx).map (fun (v, i) => if slots.any (fun s => s.1 == i) then (0 : Int) else v)
        (.vals ints' (fracShift f r.group) (scale / 8) (scale % 8) (elemBound f) slots, 0))
    | _, _ => (.nan, 1)

/-- R118: a block of 16 BF16 elements. -/
def bf16LaneBlock (elems : List W16) : LaneBlock × Nat :=
  if elems.any (fun e => bf16IsNaN e || bf16IsInf e) then (.nan, 1)
  else if elems.all bf16IsZero then (.zero, 0)
  else
    let eb := elems.foldl (fun m e => max m (bf16SigExp e).2) 0
    let ints := elems.map (fun e =>
      let (s, x) := bf16SigExp e
      let m := Int.ofNat (rneDiv (s * 2 ^ 8) (2 ^ (eb - x)))
      if bf16Neg e then -m else m)
    (.vals ints (142 - Int.ofNat eb) 15 0 16 [], 0)

/-- One finite term `N × 2^x` with its bound exponent `w` (R120, R121) and whether it is anchor-eligible (R122). -/
structure Term where
  n : Int
  x : Int
  w : Nat
  eligible : Bool
  deriving DecidableEq, Repr

/-- The flags NAN, PINF and NINF of R130. -/
structure RunFlags where
  nan  : Bool := false
  pinf : Bool := false
  ninf : Bool := false
  deriving DecidableEq, Repr

def RunFlags.join (a b : RunFlags) : RunFlags := ⟨a.nan || b.nan, a.pinf || b.pinf, a.ninf || b.ninf⟩

def infFlag (neg : Bool) : RunFlags := if neg then { ninf := true } else { pinf := true }

/-- R121 and R130 for an epiphyte on one side: `v` meets the other block's element integer `b` under scale `(E, M)`,
shift `f` and bound `q`. -/
def oneSided (v : W16) (b : Int) (sE sM : Nat) (f : Int) (q : Nat) : Option Term × RunFlags :=
  if bf16IsInf v then
    if b = 0 then (none, { nan := true }) else (none, infFlag (bf16Neg v != decide (b < 0)))
  else
    let (s, e) := bf16SigExp v
    let n := Int.ofNat s * b * Int.ofNat (8 + sM)
    (some ⟨if bf16Neg v then -n else n, Int.ofNat e - 134 + Int.ofNat sE - 18 - f, q + 12, !bf16IsZero v⟩, {})

/-- R121 and R130 for an index that both operands' slots name. -/
def twoSided (v u : W16) : Option Term × RunFlags :=
  let neg := bf16Neg v != bf16Neg u
  if bf16IsInf v ∨ bf16IsInf u then
    if bf16IsZero v ∨ bf16IsZero u then (none, { nan := true }) else (none, infFlag neg)
  else
    let (s, e) := bf16SigExp v
    let (s', e') := bf16SigExp u
    let n := Int.ofNat (s * s')
    (some ⟨if neg then -n else n, Int.ofNat e + Int.ofNat e' - 268, 16, !bf16IsZero v && !bf16IsZero u⟩, {})

/-- The distinct epiphyte indices of a block pair (R113, R121). -/
def epiIndices (a b : List (Nat × W16)) : List Nat := dedupNat (a.map (·.1) ++ b.map (·.1))

def slotAt (l : List (Nat × W16)) (i : Nat) : Option W16 := (l.find? (fun s => s.1 == i)).map (·.2)

/-- The terms and flags that one block pair contributes (R119 to R121, R130). -/
def pairTerms (a b : LaneBlock) : List Term × RunFlags :=
  match a, b with
  | .nan, _ => ([], { nan := true })
  | _, .nan => ([], { nan := true })
  | .zero, .zero => ([], {})
  | .vals _ _ _ _ _ ea, .zero =>
    -- the other block is all-zero: a finite value adds nothing, an infinite one sets NAN
    ([], { nan := ea.any (fun s => bf16IsInf s.2) })
  | .zero, .vals _ _ _ _ _ eb => ([], { nan := eb.any (fun s => bf16IsInf s.2) })
  | .vals ia fa aE aM qa ea, .vals ib fb bE bM qb eb =>
    let p := (ia.zip ib).foldl (fun (acc : Int) (x, y) => acc + x * y) 0
    let blockTerm : Term :=
      ⟨p * Int.ofNat ((8 + aM) * (8 + bM)), Int.ofNat aE + Int.ofNat bE - 36 - fa - fb, qa + qb + 12, true⟩
    let epi := (epiIndices ea eb).map (fun i =>
      match slotAt ea i, slotAt eb i with
      | some v, some u => twoSided v u
      | some v, none => oneSided v (ib.getD i 0) bE bM fb qb
      | none, some u => oneSided u (ia.getD i 0) aE aM fa qa
      | none, none => (none, {}))
    (blockTerm :: epi.filterMap (·.1), epi.foldl (fun (fl : RunFlags) e => fl.join e.2) ({} : RunFlags))

/-- R123: a term aligned to the anchor. -/
def alignTerm (t : Term) (anchor : Int) : Int :=
  if t.x ≥ anchor then t.n * 2 ^ (t.x - anchor).toNat else rneDivInt t.n (2 ^ (anchor - t.x).toNat)

/-- R122: the anchor of a run, none without an anchor-eligible term. -/
def anchorOf (terms : List Term) : Option Int :=
  match (terms.filter (·.eligible)).map (fun t => t.x + Int.ofNat t.w) with
  | [] => none
  | c :: cs => some (cs.foldl max c - 47)

/-- Events of promotions and rhizome additions (R136). -/
structure DotEvents where
  nanRuns    : Nat := 0
  infRuns    : Nat := 0
  promoteOvf : Nat := 0
  accumOvf   : Nat := 0
  deriving DecidableEq, Repr

def DotEvents.add (a b : DotEvents) : DotEvents :=
  ⟨a.nanRuns + b.nanRuns, a.infRuns + b.infRuns, a.promoteOvf + b.promoteOvf, a.accumOvf + b.accumOvf⟩

/-- R126, R131: the value that one lane promotes at the end of a run; `delta` is the Δ of R174, which shifts every term
exponent and with it the anchor. -/
def promoteRun (run : List (LaneBlock × LaneBlock)) (delta : Int := 0) : W32 × DotEvents :=
  let parts := run.map (fun (a, b) => pairTerms a b)
  let fl := parts.foldl (fun (fl : RunFlags) p => fl.join p.2) ({} : RunFlags)
  if fl.nan ∨ (fl.pinf ∧ fl.ninf) then (qnan32, { nanRuns := 1 })
  else if fl.pinf then (pinf32, { infRuns := 1 })
  else if fl.ninf then (ninf32, { infRuns := 1 })
  else
    let terms := parts.flatMap (·.1)
    match anchorOf terms with
    | none => (pzero32, {})
    | some a =>
      let v := fp32OfScaled (terms.foldl (fun (s : Int) t => s + alignTerm t a) 0) (a + delta)
      (v, { promoteOvf := b2n (isInf32 v) })

/-- R127: the rhizome add, with ACCUM_OVF. -/
def rhizomeAdd (r v : W32) : W32 × Nat :=
  let s := fp32AddRne r v
  (s, b2n (isFinite32 r && isFinite32 v && isInf32 s))

/-- Promotions of consecutive runs of one segment into an entry, in ascending order (R127). -/
def accumulate (r : W32) (runs : List (List (LaneBlock × LaneBlock))) (delta : Int := 0) : W32 × DotEvents :=
  runs.foldl (fun (acc : W32 × DotEvents) run =>
    let (v, ev) := promoteRun run delta
    let (s, o) := rhizomeAdd acc.1 v
    (s, (acc.2.add ev).add { accumOvf := o })) (r, {})

/-- R128: the fold of the segments of one output, ascending, with the folds that overflow. -/
def foldSegs : List W32 → W32 × Nat
  | [] => (pzero32, 0)
  | r :: rs => rs.foldl (fun (acc : W32 × Nat) v => let (s, o) := rhizomeAdd acc.1 v; (s, acc.2 + o)) (r, 0)

/-- R129: `Y × S_ta × S_tb` exactly, rounded once; with STORE_OVF. -/
def scaleOutput (y sta stb : W32) : W32 × Nat :=
  if isNaN32 y then (qnan32, 0)
  else
    let neg := (isNeg32 y != isNeg32 sta) != isNeg32 stb
    if isInf32 y then (withSign32 neg 0x7F800000, 0)
    else
      let v := fp32OfRat (int32Of y * int32Of sta * int32Of stb) (2 ^ 447) neg
      (v, b2n (isInf32 v))

/-- Array-step timing of a lane (R113): the distinct epiphyte indices that both operands' slots name. -/
def epiCount (a b : LaneBlock) : Nat :=
  let e (l : LaneBlock) : List (Nat × W16) := match l with | .vals _ _ _ _ _ s => s | _ => []
  (epiIndices (e a) (e b)).length

end Sys2Proof.Machine
end

