-- ==== Sys2Proof/Machine/Regs.lean ====
section
/-! DEFINITION. Every register of the control window (R536, R545), with the fields, access types and reset values of its
own chapter's table, and its reset class (R544). The names are the spec's. A register's offset is the window offset of
instance 0; a field constant names a field of instance 0 and the distance to the next instance. -/

namespace Sys2Proof.Machine

/-- Access types (R8, R10). -/
inductive AccType where
  | ro | rw | w1c | wo | rc
  deriving DecidableEq, Repr

/-- Reset classes (R544). FLASH fields stand under `boot`: they too reset at every entry into BOOT, and are then loaded. -/
inductive ResetClass where
  | aux | boot | frond | owner | part
  deriving DecidableEq, Repr

/-- A field of a register's table. -/
structure FieldDef where
  lo    : Nat
  width : Nat
  acc   : AccType
  reset : Nat
  deriving DecidableEq, Repr

/-- A register: its window offset, how many instances along one or two indices, and its fields. -/
structure RegDef where
  off : Nat
  n1  : Nat
  s1  : Nat
  n2  : Nat
  s2  : Nat
  cls : ResetClass
  fields : List FieldDef
  deriving DecidableEq, Repr

/-- A field of instance 0 of a register, and the distance between instances of its first index. -/
structure Fld where
  off    : Nat
  lo     : Nat
  width  : Nat
  stride : Nat
  deriving DecidableEq, Repr

/-- Registers ANC_ (R2, R162, R246, R327, R426, R467). -/
def regDefsAnc : List RegDef := [
  -- ANC_DEVICE_ID
  ⟨0x0, 1, 0x0, 1, 0x0, .boot, [⟨0, 16, .ro, 0x4D47⟩, ⟨16, 16, .ro, 0x768⟩, ⟨32, 8, .ro, 0xC0⟩, ⟨40, 9, .ro, 0x0⟩]⟩,
  -- ANC_FB_COUNTS
  ⟨0x2000, 8, 0x10, 1, 0x0, .part, [⟨0, 32, .rc, 0x0⟩, ⟨32, 16, .rc, 0x0⟩, ⟨48, 16, .rc, 0x0⟩]⟩,
  -- ANC_FB_STATE
  ⟨0x2008, 8, 0x10, 1, 0x0, .part, [⟨0, 16, .ro, 0x0⟩, ⟨16, 1, .ro, 0x0⟩, ⟨24, 24, .ro, 0x0⟩]⟩,
  -- ANC_STEP_COUNT
  ⟨0x2100, 8, 0x20, 1, 0x0, .part, [⟨0, 64, .ro, 0x0⟩]⟩,
  -- ANC_UPD_EVENTS
  ⟨0x2108, 8, 0x20, 1, 0x0, .part, [⟨0, 16, .rc, 0x0⟩, ⟨16, 16, .rc, 0x0⟩, ⟨32, 16, .rc, 0x0⟩, ⟨48, 16, .rc, 0x0⟩]⟩,
  -- ANC_DRAIN_STATE
  ⟨0x2110, 8, 0x20, 1, 0x0, .part, [⟨0, 24, .ro, 0x0⟩, ⟨24, 1, .ro, 0x0⟩, ⟨25, 1, .ro, 0x0⟩, ⟨26, 1, .ro, 0x0⟩, ⟨27, 1, .ro, 0x0⟩, ⟨32, 32, .ro, 0x0⟩]⟩,
  -- ANC_DRAIN_EVENTS
  ⟨0x2118, 8, 0x20, 1, 0x0, .part, [⟨0, 16, .rc, 0x0⟩, ⟨16, 48, .rc, 0x0⟩]⟩,
  -- ANC_Q_BASE
  ⟨0x2200, 8, 0x40, 1, 0x0, .part, [⟨0, 40, .rw, 0x0⟩, ⟨40, 5, .rw, 0xA⟩]⟩,
  -- ANC_Q_CQ_BASE
  ⟨0x2208, 8, 0x40, 1, 0x0, .part, [⟨0, 40, .rw, 0x0⟩]⟩,
  -- ANC_Q_TAIL
  ⟨0x2210, 8, 0x40, 1, 0x0, .part, [⟨0, 32, .rw, 0x0⟩]⟩,
  -- ANC_Q_HEAD
  ⟨0x2218, 8, 0x40, 1, 0x0, .part, [⟨0, 32, .ro, 0x0⟩, ⟨32, 32, .ro, 0x0⟩]⟩,
  -- ANC_Q_CTRL
  ⟨0x2220, 8, 0x40, 1, 0x0, .part, [⟨0, 2, .wo, 0x0⟩, ⟨8, 1, .ro, 0x0⟩, ⟨16, 8, .ro, 0x0⟩, ⟨32, 32, .ro, 0x0⟩]⟩,
  -- ANC_PART_STATE
  ⟨0x2228, 8, 0x40, 1, 0x0, .boot, [⟨0, 3, .ro, 0x0⟩, ⟨8, 8, .ro, 0x0⟩]⟩,
  -- ANC_DQ_BASE
  ⟨0x2400, 1, 0x0, 1, 0x0, .boot, [⟨0, 40, .rw, 0x0⟩, ⟨40, 5, .rw, 0xA⟩]⟩,
  -- ANC_DQ_CQ_BASE
  ⟨0x2408, 1, 0x0, 1, 0x0, .boot, [⟨0, 40, .rw, 0x0⟩]⟩,
  -- ANC_DQ_TAIL
  ⟨0x2410, 1, 0x0, 1, 0x0, .boot, [⟨0, 32, .rw, 0x0⟩]⟩,
  -- ANC_DQ_HEAD
  ⟨0x2418, 1, 0x0, 1, 0x0, .boot, [⟨0, 32, .ro, 0x0⟩, ⟨32, 32, .ro, 0x0⟩]⟩,
  -- ANC_DQ_CTRL
  ⟨0x2420, 1, 0x0, 1, 0x0, .boot, [⟨0, 2, .wo, 0x0⟩, ⟨8, 1, .ro, 0x0⟩, ⟨16, 8, .ro, 0x0⟩, ⟨32, 32, .ro, 0x0⟩]⟩,
  -- ANC_DEV_STATE
  ⟨0x2428, 1, 0x0, 1, 0x0, .boot, [⟨0, 3, .ro, 0x2⟩]⟩,
  -- ANC_REL_EVENTS
  ⟨0x2480, 1, 0x0, 1, 0x0, .boot, [⟨0, 16, .rc, 0x0⟩, ⟨16, 16, .rc, 0x0⟩, ⟨32, 16, .rc, 0x0⟩, ⟨48, 16, .rc, 0x0⟩]⟩,
  -- ANC_SPARES
  ⟨0x2488, 1, 0x0, 1, 0x0, .boot, [⟨0, 48, .ro, 0x0⟩]⟩,
  -- ANC_FEED_ID
  ⟨0x2490, 1, 0x0, 1, 0x0, .boot, [⟨0, 32, .ro, 0x0⟩, ⟨32, 2, .ro, 0x0⟩]⟩,
  -- ANC_RESTORE_SRC
  ⟨0x2498, 1, 0x0, 1, 0x0, .boot, [⟨0, 40, .rw, 0x0⟩]⟩,
  -- ANC_RESTORE_CTRL
  ⟨0x24A0, 1, 0x0, 1, 0x0, .boot, [⟨0, 12, .rw, 0x0⟩, ⟨12, 1, .rw, 0x0⟩, ⟨13, 3, .rw, 0x0⟩, ⟨63, 1, .wo, 0x0⟩]⟩,
  -- ANC_RESTORE_STATUS
  ⟨0x24A8, 1, 0x0, 1, 0x0, .boot, [⟨0, 1, .ro, 0x0⟩, ⟨1, 1, .w1c, 0x0⟩, ⟨2, 1, .ro, 0x0⟩, ⟨8, 8, .ro, 0x0⟩]⟩,
  -- ANC_BOOT_STATUS
  ⟨0x2500, 1, 0x0, 1, 0x0, .boot, [⟨0, 4, .ro, 0x0⟩, ⟨8, 1, .ro, 0x0⟩, ⟨9, 1, .ro, 0x0⟩, ⟨10, 1, .ro, 0x0⟩, ⟨11, 1, .ro, 0x0⟩, ⟨12, 1, .ro, 0x0⟩, ⟨13, 1, .ro, 0x0⟩, ⟨14, 1, .ro, 0x0⟩, ⟨15, 1, .ro, 0x0⟩, ⟨16, 5, .ro, 0x0⟩, ⟨24, 8, .ro, 0x0⟩, ⟨32, 8, .ro, 0x0⟩]⟩,
  -- ANC_BOOT_TIME
  ⟨0x2508, 1, 0x0, 1, 0x0, .boot, [⟨0, 32, .ro, 0x0⟩, ⟨32, 32, .ro, 0x0⟩]⟩,
  -- ANC_MARK
  ⟨0x4000, 8, 0x800, 256, 0x8, .part, [⟨0, 32, .rw, 0x0⟩]⟩]

/-- Registers CFG_ (R445). -/
def regDefsCfg : List RegDef := [
  -- CFG_STATE
  ⟨0x10000, 1, 0x0, 1, 0x0, .boot, [⟨0, 1, .ro, 0x0⟩, ⟨1, 1, .ro, 0x0⟩, ⟨2, 1, .ro, 0x0⟩, ⟨32, 32, .ro, 0x0⟩]⟩,
  -- CFG_COMMITTED_DIGEST
  ⟨0x10008, 1, 0x0, 1, 0x0, .boot, [⟨0, 64, .ro, 0x0⟩]⟩,
  -- CFG_STAGED_DIGEST
  ⟨0x10010, 1, 0x0, 1, 0x0, .boot, [⟨0, 64, .ro, 0x0⟩]⟩,
  -- CFG_BARRIER
  ⟨0x10018, 1, 0x0, 1, 0x0, .boot, [⟨0, 64, .ro, 0x0⟩]⟩,
  -- CFG_EVENTS
  ⟨0x10020, 1, 0x0, 1, 0x0, .boot, [⟨0, 16, .rc, 0x0⟩, ⟨16, 16, .rc, 0x0⟩, ⟨32, 16, .rc, 0x0⟩, ⟨48, 16, .rc, 0x0⟩]⟩,
  -- CFG_FLOORPLAN
  ⟨0x10028, 1, 0x0, 1, 0x0, .boot, [⟨0, 32, .ro, 0x0⟩, ⟨32, 5, .ro, 0x0⟩, ⟨37, 10, .ro, 0x0⟩]⟩]

/-- Registers SEC_ (R518). -/
def regDefsSec : List RegDef := [
  -- SEC_STATUS
  ⟨0x11000, 1, 0x0, 1, 0x0, .boot, [⟨0, 1, .ro, 0x0⟩, ⟨1, 1, .ro, 0x0⟩, ⟨2, 1, .ro, 0x0⟩, ⟨3, 1, .ro, 0x0⟩, ⟨4, 1, .ro, 0x0⟩, ⟨5, 1, .ro, 0x0⟩, ⟨8, 4, .ro, 0x0⟩]⟩,
  -- SEC_COUNTERS
  ⟨0x11008, 1, 0x0, 1, 0x0, .boot, [⟨0, 32, .ro, 0x0⟩, ⟨32, 32, .ro, 0x0⟩]⟩,
  -- SEC_BIND
  ⟨0x11010, 1, 0x0, 1, 0x0, .boot, [⟨0, 64, .ro, 0x0⟩]⟩,
  -- SEC_KEY_ID
  ⟨0x11018, 1, 0x0, 1, 0x0, .boot, [⟨0, 64, .ro, 0x0⟩]⟩,
  -- SEC_SEALED
  ⟨0x11020, 1, 0x0, 1, 0x0, .boot, [⟨0, 7, .ro, 0x0⟩]⟩]

/-- Registers DBG_ (R518). -/
def regDefsDbg : List RegDef := [
  -- DBG_STATE
  ⟨0x12000, 1, 0x0, 1, 0x0, .boot, [⟨0, 1, .ro, 0x0⟩, ⟨1, 1, .ro, 0x0⟩, ⟨16, 9, .ro, 0x0⟩, ⟨32, 16, .ro, 0x0⟩]⟩]

/-- Registers PWR_ (R534). -/
def regDefsPwr : List RegDef := [
  -- PWR_STATUS
  ⟨0x13000, 1, 0x0, 1, 0x0, .boot, [⟨0, 16, .ro, 0x0⟩, ⟨16, 16, .ro, 0x0⟩, ⟨32, 1, .ro, 0x0⟩, ⟨33, 1, .ro, 0x0⟩, ⟨34, 1, .ro, 0x0⟩, ⟨35, 1, .ro, 0x0⟩, ⟨36, 1, .ro, 0x0⟩, ⟨37, 1, .ro, 0x0⟩, ⟨38, 1, .ro, 0x0⟩]⟩,
  -- PWR_LIMITS
  ⟨0x13008, 1, 0x0, 1, 0x0, .boot, [⟨0, 16, .ro, 0x0⟩, ⟨16, 16, .ro, 0x0⟩]⟩,
  -- PWR_FLOW
  ⟨0x13010, 1, 0x0, 1, 0x0, .boot, [⟨0, 8, .ro, 0x0⟩, ⟨8, 16, .ro, 0x0⟩]⟩,
  -- PWR_FLOW_OVERRIDE
  ⟨0x13018, 1, 0x0, 1, 0x0, .boot, [⟨0, 8, .rw, 0x0⟩, ⟨8, 1, .rw, 0x0⟩]⟩,
  -- PWR_GOV_EVENTS
  ⟨0x13020, 1, 0x0, 1, 0x0, .boot, [⟨0, 16, .rc, 0x0⟩, ⟨16, 16, .rc, 0x0⟩, ⟨32, 32, .rc, 0x0⟩]⟩,
  -- PWR_THERM_EVENTS
  ⟨0x13028, 1, 0x0, 1, 0x0, .boot, [⟨0, 16, .rc, 0x0⟩, ⟨16, 16, .rc, 0x0⟩, ⟨32, 16, .rc, 0x0⟩, ⟨48, 16, .rc, 0x0⟩]⟩]

/-- Registers INT_ (R499). -/
def regDefsInt : List RegDef := [
  -- INT_SUMMARY
  ⟨0x14000, 1, 0x0, 1, 0x0, .boot, [⟨0, 64, .ro, 0x0⟩]⟩,
  -- INT_ENABLE
  ⟨0x14008, 1, 0x0, 1, 0x0, .boot, [⟨0, 64, .rw, 0x0⟩]⟩,
  -- INT_CTRL
  ⟨0x14010, 1, 0x0, 1, 0x0, .boot, [⟨0, 1, .rw, 0x0⟩]⟩,
  -- INT_ACCESS_LOG
  ⟨0x14018, 1, 0x0, 1, 0x0, .boot, [⟨0, 30, .ro, 0x0⟩, ⟨30, 2, .ro, 0x0⟩, ⟨32, 2, .ro, 0x0⟩, ⟨63, 1, .w1c, 0x0⟩]⟩,
  -- INT_CAUSE
  ⟨0x14100, 18, 0x80, 1, 0x0, .boot, [⟨0, 64, .w1c, 0x0⟩]⟩,
  -- INT_CAUSE_EN
  ⟨0x14108, 18, 0x80, 1, 0x0, .boot, [⟨0, 64, .rw, 0xFFFFFFFFFFFFFFFF⟩]⟩,
  -- INT_COUNT0
  ⟨0x14110, 18, 0x80, 8, 0x8, .boot, [⟨0, 64, .rc, 0x0⟩]⟩,
  -- INT_HALT_MAP0
  ⟨0x17000, 5, 0x8, 1, 0x0, .boot, [⟨0, 64, .ro, 0x0⟩]⟩,
  -- INT_COMP_MAP0
  ⟨0x17040, 5, 0x8, 1, 0x0, .boot, [⟨0, 64, .w1c, 0x0⟩]⟩]

/-- Registers MGT_ (R499). -/
def regDefsMgt : List RegDef := [
  -- MGT_LICHEN_STATE
  ⟨0x18000, 1, 0x0, 1, 0x0, .boot, [⟨0, 2, .ro, 0x0⟩, ⟨16, 16, .rc, 0x0⟩, ⟨32, 16, .rc, 0x0⟩]⟩,
  -- MGT_FW_SLOT_A
  ⟨0x18008, 1, 0x0, 1, 0x0, .boot, [⟨0, 32, .ro, 0x0⟩, ⟨32, 3, .ro, 0x0⟩, ⟨35, 2, .ro, 0x0⟩]⟩,
  -- MGT_FW_SLOT_B
  ⟨0x18010, 1, 0x0, 1, 0x0, .boot, [⟨0, 32, .ro, 0x0⟩, ⟨32, 3, .ro, 0x0⟩, ⟨35, 2, .ro, 0x0⟩]⟩,
  -- MGT_FW_CTRL
  ⟨0x18018, 1, 0x0, 1, 0x0, .boot, [⟨0, 40, .rw, 0x0⟩, ⟨63, 1, .wo, 0x0⟩]⟩,
  -- MGT_FW_RESULT
  ⟨0x18020, 1, 0x0, 1, 0x0, .boot, [⟨0, 1, .ro, 0x0⟩, ⟨1, 1, .w1c, 0x0⟩, ⟨8, 8, .ro, 0x0⟩, ⟨16, 1, .ro, 0x0⟩]⟩,
  -- MGT_LOG_NEWEST
  ⟨0x18100, 1, 0x0, 1, 0x0, .boot, [⟨0, 48, .ro, 0x0⟩, ⟨48, 9, .ro, 0x0⟩]⟩,
  -- MGT_LOG_OLDEST
  ⟨0x18108, 1, 0x0, 1, 0x0, .boot, [⟨0, 48, .ro, 0x0⟩]⟩,
  -- MGT_LOG_SEL
  ⟨0x18110, 1, 0x0, 1, 0x0, .boot, [⟨0, 48, .rw, 0x0⟩, ⟨62, 1, .ro, 0x0⟩, ⟨63, 1, .ro, 0x0⟩]⟩,
  -- MGT_LOG_DATA0
  ⟨0x18118, 8, 0x8, 1, 0x0, .boot, [⟨0, 64, .ro, 0x0⟩]⟩,
  -- MGT_LOG_EVENTS
  ⟨0x18158, 1, 0x0, 1, 0x0, .aux, [⟨0, 32, .rc, 0x0⟩, ⟨32, 32, .rc, 0x0⟩]⟩,
  -- MGT_TELEM_STATE
  ⟨0x18160, 1, 0x0, 1, 0x0, .boot, [⟨0, 48, .ro, 0x0⟩]⟩,
  -- MGT_THERM
  ⟨0x19000, 240, 0x8, 1, 0x0, .boot, [⟨0, 16, .ro, 0x0⟩, ⟨16, 16, .rc, 0x0⟩, ⟨32, 1, .ro, 0x0⟩]⟩,
  -- MGT_RAIL
  ⟨0x19800, 10, 0x8, 1, 0x0, .boot, [⟨0, 16, .ro, 0x0⟩, ⟨16, 16, .ro, 0x0⟩, ⟨32, 16, .ro, 0x0⟩, ⟨48, 16, .rc, 0x0⟩]⟩,
  -- MGT_COOLANT
  ⟨0x19900, 1, 0x0, 1, 0x0, .boot, [⟨0, 16, .ro, 0x0⟩, ⟨16, 16, .ro, 0x0⟩, ⟨32, 16, .ro, 0x0⟩, ⟨48, 1, .ro, 0x0⟩]⟩]

/-- Registers MBX_ (R499). -/
def regDefsMbx : List RegDef := [
  -- MBX_DATA0
  ⟨0x20000, 320, 0x80, 12, 0x8, .boot, [⟨0, 64, .rw, 0x0⟩]⟩,
  -- MBX_CTRL
  ⟨0x20060, 320, 0x80, 1, 0x0, .boot, [⟨0, 1, .rw, 0x0⟩, ⟨1, 1, .w1c, 0x0⟩, ⟨8, 8, .ro, 0x0⟩, ⟨16, 16, .ro, 0x0⟩, ⟨32, 16, .rc, 0x0⟩]⟩]

/-- Registers FAB_ (R364, R467). -/
def regDefsFab : List RegDef := [
  -- FAB_ID
  ⟨0x30000, 1, 0x0, 1, 0x0, .boot, [⟨0, 8, .ro, 0x0⟩, ⟨8, 4, .ro, 0x0⟩, ⟨12, 1, .ro, 0x0⟩, ⟨13, 1, .ro, 0x0⟩]⟩,
  -- FAB_MSG_EVENTS
  ⟨0x30008, 1, 0x0, 1, 0x0, .boot, [⟨0, 16, .rc, 0x0⟩, ⟨16, 8, .rc, 0x0⟩, ⟨24, 8, .rc, 0x0⟩, ⟨32, 16, .rc, 0x0⟩, ⟨48, 8, .rc, 0x0⟩, ⟨56, 8, .rc, 0x0⟩]⟩,
  -- FAB_ASSIGN
  ⟨0x30010, 1, 0x0, 1, 0x0, .boot, [⟨0, 8, .rw, 0x0⟩, ⟨63, 1, .wo, 0x0⟩]⟩,
  -- FAB_GOSSIP
  ⟨0x30018, 1, 0x0, 1, 0x0, .boot, [⟨0, 16, .ro, 0x0⟩, ⟨16, 3, .ro, 0x0⟩, ⟨32, 16, .rc, 0x0⟩, ⟨48, 16, .rc, 0x0⟩]⟩,
  -- FAB_BARRIER
  ⟨0x30020, 1, 0x0, 1, 0x0, .boot, [⟨0, 32, .ro, 0x0⟩, ⟨32, 13, .ro, 0x0⟩, ⟨63, 1, .ro, 0x0⟩]⟩,
  -- FAB_HWIN
  ⟨0x30800, 16, 0x8, 1, 0x0, .boot, [⟨0, 12, .rw, 0x0⟩, ⟨12, 1, .rw, 0x0⟩, ⟨15, 1, .rw, 0x0⟩, ⟨16, 6, .rw, 0x0⟩]⟩,
  -- FAB_HDMA_BASE
  ⟨0x30900, 1, 0x0, 1, 0x0, .boot, [⟨0, 64, .rw, 0x0⟩]⟩,
  -- FAB_HDMA_CTRL
  ⟨0x30908, 1, 0x0, 1, 0x0, .boot, [⟨0, 5, .rw, 0x18⟩, ⟨5, 1, .rw, 0x0⟩]⟩,
  -- FAB_HDMA_PTR
  ⟨0x30980, 16, 0x8, 1, 0x0, .boot, [⟨0, 32, .ro, 0x0⟩, ⟨32, 32, .rw, 0x0⟩]⟩,
  -- FAB_PORT_STATUS
  ⟨0x31000, 36, 0x40, 1, 0x0, .boot, [⟨0, 3, .ro, 0x0⟩, ⟨8, 12, .ro, 0x0⟩, ⟨20, 6, .ro, 0x0⟩, ⟨32, 16, .rc, 0x0⟩]⟩,
  -- FAB_PORT_ERR
  ⟨0x31008, 36, 0x40, 1, 0x0, .boot, [⟨0, 32, .rc, 0x0⟩, ⟨32, 16, .rc, 0x0⟩, ⟨48, 16, .rc, 0x0⟩]⟩,
  -- FAB_PORT_REPLAY
  ⟨0x31010, 36, 0x40, 1, 0x0, .boot, [⟨0, 32, .rc, 0x0⟩, ⟨32, 16, .rc, 0x0⟩, ⟨48, 16, .rc, 0x0⟩]⟩,
  -- FAB_PORT_FLITS
  ⟨0x31018, 36, 0x40, 1, 0x0, .boot, [⟨0, 48, .rc, 0x0⟩]⟩,
  -- FAB_PORT_CTRL
  ⟨0x31020, 36, 0x40, 1, 0x0, .boot, [⟨0, 1, .wo, 0x0⟩]⟩,
  -- FAB_PORT_ATTEST
  ⟨0x31028, 36, 0x40, 1, 0x0, .boot, [⟨0, 2, .ro, 0x0⟩, ⟨2, 1, .ro, 0x0⟩, ⟨3, 1, .ro, 0x0⟩]⟩,
  -- FAB_ROUTE
  ⟨0x34000, 256, 0x8, 1, 0x0, .boot, [⟨0, 16, .ro, 0x0⟩, ⟨16, 16, .ro, 0x0⟩, ⟨32, 16, .ro, 0x0⟩, ⟨48, 16, .ro, 0x0⟩]⟩]

/-- Registers RED_ (R398). -/
def regDefsRed : List RegDef := [
  -- RED_EPOCH_STATE
  ⟨0x40000, 8, 0x40, 1, 0x0, .part, [⟨0, 32, .ro, 0x0⟩, ⟨32, 2, .ro, 0x0⟩, ⟨34, 3, .ro, 0x0⟩, ⟨37, 1, .ro, 0x0⟩]⟩,
  -- RED_CHECK_EVENTS
  ⟨0x40008, 8, 0x40, 1, 0x0, .part, [⟨0, 16, .rc, 0x0⟩, ⟨16, 16, .rc, 0x0⟩, ⟨32, 16, .rc, 0x0⟩, ⟨48, 16, .rc, 0x0⟩]⟩,
  -- RED_BLOCK_EVENTS
  ⟨0x40010, 8, 0x40, 1, 0x0, .part, [⟨0, 32, .rc, 0x0⟩, ⟨32, 16, .rc, 0x0⟩, ⟨48, 16, .rc, 0x0⟩]⟩,
  -- RED_LATE_EVENTS
  ⟨0x40018, 8, 0x40, 1, 0x0, .part, [⟨0, 16, .rc, 0x0⟩, ⟨16, 16, .rc, 0x0⟩, ⟨32, 16, .rc, 0x0⟩, ⟨48, 8, .rc, 0x0⟩, ⟨56, 8, .rc, 0x0⟩]⟩,
  -- RED_RETAIN
  ⟨0x40020, 8, 0x40, 1, 0x0, .part, [⟨0, 40, .ro, 0x0⟩]⟩]

/-- Registers HBM_ (R307). -/
def regDefsHbm : List RegDef := [
  -- HBM_STATUS
  ⟨0x50000, 12, 0x1000, 1, 0x0, .boot, [⟨0, 1, .ro, 0x0⟩, ⟨1, 1, .ro, 0x0⟩, ⟨8, 8, .ro, 0x0⟩, ⟨16, 16, .ro, 0x0⟩, ⟨32, 16, .ro, 0x0⟩]⟩,
  -- HBM_ERR_EVENTS
  ⟨0x50008, 12, 0x1000, 1, 0x0, .boot, [⟨0, 16, .rc, 0x0⟩, ⟨16, 16, .rc, 0x0⟩, ⟨32, 16, .rc, 0x0⟩, ⟨48, 16, .rc, 0x0⟩]⟩,
  -- HBM_LAST_POISON
  ⟨0x50010, 12, 0x1000, 1, 0x0, .boot, [⟨8, 28, .ro, 0x0⟩, ⟨36, 4, .ro, 0x0⟩, ⟨63, 1, .w1c, 0x0⟩]⟩,
  -- HBM_TRAFFIC
  ⟨0x50018, 12, 0x1000, 1, 0x0, .boot, [⟨0, 48, .rc, 0x0⟩]⟩,
  -- HBM_RMW
  ⟨0x50020, 12, 0x1000, 1, 0x0, .boot, [⟨0, 32, .rc, 0x0⟩, ⟨32, 32, .rc, 0x0⟩]⟩,
  -- HBM_TP_CTRL
  ⟨0x50040, 12, 0x1000, 1, 0x0, .boot, [⟨0, 8, .rw, 0x0⟩, ⟨8, 16, .rw, 0x0⟩, ⟨63, 1, .wo, 0x0⟩]⟩,
  -- HBM_TP_DATA
  ⟨0x50048, 12, 0x1000, 1, 0x0, .boot, [⟨0, 64, .rw, 0x0⟩]⟩,
  -- HBM_TP_STATUS
  ⟨0x50050, 12, 0x1000, 1, 0x0, .boot, [⟨0, 1, .ro, 0x0⟩, ⟨1, 1, .w1c, 0x0⟩, ⟨2, 1, .w1c, 0x0⟩]⟩]

/-- Registers CSH_ (R191, R278, R307, R327). -/
def regDefsCsh : List RegDef := [
  -- CSH_GADD_EVENTS
  ⟨0x60200, 24, 0x1000, 1, 0x0, .boot, [⟨0, 32, .rc, 0x0⟩, ⟨32, 16, .rc, 0x0⟩, ⟨48, 16, .rc, 0x0⟩]⟩,
  -- CSH_LAYOUT_EVENTS
  ⟨0x60208, 24, 0x1000, 1, 0x0, .boot, [⟨0, 32, .rc, 0x0⟩, ⟨32, 32, .rc, 0x0⟩]⟩,
  -- CSH_NARROW
  ⟨0x60210, 24, 0x1000, 1, 0x0, .boot, [⟨0, 48, .rc, 0x0⟩]⟩,
  -- CSH_SRAM_EVENTS
  ⟨0x60218, 24, 0x1000, 1, 0x0, .boot, [⟨0, 32, .rc, 0x0⟩, ⟨32, 16, .rc, 0x0⟩]⟩,
  -- CSH_Q_BASE
  ⟨0x60220, 24, 0x1000, 1, 0x0, .owner, [⟨0, 40, .rw, 0x0⟩, ⟨40, 5, .rw, 0xA⟩]⟩,
  -- CSH_Q_CQ_BASE
  ⟨0x60228, 24, 0x1000, 1, 0x0, .owner, [⟨0, 40, .rw, 0x0⟩]⟩,
  -- CSH_Q_TAIL
  ⟨0x60230, 24, 0x1000, 1, 0x0, .owner, [⟨0, 32, .rw, 0x0⟩]⟩,
  -- CSH_Q_HEAD
  ⟨0x60238, 24, 0x1000, 1, 0x0, .owner, [⟨0, 32, .ro, 0x0⟩, ⟨32, 32, .ro, 0x0⟩]⟩,
  -- CSH_Q_CTRL
  ⟨0x60240, 24, 0x1000, 1, 0x0, .owner, [⟨0, 2, .wo, 0x0⟩, ⟨8, 1, .ro, 0x0⟩, ⟨16, 8, .ro, 0x0⟩, ⟨32, 32, .ro, 0x0⟩]⟩,
  -- CSH_POISON_EVENTS
  ⟨0x60248, 24, 0x1000, 1, 0x0, .boot, [⟨0, 16, .rc, 0x0⟩]⟩]

/-- Registers FRD_ (R65, R94, R114, R136, R162, R191, R221, R246, R278, R307, R327, R426, R534). -/
def regDefsFrd : List RegDef := [
  -- FRD_FMT_EVENTS
  ⟨0x100400, 288, 0x1000, 1, 0x0, .frond, [⟨0, 32, .rc, 0x0⟩, ⟨32, 16, .rc, 0x0⟩, ⟨48, 16, .rc, 0x0⟩]⟩,
  -- FRD_SCALE_EVENTS
  ⟨0x100408, 288, 0x1000, 1, 0x0, .frond, [⟨0, 16, .rc, 0x0⟩, ⟨16, 16, .rc, 0x0⟩, ⟨32, 16, .rc, 0x0⟩, ⟨48, 16, .rc, 0x0⟩]⟩,
  -- FRD_QNT_SPECIALS
  ⟨0x100410, 288, 0x1000, 1, 0x0, .frond, [⟨0, 32, .rc, 0x0⟩, ⟨32, 32, .rc, 0x0⟩]⟩,
  -- FRD_EPI_EVENTS
  ⟨0x100418, 288, 0x1000, 1, 0x0, .frond, [⟨0, 32, .rc, 0x0⟩, ⟨32, 16, .rc, 0x0⟩, ⟨48, 16, .rc, 0x0⟩]⟩,
  -- FRD_EPI_STALLS
  ⟨0x100420, 288, 0x1000, 1, 0x0, .frond, [⟨0, 48, .rc, 0x0⟩]⟩,
  -- FRD_DOT_EVENTS
  ⟨0x100428, 288, 0x1000, 1, 0x0, .frond, [⟨0, 16, .rc, 0x0⟩, ⟨16, 16, .rc, 0x0⟩, ⟨32, 16, .rc, 0x0⟩, ⟨48, 16, .rc, 0x0⟩]⟩,
  -- FRD_DOT_STALLS
  ⟨0x100430, 288, 0x1000, 1, 0x0, .frond, [⟨0, 48, .rc, 0x0⟩, ⟨48, 16, .rc, 0x0⟩]⟩,
  -- FRD_FB_EVENTS
  ⟨0x100438, 288, 0x1000, 1, 0x0, .frond, [⟨0, 32, .rc, 0x0⟩, ⟨32, 16, .rc, 0x0⟩, ⟨48, 16, .rc, 0x0⟩]⟩,
  -- FRD_ARRAY_BUSY
  ⟨0x100440, 288, 0x1000, 1, 0x0, .frond, [⟨0, 48, .rc, 0x0⟩]⟩,
  -- FRD_ARRAY_WAITS
  ⟨0x100448, 288, 0x1000, 1, 0x0, .frond, [⟨0, 48, .rc, 0x0⟩]⟩,
  -- FRD_ARRAY_EVENTS
  ⟨0x100450, 288, 0x1000, 1, 0x0, .frond, [⟨0, 48, .rc, 0x0⟩, ⟨48, 16, .rc, 0x0⟩]⟩,
  -- FRD_RHZ_STATE
  ⟨0x100458, 288, 0x1000, 1, 0x0, .frond, [⟨0, 8, .ro, 0x80⟩, ⟨8, 8, .ro, 0x0⟩, ⟨16, 8, .ro, 0x0⟩, ⟨24, 8, .ro, 0x0⟩]⟩,
  -- FRD_VEC_BUSY
  ⟨0x100460, 288, 0x1000, 1, 0x0, .frond, [⟨0, 48, .rc, 0x0⟩]⟩,
  -- FRD_VEC_WAITS
  ⟨0x100468, 288, 0x1000, 1, 0x0, .frond, [⟨0, 48, .rc, 0x0⟩]⟩,
  -- FRD_VEC_EVENTS
  ⟨0x100470, 288, 0x1000, 1, 0x0, .frond, [⟨0, 32, .rc, 0x0⟩, ⟨32, 32, .rc, 0x0⟩]⟩,
  -- FRD_SMX_EVENTS
  ⟨0x100478, 288, 0x1000, 1, 0x0, .frond, [⟨0, 16, .rc, 0x0⟩, ⟨16, 16, .rc, 0x0⟩, ⟨32, 16, .rc, 0x0⟩, ⟨48, 16, .rc, 0x0⟩]⟩,
  -- FRD_SMP_COUNT
  ⟨0x100480, 288, 0x1000, 1, 0x0, .frond, [⟨0, 48, .rc, 0x0⟩]⟩,
  -- FRD_VEC_FAULT
  ⟨0x100488, 288, 0x1000, 1, 0x0, .frond, [⟨0, 32, .ro, 0x0⟩, ⟨32, 8, .ro, 0x0⟩, ⟨40, 10, .ro, 0x0⟩, ⟨50, 2, .ro, 0x0⟩, ⟨62, 1, .ro, 0x0⟩, ⟨63, 1, .w1c, 0x0⟩]⟩,
  -- FRD_UPD_WAITS
  ⟨0x100490, 288, 0x1000, 1, 0x0, .frond, [⟨0, 48, .rc, 0x0⟩]⟩,
  -- FRD_LAYOUT_EVENTS
  ⟨0x100498, 288, 0x1000, 1, 0x0, .frond, [⟨0, 16, .rc, 0x0⟩, ⟨16, 16, .rc, 0x0⟩, ⟨32, 32, .rc, 0x0⟩]⟩,
  -- FRD_STREAM_STATE
  ⟨0x1004A0, 288, 0x1000, 1, 0x0, .frond, [⟨0, 14, .ro, 0x0⟩, ⟨16, 14, .rc, 0x0⟩]⟩,
  -- FRD_STREAM_STALLS
  ⟨0x1004A8, 288, 0x1000, 1, 0x0, .frond, [⟨0, 48, .rc, 0x0⟩]⟩,
  -- FRD_POISON_EVENTS
  ⟨0x1004B0, 288, 0x1000, 1, 0x0, .frond, [⟨0, 16, .rc, 0x0⟩, ⟨16, 16, .rc, 0x0⟩, ⟨32, 16, .rc, 0x0⟩, ⟨48, 16, .rc, 0x0⟩]⟩,
  -- FRD_Q_BASE
  ⟨0x1004B8, 288, 0x1000, 1, 0x0, .owner, [⟨0, 40, .rw, 0x0⟩, ⟨40, 5, .rw, 0xA⟩]⟩,
  -- FRD_Q_CQ_BASE
  ⟨0x1004C0, 288, 0x1000, 1, 0x0, .owner, [⟨0, 40, .rw, 0x0⟩]⟩,
  -- FRD_Q_TAIL
  ⟨0x1004C8, 288, 0x1000, 1, 0x0, .owner, [⟨0, 32, .rw, 0x0⟩]⟩,
  -- FRD_Q_HEAD
  ⟨0x1004D0, 288, 0x1000, 1, 0x0, .owner, [⟨0, 32, .ro, 0x0⟩, ⟨32, 32, .ro, 0x0⟩]⟩,
  -- FRD_Q_CTRL
  ⟨0x1004D8, 288, 0x1000, 1, 0x0, .owner, [⟨0, 2, .wo, 0x0⟩, ⟨8, 1, .ro, 0x0⟩, ⟨16, 8, .ro, 0x0⟩, ⟨32, 32, .ro, 0x0⟩]⟩,
  -- FRD_REL_EVENTS
  ⟨0x1004E0, 288, 0x1000, 1, 0x0, .frond, [⟨0, 16, .rc, 0x0⟩, ⟨16, 16, .rc, 0x0⟩, ⟨32, 16, .rc, 0x0⟩, ⟨48, 16, .rc, 0x0⟩]⟩,
  -- FRD_REL_STATE
  ⟨0x1004E8, 288, 0x1000, 1, 0x0, .frond, [⟨0, 32, .ro, 0x0⟩, ⟨32, 1, .ro, 0x0⟩, ⟨33, 1, .ro, 0x0⟩, ⟨34, 2, .ro, 0x0⟩, ⟨36, 2, .ro, 0x0⟩]⟩,
  -- FRD_PWR_EVENTS
  ⟨0x1004F0, 288, 0x1000, 1, 0x0, .frond, [⟨0, 32, .rc, 0x0⟩, ⟨32, 24, .rc, 0x0⟩, ⟨56, 8, .rc, 0x0⟩]⟩]

/-- Every register (R545). -/
def regDefs : List RegDef :=
  regDefsAnc ++ regDefsCfg ++ regDefsSec ++ regDefsDbg ++ regDefsPwr ++ regDefsInt ++ regDefsMgt ++ regDefsMbx ++ regDefsFab ++ regDefsRed ++ regDefsHbm ++ regDefsCsh ++ regDefsFrd

def ANC_DEVICE_ID_VENDOR : Fld := ⟨0x0, 0, 16, 0x0⟩
def ANC_DEVICE_ID_PART : Fld := ⟨0x0, 16, 16, 0x0⟩
def ANC_DEVICE_ID_STEPPING : Fld := ⟨0x0, 32, 8, 0x0⟩
def ANC_DEVICE_ID_FRONDS : Fld := ⟨0x0, 40, 9, 0x0⟩
def ANC_FB_COUNTS_LAYER_FB : Fld := ⟨0x2000, 0, 32, 0x10⟩
def ANC_FB_COUNTS_STORMS : Fld := ⟨0x2000, 32, 16, 0x10⟩
def ANC_FB_COUNTS_SPILL_FULL : Fld := ⟨0x2000, 48, 16, 0x10⟩
def ANC_FB_STATE_STEP_LAYERS_FB : Fld := ⟨0x2008, 0, 16, 0x10⟩
def ANC_FB_STATE_STORM : Fld := ⟨0x2008, 16, 1, 0x10⟩
def ANC_FB_STATE_RESERVE_USED : Fld := ⟨0x2008, 24, 24, 0x10⟩
def ANC_STEP_COUNT_STEP : Fld := ⟨0x2100, 0, 64, 0x20⟩
def ANC_UPD_EVENTS_SKIPPED_STEPS : Fld := ⟨0x2108, 0, 16, 0x20⟩
def ANC_UPD_EVENTS_SKIPPED_TENSORS : Fld := ⟨0x2108, 16, 16, 0x20⟩
def ANC_UPD_EVENTS_CLIPPED : Fld := ⟨0x2108, 32, 16, 0x20⟩
def ANC_UPD_EVENTS_NONFIN_OUT : Fld := ⟨0x2108, 48, 16, 0x20⟩
def ANC_DRAIN_STATE_PENDING : Fld := ⟨0x2110, 0, 24, 0x20⟩
def ANC_DRAIN_STATE_BUDDY_DONE : Fld := ⟨0x2110, 24, 1, 0x20⟩
def ANC_DRAIN_STATE_ROLLOUT_DONE : Fld := ⟨0x2110, 25, 1, 0x20⟩
def ANC_DRAIN_STATE_CKPT_DONE : Fld := ⟨0x2110, 26, 1, 0x20⟩
def ANC_DRAIN_STATE_CKPT_DUE : Fld := ⟨0x2110, 27, 1, 0x20⟩
def ANC_DRAIN_STATE_VERSION_LO : Fld := ⟨0x2110, 32, 32, 0x20⟩
def ANC_DRAIN_EVENTS_ABANDONED : Fld := ⟨0x2118, 0, 16, 0x20⟩
def ANC_DRAIN_EVENTS_COMMIT_WAIT : Fld := ⟨0x2118, 16, 48, 0x20⟩
def ANC_Q_BASE_BASE : Fld := ⟨0x2200, 0, 40, 0x40⟩
def ANC_Q_BASE_LOG2_SIZE : Fld := ⟨0x2200, 40, 5, 0x40⟩
def ANC_Q_CQ_BASE_BASE : Fld := ⟨0x2208, 0, 40, 0x40⟩
def ANC_Q_TAIL_TAIL : Fld := ⟨0x2210, 0, 32, 0x40⟩
def ANC_Q_HEAD_ISSUED : Fld := ⟨0x2218, 0, 32, 0x40⟩
def ANC_Q_HEAD_COMPLETED : Fld := ⟨0x2218, 32, 32, 0x40⟩
def ANC_Q_CTRL_ACTION : Fld := ⟨0x2220, 0, 2, 0x40⟩
def ANC_Q_CTRL_HALTED : Fld := ⟨0x2220, 8, 1, 0x40⟩
def ANC_Q_CTRL_HALTS : Fld := ⟨0x2220, 16, 8, 0x40⟩
def ANC_Q_CTRL_HALT_POS : Fld := ⟨0x2220, 32, 32, 0x40⟩
def ANC_PART_STATE_STATE : Fld := ⟨0x2228, 0, 3, 0x40⟩
def ANC_PART_STATE_FAULT_STATUS : Fld := ⟨0x2228, 8, 8, 0x40⟩
def ANC_DQ_BASE_BASE : Fld := ⟨0x2400, 0, 40, 0x0⟩
def ANC_DQ_BASE_LOG2_SIZE : Fld := ⟨0x2400, 40, 5, 0x0⟩
def ANC_DQ_CQ_BASE_BASE : Fld := ⟨0x2408, 0, 40, 0x0⟩
def ANC_DQ_TAIL_TAIL : Fld := ⟨0x2410, 0, 32, 0x0⟩
def ANC_DQ_HEAD_ISSUED : Fld := ⟨0x2418, 0, 32, 0x0⟩
def ANC_DQ_HEAD_COMPLETED : Fld := ⟨0x2418, 32, 32, 0x0⟩
def ANC_DQ_CTRL_ACTION : Fld := ⟨0x2420, 0, 2, 0x0⟩
def ANC_DQ_CTRL_HALTED : Fld := ⟨0x2420, 8, 1, 0x0⟩
def ANC_DQ_CTRL_HALTS : Fld := ⟨0x2420, 16, 8, 0x0⟩
def ANC_DQ_CTRL_HALT_POS : Fld := ⟨0x2420, 32, 32, 0x0⟩
def ANC_DEV_STATE_STATE : Fld := ⟨0x2428, 0, 3, 0x0⟩
def ANC_REL_EVENTS_PERM_MISMATCH : Fld := ⟨0x2480, 0, 16, 0x0⟩
def ANC_REL_EVENTS_RETIRED : Fld := ⟨0x2480, 16, 16, 0x0⟩
def ANC_REL_EVENTS_UNRESOLVED : Fld := ⟨0x2480, 32, 16, 0x0⟩
def ANC_REL_EVENTS_TESTS_RUN : Fld := ⟨0x2480, 48, 16, 0x0⟩
def ANC_SPARES_CUSHIONS : Fld := ⟨0x2488, 0, 48, 0x0⟩
def ANC_FEED_ID_FEED : Fld := ⟨0x2490, 0, 32, 0x0⟩
def ANC_FEED_ID_SOURCE : Fld := ⟨0x2490, 32, 2, 0x0⟩
def ANC_RESTORE_SRC_ADDR : Fld := ⟨0x2498, 0, 40, 0x0⟩
def ANC_RESTORE_CTRL_SRC_DEV : Fld := ⟨0x24A0, 0, 12, 0x0⟩
def ANC_RESTORE_CTRL_REMOTE : Fld := ⟨0x24A0, 12, 1, 0x0⟩
def ANC_RESTORE_CTRL_PARTITION : Fld := ⟨0x24A0, 13, 3, 0x0⟩
def ANC_RESTORE_CTRL_GO : Fld := ⟨0x24A0, 63, 1, 0x0⟩
def ANC_RESTORE_STATUS_BUSY : Fld := ⟨0x24A8, 0, 1, 0x0⟩
def ANC_RESTORE_STATUS_DONE : Fld := ⟨0x24A8, 1, 1, 0x0⟩
def ANC_RESTORE_STATUS_ORDER_CHANGED : Fld := ⟨0x24A8, 2, 1, 0x0⟩
def ANC_RESTORE_STATUS_STATUS : Fld := ⟨0x24A8, 8, 8, 0x0⟩
def ANC_BOOT_STATUS_BOOT_ERROR : Fld := ⟨0x2500, 0, 4, 0x0⟩
def ANC_BOOT_STATUS_FW_OK : Fld := ⟨0x2500, 8, 1, 0x0⟩
def ANC_BOOT_STATUS_FLOORPLAN_OK : Fld := ⟨0x2500, 9, 1, 0x0⟩
def ANC_BOOT_STATUS_IMAGE_OK : Fld := ⟨0x2500, 10, 1, 0x0⟩
def ANC_BOOT_STATUS_HBM_OK : Fld := ⟨0x2500, 11, 1, 0x0⟩
def ANC_BOOT_STATUS_COLONY_OK : Fld := ⟨0x2500, 12, 1, 0x0⟩
def ANC_BOOT_STATUS_ROUTES_OK : Fld := ⟨0x2500, 13, 1, 0x0⟩
def ANC_BOOT_STATUS_FABRIC_READY : Fld := ⟨0x2500, 14, 1, 0x0⟩
def ANC_BOOT_STATUS_PARTIAL : Fld := ⟨0x2500, 15, 1, 0x0⟩
def ANC_BOOT_STATUS_LATE : Fld := ⟨0x2500, 16, 5, 0x0⟩
def ANC_BOOT_STATUS_VERIFIED : Fld := ⟨0x2500, 24, 8, 0x0⟩
def ANC_BOOT_STATUS_VERIFY_FAIL : Fld := ⟨0x2500, 32, 8, 0x0⟩
def ANC_BOOT_TIME_READY_TICKS : Fld := ⟨0x2508, 0, 32, 0x0⟩
def ANC_BOOT_TIME_FABRIC_TICKS : Fld := ⟨0x2508, 32, 32, 0x0⟩
def ANC_MARK_COUNT : Fld := ⟨0x4000, 0, 32, 0x800⟩
def CFG_STATE_STAGED : Fld := ⟨0x10000, 0, 1, 0x0⟩
def CFG_STATE_COMMIT_WAIT : Fld := ⟨0x10000, 1, 1, 0x0⟩
def CFG_STATE_BARRIER_WAIT : Fld := ⟨0x10000, 2, 1, 0x0⟩
def CFG_STATE_SECURITY_VERSION : Fld := ⟨0x10000, 32, 32, 0x0⟩
def CFG_COMMITTED_DIGEST_DIGEST : Fld := ⟨0x10008, 0, 64, 0x0⟩
def CFG_STAGED_DIGEST_DIGEST : Fld := ⟨0x10010, 0, 64, 0x0⟩
def CFG_BARRIER_LAST_EPOCH : Fld := ⟨0x10018, 0, 64, 0x0⟩
def CFG_EVENTS_CHECKS : Fld := ⟨0x10020, 0, 16, 0x0⟩
def CFG_EVENTS_CHECK_FAILS : Fld := ⟨0x10020, 16, 16, 0x0⟩
def CFG_EVENTS_COMMITS : Fld := ⟨0x10020, 32, 16, 0x0⟩
def CFG_EVENTS_COMMIT_FAILS : Fld := ⟨0x10020, 48, 16, 0x0⟩
def CFG_FLOORPLAN_SEQUENCE : Fld := ⟨0x10028, 0, 32, 0x0⟩
def CFG_FLOORPLAN_WITHDRAWN : Fld := ⟨0x10028, 32, 5, 0x0⟩
def CFG_FLOORPLAN_RETIRED_GRANULES : Fld := ⟨0x10028, 37, 10, 0x0⟩
def SEC_STATUS_OPENED : Fld := ⟨0x11000, 0, 1, 0x0⟩
def SEC_STATUS_CERTIFIED : Fld := ⟨0x11000, 1, 1, 0x0⟩
def SEC_STATUS_OWNER_KEY : Fld := ⟨0x11000, 2, 1, 0x0⟩
def SEC_STATUS_PUF_FAIL : Fld := ⟨0x11000, 3, 1, 0x0⟩
def SEC_STATUS_PORT_OPEN : Fld := ⟨0x11000, 4, 1, 0x0⟩
def SEC_STATUS_LOCKED : Fld := ⟨0x11000, 5, 1, 0x0⟩
def SEC_STATUS_UNLOCK_FAILS : Fld := ⟨0x11000, 8, 4, 0x0⟩
def SEC_COUNTERS_IMAGE : Fld := ⟨0x11008, 0, 32, 0x0⟩
def SEC_COUNTERS_FIRMWARE : Fld := ⟨0x11008, 32, 32, 0x0⟩
def SEC_BIND_BIND_ID : Fld := ⟨0x11010, 0, 64, 0x0⟩
def SEC_KEY_ID_KEY_ID : Fld := ⟨0x11018, 0, 64, 0x0⟩
def SEC_SEALED_SLOTS : Fld := ⟨0x11020, 0, 7, 0x0⟩
def DBG_STATE_OPEN : Fld := ⟨0x12000, 0, 1, 0x0⟩
def DBG_STATE_LICHEN_HALTED : Fld := ⟨0x12000, 1, 1, 0x0⟩
def DBG_STATE_SEQ_HALTED : Fld := ⟨0x12000, 16, 9, 0x0⟩
def DBG_STATE_TARGET : Fld := ⟨0x12000, 32, 16, 0x0⟩
def PWR_STATUS_WINDOW_POWER : Fld := ⟨0x13000, 0, 16, 0x0⟩
def PWR_STATUS_AVG_1S : Fld := ⟨0x13000, 16, 16, 0x0⟩
def PWR_STATUS_THROTTLE : Fld := ⟨0x13000, 32, 1, 0x0⟩
def PWR_STATUS_BALLAST : Fld := ⟨0x13000, 33, 1, 0x0⟩
def PWR_STATUS_THERM_WARN : Fld := ⟨0x13000, 34, 1, 0x0⟩
def PWR_STATUS_CRIT_HOLD : Fld := ⟨0x13000, 35, 1, 0x0⟩
def PWR_STATUS_COOLANT_CAP : Fld := ⟨0x13000, 36, 1, 0x0⟩
def PWR_STATUS_EXCURSION : Fld := ⟨0x13000, 37, 1, 0x0⟩
def PWR_STATUS_PGOOD : Fld := ⟨0x13000, 38, 1, 0x0⟩
def PWR_LIMITS_CEILING : Fld := ⟨0x13008, 0, 16, 0x0⟩
def PWR_LIMITS_FLOOR : Fld := ⟨0x13008, 16, 16, 0x0⟩
def PWR_FLOW_DUTY : Fld := ⟨0x13010, 0, 8, 0x0⟩
def PWR_FLOW_TARGET : Fld := ⟨0x13010, 8, 16, 0x0⟩
def PWR_FLOW_OVERRIDE_DUTY : Fld := ⟨0x13018, 0, 8, 0x0⟩
def PWR_FLOW_OVERRIDE_ENABLE : Fld := ⟨0x13018, 8, 1, 0x0⟩
def PWR_GOV_EVENTS_EXCURSIONS : Fld := ⟨0x13020, 0, 16, 0x0⟩
def PWR_GOV_EVENTS_FLOOR_SHORT : Fld := ⟨0x13020, 16, 16, 0x0⟩
def PWR_GOV_EVENTS_THROTTLE_WINDOWS : Fld := ⟨0x13020, 32, 32, 0x0⟩
def PWR_THERM_EVENTS_WARN_ENTRIES : Fld := ⟨0x13028, 0, 16, 0x0⟩
def PWR_THERM_EVENTS_CRIT_HOLDS : Fld := ⟨0x13028, 16, 16, 0x0⟩
def PWR_THERM_EVENTS_COOLANT_EVENTS : Fld := ⟨0x13028, 32, 16, 0x0⟩
def PWR_THERM_EVENTS_RAIL_EVENTS : Fld := ⟨0x13028, 48, 16, 0x0⟩
def INT_SUMMARY_BLOCKS : Fld := ⟨0x14000, 0, 64, 0x0⟩
def INT_ENABLE_ENABLE : Fld := ⟨0x14008, 0, 64, 0x0⟩
def INT_CTRL_FWD : Fld := ⟨0x14010, 0, 1, 0x0⟩
def INT_ACCESS_LOG_OFFSET : Fld := ⟨0x14018, 0, 30, 0x0⟩
def INT_ACCESS_LOG_REQUESTER : Fld := ⟨0x14018, 30, 2, 0x0⟩
def INT_ACCESS_LOG_KIND : Fld := ⟨0x14018, 32, 2, 0x0⟩
def INT_ACCESS_LOG_VALID : Fld := ⟨0x14018, 63, 1, 0x0⟩
def INT_CAUSE_CAUSE : Fld := ⟨0x14100, 0, 64, 0x80⟩
def INT_CAUSE_EN_EN : Fld := ⟨0x14108, 0, 64, 0x80⟩
def INT_COUNT0_COUNT : Fld := ⟨0x14110, 0, 64, 0x80⟩
def INT_HALT_MAP0_HALTED : Fld := ⟨0x17000, 0, 64, 0x8⟩
def INT_COMP_MAP0_COMPLETED : Fld := ⟨0x17040, 0, 64, 0x8⟩
def MGT_LICHEN_STATE_STATE : Fld := ⟨0x18000, 0, 2, 0x0⟩
def MGT_LICHEN_STATE_WAKES : Fld := ⟨0x18000, 16, 16, 0x0⟩
def MGT_LICHEN_STATE_RESETS : Fld := ⟨0x18000, 32, 16, 0x0⟩
def MGT_FW_SLOT_A_VERSION : Fld := ⟨0x18008, 0, 32, 0x0⟩
def MGT_FW_SLOT_A_STATE : Fld := ⟨0x18008, 32, 3, 0x0⟩
def MGT_FW_SLOT_A_TRIES : Fld := ⟨0x18008, 35, 2, 0x0⟩
def MGT_FW_SLOT_B_VERSION : Fld := ⟨0x18010, 0, 32, 0x0⟩
def MGT_FW_SLOT_B_STATE : Fld := ⟨0x18010, 32, 3, 0x0⟩
def MGT_FW_SLOT_B_TRIES : Fld := ⟨0x18010, 35, 2, 0x0⟩
def MGT_FW_CTRL_ADDR : Fld := ⟨0x18018, 0, 40, 0x0⟩
def MGT_FW_CTRL_GO : Fld := ⟨0x18018, 63, 1, 0x0⟩
def MGT_FW_RESULT_BUSY : Fld := ⟨0x18020, 0, 1, 0x0⟩
def MGT_FW_RESULT_DONE : Fld := ⟨0x18020, 1, 1, 0x0⟩
def MGT_FW_RESULT_STATUS : Fld := ⟨0x18020, 8, 8, 0x0⟩
def MGT_FW_RESULT_SLOT : Fld := ⟨0x18020, 16, 1, 0x0⟩
def MGT_LOG_NEWEST_SEQ : Fld := ⟨0x18100, 0, 48, 0x0⟩
def MGT_LOG_NEWEST_QUEUED : Fld := ⟨0x18100, 48, 9, 0x0⟩
def MGT_LOG_OLDEST_SEQ : Fld := ⟨0x18108, 0, 48, 0x0⟩
def MGT_LOG_SEL_SEQ : Fld := ⟨0x18110, 0, 48, 0x0⟩
def MGT_LOG_SEL_READY : Fld := ⟨0x18110, 62, 1, 0x0⟩
def MGT_LOG_SEL_FOUND : Fld := ⟨0x18110, 63, 1, 0x0⟩
def MGT_LOG_DATA0_DATA : Fld := ⟨0x18118, 0, 64, 0x8⟩
def MGT_LOG_EVENTS_LOST : Fld := ⟨0x18158, 0, 32, 0x0⟩
def MGT_LOG_EVENTS_WRITTEN : Fld := ⟨0x18158, 32, 32, 0x0⟩
def MGT_TELEM_STATE_FRAME : Fld := ⟨0x18160, 0, 48, 0x0⟩
def MGT_THERM_TEMP : Fld := ⟨0x19000, 0, 16, 0x8⟩
def MGT_THERM_MAX : Fld := ⟨0x19000, 16, 16, 0x8⟩
def MGT_THERM_FAULT : Fld := ⟨0x19000, 32, 1, 0x8⟩
def MGT_RAIL_VOLT : Fld := ⟨0x19800, 0, 16, 0x8⟩
def MGT_RAIL_CURR : Fld := ⟨0x19800, 16, 16, 0x8⟩
def MGT_RAIL_POWER : Fld := ⟨0x19800, 32, 16, 0x8⟩
def MGT_RAIL_PEAK : Fld := ⟨0x19800, 48, 16, 0x8⟩
def MGT_COOLANT_INLET : Fld := ⟨0x19900, 0, 16, 0x0⟩
def MGT_COOLANT_OUTLET : Fld := ⟨0x19900, 16, 16, 0x0⟩
def MGT_COOLANT_FLOW : Fld := ⟨0x19900, 32, 16, 0x0⟩
def MGT_COOLANT_VALID : Fld := ⟨0x19900, 48, 1, 0x0⟩
def MBX_DATA0_DATA : Fld := ⟨0x20000, 0, 64, 0x80⟩
def MBX_CTRL_GO : Fld := ⟨0x20060, 0, 1, 0x80⟩
def MBX_CTRL_DONE : Fld := ⟨0x20060, 1, 1, 0x80⟩
def MBX_CTRL_STATUS : Fld := ⟨0x20060, 8, 8, 0x80⟩
def MBX_CTRL_COUNT : Fld := ⟨0x20060, 16, 16, 0x80⟩
def MBX_CTRL_MBX_REJECT : Fld := ⟨0x20060, 32, 16, 0x80⟩
def FAB_ID_COLONY : Fld := ⟨0x30000, 0, 8, 0x0⟩
def FAB_ID_MEMBER : Fld := ⟨0x30000, 8, 4, 0x0⟩
def FAB_ID_VALID : Fld := ⟨0x30000, 12, 1, 0x0⟩
def FAB_ID_STIPE : Fld := ⟨0x30000, 13, 1, 0x0⟩
def FAB_MSG_EVENTS_UNROUTABLE : Fld := ⟨0x30008, 0, 16, 0x0⟩
def FAB_MSG_EVENTS_HOP_EXCEEDED : Fld := ⟨0x30008, 16, 8, 0x0⟩
def FAB_MSG_EVENTS_WRONG_VC : Fld := ⟨0x30008, 24, 8, 0x0⟩
def FAB_MSG_EVENTS_DETOURS : Fld := ⟨0x30008, 32, 16, 0x0⟩
def FAB_MSG_EVENTS_MCAST_REJECT : Fld := ⟨0x30008, 48, 8, 0x0⟩
def FAB_MSG_EVENTS_LATE_RESP : Fld := ⟨0x30008, 56, 8, 0x0⟩
def FAB_ASSIGN_COLONY : Fld := ⟨0x30010, 0, 8, 0x0⟩
def FAB_ASSIGN_GO : Fld := ⟨0x30010, 63, 1, 0x0⟩
def FAB_GOSSIP_RUN : Fld := ⟨0x30018, 0, 16, 0x0⟩
def FAB_GOSSIP_ROUND : Fld := ⟨0x30018, 16, 3, 0x0⟩
def FAB_GOSSIP_GIVEUPS : Fld := ⟨0x30018, 32, 16, 0x0⟩
def FAB_GOSSIP_RUNS : Fld := ⟨0x30018, 48, 16, 0x0⟩
def FAB_BARRIER_EPOCH_LO : Fld := ⟨0x30020, 0, 32, 0x0⟩
def FAB_BARRIER_JOINS : Fld := ⟨0x30020, 32, 13, 0x0⟩
def FAB_BARRIER_ACTIVE : Fld := ⟨0x30020, 63, 1, 0x0⟩
def FAB_HWIN_TARGET : Fld := ⟨0x30800, 0, 12, 0x8⟩
def FAB_HWIN_TYPE : Fld := ⟨0x30800, 12, 1, 0x8⟩
def FAB_HWIN_VALID : Fld := ⟨0x30800, 15, 1, 0x8⟩
def FAB_HWIN_BASE : Fld := ⟨0x30800, 16, 6, 0x8⟩
def FAB_HDMA_BASE_BASE : Fld := ⟨0x30900, 0, 64, 0x0⟩
def FAB_HDMA_CTRL_LOG2_SUB : Fld := ⟨0x30908, 0, 5, 0x0⟩
def FAB_HDMA_CTRL_ENABLE : Fld := ⟨0x30908, 5, 1, 0x0⟩
def FAB_HDMA_PTR_WR : Fld := ⟨0x30980, 0, 32, 0x8⟩
def FAB_HDMA_PTR_RD : Fld := ⟨0x30980, 32, 32, 0x8⟩
def FAB_PORT_STATUS_STATE : Fld := ⟨0x31000, 0, 3, 0x40⟩
def FAB_PORT_STATUS_PARTNER : Fld := ⟨0x31000, 8, 12, 0x40⟩
def FAB_PORT_STATUS_PARTNER_PORT : Fld := ⟨0x31000, 20, 6, 0x40⟩
def FAB_PORT_STATUS_SEQ_GAP : Fld := ⟨0x31000, 32, 16, 0x40⟩
def FAB_PORT_ERR_FEC_CORR : Fld := ⟨0x31008, 0, 32, 0x40⟩
def FAB_PORT_ERR_FEC_UNCORR : Fld := ⟨0x31008, 32, 16, 0x40⟩
def FAB_PORT_ERR_CRC_ERR : Fld := ⟨0x31008, 48, 16, 0x40⟩
def FAB_PORT_REPLAY_REPLAYS : Fld := ⟨0x31010, 0, 32, 0x40⟩
def FAB_PORT_REPLAY_TIMEOUTS : Fld := ⟨0x31010, 32, 16, 0x40⟩
def FAB_PORT_REPLAY_RETRAINS : Fld := ⟨0x31010, 48, 16, 0x40⟩
def FAB_PORT_FLITS_DATA_TX : Fld := ⟨0x31018, 0, 48, 0x40⟩
def FAB_PORT_CTRL_RESET : Fld := ⟨0x31020, 0, 1, 0x40⟩
def FAB_PORT_ATTEST_STATE : Fld := ⟨0x31028, 0, 2, 0x40⟩
def FAB_PORT_ATTEST_MISWIRED : Fld := ⟨0x31028, 2, 1, 0x40⟩
def FAB_PORT_ATTEST_HBM_FREE : Fld := ⟨0x31028, 3, 1, 0x40⟩
def FAB_ROUTE_SLOT0 : Fld := ⟨0x34000, 0, 16, 0x8⟩
def FAB_ROUTE_SLOT1 : Fld := ⟨0x34000, 16, 16, 0x8⟩
def FAB_ROUTE_SLOT2 : Fld := ⟨0x34000, 32, 16, 0x8⟩
def FAB_ROUTE_SLOT3 : Fld := ⟨0x34000, 48, 16, 0x8⟩
def RED_EPOCH_STATE_OLDEST_LO : Fld := ⟨0x40000, 0, 32, 0x40⟩
def RED_EPOCH_STATE_OPEN : Fld := ⟨0x40000, 32, 2, 0x40⟩
def RED_EPOCH_STATE_ATTEMPT : Fld := ⟨0x40000, 34, 3, 0x40⟩
def RED_EPOCH_STATE_LEADER : Fld := ⟨0x40000, 37, 1, 0x40⟩
def RED_CHECK_EVENTS_RESIDUE_FAIL : Fld := ⟨0x40008, 0, 16, 0x40⟩
def RED_CHECK_EVENTS_SAMPLE_FAIL : Fld := ⟨0x40008, 16, 16, 0x40⟩
def RED_CHECK_EVENTS_BACKUP_DIFF : Fld := ⟨0x40008, 32, 16, 0x40⟩
def RED_CHECK_EVENTS_RETRACTS : Fld := ⟨0x40008, 48, 16, 0x40⟩
def RED_BLOCK_EVENTS_RESCALE_BLOCKS : Fld := ⟨0x40010, 0, 32, 0x40⟩
def RED_BLOCK_EVENTS_SAT_FINAL : Fld := ⟨0x40010, 32, 16, 0x40⟩
def RED_BLOCK_EVENTS_NAN_BLOCKS : Fld := ⟨0x40010, 48, 16, 0x40⟩
def RED_LATE_EVENTS_DEADLINES : Fld := ⟨0x40018, 0, 16, 0x40⟩
def RED_LATE_EVENTS_BACKUP_TAKEN : Fld := ⟨0x40018, 16, 16, 0x40⟩
def RED_LATE_EVENTS_STALE : Fld := ⟨0x40018, 32, 16, 0x40⟩
def RED_LATE_EVENTS_DUP_CONTRIB : Fld := ⟨0x40018, 48, 8, 0x40⟩
def RED_LATE_EVENTS_SAMPLE_SHARED : Fld := ⟨0x40018, 56, 8, 0x40⟩
def RED_RETAIN_USED : Fld := ⟨0x40020, 0, 40, 0x40⟩
def HBM_STATUS_TRAINED : Fld := ⟨0x50000, 0, 1, 0x1000⟩
def HBM_STATUS_REFRESH_2X : Fld := ⟨0x50000, 1, 1, 0x1000⟩
def HBM_STATUS_TEMP : Fld := ⟨0x50000, 8, 8, 0x1000⟩
def HBM_STATUS_SCRUB_PROGRESS : Fld := ⟨0x50000, 16, 16, 0x1000⟩
def HBM_STATUS_SCRUB_PASSES : Fld := ⟨0x50000, 32, 16, 0x1000⟩
def HBM_ERR_EVENTS_RETRY_OK : Fld := ⟨0x50008, 0, 16, 0x1000⟩
def HBM_ERR_EVENTS_POISONED : Fld := ⟨0x50008, 16, 16, 0x1000⟩
def HBM_ERR_EVENTS_STACK_UE : Fld := ⟨0x50008, 32, 16, 0x1000⟩
def HBM_ERR_EVENTS_SCRUB_POISONED : Fld := ⟨0x50008, 48, 16, 0x1000⟩
def HBM_LAST_POISON_OFFSET : Fld := ⟨0x50010, 8, 28, 0x1000⟩
def HBM_LAST_POISON_OWNER : Fld := ⟨0x50010, 36, 4, 0x1000⟩
def HBM_LAST_POISON_VALID : Fld := ⟨0x50010, 63, 1, 0x1000⟩
def HBM_TRAFFIC_ACCESSES : Fld := ⟨0x50018, 0, 48, 0x1000⟩
def HBM_RMW_RMW_WRITES : Fld := ⟨0x50020, 0, 32, 0x1000⟩
def HBM_RMW_TURNAROUNDS : Fld := ⟨0x50020, 32, 32, 0x1000⟩
def HBM_TP_CTRL_INSTR : Fld := ⟨0x50040, 0, 8, 0x1000⟩
def HBM_TP_CTRL_LEN : Fld := ⟨0x50040, 8, 16, 0x1000⟩
def HBM_TP_CTRL_GO : Fld := ⟨0x50040, 63, 1, 0x1000⟩
def HBM_TP_DATA_DATA : Fld := ⟨0x50048, 0, 64, 0x1000⟩
def HBM_TP_STATUS_BUSY : Fld := ⟨0x50050, 0, 1, 0x1000⟩
def HBM_TP_STATUS_DONE : Fld := ⟨0x50050, 1, 1, 0x1000⟩
def HBM_TP_STATUS_REFUSED : Fld := ⟨0x50050, 2, 1, 0x1000⟩
def CSH_GADD_EVENTS_OPS : Fld := ⟨0x60200, 0, 32, 0x1000⟩
def CSH_GADD_EVENTS_NAN_OUT : Fld := ⟨0x60200, 32, 16, 0x1000⟩
def CSH_GADD_EVENTS_OVF : Fld := ⟨0x60200, 48, 16, 0x1000⟩
def CSH_LAYOUT_EVENTS_GATHER_CLAMP : Fld := ⟨0x60208, 0, 32, 0x1000⟩
def CSH_LAYOUT_EVENTS_PAD_DROPPED : Fld := ⟨0x60208, 32, 32, 0x1000⟩
def CSH_NARROW_ACCESSES : Fld := ⟨0x60210, 0, 48, 0x1000⟩
def CSH_SRAM_EVENTS_CORRECTED : Fld := ⟨0x60218, 0, 32, 0x1000⟩
def CSH_SRAM_EVENTS_UNCORRECTED : Fld := ⟨0x60218, 32, 16, 0x1000⟩
def CSH_Q_BASE_BASE : Fld := ⟨0x60220, 0, 40, 0x1000⟩
def CSH_Q_BASE_LOG2_SIZE : Fld := ⟨0x60220, 40, 5, 0x1000⟩
def CSH_Q_CQ_BASE_BASE : Fld := ⟨0x60228, 0, 40, 0x1000⟩
def CSH_Q_TAIL_TAIL : Fld := ⟨0x60230, 0, 32, 0x1000⟩
def CSH_Q_HEAD_ISSUED : Fld := ⟨0x60238, 0, 32, 0x1000⟩
def CSH_Q_HEAD_COMPLETED : Fld := ⟨0x60238, 32, 32, 0x1000⟩
def CSH_Q_CTRL_ACTION : Fld := ⟨0x60240, 0, 2, 0x1000⟩
def CSH_Q_CTRL_HALTED : Fld := ⟨0x60240, 8, 1, 0x1000⟩
def CSH_Q_CTRL_HALTS : Fld := ⟨0x60240, 16, 8, 0x1000⟩
def CSH_Q_CTRL_HALT_POS : Fld := ⟨0x60240, 32, 32, 0x1000⟩
def CSH_POISON_EVENTS_CONSUMED : Fld := ⟨0x60248, 0, 16, 0x1000⟩
def FRD_FMT_EVENTS_RSVD_BLOCKS : Fld := ⟨0x100400, 0, 32, 0x1000⟩
def FRD_FMT_EVENTS_LUT_REJECTS : Fld := ⟨0x100400, 32, 16, 0x1000⟩
def FRD_FMT_EVENTS_ZP_REJECTS : Fld := ⟨0x100400, 48, 16, 0x1000⟩
def FRD_SCALE_EVENTS_OVERFLOW : Fld := ⟨0x100408, 0, 16, 0x1000⟩
def FRD_SCALE_EVENTS_UNDERFLOW : Fld := ⟨0x100408, 16, 16, 0x1000⟩
def FRD_SCALE_EVENTS_CRUSHED : Fld := ⟨0x100408, 32, 16, 0x1000⟩
def FRD_SCALE_EVENTS_FLUSHED : Fld := ⟨0x100408, 48, 16, 0x1000⟩
def FRD_QNT_SPECIALS_NAN_IN : Fld := ⟨0x100410, 0, 32, 0x1000⟩
def FRD_QNT_SPECIALS_INF_IN : Fld := ⟨0x100410, 32, 32, 0x1000⟩
def FRD_EPI_EVENTS_TAKEN : Fld := ⟨0x100418, 0, 32, 0x1000⟩
def FRD_EPI_EVENTS_EPI_INF : Fld := ⟨0x100418, 32, 16, 0x1000⟩
def FRD_EPI_EVENTS_ROT_NONFINITE : Fld := ⟨0x100418, 48, 16, 0x1000⟩
def FRD_EPI_STALLS_STALL_CYCLES : Fld := ⟨0x100420, 0, 48, 0x1000⟩
def FRD_DOT_EVENTS_NAN_RUNS : Fld := ⟨0x100428, 0, 16, 0x1000⟩
def FRD_DOT_EVENTS_INF_RUNS : Fld := ⟨0x100428, 16, 16, 0x1000⟩
def FRD_DOT_EVENTS_PROMOTE_OVF : Fld := ⟨0x100428, 32, 16, 0x1000⟩
def FRD_DOT_EVENTS_STORE_OVF : Fld := ⟨0x100428, 48, 16, 0x1000⟩
def FRD_DOT_STALLS_PROMOTE_STALLS : Fld := ⟨0x100430, 0, 48, 0x1000⟩
def FRD_DOT_STALLS_ACCUM_OVF : Fld := ⟨0x100430, 48, 16, 0x1000⟩
def FRD_FB_EVENTS_WIDENED : Fld := ⟨0x100438, 0, 32, 0x1000⟩
def FRD_FB_EVENTS_NARROWED : Fld := ⟨0x100438, 32, 16, 0x1000⟩
def FRD_FB_EVENTS_SPILL_DENIED : Fld := ⟨0x100438, 48, 16, 0x1000⟩
def FRD_ARRAY_BUSY_STEP_CYCLES : Fld := ⟨0x100440, 0, 48, 0x1000⟩
def FRD_ARRAY_WAITS_OPERAND_WAIT : Fld := ⟨0x100448, 0, 48, 0x1000⟩
def FRD_ARRAY_EVENTS_WIDE_STEP_CYCLES : Fld := ⟨0x100450, 0, 48, 0x1000⟩
def FRD_ARRAY_EVENTS_SUM_OVF : Fld := ⟨0x100450, 48, 16, 0x1000⟩
def FRD_RHZ_STATE_EMPTY : Fld := ⟨0x100458, 0, 8, 0x1000⟩
def FRD_RHZ_STATE_ACTIVE : Fld := ⟨0x100458, 8, 8, 0x1000⟩
def FRD_RHZ_STATE_DONE : Fld := ⟨0x100458, 16, 8, 0x1000⟩
def FRD_RHZ_STATE_HELD : Fld := ⟨0x100458, 24, 8, 0x1000⟩
def FRD_VEC_BUSY_ISSUE_CYCLES : Fld := ⟨0x100460, 0, 48, 0x1000⟩
def FRD_VEC_WAITS_PORT_WAIT : Fld := ⟨0x100468, 0, 48, 0x1000⟩
def FRD_VEC_EVENTS_PERM_RANGE : Fld := ⟨0x100470, 0, 32, 0x1000⟩
def FRD_VEC_EVENTS_CLAMPED : Fld := ⟨0x100470, 32, 32, 0x1000⟩
def FRD_SMX_EVENTS_NAN_ROWS : Fld := ⟨0x100478, 0, 16, 0x1000⟩
def FRD_SMX_EVENTS_INF_ROWS : Fld := ⟨0x100478, 16, 16, 0x1000⟩
def FRD_SMX_EVENTS_EMPTY_ROWS : Fld := ⟨0x100478, 32, 16, 0x1000⟩
def FRD_SMX_EVENTS_P_SHORT : Fld := ⟨0x100478, 48, 16, 0x1000⟩
def FRD_SMP_COUNT_ROWS : Fld := ⟨0x100480, 0, 48, 0x1000⟩
def FRD_VEC_FAULT_CHUNK : Fld := ⟨0x100488, 0, 32, 0x1000⟩
def FRD_VEC_FAULT_LANE : Fld := ⟨0x100488, 32, 8, 0x1000⟩
def FRD_VEC_FAULT_PC : Fld := ⟨0x100488, 40, 10, 0x1000⟩
def FRD_VEC_FAULT_CAUSE : Fld := ⟨0x100488, 50, 2, 0x1000⟩
def FRD_VEC_FAULT_OVER : Fld := ⟨0x100488, 62, 1, 0x1000⟩
def FRD_VEC_FAULT_VALID : Fld := ⟨0x100488, 63, 1, 0x1000⟩
def FRD_UPD_WAITS_DRAIN_WAIT : Fld := ⟨0x100490, 0, 48, 0x1000⟩
def FRD_LAYOUT_EVENTS_ALIAS_REJECTS : Fld := ⟨0x100498, 0, 16, 0x1000⟩
def FRD_LAYOUT_EVENTS_BOUNDS_REJECTS : Fld := ⟨0x100498, 16, 16, 0x1000⟩
def FRD_LAYOUT_EVENTS_CROZ_CLAMP : Fld := ⟨0x100498, 32, 32, 0x1000⟩
def FRD_STREAM_STATE_INFLIGHT : Fld := ⟨0x1004A0, 0, 14, 0x1000⟩
def FRD_STREAM_STATE_PEAK : Fld := ⟨0x1004A0, 16, 14, 0x1000⟩
def FRD_STREAM_STALLS_TXN_FULL : Fld := ⟨0x1004A8, 0, 48, 0x1000⟩
def FRD_POISON_EVENTS_CONSUMED : Fld := ⟨0x1004B0, 0, 16, 0x1000⟩
def FRD_POISON_EVENTS_CARRIED : Fld := ⟨0x1004B0, 16, 16, 0x1000⟩
def FRD_POISON_EVENTS_SRAM_CORR : Fld := ⟨0x1004B0, 32, 16, 0x1000⟩
def FRD_POISON_EVENTS_SRAM_UE : Fld := ⟨0x1004B0, 48, 16, 0x1000⟩
def FRD_Q_BASE_BASE : Fld := ⟨0x1004B8, 0, 40, 0x1000⟩
def FRD_Q_BASE_LOG2_SIZE : Fld := ⟨0x1004B8, 40, 5, 0x1000⟩
def FRD_Q_CQ_BASE_BASE : Fld := ⟨0x1004C0, 0, 40, 0x1000⟩
def FRD_Q_TAIL_TAIL : Fld := ⟨0x1004C8, 0, 32, 0x1000⟩
def FRD_Q_HEAD_ISSUED : Fld := ⟨0x1004D0, 0, 32, 0x1000⟩
def FRD_Q_HEAD_COMPLETED : Fld := ⟨0x1004D0, 32, 32, 0x1000⟩
def FRD_Q_CTRL_ACTION : Fld := ⟨0x1004D8, 0, 2, 0x1000⟩
def FRD_Q_CTRL_HALTED : Fld := ⟨0x1004D8, 8, 1, 0x1000⟩
def FRD_Q_CTRL_HALTS : Fld := ⟨0x1004D8, 16, 8, 0x1000⟩
def FRD_Q_CTRL_HALT_POS : Fld := ⟨0x1004D8, 32, 32, 0x1000⟩
def FRD_REL_EVENTS_LOCKSTEP_TRANSIENT : Fld := ⟨0x1004E0, 0, 16, 0x1000⟩
def FRD_REL_EVENTS_PAIR_TRANSIENT : Fld := ⟨0x1004E0, 16, 16, 0x1000⟩
def FRD_REL_EVENTS_RHZ_CORR : Fld := ⟨0x1004E0, 32, 16, 0x1000⟩
def FRD_REL_EVENTS_RHZ_UE : Fld := ⟨0x1004E0, 48, 16, 0x1000⟩
def FRD_REL_STATE_TEST_AGE : Fld := ⟨0x1004E8, 0, 32, 0x1000⟩
def FRD_REL_STATE_TEST_OVERDUE : Fld := ⟨0x1004E8, 32, 1, 0x1000⟩
def FRD_REL_STATE_SUSPECT : Fld := ⟨0x1004E8, 33, 1, 0x1000⟩
def FRD_REL_STATE_PAIR_ROLE : Fld := ⟨0x1004E8, 34, 2, 0x1000⟩
def FRD_REL_STATE_LAST_TEST : Fld := ⟨0x1004E8, 36, 2, 0x1000⟩
def FRD_PWR_EVENTS_BALLAST_KCYCLES : Fld := ⟨0x1004F0, 0, 32, 0x1000⟩
def FRD_PWR_EVENTS_GOV_HOLD_KCYCLES : Fld := ⟨0x1004F0, 32, 24, 0x1000⟩
def FRD_PWR_EVENTS_POWER_WAKES : Fld := ⟨0x1004F0, 56, 8, 0x1000⟩

/-- Whether `off` is an instance of the register: its first and second index. -/
def RegDef.index (r : RegDef) (off : Nat) : Option (Nat × Nat) :=
  if off < r.off then none
  else
    let d := off - r.off
    let i := if r.s1 = 0 then 0 else d / r.s1
    let e := if r.s1 = 0 then d else d % r.s1
    let j := if r.s2 = 0 then 0 else e / r.s2
    let rest := if r.s2 = 0 then e else e % r.s2
    if rest = 0 ∧ i < r.n1 ∧ j < r.n2 then some (i, j) else none

/-- The registers of the page that holds an offset (R536). -/
def pageDefs (off : Nat) : List RegDef :=
  if off < 0x10000 then regDefsAnc
  else if off < 0x11000 then regDefsCfg
  else if off < 0x12000 then regDefsSec
  else if off < 0x13000 then regDefsDbg
  else if off < 0x14000 then regDefsPwr
  else if off < 0x18000 then regDefsInt
  else if off < 0x20000 then regDefsMgt
  else if off < 0x30000 then regDefsMbx
  else if off < 0x40000 then regDefsFab
  else if off < 0x50000 then regDefsRed
  else if off < 0x60000 then regDefsHbm
  else if off < 0x100000 then regDefsCsh
  else regDefsFrd

/-- The register at a window offset, with its indices; none where the offset is unassigned (R9, R536). -/
def regAt (off : Nat) : Option (RegDef × Nat × Nat) :=
  (pageDefs off).findSome? (fun r => (r.index off).map (fun (i, j) => (r, i, j)))

/-- The value a register's fields have at reset. -/
def RegDef.resetValue (r : RegDef) : Nat := r.fields.foldl (fun v f => v + f.reset * 2 ^ f.lo) 0

/-- What an unlisted register of the register file holds: its reset value. -/
def regReset (off : Nat) : Nat := (regAt off).elim 0 (fun x => x.1.resetValue)

end Sys2Proof.Machine
end

