-- ==== Sys2Proof/Machine/Ops.lean ====
section
/-! DEFINITION. The named operations over registers, interrupts, the event log, memory, ownership and queues that every
command's meaning is written with. -/

namespace Sys2Proof.Machine

/-! ### Registers -/

/-- The stored value of the register at a window offset: its reset value while unlisted. -/
def getReg (s : State) (off : Nat) : W64 := (tblFind s.regs off).getD (BitVec.ofNat 64 (regReset off))

def setReg (s : State) (off : Nat) (v : W64) : State :=
  { s with regs := tblPut s.regs off (if v = BitVec.ofNat 64 (regReset off) then none else some v) }

/-- The offset of instance `i` of a field's register. -/
def Fld.at (f : Fld) (i : Nat) : Nat := f.off + f.stride * i

def getF (s : State) (f : Fld) (i : Nat := 0) : Nat := bitsOf (getReg s (f.at i)).toNat f.lo f.width

def setF (s : State) (f : Fld) (i v : Nat) : State :=
  setReg s (f.at i) (BitVec.ofNat 64 (putBits (getReg s (f.at i)).toNat f.lo f.width v))

/-- A counter field counts up by `k` and holds at its all-ones value (R11, R65). -/
def bump (s : State) (f : Fld) (i k : Nat) : State :=
  if k = 0 then s else setF s f i (satAdd f.width (getF s f i) k)

/-- The register file with every register of the classes for which `hit` holds at its reset value (R544). -/
def resetRegs (s : State) (hit : RegDef → Nat → Bool) : State :=
  { s with regs := s.regs.filter (fun e => match regAt e.1 with | some (r, i, _) => !hit r i | none => true) }

/-! ### Settings and ownership -/

def cfgOf (s : State) : ImageCfg := s.cfg.committed.cfg

def partCfg (s : State) (p : Nat) : Option PartCfg := ((cfgOf s).parts.find? (fun e => e.1 == p)).map (·.2)

/-- The partition whose cushion map names package cushion `c` (R25). -/
def ownerOfCushion (s : State) (c : Nat) : Option Nat :=
  ((cfgOf s).parts.find? (fun e => bitOf e.2.cushions c)).map (·.1)

/-- The partition that owns package granule `g` (R26). -/
def ownerOfGranule (s : State) (g : Nat) : Option Nat :=
  ((cfgOf s).parts.find? (fun e => bitOf e.2.granules g)).map (·.1)

def getPart (s : State) (p : Nat) : PartSt := tblGet PartSt.idle s.parts p
def setPart (s : State) (p : Nat) (v : PartSt) : State := { s with parts := tblSet PartSt.idle s.parts p v }
def modPart (s : State) (p : Nat) (f : PartSt → PartSt) : State := setPart s p (f (getPart s p))

def getFrond (s : State) (f : Nat) : FrondSt := tblGet FrondSt.empty s.fronds f
def setFrond (s : State) (f : Nat) (v : FrondSt) : State := { s with fronds := tblSet FrondSt.empty s.fronds f v }
def modFrond (s : State) (f : Nat) (g : FrondSt → FrondSt) : State := setFrond s f (g (getFrond s f))

def getSlot (s : State) (f k : Nat) : SlotSt := tblGet SlotSt.empty (getFrond s f).slots k
def setSlot (s : State) (f k : Nat) (v : SlotSt) : State :=
  modFrond s f (fun x => { x with slots := tblSet SlotSt.empty x.slots k v })

def getPort (s : State) (p : Nat) : PortSt := tblGet PortSt.down s.ports p
def setPort (s : State) (p : Nat) (v : PortSt) : State := { s with ports := tblSet PortSt.down s.ports p v }
def modPort (s : State) (p : Nat) (f : PortSt → PortSt) : State := setPort s p (f (getPort s p))

/-- A package cushion that the floorplan has not withdrawn (R409). -/
def cushionPresent (s : State) (c : Nat) : Bool :=
  decide (c < 24) && ((s.cfg.floor.cushions[c]?).map (·.status)).getD 0 != 3

/-- The package cushion of an enabled frond (R5). -/
def cushionOf (f : Nat) : Nat := f / 12

def frondEnabled (s : State) (f : Nat) : Bool := decide (f < 288) && cushionPresent s (cushionOf f)

def ownerOfFrond (s : State) (f : Nat) : Option Nat := ownerOfCushion s (cushionOf f)

/-- The physical position of an enabled frond on the package: die × 156 + 13 × cushion-within-die + offset (R433). -/
def physOf (s : State) (f : Nat) : Nat :=
  let c := cushionOf f
  let m := ((s.cfg.floor.cushions[c]?).map (·.map)).getD 0
  c / 12 * 156 + 13 * (c % 12) + bitsOf m (4 * (f % 12)) 4

/-- The enabled fronds of a partition (R24). -/
def frondsOf (s : State) (p : Nat) : List Nat :=
  (List.range 288).filter (fun f => frondEnabled s f && decide (ownerOfFrond s f = some p))

def cushionsOf (s : State) (p : Nat) : List Nat :=
  (List.range 24).filter (fun c => cushionPresent s c && decide (ownerOfCushion s c = some p))

/-- The frond works in a pair (R404). -/
def pairedFrond (s : State) (f : Nat) : Bool :=
  ((ownerOfFrond s f).bind (fun p => (partCfg s p).map (·.paired))).getD false

/-- Frond-in-cushion 2j + 1 of a pair follows frond 2j (R404). -/
def isFollower (s : State) (f : Nat) : Bool := pairedFrond s f && f % 12 % 2 == 1

/-! ### The local counter's deadlines (R23): 32,768 periods to the second -/

/-- Whether `num / den` seconds have passed from `since` to the present value of the counter. -/
def elapsed (s : State) (since num den : Nat) : Bool := decide ((s.counter - since) * den ≥ num * 32768)

/-- The counter as an event finds it: it never runs backwards. -/
def advance (s : State) (now : Nat) : State := { s with counter := max s.counter now }

/-! ### Messages out (R345, R352) -/

/-- A message of this device's own takes its source address and its SEQNO and waits for a port. -/
def sendMsg (s : State) (vc : Nat) (m : Msg) (way : Detour := .none) : State :=
  let key := m.dst * 16 + vc
  let n := tblGet 0 s.fabric.seqno key
  let m' := { m with src := s.fabric.addr.getD 0, seqno := n % 2 ^ 32 }
  { s with fabric := { s.fabric with
      seqno := tblSet 0 s.fabric.seqno key ((n + 1) % 2 ^ 32)
      outq := s.fabric.outq ++ [⟨vc, 0, m', way⟩] } }

/-- A link-local message out of one port (R454). -/
def sendOnPort (s : State) (p vc : Nat) (m : Msg) : State :=
  modPort s p (fun x => { x with txq := x.txq ++ [⟨vc, 0, { m with src := s.fabric.addr.getD 0 }, .none⟩] })

/-! ### The interrupt tree (R491 to R496) -/

def causeOff (b : Nat) : Nat := INT_CAUSE_CAUSE.at b
def causeEnOff (b : Nat) : Nat := INT_CAUSE_EN_EN.at b

/-- INT_SUMMARY (R491). -/
def intSummary (s : State) : Nat :=
  (List.range 18).foldl (fun v b =>
    if (getReg s (causeOff b) &&& getReg s (causeEnOff b)) = 0 then v else v + 2 ^ b) 0

def intActive (s : State) : Nat := (BitVec.ofNat 64 (intSummary s) &&& getReg s 0x14008).toNat

/-- INT_N is driven low (R491). -/
def intLow (s : State) : Bool := intActive s != 0

def isStipe (s : State) : Bool := s.stipe

/-- The host port of a stipe device has trained: it is out of reset and HOST_REFCLK is driven (R448, R554, R556). -/
def hostTrained (s : State) : Bool := isStipe s && s.pins.perstN && s.pins.hostRefclk

/-- What a change of the active summary sends: MSI-X messages through a trained host port (R495), with `again` the bits that a write
leaves at 1, and INT_NOTIFY to member 0 (R496). -/
def notifyInt (old : Nat) (again : Nat) (s : State) : State :=
  let now := intActive s
  let bits := (List.range 64).filter (fun n => bitOf now n && (!bitOf old n || bitOf again n))
  let s1 := if hostTrained s then { s with msix := s.msix ++ bits } else s
  if getF s INT_CTRL_FWD = 1 ∧ (old = 0 ↔ now ≠ 0) then
    match s.fabric.addr with
    | some a => sendMsg s1 10 { dst := a / 16 * 16, mtype := 0x1A, payload := leBytes 8 now }
    | none => s1
  else s1

/-- A cause's event: the bit is set and its occurrence counter counts (R492). -/
def raiseCause (s : State) (b k : Nat) : State :=
  let old := intActive s
  let s1 := setReg s (causeOff b) (getReg s (causeOff b) ||| BitVec.ofNat 64 (2 ^ k))
  let cnt : Fld := ⟨INT_COUNT0_COUNT.off + 8 * (k / 8), 8 * (k % 8), 8, INT_COUNT0_COUNT.stride⟩
  notifyInt old 0 (bump s1 cnt b 1)

/-! ### Access errors (R9) -/

/-- The REQUESTER code (R539, R515). -/
def reqCode : Requester → Nat
  | .host _ => 0
  | .peer _ => 1
  | .lichen => 2
  | .debug => 2
  | .sequencer _ => 3

/-- An access that R9 discards or answers with zero: the access-error cause and, while it is free, INT_ACCESS_LOG. Kinds:
0 narrow, 1 misaligned, 2 unassigned, 3 discarded by a rule of state or ownership. -/
def accessError (s : State) (req : Requester) (off kind : Nat) : State :=
  let s1 := if getF s INT_ACCESS_LOG_VALID = 1 then s
    else setReg s INT_ACCESS_LOG_VALID.off
      (BitVec.ofNat 64 (off % 2 ^ 30 + reqCode req * 2 ^ 30 + kind * 2 ^ 32 + 2 ^ 63))
  raiseCause s1 8 (reqCode req)

/-! ### The event log (R476 to R480, R489) -/

/-- SEQ of the oldest queued record: queued records have the last numbers given. -/
def queueFirstSeq (s : State) : Nat := s.flash.logNext - s.mgmt.queue.length

/-- SEQ of the oldest record held, 0 while the log holds none. -/
def oldestSeq (s : State) : Nat :=
  match s.flash.log with
  | e :: _ => e.1
  | [] => if s.mgmt.queue.isEmpty then 0 else queueFirstSeq s

/-- MGT_LOG_NEWEST and MGT_LOG_OLDEST: SEQ reads 0 until the lichen core has read the log at boot (R499). -/
def setLogRegs (s : State) : State :=
  let s1 := if getF s ANC_BOOT_STATUS_FW_OK = 1 then
      setF (setF s MGT_LOG_NEWEST_SEQ 0 (s.flash.logNext - 1)) MGT_LOG_OLDEST_SEQ 0 (oldestSeq s)
    else s
  setF s1 MGT_LOG_NEWEST_QUEUED 0 s.mgmt.queue.length

/-- Firmware has been verified and its core is neither in reset nor halted: the tasks of R497 run. -/
def lichenUp (s : State) : Bool :=
  decide (getF s ANC_BOOT_STATUS_FW_OK = 1) && !s.mgmt.halted && decide (s.mgmt.lichen ≠ .reset)

/-- A wake event (R468): a lichen core that firmware runs on and that sleeps begins to wake; one that runs has work. -/
def wakeLichen (s : State) : State :=
  if s.mgmt.lichen = .asleep ∧ getF s ANC_BOOT_STATUS_FW_OK = 1 then
    bump { s with mgmt := { s.mgmt with lichen := .waking } } MGT_LICHEN_STATE_WAKES 0 1
  else { s with mgmt := { s.mgmt with workAt := s.counter } }

/-- A record enters the log queue, or is dropped when it is full (R478). Its entry wakes the lichen core. -/
def logEnter (s0 : State) (r : LogRec) : State :=
  let s := if s0.mgmt.queue.length < 256 then wakeLichen s0 else s0
  if s.mgmt.queue.length ≥ 256 then
    raiseCause (bump { s with mgmt := { s.mgmt with lostNext := true } } MGT_LOG_EVENTS_LOST 0 1) 15 1
  else
    setLogRegs { s with
      mgmt := { s.mgmt with queue := s.mgmt.queue ++ [{ r with lost := s.mgmt.lostNext }], lostNext := false }
      flash := { s.flash with logNext := s.flash.logNext + 1 } }

def mkRec (s : State) (type source severity unitNo : Nat) (part : Option Nat) (payload : List Byte) : LogRec :=
  ⟨type, s.counter % 2 ^ 48, s.flash.boots % 65536, source, part, severity, false, unitNo, payload⟩

/-- An event of the anchor, a stack, the fabric, the security block or the power unit is logged. -/
def logEvent (s : State) (type source severity unitNo : Nat) (part : Option Nat) (payload : List Byte) : State :=
  logEnter s (mkRec s type source severity unitNo part payload)

/-- The 64 bytes of a record with its SEQ (R476). -/
def LogRec.bytes (r : LogRec) (seq : Nat) : List Byte :=
  let flags := r.part.getD 0 + (if r.part.isSome then 8 else 0) + r.severity * 16 + b2n r.lost * 64
  let head := leBytes 6 seq ++ leBytes 2 r.type ++ leBytes 6 r.ticks ++ leBytes 2 r.boot ++
    [BitVec.ofNat 8 r.source, BitVec.ofNat 8 flags] ++ leBytes 2 r.unitNo
  let pay := sliceB r.payload 0 40
  head ++ leBytes 4 (crc32c (head ++ pay)) ++ pay

def mbxData (c k : Nat) : Nat := 0x20000 + 0x80 * c + 8 * k
def mbxCtrl (c : Nat) : Nat := 0x20000 + 0x80 * c + 0x60

/-- A request stands pending: the lichen core serves requests in the order of their GO writes (R569), and wakes (R468). -/
def postRequest (s : State) (c : Nat) : State :=
  let s1 := setReg s (mbxCtrl c) (getReg s (mbxCtrl c) ||| 1)
  wakeLichen { s1 with mgmt := { s1.mgmt with mbxOrder := s1.mgmt.mbxOrder ++ [c] } }

/-- A frond sequencer clears DONE of its channel and posts a record: the data registers hold the record's bytes with SEQ 0. -/
def seqPost (s : State) (f : Nat) (r : LogRec) : State :=
  let bytes := r.bytes 0
  let s1 := (List.range 8).foldl (fun s k => setReg s (mbxData (32 + f) k) (BitVec.ofNat 64 (leAt bytes (8 * k) 8))) s
  postRequest (setReg s1 (mbxCtrl (32 + f)) (getReg s1 (mbxCtrl (32 + f)) &&& ~~~2)) (32 + f)

/-- A frond sequencer's record goes out on its channel 32 + f, waits in the sequencer's memory while an earlier one has not
been answered, and is lost when four are held (R489). -/
def seqLogEvent (s : State) (f : Nat) (r : LogRec) : State :=
  let held := (getFrond s f).seqLog
  if held.length < 4 then
    let s1 := modFrond s f (fun x => { x with seqLog := x.seqLog ++ [r] })
    if held.isEmpty && !bitOf (getReg s (mbxCtrl (32 + f))).toNat 0 then seqPost s1 f r else s1
  else raiseCause (bump { s with mgmt := { s.mgmt with lostNext := true } } MGT_LOG_EVENTS_LOST 0 1) 15 1

/-! ### Memory: one flat key for the three spaces of R251 -/

def localBase : Nat := 2 ^ 44
def cacheBase : Nat := 2 ^ 45

/-- The flat key of a byte: HBM at its R251 address, frond `f`'s local memory and cushion `c`'s cache above. -/
def localKey (f off : Nat) : Nat := localBase + f * 2 ^ 22 + off
def cacheKey (addr : Nat) : Nat := cacheBase + addr

def isHbm (k : Nat) : Bool := decide (k < localBase)
/-- The package granule of an HBM address: stack × 64 + granule (R26). -/
def granuleOf (k : Nat) : Nat := k / 2 ^ 30
def stackOf (k : Nat) : Nat := k / 2 ^ 36

/-- A place in a stack (R287). -/
structure HbmPlace where
  pc   : Nat
  bank : Nat
  row  : Nat
  deriving DecidableEq, Repr

/-- Where the byte at 36-bit offset `o` of a stack lies (R287): its pseudo-channel, its bank and its row. -/
def hbmPlace (o : Nat) : HbmPlace :=
  let f (lo w : Nat) : Nat := bitsOf o lo w
  ⟨f 10 5 ^^^ f 15 5 ^^^ f 20 5 ^^^ f 25 5 ^^^ f 30 5, f 15 6 ^^^ f 21 6 ^^^ f 27 6, f 21 15⟩

/-- The package granule that holds a row of a stack: the row's high bits are the granule's (R26, R287). -/
def granuleOfRow (stack row : Nat) : Nat := stack * 64 + row / 2 ^ 9

/-- A byte as stored; an unlisted byte reads as zero (R289, log 15). -/
def readByte (s : State) (k : Nat) : Byte := tblGet 0 s.mem k

def readBytes (s : State) (k n : Nat) : List Byte := (List.range n).map (fun i => readByte s (k + i))

def readNat (s : State) (k n : Nat) : Nat := leNat (readBytes s k n)

def unitMeta (s : State) (u : Nat) : UnitMeta := tblGet UnitMeta.zero s.units u

/-- The partition that owns the memory of a key (R272). -/
def ownerOfKey (s : State) (k : Nat) : Option Nat :=
  if k < localBase then ownerOfGranule s (granuleOf k)
  else if k < cacheBase then ownerOfFrond s ((k - localBase) / 2 ^ 22)
  else ownerOfCushion s ((k - cacheBase) / 2 ^ 24)

/-- The pad epoch that a write to a key takes (R272). -/
def padEpochOf (s : State) (k : Nat) : Nat := (ownerOfKey s k).elim 0 (fun p => (getPart s p).padEpoch)

/-- The metadata word of a unit as the stack holds it (R288). -/
def metaWord (s : State) (u : Nat) : Nat :=
  let m := unitMeta s u
  let hi := b2n m.poison + m.tag * 2 + m.written * 2 ^ 9
  crc32c (readBytes s (256 * u) 256 ++ leBytes 4 hi) + hi * 2 ^ 32

/-- A byte joins a write set; a pad element's byte keeps the data that it covers (R263). -/
def wput (w : WSet) (k : Nat) (b : WByte) : WSet :=
  tblPut w k (some (if b.pad then
      { b with under := (tblFind w k).bind (fun o => if o.pad then o.under else some (o.val, o.poison)) }
    else b))

def wputs (w : WSet) (k : Nat) (bs : List Byte) (poison : Bool := false) (pad : Bool := false) : WSet :=
  (bs.zipIdx).foldl (fun w (b, i) => wput w (k + i) { val := b, poison := poison, pad := pad }) w

/-- The keys of a write set that fall in unit `u`. -/
def wUnit (w : WSet) (u : Nat) : WSet := w.filter (fun e => e.1 / 256 == u)

/-- The metadata of unit `u` as a write in the present pad epoch finds it (R269). -/
def epochMeta (s : State) (u : Nat) : UnitMeta :=
  let e := padEpochOf s (256 * u) % 256
  let m := unitMeta s u
  if m.tag = e then m else { m with tag := e, written := 0 }

def sectorOf (k : Nat) : Nat := k % 256 / 64

def isLocalKey (k : Nat) : Bool := decide (localBase ≤ k) && decide (k < cacheBase)

/-- The bytes of a write to unit `u` whose byte enables are set: a pad element's are where R268 and R269 let them be written,
and otherwise the data beneath them is. -/
def enabledBytes (s : State) (u : Nat) (w : WSet) (halo : Bool) : WSet :=
  w.filterMap (fun x =>
    if !x.2.pad || isLocalKey (256 * u) || (halo && !bitOf (epochMeta s u).written (sectorOf x.1)) then some x
    else x.2.under.map (fun v => (x.1, { val := v.1, poison := v.2, pad := false })))

/-- The sectors of unit `u` whose pad elements a halo write drops (R269). -/
def droppedSectors (s : State) (u : Nat) (w : WSet) (halo : Bool) : Nat :=
  (List.range 4).countP (fun c => halo && !isLocalKey (256 * u) && bitOf (epochMeta s u).written c
    && w.any (fun x => x.2.pad && sectorOf x.1 == c))

/-- A write of the enabled bytes of unit `u` (R269, R300): the tag, the WRITTEN bits and the poison mark. -/
def writeUnit (s : State) (u : Nat) (kept : WSet) : State :=
  let m1 := epochMeta s u
  let written := (List.range 4).foldl (fun v c =>
    if !bitOf v c && kept.any (fun x => (!x.2.pad || x.2.under.isSome) && sectorOf x.1 == c) then v + 2 ^ c else v) m1.written
  let poisoned := kept.any (fun x => x.2.poison)
  let whole := decide (kept.length = 256)
  let m2 : UnitMeta := { m1 with written := written, poison := poisoned || (m1.poison && !whole) }
  { s with mem := kept.foldl (fun mem x => tblSet 0 mem x.1 x.2.val) s.mem
           units := tblSet UnitMeta.zero s.units u m2
           upsets := if whole then tblSet Upset.zero s.upsets u Upset.zero else s.upsets }

def poisonUnit (s : State) (u : Nat) : State :=
  { s with units := tblModify UnitMeta.zero s.units u (fun m => { m with poison := true }) }

/-- A read of unit `u` answers poisoned bytes: the unit is poisoned, or an upset waits there that its read cannot mend (R298,
R299). -/
def unitPoison (s : State) (u : Nat) : Bool :=
  (unitMeta s u).poison || decide ((if isHbm (256 * u) then 3 else 2) ≤ (tblGet Upset.zero s.upsets u).reads)

/-- Whether any byte from `k` to `k + n − 1` lies in a poisoned unit. -/
def rangePoison (s : State) (k n : Nat) : Bool :=
  n != 0 && (List.range ((k + n - 1) / 256 + 1 - k / 256)).any (fun i => unitPoison s (k / 256 + i))

/-- The record of a poisoned HBM block (R299, R477): HBM_LAST_POISON, the stack's cause and the log. -/
def hbmPoisoned (s : State) (u : Nat) (type cause : Nat) : State :=
  let k := 256 * u
  let st := stackOf k
  let o := k % 2 ^ 36
  let owner := (ownerOfGranule s (granuleOf k)).getD 0xF
  let off := HBM_LAST_POISON_VALID.at st
  let s1 := if bitOf (getReg s off).toNat 63 then s
    else setReg s off (BitVec.ofNat 64 (o / 256 * 256 + owner * 2 ^ 36 + 2 ^ 63))
  let s2 := logEvent s1 type 3 2 st (if owner = 0xF then none else some owner)
    (leBytes 8 o ++ [BitVec.ofNat 8 owner, BitVec.ofNat 8 cause])
  let s3 := { s2 with mgmt := { s2.mgmt with
    badBlocks := if s2.mgmt.badBlocks.contains u then s2.mgmt.badBlocks else s2.mgmt.badBlocks ++ [u] } }
  raiseCause s3 12 st

/-- A read reaches unit `u`: the checks of R298 and R299 on whatever upset waits there. -/
def readCheck (s : State) (u : Nat) : State :=
  let x := tblGet Upset.zero s.upsets u
  if x.reads = 0 then s
  else
    let k := 256 * u
    let s0 := { s with upsets := tblSet Upset.zero s.upsets u Upset.zero }
    if isHbm k then
      if x.reads ≤ 2 then bump s0 HBM_ERR_EVENTS_RETRY_OK (stackOf k) 1
      else
        let s1 := bump (poisonUnit s0 u) (if x.stack then HBM_ERR_EVENTS_STACK_UE else HBM_ERR_EVENTS_POISONED)
          (stackOf k) 1
        hbmPoisoned s1 u 0x0202 (b2n x.stack)
    else if k < cacheBase then
      let f := (k - localBase) / 2 ^ 22
      if x.reads = 1 then bump s0 FRD_POISON_EVENTS_SRAM_CORR f 1
      else
        let s1 := bump (poisonUnit s0 u) FRD_POISON_EVENTS_SRAM_UE f 1
        raiseCause (seqLogEvent s1 f (mkRec s1 0x0201 1 2 f (ownerOfFrond s f)
          (1#8 :: leBytes 4 ((k - localBase) % 2 ^ 22)))) 12 12
    else
      let c := (k - cacheBase) / 2 ^ 24
      if x.reads = 1 then bump s0 CSH_SRAM_EVENTS_CORRECTED c 1
      else
        let s1 := bump (poisonUnit s0 u) CSH_SRAM_EVENTS_UNCORRECTED c 1
        raiseCause (logEvent s1 0x0201 2 2 c (ownerOfCushion s c) (2#8 :: leBytes 4 ((k - cacheBase) % 2 ^ 24))) 12 12

/-- The units that a write set touches, ascending. -/
def wUnits (w : WSet) : List Nat := dedupNat (w.map (fun e => e.1 / 256))

/-- The HBM accesses that one read of unit `u` makes: the read and the re-reads of R299 (log 59). -/
def readAccesses (s : State) (u : Nat) : Nat := 4 * min 3 ((tblGet Upset.zero s.upsets u).reads + 1)

/-- A read reaches unit `u`: in HBM its 64-byte accesses count at its stack (R307), and the checks follow. -/
def readUnit (s : State) (u : Nat) : State :=
  if isHbm (256 * u) then bump (readCheck s u) HBM_TRAFFIC_ACCESSES (stackOf (256 * u)) (readAccesses s u) else readCheck s u

/-- The bytes of a write set that fall in unit `u` are written. A write of HBM with any byte of its block disabled is a
read-modify-write, whose read is checked as any other (R292, R299). Answers the dropped sectors too. -/
def writePart (s : State) (u : Nat) (part : WSet) (halo : Bool) : State × Nat :=
  let kept := enabledBytes s u part halo
  let d := droppedSectors s u part halo
  if kept.isEmpty then (s, d)
  else if isHbm (256 * u) then
    let st := stackOf (256 * u)
    let s1 := if kept.length = 256 then s else bump (readUnit s u) HBM_RMW_RMW_WRITES st 1
    (bump (writeUnit s1 u kept) HBM_TRAFFIC_ACCESSES st 4, d)
  else (writeUnit s u kept, d)

/-- Every byte of a write set is written, unit by unit; answers the dropped sectors. -/
def writeSet (s : State) (w : WSet) (halo : Bool := false) : State × Nat :=
  (wUnits w).foldl (fun (acc : State × Nat) u =>
    let r := writePart acc.1 u (wUnit w u) halo
    (r.1, acc.2 + r.2)) (s, 0)

/-- A plain write of consecutive bytes. -/
def writeBytes (s : State) (k : Nat) (bs : List Byte) (poison : Bool := false) : State :=
  (writeSet s (wputs [] k bs poison)).1

/-- Reads reach the listed units. -/
def readUnits (s : State) (us : List Nat) : State :=
  us.foldl readUnit s

def unitsOf (k n : Nat) : List Nat :=
  if n = 0 then [] else (List.range ((k + n - 1) / 256 + 1 - k / 256)).map (· + k / 256)

/-- Zeroing of a run of memory (R289): data, marks and tags at zero. -/
def zeroRange (s : State) (k n : Nat) : State :=
  { s with mem := s.mem.filter (fun e => decide (e.1 < k) || decide (e.1 ≥ k + n))
           units := s.units.filter (fun e => decide (256 * e.1 + 256 ≤ k) || decide (256 * e.1 ≥ k + n))
           upsets := s.upsets.filter (fun e => decide (256 * e.1 + 256 ≤ k) || decide (256 * e.1 ≥ k + n)) }

/-! ### Queues (R308 to R316, R323 to R325) -/

/-- The number by which a queue is kept: frond queues by package frond ID, then cushion, anchor and device queues (R312,
R494). -/
def qNum : QueueId → Nat
  | .frond f => f
  | .cushion c => 288 + c
  | .anchor p => 312 + p
  | .device => 320

def qBase : QueueId → Nat
  | .frond f => 0x100000 + 0x1000 * f + 0x4B8
  | .cushion c => 0x60000 + 0x1000 * c + 0x220
  | .anchor p => 0x2200 + 0x40 * p
  | .device => 0x2400

/-- A queue that the device has (R308). -/
def queueExists (s : State) : QueueId → Bool
  | .frond f => frondEnabled s f
  | .cushion c => cushionPresent s c
  | .anchor p => decide (p < 8)
  | .device => true

/-- The partition a queue belongs to. -/
def queueOwner (s : State) : QueueId → Option Nat
  | .frond f => ownerOfFrond s f
  | .cushion c => ownerOfCushion s c
  | .anchor p => some p
  | .device => none

def getQ (s : State) (q : QueueId) : QueueSt := tblGet QueueSt.empty s.queues (qNum q)
def setQ (s : State) (q : QueueId) (v : QueueSt) : State := { s with queues := tblSet QueueSt.empty s.queues (qNum q) v }
def modQ (s : State) (q : QueueId) (f : QueueSt → QueueSt) : State := setQ s q (f (getQ s q))

def Seen.has (x : Seen) (floor0 n : W32) : Bool :=
  decide ((n - floor0).toNat < (x.floor - floor0).toNat) || x.ahead.contains n

/-- Move the floor over the entries ahead of it. -/
def Seen.settle : Nat → Seen → Seen
  | 0, x => x
  | k + 1, x => if x.ahead.contains x.floor then Seen.settle k ⟨x.floor + 1, x.ahead.erase x.floor⟩ else x

/-- Entry `n` passes the point; one that RESUME or RETRACT has exposed again passed it before. -/
def Seen.add (x : Seen) (n : W32) : Seen :=
  let x' : Seen := if x.ahead.contains n || decide ((n - x.floor).toNat ≥ 2 ^ 31) then x else ⟨x.floor, x.ahead ++ [n]⟩
  x'.settle x'.ahead.length

/-- ISSUED and COMPLETED (R309). -/
def Seen.count (x : Seen) : W32 := x.floor + BitVec.ofNat 32 x.ahead.length

def ringLog2 (s : State) (q : QueueId) : Nat := bitsOf (getReg s (qBase q)).toNat 40 5
def ringBase (s : State) (q : QueueId) : Nat := bitsOf (getReg s (qBase q)).toNat 0 40
def cqBase (s : State) (q : QueueId) : Nat := bitsOf (getReg s ((qBase q) + 8)).toNat 0 40

def entryAddr (s : State) (q : QueueId) (n : W32) : Nat := ringBase s q + 128 * (n.toNat % 2 ^ ringLog2 s q)

/-- Whether a queue's rings reach `n` bytes of HBM from `k`: a partition's lie in its own granules (R27, R308), and the
device queue's in any granule. -/
def ringReach (s : State) (q : QueueId) (k n : Nat) : Bool :=
  match q, queueOwner s q with
  | .device, _ => decide (k + n ≤ 12 * 2 ^ 36)
  | _, some p => ownerOfGranule s (granuleOf k) == some p && ownerOfGranule s (granuleOf (k + n - 1)) == some p
  | _, none => false

/-- The 128 bytes of entry `n` (R309, R311). A ring that R27 keeps the queue from yields zeros (log 101). -/
def entryBytes (s : State) (q : QueueId) (n : W32) : List Byte :=
  if ringReach s q (entryAddr s q n) 128 then readBytes s (entryAddr s q n) 128 else List.replicate 128 0#8

/-- The machine after the fetch of entry `n`: its block is read and checked (R299). -/
def fetchEntry (s : State) (q : QueueId) (n : W32) : State :=
  if ringReach s q (entryAddr s q n) 128 then readUnits s (unitsOf (entryAddr s q n) 128) else s

/-- Status codes (R326). -/
def stOK := 0x00
def stIllegal := 0x01
def stBadDesc := 0x02
def stBounds := 0x03
def stAlias := 0x04
def stPoison := 0x05
def stCheckFail := 0x06
def stAborted := 0x07
def stNoResource := 0x08
def stFormat := 0x09
def stSignature := 0x0A
def stLocalDeadline := 0x0B
def stRetracted := 0x0C
def stMismatchTransient := 0x0D
def stNonfinite := 0x0E
def stStorm := 0x0F
def stInconsistent := 0x10
def stLinkDown := 0x11
def stFeedConflict := 0x12

/-- The statuses whose reaction is Halt (R326). -/
def halting (st : Nat) : Bool :=
  [0x01, 0x02, 0x03, 0x04, 0x05, 0x08, 0x09, 0x0A, 0x10, 0x11, 0x12].contains st

/-- The completion record of an entry (R323). -/
def recordBytes (i : Issued) (skipped : Bool) : List Byte :=
  leBytes 4 i.n.toNat ++ [BitVec.ofNat 8 i.status, BitVec.ofNat 8 i.opcode,
    BitVec.ofNat 8 (b2n (halting i.status && !skipped) + 2 * b2n skipped + 4 * b2n i.resumed), 0#8] ++
  leBytes 4 i.tag ++ leBytes 4 i.detail

/-- The record of an entry is written, where the completion ring lies in reach (R27, R323). -/
def writeRecord (s : State) (q : QueueId) (i : Issued) (skipped : Bool) : State :=
  let k := cqBase s q + 16 * (i.n.toNat % 2 ^ ringLog2 s q)
  let s1 := if ringReach s q k 16 then writeBytes s k (recordBytes i skipped) else s
  modQ s1 q (fun x => { x with record := x.record.add i.n })

def markOff (p m : Nat) : Nat := 0x4000 + 0x800 * p + 8 * m

def markCount (s : State) (p m : Nat) : W32 := (getReg s (markOff p m)).setWidth 32

/-- A mark's count increases by 1 (R314). -/
def signalMark (s : State) (q : QueueId) (m : Nat) : State :=
  match queueOwner s q with
  | some p => if m < 256 then setReg s (markOff p m) ((markCount s p m + 1).setWidth 64) else s
  | none => s

/-- A wait on a mark (R314): satisfied, or naming no mark. The device queue has none. -/
def waitMet (s : State) (q : QueueId) (m v : Nat) : Bool :=
  match queueOwner s q with
  | some p => decide (m ≥ 256) || decide ((markCount s p m - BitVec.ofNat 32 v).toNat < 2 ^ 31)
  | none => true

/-- The interrupt block and bit of a queue's halt and completion causes (R493). -/
def haltCause (s : State) (q : QueueId) : State :=
  match queueOwner s q with
  | some p => raiseCause s p 0
  | none => if q = .device then raiseCause s 15 3 else s

def setCompMap (s : State) (q : QueueId) : State :=
  if (qNum q) < 320 then
    let off := INT_COMP_MAP0_COMPLETED.at ((qNum q) / 64)
    setReg s off (getReg s off ||| BitVec.ofNat 64 (2 ^ ((qNum q) % 64)))
  else s

def compCause (s : State) (q : QueueId) : State :=
  match queueOwner s q with
  | some p => raiseCause (setCompMap s q) p 1
  | none => if q = .device then raiseCause s 15 4 else setCompMap s q

/-- A follower has executed what its leader has (R404; log 48): its slots, programs and local memory are the leader's. -/
def mirrorPair (s : State) (f : Nat) : State :=
  if pairedFrond s f && f % 12 % 2 == 0 then
    let a := localKey f 0
    let b := localKey (f + 1) 0
    let mine := (s.mem.filter (fun e => decide (a ≤ e.1) && decide (e.1 < b))).map (fun e => (e.1 + 2 ^ 22, e.2))
    let mineU := (s.units.filter (fun e => decide (a ≤ 256 * e.1) && decide (256 * e.1 < b))).map (fun e => (e.1 + 2 ^ 14, e.2))
    let hi := b + 2 ^ 22
    let s1 := { s with
      mem := s.mem.filter (fun e => decide (e.1 < b)) ++ mine ++ s.mem.filter (fun e => decide (hi ≤ e.1))
      units := s.units.filter (fun e => decide (256 * e.1 < b)) ++ mineU ++ s.units.filter (fun e => decide (hi ≤ 256 * e.1)) }
    let x0 := getFrond s f
    modFrond s1 (f + 1) (fun x => { x with slots := x0.slots, progs := x0.progs, idleAt := x0.idleAt })
  else s

/-! ### Clock and power gating (R18, R25, R37, R531) -/

/-- A frond test runs at the frond's physical position (R412). -/
def underTest (s : State) (f : Nat) : Bool := frondEnabled s f && s.mgmt.testing.contains (physOf s f)

/-- A frond is power-gated; so are, except under test, fronds of no partition and those of withdrawn cushions (R18, R25;
log 86). -/
def powerGated (s : State) (f : Nat) : Bool :=
  !underTest s f && (!frondEnabled s f || (ownerOfFrond s f).isNone || (getFrond s f).gate == .power)

/-- Every frond of a compute die is power-gated, its spares with them (R18, R531). -/
def dieGated (s : State) (d : Nat) : Bool :=
  (List.range 144).all (fun i => powerGated s (144 * d + i)) && s.mgmt.testing.all (fun u => decide (u / 156 ≠ d))

/-- Since when each die has been wholly power-gated (R531). -/
def noteDies (s : State) : State :=
  let idle (t : Tbl Nat) (d : Nat) : Tbl Nat :=
    if !dieGated s d then tblPut t d none
    else if (tblFind t d).isSome then t
    else tblPut t d (some s.counter)
  { s with power := { s.power with dieIdleAt := (List.range 2).foldl idle s.power.dieIdleAt } }

/-- A wake from power gating on a die restarts its ACLK PLL (R531). -/
def wakeDie (s : State) (d : Nat) : State :=
  { s with power := { s.power with
      pllOff := s.power.pllOff.filter (· != d)
      dieIdleAt := tblPut s.power.dieIdleAt d none } }

/-- A power-gated frond wakes (R532). -/
def wakeFrond (s : State) (f : Nat) : State :=
  wakeDie (bump (modFrond s f (fun x => { x with gate := .awake })) FRD_PWR_EVENTS_POWER_WAKES f 1) (f / 144)

/-! ### In-field tests (R412)

A unit under test is a physical frond, die × 156 + 13 × cushion-within-die + offset, or 312 + c for the cushion test of package
cushion c. -/

/-- The package cushion of a unit. -/
def unitCushion (u : Nat) : Nat := if u < 312 then u / 156 * 12 + u % 156 / 13 else u - 312

/-- The enabled frond at a physical position. -/
def frondAt (s : State) (u : Nat) : Option Nat := (List.range 12).findSome? (fun i =>
  let f := 12 * unitCushion u + i
  if frondEnabled s f && physOf s f == u then some f else none)

/-- The test of a unit starts: the frond is clocked and powered for it, its wake counting as any other (R18, R532), and what
the test covers of local memory and cache is overwritten (log 15). -/
def startTest (s : State) (u : Nat) : State :=
  let s1 := { s with mgmt := { s.mgmt with testing := dedupNat (s.mgmt.testing ++ [u]) } }
  if u < 312 then
    match frondAt s u with
    | some f =>
      let s2 := if powerGated s f then wakeFrond s1 f else modFrond s1 f (fun x => { x with gate := .awake })
      modFrond (zeroRange s2 (localKey f 0) (2 ^ 22)) f (fun x => { x with slots := [] })
    | none => wakeDie s1 (u / 156)
  else zeroRange s1 (cacheKey (2 ^ 24 * (u - 312))) (2 ^ 24)

/-! ### The end of an entry -/

/-- An entry takes its outcome (R323, R324): its record, and then the halt, or its mark and its interrupt. -/
def finishEntry (s : State) (q : QueueId) (i : Issued) : State :=
  let s1 := writeRecord s q i false
  let s2 := modQ s1 q (fun x => { x with
    live := x.live.filter (fun y => y.n != i.n)
    redo := x.redo.erase i.n
    again := x.again.filter (fun y => y.n != i.n) })
  let s3 := match q with
    | .frond f => mirrorPair (modFrond s2 f (fun x => { x with idleAt := s2.counter })) f
    | _ => s2
  if halting i.status then
    haltCause (modQ s3 q (fun x => { x with halted := x.halted ++ [i] })) q
  else
    let s4 := signalMark s3 q i.signal
    if bitOf i.flags 4 then compCause s4 q else s4

/-- The halted entry of lowest queue order (HALT_POS, R324). -/
def haltPos (x : QueueSt) : Option Issued :=
  x.halted.foldl (fun b i => match b with
    | none => some i
    | some c => if (i.n - x.issued.floor).toInt < (c.n - x.issued.floor).toInt then some i else some c) none

/-- What an entry's header says (R311). -/
def hdr (e : List Byte) (status detail : Nat) (n : W32) (resumed : Bool) (w : WaitFor) : Issued :=
  ⟨n, leAt e 0 1, leAt e 1 1, leAt e 12 2, leAt e 24 4, leAt e 32 1, status, detail, resumed, w⟩

/-- A record about a command of a queue (R476, R489): a frond's goes out on its mailbox channel. -/
def queueEvent (s : State) (q : QueueId) (type severity : Nat) (payload : List Byte) : State :=
  match q with
  | .frond f => seqLogEvent s f (mkRec s type 1 severity f (ownerOfFrond s f) payload)
  | .cushion c => logEvent s type 2 severity c (ownerOfCushion s c) payload
  | .anchor p => logEvent s type 0 severity 0 (some p) payload
  | .device => logEvent s type 0 severity 0 none payload

/-! ### Partitions entering and leaving states (R167, R320, R410) -/

/-- All slots of the partition's fronds become EMPTY (R167); with `ends`, what runs in their vector engines ends too. -/
def emptySlots (s : State) (p : Nat) (ends : Bool) : State :=
  { s with fronds := ((s.fronds.map (fun e =>
      if ownerOfFrond s e.1 = some p then (e.1, { e.2 with slots := [], vrun := if ends then none else e.2.vrun }) else e)).filter
      (fun e => e.2 != FrondSt.empty)) }

def queuesOf (s : State) (p : Nat) : List QueueId :=
  (frondsOf s p).map .frond ++ (cushionsOf s p).map .cushion ++ [.anchor p]

/-- Issued commands of the partition end with ABORTED. -/
def abortIssued (s : State) (p : Nat) : State :=
  (queuesOf s p).foldl (fun s q =>
    ((getQ s q).live ++ (getQ s q).again).foldl (fun s i => finishEntry s q { i with status := stAborted, detail := 0 }) s) s

/-- ISSUED and COMPLETED of every queue of the partition become its TAIL, which clears any halt (R320). -/
def resetQueues (s : State) (p : Nat) : State :=
  (queuesOf s p).foldl (fun s q => modQ s q (fun x => ⟨x.tail, ⟨x.tail, []⟩, ⟨x.tail, []⟩, [], [], [], []⟩)) s

/-- The due fronds of a partition whose state defers their tests are overdue (R414). -/
def deferTests (s : State) (p : Nat) : State :=
  (s.mgmt.due.filter (· < 312)).foldl (fun s u => match frondAt s u with
    | some f => if ownerOfFrond s f = some p then setF s FRD_REL_STATE_TEST_OVERDUE f 1 else s
    | none => s) s

def setPartState (s : State) (p : Nat) (st : PartState) : State :=
  let s1 := modPart s p (fun x => { x with state := st })
  let s2 := if st = .running ∨ st = .draining ∨ st = .faulted then deferTests s1 p else s1
  if st = .running then s2 else emptySlots s2 p (decide (st ≠ .draining))

/-- Entry into FAULTED (R320, R410). The partition's open epochs close; its drains go on (log 68). -/
def enterFaulted (s : State) (p status : Nat) : State :=
  let s1 := modPart (setPartState s p .faulted) p (fun x => { x with fault := status, epochs := [], early := [], repeats := none })
  raiseCause (abortIssued s1 p) p 2

/-- CHECK_FAIL brings the partition to FAULTED (R326); every other outcome is the entry's own. -/
def concludeEntry (s : State) (q : QueueId) (i : Issued) : State :=
  let s1 := finishEntry s q i
  if i.status = stCheckFail then
    match queueOwner s q with
    | some p => enterFaulted s1 p stCheckFail
    | none => s1
  else s1

end Sys2Proof.Machine
end

