-- ==== Sys2Proof/Machine/Desc.lean ====
section
/-! DEFINITION. Descriptors (chapter 10 of the spec, R247 to R277): their layout, their validation at issue, the addresses
of elements and blocks, and the reading and writing of elements and blocks in the three memory spaces. -/

namespace Sys2Proof.Machine

/-- The signed 48-bit number at a byte offset. -/
def sAt48 (b : List Byte) (o : Nat) : Int :=
  let v := leAt b o 6
  if v < 2 ^ 47 then Int.ofNat v else Int.ofNat v - 2 ^ 48

def parseDesc (b : List Byte) : Desc :=
  let ctrl := leAt b 0 8
  { fam := bitsOf ctrl 0 3, width := bitsOf ctrl 3 3 + 1, dims := bitsOf ctrl 6 3 + 1, blk := bitsOf ctrl 9 3
    split := max 1 (bitsOf ctrl 12 3), space := bitsOf ctrl 15 2, oob := bitsOf ctrl 17 2, overlap := bitOf ctrl 19
    halo := bitOf ctrl 20, budget := bitsOf ctrl 21 2, rot := bitsOf ctrl 23 3, wcopy := bitOf ctrl 26
    group := bitsOf ctrl 27 4
    ext := (List.range 6).map (fun d => leAt b (8 + 4 * d) 4)
    str := (List.range 6).map (fun d => sAt48 b (32 + 6 * d))
    seed := leAt b 68 4, baseE := leAt b 72 8, baseM := leAt b 80 8, baseX := leAt b 88 8, baseG := leAt b 96 8
    slot := leAt b 104 4, pad := BitVec.ofNat 32 (leAt b 108 4)
    padLo := (List.range 6).map (fun d => bitsOf (leAt b (112 + d) 1) 0 4)
    padHi := (List.range 6).map (fun d => bitsOf (leAt b (112 + d) 1) 4 4)
    shard := leAt b 120 8
    resv := decide (bitsOf ctrl 31 33 = 0) && decide (leAt b 118 2 = 0) }

def Desc.family (d : Desc) : Family := Family.ofCode d.fam
def Desc.blocked (d : Desc) : Bool := d.family.blocked
/-- FP32 or BF16. -/
def Desc.wide (d : Desc) : Bool := d.fam == 5 || d.fam == 6
def Desc.elemSize (d : Desc) : Nat := if d.fam = 6 then 4 else 2
def Desc.rotSize (d : Desc) : Nat := if d.rot = 0 then 0 else 8 * 2 ^ d.rot
def Desc.e (d : Desc) (k : Nat) : Nat := d.ext.getD k 1
def Desc.s (d : Desc) (k : Nat) : Int := d.str.getD k 0

/-- The bits an address of a space may have (R251). -/
def addrLegal (space a : Nat) : Bool := decide (a < (if space = 0 then 2 ^ 40 else if space = 1 then 2 ^ 22 else 2 ^ 29))

/-- R252, with the legal values of R250 and R266: FAMILY and WIDTH take no part. -/
def Desc.wellFormed (d : Desc) : Bool :=
  let fams := d.blocked || d.wide
  d.resv && decide (d.dims ≤ 6) && decide (d.blk < d.dims) && decide (d.split ≤ max 1 (d.dims - 1))
  && decide (d.space ≤ 2) && decide (d.oob ≤ 2) && decide (d.budget ≤ 2) && decide (d.rot ≤ 4)
  && decide (d.group ≠ 13) && decide (d.group ≠ 14)
  && (!d.wide || (d.blk == 0 && d.budget == 0))
  && (List.range 6).all (fun k => if k < d.dims then decide (1 ≤ d.e k) else decide (d.e k = 1 ∧ d.s k = 0))
  && (!d.blocked || decide (d.e d.blk % 16 = 0))
  && (!fams || decide (d.baseE % (if d.fam = 6 then 4 else 2) = 0))
  && decide (d.baseM % 2 = 0)
  && decide (d.baseG % (if d.wcopy then 64 else 32) = 0)
  && [d.baseE, d.baseM, d.baseX, d.baseG].all (addrLegal d.space)
  && (!d.blocked || (d.oob != 2 && d.padLo.all (· == 0) && d.padHi.all (· == 0)))
  && decide (bitsOf d.shard 40 24 = 0)

/-! ### Sharding (R273 to R277) -/

def Desc.shardGroup (d : Desc) : Nat := bitsOf d.shard 0 16
def Desc.shardMode (d : Desc) (k : Nat) : Nat := bitsOf d.shard (16 + 4 * k) 2
def Desc.shardAxis (d : Desc) (k : Nat) : Nat := bitsOf d.shard (18 + 4 * k) 2

def findGroup (s : State) (g : Nat) : Option GroupCfg := (cfgOf s).groups.find? (fun x => x.group == g)

/-- The member index of partition `p` of this device in a group (R274). -/
def memberIndex (s : State) (p : Nat) (g : GroupCfg) : Option Nat :=
  g.members.findIdx? (fun m => decide (some m.dev = s.fabric.addr) && m.part == p)

/-- The grid coordinate of member `i` along an axis (R274). -/
def gridCoord (g : GroupCfg) (i axis : Nat) : Nat :=
  i / (g.grid.take axis).foldl (· * ·) 1 % max 1 (g.grid.getD axis 1)

/-- R273 and R277. -/
def Desc.shardOk (s : State) (p : Nat) (d : Desc) : Bool :=
  if d.shardGroup = 0xFFFF then decide (bitsOf d.shard 16 24 = 0)
  else match findGroup s d.shardGroup with
    | none => false
    | some g =>
      (memberIndex s p g).isSome
      && (List.range 6).all (fun k => d.shardMode k != 3 && (decide (d.shardAxis k < g.grid.length)
          || (d.shardMode k == 0 && d.shardAxis k == 0)))
      && (List.range 6).all (fun k => (List.range 6).all (fun j =>
          decide (k ≥ j) || d.shardMode k == 0 || d.shardMode j == 0 || d.shardAxis k != d.shardAxis j))

/-- The sharding unit of a dimension (R275). -/
def Desc.shardUnit (d : Desc) (k : Nat) : Nat := if d.blocked && k == d.blk then 16 else 1

/-- How many units of `u` the member at coordinate `r` of an axis of size `a` holds (R275). -/
def unitsHeld (mode total a r : Nat) : Nat :=
  if mode = 1 then
    let h := ceilDiv total a
    min total ((r + 1) * h) - min total (r * h)
  else if mode = 2 then (total + a - 1 - r) / a
  else total

/-- The local coordinate of a global coordinate, where this member holds it (R275). -/
def localCoord (mode total a r u g : Nat) : Option Nat :=
  if mode = 1 then
    let h := ceilDiv total a
    if g / u / h = r then some (g - r * h * u) else none
  else if mode = 2 then
    if g / u % a = r then some (g / u / a * u + g % u) else none
  else some g

/-- The local coordinates of a global one on member `j` of the group that shards `d`, where it holds it (R275). -/
def heldBy (g : GroupCfg) (d : Desc) (j : Nat) (c : List Nat) : Option (List Nat) :=
  (c.zipIdx).foldr (fun (x, k) acc =>
    match acc, localCoord (d.shardMode k) (d.e k / d.shardUnit k) (g.grid.getD (d.shardAxis k) 1)
        (gridCoord g j (d.shardAxis k)) (d.shardUnit k) x with
    | some l, some y => some (y :: l)
    | _, _ => none) (some [])

/-- The descriptor with the extents of the local shard (R276). -/
def Desc.localize (s : State) (p : Nat) (d : Desc) : Desc :=
  if d.shardGroup = 0xFFFF then d
  else match findGroup s d.shardGroup with
    | none => d
    | some g =>
      let i := (memberIndex s p g).getD 0
      { d with ext := (List.range 6).map (fun k =>
          let u := d.shardUnit k
          unitsHeld (d.shardMode k) (d.e k / u) (g.grid.getD (d.shardAxis k) 1) (gridCoord g i (d.shardAxis k)) * u) }

/-! ### Coordinates (R253 to R255) -/

/-- The coordinates of linear index `i` under extents, dimension 0 fastest. -/
def coordsOf : List Nat → Nat → List Nat
  | [], _ => []
  | e :: es, i => i % max 1 e :: coordsOf es (i / max 1 e)

def linearOf : List Nat → List Nat → Nat
  | e :: es, c :: cs => c + e * linearOf es cs
  | _, _ => 0

/-- Extents in addressing units: elements, or blocks of a block-quantised tensor (R254). -/
def Desc.unitExt (d : Desc) : List Nat := if d.blocked then updAt d.ext d.blk (· / 16) else d.ext

def Desc.count (d : Desc) : Nat := d.ext.foldl (· * ·) 1
def Desc.unitCount (d : Desc) : Nat := d.unitExt.foldl (· * ·) 1

/-- `Σ STRIDE[d] × c_d`. -/
def offsetOf : List Int → List Nat → Int
  | s :: ss, c :: cs => s * Int.ofNat c + offsetOf ss cs
  | _, _ => 0

/-- The columns and rows of the matrix view (R255). -/
def Desc.cols (d : Desc) : Nat := (d.ext.take d.split).foldl (· * ·) 1
def Desc.rows (d : Desc) : Nat := (d.ext.drop d.split).foldl (· * ·) 1

def Desc.coordsMN (d : Desc) (m n : Nat) : List Nat := coordsOf (d.ext.take d.split) n ++ coordsOf (d.ext.drop d.split) m

/-- The block coordinates of an element's coordinates (R254). -/
def Desc.blockOf (d : Desc) (c : List Nat) : List Nat := if d.blocked then updAt c d.blk (· / 16) else c

/-! ### Keys -/

/-- The flat key of an address in a descriptor's space, for an access that frond `f` executes (R251). -/
def spaceKey (space f : Nat) (a : Int) : Nat :=
  let n := a.toNat
  if space = 1 then localKey f n else if space = 2 then cacheKey n else n

def Desc.elemKey (d : Desc) (f : Nat) (c : List Nat) : Nat :=
  spaceKey d.space f (Int.ofNat d.baseE + Int.ofNat d.elemSize * offsetOf d.str c)

/-- The keys of a block's planes, from its block coordinates (R254). -/
def Desc.blkElemKey (d : Desc) (f : Nat) (b : List Nat) : Nat :=
  spaceKey d.space f (Int.ofNat d.baseE + Int.ofNat (2 * d.width) * offsetOf d.str b)
def Desc.blkMetaKey (d : Desc) (f : Nat) (b : List Nat) : Nat :=
  spaceKey d.space f (Int.ofNat d.baseM + 2 * offsetOf d.str b)
def Desc.blkEpiKey (d : Desc) (f : Nat) (b : List Nat) : Nat :=
  spaceKey d.space f (Int.ofNat d.baseX + Int.ofNat (3 * d.budget) * offsetOf d.str b)

/-! ### Ranges and the write test (R259, R261, R262) -/

/-- The lowest and highest byte of a plane (R259). -/
def planeRange (base unit : Nat) (ext : List Nat) (str : List Int) : Int × Int :=
  let terms := (ext.zip str).map (fun (n, s) => s * (Int.ofNat n - 1))
  (Int.ofNat base + Int.ofNat unit * terms.foldl (fun a t => a + min 0 t) 0,
   Int.ofNat base + Int.ofNat unit * terms.foldl (fun a t => a + max 0 t) 0 + Int.ofNat unit - 1)

/-- The planes of a descriptor as base and bytes per unit. -/
def Desc.planes (d : Desc) : List (Nat × Nat) :=
  if d.blocked then
    [(d.baseE, 2 * d.width), (d.baseM, 2)] ++ (if d.budget = 0 then [] else [(d.baseX, 3 * d.budget)])
  else [(d.baseE, d.elemSize)]

/-- Every byte of a range lies in memory that the partition may address (R27, R259). -/
def rangeInside (s : State) (p space : Nat) (lo hi : Int) : Bool :=
  decide (0 ≤ lo) && decide (lo ≤ hi) &&
  (let a := lo.toNat
   let b := hi.toNat
   if space = 0 then
     decide (b < 2 ^ 40) && (List.range (b / 2 ^ 30 + 1 - a / 2 ^ 30)).all (fun i =>
       decide (ownerOfGranule s (a / 2 ^ 30 + i) = some p))
   else if space = 1 then decide (b < 2 ^ 22)
   else decide (a / 2 ^ 24 = b / 2 ^ 24) && cushionPresent s (a / 2 ^ 24)
     && decide (ownerOfCushion s (a / 2 ^ 24) = some p))

def Desc.inside (s : State) (p : Nat) (d : Desc) : Bool :=
  decide (d.unitCount = 0) ||
  (d.planes.all (fun (b, u) =>
    let r := planeRange b u d.unitExt d.str
    rangeInside s p d.space r.1 r.2)
  && (!d.wcopy || rangeInside s p d.space (Int.ofNat d.baseG) (Int.ofNat d.baseG + 127)))

/-- R261; `sum` leaves out the dimensions whose stride is 0. -/
def passesWriteTest (ext : List Nat) (str : List Int) (sum : Bool) : Bool :=
  let dims := ((ext.zip str).filter (fun (n, s) => decide (n > 1) && !(sum && s == 0))).map
    (fun (n, s) => (s.natAbs, n))
  ((sortBy (fun a b => decide (a.1 ≤ b.1)) dims).foldl (fun (acc : Option Nat) (s, n) =>
    match acc with
    | some reach => if s ≤ reach then none else some (reach + s * (n - 1))
    | none => none) (some 0)).isSome

def Desc.planesMeet (d : Desc) : Bool :=
  let rs := d.planes.map (fun (b, u) => planeRange b u d.unitExt d.str)
  (rs.zipIdx).any (fun (a, i) => (rs.zipIdx).any (fun (b, j) => decide (i < j) && decide (a.1 ≤ b.2) && decide (b.1 ≤ a.2)))

/-- R262. -/
def Desc.writeOk (d : Desc) (sum : Bool) : Bool :=
  (d.overlap || passesWriteTest d.unitExt d.str sum) && !(d.blocked && d.planesMeet)

/-! ### The descriptor table and validation at issue (R247, R248, R258) -/

def descKey (s : State) (p h : Nat) : Nat := ((partCfg s p).map (·.descBase)).getD 0 + 128 * h
def handleValid (s : State) (p h : Nat) : Bool := decide (h < ((partCfg s p).map (·.descCount)).getD 0)
def readDesc (s : State) (p h : Nat) : Desc := parseDesc (readBytes s (descKey s p h) 128)

/-- How a command names a descriptor: its handle, whether it writes through it, whether the write is a SUM store, whether the
command's own rules on its family hold (R39, R256, R257), and, for a descriptor that names bitmaps (R180, R211), the bytes that
those at BASE_E and BASE_M take. -/
structure Use where
  h      : Nat
  write  : Bool := false
  sum    : Bool := false
  fmtOk  : Bool := true
  bits   : Option (Nat × Nat) := none
  deriving DecidableEq, Repr

/-- The use of a mask over an output of some rows and columns (R180), where the entry names one. -/
def maskUse (h rows cols : Nat) : List Use :=
  if h = 0xFFFF then [] else [{ h := h, bits := some (ceilDiv rows 8, ceilDiv cols 8) }]

/-- R39: the family and width that any command accepts. -/
def Desc.familyLegal (d : Desc) : Bool :=
  (if d.wide then d.width == 1 else (elemFmt d.family d.width).isSome)
  && (d.wcopy || (d.fam != 1 && d.fam != 4))

/-- The reads that issue makes of the named descriptors, each once. -/
def readDescs (s : State) (p : Nat) (hs : List Nat) : State :=
  readUnits s (dedupNat ((hs.filter (handleValid s p)).flatMap (fun h => unitsOf (descKey s p h) 128)))

/-- Row 3 of R258 for a bitmap of `n` bytes (R180). -/
def bitmapInside (s : State) (p space base n : Nat) : Bool :=
  n == 0 || rangeInside s p space (Int.ofNat base) (Int.ofNat base + Int.ofNat n - 1)

/-- R248 and rows 1 to 4 of R258: the first failure, as status and DETAIL. Of a descriptor that names bitmaps only R252 and the
ranges count (R180). -/
def validate (s : State) (p : Nat) (us : List Use) : Option (Nat × Nat) :=
  let ds := us.map (fun u => (u, (readDesc s p u.h).localize s p))
  let fail (row st : Nat) (ok : Use × Desc → Bool) : Option (Nat × Nat) :=
    (ds.find? (fun x => !ok x)).map (fun x => (st, x.1.h + row * 2 ^ 16))
  (fail 0 stPoison (fun x => !handleValid s p x.1.h || !rangePoison s (descKey s p x.1.h) 128)).or
  ((fail 1 stBadDesc (fun x => handleValid s p x.1.h && (readDesc s p x.1.h).wellFormed
      && (x.1.bits.isSome || (readDesc s p x.1.h).shardOk s p))).or
  ((fail 2 stFormat (fun x => x.1.bits.isSome || (x.2.familyLegal && x.1.fmtOk))).or
  ((fail 3 stBounds (fun x => match x.1.bits with
      | some b => bitmapInside s p x.2.space x.2.baseE b.1 && bitmapInside s p x.2.space x.2.baseM b.2
      | none => x.2.inside s p)).or
  (fail 4 stAlias (fun x => !x.1.write || x.2.writeOk x.1.sum)))))

/-- The byte ranges of a descriptor's planes (R259). -/
def Desc.ranges (d : Desc) : List (Int × Int) :=
  if d.unitCount = 0 then [] else d.planes.map (fun (b, u) => planeRange b u d.unitExt d.str)

/-- R406: in a paired partition, a frond command may not write where it reads, a SUM destination apart. -/
def pairClash (s : State) (p : Nat) (us : List Use) : Bool :=
  let ds := us.map (fun u => (u, (readDesc s p u.h).localize s p))
  ((partCfg s p).map (·.paired)).getD false &&
  ds.any (fun w => w.1.write && !w.1.sum && ds.any (fun r => !r.1.write && r.2.space == w.2.space &&
    w.2.ranges.any (fun a => r.2.ranges.any (fun b => decide (a.1 ≤ b.2) && decide (b.1 ≤ a.2)))))

/-- The validation of a frond command's descriptors. -/
def validateFrond (s : State) (p : Nat) (us : List Use) : Option (Nat × Nat) :=
  (validate s p us).or (if pairClash s p us then some (0x01, 0) else none)

/-! ### Reading elements and blocks -/

/-- A copy header (R257). -/
structure CopyHeader where
  version : Nat
  layer   : Nat
  rot     : Nat
  promote : Nat
  rung    : Nat
  flags   : Nat
  seed    : Nat
  kseg    : Nat
  qw      : Nat
  tw      : Nat
  groupTable : Nat
  spillBase : Nat
  spillCap : Nat
  dirBase : Nat
  streakBase : Nat
  deriving DecidableEq, Repr

def parseHeader (b : List Byte) : CopyHeader :=
  { version := leAt b 0 8, layer := leAt b 8 4, rot := leAt b 12 1, promote := leAt b 13 1, rung := leAt b 14 1
    flags := leAt b 15 1, seed := leAt b 16 4, kseg := leAt b 20 4, qw := leAt b 24 8, tw := leAt b 32 8
    groupTable := leAt b 40 8, spillBase := leAt b 48 8, spillCap := leAt b 56 4, dirBase := leAt b 64 8
    streakBase := leAt b 72 8 }

def headerBytes (h : CopyHeader) : List Byte :=
  leBytes 8 h.version ++ leBytes 4 h.layer ++ leBytes 1 h.rot ++ leBytes 1 h.promote ++ leBytes 1 h.rung ++
  leBytes 1 h.flags ++ leBytes 4 h.seed ++ leBytes 4 h.kseg ++ leBytes 8 h.qw ++ leBytes 8 h.tw ++
  leBytes 8 h.groupTable ++ leBytes 8 h.spillBase ++ leBytes 4 h.spillCap ++ leBytes 4 0 ++ leBytes 8 h.dirBase ++
  leBytes 8 h.streakBase ++ leBytes 48 0

def Desc.headerKey (d : Desc) (f : Nat) : Nat := spaceKey d.space f (Int.ofNat d.baseG)
def readHeader (s : State) (f : Nat) (d : Desc) : Option CopyHeader :=
  if d.wcopy then some (parseHeader (readBytes s (d.headerKey f) 128)) else none

/-- The FP32 value of an element of a wide tensor. -/
def readWide (s : State) (f : Nat) (d : Desc) (c : List Nat) : W32 :=
  let k := d.elemKey f c
  if d.fam = 6 then BitVec.ofNat 32 (readNat s k 4) else bf16ToFp32 (BitVec.ofNat 16 (readNat s k 2))

def readBf16 (s : State) (f : Nat) (d : Desc) (c : List Nat) : W16 := BitVec.ofNat 16 (readNat s (d.elemKey f c) 2)

/-- The group of a UINT or LUT copy that a block belongs to (R44), by canonical block order. -/
def Desc.groupIndex (d : Desc) (b : List Nat) : Nat :=
  if d.group = 15 then 0 else linearOf d.unitExt b / 2 ^ d.group

/-- The group table entry of a block (R44 to R47). -/
def readGroup (s : State) (f : Nat) (d : Desc) (h : Option CopyHeader) (b : List Nat) : Group :=
  let base := spaceKey d.space f (Int.ofNat ((h.map (·.groupTable)).getD d.baseG))
  let g := d.groupIndex b
  if d.fam = 1 then zpGroup d.width (readNat s (base + g) 1)
  else if d.fam = 4 ∧ d.width = 4 then
    lutGroup ((List.range 16).map (fun i => BitVec.ofNat 16 (readNat s (base + 32 * g + 2 * i) 2)))
  else .none

/-- The directory entry of a block's group (R144): BITMAP and BASE. -/
def readDir (s : State) (f : Nat) (d : Desc) (h : CopyHeader) (i : Nat) : Nat × Nat :=
  let k := spaceKey d.space f (Int.ofNat h.dirBase) + 16 * (i / 64)
  (readNat s k 8, readNat s (k + 8) 4)

def popcount (n k : Nat) : Nat := (List.range k).countP (fun j => bitOf n j)

/-- The spill entry of block `i`, where the directory marks it and it lies below the capacity (R144, R145). -/
def readSpill (s : State) (f : Nat) (d : Desc) (h : CopyHeader) (i : Nat) : Bool × Option (List Byte × Nat) :=
  if h.spillCap = 0 then (false, none)
  else
    let (bm, base) := readDir s f d h i
    let bit := bitOf bm (i % 64)
    let e := base + popcount bm (i % 64)
    if bit ∧ e < h.spillCap then
      let k := spaceKey d.space f (Int.ofNat h.spillBase) + 18 * e
      (true, some (readBytes s k 16, readNat s (k + 16) 2))
    else (bit, none)

/-- A block as memory holds it. -/
def readBlock (s : State) (f : Nat) (d : Desc) (b : List Nat) : RawBlock :=
  let h := readHeader s f d
  let (bit, sp) := (h.map (fun x => readSpill s f d x (linearOf d.unitExt b))).getD (false, none)
  { nominal := d.width
    elems := readBytes s (d.blkElemKey f b) (2 * d.width)
    metaWord := readNat s (d.blkMetaKey f b) 2
    budget := d.budget
    slots := if d.budget = 0 then [] else readBytes s (d.blkEpiKey f b) (3 * d.budget)
    group := readGroup s f d h b
    bitmap := bit
    spill := sp }

/-- The units that reading a block touches. -/
def blockUnits (s : State) (f : Nat) (d : Desc) (b : List Nat) : List Nat :=
  let sp := match readHeader s f d with
    | some h =>
      let i := linearOf d.unitExt b
      (if h.spillCap = 0 then []
       else
         let (bm, base) := readDir s f d h i
         unitsOf (spaceKey d.space f (Int.ofNat h.dirBase) + 16 * (i / 64)) 16 ++
         (if bitOf bm (i % 64) ∧ base + popcount bm (i % 64) < h.spillCap then
            unitsOf (spaceKey d.space f (Int.ofNat h.spillBase) + 18 * (base + popcount bm (i % 64))) 18 else []))
      ++ unitsOf (d.headerKey f) 128
      ++ (if d.fam = 1 then unitsOf (spaceKey d.space f (Int.ofNat h.groupTable) + d.groupIndex b) 1
          else if d.fam = 4 ∧ d.width = 4 then
            unitsOf (spaceKey d.space f (Int.ofNat h.groupTable) + 32 * d.groupIndex b) 32 else [])
    | none => []
  unitsOf (d.blkElemKey f b) (2 * d.width) ++ unitsOf (d.blkMetaKey f b) 2
  ++ (if d.budget = 0 then [] else unitsOf (d.blkEpiKey f b) (3 * d.budget)) ++ sp

/-- The units that reading an element touches: its block's, in a block-quantised tensor. -/
def elemUnits (s : State) (f : Nat) (d : Desc) (c : List Nat) : List Nat :=
  if d.blocked then blockUnits s f d (d.blockOf c) else unitsOf (d.elemKey f c) d.elemSize

/-! ### Writing elements and blocks -/

/-- The bytes of an FP32 value in a wide format (R61). -/
def wideBytes (d : Desc) (v : W32) : List Byte :=
  if d.fam = 6 then leBytes 4 v.toNat else leBytes 2 (fp32ToBf16 v).toNat

def putWide (w : WSet) (d : Desc) (f : Nat) (c : List Nat) (v : W32) (poison : Bool := false) (pad : Bool := false) :
    WSet :=
  wputs w (d.elemKey f c) (wideBytes d v) poison pad

/-- The planes of a quantised block (R50, R51, R111). -/
def putBlock (w : WSet) (d : Desc) (f : Nat) (b : List Nat) (q : QBlock) (poison : Bool := false) : WSet :=
  let w1 := wputs w (d.blkElemKey f b) (packCodes d.width q.codes) poison
  let w2 := wputs w1 (d.blkMetaKey f b) (metaBytes d.width q) poison
  if d.budget = 0 then w2 else wputs w2 (d.blkEpiKey f b) (epiBytes d.budget q.epis) poison

/-! ### Settings by slot and layer -/

def slotCfg (s : State) (p k : Nat) : Option SlotCfg := (cfgOf s).slots.find? (fun x => x.part == p && x.slot == k)
def layerCfg (s : State) (p l : Nat) : Option LayerCfg := (cfgOf s).layers.find? (fun x => x.part == p && x.layer == l)
def tensorCfg (s : State) (p t : Nat) : Option TensorCfg := (cfgOf s).tensors.find? (fun x => x.part == p && x.tensor == t)

end Sys2Proof.Machine
end

