-- ==== Sys2Proof/Machine/Issue.lean ====
section
/-! DEFINITION. Issue (R283, R308 to R317, R322): when an entry may issue, the checks every entry passes, and how a
command's outcome is recorded. Every command of a queue is written over `runEntry`. -/

namespace Sys2Proof.Machine

/-- What a command's own rules make of its entry: it is rejected with a status and DETAIL, it cannot take place yet, or it
has its effects and will complete with a status. `consumed` says that it consumed poison (R302). -/
inductive Verdict where
  | wait
  | reject (status detail : Nat)
  | effect (s : State) (status detail : Nat) (consumed : Bool) (w : WaitFor)

/-- An effect that completes with OK. -/
def Verdict.ok (s : State) : Verdict := .effect s stOK 0 false .done

/-- An effect whose status gives way to POISON_CONSUMED where the command consumed poison (R302). -/
def Verdict.poisoned (s : State) (status : Nat) (consumed : Bool) : Verdict :=
  .effect s (if consumed && (status == stOK || status == stFormat) then stPoison else status) 0 consumed .done

def entOp (e : List Byte) : Nat := leAt e 0 1
def entFlags (e : List Byte) : Nat := leAt e 1 1
def entOrder (e : List Byte) : Nat := leAt e 4 4
def entStrand (q : QueueId) (e : List Byte) : Nat := match q with | .frond _ => bitsOf (entFlags e) 0 2 | _ => 0
def recompute (e : List Byte) : Bool := bitOf (entFlags e) 2

/-- Parameters by byte offset. -/
def p8 (e : List Byte) (o : Nat) : Nat := leAt e o 1
def p16 (e : List Byte) (o : Nat) : Nat := leAt e o 2
def p32 (e : List Byte) (o : Nat) : Nat := leAt e o 4
def p64 (e : List Byte) (o : Nat) : Nat := leAt e o 8

/-- The commands of R317 and the queues that allow them, with the reduction commands of chapter 14. -/
def opAllowed (q : QueueId) (op : Nat) : Bool :=
  op == 0x00 || op == 0x01 ||
  (match q with
   | .frond _ => [0x10, 0x11, 0x12, 0x20, 0x21, 0x22, 0x23, 0x28, 0x30, 0x39].contains op
   | .cushion _ => op == 0x18
   | .anchor _ => [0x31, 0x38, 0x3A].contains op
   | .device => [0x40, 0x41, 0x48, 0x49, 0x4A, 0x4B, 0x4C, 0x4D, 0x4E].contains op)

def opListed (op : Nat) : Bool :=
  [0x00, 0x01, 0x10, 0x11, 0x12, 0x18, 0x20, 0x21, 0x22, 0x23, 0x28, 0x30, 0x31, 0x38, 0x39, 0x3A, 0x40, 0x41, 0x48, 0x49,
   0x4A, 0x4B, 0x4C, 0x4D, 0x4E].contains op

/-- The header is well formed: reserved bytes and bits zero, mark indices legal (R311, R313). -/
def headerOk (e : List Byte) : Bool :=
  let markOk (m : Nat) : Bool := decide (m < 256) || m == 0xFFFF
  decide (p16 e 2 = 0) && decide (p16 e 14 = 0) && decide (p32 e 28 = 0) && decide (entFlags e < 32)
  && markOk (p16 e 8) && markOk (p16 e 10) && markOk (p16 e 12)

/-- The bytes of the parameter area outside the listed fields (offset, length) are zero (R313). -/
def paramsOk (e : List Byte) (used : List (Nat × Nat)) : Bool :=
  (List.range' 32 96).all (fun o => used.any (fun u => decide (u.1 ≤ o ∧ o < u.1 + u.2)) || leAt e o 1 == 0)

/-- Entry `n` is exposed again, by RESUME (R325) or by RETRACT (R394). -/
def exposedAgain (x : QueueSt) (n : W32) : Bool := x.redo.contains n || x.again.any (fun i => i.n == n)

/-- Entry `n` stands exposed by TAIL and has not issued, or is exposed again (R309, R325, R394). TAIL may lie below entries
that have issued. -/
def exposed (x : QueueSt) (n : W32) : Bool :=
  (decide ((n - x.issued.floor).toNat < 2 ^ 31) && decide (0 < (x.tail - n).toInt) && !x.issued.has x.issued.floor n)
  || exposedAgain x n

/-- The earlier entries of a queue that still have to issue: those exposed again and those not yet issued. -/
def waitingBefore (x : QueueSt) (n : W32) : List W32 :=
  let fresh := if exposedAgain x n then []
    else (List.range (n - x.issued.floor).toNat).map (fun i => x.issued.floor + BitVec.ofNat 32 i)
  (fresh.filter (fun k => !x.issued.has x.issued.floor k)) ++
  (x.redo ++ x.again.map (·.n)).filter (fun k => decide ((k - n).toNat ≥ 2 ^ 31))

/-- The state in which a queue's entries issue (R308, R320, R322). -/
def queueRuns (s : State) : QueueId → Bool
  | .device => decide (s.dev = .boot ∨ s.dev = .ready ∨ s.dev = .service)
  | .cushion c => (match ownerOfCushion s c with
      | some p => decide ((getPart s p).state = .running)
      | none => decide (s.dev = .boot ∨ s.dev = .ready ∨ s.dev = .service))
  | .frond f => (match ownerOfFrond s f with
      | some p => decide ((getPart s p).state = .running) && decide ((getFrond s f).gate = .awake) && (getFrond s f).lockstep.isNone
      | none => decide (s.dev = .boot ∨ s.dev = .ready ∨ s.dev = .service))
  | .anchor p => decide ((getPart s p).state = .running)

/-- A granule of the queue's partition is still being zeroed for it: its accesses wait (R289; log 49). -/
def zeroingFor (s : State) (q : QueueId) : Bool :=
  match queueOwner s q with
  | some p => s.mgmt.zeroing.any (fun g => ownerOfGranule s g == some p)
  | none => false

/-- The debug port lets entry `n` of the queue issue: its pair is not halted, or a STEP is under way (R514). -/
def pairFree (s : State) (q : QueueId) : Bool := !s.dbgPort.halted.contains (qNum q) || s.dbgPort.stepping.contains (qNum q)

/-- A breakpoint of the pair names entry `n`, and the pair has not yet halted there (R514). -/
def bpHit (s : State) (q : QueueId) (n : W32) : Bool :=
  (List.range 4).any (fun k => tblFind s.dbgPort.bps (4 * qNum q + k) == some n.toNat)
  && tblFind s.dbgPort.passBp (qNum q) != some n.toNat && !s.dbgPort.stepping.contains (qNum q)

/-- The pair halts before entry `n` issues. -/
def haltAtBp (s : State) (q : QueueId) (n : W32) : State :=
  { s with dbgPort := { s.dbgPort with
      halted := dedupNat (s.dbgPort.halted ++ [qNum q])
      stepping := s.dbgPort.stepping.filter (· != qNum q)
      passBp := tblPut s.dbgPort.passBp (qNum q) (some n.toNat) } }

/-- The pair has issued an entry: a STEP is over. -/
def pairIssued (s : State) (q : QueueId) : State :=
  { s with dbgPort := { s.dbgPort with
      stepping := s.dbgPort.stepping.filter (· != qNum q)
      passBp := tblPut s.dbgPort.passBp (qNum q) none } }

/-- R526: under THERM_CRIT no command issues on a frond, cushion or anchor queue. -/
def critFree (s : State) (q : QueueId) : Bool := q == .device || !s.power.critHold

/-- The unit that an entry needs is free (R283). A command's work in its unit is done as it issues (log 94), so only a
program that is resident in the vector engine holds a unit. -/
def unitFree (s : State) (q : QueueId) (e : List Byte) : Bool :=
  match q with
  | .frond f => !([0x20, 0x21, 0x22, 0x30].contains (entOp e)) || (getFrond s f).vrun.isNone
  | _ => true

/-- Entry `n` is the head of its strand, and no fence, halt or earlier entry holds it (R283, R316, R324). -/
def isHead (s : State) (q : QueueId) (n : W32) : Bool :=
  let x := getQ s q
  let e := entryBytes s q n
  exposed x n && (x.halted.isEmpty || exposedAgain x n)
  && (waitingBefore x n).all (fun k => entStrand q (entryBytes s q k) != entStrand q e && entOp (entryBytes s q k) != 1)
  && x.live.all (fun i => i.opcode != 1)
  && (entOp e != 1 || ((waitingBefore x n).isEmpty && x.live.isEmpty && x.halted.isEmpty))

/-- The dependency marks of an entry are satisfied (R314, R315). -/
def marksMet (s : State) (q : QueueId) (e : List Byte) : Bool :=
  waitMet s q (p16 e 8) (p32 e 16) && waitMet s q (p16 e 10) (p32 e 20)

/-- The commands whose own rules can hold them at issue: slots still ACTIVE, a third epoch, a G2, a drain, the step order of
checks. -/
def holdsItself (op : Nat) : Bool := [0x10, 0x11, 0x12, 0x30, 0x39].contains op

/-- The entries of a queue that stand exposed and have not issued. -/
def exposedNow (x : QueueSt) : List W32 :=
  ((List.range (if 0 < (x.tail - x.issued.floor).toInt then (x.tail - x.issued.floor).toNat else 0)).map (fun i => x.issued.floor + BitVec.ofNat 32 i)
    ++ x.redo ++ x.again.map (·.n)).filter (exposed x)

/-- R283: the ready head of a lower-numbered strand goes before an entry of strand `k`. A head that its own rule can hold at
issue goes before no other (log 102). -/
def lowerReady (s : State) (q : QueueId) (k : Nat) : Bool :=
  match q with
  | .frond _ => (exposedNow (getQ s q)).any (fun m =>
      let e := entryBytes s q m
      decide (entStrand q e < k) && !holdsItself (entOp e) && isHead s q m && marksMet s q e && unitFree s q e)
  | _ => false

/-- R322: a failing CHECK, or any device command that ends with a halting status, holds the device queue behind it. -/
def deviceHeld (s : State) (q : QueueId) : Bool :=
  q == .device && (getQ s q).live.any (fun i => halting i.status)

/-- R283, R314 to R316, R322, R324: whether entry `n` may issue now. -/
def canIssue (s : State) (q : QueueId) (n : W32) : Bool :=
  let e := entryBytes s q n
  queueExists s q && queueRuns s q && critFree s q && pairFree s q && !zeroingFor s q && !deviceHeld s q
  && isHead s q n && marksMet s q e && unitFree s q e && !lowerReady s q (entStrand q e)

/-- The bookkeeping of an issue: ISSUED counts the entry. -/
def markIssued (s : State) (q : QueueId) (n : W32) : State :=
  modQ (pairIssued s q) q (fun x => { x with
    issued := x.issued.add n
    redo := x.redo.erase n
    again := x.again.filter (fun i => i.n != n) })

/-- Event counters of a rejection and of poison consumed (R248, R278, R302). -/
def countOutcome (s : State) (q : QueueId) (rejected : Bool) (status : Nat) (consumed : Bool) : State :=
  match q with
  | .frond f =>
    let s1 := if rejected ∧ status = stAlias then bump s FRD_LAYOUT_EVENTS_ALIAS_REJECTS f 1 else s
    let s2 := if rejected ∧ status = stBounds then bump s1 FRD_LAYOUT_EVENTS_BOUNDS_REJECTS f 1 else s1
    if consumed then bump s2 FRD_POISON_EVENTS_CONSUMED f 1 else s2
  | .cushion c => if consumed then bump s CSH_POISON_EVENTS_CONSUMED c 1 else s
  | _ => s

/-- A device command that the lichen core executes wakes it (R468). -/
def wakeFor (s : State) (q : QueueId) : State := if q = .device then wakeLichen s else s

/-- An entry takes its verdict. -/
def conclude (s : State) (q : QueueId) (n : W32) (e : List Byte) (resumed : Bool) : Verdict → State
  | .wait => s
  | .reject st d =>
    concludeEntry (countOutcome (markIssued s q n) q true st (st == stPoison)) q (hdr e st d n resumed .done)
  | .effect s1 st d c w =>
    let s2 := wakeFor (countOutcome (markIssued s1 q n) q false st c) q
    modQ s2 q (fun x => { x with live := x.live ++ [hdr e st d n resumed w] })

/-- The device states in which R322 admits a device command. -/
def deviceAdmits (s : State) (op : Nat) : Bool :=
  if [0x41, 0x48, 0x4B, 0x4D].contains op then decide (s.dev = .ready)
  else if op = 0x4E then decide (s.dev = .service)
  else decide (s.dev = .ready ∨ s.dev = .service)

/-- A queue of a cushion that belongs to no partition (R25, R310). -/
def unownedQueue (s : State) (q : QueueId) : Bool := q != .device && (queueOwner s q).isNone

/-- The checks of R25, R27, R313, R317 and R322 that come before a command's own. -/
def commonChecks (s : State) (q : QueueId) (n : W32) (e : List Byte) (used : List (Nat × Nat)) : Option (Nat × Nat) :=
  if unownedQueue s q then some (stIllegal, 0)
  else if !ringReach s q (entryAddr s q n) 128 then some (stBounds, 0)
  else if !opAllowed q (entOp e) || !headerOk e || !paramsOk e used then some (stBadDesc, 0)
  else if q = .device ∧ deviceAdmits s (entOp e) = false then some (stIllegal, 0)
  else none

/-- The descriptors that an entry names (R248), by the parameter layouts of its opcode. -/
def entDescs (e : List Byte) : List Nat :=
  let some16 (os : List Nat) : List Nat := os.map (p16 e)
  let op := entOp e
  if op = 0x10 then some16 [34, 36]
  else if op = 0x11 then some16 [36, 38, 46]
  else if op = 0x18 then
    some16 [36, 40] ++ ((List.range (min 16 (p8 e 33))).map (fun i => p32 e (44 + 4 * i))).filterMap (fun w =>
      if w / 2 ^ 23 = 1 then some (w % 2 ^ 16) else none)
  else if op = 0x20 then some16 [34, 36, 38, 40, 42, 44, 48, 50, 52, 54]
  else if op = 0x21 then some16 [32, 34, 48, 50, 52]
  else if op = 0x22 then some16 ([32, 34, 62] ++ (if p8 e 36 = 1 then [38] else []))
  else if op = 0x28 then some16 [32, 34]
  else if op = 0x30 then some16 (if p8 e 34 = 1 then [] else [36, 50])
  else if op = 0x38 then some16 [46]
  else if op = 0x39 then some16 [42, 44, 46, 48]
  else []

/-- The machine after the descriptor reads of an entry's issue. -/
def issueReads (s : State) (q : QueueId) (e : List Byte) : State :=
  match queueOwner s q with
  | some p => readDescs s p (entDescs e)
  | none => s

/-- The rhizome slots that an entry reads (R159, R169, R183): those of STORE_TILES, the slot ranges of GATHER_ADD, and the
accumulations that a MATMUL with CONT = 1 goes on with. -/
def entSlots (q : QueueId) (e : List Byte) : List (Nat × Nat) :=
  let op := entOp e
  let run (f b n : Nat) : List (Nat × Nat) := (List.range n).map (fun i => (f, b + i))
  match q with
  | .frond f =>
    if op = 0x10 then (if p8 e 55 = 1 then run f (p8 e 54) (min 128 (p8 e 52 * p8 e 53)) else [])
    else if op = 0x11 then run f (p8 e 32) (min 128 (p8 e 33 * p8 e 34))
    else []
  | .cushion _ =>
    if op = 0x18 then (List.range (min 16 (p8 e 33))).flatMap (fun i =>
      let w := p32 e (44 + 4 * i)
      if w / 2 ^ 23 = 0 then run (w % 2 ^ 16) (w / 2 ^ 16) (min 128 (p8 e 34)) else [])
    else []
  | _ => []

/-- R402: the SECDED code of each slot read corrects a single-bit error and turns a double-bit error into a poisoned slot. -/
def checkSlots (s : State) (ks : List (Nat × Nat)) : State :=
  ks.foldl (fun s k =>
    let u := tblGet 0 s.rhzUps (128 * k.1 + k.2)
    if u = 0 ∨ 128 ≤ k.2 then s
    else
      let s0 := { s with rhzUps := tblSet 0 s.rhzUps (128 * k.1 + k.2) 0 }
      if u = 1 then bump s0 FRD_REL_EVENTS_RHZ_CORR k.1 1
      else bump (setSlot s0 k.1 k.2 { getSlot s0 k.1 k.2 with poison := true }) FRD_REL_EVENTS_RHZ_UE k.1 1) s

/-- R401: the state words of the queue's sequencers that fail in one copy are rewritten from the other, with a record each;
those that fail in both are gone with the command being issued. -/
def repairWords (s : State) (q : QueueId) : State :=
  let (mine, others) := s.seqUps.partition (fun x => x.queue == qNum q)
  mine.foldl (fun s x =>
    if x.copy0 == x.copy1 then s
    else queueEvent s q 0x0401 1 (leBytes 4 x.word ++ leBytes 1 (b2n x.copy1))) { s with seqUps := others }

/-- Some state word of the queue's sequencers is uncorrectable in both copies (R401). -/
def wordLost (s : State) (q : QueueId) : Bool := s.seqUps.any (fun x => x.queue == qNum q && x.copy0 && x.copy1)

/-- An entry of a queue issues, or its pair halts at a breakpoint: the entry must be `n` of queue `q`, its opcode one of `ops`, and it must be free to issue;
otherwise the event does not take place. `used` lists the parameter fields, `body` is the command's own rule. -/
def runEntry (q : QueueId) (n : W32) (ops : Nat → Bool) (used : List (Nat × Nat)) (body : State → List Byte → Verdict)
    (s : State) : State :=
  let e := entryBytes s q n
  if ops (entOp e) && canIssue s q n then
    if bpHit s q n then haltAtBp s q n
    else
    let resumed := (getQ s q).redo.contains n || (getQ s q).again.any (fun i => i.n == n && i.resumed)
    let s0 := repairWords (fetchEntry s q n) q
    if wordLost s q then conclude s0 q n e resumed (.reject stCheckFail 0)
    else match commonChecks s0 q n e used with
    | some (st, d) => conclude s0 q n e resumed (.reject st d)
    | none =>
      let s1 := issueReads s0 q e
      match body (checkSlots s1 (entSlots q e)) e with
      | .wait => s
      | v => conclude s1 q n e resumed v
  else s

/-- R243: the command carries RECOMPUTE and names a tensor of a layer of class KEEP, by the scale slots of its
descriptors. -/
def namesKeep (s : State) (p : Nat) (e : List Byte) (hs : List Nat) : Bool :=
  recompute e && hs.any (fun h => handleValid s p h &&
    (match slotCfg s p (readDesc s p h).slot with
     | some k => ((layerCfg s p k.layer).map (·.keep)).getD false
     | none => false))

/-- A step-scoped command is kept for the repeats of R149 and R394. -/
def keepCmd (s : State) (p : Nat) (q : QueueId) (n : W32) (mb : Nat) (e : List Byte) : State :=
  modPart s p (fun x => { x with cmds := x.cmds ++ [⟨q, n, mb, e⟩] })

end Sys2Proof.Machine
end

