-- ==== Sys2Proof/Machine/Rung.lean ====
section
/-! DEFINITION. Slots, rungs and tensor scales: which format and scale a slot's blocks have now (R66 to R74, R87, R137,
R138, R149 to R154, R571, R572), and where a fallen-back operand lies. -/

namespace Sys2Proof.Machine

/-- What a command brings to its operations: partition, frond (0 for a cushion or anchor command), queue, entry, its
micro-batch, whether it is a repeat of the ladder, and, of a command that quantises, the units that it has read for its values and
its issue cycles. -/
structure Ctx where
  p     : Nat
  f     : Nat
  q     : QueueId
  n     : W32
  e     : List Byte
  mb    : Nat
  rerun : Bool
  reads : List Nat := []
  cycles : Nat := 0
  deriving DecidableEq, Repr

/-- R312. Anchor queues of the partitions count as one, after the cushion queues. -/
def Ctx.key (c : Ctx) : OrderKey := ⟨entOrder c.e, min (qNum c.q) 312, c.n.toNat⟩

def OrderKey.lt (a b : OrderKey) : Bool :=
  decide (a.order < b.order) || (a.order == b.order &&
    (decide (a.queue < b.queue) || (a.queue == b.queue && decide (a.n < b.n))))

def noSlot : Nat := 0xFFFFFFFF

/-- The pass of a slot (R571): 0 forward, 1 backward. -/
def slotPass (k : SlotCfg) : Nat :=
  match k.gemm, k.side with
  | .fwd, _ => 0
  | .dx, _ => 1
  | .dw, .left => 0
  | .dw, .right => 1

/-- The crozier's side of a slot's operand (R103); left where no slot is named. -/
def slotSide (k : Option SlotCfg) : Side :=
  match k with
  | some x => if x.side = .right then .right else .left
  | none => .left

/-- R138: the starting rung of a nominal width. -/
def startRung (fam width : Nat) : Nat := if fam = 5 then 3 else if width ≤ 4 then 0 else if width ≤ 6 then 1 else 2

/-- R137: family code and width in bits at a rung; at its starting rung a slot has its nominal format. -/
def rungFormat (fam width r : Nat) : Nat × Nat :=
  if r ≤ startRung fam width then (fam, width) else if r = 1 then (fam, 6) else if r = 2 then (fam, 8) else (5, 1)

def getLayer (x : PartSt) (l pass : Nat) : LayerSt := tblGet LayerSt.zero x.layers (2 * l + pass)
def modLayer (x : PartSt) (l pass : Nat) (f : LayerSt → LayerSt) : PartSt :=
  { x with layers := tblModify LayerSt.zero x.layers (2 * l + pass) f }

/-- The storm covers a command and layer (R153, R154). -/
def inStorm (x : PartSt) (c : Ctx) (l pass : Nat) : Bool :=
  match x.storm with
  | some m => (m.layer == l && m.pass == pass) || m.key.lt c.key
  | none => false

/-- The rung at which a command writes a slot's blocks, and whether a storm makes it JIT (R138, R154, R244). -/
def targetRung (s : State) (c : Ctx) (k : SlotCfg) : Nat × Bool :=
  let x := getPart s c.p
  let r0 := startRung k.family k.width
  if k.layer = noSlot then (r0, false)
  else
    let pass := slotPass k
    let b := if recompute c.e then
        ((x.mbRungs.find? (fun m => m.layer == k.layer && m.mb == c.mb && m.pass == pass)).map (·.bump)).getD
          (getLayer x k.layer pass).bump
      else (getLayer x k.layer pass).bump
    let r := min 3 (r0 + b)
    if inStorm x c k.layer pass && decide (r < 3) then (2, true) else (r, false)

/-! ### Widened operands (R149, R152) -/

def findReloc (x : PartSt) (slot baseM : Nat) : Option Reloc :=
  x.relocs.find? (fun r => r.slot == slot && r.baseM == baseM)

/-- Dense strides of extents, dimension 0 fastest. -/
def denseStrides : List Nat → Nat → List Int
  | [], _ => []
  | e :: es, k => Int.ofNat k :: denseStrides es (k * e)

/-- A descriptor whose planes lie in the reserve at a rung. -/
def Desc.relocate (d : Desc) (r : Reloc) : Desc :=
  let (fam, w) := rungFormat d.fam d.width r.rung
  let d1 := { d with fam := fam, width := w, space := 0, overlap := false }
  if fam = 5 then
    { d1 with baseE := r.elems, str := denseStrides d.ext 1, budget := 0, baseG := r.head }
  else
    { d1 with baseE := r.elems, baseM := r.metas, baseX := r.epis, str := denseStrides d.unitExt 1, baseG := r.head }

/-- The descriptor as reads find its tensor now. -/
def readSide (s : State) (p : Nat) (d : Desc) : Desc :=
  if d.blocked then
    match findReloc (getPart s p) d.slot d.baseM with
    | some r => d.relocate r
    | none => d
  else d

/-- The partition's HBM bytes and its widening reserve (R140). -/
def partBytes (c : PartCfg) : Nat := ((List.range 768).countP (fun g => bitOf c.granules g)) * 2 ^ 30
def reserveBytes (c : PartCfg) : Nat := partBytes c * c.reserve64ths / 64

/-- Places for a tensor's planes at a rung: in the reserve from its base, or in the STORM_FOOTPRINT area at its top. -/
def allocReloc (s : State) (c : Ctx) (d : Desc) (rung : Nat) (storm : Bool) (st : W32) : State :=
  let x := getPart s c.p
  let pc := partCfg s c.p
  let base := (pc.map (·.reserveBase)).getD 0
  let top := base + (pc.map reserveBytes).getD 0 - ((pc.bind (·.stormFootprint)).getD 0)
  let at0 := roundUp (if storm then top + x.stormAt else base + x.relocAt) 256
  let (fam, w) := rungFormat d.fam d.width rung
  let n := d.unitCount
  let eB := roundUp (if fam = 5 then 32 * n else 2 * w * n) 256
  let mB := if fam = 5 then 0 else roundUp (2 * n) 256
  let xB := if fam = 5 then 0 else roundUp (3 * d.budget * n) 256
  let hB := if d.wcopy then 256 else 0
  let r : Reloc := ⟨d.slot, d.baseM, rung, at0, at0 + eB, at0 + eB + mB, at0 + eB + mB + xB, st, storm⟩
  let used := at0 + eB + mB + xB + hB
  modPart s c.p (fun x => { x with
    relocs := x.relocs.filter (fun y => !(y.slot == d.slot && y.baseM == d.baseM)) ++ [r]
    relocAt := if storm then x.relocAt else used - base
    stormAt := if storm then used - top else x.stormAt })

/-- The places of an operand at a rung and in its area: those it has, with the scale of this quantisation, or new ones. -/
def ensureReloc (s : State) (c : Ctx) (d : Desc) (rung : Nat) (storm : Bool) (st : W32) : State :=
  match findReloc (getPart s c.p) d.slot d.baseM with
  | some r =>
    if r.rung = rung ∧ r.storm = storm then modPart s c.p (fun x => { x with
      relocs := x.relocs.map (fun y => if y.slot == d.slot && y.baseM == d.baseM then { y with st := st } else y) })
    else allocReloc s c d rung storm st
  | none => allocReloc s c d rung storm st

/-! ### Tensor scales -/

/-- The estimate A_est of a history (R71), in units of 2^−149: 2 × a_n can lie above the largest FP32 value. -/
def histEstimate (h : HistSt) : Nat :=
  let m := h.entries.foldl (fun m a => max m (amaxUnits a)) 0
  if h.ovf then max m (2 * amaxUnits ((h.entries.getLast?).getD pzero32)) else m

def getHist (x : PartSt) (k : Nat) : HistSt := tblGet HistSt.empty x.hist k

/-- A partition that receives forward copies (R31): one that a multicast entry names as receiver, or that holds a copy. -/
def isRollout (s : State) (p : Nat) : Bool :=
  let x := getPart s p
  x.active.isSome || x.incoming.isSome || (cfgOf s).mcast.any (fun m => m.localRx && m.rxPart == p)

/-- The scale mode a slot quantises in (R66, R74, R92). -/
def slotMode (s : State) (p : Nat) (k : SlotCfg) : ScaleMode :=
  let x := getPart s p
  if isRollout s p then
    match x.active.bind (fun a => tblFind a.scales k.slot) with
    | some e => if e.jit && !k.weight then .jit else .fixed
    | none => if k.mode = .fixed then .fixed else .jit
  else match k.mode with
    | .fixed => .fixed
    | .jit => .jit
    | .history => if (getHist x k.slot).warm > 0 then .jit else .history

/-- The scale of a slot in FIXED effect: the image's value, or the ACTIVE copy's entry at a rollout (R74). -/
def fixedScale (s : State) (p : Nat) (k : SlotCfg) : W32 :=
  match (if isRollout s p then (getPart s p).active.bind (fun a => tblFind a.scales k.slot) else none) with
  | some e => e.st
  | none => k.fixed

/-- The tensor scale with which a slot's blocks of a format are quantised now; `aJit` is the a_jit of R87. -/
def quantScale (s : State) (p : Nat) (k : SlotCfg) (f : ElemFmt) (storm : Bool) (aJit : W32) : W32 × Bool :=
  match (if storm then ScaleMode.jit else slotMode s p k) with
  | .fixed => (fixedScale s p k, false)
  | .history => (tensorScale f k.headroom (histEstimate (getHist (getPart s p) k.slot)), false)
  | .jit => (tensorScale f k.headroom (amaxUnits aJit), true)

/-- The tensor scale that a use of a block-quantised tensor takes (R129, R567, R572); none where a JIT tensor has no
entry, or where the slot is unknown. `d` is the descriptor as the command names it. -/
def readScale (s : State) (p : Nat) (d : Desc) : Option W32 :=
  let x := getPart s p
  if !d.blocked ∨ d.slot = noSlot then some one32
  else match slotCfg s p d.slot with
    | none => none
    | some k =>
      match findReloc x d.slot d.baseM with
      | some r => some r.st
      | none =>
        if k.weight then
          match (if isRollout s p then x.active.bind (fun a => tblFind a.scales d.slot) else tblFind x.scales d.slot) with
          | some e => some e.st
          | none => (match slotMode s p k, elemFmt d.family d.width with
            | .fixed, _ => some (fixedScale s p k)
            | .history, some f => some (quantScale s p k f false pzero32).1
            | _, _ => none)
        else match x.jit.find? (fun e => e.slot == d.slot && e.baseM == d.baseM) with
          | some e => some e.st
          | none => (match slotMode s p k, elemFmt d.family d.width with
            | .fixed, _ => some (fixedScale s p k)
            | .history, some f => some (quantScale s p k f false pzero32).1
            | _, _ => none)

/-- R567: a quantised destination's EPI_BUDGET is its slot's, and the slot exists. -/
def quantSlotOk (s : State) (p : Nat) (d : Desc) : Bool :=
  !d.blocked || d.slot == noSlot || ((slotCfg s p d.slot).map (fun k => k.budget == d.budget)).getD false

/-- The JIT scale table entry that a quantisation into this destination has to add (R572). -/
def jitNeeds (s : State) (c : Ctx) (d : Desc) : Option (Nat × Nat) :=
  if !d.blocked ∨ d.slot = noSlot then none
  else match slotCfg s c.p d.slot with
    | none => none
    | some k =>
      if k.weight || (slotMode s c.p k != .jit && !(targetRung s c k).2)
          || (getPart s c.p).jit.any (fun e => e.slot == d.slot && e.baseM == d.baseM) then none
      else some (d.slot, d.baseM)

/-- R572: the table has room for every entry that a command's destinations add. -/
def jitRoom (s : State) (c : Ctx) (ds : List Desc) : Bool :=
  decide ((getPart s c.p).jit.length + (ds.filterMap (jitNeeds s c)).eraseDups.length ≤ 65536)

end Sys2Proof.Machine
end

