-- ==== Sys2Proof/Machine/Store.lean ====
section
/-! DEFINITION. The store path into a tensor: crozier, quantiser and planes, with the events, histories and trouble counts
that a quantisation leaves (R69, R70, R78, R84 to R88, R94 to R96, R104, R114, R147, R567, R572). -/

namespace Sys2Proof.Machine

/-- A run of elements along a destination's blocking axis: the coordinates of its first element. -/
structure QLine where
  start  : List Nat
  vals   : List W32
  poison : Bool
  deriving DecidableEq, Repr

/-- A block before it is quantised: its coordinates, 16 rotated values and poison. -/
structure QIn where
  at_    : List Nat
  vals   : List W32
  poison : Bool
  deriving DecidableEq, Repr

/-- The crozier over the lines of a store (R96): blocks in canonical order, so that the later block's planes stand
(R263), and the groups that ROT_NONFINITE counts. -/
def rotateLines (d : Desc) (side : Side) (lines : List QLine) : List QIn × Nat :=
  let per := lines.map (fun l =>
    let (v, bad) := crozierLine d.rotSize d.seed side l.vals
    (((chunks 16 v).zipIdx).map (fun (x, i) =>
      (⟨updAt l.start d.blk (fun a => a / 16 + i), x, l.poison⟩ : QIn)), bad))
  (sortBy (fun a b => decide (linearOf d.unitExt a.at_ ≤ linearOf d.unitExt b.at_)) (per.flatMap (·.1)),
   per.foldl (fun n x => n + x.2) 0)

/-- FRD_SCALE_EVENTS, FRD_QNT_SPECIALS and FRD_EPI_EVENTS (R94, R114). -/
def bumpQuant (s : State) (f : Nat) (e : QEvents) : State :=
  let s1 := bump (bump s FRD_SCALE_EVENTS_OVERFLOW f e.overflow) FRD_SCALE_EVENTS_UNDERFLOW f e.underflow
  let s2 := bump (bump s1 FRD_SCALE_EVENTS_CRUSHED f e.crushed) FRD_SCALE_EVENTS_FLUSHED f e.flushed
  let s3 := bump (bump s2 FRD_QNT_SPECIALS_NAN_IN f e.nanIn) FRD_QNT_SPECIALS_INF_IN f e.infIn
  bump (bump (bump s3 FRD_EPI_EVENTS_TAKEN f e.taken) FRD_EPI_EVENTS_EPI_INF f e.epiInf)
    FRD_EPI_EVENTS_ROT_NONFINITE f e.rotNonfinite

/-- A slot's amax and overflow of the present step (R69, R70): HISTORY and JIT slots of a partition that keeps history. -/
def noteAmax (s : State) (p : Nat) (k : SlotCfg) (amax : W32) (ovf : Bool) : State :=
  if isRollout s p ∨ k.mode = .fixed then s
  else modPart s p (fun x => { x with
    amax := tblModify pzero32 x.amax k.slot (amaxJoin amax)
    ovf := if ovf && !x.ovf.contains k.slot then x.ovf ++ [k.slot] else x.ovf })

/-- The trouble counts of a command (R147), and the rung at which it wrote (R244). Recompute commands add nothing, and repeats
no counts (R157, R244). -/
def noteCounts (s : State) (c : Ctx) (k : SlotCfg) (q t : Nat) : State :=
  if k.layer = noSlot ∨ recompute c.e = true then s
  else
    let x := getPart s c.p
    let pass := slotPass k
    let r : MbRung := ⟨k.layer, c.mb, pass, (getLayer x k.layer pass).bump⟩
    setPart s c.p { x with
      counts := if c.rerun then x.counts else x.counts ++ [⟨k.slot, c.mb, q, t, qNum c.q, c.n⟩]
      mbRungs := x.mbRungs.filter (fun m => !(m.layer == k.layer && m.mb == c.mb && m.pass == pass)) ++ [r] }

/-- The layers that a storm reached, and the slots that it quantised (R155): none at rung 3. -/
def noteStorm (s : State) (c : Ctx) (k : SlotCfg) (rung : Nat) : State :=
  let x := getPart s c.p
  if k.layer ≠ noSlot ∧ inStorm x c k.layer (slotPass k) = true then
    setPart s c.p (modLayer { x with
      stormSlots := if rung = 3 ∨ x.stormSlots.contains k.slot then x.stormSlots else x.stormSlots ++ [k.slot] }
      k.layer (slotPass k) (fun l => { l with stormed := true }))
  else s

/-- A JIT quantisation's record (R572): the scale set's entry of a weight slot, or the JIT scale table's. -/
def recordJit (s : State) (p : Nat) (k : SlotCfg) (baseM : Nat) (st : W32) : State :=
  modPart s p (fun x =>
    if k.weight then { x with scales := tblPut x.scales k.slot (some ⟨st, true⟩) }
    else { x with jit := x.jit.filter (fun e => !(e.slot == k.slot && e.baseM == baseM)) ++ [⟨k.slot, baseM, st⟩] })

/-- The first pass of a JIT quantisation (R87): the rotated values reach the partition's staging region in FP32, 64 bytes at each
block's canonical place (DESIGN CHOICE, log 108), and the quantiser reads them from there. A tensor that the region cannot
hold has its command run twice, and a record names the slot (R88). -/
def stageJit (s : State) (c : Ctx) (d : Desc) (blocks : List QIn) : State × List QIn :=
  let pc := partCfg s c.p
  if 4 * d.count ≤ (pc.map (·.stagingGiB)).getD 4 * 2 ^ 30 then
    let key (b : QIn) : Nat := (pc.map (·.stagingBase)).getD 0 + 64 * linearOf d.unitExt b.at_
    let w := blocks.foldl (fun w b => wputs w (key b) (b.vals.flatMap (fun v => leBytes 4 v.toNat)) b.poison) ([] : WSet)
    let s1 := (writeSet s w).1
    (readUnits s1 (wUnits w), blocks.map (fun b => { b with poison := unitPoison s1 (key b / 256) }))
  else
    (queueEvent (bump (readUnits s c.reads) FRD_VEC_BUSY_ISSUE_CYCLES c.f c.cycles) c.q 0x0103 0 (leBytes 4 d.slot ++ leBytes 8 (getF s ANC_STEP_COUNT_STEP c.p + 1)),
     blocks)

/-- The bias from which a command quantises a weight block at a metadata key: that of the copy as the step found it (R86). -/
def storedBias (s : State) (p k : Nat) : Nat := (tblFind (getPart s p).bias0 k).getD (bitsOf (readNat s k 2) 13 2)

/-- The biases that the step found in the weight blocks at these keys are kept for a repeat (R86). -/
def keepBias (s : State) (p : Nat) (ks : List Nat) : State :=
  modPart s p (fun x => { x with bias0 := ks.foldl (fun t k => tblPut t k (some (storedBias s p k))) x.bias0 })

/-- Blocks of a BF16 operand at rung 3 (R139): the rotated values in BF16. -/
def putBf16Blocks (w : WSet) (d : Desc) (f blk : Nat) (bs : List QIn) : WSet :=
  bs.foldl (fun w b => (b.vals.zipIdx).foldl (fun w (v, i) =>
    putWide w d f (updAt b.at_ blk (fun a => 16 * a + i)) v b.poison) w) w

/-- A store of lines into a block-quantised destination `d` (as its descriptor names it, local extents): the state with
every record of the quantisation, and the bytes to write. The values that a slot stores at rung 3 in BF16 pass no quantiser, and
count in its a_n all the same (DESIGN CHOICE, log 109). -/
def quantLines (s : State) (c : Ctx) (d : Desc) (w : WSet) (lines : List QLine) : State × WSet :=
  let k := slotCfg s c.p d.slot
  let (blocks, bad) := rotateLines d (slotSide k) lines
  let amax := amaxOf (blocks.flatMap (·.vals))
  let (rung, storm) := (k.map (targetRung s c)).getD (startRung d.fam d.width, false)
  let (fam, wd) := rungFormat d.fam d.width rung
  let moved := decide (rung > startRung d.fam d.width) || storm
  match k with
  | none =>
    -- SCALE_SLOT none (R567): FIXED, tensor scale 1.0, default settings
    match elemFmt d.family d.width with
    | none => (s, w)
    | some ef =>
      let qs := blocks.map (fun b => (b, quantiseBlock ef (readGroup s c.f d (readHeader s c.f d) b.at_) ⟨one32, false, 4, d.budget, 2⟩ 0
        b.vals))
      let ev := qs.foldl (fun (e : QEvents) x => e.add x.2.ev) ({ rotNonfinite := bad } : QEvents)
      (bumpQuant s c.f ev, qs.foldl (fun w x => putBlock w d c.f x.1.at_ x.2 x.1.poison) w)
  | some sc =>
    if fam = 5 then
      let s1 := if moved then ensureReloc s c d rung storm one32 else s
      let d1 := readSide s1 c.p d
      let s2 := bump s1 FRD_EPI_EVENTS_ROT_NONFINITE c.f bad
      (noteStorm (noteCounts (noteAmax s2 c.p sc amax false) c sc blocks.length 0) c sc rung,
       putBf16Blocks w d1 c.f d.blk blocks)
    else
      match elemFmt (Family.ofCode fam) wd with
      | none => (s, w)
      | some ef =>
        let (st, jit) := quantScale s c.p sc ef storm amax
        let (s0, blocks) := if jit then stageJit s c d blocks else (s, blocks)
        let s1 := if moved then ensureReloc s0 c d rung storm st
          else modPart s0 c.p (fun x => { x with
            relocs := x.relocs.filter (fun y => !(y.slot == d.slot && y.baseM == d.baseM)) })
        let d1 := readSide s1 c.p d
        let biased := sc.weight && !moved
        let bias (b : QIn) : Nat := if biased then storedBias s c.p (d1.blkMetaKey c.f b.at_) else 0
        let qs := blocks.map (fun b =>
          (b, quantiseBlock ef (readGroup s1 c.f d1 (readHeader s1 c.f d1) b.at_)
            ⟨st, sc.weight, sc.crush, sc.budget, sc.shift⟩ (bias b) b.vals))
        let ev := qs.foldl (fun (e : QEvents) x => e.add x.2.ev) ({ rotNonfinite := bad } : QEvents)
        let t := qs.countP (fun x => x.2.ev.troubled)
        let s1' := if biased then keepBias s1 c.p (blocks.map (fun b => d1.blkMetaKey c.f b.at_)) else s1
        let s2 := if jit && !(moved && sc.weight) then recordJit s1' c.p sc d.baseM st else s1'
        let s3 := noteCounts (noteAmax (bumpQuant s2 c.f ev) c.p sc amax (decide (ev.overflow > 0))) c sc qs.length t
        (noteStorm s3 c sc rung, qs.foldl (fun w x => putBlock w d1 c.f x.1.at_ x.2 x.1.poison) w)

/-- The write of a command's bytes from a frond: PAD_DROPPED counts at the frond's cushion (R278). -/
def commitWrites (s : State) (f : Nat) (w : WSet) (halo : Bool := false) : State :=
  let (s1, d) := writeSet s w halo
  bump s1 CSH_LAYOUT_EVENTS_PAD_DROPPED (cushionOf f) d

end Sys2Proof.Machine
end

