-- ==== Sys2Proof/Machine/Transc.lean ====
section
/-! DEFINITION. The transcendental instructions EXP2, LOG2, SINPI and COSPI, correctly rounded (R200). Each result is
computed as an integer with 320 fractional bits and a bound on its error; when both ends of that interval round to one
FP32 value, that value is the exact result rounded once. No operand is known for which they do not; there the free value
Config.undecidedRounding stands (log 4). -/

namespace Sys2Proof.Machine

/-- Fractional bits of the working precision. -/
def trPrec : Nat := 320
/-- Bound on the error of every series below, in units of `2^-trPrec`. -/
def trErr : Int := 2 ^ 20

/-- Σ x^(2k+1)/(2k+1) with alternating signs when `alt`, by fixed-point terms: `pw` is the present power of x. -/
def oddSeries (alt : Bool) (x2 : Int) : Nat → Int → Nat → Int → Int
  | 0, _, _, acc => acc
  | n + 1, pw, k, acc =>
    let t := pw / Int.ofNat (2 * k + 1)
    let acc' := if alt && k % 2 == 1 then acc - t else acc + t
    oddSeries alt x2 n (pw * x2 / 2 ^ trPrec) (k + 1) acc'

/-- artanh(num/den) for 0 ≤ num/den ≤ 1/3. -/
def artanhFix (num den : Nat) : Int :=
  let x : Int := Int.ofNat (num * 2 ^ trPrec / den)
  oddSeries false (x * x / 2 ^ trPrec) 110 x 0 0

/-- arctan(1/n). -/
def arctanInvFix (n : Nat) : Int :=
  let x : Int := Int.ofNat (2 ^ trPrec / n)
  oddSeries true (x * x / 2 ^ trPrec) 80 x 0 0

/-- ln 2 and π. -/
def ln2Fix : Int := 2 * artanhFix 1 3
def piFix : Int := 16 * arctanInvFix 5 - 4 * arctanInvFix 239

/-- Σ_{k} x^k/k! over every `stride`-th term from `k`, signs alternating when `alt`. -/
def expSeries (alt : Bool) (x : Int) (stride : Nat) : Nat → Int → Nat → Bool → Int → Int
  | 0, _, _, _, acc => acc
  | n + 1, t, k, minus, acc =>
    let acc' := if alt && minus then acc - t else acc + t
    let t1 := t * x / 2 ^ trPrec / Int.ofNat (k + 1)
    let t2 := if stride == 2 then t1 * x / 2 ^ trPrec / Int.ofNat (k + 2) else t1
    expSeries alt x stride n t2 (k + stride) (!minus) acc'

def expFix (x : Int) : Int := expSeries false x 1 90 (2 ^ trPrec) 0 false 0
def sinFix (x : Int) : Int := expSeries true x 2 50 x 1 false 0
def cosFix (x : Int) : Int := expSeries true x 2 50 (2 ^ trPrec) 0 false 0

/-- Round `v × 2^(e − trPrec)`, known within `trErr`, to FP32 when the interval decides it. -/
def roundFix (which : Nat) (a : W32) (v : Int) (e : Int) : W32 :=
  let lo := fp32OfScaled (v - trErr) (e - Int.ofNat trPrec)
  let hi := fp32OfScaled (v + trErr) (e - Int.ofNat trPrec)
  if lo = hi then lo else Config.undecidedRounding which a

/-- 2^a (R199 EXP2, R200). -/
def fp32Exp2 (a : W32) : W32 :=
  if isNaN32 a then qnan32
  else if isInf32 a then (if isNeg32 a then pzero32 else pinf32)
  else
    let i := int32Of a
    let n := i / 2 ^ 149                     -- floor of a
    let f := i % 2 ^ 149                     -- fractional part × 2^149
    if n ≥ 128 then pinf32
    else if n < -151 then pzero32
    else if f = 0 then fp32OfScaled 1 n
    else roundFix 0x28 a (expFix (ln2Fix * f / 2 ^ 149)) n

/-- log₂ a (R199 LOG2, R200). -/
def fp32Log2 (a : W32) : W32 :=
  if isNaN32 a then qnan32
  else if isZero32 a then ninf32
  else if isNeg32 a then qnan32
  else if isInf32 a then pinf32
  else
    let i := (int32Of a).toNat
    let k := Nat.log2 i                      -- a = m × 2^(k − 149), 1 ≤ m < 2
    let e : Int := Int.ofNat k - 149
    if i = 2 ^ k then fp32OfRat e 1
    else
      -- ln m = 2 artanh((m − 1)/(m + 1));  log₂ m = ln m / ln 2
      let l := 2 * artanhFix (i - 2 ^ k) (i + 2 ^ k)
      roundFix 0x29 a (e * 2 ^ trPrec + l * 2 ^ trPrec / ln2Fix) 0

/-- sin(π r/2^149) × 2^trPrec for 0 ≤ r ≤ 2^148 (a half turn's first half). -/
def sinpiHalf (r : Int) : Int :=
  if r ≤ 2 ^ 147 then sinFix (piFix * r / 2 ^ 149) else cosFix (piFix * (2 ^ 148 - r) / 2 ^ 149)

/-- sin(πr) for r in [0, 2), as sign and magnitude in the first half turn. -/
def sinpiFold (r : Int) : Bool × Int :=
  let neg := decide (r ≥ 2 ^ 149)
  let r1 := if neg then r - 2 ^ 149 else r
  (neg, if r1 ≤ 2 ^ 148 then r1 else 2 ^ 149 - r1)

/-- sin(πa) (R199 SINPI, R200): a zero result carries the sign of a. -/
def fp32Sinpi (a : W32) : W32 :=
  if isNaN32 a ∨ isInf32 a then qnan32
  else
    let (neg, r) := sinpiFold ((int32Of a).natAbs % 2 ^ 150)
    if r = 0 then withSign32 (isNeg32 a) 0
    else if r = 2 ^ 148 then withSign32 (isNeg32 a != neg) 0x3F800000
    else
      let v := sinpiHalf r
      roundFix 0x2D a (if isNeg32 a != neg then -v else v) 0

/-- cos(πa) (R199 COSPI, R200): cos(πa) = sin(π(|a| + 1/2)); COSPI(n + 0.5) = +0. -/
def fp32Cospi (a : W32) : W32 :=
  if isNaN32 a ∨ isInf32 a then qnan32
  else
    let (neg, r) := sinpiFold (((int32Of a).natAbs + 2 ^ 148 : Int) % 2 ^ 150)
    if r = 0 then pzero32
    else if r = 2 ^ 148 then withSign32 neg 0x3F800000
    else
      let v := sinpiHalf r
      roundFix 0x2E a (if neg then -v else v) 0

end Sys2Proof.Machine
end

