-- ==== Sys2Proof/Machine/Lane.lean ====
section
/-! DEFINITION. Pinnule programs (R193 to R210, R216): the instruction format and table, what each operation computes for a
lane, and the execution of one instruction for the resident bundle of chunks. A bundle is the smallest run of chunks that
holds whole rows, so that a row reduction finds its row (R194, R202). -/

namespace Sys2Proof.Machine

/-! ### Format (R197 to R199) -/

/-- An instruction's fields (R198). -/
structure PIns where
  op     : Nat
  scalar : Bool
  dst    : Nat
  a      : Nat
  b      : Nat
  c      : Nat
  pred   : Nat
  pneg   : Bool
  mod    : Nat
  slot   : Nat
  imm    : Int
  immU   : Nat
  resv   : Nat
  deriving DecidableEq, Repr

def decodeIns (w : W64) : PIns :=
  let n := w.toNat
  let u := bitsOf n 48 16
  ⟨bitsOf n 0 7, bitOf n 7, bitsOf n 8 6, bitsOf n 14 6, bitsOf n 20 6, bitsOf n 26 6, bitsOf n 32 3, bitOf n 35,
   bitsOf n 36 4, bitsOf n 40 4, (if u < 2 ^ 15 then Int.ofNat u else Int.ofNat u - 2 ^ 16), u, bitsOf n 44 4⟩

/-- What an instruction's DST names. -/
inductive PDst where
  | none | reg | pred
  deriving DecidableEq, Repr

/-- A row of the instruction table (R199) with the limits of R197: destination, sources used, largest MOD and SLOT, issue
cycles. -/
structure PRow where
  op    : Nat
  dst   : PDst
  srcs  : Nat
  mods  : Nat
  slots : Nat
  issue : Nat
  deriving DecidableEq, Repr

def pinnuleTable : List PRow :=
  [⟨0x01, .reg, 2, 0, 0, 1⟩, ⟨0x02, .reg, 2, 0, 0, 1⟩, ⟨0x03, .reg, 2, 0, 0, 1⟩, ⟨0x04, .reg, 3, 0, 0, 1⟩,
   ⟨0x05, .reg, 2, 0, 0, 1⟩, ⟨0x06, .reg, 2, 0, 0, 1⟩, ⟨0x07, .reg, 1, 0, 0, 1⟩, ⟨0x08, .reg, 1, 0, 0, 1⟩,
   ⟨0x09, .pred, 2, 3, 0, 1⟩, ⟨0x0A, .reg, 2, 7, 0, 1⟩] ++
  [⟨0x10, .reg, 2, 0, 0, 1⟩, ⟨0x11, .reg, 2, 0, 0, 1⟩, ⟨0x12, .reg, 2, 0, 0, 1⟩, ⟨0x13, .reg, 2, 0, 0, 1⟩,
   ⟨0x14, .reg, 2, 0, 0, 1⟩, ⟨0x15, .reg, 2, 0, 0, 1⟩, ⟨0x16, .reg, 2, 0, 0, 1⟩, ⟨0x17, .reg, 2, 0, 0, 1⟩,
   ⟨0x18, .reg, 2, 0, 0, 1⟩, ⟨0x19, .pred, 2, 3, 0, 1⟩, ⟨0x20, .reg, 1, 3, 0, 1⟩] ++
  [⟨0x28, .reg, 1, 0, 0, 4⟩, ⟨0x29, .reg, 1, 0, 0, 4⟩, ⟨0x2A, .reg, 1, 0, 0, 4⟩, ⟨0x2B, .reg, 1, 0, 0, 4⟩,
   ⟨0x2C, .reg, 1, 0, 0, 4⟩, ⟨0x2D, .reg, 1, 0, 0, 4⟩, ⟨0x2E, .reg, 1, 0, 0, 4⟩, ⟨0x2F, .reg, 2, 0, 0, 8⟩] ++
  [⟨0x30, .reg, 0, 0, 3, 1⟩, ⟨0x31, .none, 1, 0, 3, 1⟩, ⟨0x32, .reg, 0, 0, 1, 1⟩, ⟨0x33, .reg, 0, 0, 1, 1⟩,
   ⟨0x34, .reg, 2, 0, 0, 1⟩, ⟨0x35, .reg, 0, 15, 0, 2⟩, ⟨0x36, .reg, 0, 5, 0, 1⟩, ⟨0x37, .reg, 0, 1, 0, 1⟩,
   ⟨0x38, .reg, 1, 0, 0, 2⟩, ⟨0x39, .reg, 1, 0, 0, 2⟩, ⟨0x3A, .reg, 1, 0, 0, 2⟩, ⟨0x3F, .none, 0, 0, 0, 0⟩]

def pinnuleRow (op : Nat) : Option PRow := pinnuleTable.find? (fun r => r.op == op)

/-- R197: an instruction that LOAD_PROGRAM accepts. A register index is checked where the operation uses the field. -/
def insOk (regs : Nat) (w : W64) : Bool :=
  let i := decodeIns w
  match pinnuleRow i.op with
  | none => false
  | some r =>
    (!i.scalar || decide (i.op ≤ 0x19) || i.op == 0x2F)
    && i.resv == 0
    && (match r.dst with | .reg => decide (i.dst < regs) | .pred => i.dst % 8 != 0 | .none => true)
    && (decide (r.srcs < 1) || decide (i.a < regs))
    && (if i.scalar then decide (i.b < 16) else (decide (r.srcs < 2) || decide (i.b < regs)))
    && (decide (r.srcs < 3) || decide (i.c < regs))
    && decide (i.mod ≤ r.mods) && decide (i.slot ≤ r.slots)

/-- A program from its header and instructions, where R193 and R197 accept it. -/
def parseProgram (h : W64) (code : List W64) : Option Prog :=
  let n := h.toNat
  let regs := bitsOf n 0 7
  let len := bitsOf n 7 11
  if n < 2 ^ 19 ∧ 4 ≤ regs ∧ regs ≤ 64 ∧ regs % 4 = 0 ∧ 1 ≤ len ∧ len ≤ 1024 ∧ code.length = len
      ∧ code.all (insOk regs) = true ∧ (code.getLast?.map (fun w => (decodeIns w).op)) = some 0x3F then
    some ⟨regs, bitOf n 18, code⟩
  else none

/-- The instructions that a chunk executes: all before the first END. -/
def Prog.body (p : Prog) : List W64 := p.code.takeWhile (fun w => (decodeIns w).op != 0x3F)

/-- Resident groups (R193). -/
def Prog.groups (p : Prog) : Nat := min 32 (512 / p.regs)

/-! ### What each operation computes (R199, R200) -/

def opFadd (a b : W32) : W32 := fp32AddRne a b
def opFsub (a b : W32) : W32 := fp32SubRne a b
def opFmul (a b : W32) : W32 := fp32MulRne a b
def opFfma (a b c : W32) : W32 := fp32FmaRne a b c
def opFmin (a b : W32) : W32 := fp32Min a b
def opFmax (a b : W32) : W32 := fp32Max a b
def opFabs (a : W32) : W32 := fp32Abs a
def opFneg (a : W32) : W32 := fp32Neg a
def opFcmp (m : Nat) (a b : W32) : Bool :=
  if m = 0 then fp32Eq a b else if m = 1 then fp32Lt a b else if m = 2 then fp32Le a b else isNaN32 a || isNaN32 b
def opSel (k : Bool) (a b : W32) : W32 := if k then a else b
def opIadd (a b : W32) : W32 := a + b
def opIsub (a b : W32) : W32 := a - b
def opImul (a b : W32) : W32 := a * b
def opAnd (a b : W32) : W32 := a &&& b
def opOr (a b : W32) : W32 := a ||| b
def opXor (a b : W32) : W32 := a ^^^ b
def opShl (a b : W32) : W32 := a <<< (b.toNat % 32)
def opShr (a b : W32) : W32 := a >>> (b.toNat % 32)
def opSar (a b : W32) : W32 := a.sshiftRight (b.toNat % 32)
def opIcmp (m : Nat) (a b : W32) : Bool :=
  if m = 0 then decide (a = b) else if m = 1 then a.slt b else if m = 2 then a.sle b else a.ult b
def opCvt (m : Nat) (a : W32) : W32 :=
  if m = 0 then fp32ToInt32 a else if m = 1 then int32ToFp32 a
  else if m = 2 then bf16ToFp32 (fp32ToBf16 a) else bf16ToFp32 (a.setWidth 16)
def opExp2 (a : W32) : W32 := fp32Exp2 a
def opLog2 (a : W32) : W32 := fp32Log2 a
def opRcp (a : W32) : W32 := fp32RcpRne a
def opSqrt (a : W32) : W32 := fp32SqrtRne a
def opRsqrt (a : W32) : W32 := fp32RsqrtRne a
def opSinpi (a : W32) : W32 := fp32Sinpi a
def opCospi (a : W32) : W32 := fp32Cospi a
def opFdiv (a b : W32) : W32 := fp32DivRne a b
def opMovi (m : Nat) (imm : Int) (immU : Nat) : W32 :=
  if m = 0 then bf16ToFp32 (BitVec.ofNat 16 immU) else BitVec.ofInt 32 imm

/-- The generator of R216: word 0 of ten rounds of Philox4×32. -/
def philoxGo : Nat → Nat × Nat → Nat × Nat × Nat × Nat → Nat × Nat × Nat × Nat
  | 0, _, c => c
  | r + 1, k, (c0, c1, c2, c3) =>
    let p0 := 0xD2511F53 * c0
    let p1 := 0xCD9E8D57 * c2
    philoxGo r ((k.1 + 0x9E3779B9) % 2 ^ 32, (k.2 + 0xBB67AE85) % 2 ^ 32)
      (Nat.xor (Nat.xor (p1 / 2 ^ 32) c1) k.1, p1 % 2 ^ 32, Nat.xor (Nat.xor (p0 / 2 ^ 32) c3) k.2, p0 % 2 ^ 32)

def philox (key : W64) (c0 c1 c2 c3 : Nat) : W32 :=
  BitVec.ofNat 32 (philoxGo 10 (key.toNat % 2 ^ 32, key.toNat / 2 ^ 32) (c0, c1, c2, c3)).1

/-- RAND's counter (R199): the element's linear index in local coordinates (R276), a scalar, and IMM's 16 bits below
0x8000_0000. -/
def opRand (seed : W64) (elem : Nat) (scalar : W32) (immU : Nat) : W32 :=
  philox seed (elem % 2 ^ 32) (elem / 2 ^ 32 % 2 ^ 32) scalar.toNat (0x80000000 + immU)

/-! ### Row reductions (R201) -/

/-- One level of the pairwise tree. -/
def treeLevel (f : W32 → W32 → W32) : List W32 → List W32
  | a :: b :: t => f a b :: treeLevel f t
  | l => l

def treeGo (f : W32 → W32 → W32) : Nat → List W32 → Option W32
  | _, [] => none
  | _, [a] => some a
  | 0, a :: _ => some a
  | k + 1, l => treeGo f k (treeLevel f l)

/-- The reduction of a row: pieces of 256 by a tree, then a left fold; none for an empty row. -/
def rowReduce (f : W32 → W32 → W32) (l : List W32) : Option W32 :=
  ((chunks 256 l).filterMap (treeGo f 9)).foldl (fun acc v => match acc with
    | some a => some (f a v)
    | none => some v) none

def opRsum (l : List W32) : W32 := (rowReduce fp32AddRne l).getD pzero32
def opRmax (l : List W32) : W32 := (rowReduce fp32Max l).getD ninf32
def opRmin (l : List W32) : W32 := (rowReduce fp32Min l).getD pinf32

/-! ### Loads -/

/-- What loading one element gives: its FP32 value, whether poisoned bytes were read, the units touched, and, in a
block-quantised tensor, the block's canonical index, its RSVD_BLOCKS count and its group where the entry is invalid. -/
structure ElemIn where
  v      : W32
  poison : Bool
  units  : List Nat
  block  : Option (Nat × Nat × Option Nat)
  deriving DecidableEq, Repr

/-- An element as FP32 (R61, R62). -/
def elemRead (s : State) (f : Nat) (d : Desc) (st : W32) (c : List Nat) : ElemIn :=
  if d.blocked then
    let b := d.blockOf c
    let r := readBlock s f d b
    let (l, n) := laneBlock d.family r
    let i := c.getD d.blk 0 % 16
    let v := match l with
      | .nan => qnan32
      | .zero => pzero32
      | .vals ints fr e m _ epis =>
        match epis.find? (fun x => x.1 == i) with
        | some x => fp32MulRne (bf16ToFp32 x.2) st
        | none => fp32MulRne (fp32OfScaled (ints.getD i 0 * Int.ofNat (8 + m)) (Int.ofNat e - 18 - fr)) st
    let us := blockUnits s f d b
    ⟨v, us.any (unitPoison s), us,
     some (linearOf d.unitExt b, n, if r.group = .invalid then some (d.groupIndex b) else none)⟩
  else
    let us := unitsOf (d.elemKey f c) d.elemSize
    ⟨readWide s f d c, us.any (unitPoison s), us, none⟩

/-- PAD_VALUE as a load delivers it (R266). -/
def padValue (d : Desc) : W32 := if d.fam = 5 then bf16ToFp32 (fp32ToBf16 d.pad) else d.pad

/-! ### One lane -/

/-- What an instruction does to a lane. -/
inductive LaneAct where
  | keep
  | reg (v : W32)
  | pred (b : Bool)
  | store (v : W32)
  deriving DecidableEq, Repr

structure LaneRes where
  act     : LaneAct := .keep
  fault   : Nat := 0
  clamped : Nat := 0
  perm    : Nat := 0
  poison  : Bool := false
  units   : List Nat := []
  block   : Option (Nat × Nat × Option Nat) := none
  pad     : Option Bool := none    -- of a load of IN0: whether padding supplied it
  deriving DecidableEq, Repr

/-- LD (R205, R226). -/
def laneLd (s : State) (f : Nat) (c : VCfg) (draw pc : Nat) (i : PIns) (x : Lane) : LaneRes :=
  match c.ins.getD i.slot none with
  | none => {}
  | some (d, st) =>
    let l := c.ext.getD 0 1
    let j := Int.ofNat x.col + i.imm
    let outside := decide (j < 0 ∨ j ≥ Int.ofNat l)
    let pad (b : Bool) : Option Bool := if i.slot = 0 then some b else none
    if outside ∧ d.oob = 0 then { act := .reg (Config.faultedLane draw x.elem pc), fault := 1 }
    else if outside ∧ d.oob = 2 then { act := .reg (padValue d), pad := pad true }
    else
      let j' := (min (max j 0) (Int.ofNat l - 1)).toNat
      let e := elemRead s f d st (j' :: (coordsOf c.ext x.elem).drop 1)
      let v := if i.slot = 1 ∧ c.clip ≠ one32 then fp32MulRne e.v c.clip else e.v
      { act := .reg v, clamped := b2n outside, poison := e.poison, units := e.units, block := e.block, pad := pad false }

/-- BCR and BCC (R199, R203): the value of a vector at the lane's column or row. -/
def laneVec (s : State) (f : Nat) (v : Option Desc) (k : Nat) : LaneRes :=
  match v with
  | none => {}
  | some d =>
    let e := elemRead s f d one32 (coordsOf d.ext k)
    { act := .reg e.v, poison := e.poison, units := e.units }

/-- ST: the value to store. -/
def laneSt (a : W32) : LaneRes := { act := .store a }

/-- PERM (R209): `chunk` holds the lanes of the lane's chunk before the instruction. -/
def lanePerm (strict : Bool) (draw pc : Nat) (chunk : List Lane) (a : Nat) (k : W32) (x : Lane) : LaneRes :=
  match chunk.find? (fun y => y.lane == k.toNat) with
  | some y => { act := .reg (y.regs.getD a 0) }
  | none =>
    if strict then { act := .reg (Config.faultedLane draw x.elem pc), fault := 2 }
    else { act := .reg pzero32, perm := 1 }

/-- COORD (R199). -/
def opCoord (ext : List Nat) (elem m : Nat) : W32 := BitVec.ofNat 32 ((coordsOf ext elem).getD m 0)

/-- A lane's guard (R198). -/
def guardOf (i : PIns) (x : Lane) : Bool := bitOf x.preds i.pred != i.pneg

/-- The value that an arithmetic operation gives, none for the operations that act in another way. -/
def aluValue (c : VCfg) (i : PIns) (x : Lane) (a b cc : W32) : Option W32 :=
  match i.op with
  | 0x01 => some (opFadd a b) | 0x02 => some (opFsub a b) | 0x03 => some (opFmul a b) | 0x04 => some (opFfma a b cc)
  | 0x05 => some (opFmin a b) | 0x06 => some (opFmax a b) | 0x07 => some (opFabs a) | 0x08 => some (opFneg a)
  | 0x0A => some (opSel (bitOf x.preds (i.mod % 8)) a b)
  | 0x10 => some (opIadd a b) | 0x11 => some (opIsub a b) | 0x12 => some (opImul a b) | 0x13 => some (opAnd a b)
  | 0x14 => some (opOr a b) | 0x15 => some (opXor a b) | 0x16 => some (opShl a b) | 0x17 => some (opShr a b)
  | 0x18 => some (opSar a b) | 0x20 => some (opCvt i.mod a)
  | 0x28 => some (opExp2 a) | 0x29 => some (opLog2 a) | 0x2A => some (opRcp a) | 0x2B => some (opSqrt a)
  | 0x2C => some (opRsqrt a) | 0x2D => some (opSinpi a) | 0x2E => some (opCospi a) | 0x2F => some (opFdiv a b)
  | 0x35 => some (opRand c.seed x.elem (c.scalars.getD i.mod 0) i.immU)
  | 0x36 => some (opCoord c.ext x.elem i.mod)
  | 0x37 => some (opMovi i.mod i.imm i.immU)
  | _ => none

/-- One instruction for one lane whose guard is true; row reductions apart. -/
def laneExec (s : State) (f : Nat) (r : VRun) (i : PIns) (x : Lane) : LaneRes :=
  let c := r.cfg
  let a := x.regs.getD i.a 0
  let b := if i.scalar then c.scalars.getD (i.b % 16) 0 else x.regs.getD i.b 0
  let cc := x.regs.getD i.c 0
  match aluValue c i x a b cc with
  | some v => { act := .reg v }
  | none =>
    match i.op with
    | 0x09 => { act := .pred (opFcmp i.mod a b) }
    | 0x19 => { act := .pred (opIcmp i.mod a b) }
    | 0x30 => laneLd s f c r.draw r.pc i x
    | 0x31 => laneSt a
    | 0x32 => laneVec s f (c.vrows.getD i.slot none) x.col
    | 0x33 => laneVec s f (c.vcols.getD i.slot none) x.row
    | 0x34 => lanePerm c.prog.strict r.draw r.pc (r.lanes.filter (fun y => y.chunk == x.chunk)) i.a b x
    | _ => {}

/-- A row reduction's result for a lane's row (R202). -/
def rowValue (r : VRun) (i : PIns) (row : Nat) : W32 :=
  let l := (r.lanes.filter (fun y => y.row == row && guardOf i y)).map (fun y => y.regs.getD i.a 0)
  if i.op = 0x38 then opRsum l else if i.op = 0x39 then opRmax l else opRmin l

def isReduction (op : Nat) : Bool := op == 0x38 || op == 0x39 || op == 0x3A

/-- A lane's result: nothing where its guard is false (R198, R202). -/
def laneStep (s : State) (f : Nat) (r : VRun) (i : PIns) (x : Lane) : LaneRes :=
  if guardOf i x = false then {}
  else if isReduction i.op then { act := .reg (rowValue r i x.row) }
  else laneExec s f r i x

def applyAct (i : PIns) (x : Lane) : LaneAct → Lane
  | .reg v => { x with regs := updAt x.regs i.dst (fun _ => v) }
  | .pred b => { x with preds := putBits x.preds (i.dst % 8) 1 (b2n b) }
  | _ => x

/-- ISSUE_CYCLES of one instruction for one chunk (R199). -/
def issueCycles (c : VCfg) (i : PIns) : Nat :=
  if i.op = 0x31 ∧ c.quant.getD i.slot false = true then 4 else ((pinnuleRow i.op).map (·.issue)).getD 0

/-- The blocks and groups that lanes read for the first time in the run. -/
def newReads (r : VRun) (slot : Nat) (l : List (Nat × Nat × Option Nat)) : VRun × Nat × Nat :=
  l.foldl (fun (acc : VRun × Nat × Nat) b =>
    if acc.1.blocks.contains (slot, b.1) then acc
    else
      let r1 := { acc.1 with blocks := acc.1.blocks ++ [(slot, b.1)] }
      match b.2.2 with
      | some g =>
        if r1.groups.contains (slot, g) then (r1, acc.2.1 + b.2.1, acc.2.2)
        else ({ r1 with groups := r1.groups ++ [(slot, g)] }, acc.2.1 + b.2.1, acc.2.2 + 1)
      | none => (r1, acc.2.1 + b.2.1, acc.2.2)) (r, 0, 0)

/-- One instruction, not END, for the resident bundle: the lanes, stores, faults and poison of the run, and the counters and
read checks of the state. -/
def stepBundle (f : Nat) (x : State × VRun) (i : PIns) : State × VRun :=
  let (s, r) := x
  let res := r.lanes.map (fun l => (l, laneStep s f r i l))
  let fam := match r.cfg.ins.getD i.slot none with | some (d, _) => d.fam | none => 0
  let (r1, rsvd, bad) := newReads r i.slot (res.filterMap (fun y => y.2.block))
  let us := dedupNat (res.flatMap (fun y => y.2.units))
  let s1 := readUnits s us
  let cycles := issueCycles r.cfg i * (dedupNat (r.lanes.map (·.chunk))).length
  let s2 := bump (bump s1 FRD_VEC_BUSY_ISSUE_CYCLES f cycles) FRD_FMT_EVENTS_RSVD_BLOCKS f rsvd
  let s3 := bump s2 (if fam = 4 then FRD_FMT_EVENTS_LUT_REJECTS else FRD_FMT_EVENTS_ZP_REJECTS) f bad
  let s4 := bump (bump s3 FRD_VEC_EVENTS_CLAMPED f (res.foldl (fun n y => n + y.2.clamped) 0))
    FRD_VEC_EVENTS_PERM_RANGE f (res.foldl (fun n y => n + y.2.perm) 0)
  (s4, { r1 with
    pc := r.pc + 1
    lanes := res.map (fun y => { applyAct i y.1 y.2.act with pad := y.2.pad.getD y.1.pad })
    units := r1.units ++ us
    cycles := r1.cycles + cycles
    stores := r1.stores ++ res.filterMap (fun y => match y.2.act with
      | .store v => some ⟨i.slot, y.1.elem, y.1.chunk, v, y.1.pad⟩
      | _ => none)
    faults := r1.faults ++ res.filterMap (fun y =>
      if y.2.fault = 0 then none else some ⟨y.1.chunk, y.1.lane, r.pc, y.2.fault⟩)
    poisoned := dedupNat (r1.poisoned ++ (res.filter (fun y => y.2.poison)).map (fun y => y.1.chunk)) })

/-! ### Bundles (R194, R228) -/

/-- The global coordinate of a local one (R275). -/
def globalCoord (mode total a r u l : Nat) : Nat :=
  if mode = 1 then l + r * ceilDiv total a * u
  else if mode = 2 then (l / u * a + r) * u + l % u
  else l

/-- The coordinates in the whole tensor of an element of the local shard. -/
def globalCoords (s : State) (p : Nat) (d : Desc) (c : List Nat) : List Nat :=
  if d.shardGroup = 0xFFFF then c
  else match findGroup s d.shardGroup with
    | none => c
    | some g =>
      let i := (memberIndex s p g).getD 0
      (c.zipIdx).map (fun (l, k) =>
        globalCoord (d.shardMode k) (d.e k / d.shardUnit k) (g.grid.getD (d.shardAxis k) 1)
          (gridCoord g i (d.shardAxis k)) (d.shardUnit k) l)

def VCfg.rowLen (c : VCfg) : Nat := c.ext.getD 0 1
def VCfg.rows (c : VCfg) : Nat := (c.ext.drop 1).foldl (· * ·) 1

/-- Rows that one bundle holds. -/
def VCfg.perBundle (c : VCfg) : Nat := if c.panel = 0 ∧ c.rowLen ≤ 256 then 256 / max 1 c.rowLen else 1

/-- The chunk and lane of position `j` of row `row`, in the numbering of R194, or of R228 for an update pass. -/
def VCfg.chunkOf (c : VCfg) (row j : Nat) : Nat × Nat :=
  let l := c.rowLen
  if c.panel = 0 then
    if l ≤ 256 then
      let per := 256 / max 1 l
      (row / per, row % per * l + j)
    else (row * ceilDiv l 256 + j / 256, j % 256)
  else
    let n := ceilDiv l 256
    let top := row / c.panel * c.panel
    let held := min c.panel (c.rows - top)
    (top * n + j / 256 * held + (row - top), j % 256)

/-- A spore at its start (R196, R198; log 3). -/
def freshLane (c : VCfg) (draw row j : Nat) : Lane :=
  let elem := row * c.rowLen + j
  let (ch, ln) := c.chunkOf row j
  let preds := (List.range' 1 7).foldl (fun v k => v + (Config.unwrittenReg draw elem (64 + k)).toNat % 2 * 2 ^ k) 1
  { chunk := ch, lane := ln, elem := elem
    row := row, col := j, regs := (List.range c.prog.regs).map (Config.unwrittenReg draw elem), preds := preds }

/-- The next bundle becomes resident; no lanes where none is left. -/
def nextBundle (r : VRun) : VRun :=
  let c := r.cfg
  let hi := min c.rows (r.next + c.perBundle)
  { r with
    next := hi, pc := 0
    lanes := (List.range' r.next (hi - r.next)).flatMap (fun row =>
      (List.range c.rowLen).map (freshLane c r.draw row)) }

/-- The resident bundle runs to END, and so on to the last bundle. -/
def runBundles (f : Nat) : Nat → State × VRun → State × VRun
  | 0, x => x
  | k + 1, x =>
    if x.2.lanes.isEmpty then x
    else
      let y := (x.2.cfg.prog.body.map decodeIns).foldl (stepBundle f) x
      runBundles f k (y.1, nextBundle y.2)

/-- A whole run from its first bundle. -/
def runWhole (f : Nat) (s : State) (r : VRun) : State × VRun :=
  runBundles f (r.cfg.rows + 1) (s, nextBundle r)

/-- The fault that counts (R210). -/
def firstFault (l : List VecFault) : Option VecFault :=
  l.foldl (fun b x => match b with
    | none => some x
    | some y =>
      if x.chunk < y.chunk ∨ (x.chunk = y.chunk ∧ (x.pc < y.pc ∨ (x.pc = y.pc ∧ x.lane < y.lane))) then some x
      else some y) none

/-- FRD_VEC_FAULT (R210, R221). -/
def recordFault (s : State) (f : Nat) (x : VecFault) : State :=
  let off := FRD_VEC_FAULT_VALID.at f
  if bitOf (getReg s off).toNat 63 then setF s FRD_VEC_FAULT_OVER f 1
  else setReg s off (BitVec.ofNat 64 (x.chunk % 2 ^ 32 + x.lane % 256 * 2 ^ 32 + x.pc % 1024 * 2 ^ 40
    + x.cause * 2 ^ 50 + 2 ^ 63))

/-- What an output receives: by element, the last store; chunks from the faulting one on store nothing (R196, R210). -/
def storesOf (r : VRun) (slot : Nat) : Tbl VStore :=
  let stop := (firstFault r.faults).map (·.chunk)
  (r.stores.filter (fun x => x.slot == slot && (match stop with | some c => decide (x.chunk < c) | none => true))).foldl
    (fun t x => tblPut t x.elem (some x)) []

end Sys2Proof.Machine
end

