-- ==== Sys2Proof/Machine/Matrix.lean ====
section
/-! DEFINITION. The matrix commands (chapter 7 of the spec): MATMUL, STORE_TILES and GATHER_ADD in its two modes. -/

namespace Sys2Proof.Machine

/-! ### Operands -/

/-- What a lane reads at one block index of an operand: the block, whether RSVD_BLOCKS counts it, whether its group entry is
invalid, whether it is widened, and the units it touches. -/
structure OpBlock where
  lane    : LaneBlock
  rsvd    : Nat
  badGroup : Option Nat
  widened : Bool
  units   : List Nat
  deriving DecidableEq, Repr

/-- The coordinates of element `i` along the reduction axis in row or column `line` of an operand (R182, R255). -/
def opCoords (d : Desc) (left : Bool) (line i : Nat) : List Nat := if left then d.coordsMN line i else d.coordsMN i line

/-- Block `kb` of row (left) or column (right) `line` of an operand (R55, R118). -/
def readOp (s : State) (f : Nat) (d : Desc) (left : Bool) (line kb : Nat) : OpBlock :=
  if d.blocked then
    let b := d.blockOf (opCoords d left line (16 * kb))
    let r := readBlock s f d b
    let (l, n) := laneBlock d.family r
    ⟨l, n, if r.group = .invalid then some (d.groupIndex b) else none,
     decide (bitsOf (r.metaWord / 256) 3 2 = 3), blockUnits s f d b⟩
  else
    let cs := (List.range 16).map (fun i => opCoords d left line (16 * kb + i))
    let (l, n) := bf16LaneBlock (cs.map (readBf16 s f d))
    ⟨l, n, none, false, cs.flatMap (fun c => unitsOf (d.elemKey f c) 2)⟩

/-- Rows and columns of the operand: the output side and the reduction side. -/
def opLines (d : Desc) (left : Bool) : Nat := if left then d.rows else d.cols
def opLength (d : Desc) (left : Bool) : Nat := if left then d.cols else d.rows

/-- R256: the blocking dimension is the fastest of the operand's reduction side. -/
def opBlkOk (d : Desc) (left : Bool) : Bool := !d.blocked || d.blk == (if left then 0 else d.split)

/-- The slice count of a block's format (R63). -/
def fmtSlices (d : Desc) (widened : Bool) : Nat :=
  if d.fam = 5 then 4
  else if widened then 2
  else ((elemFmt d.family d.width).map slices).getD 1

/-- The exponent of a power of two, none for any other value (R174). -/
def pow2Exp (x : W32) : Option Int :=
  let m := mag32 x
  if isNeg32 x ∨ m = 0 ∨ m ≥ 0x7F800000 then none
  else if m ≥ 0x800000 then (if m % 0x800000 = 0 then some (Int.ofNat (m / 0x800000) - 127) else none)
  else if 2 ^ Nat.log2 m = m then some (Int.ofNat (Nat.log2 m) - 149) else none

/-! ### MATMUL (R168 to R175) -/

structure MatmulP where
  gemm  : Nat
  left  : Nat
  right : Nat
  seg   : Nat
  mt    : Nat
  nt    : Nat
  tm    : Nat
  tn    : Nat
  base  : Nat
  cont  : Nat
  hold  : Nat
  use   : Nat
  trav  : Nat
  deriving DecidableEq, Repr

/-- MATMUL's parameters in the packing of R313. -/
def parseMatmul (e : List Byte) : MatmulP :=
  ⟨p8 e 32, p16 e 34, p16 e 36, p32 e 40, p32 e 44, p32 e 48, p8 e 52, p8 e 53, p8 e 54, p8 e 55, p8 e 56, p16 e 58,
   p8 e 60⟩

def matmulUsed : List (Nat × Nat) := [(32, 1), (34, 4), (40, 12), (52, 5), (58, 3)]

/-- The layer whose settings a GEMM uses: that of its left operand's scale slot, else of its right operand's. -/
def gemmLayer (s : State) (p : Nat) (l r : Desc) : Nat :=
  let of (d : Desc) : Option Nat := (slotCfg s p d.slot).bind (fun k => if k.layer = noSlot then none else some k.layer)
  ((of l).or (of r)).getD noSlot

/-- The settings of the layer's GEMM; the defaults of R97 and R116 without a layer. -/
def gemmCfg (s : State) (p layer gemm : Nat) : GemmCfg :=
  match layerCfg s p layer with
  | some x => if gemm = 0 then x.fwd else if gemm = 1 then x.dx else x.dw
  | none => ⟨32, 1, 8, 0, true⟩

/-- PROMOTE and KSEG of a GEMM, with whether they agree with the copy headers it reads: a rollout's forward GEMMs take the
header's (R134). -/
def gemmIntervals (s : State) (p f gemm : Nat) (l r : Desc) : Nat × Nat × Bool :=
  let g := gemmCfg s p (gemmLayer s p l r) gemm
  let hs := [l, r].filterMap (readHeader s f)
  match hs with
  | [] => (g.promote, g.kseg, true)
  | h :: _ =>
    if isRollout s p ∧ gemm = 0 then (h.promote, h.kseg, true)
    else (g.promote, g.kseg, hs.all (fun h => h.promote == g.promote && h.kseg == g.kseg))

/-- R257: ROT_SIZE and ROT_SEED of a weight descriptor agree with its header. -/
def headerRotOk (s : State) (f : Nat) (d : Desc) : Bool :=
  match readHeader s f d with
  | some h => h.rot == d.rot && h.seed == d.seed
  | none => true

/-- The tiles of a region: slot, row tile, column tile. -/
def regionTiles (base tm tn mt nt : Nat) : List (Nat × Nat × Nat) :=
  (List.range tm).flatMap (fun i => (List.range tn).map (fun j => (base + i * tn + j, mt + i, nt + j)))

/-- What the array does with one tile: its 1,024 entries, the events, and cycles of R64, R113, R132 and R175. -/
structure TileOut where
  vals   : List W32
  ev     : DotEvents
  steps  : Nat
  stall  : Nat
  wide   : Nat
  pstall : Nat
  units  : List Nat
  deriving DecidableEq, Repr

/-- One array step: cycles, epiphyte stalls and cycles added by widened blocks. -/
def arrayStep (l r : Desc) (ls rs : List OpBlock) : Nat × Nat × Nat :=
  let sl := (ls.map (fun b => fmtSlices l b.widened)).foldl max (fmtSlices l false)
  let sr := (rs.map (fun b => fmtSlices r b.widened)).foldl max (fmtSlices r false)
  let t := sl * sr
  let u := ls.foldl (fun m a => rs.foldl (fun m b => max m (epiCount a.lane b.lane)) m) 0
  let need := ceilDiv u 2
  (max t need, need - t, t - fmtSlices l false * fmtSlices r false)

/-- One tile (R115 to R132). `old` holds the entries that the tile continues; lanes beyond the extent keep them (R171), and
raise no event (DESIGN CHOICE, log 111). -/
def runTile (s : State) (f : Nat) (l r : Desc) (promote s0 s1 mt nt : Nat) (old : List W32) (delta : Int) : TileOut :=
  let rows := min 32 (opLines l true - 32 * mt)
  let cols := min 32 (opLines r false - 32 * nt)
  let ls := (List.range rows).map (fun i => (List.range' s0 (s1 - s0)).map (fun kb => readOp s f l true (32 * mt + i) kb))
  let rs := (List.range cols).map (fun j => (List.range' s0 (s1 - s0)).map (fun kb => readOp s f r false (32 * nt + j) kb))
  let cells := (List.range 1024).map (fun e =>
    let i := e / 32
    let j := e % 32
    let o := old.getD e pzero32
    if i < rows ∧ j < cols then
      let pairs := ((ls.getD i []).map (·.lane)).zip ((rs.getD j []).map (·.lane))
      accumulate o (chunks promote pairs) delta
    else (o, {}))
  let steps := (List.range (s1 - s0)).map (fun k =>
    arrayStep l r (ls.filterMap (fun x => x[k]?)) (rs.filterMap (fun x => x[k]?)))
  let runs := chunks promote (steps.map (·.1))
  { vals := cells.map (·.1)
    ev := cells.foldl (fun (e : DotEvents) c => e.add c.2) {}
    steps := (steps.map (·.1)).foldl (· + ·) 0
    stall := (steps.map (·.2.1)).foldl (· + ·) 0
    wide := (steps.map (·.2.2)).foldl (· + ·) 0
    pstall := runs.foldl (fun n run => n + (4 - run.foldl (· + ·) 0)) 0
    units := dedupNat ((ls ++ rs).flatMap (fun x => x.flatMap (·.units))) }

/-- The blocks that a command reads of an operand, each once. -/
def opBlocksRead (s : State) (f : Nat) (d : Desc) (left : Bool) (lo hi s0 s1 : Nat) : List OpBlock :=
  (List.range' lo (min hi (opLines d left) - lo)).flatMap (fun i =>
    (List.range' s0 (s1 - s0)).map (fun kb => readOp s f d left i kb))

/-- The invalid group entries among blocks: one event each (R47). -/
def badGroups (bs : List OpBlock) : Nat := (dedupNat (bs.filterMap (·.badGroup))).length

/-- FRD_FMT_EVENTS of the blocks read by a frond (R65). -/
def bumpRead (s : State) (f : Nat) (d : Desc) (bs : List OpBlock) : State :=
  let s1 := bump s FRD_FMT_EVENTS_RSVD_BLOCKS f (bs.foldl (fun n b => n + b.rsvd) 0)
  bump s1 (if d.fam = 4 then FRD_FMT_EVENTS_LUT_REJECTS else FRD_FMT_EVENTS_ZP_REJECTS) f (badGroups bs)

def bumpDot (s : State) (f : Nat) (e : DotEvents) : State :=
  let s1 := bump (bump s FRD_DOT_EVENTS_NAN_RUNS f e.nanRuns) FRD_DOT_EVENTS_INF_RUNS f e.infRuns
  bump (bump s1 FRD_DOT_EVENTS_PROMOTE_OVF f e.promoteOvf) FRD_DOT_STALLS_ACCUM_OVF f e.accumOvf

def slotEmpty (s : SlotSt) : Bool := decide (s.state = .empty)
def slotActive (s : SlotSt) : Bool := match s.state with | .active _ _ => true | _ => false

/-- A slot that a command must leave until the repeats of a fall-back have rebuilt it (R149, R190). -/
def slotHeld (s : State) (c : Ctx) (k : Nat × Nat) : Bool :=
  !c.rerun && (getPart s c.p).repeats.any (fun r =>
    r.fills.contains k && (slotEmpty (getSlot s k.1 k.2) || r.outs.contains (getSlot s k.1 k.2).out))

/-- No later command of a layer issues while its repeats are under way (R149). -/
def layerHeld (s : State) (c : Ctx) (layer : Nat) : Bool :=
  !c.rerun && (getPart s c.p).repeats.any (fun r => r.layer == layer)

/-- A slot that a MATMUL with CONTINUE may continue (R169, R174). -/
def contOk (x : SlotSt) (out : OutId) (m n seg use : Nat) : Bool :=
  decide (x.state = .held) && decide (x.out = out) && x.m == m && x.n == n && x.seg == seg && decide (use > x.use)

/-- MATMUL (R168 to R175). An invalid group table counts once for each operand that names it (R47; DESIGN CHOICE, log 112). -/
def matmulBody (c : Ctx) (s : State) (e : List Byte) : Verdict :=
  let a := parseMatmul e
  let dl := (readDesc s c.p a.left).localize s c.p
  let dr := (readDesc s c.p a.right).localize s c.p
  let fmt (d : Desc) (left : Bool) : Bool := d.fam != 6 && opBlkOk d left && headerRotOk s c.f d
  match validate s c.p [{ h := a.left, fmtOk := fmt dl true }, { h := a.right, fmtOk := fmt dr false }] with
  | some (st, d) => .reject st d
  | none =>
    if namesKeep s c.p e [a.left, a.right] then .reject stBadDesc 0
    else if dl.count = 0 ∨ dr.count = 0 then .ok s
    else
      let l := readSide s c.p dl
      let r := readSide s c.p dr
      let (promote, kseg, hdrOk) := gemmIntervals s c.p c.f a.gemm dl dr
      let kb := opLength l true / 16
      let segs := if kseg = 0 then 1 else ceilDiv kb kseg
      let s0 := if kseg = 0 then 0 else a.seg * kseg
      let s1 := if kseg = 0 then kb else min kb (s0 + kseg)
      let out : OutId := ⟨gemmLayer s c.p dl dr, a.gemm, opLines l true, opLines r false⟩
      let tiles := regionTiles a.base a.tm a.tn a.mt a.nt
      let sa := readScale s c.p dl
      let sb := readScale s c.p dr
      let p2 (x : Option W32) : Option Int := x.bind pow2Exp
      let slot (k : Nat) : SlotSt := getSlot s c.f k
      if a.gemm > 2 ∨ a.cont > 1 ∨ a.hold > 1 ∨ a.trav > 1 ∨ a.tm = 0 ∨ a.tn = 0 ∨ a.tm * a.tn > 128
          ∨ a.base + a.tm * a.tn > 128 ∨ a.seg ≥ segs ∨ opLength l true ≠ opLength r false
          ∨ opLength l true % 16 ≠ 0 ∨ 32 * (a.mt + a.tm - 1) ≥ opLines l true
          ∨ 32 * (a.nt + a.tn - 1) ≥ opLines r false then .reject stBadDesc 0
      else if dl.rot ≠ dr.rot ∨ (dl.rot ≠ 0 ∧ dl.seed ≠ dr.seed) ∨ hdrOk = false ∨ promote = 0
          ∨ sa = none ∨ sb = none
          ∨ (a.cont = 1 ∧ (kseg ≠ 0 ∨ p2 sa = none ∨ p2 sb = none
            ∨ tiles.any (fun t => decide ((slot t.1).state = .held)
                && ((pow2Exp (slot t.1).sa).isNone || (pow2Exp (slot t.1).sb).isNone)))) then
        .reject stFormat 0
      else if layerHeld s c out.layer || tiles.any (fun t => slotActive (slot t.1) || slotHeld s c (c.f, t.1)) then .wait
      else match tiles.find? (fun t =>
          if a.cont = 0 then !slotEmpty (slot t.1) else !contOk (slot t.1) out t.2.1 t.2.2 a.seg a.use) with
        | some t => .reject stIllegal t.1
        | none =>
          let lb := opBlocksRead s c.f l true (32 * a.mt) (32 * (a.mt + a.tm)) s0 s1
          let rb := opBlocksRead s c.f r false (32 * a.nt) (32 * (a.nt + a.tn)) s0 s1
          let sr := readUnits s (dedupNat ((lb ++ rb).flatMap (·.units)))
          let va := sa.getD one32
          let vb := sb.getD one32
          let done := tiles.map (fun t =>
            let x := slot t.1
            let delta : Int := if a.cont = 0 then 0 else
              (p2 sa).getD 0 + (p2 sb).getD 0 - (pow2Exp x.sa).getD 0 - (pow2Exp x.sb).getD 0
            (t, runTile sr c.f l r promote s0 s1 t.2.1 t.2.2
              (if a.cont = 0 then List.replicate 1024 pzero32 else x.vals) delta))
          let put (s : State) (x : (Nat × Nat × Nat) × TileOut) : State :=
            let old := slot x.1.1
            let bad := x.2.units.any (unitPoison sr)
            setSlot s c.f x.1.1
              { state := .active c.n (a.hold == 1), out := out, m := x.1.2.1, n := x.1.2.2, seg := a.seg, segTo := a.seg
                sa := if a.cont = 0 then va else old.sa, sb := if a.cont = 0 then vb else old.sb
                use := a.use, poison := bad || (a.cont == 1 && old.poison), vals := x.2.vals }
          let fresh := if a.cont = 0 then { sr with rhzUps := done.foldl (fun t x => tblSet 0 t (128 * c.f + x.1.1) 0) sr.rhzUps }
            else sr
          let s2 := done.foldl put fresh
          let s3 := bumpRead (bumpRead s2 c.f l lb) c.f r rb
          let s4 := bumpDot s3 c.f (done.foldl (fun (ev : DotEvents) x => ev.add x.2.ev) {})
          let tot (g : TileOut → Nat) : Nat := done.foldl (fun n x => n + g x.2) 0
          let s5 := bump (bump s4 FRD_DOT_STALLS_PROMOTE_STALLS c.f (tot (·.pstall)))
            FRD_EPI_STALLS_STALL_CYCLES c.f (tot (·.stall))
          let s6 := bump (bump s5 FRD_ARRAY_BUSY_STEP_CYCLES c.f (tot (·.steps)))
            FRD_ARRAY_EVENTS_WIDE_STEP_CYCLES c.f (tot (·.wide))
          let bad := done.any (fun x => x.2.units.any (unitPoison sr) || (a.cont == 1 && (slot x.1.1).poison))
          .poisoned s6 (if badGroups lb + badGroups rb > 0 then stFormat else stOK) bad

/-- The context of an entry in a queue of partition `p`. -/
def ctxOf (s : State) (q : QueueId) (n : W32) (mb : Nat) : Ctx :=
  { p := (queueOwner s q).getD 0, f := (match q with | .frond f => f | _ => 0), q := q, n := n
    e := entryBytes s q n, mb := mb, rerun := false }

/-- A verdict's effect with the command kept for repeats. -/
def Verdict.keep (c : Ctx) : Verdict → Verdict
  | .effect s st d k w => .effect (keepCmd s c.p c.q c.n c.mb c.e) st d k w
  | v => v

def execMatmul (q : QueueId) (n : W32) (s : State) : Host.Outcome State Fault Refusal :=
  .next (runEntry q n (· == 0x10) matmulUsed
    (fun t e => (matmulBody (ctxOf s q n 0) t e).keep (ctxOf s q n 0)) s)

/-- A MATMUL completes: the slots it fills become DONE or HELD (R167, R173). -/
def finishSlots (s : State) (f : Nat) (n : W32) : State :=
  modFrond s f (fun x => { x with slots := x.slots.map (fun k =>
    match k.2.state with
    | .active m hold => if m = n then (k.1, { k.2 with state := if hold then .held else .done }) else k
    | _ => k) })

/-! ### STORE_TILES (R176 to R181) -/

structure StoreP where
  base : Nat
  tm   : Nat
  tn   : Nat
  da   : Nat
  db   : Nat
  oa   : Nat
  ob   : Nat
  mode : Nat
  order : Nat
  mask : Nat
  retain : Nat
  deriving DecidableEq, Repr

def parseStore (e : List Byte) : StoreP :=
  ⟨p8 e 32, p8 e 33, p8 e 34, p16 e 36, p16 e 38, p8 e 40, p8 e 41, p8 e 42, p16 e 44, p16 e 46, p8 e 48⟩

def storeUsed : List (Nat × Nat) := [(32, 3), (36, 7), (44, 5)]

/-- An entry of an output: its row and column, value and poison. -/
structure OutVal where
  m : Nat
  n : Nat
  v : W32
  poison : Bool
  deriving DecidableEq, Repr

/-- The scaled entries of a slot that lie inside the output that its record names and inside a destination of the given rows and
columns (R129, R171, R177), and how many overflowed. -/
def slotValues (x : SlotSt) (rows cols : Nat) : List OutVal × Nat :=
  let all := (List.range 1024).filterMap (fun e =>
    let m := 32 * x.m + e / 32
    let n := 32 * x.n + e % 32
    if m < min rows x.out.rows ∧ n < min cols x.out.cols then
      let (v, o) := scaleOutput (x.vals.getD e pzero32) x.sa x.sb
      some ((⟨m, n, v, x.poison⟩ : OutVal), o)
    else none)
  (all.map (·.1), all.foldl (fun n a => n + a.2) 0)

/-- A mask (R180): the two bitmaps, read once, and whether they read poisoned. -/
structure Mask where
  rows : List Byte
  cols : List Byte
  deriving DecidableEq, Repr

def readMask (s : State) (p f h rows cols : Nat) : Mask :=
  let d := readDesc s p h
  ⟨readBytes s (spaceKey d.space f (Int.ofNat d.baseE)) (ceilDiv rows 8),
   readBytes s (spaceKey d.space f (Int.ofNat d.baseM)) (ceilDiv cols 8)⟩

/-- The memory that reading a mask reads. -/
def maskUnits (s : State) (p f h rows cols : Nat) : List Nat :=
  let d := readDesc s p h
  if h = 0xFFFF then [] else
  unitsOf (spaceKey d.space f (Int.ofNat d.baseE)) (ceilDiv rows 8) ++
  unitsOf (spaceKey d.space f (Int.ofNat d.baseM)) (ceilDiv cols 8)

def Mask.bit (l : List Byte) (i : Nat) : Bool := bitOf (l.getD (i / 8) 0).toNat (i % 8)
def maskKeeps (k : Option Mask) (m n : Nat) : Bool :=
  match k with
  | some x => Mask.bit x.rows m && Mask.bit x.cols n
  | none => true

/-- The lines of a quantised store along the blocking axis (R178): along columns when `alongN`, else along rows. Entries
are grouped into runs of consecutive positions. -/
def storeLines (d : Desc) (alongN : Bool) (vals : List OutVal) : List QLine :=
  let key (o : OutVal) : Nat × Nat := if alongN then (o.m, o.n) else (o.n, o.m)
  let sorted := sortBy (fun a b => decide ((key a).1 < (key b).1)
    || ((key a).1 == (key b).1 && decide ((key a).2 ≤ (key b).2))) vals
  let rec go : List OutVal → List (QLine × List Nat) → List (QLine × List Nat)
    | [], acc => acc
    | o :: os, acc =>
      let c := d.coordsMN o.m o.n
      match acc with
      | (l, last) :: rest =>
        if c = updAt last d.blk (· + 1) then
          go os ((⟨l.start, l.vals ++ [o.v], l.poison || o.poison⟩, c) :: rest)
        else go os ((⟨c, [o.v], o.poison⟩, c) :: acc)
      | [] => go os [(⟨c, [o.v], o.poison⟩, c)]
  ((go sorted []).map (·.1)).reverse

/-- R178: lines cover whole blocks and whole rotation groups, the tail pieces of R101 among them. -/
def linesOk (d : Desc) (ls : List QLine) : Bool :=
  let ends := (rotPieces d.rotSize (d.e d.blk)).foldl (fun (l : List Nat) n => l ++ [l.getLastD 0 + n]) [0]
  ls.all (fun l =>
    let a := l.start.getD d.blk 0
    let b := a + l.vals.length
    if d.rotSize = 0 then decide (a % 16 = 0 ∧ b % 16 = 0) else ends.contains a && ends.contains b)

/-- R178: a quantised destination has an orientation, and a wide one has none. -/
def orientOk (d : Desc) (o : Nat) : Bool := if d.blocked then o == 1 || o == 2 else o == 0

/-- R256: the blocking dimension is the fastest of the side whose axis ORIENT names. -/
def orientFmt (d : Desc) (o : Nat) : Bool :=
  !d.blocked || ((o != 1 || d.blk == 0) && (o != 2 || d.blk == d.split))

/-- A plain or SUM store of values into a wide destination, collisions in canonical element order (R179, R263). -/
structure WideOut where
  w   : WSet
  ovf : Nat
  poisoned : Bool      -- a SUM read a poisoned destination element
  units : List Nat
  deriving DecidableEq, Repr

/-- The FP32 value that the write set holds at a key, or memory's. -/
def wideCurrent (s : State) (w : WSet) (k : Nat) : W32 :=
  BitVec.ofNat 32 (leNat ((List.range 4).map (fun i => ((tblFind w (k + i)).map (·.val)).getD (readByte s (k + i)))))

def wideStore (s : State) (f : Nat) (d : Desc) (sum : Bool) (vals : List OutVal) (w0 : WSet) : WideOut :=
  let lin (o : OutVal) : Nat := linearOf d.ext (d.coordsMN o.m o.n)
  (sortBy (fun a b => decide (lin a ≤ lin b)) vals).foldl (fun acc o =>
    let c := d.coordsMN o.m o.n
    let k := d.elemKey f c
    if sum then
      let old := wideCurrent s acc.w k
      let v := fp32AddRne old o.v
      let bad := rangePoison s k 4
      { w := putWide acc.w d f c v (o.poison || bad)
        ovf := acc.ovf + b2n (isFinite32 old && isFinite32 o.v && isInf32 v)
        poisoned := acc.poisoned || bad
        units := acc.units }
    else { acc with w := putWide acc.w d f c o.v o.poison }) ⟨w0, 0, false, []⟩

/-- Under ORDERED_OVERLAP a SUM's first value at an element writes when ACCUM_ORDER is 0, and later ones add (R263). -/
def sumStore (s : State) (f : Nat) (d : Desc) (order : Nat) (vals : List OutVal) : WideOut :=
  if order > 0 then wideStore s f d true vals []
  else
    let lin (o : OutVal) : Nat := linearOf d.ext (d.coordsMN o.m o.n)
    (sortBy (fun a b => decide (lin a ≤ lin b)) vals).foldl (fun (acc : WideOut) o =>
      let c := d.coordsMN o.m o.n
      let k := d.elemKey f c
      match tblFind acc.w k with
      | none => { acc with w := putWide acc.w d f c o.v o.poison }
      | some _ =>
        let old := wideCurrent s acc.w k
        let v := fp32AddRne old o.v
        { acc with w := putWide acc.w d f c v o.poison
                   ovf := acc.ovf + b2n (isFinite32 old && isFinite32 o.v && isInf32 v) }) ⟨[], 0, false, []⟩

/-- A tile that lies wholly outside a matrix view. -/
def tileOutside (d : Desc) (x : SlotSt) : Bool := decide (32 * x.m ≥ d.rows ∨ 32 * x.n ≥ d.cols)

/-- STORE_TILES (R176 to R181). STORE_OVF counts each entry inside DEST_A's matrix view once, a masked entry too (DESIGN CHOICE,
log 110). A poisoned slot poisons every unit written (R302). -/
def storeBody (c : Ctx) (s : State) (e : List Byte) : Verdict :=
  let a := parseStore e
  let hs := [a.da] ++ (if a.db = 0xFFFF then [] else [a.db])
  let ori (h : Nat) : Nat := if h = a.da then a.oa else a.ob
  let ds := hs.map (fun h => (readDesc s c.p h).localize s c.p)
  let dA := (ds[0]?).getD (parseDesc [])
  let useOf (h : Nat) : Use :=
    { h := h, write := true, sum := a.mode == 1
      fmtOk := quantSlotOk s c.p (readDesc s c.p h) && orientFmt (readDesc s c.p h) (ori h) }
  match validateFrond s c.p (hs.map useOf ++ maskUse a.mask dA.rows dA.cols) with
  | some (st, d) => .reject st d
  | none =>
    let k := a.tm * a.tn
    let slots := (List.range' a.base k).map (fun i => (i, getSlot s c.f i))
    if namesKeep s c.p e hs then .reject stBadDesc 0
    else if a.tm = 0 ∨ a.tn = 0 ∨ k > 128 ∨ a.base + k > 128 ∨ a.oa > 2 ∨ a.ob > 2 ∨ a.mode > 1 ∨ a.retain > 1
        ∨ (a.db = 0xFFFF ∧ a.ob ≠ 0) ∨ (a.db = a.da ∧ a.oa ≠ a.ob)
        ∨ (ds.zip hs).any (fun x => !orientOk x.1 (ori x.2))
        ∨ (a.mode = 1 ∧ ds.any (fun d => d.fam != 6))
        ∨ (a.mask ≠ 0xFFFF ∧ ds.any (·.blocked)) then .reject stBadDesc 0
    else if ds.all (fun d => d.count == 0) then .ok s
    else if slots.any (fun x => slotActive x.2 || slotHeld s c (c.f, x.1)) then .wait
    else match slots.find? (fun x => decide (x.2.state ≠ .done)) with
      | some _ => .reject stIllegal 0
      | none =>
        let bad := slots.any (fun x => x.2.poison)
        let vals (d : Desc) : List OutVal := slots.flatMap (fun x => (slotValues x.2 d.rows d.cols).1)
        if ds.any (fun d => d.count != 0 && slots.any (fun x => tileOutside d x.2)) then .reject stBadDesc 0
        else if ds.any (fun d => d.blocked && !linesOk d (storeLines d (d.blk == 0) (vals d))) then .reject stBadDesc 0
        else if !jitRoom s c ds then .reject stNoResource 0
        else
          let km := if a.mask = 0xFFFF then none else some (readMask s c.p c.f a.mask dA.rows dA.cols)
          let sMask := readUnits s (dedupNat (maskUnits s c.p c.f a.mask dA.rows dA.cols))
          let sRead := if a.mode = 1 ∧ a.order > 0 then
              readUnits sMask (dedupNat (ds.flatMap (fun d => (vals d).flatMap (fun o =>
                if maskKeeps km o.m o.n then unitsOf (d.elemKey c.f (d.coordsMN o.m o.n)) 4 else []))))
            else sMask
          let step (acc : State × Bool) (d : Desc) : State × Bool :=
            let vs := ((vals d).filter (fun o => maskKeeps km o.m o.n)).map (fun o => { o with poison := bad })
            if d.blocked then
              let (s1, w) := quantLines acc.1 c d [] (storeLines d (d.blk == 0) vs)
              (commitWrites s1 c.f w, acc.2)
            else
              let r := if a.mode = 1 then sumStore acc.1 c.f d a.order vs else wideStore acc.1 c.f d false vs []
              (bump (commitWrites acc.1 c.f r.w) FRD_ARRAY_EVENTS_SUM_OVF c.f r.ovf, acc.2 || r.poisoned)
          let (s1, sumBad) := ds.foldl step (sRead, false)
          let ovf := slots.foldl (fun n x => n + (slotValues x.2 dA.rows dA.cols).2) 0
          let s2 := bump s1 FRD_DOT_EVENTS_STORE_OVF c.f ovf
          let s3 := if a.retain = 1 then s2
            else slots.foldl (fun s x => setSlot s c.f x.1 SlotSt.empty) s2
          .poisoned s3 stOK (sumBad || bad)

def execStoreTiles (q : QueueId) (n : W32) (mb : Nat) (s : State) : Host.Outcome State Fault Refusal :=
  .next (runEntry q n (· == 0x11) storeUsed
    (fun t e => (storeBody (ctxOf s q n mb) t e).keep (ctxOf s q n mb)) s)

/-! ### GATHER_ADD (R183 to R186) -/

/-- A source word (R183): a slot range of a frond, or a descriptor. -/
inductive Source where
  | slots (frond base : Nat)
  | desc (h : Nat)
  deriving DecidableEq, Repr

/-- A source word; none where its reserved bits are set. -/
def parseSource (w : Nat) : Option Source :=
  if w ≥ 2 ^ 24 then none
  else if bitOf w 23 then (if bitsOf w 16 7 = 0 then some (.desc (bitsOf w 0 16)) else none)
  else some (.slots (bitsOf w 0 16) (bitsOf w 16 7))

structure GatherP where
  mode  : Nat
  count : Nat
  tiles : Nat
  mask  : Nat
  dest  : Option Source
  srcs  : List (Option Source)
  deriving DecidableEq, Repr

def parseGather (e : List Byte) : GatherP :=
  ⟨p8 e 32, p8 e 33, p8 e 34, p16 e 36, parseSource (p32 e 40),
   (List.range (p8 e 33)).map (fun i => parseSource (p32 e (44 + 4 * i)))⟩

/-- The parameter bytes of GATHER_ADD: source words beyond COUNT are zero. -/
def gatherUsed (e : List Byte) : List (Nat × Nat) := [(32, 3), (36, 2), (40, 4 + 4 * min 16 (p8 e 33))]

/-- The slots of a source that is a slot range. -/
def sourceSlots (tiles : Nat) : Source → List (Nat × Nat)
  | .slots f b => (List.range tiles).map (fun t => (f, b + t))
  | .desc _ => []

/-- R183: the entry's own form. -/
def gatherFormOk (s : State) (c : Ctx) (a : GatherP) : Bool :=
  let reached (h : Nat) : Bool := !handleValid s c.p h || (readDesc s c.p h).space != 1
  let slotOk (x : Source) : Bool := match x with
    | .slots f b => frondEnabled s f && decide (ownerOfFrond s f = some c.p) && decide (b + a.tiles ≤ 128)
    | .desc h => reached h
  decide (a.mode ≤ 1 ∧ 2 ≤ a.count ∧ a.count ≤ 16 ∧ 1 ≤ a.tiles ∧ a.tiles ≤ 128)
  && a.srcs.all (fun x => x.any slotOk) && a.dest.any slotOk && (a.mask == 0xFFFF || reached a.mask)
  && (if a.mode = 0 then
        a.mask == 0xFFFF && a.srcs.all (fun x => match x with | some (.slots _ _) => true | _ => false)
        && decide (a.dest = (a.srcs.head?).bind id)
      else (match a.dest with | some (.desc _) => true | _ => false))

/-- GATHER_ADD FOLD (R184). An addition of finite operands that gives ±∞ counts in ACCUM_OVF at the frond of source 0 (R136). -/
def foldBody (c : Ctx) (s : State) (e : List Byte) : Verdict :=
  let a := parseGather e
  if a.mode = 1 then .wait
  else if !gatherFormOk s c a then .reject stBadDesc 0
  else
    let srcs := a.srcs.filterMap id
    let cols := (List.range a.tiles).map (fun t => srcs.filterMap (fun x => (sourceSlots a.tiles x)[t]?))
    let get (x : Nat × Nat) : SlotSt := getSlot s x.1 x.2
    let all := cols.flatMap id
    if all.any (fun x => slotActive (get x) || slotHeld s c x) then .wait
    else match all.find? (fun x => decide ((get x).state ≠ .done)) with
      | some _ => .reject stIllegal 0
      | none =>
        let okCol (l : List (Nat × Nat)) : Bool :=
          match l.map get with
          | [] => false
          | x :: xs => x.seg == 0 && (xs.foldl (fun (acc : Bool × Nat) y =>
              (acc.1 && decide (y.out = x.out) && y.m == x.m && y.n == x.n && decide (y.sa = x.sa)
                && decide (y.sb = x.sb) && y.seg == acc.2 + 1 && y.segTo == y.seg, y.segTo)) (true, x.segTo)).1
        if !cols.all okCol || decide ((dedupNat (all.map (fun x => x.1 * 128 + x.2))).length ≠ all.length) then
          .reject stFormat 0
        else
          let foldOne (s : State) (l : List (Nat × Nat)) : State :=
            let xs := l.map get
            let x0 := xs.headD SlotSt.empty
            let vals := (List.range 1024).map (fun i => foldSegs (xs.map (fun x => x.vals.getD i pzero32)))
            let bad := xs.any (·.poison)
            let ovf := vals.foldl (fun n v => n + v.2) 0
            let s1 := (l.drop 1).foldl (fun s y => setSlot s y.1 y.2 SlotSt.empty) s
            match l.head? with
            | some y => bump (bump (setSlot s1 y.1 y.2 { x0 with
                vals := vals.map (·.1), poison := bad, segTo := ((xs.getLast?).map (·.segTo)).getD x0.segTo })
                CSH_GADD_EVENTS_OVF (match c.q with | .cushion k => k | _ => 0) ovf) FRD_DOT_STALLS_ACCUM_OVF y.1 ovf
            | none => s1
          let s1 := cols.foldl foldOne s
          let nan := cols.foldl (fun n l => n + ((List.range 1024).countP (fun i =>
            isNaN32 (foldSegs ((l.map get).map (fun x => x.vals.getD i pzero32))).1))) 0
          let k := match c.q with | .cushion k => k | _ => 0
          let bad := all.any (fun x => (get x).poison)
          .poisoned (bump s1 CSH_GADD_EVENTS_NAN_OUT k nan) stOK bad

/-- The left fold of scaled sources (R185). -/
def sumFold : List W32 → W32 × Nat
  | [] => (pzero32, 0)
  | v :: vs => vs.foldl (fun (acc : W32 × Nat) y =>
      let r := fp32AddRne acc.1 y
      (r, acc.2 + b2n (isFinite32 acc.1 && isFinite32 y && isInf32 r))) (v, 0)

/-- GATHER_ADD SUM (R185). The entries of a slot source count in STORE_OVF at the slot's frond (R129), inside DEST's matrix view
as at a store (log 110). -/
def sumBody (c : Ctx) (s : State) (e : List Byte) : Verdict :=
  let a := parseGather e
  if a.mode ≠ 1 then .wait
  else
    let srcs := a.srcs.filterMap id
    let dh := match a.dest with | some (.desc h) => h | _ => 0xFFFF
    let sh := srcs.filterMap (fun x => match x with | .desc h => some h | _ => none)
    let dd := (readDesc s c.p dh).localize s c.p
    let fp (h : Nat) : Bool := (readDesc s c.p h).fam == 6
    match validate s c.p (sh.map (fun h => ({ h := h, fmtOk := fp h } : Use)) ++
        (match a.dest with | some (.desc h) => [{ h := h, write := true, fmtOk := fp h }] | _ => []) ++ maskUse a.mask dd.rows dd.cols) with
    | some (st, d) => .reject st d
    | none =>
      if !gatherFormOk s c a || namesKeep s c.p e (dh :: sh) then .reject stBadDesc 0 else
      let sd (h : Nat) : Desc := (readDesc s c.p h).localize s c.p
      let ranges := srcs.filter (fun x => match x with | .slots _ _ => true | _ => false)
      let slotAt (x : Source) (t : Nat) : SlotSt :=
        match (sourceSlots a.tiles x)[t]? with | some y => getSlot s y.1 y.2 | none => SlotSt.empty
      let allSlots := ranges.flatMap (fun x => (List.range a.tiles).map (slotAt x))
      if sh.any (fun h => decide ((sd h).ext ≠ dd.ext)) then .reject stBadDesc 0
      else if dd.count = 0 then .ok s
      else if allSlots.any slotActive || ranges.any (fun x => (sourceSlots a.tiles x).any (slotHeld s c)) then .wait
      else if allSlots.any (fun x => decide (x.state ≠ .done)) then .reject stIllegal 0
      else if (List.range a.tiles).any (fun t => ranges.any (fun x =>
          let r := ranges.head?.map (fun y => slotAt y t)
          decide (r.map (fun z => (z.m, z.n)) ≠ some ((slotAt x t).m, (slotAt x t).n)))) then .reject stFormat 0
      else if allSlots.any (tileOutside dd) then .reject stBadDesc 0
      else
        let km := if a.mask = 0xFFFF then none else some (readMask s c.p c.f a.mask dd.rows dd.cols)
        -- the elements written: every one, or those of the tiles held
        let elems : List (Nat × Nat × Nat × Nat) :=     -- m, n, tile, entry
          if ranges.isEmpty then
            (List.range dd.count).map (fun i =>
              let n := i % dd.cols
              (i / dd.cols, n, 0, 0))
          else (List.range a.tiles).flatMap (fun t =>
            let z := (ranges.head?.map (fun y => slotAt y t)).getD SlotSt.empty
            (List.range 1024).filterMap (fun i =>
              let m := 32 * z.m + i / 32
              let n := 32 * z.n + i % 32
              if m < min dd.rows z.out.rows ∧ n < min dd.cols z.out.cols then some (m, n, t, i) else none))
        let kept := elems.filter (fun x => maskKeeps km x.1 x.2.1)
        let units := dedupNat (sh.flatMap (fun h => kept.flatMap (fun x =>
          unitsOf ((sd h).elemKey c.f (dd.coordsMN x.1 x.2.1)) 4)))
        let s1 := readUnits s (dedupNat (maskUnits s c.p c.f a.mask dd.rows dd.cols) ++ units)
        let val (x : Nat × Nat × Nat × Nat) (y : Source) : W32 × Bool :=
          match y with
          | .desc h =>
            let k := (sd h).elemKey c.f (dd.coordsMN x.1 x.2.1)
            (BitVec.ofNat 32 (readNat s1 k 4), rangePoison s1 k 4)
          | .slots _ _ =>
            let z := slotAt y x.2.2.1
            ((scaleOutput (z.vals.getD x.2.2.2 pzero32) z.sa z.sb).1, z.poison)
        let slotBad := allSlots.any (·.poison)
        let outs := kept.map (fun x =>
          let vs := srcs.map (val x)
          let r := sumFold (vs.map (·.1))
          ((⟨x.1, x.2.1, r.1, slotBad || vs.any (·.2)⟩ : OutVal), r.2))
        let scaled (s : State) (y : Nat × SlotSt) : State :=
          bump s FRD_DOT_EVENTS_STORE_OVF y.1 (slotValues y.2 dd.rows dd.cols).2
        let s1 := (ranges.flatMap (fun x => (sourceSlots a.tiles x).map (fun y => (y.1, getSlot s y.1 y.2)))).foldl scaled s1
        let k := match c.q with | .cushion k => k | _ => 0
        let r := wideStore s1 c.f dd false (outs.map (·.1)) []
        let (s2, drop) := writeSet s1 r.w
        let s3 := bump (bump s2 CSH_LAYOUT_EVENTS_PAD_DROPPED k drop) CSH_GADD_EVENTS_OVF k
          (outs.foldl (fun n o => n + o.2) 0)
        .poisoned (bump s3 CSH_GADD_EVENTS_NAN_OUT k (outs.countP (fun o => isNaN32 o.1.v))) stOK
          (slotBad || outs.any (fun o => o.1.poison))

def execGatherAddFold (q : QueueId) (n : W32) (s : State) : Host.Outcome State Fault Refusal :=
  .next (runEntry q n (· == 0x18) (gatherUsed (entryBytes s q n))
    (fun t e => (foldBody (ctxOf s q n 0) t e).keep (ctxOf s q n 0)) s)

def execGatherAddSum (q : QueueId) (n : W32) (s : State) : Host.Outcome State Fault Refusal :=
  .next (runEntry q n (· == 0x18) (gatherUsed (entryBytes s q n))
    (fun t e => (sumBody (ctxOf s q n 0) t e).keep (ctxOf s q n 0)) s)

end Sys2Proof.Machine
end

