-- ==== Sys2Proof/Machine/Reduction.lean ====
section
/-! DEFINITION. Exact collective reductions (chapter 14 of the spec): the commands of an epoch, the four levels of addition,
results, norms, deadlines, backups, checks, CONFIRM and RETRACT. A message to a member on this same device waits in the
fabric state's own queue, and `redPump` handles those messages in order before a command or event ends. -/

namespace Sys2Proof.Machine

/-! ### Open epochs -/

def epochOf (s : State) (p e : Nat) : Option EpochSt := (getPart s p).epochs.find? (fun x => x.epoch == e)

def modEpoch (s : State) (p e : Nat) (f : EpochSt → EpochSt) : State :=
  modPart s p (fun x => { x with epochs := x.epochs.map (fun y => if y.epoch = e then f y else y) })

def EpochSt.tensorOf (x : EpochSt) (t : Nat) : Option RedTensor := x.tensors.find? (fun y => y.tensor == t)

def modTensor (s : State) (p e t : Nat) (f : RedTensor → RedTensor) : State :=
  modEpoch s p e (fun x => { x with tensors := x.tensors.map (fun y => if y.tensor = t then f y else y) })

/-- EPOCH is not above the last confirmed epoch. -/
def notAbove (s : State) (p e : Nat) : Bool := match (getPart s p).lastConf with | some l => decide (e ≤ l) | none => false

def EpochSt.opened (e now : Nat) : EpochSt :=
  { epoch := e, attempt := 0, closed := none, since := now, asked := false, tensors := [], retained := [], recvd := []
    finals := [], oks := [], bad := false, sentOk := false, answered := false, used := 0, backed := [] }

def openEpoch (s : State) (p e : Nat) : State :=
  if (epochOf s p e).isSome then s
  else modPart s p (fun x => { x with
    epochs := sortBy (fun a b => decide (a.epoch ≤ b.epoch)) (EpochSt.opened e s.counter :: x.epochs) })

/-! ### Subgroups (R373) -/

/-- The members whose grid coordinates equal member `i`'s on every axis but the reduction's. -/
def subgroup (g : GroupCfg) (axis i : Nat) : List Nat :=
  (List.range g.members.length).filter (fun j => (List.range 3).all (fun a => a == axis || gridCoord g j a == gridCoord g i a))

def memberAddr (g : GroupCfg) (j : Nat) : Nat × Nat := ((g.members[j]?).map (fun m => (m.dev, m.part))).getD (0, 0)
def memberBackup (g : GroupCfg) (j : Nat) : Option (Nat × Nat) := (g.members[j]?).bind (·.backup)
def memberColony (g : GroupCfg) (j : Nat) : Nat := (memberAddr g j).1 / 16

def coloniesOf (g : GroupCfg) (sub : List Nat) : List Nat :=
  sortBy (fun a b => decide (a ≤ b)) (dedupNat (sub.map (memberColony g)))
def inColony (g : GroupCfg) (sub : List Nat) (c : Nat) : List Nat := sub.filter (fun j => memberColony g j == c)

/-- The root of block `b` in a colony. -/
def rootIn (g : GroupCfg) (sub : List Nat) (c b : Nat) : Nat :=
  let l := inColony g sub c
  l.getD (b / 64 % max 1 l.length) 0

/-- The member index of (device, partition) in a group, or that of a member whose backup it is. -/
def indexIn (g : GroupCfg) (who : Nat × Nat) : Option Nat := g.members.findIdx? (fun m => m.dev == who.1 && m.part == who.2)
def primaryIn (g : GroupCfg) (who : Nat × Nat) : Option Nat := g.members.findIdx? (fun m => decide (m.backup = some who))

/-- What a tensor's reduction rests on: its group, the subgroup, its colonies and this member's colony. -/
structure Team where
  g    : GroupCfg
  sub  : List Nat
  cols : List Nat
  col  : Nat
  deriving DecidableEq, Repr

def teamOf (s : State) (t : RedTensor) : Team :=
  let g := (findGroup s t.group).getD ⟨t.group, [], [], 0, [], 16, true, 1024⟩
  let sub := subgroup g t.axis t.me
  ⟨g, sub, coloniesOf g sub, memberColony g t.me⟩

def Team.leader (k : Team) : Nat := k.sub.headD 0
/-- The colonies of block `b`'s chain, in order. -/
def Team.chain (k : Team) (b : Nat) : List Nat :=
  let n := max 1 k.cols.length
  (List.range k.cols.length).map (fun t => k.cols.getD ((b / 64 + t) % n) 0)
/-- The member is the root of block `b` in its colony. -/
def Team.isRoot (k : Team) (me b : Nat) : Bool := rootIn k.g k.sub k.col b == me

/-- The tensor whose subgroup's leader serves the epoch: the lowest index (log 31). -/
def leadTensor (x : EpochSt) : Option RedTensor :=
  x.tensors.foldl (fun b t => match b with
    | none => some t
    | some u => if t.tensor < u.tensor then some t else some u) none

/-! ### Messages (R383 to R385) -/

def redAddrField (e t pass attempt : Nat) (sample backup : Bool) : Nat :=
  e % 2 ^ 32 + t % 2 ^ 16 * 2 ^ 32 + pass % 8 * 2 ^ 48 + attempt % 8 * 2 ^ 51 + b2n sample * 2 ^ 54 + b2n backup * 2 ^ 55

/-- A reduction message to a member or backup. -/
def redSend (s : State) (p : Nat) (dst : Nat × Nat) (vc : Nat) (m : Msg) (way : Detour := .none) : State :=
  if some dst.1 = s.fabric.addr then
    { s with fabric := { s.fabric with selfq := s.fabric.selfq ++ [(dst.2, { m with dst := dst.1, src := dst.1, part := p })] } }
  else sendMsg s vc { m with dst := dst.1, part := p } way

/-- A block sent to a member or backup, one block a message (log 32). -/
def sendBlock (s : State) (p : Nat) (x : EpochSt) (t : RedTensor) (dst : Nat × Nat) (mtype : Nat) (b : Bfx)
    (way : Detour := .none) : State :=
  redSend s p dst (teamOf s t).g.vc
    { mtype := mtype, addr := redAddrField x.epoch t.tensor b.pass x.attempt (b.flag bfSample) (b.flag bfBackup)
      payload := bfxBytes b } way

/-- The 32-byte payload of R384. -/
def checkPayload (e attempt reason flags tensors blocks tensor origin block : Nat) : List Byte :=
  leBytes 8 e ++ leBytes 1 attempt ++ leBytes 1 reason ++ leBytes 1 flags ++ leBytes 1 0 ++ leBytes 4 tensors ++
  leBytes 8 blocks ++ leBytes 2 tensor ++ leBytes 2 origin ++ leBytes 4 block

def sendCheck (s : State) (p : Nat) (x : EpochSt) (dst : Nat × Nat) (mtype : Nat) (payload : List Byte) : State :=
  redSend s p dst 9 { mtype := mtype, addr := redAddrField x.epoch 0 0 x.attempt false false, payload := payload }

/-- Reasons of R384. -/
def rsnResidue := 1
def rsnSample := 2
def rsnBackup := 3
def rsnExp := 4
def rsnCount := 5
def rsnTotals := 6
def rsnTimeout := 7

/-- A failure at this member: RETRACT_REQ to the leader. A TIMEOUT is no failed check (R392). -/
def redFail (s : State) (p e reason tensor block : Nat) : State :=
  match epochOf s p e with
  | none => s
  | some x =>
    match leadTensor x with
    | none => s
    | some lt =>
      let k := teamOf s lt
      let s1 := modEpoch s p e (fun y => { y with bad := y.bad || reason != rsnTimeout })
      sendCheck s1 p x (memberAddr k.g k.leader) 0x45
        (checkPayload e x.attempt reason 0 0 0 tensor (s.fabric.addr.getD 0) block)

/-! ### Registers (R398) -/

/-- RED_EPOCH_STATE and RED_RETAIN. -/
def setRedRegs (s : State) (p : Nat) : State :=
  let x := getPart s p
  let lead := match x.epochs.head? with
    | some o => (match leadTensor o with | some t => !t.backup && (teamOf s t).leader == t.me | none => false)
    | none => false
  let s1 := setF s RED_EPOCH_STATE_OLDEST_LO p (((x.epochs.head?).map (·.epoch)).getD 0 % 2 ^ 32)
  let s2 := setF s1 RED_EPOCH_STATE_OPEN p (min 3 x.epochs.length)
  let s3 := setF s2 RED_EPOCH_STATE_ATTEMPT p (((x.epochs.head?).map (·.attempt)).getD 0)
  let s4 := setF s3 RED_EPOCH_STATE_LEADER p (b2n lead)
  setF s4 RED_RETAIN_USED p (min (x.epochs.foldl (fun n y => n + y.used) 0) (2 ^ 40 - 1))

/-! ### Geometry of a tensor -/

def RedTensor.blocks (t : RedTensor) : Nat := ceilDiv t.desc.count 16

/-- The local coordinates of element `i` of the tensor on member `j`. -/
def elemOn (s : State) (t : RedTensor) (j i : Nat) : Option (List Nat) :=
  let c := coordsOf t.desc.ext i
  if t.desc.shardGroup = 0xFFFF then some c
  else match findGroup s t.desc.shardGroup with
    | some g => heldBy g t.desc j c
    | none => none

/-- Member `j` holds block `b` of RESULT. -/
def holdsBlock (s : State) (t : RedTensor) (j b : Nat) : Bool :=
  (List.range' (16 * b) (min 16 (t.desc.count - 16 * b))).all (fun i => (elemOn s t j i).isSome)

def myBlocks (s : State) (t : RedTensor) : List Nat := (List.range t.blocks).filter (holdsBlock s t t.me)

def expOf (t : RedTensor) (pass : Nat) : Nat := min 254 (t.exp0 + 4 * pass)

/-- A block that R390 reduces a second time. -/
def sampled (k : Team) (e b : Nat) : Bool := k.g.sampleN != 0 && (b + e) % k.g.sampleN == 0

/-! ### Levels 1 and 2 (R374) -/

/-- The sources of a retained contribution as they read now, and their poison. -/
def retainedVals (s : State) (r : Retained) : List (List W32) × Bool :=
  if r.inPlace then
    (r.keys.map (fun l => l.map (fun k => match k with
      | some a => BitVec.ofNat 32 (readNat s a 4)
      | none => pzero32)),
     r.keys.any (fun l => l.any (fun k => match k with | some a => rangePoison s a 4 | none => false)))
  else (r.vals, r.poison)

def retainedOf (x : EpochSt) (t b : Nat) : List Retained :=
  sortBy (fun u v => decide (u.frond ≤ v.frond)) (x.retained.filter (fun r => r.tensor == t && r.block == b))

/-- The member's level-2 result of a block in a pass. -/
def levelTwo (s : State) (x : EpochSt) (t : RedTensor) (b pass : Nat) : Option Bfx :=
  bfxFold true ((retainedOf x t.tensor b).filterMap (fun r =>
    let (vs, bad) := retainedVals s r
    bfxFold true (vs.map (fun v => bfxConvert v (expOf t pass) pass b bad))))

/-! ### Levels 3 and 4 -/

def boxOf (x : EpochSt) (t b pass : Nat) (sample chain : Bool) : List Contrib :=
  x.recvd.filter (fun c => c.tensor == t && c.pass == pass && c.bfx.block == b && c.sample == sample && c.chain == chain)

/-- The colony's sum of a block, once every member's result is there. -/
def colonySum (x : EpochSt) (k : Team) (t b pass : Nat) (sample : Bool) : Option Bfx :=
  let box := boxOf x t b pass sample false
  let l := (inColony k.g k.sub k.col).map (fun j => (box.find? (fun c => c.member == j)).map (·.bfx))
  if l.all (·.isSome) then bfxPairwise false (l.filterMap id) else none

/-- A result is published (R375, R376). -/
def publish (s : State) (p : Nat) (x : EpochSt) (t : RedTensor) (b : Bfx) : State :=
  let k := teamOf s t
  let max_ := ((partCfg s p).map (·.rescaleMax)).getD 1
  let last := decide (b.pass ≥ max_) || decide (expOf t (b.pass + 1) ≤ expOf t b.pass)
  let r := if b.flag bfRescale && last then b.setFlag bfSat else b
  let send (s : State) (dst : Nat × Nat) : State := sendBlock s p x t dst 0x41 r
  let withBackup (s : State) (j : Nat) : State :=
    let s1 := send s (memberAddr k.g j)
    match memberBackup k.g j with | some q => send s1 q | none => s1
  if r.flag bfRescale || !t.scatter then
    let s1 := (k.cols.filter (· != k.col)).foldl (fun s c => send s (memberAddr k.g (rootIn k.g k.sub c b.block))) s
    (inColony k.g k.sub k.col).foldl withBackup s1
  else
    match k.sub.find? (fun j => holdsBlock s t j b.block) with
    | some j => withBackup s j
    | none => s

/-- A block root has the sum of a block in one of its adder contexts (R390). -/
def blockDone (s : State) (p e : Nat) (t : RedTensor) (b : Bfx) (sample : Bool) : State :=
  match epochOf s p e with
  | none => s
  | some x =>
    if !sampled (teamOf s t) e b.block then publish s p x t b
    else
      let mine : Contrib := ⟨t.tensor, b.pass, t.me, b, false, sample, true⟩
      match x.finals.find? (fun c => c.tensor == t.tensor && c.pass == b.pass && c.bfx.block == b.block && c.sample != sample) with
      | none => modEpoch s p e (fun y => { y with finals := y.finals ++ [mine] })
      | some other =>
        if bfxSame other.bfx b then publish s p x t (if sample then other.bfx else b)
        else redFail (bump s RED_CHECK_EVENTS_SAMPLE_FAIL p 1) p e rsnSample t.tensor b.block

/-- The chain of a block moves on where both the running sum and the colony's sum are there. -/
def chainOn (s : State) (p e tn b pass : Nat) (sample : Bool) : State :=
  match epochOf s p e with
  | none => s
  | some x =>
    match x.tensorOf tn with
    | none => s
    | some t =>
      let k := teamOf s t
      let order := k.chain b
      let pos := (order.findIdx? (· == k.col)).getD 0
      let sum := match colonySum x k tn b pass sample with
        | none => none
        | some c =>
          if pos = 0 then some c
          else ((boxOf x tn b pass sample true).head?).map (fun (r : Contrib) => bfxAdd false r.bfx c)
      match sum with
      | none => s
      | some r =>
        let r1 := if sample then r.setFlag bfSample else r
        if pos + 1 = order.length then blockDone s p e t r1 sample
        else
          let next := rootIn k.g k.sub (order.getD (pos + 1) 0) b
          sendBlock s p x t (memberAddr k.g next) 0x40 r1 (if sample then .otherSlot else .none)

/-- A level-2 result reaches the colony root (R386 to R388, R391). -/
def atRoot (s : State) (p e tn j : Nat) (b : Bfx) (backup sample : Bool) : State :=
  match epochOf s p e with
  | none => s
  | some x =>
    match x.tensorOf tn with
    | none => s
    | some t =>
      let k := teamOf s t
      match (boxOf x tn b.block b.pass sample false).find? (fun c => c.member == j) with
      | some old =>
        if backup then bump s RED_LATE_EVENTS_STALE p (b2n x.sentOk)
        else if !old.backup then redFail s p e rsnExp tn b.block
        else
          let s1 := modEpoch s p e (fun y => { y with
            recvd := y.recvd.map (fun c => if c = old then { c with backup := false } else c) })
          if x.sentOk then bump s1 RED_LATE_EVENTS_STALE p 1
          else if bfxSame old.bfx b then s1
          else redFail (bump s1 RED_CHECK_EVENTS_BACKUP_DIFF p 1) p e rsnBackup tn b.block
      | none =>
        let s1 := modEpoch s p e (fun y => { y with
          recvd := y.recvd ++ [⟨tn, b.pass, j, b, backup, sample, false⟩]
          backed := if backup && !y.backed.contains tn then y.backed ++ [tn] else y.backed })
        let s2 := if backup && !sample then bump s1 RED_LATE_EVENTS_BACKUP_TAKEN p 1 else s1
        let others := (inColony k.g k.sub k.col).filter (fun i =>
          i != t.me && !((boxOf x tn b.block b.pass sample false).any (fun c => c.member == i)))
        let s3 := modTensor s2 p e tn (fun y => { y with
          armed := if j = t.me ∧ sample = false then y.armed ++ others.map (fun i => ⟨i, b.block, b.pass, s.counter⟩)
            else if sample then y.armed
            else y.armed.filter (fun d => !(d.member == j && d.block == b.block && d.pass == b.pass)) })
        chainOn s3 p e tn b.block b.pass sample

/-- Where the sample of a level-2 result passes (R390): by the member after the root, or the one after that. -/
def sampleWay (k : Team) (me b : Nat) : Detour :=
  let l := inColony k.g k.sub k.col
  let r := b / 64 % max 1 l.length
  let v1 := l.getD ((r + 1) % max 1 l.length) 0
  let v2 := l.getD ((r + 2) % max 1 l.length) 0
  let v := if v1 = me then v2 else v1
  .member ((memberAddr k.g v).1 % 16)

/-- This member's level-2 result of a block is ready for a pass: it goes to the root, and a second time where R390 samples
the block. A backup answers what it has been asked for. -/
def startBlock (s : State) (p e tn b pass : Nat) : State :=
  match epochOf s p e with
  | none => s
  | some x =>
    match x.tensorOf tn with
    | none => s
    | some t =>
      if (retainedOf x tn b).length < t.contribs then s
      else
        match levelTwo s x t b pass with
        | none => s
        | some r =>
          let k := teamOf s t
          if t.backup then
            let mine := t.asks.filter (fun a => a.block == b && a.pass == pass)
            let s1 := modTensor s p e tn (fun y => { y with
              asks := y.asks.filter (fun a => !(a.block == b && a.pass == pass)) })
            mine.foldl (fun s a =>
              let s2 := sendBlock s p x t (a.dev, a.part) 0x40 (r.setFlag bfBackup)
              if sampled k e b then
                sendBlock s2 p x t (a.dev, a.part) 0x40 ((r.setFlag bfBackup).setFlag bfSample) .otherSlot
              else s2) s1
          else if t.started.contains (b, pass) then s
          else
            let s1 := modTensor s p e tn (fun y => { y with started := y.started ++ [(b, pass)] })
            let root := rootIn k.g k.sub k.col b
            if root = t.me then
              let s2 := atRoot s1 p e tn t.me r false false
              if sampled k e b then atRoot s2 p e tn t.me (r.setFlag bfSample) false true else s2
            else
              let s2 := sendBlock s1 p x t (memberAddr k.g root) 0x40 r
              if sampled k e b then
                sendBlock s2 p x t (memberAddr k.g root) 0x40 (r.setFlag bfSample) (sampleWay k t.me b)
              else s2

/-! ### The end of an epoch (R392 to R397) -/

/-- The tensor's G2 and own shard's G2, once final (R233, R234; log 33): the left fold over the subgroup's shards of a
REDUCE_SCATTER, the member's own value under ALLREDUCE. -/
def tensorG2 (s : State) (t : RedTensor) : Option (W64 × W64) :=
  let k := teamOf s t
  match tblFind t.norms t.me with
  | none => none
  | some own =>
    if !t.scatter then some (own, own)
    else if k.sub.all (fun j => (tblFind t.norms j).isSome) then
      let l := k.sub.filterMap (tblFind t.norms)
      some ((l.drop 1).foldl fp64AddRne (l.headD own), own)
    else none

/-- What an UPDATE needs of a tensor of an epoch, once its G2 is final. The shard index is the member index (R276). -/
def g2Rec (s : State) (x : EpochSt) (t : RedTensor) : Option G2Rec :=
  let sub := (teamOf s t).sub
  (tensorG2 s t).map (fun g =>
    ⟨x.epoch, t.tensor, g.1, g.2, if t.scatter then t.me else 0, if t.scatter then sub.length else 1, decide (x.attempt > 0), x.backed.contains t.tensor⟩)

/-- The tensor is complete on this member: its result blocks written and every RED_NORM there (R392). -/
def tensorDone (s : State) (t : RedTensor) : Bool :=
  (teamOf s t).sub.all (fun j => (tblFind t.norms j).isSome)

/-- CHECK_OK once R392's conditions hold. -/
def maybeOk (s : State) (p e : Nat) : State :=
  match epochOf s p e with
  | none => s
  | some x =>
    match leadTensor x, x.closed with
    | some lt, some n =>
      if x.sentOk || x.bad || x.tensors.all (·.backup) || !(x.tensors.all (tensorDone s)) then s
      else
        let k := teamOf s lt
        let s1 := modEpoch s p e (fun y => { y with sentOk := true })
        sendCheck s1 p x (memberAddr k.g k.leader) 0x44
          (checkPayload e x.attempt 0 0 n (x.tensors.foldl (fun c t => c + t.written.length) 0) 0 0 0)
    | _, _ => s

/-- Every member and every backup of the leader's subgroup. -/
def roster (k : Team) : List (Nat × Nat) := k.sub.map (memberAddr k.g) ++ k.sub.filterMap (memberBackup k.g)

/-- The leader answers the first failure of the attempt (R393, R395). -/
def leaderRetract (s : State) (p e reason tensor origin block : Nat) : State :=
  match epochOf s p e with
  | none => s
  | some x =>
    match leadTensor x with
    | none => s
    | some lt =>
      if x.answered then s
      else
        let k := teamOf s lt
        let fatal := decide (x.attempt + 1 > ((partCfg s p).map (·.retractLimit)).getD 3)
        let s1 := modEpoch s p e (fun y => { y with answered := true })
        (roster k).foldl (fun s d => sendCheck s p x d 0x47
          (checkPayload e (x.attempt + 1) reason (b2n fatal) 0 0 tensor origin block)) s1

/-- The leader holds a CHECK_OK (R393). TENSORS must agree on every member, and BLOCKS where every member holds the same shards
(log 31). -/
def leaderOk (s : State) (p e j tensors blocks : Nat) : State :=
  match epochOf s p e with
  | none => s
  | some x0 =>
    match leadTensor x0 with
    | none => s
    | some lt =>
      let k := teamOf s lt
      if x0.answered || lt.backup || k.leader != lt.me then s
      else
        let oks := x0.oks.filter (fun o => o.1 != j) ++ [(j, tensors, blocks)]
        let s1 := modEpoch s p e (fun y => { y with oks := oks })
        if !(k.sub.all (fun i => oks.any (fun o => o.1 == i))) then s1
        else if oks.any (fun o => o.2.1 != tensors || (x0.tensors.all (fun t => !t.scatter) && o.2.2 != blocks)) then
          leaderRetract s1 p e rsnTotals 0 (s.fabric.addr.getD 0) 0
        else
          let s2 := modEpoch s1 p e (fun y => { y with answered := true })
          (roster k).foldl (fun s d => sendCheck s p x0 d 0x46 (checkPayload e x0.attempt 0 0 0 0 0 0 0)) s2

/-- The tensor that a reduction command or UPDATE names, and whether it has one. -/
def redTensorOf (s : State) (q : QueueId) (i : Issued) : Option Nat :=
  let e := entryBytes s q i.n
  if i.opcode = 0x38 ∨ i.opcode = 0x39 then some (p16 e 40) else if i.opcode = 0x30 then some (p16 e 32) else none

/-- The commands that wait for epoch `e` take their statuses and may complete (R397). -/
def releaseEpoch (s : State) (p e : Nat) (status : Option Nat) (retracted : Bool) (backed : List Nat) : State :=
  let outcome (q : QueueId) (i : Issued) : Nat :=
    match status with
    | some st => st
    | none =>
      if i.status = stPoison then stPoison
      else if retracted then stRetracted
      else if (redTensorOf s q i).any (fun t => backed.contains t) then stLocalDeadline
      else i.status
  (queuesOf s p).foldl (fun s q => modQ s q (fun x => { x with
    live := x.live.map (fun i => if i.waits = .epoch e then { i with status := outcome q i, waits := .done } else i) })) s

/-- The entries of UPDATEs that RETRACT has exposed again end with a failed epoch (R395): they go back among the issued
ones with its status. -/
def endAgain (s : State) (p e status : Nat) : State :=
  (queuesOf s p).foldl (fun s q => modQ s q (fun x => { x with
    live := x.live ++ (x.again.filter (fun i => decide (i.waits = .epoch e))).map (fun i =>
      { i with status := status, waits := .done })
    again := x.again.filter (fun i => !decide (i.waits = .epoch e)) })) s

/-- CONFIRM (R397): the epoch's norms stay for its UPDATEs, and its commands are released. -/
def confirmEpoch (s : State) (p e : Nat) : State :=
  match epochOf s p e with
  | none => s
  | some x =>
    let recs := x.tensors.filterMap (g2Rec s x)
    let s1 := releaseEpoch s p e none (decide (x.attempt > 0)) x.backed
    setRedRegs (modPart s1 p (fun y => { y with
      epochs := y.epochs.filter (fun z => z.epoch != e)
      lastConf := some (max e (y.lastConf.getD 0))
      g2s := y.g2s.filter (fun r => decide (r.epoch + 2 > e) || decide (y.stepFrom ≤ r.epoch)) ++ recs })) p

/-- The commands of epoch `e` all end at once with a status (R395). -/
def endEpochCommands (s : State) (p e status : Nat) : State :=
  (queuesOf s p).foldl (fun s q =>
    let x := getQ s q
    ((x.live ++ x.again).filter (fun i => decide (i.waits = .epoch e))).foldl
      (fun s i => finishEntry s q { i with status := status, waits := .done }) s) s

/-- An epoch fails (R395): with LINK_DOWN its commands may complete, with CHECK_FAIL they end and the partition enters FAULTED
(R320). -/
def failEpoch (s : State) (p e status : Nat) : State :=
  let s1 := if status = stCheckFail then enterFaulted (endEpochCommands s p e status) p stCheckFail
    else endAgain (releaseEpoch s p e (some status) false []) p e status
  setRedRegs (modPart s1 p (fun y => { y with epochs := y.epochs.filter (fun z => z.epoch != e) })) p

/-- Steps 1 and 2 of R394 for one tensor. -/
def RedTensor.restart (t : RedTensor) : RedTensor :=
  { t with passes := [], started := [], written := [], g2 := NormAcc.zero, norms := [], armed := [], asks := [] }

/-- Step 3 of R394: the UPDATEs of the epoch are abandoned and issue again; what they quantised contributes nothing (R70,
R157). -/
def abandonUpdates (s : State) (p e : Nat) : State :=
  let s1 := (queuesOf s p).foldl (fun s q => modQ s q (fun x =>
    let mine (i : Issued) : Bool := i.opcode == 0x30 && decide (i.waits = .epoch e)
    { x with live := x.live.filter (fun i => !mine i), again := x.again ++ x.live.filter mine })) s
  modPart s1 p (fun x =>
    let gone := (x.steps.filter (fun y => y.2.updated && y.2.epoch == e)).map (·.1)
    let slots := ((cfgOf s).tensors.filter (fun t => t.part == p && gone.contains t.tensor)).flatMap
      (fun t => [t.fwdSlot, t.bwdSlot])
    { x with
      steps := x.steps.filter (fun y => !gone.contains y.1)
      nextAmax := x.nextAmax.filter (fun y => !slots.contains y.1)
      nextOvf := x.nextOvf.filter (fun k => !slots.contains k)
      nextScales := x.nextScales.filter (fun y => !slots.contains y.1) })

/-- Once every result block is written, the shard's G2 goes to the other members (R385). -/
def maybeNorm (s : State) (p e tn : Nat) : State :=
  match epochOf s p e with
  | none => s
  | some x =>
    match x.tensorOf tn with
    | none => s
    | some t =>
      if (tblFind t.norms t.me).isSome || !((myBlocks s t).all (fun b => t.written.contains b)) then s
      else
        let v := t.g2.value
        let s1 := modTensor s p e tn (fun y => { y with norms := tblPut y.norms t.me (some v) })
        if t.backup then s1
        else
          let k := teamOf s t
          (k.sub.filter (· != t.me)).foldl (fun s j =>
            redSend s p (memberAddr k.g j) 9
              { mtype := 0x42, addr := redAddrField e tn 0 x.attempt false false
                payload := leBytes 8 e ++ leBytes 2 tn ++ leBytes 2 t.me ++
                  leBytes 1 x.attempt ++ leBytes 3 0 ++ leBytes 8 v.toNat }) s1

/-- RETRACT that is not fatal (R394). The time limit of R395 starts again only after a TIMEOUT (log 34). -/
def retractEpoch (s : State) (p e attempt : Nat) : State :=
  match epochOf s p e with
  | none => s
  | some x =>
    let s1 := bump s RED_CHECK_EVENTS_RETRACTS p 1
    let s2 := modEpoch s1 p e (fun y => { y with
      attempt := attempt, tensors := y.tensors.map RedTensor.restart, recvd := [], finals := [], oks := []
      bad := false, sentOk := false, answered := false, since := if y.asked then s.counter else y.since, asked := false
      backed := [] })
    let s3 := setRedRegs (abandonUpdates s2 p e) p
    x.tensors.foldl (fun s t =>
      maybeOk (maybeNorm ((List.range t.blocks).foldl (fun s b => startBlock s p e t.tensor b 0) s) p e t.tensor) p e) s3

/-! ### Results (R375, R376, R391) -/

/-- A result block's elements reach RESULT and G2 (R369, R232, R378). -/
def writeResult (s : State) (p e : Nat) (t : RedTensor) (b : Bfx) : State :=
  let n := min 16 (t.desc.count - 16 * b.block)
  let vals := ((b.m.take n).map (bfxValue b)).zipIdx
  let w := vals.foldl (fun w (v, i) =>
    match elemOn s t t.me (16 * b.block + i) with
    | some c => putWide w t.desc 0 c v (b.flag bfPoison)
    | none => w) ([] : WSet)
  let (s1, _) := writeSet s w
  let acc := (vals.map (·.1)).foldl NormAcc.add t.g2
  modTensor s1 p e t.tensor (fun y => { y with
    written := y.written ++ [b.block]
    g2 := { acc with nan := acc.nan || b.flag bfNan } })

/-- One result block at a recipient. `outside` says that it came from another colony. -/
def resultIn (s : State) (p e tn pass : Nat) (outside : Bool) (b : Bfx) : State :=
  match epochOf s p e with
  | none => s
  | some x =>
    match x.tensorOf tn with
    | none => s
    | some t =>
      let k := teamOf s t
      if b.pass ≠ pass ∨ b.exp ≠ expOf t b.pass ∨ b.block ≥ t.blocks then redFail s p e rsnExp tn b.block
      else if k.g.residue && residueBad b then
        redFail (bump s RED_CHECK_EVENTS_RESIDUE_FAIL p 1) p e rsnResidue tn b.block
      else
        let s1 := if outside && !t.backup && k.isRoot t.me b.block && (b.flag bfRescale || !t.scatter) then
            (inColony k.g k.sub k.col).foldl (fun s j =>
              let s' := if j = t.me then s else sendBlock s p x t (memberAddr k.g j) 0x41 b
              match memberBackup k.g j with | some q => sendBlock s' p x t q 0x41 b | none => s') s
          else s
        let final := !b.flag bfRescale || b.flag bfSat
        if final && b.count != k.sub.length then redFail s1 p e rsnCount tn b.block
        else
          let s2 := bump (bump s1 RED_BLOCK_EVENTS_RESCALE_BLOCKS p (b2n (b.flag bfRescale)))
            RED_BLOCK_EVENTS_NAN_BLOCKS p (b2n (b.flag bfNan))
          if !final then
            if tblGet 0 t.passes b.block = b.pass then
              startBlock (modTensor s2 p e tn (fun y => { y with passes := tblSet 0 y.passes b.block (b.pass + 1) }))
                p e tn b.block (b.pass + 1)
            else redFail s2 p e rsnExp tn b.block
          else if !holdsBlock s t t.me b.block then s2
          else if t.written.contains b.block then redFail s2 p e rsnExp tn b.block
          else
            let s3 := bump s2 RED_BLOCK_EVENTS_SAT_FINAL p (b2n (b.flag bfSat))
            maybeOk (maybeNorm (writeResult s3 p e t b) p e tn) p e

/-! ### Contributions received (R374, R386 to R391) -/

/-- One block of RED_BLOCKS at a member from `who`. -/
def blockIn (s : State) (p e tn pass : Nat) (who : Nat × Nat) (b : Bfx) : State :=
  match epochOf s p e with
  | none => s
  | some x =>
    match x.tensorOf tn with
    | none => s
    | some t =>
      let k := teamOf s t
      let sample := b.flag bfSample
      if b.pass ≠ pass ∨ b.exp ≠ expOf t b.pass ∨ b.block ≥ t.blocks then redFail s p e rsnExp tn b.block
      else if k.g.residue && residueBad b then
        redFail (bump s RED_CHECK_EVENTS_RESIDUE_FAIL p 1) p e rsnResidue tn b.block
      else if t.backup || !k.isRoot t.me b.block then s
      else if b.flag bfBackup then
        let backs := (inColony k.g k.sub k.col).filter (fun j => decide (memberBackup k.g j = some who))
        let late := backs.filter (fun j =>
          !(boxOf x tn b.block b.pass sample false).any (fun c => c.member == j))
        match (late ++ backs).head? with
        | some j => atRoot s p e tn j b true sample
        | none => s
      else
        match (indexIn k.g who).filter (fun j => k.sub.contains j) with
        | none => s
        | some j =>
          if memberColony k.g j = k.col then atRoot s p e tn j b false sample
          else if !(boxOf x tn b.block b.pass sample true).isEmpty then redFail s p e rsnExp tn b.block
          else chainOn (modEpoch s p e (fun y => { y with
            recvd := y.recvd ++ [⟨tn, b.pass, j, b, false, sample, true⟩] })) p e tn b.block b.pass sample

/-! ### One message (R383) -/

/-- The whole blocks of a payload. -/
def payloadBlocks (l : List Byte) : List Bfx := (List.range (l.length / 74)).map (fun i => parseBfx (sliceB l (74 * i) 74))

/-- The open epoch whose low 32 bits a message states. -/
def epochByLow (s : State) (p low : Nat) : Option EpochSt := (getPart s p).epochs.find? (fun x => x.epoch % 2 ^ 32 == low)

/-- A reduction message at partition `p` of this device. -/
def redMessage (s : State) (p : Nat) (m : Msg) : State :=
  let low := bitsOf m.addr 0 32
  let tn := bitsOf m.addr 32 16
  let pass := bitsOf m.addr 48 3
  let pl := m.payload
  match epochByLow s p low with
  | none =>
    let past := match (getPart s p).lastConf with
      | some l => decide ((BitVec.ofNat 32 low - BitVec.ofNat 32 l : W32).toInt ≤ 0)
      | none => false
    if past then bump s RED_LATE_EVENTS_STALE p 1
    else modPart s p (fun x => { x with early := x.early ++ [m] })
  | some x =>
    let e := x.epoch
    if bitsOf m.addr 51 3 ≠ x.attempt then bump s RED_LATE_EVENTS_STALE p 1
    else if m.mtype ≤ 0x43 ∧ (x.tensorOf tn).isNone = true then modPart s p (fun y => { y with early := y.early ++ [m] })
    else
      match m.mtype with
      | 0x40 => (payloadBlocks pl).foldl (fun s b => blockIn s p e tn pass (m.src, m.part) b) s
      | 0x41 => (payloadBlocks pl).foldl (fun s b =>
          resultIn s p e tn pass (decide (m.src / 16 ≠ s.fabric.addr.getD 0 / 16)) b) s
      | 0x42 =>
        match (x.tensorOf tn).bind (fun t => (teamOf s t).sub.find? (· == leAt pl 10 2)) with
        | some j => maybeOk (modTensor s p e tn (fun y => { y with
            norms := tblPut y.norms j (some (BitVec.ofNat 64 (leAt pl 16 8))) })) p e
        | none => s
      | 0x43 =>
        (List.range (leAt pl 16 4)).foldl (fun s i =>
          let b := leAt pl 12 4 + i
          startBlock (modTensor s p e tn (fun y => { y with asks := y.asks ++ [⟨b, leAt pl 9 1, m.src, m.part⟩] }))
            p e tn b (leAt pl 9 1)) s
      | 0x44 =>
        match (leadTensor x).bind (fun t => indexIn (teamOf s t).g (m.src, m.part)) with
        | some j => leaderOk s p e j (leAt pl 12 4) (leAt pl 16 8)
        | none => s
      | 0x45 =>
        match leadTensor x with
        | some t =>
          if !t.backup && (teamOf s t).leader == t.me then
            leaderRetract s p e (leAt pl 9 1) (leAt pl 24 2) (leAt pl 26 2) (leAt pl 28 4)
          else s
        | none => s
      | 0x46 => confirmEpoch s p e
      | 0x47 =>
        if bitOf (leAt pl 10 1) 0 then failEpoch s p e (if leAt pl 9 1 = rsnTimeout then stLinkDown else stCheckFail)
        else retractEpoch s p e (leAt pl 8 1)
      | _ => s

/-- The messages between members on this device, in order, until none is left. -/
def redPump : Nat → State → State
  | 0, s => s
  | k + 1, s =>
    match s.fabric.selfq with
    | [] => s
    | (p, m) :: t => redPump k (redMessage { s with fabric := { s.fabric with selfq := t } } p m)

def redSettle (s : State) : State := redPump (2 ^ 64) s

/-! ### The commands (R379 to R382, R396) -/

/-- A command of a third unconfirmed epoch waits (R382). -/
def thirdEpoch (s : State) (p e : Nat) : Bool := (epochOf s p e).isNone && decide ((getPart s p).epochs.length ≥ 2)

/-- R379 and R382: what RESULT, AXIS, KIND and GROUP must be. -/
def resultOk (s : State) (t : RedTensor) (g : GroupCfg) : Bool :=
  let d := t.desc
  let dims := (List.range 6).filter (fun k => d.shardMode k != 0)
  let along := if d.shardGroup = 0xFFFF then [] else dims.filter (fun k => d.shardAxis k == t.axis)
  decide (d.fam = 6) && decide (t.axis < g.grid.length) && decide (t.contribs ≥ 1) && decide (t.contribs ≤ 288)
  && (d.shardGroup == 0xFFFF || d.shardGroup == t.group)
  && (if t.scatter then along.length == 1 else along.isEmpty)
  && (List.range t.blocks).all (fun b =>
      !t.scatter || (List.range g.members.length).any (fun j => holdsBlock s t j b))

def redTensorBody (c : Ctx) (s : State) (e : List Byte) : Verdict :=
  let ep := p64 e 32
  let tn := p16 e 40
  let gr := p16 e 42
  let h := p16 e 46
  if thirdEpoch s c.p ep && !notAbove s c.p ep then .wait
  else
    match validate s c.p [{ h := h, write := true }] with
    | some (st, d) => .reject st d
    | none =>
      let ex := epochOf s c.p ep
      if notAbove s c.p ep || ex.any (fun x => x.closed.isSome || (x.tensorOf tn).isSome) then .reject stIllegal 0
      else if p8 e 45 > 1 then .reject stBadDesc 0
      else
        match findGroup s gr with
        | none => .reject stBadDesc 0
        | some g =>
          let who := (s.fabric.addr.getD 0, c.p)
          let role := match s.fabric.addr with
            | none => none
            | some _ => (match indexIn g who with
              | some i => some (i, false)
              | none => (primaryIn g who).map (fun i => (i, true)))
          match role with
          | none => .reject stBadDesc 0
          | some (i, backup) =>
            let tc := tensorCfg s c.p tn
            let t : RedTensor :=
              { tensor := tn, group := gr, axis := p8 e 44, scatter := p8 e 45 == 1, desc := readDesc s c.p h
                contribs := p16 e 48, me := i, backup := backup
                exp0 := agreedExp (tblFind (getPart s c.p).lastG2 tn) ((tc.map (·.redHeadroom)).getD 3)
                  ((tc.map (·.redInitLog2)).getD 0)
                passes := [], started := [], written := [], g2 := NormAcc.zero, norms := [], armed := [], asks := [] }
            if !resultOk s t g then .reject stBadDesc 0
            else
              let s1 := modEpoch (openEpoch s c.p ep) c.p ep (fun x => { x with tensors := x.tensors ++ [t] })
              let low := ep % 2 ^ 32
              let mine (m : Msg) : Bool := bitsOf m.addr 0 32 == low && (decide (m.mtype > 0x43) || bitsOf m.addr 32 16 == tn)
              let early := (getPart s1 c.p).early
              let s2 := modPart s1 c.p (fun x => { x with early := x.early.filter (fun m => !mine m) })
              let s3 := { s2 with fabric := { s2.fabric with
                selfq := s2.fabric.selfq ++ (early.filter mine).map (fun m => (c.p, m)) } }
              .effect (maybeNorm (setRedRegs s3 c.p) c.p ep tn) stOK 0 false (.epoch ep)

/-- A command's verdict is carried out, and then the messages between members on this device. -/
def runRed (q : QueueId) (n : W32) (op : Nat) (used : List (Nat × Nat)) (body : State → List Byte → Verdict) (s : State) :
    State :=
  redSettle (runEntry q n (· == op) used body s)

def execRedTensor (q : QueueId) (n : W32) (s : State) : Host.Outcome State Fault Refusal :=
  .next (runRed q n 0x38 [(32, 18)] (redTensorBody (ctxOf s q n 0)) s)

/-- The blocks of a region's sources, as retained (R366, R380): by block, for each source 16 values and keys. -/
def contribBlocks (s : State) (c : Ctx) (t : RedTensor) (ds : List Desc) (inPlace : Bool) : List Retained :=
  let d0 := ds.headD t.desc
  let dl := d0.localize s c.p
  let els := (List.range dl.count).map (fun i =>
    let co := coordsOf dl.ext i
    (linearOf t.desc.ext (globalCoords s c.p d0 co), co))
  let blocks := sortBy (fun a b => decide (a ≤ b)) (dedupNat (els.map (fun x => x.1 / 16)))
  blocks.map (fun b =>
    let mine := els.filter (fun x => x.1 / 16 == b)
    let keys := ds.map (fun d => (List.range 16).map (fun k =>
      (mine.find? (fun x => x.1 % 16 == k)).map (fun x => d.elemKey c.f x.2)))
    { tensor := t.tensor, block := b, frond := c.f, inPlace := inPlace
      vals := keys.map (fun l => l.map (fun k => match k with
        | some a => BitVec.ofNat 32 (readNat s a 4)
        | none => pzero32))
      keys := keys
      poison := keys.any (fun l => l.any (fun k => match k with | some a => rangePoison s a 4 | none => false)) })

def redContribBody (c : Ctx) (s : State) (e : List Byte) : Verdict :=
  let ep := p64 e 32
  let tn := p16 e 40
  let hs := [42, 44, 46, 48].map (p16 e)
  let used := hs.filter (· != 0xFFFF)
  let inPlace := p8 e 50 == 1
  match epochOf s c.p ep with
  | none => if notAbove s c.p ep then .reject stIllegal 0 else .wait
  | some x =>
    if x.closed.isSome then .reject stIllegal 0
    else
      match x.tensorOf tn with
      | none => .wait
      | some t =>
        if hs.headD 0xFFFF = 0xFFFF then .reject stBadDesc 0
        else
          match validate s c.p (used.map (fun h => ({ h := h, fmtOk := (readDesc s c.p h).fam == 6 } : Use))) with
          | some (st, d) => .reject st d
          | none =>
            let ds := used.map (readDesc s c.p)
            let ls := ds.map (fun d => d.localize s c.p)
            let same := ds.all (fun d => decide (d.ext = t.desc.ext) && decide (d.shard = (ds.headD t.desc).shard))
            let bytes := if inPlace then 0 else 4 * ((ls.map (·.count)).foldl (· + ·) 0)
            let room := ((partCfg s c.p).map (·.retainGiB)).getD 8 * 2 ^ 30
            let inUse := (getPart s c.p).epochs.foldl (fun n y => n + y.used) 0
            if !same ∨ p8 e 50 > 1 then .reject stBadDesc 0
            else if bytes > room then .reject stNoResource 0
            else if inUse + bytes > room then .wait
            else
              let all := contribBlocks s c t ds inPlace
              let fresh := all.filter (fun r => !x.retained.any (fun y =>
                y.tensor == tn && y.block == r.block && y.frond == c.f))
              let bad := all.any (·.poison)
              let s1 := readUnits s (dedupNat (all.flatMap (fun r => r.keys.flatMap (fun l => l.flatMap (fun k =>
                match k with | some a => unitsOf a 4 | none => [])))))
              let s2 := bump s1 RED_LATE_EVENTS_DUP_CONTRIB c.p (all.length - fresh.length)
              let s3 := modEpoch s2 c.p ep (fun y => { y with retained := y.retained ++ fresh, used := y.used + bytes })
              let s4 := fresh.foldl (fun s r => startBlock s c.p ep tn r.block (tblGet 0 t.passes r.block)) (setRedRegs s3 c.p)
              .effect s4 (if bad then stPoison else stOK) 0 bad (.epoch ep)

def execRedContrib (q : QueueId) (n : W32) (s : State) : Host.Outcome State Fault Refusal :=
  .next (runRed q n 0x39 [(32, 19)] (redContribBody (ctxOf s q n 0)) s)

def redCloseBody (c : Ctx) (s : State) (e : List Byte) : Verdict :=
  let ep := p64 e 32
  let n := p16 e 40
  if notAbove s c.p ep || (epochOf s c.p ep).any (fun x => x.closed.isSome) then .reject stIllegal 0
  else if thirdEpoch s c.p ep then .wait
  else if n = 0 ∨ n > 4096 then .reject stBadDesc 0
  else
    let s1 := modEpoch (openEpoch s c.p ep) c.p ep (fun x => { x with closed := some n, since := s.counter })
    .effect (maybeOk (setRedRegs s1 c.p) c.p ep) stOK 0 false (.epoch ep)

def execRedClose (q : QueueId) (n : W32) (s : State) : Host.Outcome State Fault Refusal :=
  .next (runRed q n 0x3A [(32, 10)] (redCloseBody (ctxOf s q n 0)) s)

/-! ### Timed events (R386, R387, R395) -/

/-- RED_DEADLINE: every deadline of member `j` for a tensor that has run out by `now`. -/
def redDeadline (p e tn j now : Nat) (s0 : State) : State :=
  let s := advance s0 now
  match (epochOf s p e).bind (fun x => (x.tensorOf tn).map (fun t => (x, t))) with
  | none => s
  | some (x, t) =>
    let k := teamOf s t
    let due := t.armed.filter (fun d => d.member == j && decide (s.counter - d.since ≥ k.g.deadline))
    let s1 := bump s RED_LATE_EVENTS_DEADLINES p due.length
    let s2 := modTensor s1 p e tn (fun y => { y with armed := y.armed.filter (fun d => !due.contains d) })
    match memberBackup k.g j with
    | none => s2
    | some q => due.foldl (fun s d => redSend s p q 9
        { mtype := 0x43, addr := redAddrField e tn d.pass x.attempt false true
          payload := leBytes 8 e ++ leBytes 1 x.attempt ++ leBytes 1 d.pass ++ leBytes 2 tn ++ leBytes 4 d.block ++
            leBytes 4 1 ++ leBytes 2 (memberAddr k.g j).1 ++ leBytes 10 0 }) s2

def execRedDeadline (p e t member now : Nat) (s : State) : Host.Outcome State Fault Refusal :=
  .next (redSettle (redDeadline p e t member now s))

def giveupOver (s : State) (p since : Nat) : Bool := elapsed s since (((partCfg s p).map (·.redGiveup)).getD 100) 10

/-- RED_GIVEUP (R395). -/
def redGiveup (p e now : Nat) (s0 : State) : State :=
  let s := advance s0 now
  match epochOf s p e with
  | some x =>
    if x.closed.isSome && !x.asked && giveupOver s p x.since then
      redFail (modEpoch s p e (fun y => { y with asked := true, since := s.counter })) p e rsnTimeout 0 0
    else s
  | none => s

def execRedGiveup (p e now : Nat) (s : State) : Host.Outcome State Fault Refusal := .next (redSettle (redGiveup p e now s))

/-- EPOCH_LOCAL_FAIL (R395): a local failure after a timeout ends with LINK_DOWN (log 34). -/
def epochLocalFail (p e now : Nat) (s0 : State) : State :=
  let s := advance s0 now
  match epochOf s p e with
  | some x => if x.asked && giveupOver s p x.since then failEpoch s p e stLinkDown else s
  | none => s

def execEpochLocalFail (p e now : Nat) (s : State) : Host.Outcome State Fault Refusal :=
  .next (redSettle (epochLocalFail p e now s))

end Sys2Proof.Machine
end

