-- ==== Sys2Proof/Machine/Route.lean ====
section
/-! DEFINITION. Addresses and routing (R347 to R354), the messages that leave this device, and how a message row takes its
message. A message that this device sends waits until a flit time gives it its route. -/

namespace Sys2Proof.Machine

/-- P32 to P35 of a device whose HOST_MODE is STIPE run the host port (R350). -/
def hostPort (s : State) (p : Nat) : Bool := isStipe s && decide (32 ≤ p)

/-- The port of member `i` that reaches member `j` (R349). -/
def meshPort (i j : Nat) : Nat := (j + 15 - i) % 16

/-- Types 0x10 to 0x13 are link-local (R454). -/
def linkLocal (m : Msg) : Bool := decide (0x10 ≤ m.mtype) && decide (m.mtype ≤ 0x13)

def isMcast (m : Msg) : Bool := bitOf m.flags 0
def isHostMsg (m : Msg) : Bool := bitOf m.flags 2

/-- A port that is UP and carries more than link-local messages (R455, R459). -/
def portOk (s : State) (p : Nat) : Bool :=
  decide (p < 36) && !hostPort s p && decide ((getPort s p).state = .up) && (getPort s p).usable

/-- Responses (R346). -/
def isResponse (m : Msg) : Bool := [0x02, 0x04, 0x07, 0x0B].contains m.mtype

/-- R28: what a partition of this device sends uses only the ports that the partition lists; transit traffic uses any port, and
so do responses, which serve another device's request (log 106). -/
def portListed (s : State) (p : Nat) (m : Msg) : Bool :=
  decide (8 ≤ m.part) || s.fabric.addr != some m.src || isResponse m
  || (partCfg s m.part).elim false (fun c => bitOf c.ports p)

/-- A port that may carry a message: a partner with HBM_FREE = 0 takes only what is addressed to it (R454). -/
def carries (s : State) (p : Nat) (m : Msg) : Bool :=
  portOk s p && ((getPort s p).hbmFree || (getPort s p).partnerAddr == some m.dst) && portListed s p m

/-- A route slot of FAB_ROUTE (R364). -/
structure Slot where
  member : Nat
  port   : Nat
  up     : Bool
  pin    : Bool
  valid  : Bool
  deriving DecidableEq, Repr

def slotOf (v : Nat) : Slot := ⟨bitsOf v 0 4, bitsOf v 4 6, bitOf v 13, bitOf v 14, bitOf v 15⟩
def Slot.word (x : Slot) : Nat :=
  x.member + x.port * 2 ^ 4 + b2n x.up * 2 ^ 13 + b2n x.pin * 2 ^ 14 + b2n x.valid * 2 ^ 15

def routeOff (c : Nat) : Nat := FAB_ROUTE_SLOT0.off + 8 * c
def routeSlots (s : State) (c : Nat) : List Slot :=
  (List.range 4).map (fun k => slotOf (bitsOf (getReg s (routeOff c)).toNat (16 * k) 16))

/-- The port by which a member takes a slot: its own global port, or the mesh port to the slot's member. -/
def slotPort (own : Nat) (x : Slot) : Nat := if x.member = own then x.port else meshPort own x.member

/-- The slots of R351 towards colony `c`. -/
def liveSlots (s : State) (own c : Nat) (m : Msg) : List Slot :=
  (routeSlots s c).filter (fun x => x.valid && x.up && carries s (slotPort own x) m)

/-- Flits queued at a port on a VC (R353). -/
def queuedFlits (s : State) (p vc : Nat) : Nat :=
  let x := getPort s p
  let waiting := (x.txq.filter (fun m => m.vc == vc)).foldl (fun n m => n + 24 + m.msg.payload.length) 0
  let begun := (List.range 3).foldl (fun n hc => n + (tblGet [] x.txBytes (vc * 3 + hc)).length) 0
  ceilDiv (waiting + begun) 244

/-- R352: the messages that take fixed routes. -/
def fixedRoute (s : State) (vc : Nat) (m : Msg) : Bool :=
  decide (vc < 12) || vc == 15 || isHostMsg m || m.mtype == 0x08 || !((cfgOf s).vcMap.adaptive.getD (vc - 12) true)

/-- R352, R353: the slot that a message takes. -/
def pickSlot (s : State) (own vc : Nat) (m : Msg) : List Slot → Option Slot
  | [] => none
  | a :: t =>
    if fixedRoute s vc m then some a
    else some (t.foldl (fun b x =>
      if queuedFlits s (slotPort own x) vc < queuedFlits s (slotPort own b) vc then x else b) a)

/-- Where a message goes next: a port and the hop class it travels with, by a detour or not; or nowhere. -/
inductive Hop where
  | via (port hc : Nat) (detour : Bool)
  | stuck
  deriving DecidableEq, Repr

/-- R354: the lowest-numbered member that a mesh port reaches. Which links of another member work is known of its global
links alone, from gossip (log 45). -/
def detourHop (s : State) (own hc : Nat) (msg : Msg) (avoid : Nat) : Hop :=
  if hc ≥ 2 then .stuck
  else match (List.range 16).find? (fun m => m != own && m != avoid && carries s (meshPort own m) msg) with
    | some m => .via (meshPort own m) (hc + 1) true
    | none => .stuck

/-- R351. A hop class never exceeds 2 (R342), so a message of class 2 takes no global link: it has no route (log 44). -/
def nextHop (s : State) (vc hc : Nat) (m : Msg) : Hop :=
  match s.fabric.addr with
  | none => .stuck
  | some a =>
    let own := a % 16
    let dc := m.dst / 16
    let tc := if bitOf m.flags 1 && hc == 0 then m.via else dc
    if tc = a / 16 ∧ dc = a / 16 then
      let p := meshPort own (m.dst % 16)
      if carries s p m then .via p hc false else detourHop s own hc m (m.dst % 16)
    else if 2 ≤ hc then .stuck
    else
      let c := if tc = a / 16 then dc else tc
      match pickSlot s own vc m (liveSlots s own c m) with
      | some x => .via (slotPort own x) hc false
      | none =>
        match (routeSlots s c).find? (fun x => x.valid && x.up && x.member != own) with
        | some x => detourHop s own hc m x.member
        | none => .stuck

/-- A destination that the route table reaches without a detour (R424). -/
def reachable (s : State) (dst : Nat) : Bool :=
  s.fabric.addr == some dst ||
  (match nextHop s 11 0 { dst := dst } with | .via _ _ d => !d | .stuck => false)

/-! ### Messages that leave -/

def queueOn (s : State) (p : Nat) (m : OutMsg) : State := modPort s p (fun x => { x with txq := x.txq ++ [m] })

/-- A message takes its hop, or is discarded and counted (R347, R354). -/
def takeHop (s : State) (vc : Nat) (m : Msg) : Hop → State
  | .via p hc d => bump (queueOn s p ⟨vc, hc, m, .none⟩) FAB_MSG_EVENTS_DETOURS 0 (b2n d)
  | .stuck => bump s FAB_MSG_EVENTS_UNROUTABLE 0 1

/-- R353: the source decides once whether its message goes by way of a colony that it draws. -/
def decideVia (s : State) (m : OutMsg) : State × Msg :=
  match s.fabric.addr, nextHop s m.vc 0 m.msg with
  | some a, .via p _ _ =>
    let cs := (List.range 256).filter (fun c => c != a / 16 && c != m.msg.dst / 16)
    let v := cs.getD (Config.viaDraw s.free % 254) 0
    let s1 := { s with free := s.free + 1 }
    match pickSlot s (a % 16) m.vc m.msg (liveSlots s (a % 16) v m.msg) with
    | some x =>
      if queuedFlits s p m.vc > queuedFlits s (slotPort (a % 16) x) m.vc + (cfgOf s).routing.nonminBias then
        (s1, { m.msg with flags := putBits m.msg.flags 1 1 1, via := v })
      else (s1, m.msg)
    | none => (s1, m.msg)
  | _, _ => (s, m.msg)

/-- The ports of a multicast group's entry (R358). -/
def mcastEntry (s : State) (g : Nat) : Option McastCfg := (cfgOf s).mcast.find? (fun m => m.group == g)
def mcastPorts (s : State) (g : Nat) : List Nat :=
  match mcastEntry s g with | some m => (List.range 36).filter (bitOf m.ports) | none => []

/-- The ports on which this device sends a multicast message of its own (R28, R358). -/
def rootPorts (s : State) (m : Msg) : List Nat := (mcastPorts s m.dst).filter (fun p => portListed s p m)

/-- A multicast message goes out on every port of its group's entry once each of them has a credit. -/
def mcastReady (s : State) (m : OutMsg) : Bool :=
  (rootPorts s m.msg).all (fun p => decide (0 < tblGet 0 (getPort s p).credits (m.vc * 3 + m.hc)))

def sampleShared (s : State) (m : OutMsg) : State := bump s RED_LATE_EVENTS_SAMPLE_SHARED m.msg.part 1

/-- A sample hop (R390): by the named member, or on another slot than the primary's. -/
def sampleHop (s : State) (m : OutMsg) : State :=
  match s.fabric.addr, m.way with
  | some a, .member v =>
    let p := meshPort (a % 16) v
    if v != a % 16 && v != m.msg.dst % 16 && carries s p m.msg then queueOn s p { m with way := .none }
    else takeHop (sampleShared s m) m.vc m.msg (nextHop s m.vc m.hc m.msg)
  | some a, .otherSlot =>
    match (liveSlots s (a % 16) (m.msg.dst / 16) m.msg)[1]? with
    | some x => queueOn s (slotPort (a % 16) x) { m with way := .none }
    | none => takeHop (sampleShared s m) m.vc m.msg (nextHop s m.vc m.hc m.msg)
  | _, _ => takeHop s m.vc m.msg (nextHop s m.vc m.hc m.msg)

/-- One waiting message takes its route, or waits on: for its own row here, or for a credit of its tree. -/
def routeOne (s : State) (m : OutMsg) : State :=
  let keep : State := { s with fabric := { s.fabric with outq := s.fabric.outq ++ [m] } }
  if isMcast m.msg then
    if mcastReady s m then (rootPorts s m.msg).foldl (fun s p => queueOn s p m) s else keep
  else if s.fabric.addr = some m.msg.dst then keep
  else if m.way ≠ .none then sampleHop s m
  else if fixedRoute s m.vc m.msg then takeHop s m.vc m.msg (nextHop s m.vc m.hc m.msg)
  else
    let (s1, m1) := decideVia s m
    takeHop s1 m.vc m1 (nextHop s1 m.vc m.hc m1)

def routeAll (s : State) : State :=
  s.fabric.outq.foldl routeOne { s with fabric := { s.fabric with outq := [] } }

/-! ### Messages that arrive -/

/-- R340, R346, R383, R454, R490: the channels of each type; a reserved type has none. -/
def vcAllowed (mtype vc : Nat) : Bool :=
  let grp := decide (vc < 8)
  match mtype with
  | 0x01 => grp || vc == 12 || vc == 14
  | 0x02 | 0x04 => grp || vc == 13
  | 0x03 => grp || vc == 12
  | 0x05 | 0x06 | 0x07 => vc == 11
  | 0x08 => vc == 14
  | 0x09 | 0x0A => vc == 15
  | 0x0B => vc == 13
  | 0x10 | 0x11 | 0x12 | 0x13 | 0x14 | 0x15 => vc == 8
  | 0x18 | 0x19 | 0x1A => vc == 10
  | 0x40 | 0x41 => grp
  | 0x42 | 0x43 | 0x44 | 0x45 | 0x46 | 0x47 => vc == 9
  | _ => false

/-- `n` bytes of a stream leave the receive buffer: the flits that this empties release their credits (R336). -/
def dropLens : List Nat → Nat → List Nat × Nat
  | [], _ => ([], 0)
  | a :: t, n => if a ≤ n then (let r := dropLens t (n - a); (r.1, r.2 + 1)) else ((a - n) :: t, 0)

/-- The bytes of a stream that the receive buffer holds: those of whole messages and of one not yet whole. -/
def heldLen (x : PortSt) (key : Nat) : Nat :=
  (x.inbox.filter (fun m => m.vc * 3 + m.hc == key)).foldl (fun n m => n + 24 + m.msg.payload.length)
    (tblGet [] x.partials key).length

/-- The flits all of whose bytes have left the receive buffer release their credits (R336). -/
def releaseCredits (x : PortSt) (key : Nat) : PortSt :=
  let lens := tblGet [] x.partLens key
  let r := dropLens lens (lens.foldl (· + ·) 0 - heldLen x key)
  { x with
    partLens := tblSet [] x.partLens key r.1
    released := tblModify 0 x.released key (· + r.2) }

/-- The message leaves the port's receive buffer, or the messages of this device that are addressed to itself. -/
def takeMsg (s : State) (a : Arrival) : State :=
  if s.fabric.addr = some a.msg.src ∧ isMcast a.msg = false then
    { s with fabric := { s.fabric with outq := s.fabric.outq.eraseP (fun m => m.vc == a.vc && m.msg == a.msg) } }
  else modPort s a.port (fun x => releaseCredits { x with
    inbox := x.inbox.eraseP (fun m => m.vc == a.vc && m.hc == a.hc && m.msg == a.msg) } (a.vc * 3 + a.hc))

/-- The hop class with which an arrived message goes on: a global link has been crossed (R342; log 44). -/
def arrivalClass (a : Arrival) : Nat := if 15 ≤ a.port then min 2 (a.hc + 1) else a.hc

/-- R352: the receiver of a fixed-route VC expects consecutive numbers. -/
def checkSeq (s : State) (a : Arrival) : State :=
  if a.vc < 12 ∨ a.vc = 15 then
    let key := (b2n (isMcast a.msg) * 4096 + a.msg.dst) * 65536 + a.msg.src * 16 + a.vc
    let gap := match tblFind s.fabric.seqIn key with
      | some e => decide (e ≠ a.msg.seqno)
      | none => false
    bump { s with fabric := { s.fabric with seqIn := tblPut s.fabric.seqIn key (some ((a.msg.seqno + 1) % 2 ^ 32)) } }
      FAB_PORT_STATUS_SEQ_GAP a.port (b2n gap)
  else s

/-- R347: forwarding, with the hop counted. -/
def forwardMsg (s : State) (a : Arrival) : State :=
  if a.msg.hops + 1 > 7 then bump s FAB_MSG_EVENTS_HOP_EXCEEDED 0 1
  else
    let m := { a.msg with hops := a.msg.hops + 1 }
    takeHop s a.vc m (nextHop s a.vc (arrivalClass a) m)

/-- A message row's event: its message is one of type `mtype`, leaves the receive buffer, and is discarded on a channel that
its type does not allow; a message for another device is forwarded; otherwise `body` delivers it. A port that is not fit for
more than link-local messages delivers no other. A fabric control message wakes the lichen core (R468). -/
def recv (mtype : Nat) (a : Arrival) (body : State → State) (s : State) : State :=
  if a.msg.mtype ≠ mtype then s
  else
    let s1 := takeMsg s a
    let own := decide (s.fabric.addr = some a.msg.src) && !isMcast a.msg
    let body (s : State) : State := body (if decide (0x10 ≤ mtype) && decide (mtype < 0x20) then wakeLichen s else s)
    if !vcAllowed mtype a.vc then bump s1 FAB_MSG_EVENTS_WRONG_VC 0 1
    else if linkLocal a.msg then body s1
    else if !own && !portOk s a.port then s1
    else if isMcast a.msg then body (checkSeq s1 a)
    else if s.fabric.addr ≠ some a.msg.dst then forwardMsg s1 a
    else body (checkSeq s1 a)

/-- The row FORWARD: any message for another device, and messages of reserved types, which are discarded. -/
def forwardRow (a : Arrival) (s : State) : State :=
  let s1 := takeMsg s a
  if !vcAllowed a.msg.mtype a.vc then bump s1 FAB_MSG_EVENTS_WRONG_VC 0 1
  else if linkLocal a.msg || isMcast a.msg || s.fabric.addr = some a.msg.dst then s
  else if !portOk s a.port then s1
  else forwardMsg s1 a

def execForward (a : Arrival) (s : State) : Host.Outcome State Fault Refusal := .next (forwardRow a s)

end Sys2Proof.Machine
end

