-- ==== Sys2Proof/Machine/Link.lean ====
section
/-! DEFINITION. The links: port states, flits, replay, credits and identity (R328 to R344, R453, R454), and the gossip and
late-interval bookkeeping that a change of a port starts (R461, R466). -/

namespace Sys2Proof.Machine

/-! ### Headers and messages as bytes (R332, R333, R345) -/

structure LinkHead where
  seq    : Nat
  ack    : Nat
  ackV   : Bool
  nak    : Bool
  kind   : Nat
  vc     : Nat
  hc     : Nat
  first  : Nat
  used   : Nat
  poison : Bool
  crVc   : Nat
  crHc   : Nat
  crCount : Nat
  crV    : Bool
  deriving DecidableEq, Repr

def parseHead (w : Nat) : LinkHead where
  seq := bitsOf w 0 12
  ack := bitsOf w 12 12
  ackV := bitOf w 24
  nak := bitOf w 25
  kind := bitsOf w 26 2
  vc := bitsOf w 28 4
  hc := bitsOf w 32 2
  first := bitsOf w 34 8
  used := bitsOf w 42 8
  poison := bitOf w 50
  crVc := bitsOf w 51 4
  crHc := bitsOf w 55 2
  crCount := bitsOf w 57 6
  crV := bitOf w 63

def LinkHead.word (h : LinkHead) : Nat :=
  h.seq + h.ack * 2 ^ 12 + b2n h.ackV * 2 ^ 24 + b2n h.nak * 2 ^ 25 + h.kind * 2 ^ 26 + h.vc * 2 ^ 28 + h.hc * 2 ^ 32 +
  h.first * 2 ^ 34 + h.used * 2 ^ 42 + b2n h.poison * 2 ^ 50 + h.crVc * 2 ^ 51 + h.crHc * 2 ^ 55 + h.crCount * 2 ^ 57 +
  b2n h.crV * 2 ^ 63

/-- A flit of a header and a body (R332). -/
def flitBytes (h : LinkHead) (body : List Byte) : List Byte :=
  let l := leBytes 8 h.word ++ sliceB body 0 244
  l ++ leBytes 4 (crc32c l)

def headerOfMsg (m : Msg) : List Byte :=
  leBytes 2 (m.dst % 4096 + m.hops * 4096) ++ leBytes 2 (m.src % 4096 + m.part * 4096) ++ leBytes 1 m.mtype ++
  leBytes 1 m.flags ++ leBytes 2 m.payload.length ++ leBytes 2 m.tag ++ leBytes 1 m.status ++ leBytes 1 m.via ++
  leBytes 4 m.seqno ++ leBytes 8 m.addr

def msgBytes (m : Msg) : List Byte := headerOfMsg m ++ m.payload

def parseMsg (b : List Byte) (poison : Bool) : Msg where
  dst := leAt b 0 2 % 4096
  hops := leAt b 0 2 / 4096
  src := leAt b 2 2 % 4096
  part := leAt b 2 2 / 4096
  mtype := leAt b 4 1
  flags := leAt b 5 1
  tag := leAt b 8 2
  status := leAt b 10 1
  via := leAt b 11 1
  seqno := leAt b 12 4
  addr := leAt b 16 8
  payload := sliceB b 24 (leAt b 6 2)
  poison := poison

/-! ### Port states (R330, R331, R453) -/

def portCode : PortState → Nat
  | .down => 0
  | .train => 1
  | .ident => 2
  | .up => 3
  | .failed => 4

def setPortState (s : State) (p : Nat) (st : PortState) : State :=
  setF (modPort s p (fun x => { x with state := st })) FAB_PORT_STATUS_STATE p (portCode st)

def creditsOf (s : State) (p : Nat) : List Nat :=
  match (cfgOf s).vcMap.byPort.find? (fun e => e.1 == p) with
  | some e => e.2
  | none => (cfgOf s).vcMap.credits

/-- What a link holds besides its identity when it starts again: nothing (R331, R453). -/
def PortSt.restarted (x : PortSt) : PortSt :=
  { PortSt.down with
    state := x.state
    fails := x.fails
    inbox := x.inbox
    txq := x.txq
    wrr := x.wrr
    recent := x.recent }

def enterTrain (s : State) (p : Nat) : State := setPortState (modPort s p PortSt.restarted) p .train

/-- Entry into IDENT (R453): sequence numbers start at 0, and the port takes its credit allocations (R441). -/
def enterIdent (s : State) (p : Nat) : State :=
  setPortState (modPort s p (fun x => { x.restarted with since := s.counter, alloc := creditsOf s p })) p .ident

/-- A failed training attempt: another, or FAILED after TRAIN_LIMIT of them (R330). -/
def trainFailed (s : State) (p : Nat) : State :=
  let n := (getPort s p).fails + 1
  let s1 := modPort (enterTrain s p) p (fun x => { x with fails := n })
  if n ≥ (cfgOf s).routing.trainLimit then setPortState s1 p .failed else s1

/-- RUN and ROUND of FAB_GOSSIP (R467). -/
def setGossip (s : State) (g : GossipSt) : State :=
  let s1 := { s with fabric := { s.fabric with gossip := g } }
  setF (setF s1 FAB_GOSSIP_RUN 0 g.run) FAB_GOSSIP_ROUND 0 g.round

/-- R461: a run that this device is to start. -/
def wantGossip (s : State) : State :=
  if getF s ANC_BOOT_STATUS_COLONY_OK = 1 then setGossip s { s.fabric.gossip with want := true } else s

/-- The counter's value at an event of R466. -/
def markEvent (s : State) (k : Nat) : State := { s with mgmt := { s.mgmt with marks := tblPut s.mgmt.marks k (some s.counter) } }

/-- Every route slot that uses the port is marked down (R331). -/
def downSlots (s : State) (p : Nat) : State :=
  match s.fabric.addr with
  | none => s
  | some a => (List.range 256).foldl (fun s c =>
      let l := routeSlots s c
      if l.any (fun x => x.valid && x.up && x.member == a % 16 && x.port == p) then
        setReg s (routeOff c) (BitVec.ofNat 64 ((l.zipIdx).foldl (fun v (x, k) =>
          v + (if x.member = a % 16 ∧ x.port = p then { x with up := false } else x).word * 2 ^ (16 * k)) 0))
      else s) s

/-- R331: a port leaves UP; causes 0 FEC lock, 1 lane fault, 2 replay limit, 3 RESET. -/
def leaveUp (s : State) (p cause : Nat) : State :=
  let partner := (getPort s p).partnerAddr.getD 0
  let s1 := downSlots (modPort s p PortSt.restarted) p
  let s2 := logEvent (raiseCause s1 9 p) 0x0301 4 1 p none (leBytes 1 cause ++ leBytes 2 partner)
  let s3 := { s2 with fabric := { s2.fabric with gossip := { s2.fabric.gossip with
    links := s2.fabric.gossip.links.map (fun l =>
      if some (l.1 * 16 + l.2.1) = s2.fabric.addr ∧ l.2.2.1 = p then (l.1, l.2.1, l.2.2.1, l.2.2.2.1, false) else l)
    ports := s2.fabric.gossip.ports.filter (· != p) } } }
  wantGossip (setReg s3 (FAB_PORT_ATTEST_STATE.at p) 0)

/-- UP to TRAIN (R330). -/
def upToTrain (s : State) (p cause : Nat) : State :=
  bump (enterTrain (leaveUp s p cause) p) FAB_PORT_REPLAY_RETRAINS p 1

/-- Entry into UP (R454, R455): the partner's credits, and ATTEST_REQ with a fresh nonce. -/
def enterUp (s : State) (p : Nat) : State :=
  let x := getPort s p
  let nonce := sliceB (Config.freshNonce s.free) 0 32
  let s1 := setPortState { s with free := s.free + 1 } p .up
  let credits := (x.partnerCredits.zipIdx).foldl (fun t (c, i) => tblSet 0 t i c) []
  let s2 := modPort s1 p (fun y => { y with
    fails := 0
    credits := credits
    nonce := nonce
    usable := false
    report := [] })
  let s3 := setF s2 FAB_PORT_ATTEST_STATE p 1
  let s4 := if p < 15 then markEvent s3 1 else s3
  wantGossip (sendOnPort s4 p 8 { mtype := 0x10, dst := x.partnerAddr.getD 0, payload := nonce })

/-- The IDENT body of this device on a port (R453). -/
def identBody (s : State) (p : Nat) (seen : Bool) : List Byte :=
  let flags := b2n seen + 2 * b2n (isStipe s) + 4 + 8 * b2n s.fabric.addr.isSome
  leBytes 1 1 ++ leBytes 1 flags ++ leBytes 2 0x0768 ++ leBytes 1 0xC0 ++ leBytes 1 p ++
  leBytes 2 (s.fabric.addr.getD 0) ++ leBytes 16 s.cfg.floor.serial ++
  (List.range 48).flatMap (fun i => leBytes 2 ((getPort s p).alloc.getD i 0)) ++ leBytes 1 1

/-- UP once a valid IDENT with SEEN has arrived and one has been sent (R454). -/
def maybeUp (s : State) (p : Nat) : State :=
  let x := getPort s p
  if x.state = .ident ∧ x.seenSeen = true ∧ x.seenTx = true then enterUp s p else s

/-- A valid IDENT is taken (R454). A link that joins two devices of one colony on a global port is held in IDENT (R350). -/
def takeIdent (s : State) (p : Nat) (b : List Byte) : State :=
  if leAt b 0 1 ≠ 1 ∨ leAt b 120 1 ≠ 1 ∨ (getPort s p).state ≠ .ident then s
  else
    let flags := leAt b 1 1
    let addr := leAt b 6 2 % 4096
    let known := bitOf flags 3
    let sameColony := decide (15 ≤ p) && known && (match s.fabric.addr with | some a => a / 16 == addr / 16 | none => false)
    let first := !(getPort s p).seenRx
    let s1 := modPort s p (fun x => { x with
      seenRx := true
      since := s.counter
      seenSeen := x.seenSeen || (bitOf flags 0 && !sameColony)
      partnerCredits := (List.range 48).map (fun i => leAt b (24 + 2 * i) 2)
      partnerAddr := if known then some addr else x.partnerAddr
      partnerStipe := bitOf flags 1
      hbmFree := bitOf flags 2 })
    let s2 := setF (setF (setF s1 FAB_PORT_STATUS_PARTNER p (if known then addr else 0)) FAB_PORT_STATUS_PARTNER_PORT p
      (leAt b 5 1 % 64)) FAB_PORT_ATTEST_HBM_FREE p (b2n (bitOf flags 2))
    if sameColony then
      (if first then logEvent s2 0x0302 4 2 p none (leBytes 2 addr ++ leBytes 1 0) else s2)
    else maybeUp s2 p

/-! ### Receiving flits (R335 to R339) -/

/-- Sequence number `a` is before `b`. -/
def seqBefore (a b : Nat) : Bool := let d := (b + 4096 - a) % 4096; decide (1 ≤ d) && decide (d ≤ 2047)

/-- A request for replay (R338). -/
def askReplay (x : PortSt) : PortSt := if x.nak then x else { x with nak := true, nakSend := true }

/-- Entry into REPLAY from a sequence number (R339); past REPLAY_LIMIT consecutive entries the port trains again. -/
def enterReplay (s : State) (p from_ : Nat) : State :=
  let x := getPort s p
  let n := x.replays + 1
  let s1 := bump (modPort s p (fun y => { y with resend := some from_, replays := n })) FAB_PORT_REPLAY_REPLAYS p 1
  if n > (cfgOf s).routing.replayLimit then (if x.state = .up then upToTrain s1 p 2 else enterTrain s1 p) else s1

/-- The ACK, NAK and credit fields of a flit that passed its CRC check (R335, R336, R339). -/
def takeFields (s : State) (p : Nat) (h : LinkHead) : State :=
  let x := getPort s p
  let kept := if h.ackV then x.replay.filter (fun f => seqBefore h.ack f.seq) else x.replay
  let progress := decide (kept.length < x.replay.length)
  let key := h.crVc * 3 + h.crHc
  let old := tblGet 0 x.granted key
  let more := if h.crV then (h.crCount + 64 - old % 64) % 64 else 0
  let resend := match x.resend with
    | some r => if kept.any (fun f => f.seq == r) then some r else (kept.head?).map (·.seq)
    | none => none
  let s1 := modPort s p (fun y => { y with
    replay := kept
    resend := resend
    replays := if progress then 0 else y.replays
    granted := tblSet 0 y.granted key (old + more)
    credits := tblModify 0 y.credits key (· + more) })
  if h.nak && h.ackV then
    let start := (h.ack + 1) % 4096
    if kept.any (fun f => f.seq == start) then
      match (getPort s1 p).resend with
      | none => enterReplay s1 p start
      | some r => if seqBefore start r then modPort s1 p (fun y => { y with resend := some start }) else s1
    else s1
  else s1

/-- The whole messages at the front of a stream go into the inbox (R335). A message is poisoned where a byte of its payload came
in a POISON flit (R333). -/
def cutMessages : Nat → PortSt → Nat → PortSt
  | 0, x, _ => x
  | k + 1, x, key =>
    let b := tblGet [] x.partials key
    let len := 24 + leAt b 6 2
    if b.length < 24 ∨ b.length < len then x
    else
      let marks := tblGet [] x.partialPoison key
      let m := parseMsg b (((marks.take len).drop 24).any id)
      cutMessages k { x with
        inbox := x.inbox ++ [⟨key / 3, key % 3, m, .none⟩]
        partials := tblSet [] x.partials key (b.drop len)
        partialPoison := tblSet [] x.partialPoison key (marks.drop len) } key

/-- An accepted DATA flit adds to its stream (R335). -/
def takeData (x : PortSt) (h : LinkHead) (body : List Byte) : PortSt :=
  let key := h.vc * 3 + h.hc
  cutMessages 16 { x with
    partials := tblSet [] x.partials key (tblGet [] x.partials key ++ body.take h.used)
    partialPoison := tblSet [] x.partialPoison key (tblGet [] x.partialPoison key ++ List.replicate h.used h.poison)
    partLens := tblSet [] x.partLens key (tblGet [] x.partLens key ++ [h.used]) } key

/-- R338: an arriving flit of one of the kinds `kinds`. A flit whose CRC fails has no header to tell its kind by. -/
def arrive (s : State) (p : Nat) (kinds : List Nat) (fl : FlitIn) : State :=
  let x := getPort s p
  if x.state ≠ .up ∧ x.state ≠ .ident then s
  else
    let s0 := bump (bump s FAB_PORT_ERR_FEC_CORR p fl.corrected) FAB_PORT_ERR_FEC_UNCORR p fl.lost
    let h := parseHead (leAt fl.bytes 0 8)
    let good := !fl.fecBad && decide (fl.bytes.length = 256)
      && decide (leAt fl.bytes 252 4 = crc32c (sliceB fl.bytes 0 252))
    if !good then modPort (bump s0 FAB_PORT_ERR_CRC_ERR p 1) p askReplay
    else if !kinds.contains h.kind then s
    else
      let s1 := takeFields s0 p h
      let y := getPort s1 p
      if y.state ≠ x.state then s1
      else if h.kind = 2 then
        if seqBefore ((y.expect + 4095) % 4096) h.seq then modPort s1 p askReplay else s1
      else if h.seq ≠ y.expect then
        if seqBefore h.seq y.expect then s1 else modPort s1 p askReplay
      else
        let s2 := modPort s1 p (fun z => { z with expect := (z.expect + 1) % 4096, nak := false })
        if h.kind = 0 then modPort s2 p (fun z => takeData z h (sliceB fl.bytes 8 244))
        else takeIdent s2 p (sliceB fl.bytes 8 244)

def execDataFlit (p : Nat) (fl : FlitIn) (s : State) : Host.Outcome State Fault Refusal := .next (arrive s p [0] fl)
def execControlFlit (p : Nat) (fl : FlitIn) (s : State) : Host.Outcome State Fault Refusal := .next (arrive s p [1] fl)
def execNullFlit (p : Nat) (fl : FlitIn) (s : State) : Host.Outcome State Fault Refusal := .next (arrive s p [2] fl)

/-- IDENT (R454): the arriving CONTROL flit whose body is an IDENT. -/
def execIdent (p : Nat) (fl : FlitIn) (s : State) : Host.Outcome State Fault Refusal :=
  .next (if leAt fl.bytes 8 1 = 1 then arrive s p [1] fl else s)

/-- REPLAY_TIMEOUT (R339). -/
def replayTimeout (p : Nat) (s : State) : State :=
  let x := getPort s p
  match x.replay, x.resend with
  | f :: _, none =>
    if x.state = .up ∨ x.state = .ident then enterReplay (bump s FAB_PORT_REPLAY_TIMEOUTS p 1) p f.seq else s
  | _, _ => s

def execReplayTimeout (p : Nat) (s : State) : Host.Outcome State Fault Refusal := .next (replayTimeout p s)

/-- IDENT_TIMEOUT (R454): 10 ms without a valid IDENT. -/
def identTimeout (p now : Nat) (s0 : State) : State :=
  let s := advance s0 now
  let x := getPort s p
  if x.state = .ident ∧ elapsed s x.since 10 1000 = true then trainFailed s p else s

def execIdentTimeout (p now : Nat) (s : State) : Host.Outcome State Fault Refusal := .next (identTimeout p now s)

def execTrainAttemptEnd (p : Nat) (ok : Bool) (s : State) : Host.Outcome State Fault Refusal :=
  .next (if (getPort s p).state ≠ .train then s else if ok then enterIdent s p else trainFailed s p)

/-- LINK_LOSS (R330): FEC lock or a lane is lost. -/
def execLinkLoss (p : Nat) (lane : Bool) (s : State) : Host.Outcome State Fault Refusal :=
  .next (if (getPort s p).state = .up then upToTrain s p (b2n lane) else s)

/-- A write of RESET in FAB_PORT_CTRL (R330): DOWN, then TRAIN. -/
def resetPort (p : Nat) (s : State) : State :=
  if p ≥ 36 ∨ hostPort s p = true then s
  else
    let s1 := if (getPort s p).state = .up then bump (leaveUp s p 3) FAB_PORT_REPLAY_RETRAINS p 1 else s
    modPort (enterTrain s1 p) p (fun x => { x with fails := 0 })

/-! ### The route table (R462) -/

/-- The links of this device's colony that gossip has reported UP: member, port, remote colony. -/
def upLinks (s : State) (col : Nat) : List (Nat × Nat × Nat) :=
  (s.fabric.gossip.links.filter (fun l => l.1 == col && l.2.2.2.2)).map (fun l => (l.2.1, l.2.2.1, l.2.2.2.1))

/-- The slots of a destination colony: those that the image pins, then direct links, or else links to a colony that reaches
it; the first four. -/
def slotsFor (s : State) (col c : Nat) : List Slot :=
  let ls := sortBy (fun (a b : Nat × Nat × Nat) => decide (a.1 * 64 + a.2.1 ≤ b.1 * 64 + b.2.1)) (upLinks s col)
  let pins := (sortBy (fun (a b : PinCfg) => decide (a.slot ≤ b.slot)) ((cfgOf s).routing.pins.filter (fun x => x.colony == c))).map
    (fun x => (⟨x.member, x.port, ls.any (fun l => l.1 == x.member && l.2.1 == x.port), true, true⟩ : Slot))
  let direct := ls.filter (fun l => l.2.2 == c)
  let far := sortBy (fun (a b : Nat × Nat × Nat) => decide (a.2.2 ≤ b.2.2))
    (ls.filter (fun l => bitOf (tblGet 0 s.fabric.gossip.sets l.2.2) c))
  let more := (if direct.isEmpty then far else direct).map (fun l => (⟨l.1, l.2.1, true, false, true⟩ : Slot))
  (pins ++ more.filter (fun x => !pins.any (fun y => y.member == x.member && y.port == x.port))).take 4

/-- The route table of R462 (R351). -/
def buildRoutes (s : State) : State :=
  match s.fabric.addr with
  | none => s
  | some a => (List.range 256).foldl (fun s c =>
      if c = a / 16 then s
      else setReg s (routeOff c) (BitVec.ofNat 64 (((slotsFor s (a / 16) c).zipIdx).foldl (fun v (x, k) =>
        v + x.word * 2 ^ (16 * k)) 0))) s

/-! ### Sending (R334, R337, R339, R343) -/

/-- A byte that waits to be sent: value, poison, first byte of a message. -/
abbrev TxByte := Byte × Bool × Bool

def txOf (m : Msg) : List TxByte :=
  ((msgBytes m).zipIdx).map (fun (b, i) => (b, m.poison && decide (24 ≤ i), i == 0))

/-- A message of a stream that may go out on the port as it stands. -/
def sendable (x : PortSt) (key : Nat) (m : OutMsg) : Bool :=
  m.vc * 3 + m.hc == key && (x.usable || linkLocal m.msg)

/-- A (VC, HC) with bytes to send and a credit. -/
def streamReady (x : PortSt) (key : Nat) : Bool :=
  decide (0 < tblGet 0 x.credits key) &&
  (!(tblGet [] x.txBytes key).isEmpty || x.txq.any (sendable x key))

/-- Up to 244 bytes of a stream, from the messages begun and those that wait. -/
def fillBody (x : PortSt) (key : Nat) : Nat → List TxByte → List OutMsg → List TxByte × List OutMsg
  | 0, acc, l => (acc, l)
  | k + 1, acc, l =>
    if acc.length ≥ 244 then (acc, l)
    else match l.find? (sendable x key) with
      | none => (acc, l)
      | some m => fillBody x key k (acc ++ txOf m.msg) (l.eraseP (sendable x key))

/-- Hop class 2 goes first (R343). -/
def readyKey (x : PortSt) (vc : Nat) : Option Nat := [2, 1, 0].findSome? (fun hc =>
  if streamReady x (vc * 3 + hc) then some (vc * 3 + hc) else none)

/-- The choice of R343: a stream and the round robin's next state, and what the last-1,024 count takes of it. -/
def chooseStream (s : State) (x : PortSt) : Option (Nat × (Nat × Nat) × Bool) :=
  let ctl := [8, 9, 10, 11].findSome? (readyKey x)
  let others := [0, 1, 2, 3, 4, 5, 6, 7, 12, 13, 14, 15].filter (fun v => (readyKey x v).isSome)
  let skip := decide (x.recent.countP id ≥ 64) && !others.isEmpty
  match ctl, skip with
  | some k, false => some (k, x.wrr, !others.isEmpty)
  | _, _ =>
    let (v, left) := x.wrr
    if others.contains v && left > 0 then (readyKey x v).map (fun k => (k, (v, left - 1), false))
    else
      let next := ((others.filter (fun u => decide (u > v))) ++ others).head?
      match next with
      | none => none
      | some u => (readyKey x u).map (fun k => (k, (u, (cfgOf s).vcMap.weights.getD u 4 - 1), false))

/-- The credit return of a flit: the pair with the most releases not yet stated, else the pairs in turn (R336). -/
def creditReturn (x : PortSt) : Nat :=
  let owed (k : Nat) : Nat := tblGet 0 x.released k - tblGet 0 x.reported k
  let best := (List.range 48).foldl (fun b k => if owed k > owed b then k else b) 0
  if owed best > 0 then best else (x.creditAt + 1) % 48

/-- The header fields that a flit carries at this moment. -/
def presentFields (x : PortSt) (h : LinkHead) : LinkHead :=
  let cr := creditReturn x
  { h with
    ack := (x.expect + 4095) % 4096
    ackV := true
    nak := x.nakSend
    crVc := cr / 3
    crHc := cr % 3
    crCount := tblGet 0 x.released cr % 64
    crV := true }

def blankHead : LinkHead := ⟨0, 0, false, false, 2, 0, 0, 0xFF, 0, false, 0, 0, 0, false⟩

/-- A flit goes out with the present fields. -/
def putFlit (x : PortSt) (h : LinkHead) (body : List Byte) : PortSt :=
  let cr := creditReturn x
  { x with
    lastSent := flitBytes (presentFields x h) body
    nakSend := false
    creditAt := cr
    reported := tblSet 0 x.reported cr (tblGet 0 x.released cr) }

/-- A new DATA or CONTROL flit is kept for replay (R337). -/
def putNew (x : PortSt) (h : LinkHead) (body : List Byte) : PortSt :=
  let h1 := { h with seq := x.seq }
  { putFlit x h1 body with
    seq := (x.seq + 1) % 4096
    replay := x.replay ++ [⟨x.seq, leBytes 8 h1.word ++ sliceB body 0 244⟩] }

/-- A NULL flit carries the last sequence number sent (R334). -/
def putNull (x : PortSt) : PortSt := putFlit x { blankHead with seq := (x.seq + 4095) % 4096 } []

/-- A DATA flit of a stream. -/
def putData (x : PortSt) (key : Nat) (wrr : Nat × Nat) (ctl : Bool) : PortSt :=
  let (bytes, q) := fillBody x key x.txq.length (tblGet [] x.txBytes key) x.txq
  let now := bytes.take 244
  let h : LinkHead := { blankHead with
    kind := 0
    vc := key / 3
    hc := key % 3
    first := (now.findIdx? (fun b => b.2.2)).getD 0xFF
    used := now.length
    poison := now.any (fun b => b.2.1) }
  putNew { x with
    txq := q
    txBytes := tblSet [] x.txBytes key (bytes.drop 244)
    credits := tblModify 0 x.credits key (· - 1)
    wrr := wrr
    recent := (ctl :: x.recent).take 1024 } h (now.map (·.1))

/-- The next flit of a replay; after the last one the transmitter sends new flits again (R339). -/
def putReplay (x : PortSt) (n : Nat) : PortSt :=
  match x.replay.find? (fun f => f.seq == n) with
  | none => putNull { x with resend := none }
  | some f =>
    let next := (n + 1) % 4096
    putFlit { x with resend := if x.replay.any (fun g => g.seq == next) then some next else none }
      (parseHead (leAt f.bytes 0 8)) (sliceB f.bytes 8 244)

/-- FLIT_TIME (R334, R343): waiting messages take their routes, and the port sends one flit. In IDENT every new flit is an
IDENT (R453). -/
def flitTime (p : Nat) (s0 : State) : State :=
  let s := routeAll s0
  let x := getPort s p
  if p ≥ 36 ∨ (x.state ≠ .up ∧ x.state ≠ .ident) then s
  else
    match x.resend with
    | some n => setPort s p (putReplay x n)
    | none =>
      if x.replay.length ≥ 1024 then setPort s p (putNull x)
      else if x.state = .ident then
        maybeUp (setPort s p { putNew x { blankHead with kind := 1, used := 121 } (identBody s p x.seenRx) with
          seenTx := x.seenTx || x.seenRx }) p
      else
        match chooseStream s x with
        | some (k, w, c) => bump (setPort s p (putData x k w c)) FAB_PORT_FLITS_DATA_TX p 1
        | none => setPort s p (putNull { x with recent := (false :: x.recent).take 1024 })

def execFlitTime (p : Nat) (s : State) : Host.Outcome State Fault Refusal := .next (flitTime p s)

end Sys2Proof.Machine
end

