-- ==== Sys2Proof/Machine/Secure.lean ====
section
/-! DEFINITION. Keys, events of the security block and the attestation report (R500 to R508, R517). -/

namespace Sys2Proof.Machine

/-- The device binding value (R501): the first 8 bytes of SHAKE256(SERIAL ‖ "PZG4-BIND"). -/
def bindValue (s : State) : List Byte :=
  Config.shake256 (leBytes 16 s.cfg.floor.serial ++
    [0x50#8, 0x5A#8, 0x47#8, 0x34#8, 0x2D#8, 0x42#8, 0x49#8, 0x4E#8, 0x44#8]) 8

/-- The 1,793-byte identity public key (R501). -/
def idKey (s : State) : List Byte := sliceB (Config.identityKey s.flash.enrol) 0 1793

/-- The key identifier (R501). -/
def keyIdent (s : State) : List Byte := sliceB (Config.shake256 (idKey s) 8) 0 8

/-- The SECURITY registers show flash and keys (R518). -/
def showSecurity (s : State) : State :=
  let s1 := setF (setF (setF s SEC_STATUS_OPENED 0 (b2n s.flash.opened)) SEC_STATUS_CERTIFIED 0 (b2n s.flash.certified))
    SEC_STATUS_OWNER_KEY 0 (b2n s.flash.ownerKey.isSome)
  let s2 := setF (setF s1 SEC_COUNTERS_IMAGE 0 s.flash.imageCtr) SEC_COUNTERS_FIRMWARE 0 s.flash.fwCtr
  let s3 := setF (setF s2 SEC_BIND_BIND_ID 0 (leAt (bindValue s) 0 8)) SEC_KEY_ID_KEY_ID 0 (leAt (keyIdent s) 0 8)
  setF s3 SEC_SEALED_SLOTS 0 s.flash.sealedAt.length

def pufFailed (s : State) : Bool := getF s SEC_STATUS_PUF_FAIL == 1

/-- R505, R517: a failed verification of an object: 0 firmware, 1 image, 2 floorplan, 3 certificate, 4 owner key. A token
has no OBJECT code (log 51). -/
def sigFail (s : State) (object : Nat) : State :=
  raiseCause (logEvent s 0x0703 7 2 0 none (leBytes 1 object)) 16 2

/-- A counter is raised to `v` where that is higher (R506): 0 IMAGE, 1 FIRMWARE. -/
def raiseCounter (s : State) (which v : Nat) : State :=
  let old := if which = 0 then s.flash.imageCtr else s.flash.fwCtr
  if v ≤ old then s
  else
    let s1 := logEvent s 0x0706 7 0 0 none (leBytes 1 which ++ leBytes 8 old ++ leBytes 8 v)
    if which = 0 then setF { s1 with flash := { s1.flash with imageCtr := v } } SEC_COUNTERS_IMAGE 0 v
    else setF { s1 with flash := { s1.flash with fwCtr := v } } SEC_COUNTERS_FIRMWARE 0 v

def runningSlot (s : State) : FwSlot := if s.mgmt.fwSlot = 0 then s.flash.slotA else s.flash.slotB

/-- FLAGS of a report (R507). -/
def reportFlags (s : State) : Nat :=
  b2n s.flash.opened + 2 * b2n s.flash.certified + 4 * b2n (decide (s.dev = .service)) + 8 * b2n (pufFailed s) +
  16 * b2n s.flash.ownerKey.isSome

/-- Bytes 0 to 3,455 of the report over a nonce (R507). -/
def reportBody (s : State) (nonce : List Byte) : List Byte :=
  let fw := runningSlot s
  let head := leBytes 4 0x41545347 ++ leBytes 2 1 ++ leBytes 2 (reportFlags s) ++ leBytes 4 4738 ++ leBytes 4 0 ++
    sliceB nonce 0 32 ++ leBytes 16 s.cfg.floor.serial ++ leBytes 8 (getReg s 0).toNat ++ sliceB (bindValue s) 0 8 ++
    leBytes 4 fw.version ++ leBytes 4 fw.sec ++ sliceB (fw.sum.getD (Config.firmwareDigest fw.version)) 0 32 ++
    sliceB s.cfg.committed.digest 0 32 ++ leBytes 4 s.flash.imageCtr ++ leBytes 4 s.flash.fwCtr ++
    leBytes 8 s.flash.fpCounter ++ leBytes 8 s.counter ++ leBytes 2 (s.fabric.addr.getD 0xFFFF) ++
    leBytes 2 (s.flash.boots % 65536)
  let cert := if s.flash.certified then s.flash.cert else []
  sliceB (sliceB (sliceB head 0 256 ++ idKey s) 0 2112 ++ sliceB cert 0 1282) 0 3456

/-- The 4,738 bytes of the report (R503, R507). -/
def attestReport (s : State) (nonce : List Byte) : List Byte :=
  let b := reportBody s nonce
  b ++ (if pufFailed s then List.replicate 1282 0#8
    else sliceB (Config.falconSign s.flash.enrol (Config.shake256 b 64)) 0 1282)

end Sys2Proof.Machine
end

