-- ==== Sys2Proof/Machine/Vector.lean ====
section
/-! DEFINITION. The commands of the vector engine (chapter 8 of the spec): LOAD_PROGRAM, VECTOR_RUN and its pinnule
instructions, FUSED_SOFTMAX and SAMPLE. -/

namespace Sys2Proof.Machine

/-! ### The program store (R192, R197) -/

/-- The program that entry `n` of the frond's queue names by a handle: the latest binding before it. -/
def boundProg (x : FrondSt) (h : Nat) (n : W32) : Option Prog :=
  (x.progs.foldl (fun (best : Option Binding) b =>
    let age := (n - b.n).toNat
    if b.handle ≠ h ∨ age = 0 ∨ age ≥ 2 ^ 31 then best
    else match best with
      | none => some b
      | some c => if age < (n - c.n).toNat then some b else some c) none).map (·.prog)

/-- Entry bytes that name a program handle: VECTOR_RUN's and UPDATE's. -/
def entryHandle (e : List Byte) : Option Nat :=
  if entOp e = 0x20 then some (p8 e 32) else if entOp e = 0x30 then some (p8 e 35) else none

/-- A binding that a later one or the LOAD_PROGRAM at `n` supersedes: some entry between the two still names it and has not
completed (R197). -/
def bindingNeeded (s : State) (q : QueueId) (f : Nat) (n : W32) (b : Binding) : Bool :=
  let x := getQ s q
  let age (k : W32) : Nat := (k - b.n).toNat
  let next := (getFrond s f).progs.foldl (fun m d =>
    if d.handle = b.handle ∧ 0 < age d.n ∧ age d.n < age m then d.n else m) n
  (List.range (next - x.record.floor).toNat).any (fun i =>
    let k := x.record.floor + BitVec.ofNat 32 i
    decide (0 < age k) && decide (age k < 2 ^ 31) && !x.record.ahead.contains k
      && entryHandle (entryBytes s q k) == some b.handle)

/-- A superseded binding that a repeat of the present step may still run (R149, R394). -/
def bindingKept (s : State) (p : Nat) (q : QueueId) (b : Binding) : Bool :=
  (getPart s p).cmds.any (fun c => decide (c.q = q) && entryHandle c.entry == some b.handle)

def loadBody (c : Ctx) (s : State) (e : List Byte) : Verdict :=
  let h := p8 e 32
  let a := p64 e 40
  if h > 15 ∨ a % 8 ≠ 0 then .reject stBadDesc 0
  else if rangeInside s c.p 0 (Int.ofNat a) (Int.ofNat a + 7) = false then .reject stBounds 0
  else
    let hd : W64 := BitVec.ofNat 64 (readNat s a 8)
    let len := bitsOf hd.toNat 7 11
    if rangeInside s c.p 0 (Int.ofNat a) (Int.ofNat a + 7 + 8 * Int.ofNat len) = false then .reject stBounds 0
    else
      match parseProgram hd ((List.range len).map (fun i => BitVec.ofNat 64 (readNat s (a + 8 + 8 * i) 8))) with
      | none => .reject stBadDesc 0
      | some pr =>
        let x := getFrond s c.f
        let others := x.progs.filter (fun b => b.handle != h || bindingNeeded s c.q c.f c.n b)
        let live := others.filter (fun b => (others.filter (fun d => d.handle == b.handle
            && decide ((d.n - b.n).toNat < 2 ^ 31) && d.n != b.n)).isEmpty || bindingNeeded s c.q c.f c.n b)
        if (live.foldl (fun n b => n + b.prog.code.length) 0) + pr.code.length > 4096 then .reject stNoResource 0
        else
          let bad := rangePoison s a (8 + 8 * len)
          let s1 := readUnits s (unitsOf a (8 + 8 * len))
          .poisoned (modFrond s1 c.f (fun x => { x with
            progs := x.progs.filter (fun b => (b.handle != h || bindingNeeded s c.q c.f c.n b || bindingKept s c.p c.q b)
              && b.n != c.n) ++ [⟨h, c.n, pr⟩] })) stOK bad

def execLoadProgram (q : QueueId) (n : W32) (s : State) : Host.Outcome State Fault Refusal :=
  .next (runEntry q n (· == 0x23) [(32, 1), (40, 8)] (loadBody (ctxOf s q n 0)) s)

/-! ### VECTOR_RUN (R194 to R210) -/

/-- The handles of VECTOR_RUN in parameter order: IN0–IN3, OUT0, OUT1, VROW0, VROW1, VCOL0, VCOL1. -/
def vrunHandles (e : List Byte) : List Nat := [34, 36, 38, 40, 42, 44, 48, 50, 52, 54].map (p16 e)

/-- The operand slots that a program's instructions name: LD, ST, BCR and BCC. -/
def slotsNamed (pr : Prog) (op : Nat) : List Nat :=
  (pr.body.map decodeIns).filterMap (fun i => if i.op = op then some i.slot else none)

/-- Two descriptors share bytes (R206). -/
def descsMeet (a b : Desc) : Bool :=
  a.space == b.space && decide (a.unitCount > 0) && decide (b.unitCount > 0)
  && a.planes.any (fun x => b.planes.any (fun y =>
    let r := planeRange x.1 x.2 a.unitExt a.str
    let t := planeRange y.1 y.2 b.unitExt b.str
    decide (r.1 ≤ t.2) && decide (t.1 ≤ r.2)))

/-- R203, R208: an output's orientation: 0 NONE, 1 ALONG_ROW, 2 ALONG_COL. -/
def vecOrientOk (d : Desc) (o : Nat) : Bool :=
  if d.blocked then (o == 1 && d.blk == 0) || (o == 2 && d.blk == 1 && decide (d.e 0 ≤ 2048)) else o == 0

/-- The pieces of a quantised output that hold a stored element, as lines for the store path: whole rotation groups, or
whole blocks without rotation (log 23 for elements of a piece that are not stored). -/
def storedPieces (d : Desc) (draw slot : Nat) (poisoned : List Nat) (t : Tbl VStore) : List QLine :=
  let base (e : Nat) : Nat := linearOf d.ext (updAt (coordsOf d.ext e) d.blk (fun _ => 0))
  let len := d.e d.blk
  let sizes := if d.rotSize = 0 then List.replicate (len / 16) 16 else rotPieces d.rotSize len
  (dedupNat (t.map (fun x => base x.1))).flatMap (fun b =>
    let c0 := coordsOf d.ext b
    (sizes.foldl (fun (acc : Nat × List QLine) n =>
      let els := (List.range n).map (fun i =>
        let e := linearOf d.ext (updAt c0 d.blk (fun _ => acc.1 + i))
        (e, tblFind t e))
      if els.any (fun x => x.2.isSome) then
        (acc.1 + n, acc.2 ++ [⟨updAt c0 d.blk (fun _ => acc.1),
          els.map (fun x => (x.2.map (·.val)).getD (Config.unstoredElem draw slot x.1)),
          els.any (fun x => match x.2 with | some y => poisoned.contains y.chunk | none => false)⟩])
      else (acc.1 + n, acc.2)) (0, [])).2)

/-- One output's stores reach memory (R96, R196, R263, R267, R268). -/
def storeOutput (s : State) (c : Ctx) (r : VRun) (slot : Nat) (d : Desc) : State :=
  let t := storesOf r slot
  if d.blocked then
    let (s1, w) := quantLines s c d [] (storedPieces d r.draw slot r.poisoned t)
    commitWrites s1 c.f w
  else
    commitWrites s c.f (t.foldl (fun w x =>
      putWide w d c.f (coordsOf d.ext x.1) x.2.val (r.poisoned.contains x.2.chunk) x.2.pad) []) d.halo

/-- The descriptors of a VECTOR_RUN entry with local extents. -/
def vrunDesc (s : State) (c : Ctx) (h : Nat) : Option Desc :=
  if h = 0xFFFF then none else some ((readDesc s c.p h).localize s c.p)

/-- A run that has reached its last END: stores, the fault record, and the status with whether poison was consumed. A fault's
BOUNDS (R210) goes before the FORMAT of an invalid table (R47; DESIGN CHOICE, log 114). -/
def finishRun (s : State) (c0 : Ctx) (r : VRun) : State × Nat × Bool :=
  let c := { c0 with reads := dedupNat r.units, cycles := r.cycles }
  let store (s : State) (k : Nat) : State := match r.cfg.outs.getD k none with | some d => storeOutput s c r k d | none => s
  let s2 := store (store s 0) 1
  let bad := !r.poisoned.isEmpty
  match firstFault r.faults with
  | some x => (recordFault s2 c.f x, stBounds, bad)
  | none => (s2, (if bad then stPoison else if r.groups.isEmpty then stOK else stFormat), bad)

/-- The checks of R202 to R208 that are answered with BAD_DESCRIPTOR; `ds` as `vrunHandles` orders them. -/
def vrunShapeOk (pr : Prog) (e : List Byte) (ds : List (Option Desc)) (d0 : Desc) : Bool :=
  let l := d0.e 0
  let rows := (d0.ext.drop 1).foldl (· * ·) 1
  let get (k : Nat) : Option Desc := ds.getD k none
  let same (d : Option Desc) : Bool := match d with | some x => decide (x.ext = d0.ext) | none => true
  let vec (d : Option Desc) (n : Nat) : Bool := match d with | some x => x.wide && decide (x.count = n) | none => true
  (slotsNamed pr 0x30).all (fun k => (get k).isSome)
  && (slotsNamed pr 0x31).all (fun k => decide (k ≤ 1) && (get (4 + k)).isSome)
  && (slotsNamed pr 0x32).all (fun k => (get (6 + k)).isSome)
  && (slotsNamed pr 0x33).all (fun k => (get (8 + k)).isSome)
  && [0, 1, 2, 3, 5].all (fun k => same (get k))
  && vec (get 6) l && vec (get 7) l && vec (get 8) rows && vec (get 9) rows
  && vecOrientOk d0 (p8 e 46)
  && (match get 5 with | some d => vecOrientOk d (p8 e 47) | none => p8 e 47 == 0)
  && (decide (l ≤ 256 * pr.groups) || !(pr.body.any (fun w => isReduction (decodeIns w).op)))

/-- R206. `named` are the descriptors as the table holds them. -/
def vrunAliasOk (pr : Prog) (named ds : List (Option Desc)) : Bool :=
  let displaced (k : Nat) : Bool := (pr.body.map decodeIns).any (fun i => i.op == 0x30 && i.slot == k && i.imm != 0)
  [4, 5].all (fun o => [0, 1, 2, 3, 6, 7, 8, 9].all (fun k =>
    match ds.getD o none, ds.getD k none with
    | some a, some b => !descsMeet a b || ((decide (4 ≤ k) || !displaced k) && decide (named.getD o none = named.getD k none))
    | _, _ => true))

/-- R268: pad elements would reach a block-quantised output in HBM or CACHE, through a displaced LD of a padded IN0 (log 113). -/
def padsQuantised (pr : Prog) (ds : List (Option Desc)) : Bool :=
  (match ds.getD 0 none with | some d => d.oob == 2 | none => false)
  && (pr.body.map decodeIns).any (fun i => i.op == 0x30 && i.slot == 0 && i.imm != 0)
  && [4, 5].any (fun k => match ds.getD k none with | some d => d.blocked && d.space != 1 | none => false)

/-- The run of a VECTOR_RUN before its first bundle. -/
def vrunStart (s : State) (c : Ctx) (e : List Byte) (pr : Prog) (ds : List (Option Desc)) (d0 : Desc) : VRun :=
  let ins := (ds.take 4).map (fun d => d.map (fun x => (readSide s c.p x, (readScale s c.p x).getD one32)))
  { q := c.q, n := c.n, mb := c.mb, entry := e
    cfg := { prog := pr, ins := ins
             have_ := [(ds.getD 4 none).isSome, (ds.getD 5 none).isSome]
             quant := [d0.blocked, ((ds.getD 5 none).map (·.blocked)).getD false]
             vrows := [ds.getD 6 none, ds.getD 7 none], vcols := [ds.getD 8 none, ds.getD 9 none]
             scalars := (List.range 16).map (fun i => BitVec.ofNat 32 (p32 e (56 + 4 * i)))
             seed := BitVec.ofNat 64 (p64 e 120), clip := one32, ext := d0.ext
             outs := [ds.getD 4 none, ds.getD 5 none], panel := 0 }
    draw := s.free, next := 0, lanes := [], pc := 0, stores := [], faults := [], poisoned := [], blocks := [], groups := [] }

def vectorBody (c : Ctx) (whole : Bool) (s : State) (e : List Byte) : Verdict :=
  let hs := vrunHandles e
  let ds := hs.map (vrunDesc s c)
  let named := hs.map (fun h => if h = 0xFFFF then none else some (readDesc s c.p h))
  let uses := ((hs.zipIdx).filter (fun x => x.1 != 0xFFFF)).map (fun (h, k) =>
    let out := k == 4 || k == 5
    ({ h := h, write := out, fmtOk := !out || quantSlotOk s c.p (readDesc s c.p h) } : Use))
  match validateFrond s c.p uses with
  | some (st, d) => .reject st d
  | none =>
    match boundProg (getFrond s c.f) (p8 e 32) c.n, ds.getD 4 none with
    | some pr, some d0 =>
      if namesKeep s c.p e (hs.filter (· != 0xFFFF)) then .reject stBadDesc 0
      else if d0.count = 0 then .ok s
      else if !vrunShapeOk pr e ds d0 || padsQuantised pr ds then .reject stBadDesc 0
      else if (ds.take 4).any (fun d => match d with | some x => (readScale s c.p x).isNone | none => false) then
        .reject stFormat 0
      else if !vrunAliasOk pr named ds then .reject stAlias 0
      else if !jitRoom s c ([4, 5].filterMap (fun k => ds.getD k none)) then .reject stNoResource 0
      else if !c.rerun && (getFrond s c.f).vrun.isSome then .wait
      else
        let r := vrunStart s c e pr ds d0
        let s0 := { s with free := s.free + 1 }
        if whole then
          let (s1, r1) := runWhole c.f s0 r
          let (s2, st, bad) := finishRun s1 c r1
          .effect s2 st 0 bad .done
        else
          .effect (modFrond s0 c.f (fun x => { x with vrun := some (nextBundle r) })) stOK 0 false .vector
    | _, _ => .reject stBadDesc 0

/-- The parameter bytes of VECTOR_RUN: byte 33 is padding. -/
def vrunUsed : List (Nat × Nat) := [(32, 1), (34, 94)]

def execVectorRun (q : QueueId) (n : W32) (mb : Nat) (whole : Bool) (s : State) : Host.Outcome State Fault Refusal :=
  .next (runEntry q n (· == 0x20) vrunUsed
    (fun t e => (vectorBody (ctxOf s q n mb) whole t e).keep (ctxOf s q n mb)) s)

/-! ### The instructions of a resident run (R198, R199): one row each -/

/-- The entry of a run takes its status; it may complete now. -/
def settleRun (s : State) (q : QueueId) (n : W32) (st : Nat) : State :=
  modQ s q (fun x => { x with live := x.live.map (fun i => if i.n = n then { i with status := st, waits := .done } else i) })

/-- Commands that the frond has issued go on in RUNNING and in DRAINING (R320). -/
def frondWorks (s : State) (f : Nat) : Bool :=
  match ownerOfFrond s f with
  | some p => decide ((getPart s p).state = .running ∨ (getPart s p).state = .draining)
  | none => false

/-- The frond's resident bundle executes its next instruction, when that is operation `op`. -/
def stepResident (op f : Nat) (s : State) : State :=
  match (getFrond s f).vrun with
  | none => s
  | some r =>
    match (r.cfg.prog.code[r.pc]?).map decodeIns with
    | none => s
    | some i =>
      if i.op ≠ op ∨ frondWorks s f = false then s
      else if op = 0x3F then
        let p := (ownerOfFrond s f).getD 0
        let r1 := nextBundle r
        if r1.lanes.isEmpty then
          let c : Ctx := { p := p, f := f, q := r.q, n := r.n, e := r.entry, mb := r.mb, rerun := false }
          let (s1, st, bad) := finishRun s c r
          settleRun (countOutcome (modFrond s1 f (fun x => { x with vrun := none })) r.q false st bad) r.q r.n st
        else modFrond s f (fun x => { x with vrun := some r1 })
      else
        let (s1, r1) := stepBundle f (s, r) i
        modFrond s1 f (fun x => { x with vrun := some r1 })

def execFadd (f : Nat) (s : State) : Host.Outcome State Fault Refusal := .next (stepResident 0x01 f s)
def execFsub (f : Nat) (s : State) : Host.Outcome State Fault Refusal := .next (stepResident 0x02 f s)
def execFmul (f : Nat) (s : State) : Host.Outcome State Fault Refusal := .next (stepResident 0x03 f s)
def execFfma (f : Nat) (s : State) : Host.Outcome State Fault Refusal := .next (stepResident 0x04 f s)
def execFmin (f : Nat) (s : State) : Host.Outcome State Fault Refusal := .next (stepResident 0x05 f s)
def execFmax (f : Nat) (s : State) : Host.Outcome State Fault Refusal := .next (stepResident 0x06 f s)
def execFabs (f : Nat) (s : State) : Host.Outcome State Fault Refusal := .next (stepResident 0x07 f s)
def execFneg (f : Nat) (s : State) : Host.Outcome State Fault Refusal := .next (stepResident 0x08 f s)
def execFcmp (f : Nat) (s : State) : Host.Outcome State Fault Refusal := .next (stepResident 0x09 f s)
def execSel (f : Nat) (s : State) : Host.Outcome State Fault Refusal := .next (stepResident 0x0A f s)
def execIadd (f : Nat) (s : State) : Host.Outcome State Fault Refusal := .next (stepResident 0x10 f s)
def execIsub (f : Nat) (s : State) : Host.Outcome State Fault Refusal := .next (stepResident 0x11 f s)
def execImul (f : Nat) (s : State) : Host.Outcome State Fault Refusal := .next (stepResident 0x12 f s)
def execAnd (f : Nat) (s : State) : Host.Outcome State Fault Refusal := .next (stepResident 0x13 f s)
def execOr (f : Nat) (s : State) : Host.Outcome State Fault Refusal := .next (stepResident 0x14 f s)
def execXor (f : Nat) (s : State) : Host.Outcome State Fault Refusal := .next (stepResident 0x15 f s)
def execShl (f : Nat) (s : State) : Host.Outcome State Fault Refusal := .next (stepResident 0x16 f s)
def execShr (f : Nat) (s : State) : Host.Outcome State Fault Refusal := .next (stepResident 0x17 f s)
def execSar (f : Nat) (s : State) : Host.Outcome State Fault Refusal := .next (stepResident 0x18 f s)
def execIcmp (f : Nat) (s : State) : Host.Outcome State Fault Refusal := .next (stepResident 0x19 f s)
def execCvt (f : Nat) (s : State) : Host.Outcome State Fault Refusal := .next (stepResident 0x20 f s)
def execExp2 (f : Nat) (s : State) : Host.Outcome State Fault Refusal := .next (stepResident 0x28 f s)
def execLog2 (f : Nat) (s : State) : Host.Outcome State Fault Refusal := .next (stepResident 0x29 f s)
def execRcp (f : Nat) (s : State) : Host.Outcome State Fault Refusal := .next (stepResident 0x2A f s)
def execSqrt (f : Nat) (s : State) : Host.Outcome State Fault Refusal := .next (stepResident 0x2B f s)
def execRsqrt (f : Nat) (s : State) : Host.Outcome State Fault Refusal := .next (stepResident 0x2C f s)
def execSinpi (f : Nat) (s : State) : Host.Outcome State Fault Refusal := .next (stepResident 0x2D f s)
def execCospi (f : Nat) (s : State) : Host.Outcome State Fault Refusal := .next (stepResident 0x2E f s)
def execFdiv (f : Nat) (s : State) : Host.Outcome State Fault Refusal := .next (stepResident 0x2F f s)
def execLd (f : Nat) (s : State) : Host.Outcome State Fault Refusal := .next (stepResident 0x30 f s)
def execSt (f : Nat) (s : State) : Host.Outcome State Fault Refusal := .next (stepResident 0x31 f s)
def execBcr (f : Nat) (s : State) : Host.Outcome State Fault Refusal := .next (stepResident 0x32 f s)
def execBcc (f : Nat) (s : State) : Host.Outcome State Fault Refusal := .next (stepResident 0x33 f s)
def execPerm (f : Nat) (s : State) : Host.Outcome State Fault Refusal := .next (stepResident 0x34 f s)
def execRand (f : Nat) (s : State) : Host.Outcome State Fault Refusal := .next (stepResident 0x35 f s)
def execCoord (f : Nat) (s : State) : Host.Outcome State Fault Refusal := .next (stepResident 0x36 f s)
def execMovi (f : Nat) (s : State) : Host.Outcome State Fault Refusal := .next (stepResident 0x37 f s)
def execRsum (f : Nat) (s : State) : Host.Outcome State Fault Refusal := .next (stepResident 0x38 f s)
def execRmax (f : Nat) (s : State) : Host.Outcome State Fault Refusal := .next (stepResident 0x39 f s)
def execRmin (f : Nat) (s : State) : Host.Outcome State Fault Refusal := .next (stepResident 0x3A f s)
def execEndChunk (f : Nat) (s : State) : Host.Outcome State Fault Refusal := .next (stepResident 0x3F f s)

/-! ### FUSED_SOFTMAX (R211 to R214) -/

def log2e : W32 := 0x3FB8AA3B#32
def ln2 : W32 := 0x3F317218#32

/-- The row conditions of R212: 1 a NaN, 2 entries of +∞, 3 no finite entry, 4 otherwise. -/
def rowOrder (z : List W32) : Nat :=
  if z.any isNaN32 then 1 else if z.any (fun x => decide (x = pinf32)) then 2
  else if z.all (fun x => !isFinite32 x) then 3 else 4

/-- m, e, s and lse of R213. -/
def softmaxParts (z : List W32) : W32 × List W32 × W32 × W32 :=
  let m := opRmax (z.filter isFinite32)
  let e := z.map (fun x => if isFinite32 x then fp32Exp2 (fp32MulRne (fp32SubRne x m) log2e) else pzero32)
  let s := opRsum e
  (m, e, s, fp32AddRne m (fp32MulRne (fp32Log2 s) ln2))

/-- A row's probabilities and LSE (R212, R213). -/
def softmaxRow (z : List W32) : List W32 × W32 :=
  match rowOrder z with
  | 1 => (z.map (fun _ => qnan32), qnan32)
  | 2 =>
    let c := int32ToFp32 (BitVec.ofNat 32 (z.countP (fun x => decide (x = pinf32))))
    (z.map (fun x => if x = pinf32 then fp32DivRne one32 c else pzero32), pinf32)
  | 3 => (z.map (fun _ => pzero32), ninf32)
  | _ =>
    let (_, e, s, lse) := softmaxParts z
    (e.map (fun x => fp32DivRne x s), lse)

/-- The special rows of R212 and R217 at FRD_SMX_EVENTS. -/
def bumpRows (s : State) (f : Nat) (orders : List Nat) : State :=
  bump (bump (bump s FRD_SMX_EVENTS_NAN_ROWS f (orders.countP (· == 1)))
    FRD_SMX_EVENTS_INF_ROWS f (orders.countP (· == 2))) FRD_SMX_EVENTS_EMPTY_ROWS f (orders.countP (· == 3))

/-- The first reads of blocks by a command that reads whole tensors: RSVD_BLOCKS and invalid groups. -/
def countReads (s : State) (f : Nat) (fam : Nat) (l : List ElemIn) : State × Bool :=
  let bs := (l.filterMap (·.block)).foldl (fun (acc : List (Nat × Nat × Option Nat)) b =>
    if acc.any (fun x => x.1 == b.1) then acc else acc ++ [b]) []
  let bad := (dedupNat (bs.filterMap (fun b => b.2.2))).length
  let s1 := bump s FRD_FMT_EVENTS_RSVD_BLOCKS f (bs.foldl (fun n b => n + b.2.1) 0)
  (bump s1 (if fam = 4 then FRD_FMT_EVENTS_LUT_REJECTS else FRD_FMT_EVENTS_ZP_REJECTS) f bad, decide (bad > 0))

/-- The bytes of a row bitmap. -/
def bitmapBytes (bits : List Bool) : List Byte :=
  (chunks 8 bits).map (fun c => BitVec.ofNat 8 ((c.zipIdx).foldl (fun n (b, i) => n + b2n b * 2 ^ i) 0))

/-- A row of a softmax: its scaled and masked elements, whether poisoned bytes were loaded, and what was read. -/
structure SmxRow where
  z      : List W32
  poison : Bool
  reads  : List ElemIn
  units  : List Nat
  deriving DecidableEq, Repr

def smxRow (s : State) (c : Ctx) (din : Desc) (st : W32) (mask : Option Desc) (causal : Option Int) (scale : W32)
    (r : Nat) : SmxRow :=
  let l := din.e 0
  let els := (List.range l).map (fun j =>
    let co := coordsOf din.ext (r * l + j)
    let removed := match causal with
      | some o => decide (Int.ofNat (co.getD 0 0) > Int.ofNat (co.getD 1 0) + o)
      | none => false
    if removed then (ninf32, (none : Option ElemIn), (none : Option ElemIn))
    else
      let x := elemRead s c.f (readSide s c.p din) st co
      let v := fp32MulRne x.v scale
      match mask with
      | some d =>
        let y := elemRead s c.f d one32 co
        (fp32AddRne v y.v, some x, some y)
      | none => (v, some x, none))
  let xs := els.filterMap (fun e => e.2.1)
  let ys := els.filterMap (fun e => e.2.2)
  ⟨els.map (·.1), (xs ++ ys).any (·.poison), xs, (xs ++ ys).flatMap (·.units)⟩

def softmaxBody (c : Ctx) (s : State) (e : List Byte) : Verdict :=
  let hIn := p16 e 32
  let hMask := p16 e 34
  let hOut := p16 e 48
  let hLse := p16 e 50
  let hEmpty := p16 e 52
  let scale : W32 := BitVec.ofNat 32 (p32 e 44)
  let causal : Option Int := if p8 e 36 = 0 then none else some (BitVec.ofNat 32 (p32 e 40) : W32).toInt
  let d (h : Nat) : Desc := (readDesc s c.p h).localize s c.p
  let opt (h : Nat) : Option Desc := if h = 0xFFFF then none else some (d h)
  let din := d hIn
  let rows := (din.ext.drop 1).foldl (· * ·) 1
  let uses := (if hIn = 0xFFFF then [] else [({ h := hIn } : Use)]) ++ (if hMask = 0xFFFF then [] else [{ h := hMask }])
    ++ (if hOut = 0xFFFF then [] else [{ h := hOut, write := true, fmtOk := quantSlotOk s c.p (readDesc s c.p hOut) }])
    ++ (if hLse = 0xFFFF then [] else [{ h := hLse, write := true }])
    ++ (if hEmpty = 0xFFFF then [] else [{ h := hEmpty, bits := some (ceilDiv rows 8, 0) }])
  match validateFrond s c.p uses with
  | some (st, x) => .reject st x
  | none =>
    if hIn = 0xFFFF ∨ (hOut = 0xFFFF ∧ hLse = 0xFFFF) ∨ isNeg32 scale ∨ isFinite32 scale = false ∨ isZero32 scale
        ∨ p8 e 36 > 1 then .reject stBadDesc 0
    else
      let same (o : Option Desc) (k : Desc → Bool) : Bool := match o with | some x => k x | none => true
      if namesKeep s c.p e ([hIn] ++ (if hOut = 0xFFFF then [] else [hOut])) then .reject stBadDesc 0
      else if (readDesc s c.p hIn).e 0 > 2 ^ 24
          ∨ same (opt hMask) (fun x => x.wide && decide (x.ext = din.ext)) = false
          ∨ same (opt hOut) (fun x => decide (x.ext = din.ext) && (!x.blocked || x.blk == 0)) = false
          ∨ same (opt hLse) (fun x => x.fam == 6 && decide (x.count = rows)) = false then .reject stBadDesc 0
      else if (readScale s c.p din).isNone then .reject stFormat 0
      else if din.count = 0 then .ok s
      else if !jitRoom s c (opt hOut).toList then .reject stNoResource 0
      else
        let st := (readScale s c.p din).getD one32
        let rs := (List.range rows).map (smxRow s c din st (opt hMask) causal scale)
        let outs := rs.map (fun r => softmaxRow r.z)
        let orders := rs.map (fun r => rowOrder r.z)
        let s1 := readUnits s (dedupNat (rs.flatMap (·.units)))
        let (s2, badG) := countReads s1 c.f din.fam (rs.flatMap (·.reads))
        let s3 := bumpRows s2 c.f orders
        let per := ceilDiv (din.e 0) 256
        let cost := rows * (20 * per + (if din.e 0 > 32768 then 4 * per else 0))
        let s4 := match opt hOut with
          | some x =>
            if x.blocked then
              let lines := (outs.zip rs).zipIdx.map (fun (o, i) =>
                (⟨coordsOf x.ext (i * x.e 0), o.1.1, o.2.poison⟩ : QLine))
              let (t, w) := quantLines s3 { c with reads := dedupNat (rs.flatMap (·.units)), cycles := cost } x [] lines
              commitWrites t c.f w
            else
              commitWrites s3 c.f (((outs.zip rs).zipIdx).foldl (fun w (o, i) =>
                (o.1.1.zipIdx).foldl (fun w (v, j) => putWide w x c.f (coordsOf x.ext (i * x.e 0 + j)) v o.2.poison) w) [])
          | none => s3
        let s5 := match opt hLse with
          | some x => commitWrites s4 c.f (((outs.zip rs).zipIdx).foldl (fun w (o, i) =>
              putWide w x c.f (coordsOf x.ext i) o.1.2 o.2.poison) [])
          | none => s4
        let s6 := if hEmpty = 0xFFFF then s5
          else
            let x := readDesc s c.p hEmpty
            let k := spaceKey x.space c.f (Int.ofNat x.baseE)
            let bad := (chunks 8 rs).map (fun g => g.any (·.poison))
            commitWrites s5 c.f (((bitmapBytes (orders.map (· == 3))).zip bad).zipIdx.foldl (fun w (b, i) =>
              wputs w (k + i) [b.1] b.2) [])
        .poisoned (bump s6 FRD_VEC_BUSY_ISSUE_CYCLES c.f cost) (if badG then stFormat else stOK) (rs.any (·.poison))

def softmaxUsed : List (Nat × Nat) := [(32, 5), (40, 14)]

def execFusedSoftmax (q : QueueId) (n : W32) (mb : Nat) (s : State) : Host.Outcome State Fault Refusal :=
  .next (runEntry q n (· == 0x21) softmaxUsed
    (fun t e => (softmaxBody (ctxOf s q n mb) t e).keep (ctxOf s q n mb)) s)

/-! ### SAMPLE (R215 to R220) -/

/-- A sampled row (R217, R218). -/
structure Sampled where
  token : Nat
  logp  : W32
  flags : Nat
  kept  : Nat
  deriving DecidableEq, Repr

structure SampleP where
  temp : W32
  topK : Nat
  topP : W32
  kept : Bool        -- LOGP_MODE = KEPT
  deriving DecidableEq, Repr

/-- Candidates in the order of R217: larger z first, lower index first among equals (−0 and +0 are equal). -/
def candidates (z : List W32) : List (W32 × Nat) :=
  sortBy (fun a b => fp32LtNum b.1 a.1 || (!fp32LtNum a.1 b.1 && decide (a.2 ≤ b.2)))
    ((z.zipIdx).filter (fun x => isFinite32 x.1))

/-- The kept tokens of a limited candidate list, and whether the threshold was reached. -/
def keepLoop (e : List W32) (p thr : W32) : List (W32 × Nat) → W32 → List Nat → List Nat × Bool
  | [], _, kept => (kept, false)
  | x :: xs, c, kept =>
    let c' := fp32AddRne c (e.getD x.2 pzero32)
    let kept' := kept ++ [x.2]
    if p ≠ one32 ∧ fp32Le thr c' = true then (kept', true) else keepLoop e p thr xs c' kept'

/-- The first kept token whose cumulative value exceeds the target, else the last. -/
def drawLoop (e : List W32) (target : W32) : List Nat → W32 → Nat → Nat
  | [], _, last => last
  | i :: is, c, last =>
    let c' := fp32AddRne c (e.getD i pzero32)
    if fp32Lt target c' then i else drawLoop e target is c' last

/-- One row (R217). `word0` is the draw of R216. -/
def sampleRow (a : SampleP) (x : List W32) (word0 : W32) : Sampled :=
  let greedy := isZero32 a.temp
  let sc := if greedy then one32 else fp32RcpRne a.temp
  let z := x.map (fun v => fp32MulRne v sc)
  let w := word0.toNat / 256
  let g := if greedy then 8 else 0
  match rowOrder z with
  | 1 => ⟨0xFFFFFFFF, qnan32, 1 + g, 0⟩
  | 2 =>
    let infs := ((z.zipIdx).filter (fun y => decide (y.1 = pinf32))).map (·.2)
    let c := infs.length
    let j := if greedy then 0 else w * c / 2 ^ 24
    ⟨infs.getD j 0, fp32SubRne pzero32 (fp32MulRne (fp32Log2 (int32ToFp32 (BitVec.ofNat 32 c))) ln2), 2 + g, min c 0xFFFF⟩
  | 3 => ⟨0xFFFFFFFF, ninf32, 4 + g, 0⟩
  | _ =>
    let (m, e, sFull, lse) := softmaxParts z
    let (kept, short) :=
      if greedy then ([((z.zipIdx).find? (fun y => fp32Eq y.1 m)).elim 0 (·.2)], false)
      else if a.topK = 0 ∧ a.topP = one32 then
        (((z.zipIdx).filter (fun y => isFinite32 y.1)).map (·.2), false)
      else
        let (k, hit) := keepLoop e a.topP (fp32MulRne a.topP sFull)
          ((candidates z).take (if a.topK > 0 then a.topK else 1024)) pzero32 []
        (k, a.topK == 0 && !hit)
    let sKept := if greedy then e.getD (kept.headD 0) pzero32
      else kept.foldl (fun c i => fp32AddRne c (e.getD i pzero32)) pzero32
    let target := fp32MulRne (fp32OfScaled (Int.ofNat w) (-24)) sKept
    let tok := if greedy then kept.headD 0 else drawLoop e target kept pzero32 (kept.getLastD 0)
    let logp := if a.kept then fp32SubRne (fp32SubRne (z.getD tok pzero32) m) (fp32MulRne (fp32Log2 sKept) ln2)
      else fp32SubRne (z.getD tok pzero32) lse
    ⟨tok, logp, g + (if short then 16 else 0), min kept.length 0xFFFF⟩

/-- The 32-byte record (R218). -/
def sampleRecord (r : Sampled) (version seqId pos : Nat) : List Byte :=
  leBytes 4 r.token ++ leBytes 4 r.logp.toNat ++ leBytes 8 version ++ leBytes 8 seqId ++ leBytes 4 pos ++
  leBytes 2 r.flags ++ leBytes 2 r.kept

/-- VERSION of the copy that WEIGHT_COPY names: ACTIVE's of a rollout; else that of the set that the last accepted commit made
ACTIVE (R30; log 24). -/
def sampleVersion (s : State) (p f flag h : Nat) : Nat :=
  if flag = 1 then ((readHeader s f (readDesc s p h)).map (·.version)).getD 0
  else match (getPart s p).active with
    | some a => a.version
    | none => (getPart s p).version

/-- The bytes of row `i` of a wide tensor along its innermost dimension, the units that they lie in, and the keys of its elements. -/
def rowBytes (s : State) (f : Nat) (d : Desc) (i : Nat) : List Byte × List Nat :=
  let keys := (List.range (d.e 0)).map (fun j => d.elemKey f (coordsOf d.ext (i * d.e 0 + j)))
  (keys.flatMap (fun k => readBytes s k d.elemSize), keys.flatMap (fun k => unitsOf k d.elemSize))

/-- A wide tensor of `rows` rows of `n` bytes. -/
def rowsOf (d : Desc) (rows n : Nat) : Bool :=
  d.wide && decide (d.e 0 * d.elemSize = n) && decide (d.count = d.e 0 * rows)

/-- The cycles of R220 for one row of `v` logits. -/
def sampleCycles (a : SampleP) (v : Nat) : Nat :=
  let ch := ceilDiv v 256
  9 * ch + (if a.topK = 0 ∧ a.topP = one32 then 2 * ch else 2048) + 64

/-- SAMPLE (R215 to R220). SEQ and OUT have 16 and 32 bytes in a row, in elements of either wide format. -/
def sampleBody (c : Ctx) (s : State) (e : List Byte) : Verdict :=
  let hl := p16 e 32
  let hs := p16 e 34
  let flag := p8 e 36
  let hc := p16 e 38
  let ho := p16 e 62
  let a : SampleP := ⟨BitVec.ofNat 32 (p32 e 48), p16 e 52, BitVec.ofNat 32 (p32 e 56), p8 e 60 == 1⟩
  let d (h : Nat) : Desc := (readDesc s c.p h).localize s c.p
  match validateFrond s c.p ([{ h := hl }, { h := hs }] ++ (if flag = 1 then [{ h := hc }] else []) ++ [{ h := ho, write := true }]) with
  | some (st, x) => .reject st x
  | none =>
    if flag > 1 ∨ (flag = 0 ∧ hc ≠ 0) ∨ p8 e 60 > 1 ∨ a.topK > 1024
        ∨ (isNormal32 a.temp && !isNeg32 a.temp || a.temp == pzero32) = false
        ∨ isNeg32 a.topP ∨ isZero32 a.topP ∨ fp32Le a.topP one32 = false then .reject stBadDesc 0
    else
      let dl := d hl
      let dq := d hs
      let do_ := d ho
      let rows := (dl.ext.drop 1).foldl (· * ·) 1
      if dl.wide = false ∨ rowsOf dq rows 16 = false ∨ rowsOf do_ rows 32 = false ∨ (readDesc s c.p hl).e 0 > 2 ^ 24
          ∨ (flag = 1 ∧ (readDesc s c.p hc).wcopy = false) ∨ namesKeep s c.p e [hl, hs, ho] = true then .reject stBadDesc 0
      else if dl.count = 0 then .ok s
      else if (List.range rows).any (fun i => leAt (rowBytes s c.f dq i).1 12 4 != 0) then .reject stBadDesc 0
      else
        let v := sampleVersion s c.p c.f flag hc
        let rs : List (Sampled × List Byte × Bool × List Nat) := (List.range rows).map (fun i =>
          let (seq, us) := rowBytes s c.f dq i
          let n (k : Nat) : Nat := leAt seq (4 * k) 4
          let xs : List ElemIn := (List.range (dl.e 0)).map (fun j => elemRead s c.f dl one32 (coordsOf dl.ext (i * dl.e 0 + j)))
          let r := sampleRow a (xs.map (·.v)) (philox (BitVec.ofNat 64 (p64 e 40)) (n 2) (n 0) (n 1) 0)
          let bad := us.any (unitPoison s) || xs.any (·.poison)
          (r, sampleRecord r v (n 0 + n 1 * 2 ^ 32) (n 2), bad, us ++ xs.flatMap (·.units)))
        let s1 := readUnits s (dedupNat (rs.flatMap (fun r => r.2.2.2)))
        let code (r : Sampled) : Nat := if bitOf r.flags 0 then 1 else if bitOf r.flags 1 then 2 else if bitOf r.flags 2 then 3 else 4
        let s2 := bumpRows s1 c.f (rs.map (fun r => code r.1))
        let s3 := bump (bump (bump s2 FRD_SMX_EVENTS_P_SHORT c.f (rs.countP (fun r => bitOf r.1.flags 4)))
          FRD_SMP_COUNT_ROWS c.f rows) FRD_VEC_BUSY_ISSUE_CYCLES c.f (rows * sampleCycles a (dl.e 0))
        let s4 := commitWrites s3 c.f ((rs.zipIdx).foldl (fun w (r, i) =>
          ((chunks do_.elemSize r.2.1).zipIdx).foldl (fun w (b, k) =>
            wputs w (do_.elemKey c.f (coordsOf do_.ext (do_.e 0 * i + k))) b r.2.2.1) w) [])
        .poisoned s4 stOK (rs.any (fun r => r.2.2.1))

def sampleUsed : List (Nat × Nat) := [(32, 5), (38, 2), (40, 14), (56, 5), (62, 2)]

def execSample (q : QueueId) (n : W32) (s : State) : Host.Outcome State Fault Refusal :=
  .next (runEntry q n (· == 0x22) sampleUsed
    (fun t e => (sampleBody (ctxOf s q n 0) t e).keep (ctxOf s q n 0)) s)

end Sys2Proof.Machine
end

