-- ==== Sys2Proof/Machine/Stream.lean ====
section
/-! DEFINITION. STREAM_COPY (R282), with displaced and padded reads (R265 to R268), carried poison (R301) and destinations on
other devices (R281), and the gather of the narrow port (R265, R297). -/

namespace Sys2Proof.Machine

structure CopyP where
  src   : Nat
  dst   : Nat
  croz  : Nat
  shift : List Int
  deriving DecidableEq, Repr

/-- A signed 16-bit parameter. -/
def pI16 (e : List Byte) (o : Nat) : Int :=
  let v := p16 e o
  if v < 2 ^ 15 then Int.ofNat v else Int.ofNat v - 2 ^ 16

def parseCopy (e : List Byte) : CopyP :=
  ⟨p16 e 32, p16 e 34, p8 e 36, (List.range 6).map (fun k => pI16 e (38 + 2 * k))⟩

/-- A padded stream load (R265, R266). -/
def paddedSrc (d : Desc) : Bool := d.oob == 2 && d.wide

/-- The extents that a source delivers: with its margins under OOB = PAD (R266). -/
def srcShape (d : Desc) : List Nat :=
  if paddedSrc d then
    (List.range 6).map (fun k => d.e k + d.padLo.getD k 0 + d.padHi.getD k 0)
  else d.ext

/-- R282: equal formats. -/
def sameFormat (a b : Desc) : Bool :=
  if a.wide then a.fam == b.fam
  else a.fam == b.fam && a.width == b.width && a.budget == b.budget && a.blk == b.blk && a.rot == b.rot
    && a.seed == b.seed && (!(a.fam == 1 || a.fam == 4) || a.group == b.group)

/-- R282: the legal format pairs. -/
def copyPairOk (a b : Desc) (croz : Nat) : Bool :=
  if b.blocked then (if croz = 1 then a.wide else a.blocked && sameFormat a b)
  else a.wide && b.wide

/-- The source coordinates of an element of the destination, before OOB applies. -/
def srcCoords (d : Desc) (shift : List Int) (c : List Nat) : List Int :=
  (c.zipIdx).map (fun (x, k) =>
    Int.ofNat x + shift.getD k 0 - (if paddedSrc d then Int.ofNat (d.padLo.getD k 0) else 0))

def inExtent (d : Desc) (c : List Int) : Bool :=
  (c.zipIdx).all (fun (x, k) => decide (0 ≤ x) && decide (x < Int.ofNat (d.e k)))

/-- Whether the iteration space reaches a coordinate outside the source's extents (R265). -/
def leavesExtent (d t : Desc) (shift : List Int) : Bool :=
  let lo := srcCoords d shift ((List.range 6).map (fun _ => 0))
  let hi := srcCoords d shift ((List.range 6).map (fun k => t.e k - 1))
  !inExtent d lo || !inExtent d hi

/-- An element that reaches the destination: its coordinates, the value as FP32, the source's bytes where they are moved
unchanged, poison, pad mark, whether it was clamped, and the units read. -/
structure CopyEl where
  c       : List Nat
  v       : W32
  raw     : List Byte
  poison  : Bool
  pad     : Bool
  clamped : Bool
  units   : List Nat
  deriving DecidableEq, Repr

def copyElem (s : State) (f : Nat) (d t : Desc) (shift : List Int) (c : List Nat) : CopyEl :=
  let x := srcCoords d shift c
  let rd (k : List Nat) (cl : Bool) : CopyEl :=
    let us := unitsOf (d.elemKey f k) d.elemSize
    let v := readWide s f d k
    ⟨c, v, if d.fam = t.fam then readBytes s (d.elemKey f k) d.elemSize else wideBytes t v,
     us.any (unitPoison s), false, cl, us⟩
  if inExtent d x then rd (x.map Int.toNat) false
  else if d.oob = 2 then ⟨c, padValue d, wideBytes t (padValue d), false, true, false, []⟩
  else rd ((x.zipIdx).map (fun (a, k) => (min (max a 0) (Int.ofNat (d.e k) - 1)).toNat)) true

/-- Destination units that a write set writes poisoned (CARRIED, R301). -/
def poisonedUnits (w : WSet) : Nat := (dedupNat ((w.filter (fun x => x.2.poison)).map (fun x => x.1 / 256))).length

/-- The bytes of a copy of wide elements without the crozier: moved, or converted by R61; with the machine after its reads. -/
def plainSet (s : State) (c : Ctx) (d t : Desc) : State × WSet :=
  let els := (List.range t.count).map (fun i => copyElem s c.f d t [] (coordsOf t.ext i))
  (readUnits s (dedupNat (els.flatMap (·.units))),
    els.foldl (fun w x => wputs w (t.elemKey c.f x.c) x.raw x.poison x.pad) [])

/-- The write of a copy that carries poison (R301). -/
def carryWrites (c : Ctx) (halo : Bool) (x : State × WSet) : State :=
  bump (commitWrites x.1 c.f x.2 halo) FRD_POISON_EVENTS_CARRIED c.f (poisonedUnits x.2)

def copyPlain (s : State) (c : Ctx) (d t : Desc) : State := carryWrites c t.halo (plainSet s c d t)

/-- The planes of blocks as they stand. -/
def blockSet (s : State) (c : Ctx) (d t : Desc) : State × WSet :=
  let bs := (List.range t.unitCount).map (fun i => coordsOf t.unitExt i)
  let part (w : WSet) (src dst : Nat) (n : Nat) : WSet :=
    (List.range n).foldl (fun w i =>
      wput w (dst + i) { val := readByte s (src + i), poison := unitPoison s ((src + i) / 256), pad := false }) w
  let w := bs.foldl (fun w b =>
    let w1 := part w (d.blkElemKey c.f b) (t.blkElemKey c.f b) (2 * d.width)
    let w2 := part w1 (d.blkMetaKey c.f b) (t.blkMetaKey c.f b) 2
    part w2 (d.blkEpiKey c.f b) (t.blkEpiKey c.f b) (3 * d.budget)) []
  (readUnits s (dedupNat (bs.flatMap (fun b =>
    unitsOf (d.blkElemKey c.f b) (2 * d.width) ++ unitsOf (d.blkMetaKey c.f b) 2
    ++ unitsOf (d.blkEpiKey c.f b) (3 * d.budget)))), w)

def copyBlocks (s : State) (c : Ctx) (d t : Desc) : State := carryWrites c false (blockSet s c d t)

/-- A block-quantised copy. An operand that a fall-back widened moves in its widened form (R152; log 26). -/
def copyQuant (s : State) (c : Ctx) (d t : Desc) : State :=
  match findReloc (getPart s c.p) d.slot d.baseM with
  | some r =>
    let s1 := ensureReloc s c t r.rung false r.st
    let t1 := readSide s1 c.p t
    if t1.blocked then copyBlocks s1 c (d.relocate r) t1 else copyPlain s1 c (d.relocate r) t1
  | none => copyBlocks s c d t

/-- The runs of a line that the crozier takes together: whole rotation groups, or single blocks. -/
def cutLine (size : Nat) (l : List CopyEl) : List (List CopyEl) :=
  if size = 0 then chunks 16 l else cutBy (rotPieces size l.length) l

/-- The lines of the destination along a dimension. -/
def linesAlong (t : Desc) (k : Nat) (el : List Nat → CopyEl) : List (List CopyEl) :=
  let outer := updAt t.ext k (fun _ => 1)
  (List.range (outer.foldl (· * ·) 1)).map (fun i =>
    let c := coordsOf outer i
    (List.range (t.e k)).map (fun j => el (updAt c k (fun _ => j))))

/-- The bytes of a copy through the crozier (R282 with CROZIER = 1), the machine before they are written and whether poison was
consumed. -/
def crozSet (s : State) (c : Ctx) (d t : Desc) (shift : List Int) : State × WSet × Bool :=
  let el := copyElem s c.f d t shift
  let k := if t.blocked then t.blk else 0
  let lines := linesAlong t k el
  let all := lines.flatMap id
  let s1 := bump (readUnits s (dedupNat (all.flatMap (·.units)))) FRD_LAYOUT_EVENTS_CROZ_CLAMP c.f (all.countP (·.clamped))
  let bad := all.any (·.poison)
  if t.blocked then
    let qs := lines.flatMap (fun l => (cutLine t.rotSize l).map (fun g =>
      (⟨((g.head?).map (·.c)).getD [], g.map (·.v), g.any (·.poison)⟩ : QLine)))
    let (s2, w) := quantLines s1 { c with reads := dedupNat (all.flatMap (·.units)) } t [] qs
    (s2, w, bad)
  else if t.rotSize = 0 then
    (s1, all.foldl (fun w x => wputs w (t.elemKey c.f x.c) x.raw x.poison x.pad) [], bad)
  else
    let side := slotSide (slotCfg s c.p t.slot)
    let gs := (lines.flatMap (cutLine t.rotSize)).map (fun g =>
      let r := crozierLine t.rotSize t.seed side (g.map (·.v))
      (g.zip r.1, r.2))
    let s2 := bump s1 FRD_EPI_EVENTS_ROT_NONFINITE c.f (gs.foldl (fun n g => n + g.2) 0)
    (s2, gs.foldl (fun w g =>
      let p := g.1.any (fun x => x.1.poison)
      g.1.foldl (fun w x => putWide w t c.f x.1.c x.2 p x.1.pad) w) [], bad)

def copyCroz (s : State) (c : Ctx) (d t : Desc) (shift : List Int) : State × Bool :=
  let (s1, w, bad) := crozSet s c d t shift
  (commitWrites s1 c.f w (t.wide && t.halo), bad)

/-! ### A destination on other devices (R275, R281, R282; log 25) -/

/-- DST as this device's part of SRC shapes it, dense and apart from every memory: where the bytes of a copy stand before they
go to the members that hold them. -/
def shardView (d t0 : Desc) : Desc :=
  let v := { t0 with ext := d.ext, space := 0, shard := 0xFFFF, baseE := 2 ^ 60, baseM := 2 ^ 61, baseX := 2 ^ 62 }
  { v with str := denseStrides v.unitExt 1 }

/-- The planes of a unit of `d`: a number, the key and the length (R253, R254). -/
def unitPlanes (d : Desc) (f : Nat) (u : List Nat) : List (Nat × Nat × Nat) :=
  if d.blocked then
    [(0, d.blkElemKey f u, 2 * d.width), (1, d.blkMetaKey f u, 2), (2, d.blkEpiKey f u, 3 * d.budget)]
  else [(0, d.elemKey f u, d.elemSize)]

/-- Where member `j` holds a unit's piece of `n` bytes. No rule gives a remote member's addresses: a free one, inside one
256-byte unit (log 25). -/
def remotePlace (t0 : Desc) (dev part plane unit n : Nat) : Nat :=
  let a := Config.remotePlace t0.baseE dev part plane unit % 2 ^ 40
  a / 256 * 256 + min (a % 256) (256 - n)

/-- A WRITE of a command to another member (R346); its transaction (kind 7) stays until its WRITE_ACK. -/
def copyMsg (s : State) (p vc dev addr : Nat) (l : List WByte) : State × Nat :=
  let tag := s.fabric.nextTag
  (sendMsg { s with fabric := { s.fabric with
      nextTag := (tag + 1) % 2 ^ 16
      txns := s.fabric.txns ++ [⟨tag, dev, vc, s.counter, 7, p, addr, l.length⟩] } } vc
    { dst := dev, part := p, mtype := 0x01, tag := tag, addr := addr, payload := l.map (·.val), poison := l.any (·.poison) }, tag)

/-- The bytes that a write set holds of a run; none where it lacks one. -/
def wRun (w : WSet) (k n : Nat) : Option (List WByte) :=
  let l := (List.range n).filterMap (fun i => tblFind w (k + i))
  if l.length = n ∧ 0 < n then some l else none

/-- The bytes of a copy whose units lie on several members go to those members (R275): this device's own into its memory, the
others' as WRITE messages, whose tags are answered. `d0` and `t0` are SRC and DST with their global extents, `v` is the view. -/
def spreadCopy (s : State) (c : Ctx) (g : GroupCfg) (d0 t0 v : Desc) (w : WSet) : State × WSet × List Nat :=
  let t := t0.localize s c.p
  let me := (memberIndex s c.p g).getD 0
  ((List.range v.unitCount).map (coordsOf v.unitExt)).foldl (fun a u =>
    let glob := globalCoords s c.p d0 (if v.blocked then updAt u v.blk (16 * ·) else u)
    let unit := linearOf t0.ext glob
    (unitPlanes v c.f u).foldl (fun a pl =>
      match wRun w pl.2.1 pl.2.2 with
      | none => a
      | some l =>
        (List.range g.members.length).foldl (fun a j =>
          match heldBy g t0 j glob, g.members[j]? with
          | some lc, some m =>
            if j = me then
              let k := ((unitPlanes t c.f (t.blockOf lc)).find? (fun x => x.1 == pl.1)).elim 0 (·.2.1)
              (a.1, (l.zipIdx).foldl (fun w x => wput w (k + x.2) x.1) a.2.1, a.2.2)
            else
              let (s1, tag) := copyMsg a.1 c.p g.vc m.dev (remotePlace t0 m.dev m.part pl.1 unit l.length) l
              (s1, a.2.1, a.2.2 ++ [tag])
          | _, _ => a) a) a) (s, w.filter (fun x => decide (x.1 < 2 ^ 60)), [])

/-- The whole of DST lies on several members, and this device's parts of SRC and DST differ. -/
def copySpreads (d0 t0 d t : Desc) : Bool :=
  t0.shardGroup != 0xFFFF && !paddedSrc d0 && decide (d0.ext = t0.ext) && decide (d.ext ≠ t.ext)

/-- A copy into a DST that other members hold in part: it completes with its last WRITE_ACK (R281). -/
def copySpread (s : State) (c : Ctx) (a : CopyP) (d0 t0 : Desc) : Verdict :=
  let d := d0.localize s c.p
  let v := shardView d t0
  match findGroup s t0.shardGroup with
  | none => .reject stBadDesc 0
  | some g =>
    let (s1, w, bad) :=
      if a.croz = 1 then crozSet s c d v a.shift
      else
        let (s1, w) := if v.blocked then blockSet s c d v else plainSet s c d v
        (s1, w, false)
    let (s2, own, tags) := spreadCopy s1 c g d0 t0 v w
    let s3 := commitWrites s2 c.f own (t0.wide && t0.halo)
    let s4 := if a.croz = 0 then bump s3 FRD_POISON_EVENTS_CARRIED c.f (poisonedUnits own) else s3
    .effect s4 (if bad then stPoison else stOK) 0 bad (if tags.isEmpty then .done else .remote tags)

def copyBody (c : Ctx) (s : State) (e : List Byte) : Verdict :=
  let a := parseCopy e
  let d0 := readDesc s c.p a.src
  let t0 := readDesc s c.p a.dst
  let d := d0.localize s c.p
  let t := t0.localize s c.p
  match validateFrond s c.p [{ h := a.src }, { h := a.dst, write := true, fmtOk := a.croz != 1 || quantSlotOk s c.p t0 }] with
  | some (st, x) => .reject st x
  | none =>
    if namesKeep s c.p e [a.src, a.dst] then .reject stBadDesc 0
    else if a.croz > 1 ∨ (a.croz = 0 ∧ a.shift.any (· != 0)) ∨ srcShape d0 ≠ t0.ext ∨
        (srcShape d ≠ t.ext ∧ copySpreads d0 t0 d t = false) then .reject stBadDesc 0
    else if copyPairOk d t a.croz = false then .reject stFormat 0
    else if d.count = 0 then .ok s
    else if copySpreads d0 t0 d t then
      (if leavesExtent d (shardView d t0) a.shift ∧ d.oob = 0 then .reject stBounds (a.src + 5 * 2 ^ 16)
       else if a.croz = 1 ∧ t.wide ∧ t.rotSize ≠ 0 ∧ d.e 0 % 16 ≠ 0 then .reject stBadDesc 0
       else if a.croz = 1 ∧ jitRoom s c [t] = false then .reject stNoResource 0
       else copySpread s c a d0 t0)
    else if t.count = 0 then .ok s
    else if leavesExtent d t a.shift ∧ d.oob = 0 then .reject stBounds (a.src + 5 * 2 ^ 16)
    else if leavesExtent d t a.shift ∧ d.oob = 2 ∧ t.blocked ∧ t.space ≠ 1 then .reject stBadDesc 0
    else if a.croz = 1 ∧ t.wide ∧ t.rotSize ≠ 0 ∧ t.e 0 % 16 ≠ 0 then .reject stBadDesc 0
    else if a.croz = 1 ∧ jitRoom s c [t] = false then .reject stNoResource 0
    else if a.croz = 0 then
      .ok (if t.blocked then copyQuant s c d t else copyPlain s c d t)
    else
      let (s1, bad) := copyCroz s c d t a.shift
      .poisoned s1 stOK bad

/-! ### The embedding gather -/

/-- One element of a gathered row (R265): row `i` of the table along `dim`, inside the table, clamped or as a pad; none where an
index outside the table leaves the destination row unchanged. -/
def gatherElem (s : State) (f : Nat) (table t : Desc) (dim i : Nat) (c : List Nat) : Option CopyEl :=
  let at_ (r : Nat) (clamped : Bool) : CopyEl :=
    let k := updAt c dim (fun _ => r)
    let us := unitsOf (table.elemKey f k) table.elemSize
    ⟨c, readWide s f table k, if table.fam = t.fam then readBytes s (table.elemKey f k) table.elemSize
      else wideBytes t (readWide s f table k), us.any (unitPoison s), false, clamped, us⟩
  if i < table.e dim then some (at_ i false)
  else if table.oob = 0 then none
  else if table.oob = 1 then some (at_ (table.e dim - 1) true)
  else some ⟨c, padValue table, wideBytes t (padValue table), false, true, false, []⟩

/-- The embedding gather through a cushion's narrow port (R265, R297, R301): row `rows[j]` of the table goes to row `j` of the
destination, poison is carried, and the status is BOUNDS where an index outside the table left a row unchanged. An access is
one 256-byte unit of a row. No opcode of R317 starts it, so no row of the command table calls it (log 60). -/
def gatherRows (s : State) (c : Ctx) (table t : Desc) (dim : Nat) (rows : List Nat) : State × Nat :=
  let els : List (List CopyEl) := (rows.zipIdx).map (fun (i, j) =>
    ((List.range t.count).map (coordsOf t.ext)).filterMap (fun x =>
      if x.getD dim 0 = j then gatherElem s c.f table t dim i x else none))
  let out (i : Nat) : Bool := decide (table.e dim ≤ i)
  let k := cushionOf c.f
  let s1 := readUnits s (dedupNat (els.flatMap (fun l => l.flatMap (·.units))))
  let w := els.foldl (fun w l => l.foldl (fun w x => wputs w (t.elemKey c.f x.c) x.raw x.poison x.pad) w) ([] : WSet)
  let s2 := bump s1 CSH_NARROW_ACCESSES k (els.foldl (fun n l => n + (dedupNat (l.flatMap (·.units))).length) 0)
  let s3 := bump s2 CSH_LAYOUT_EVENTS_GATHER_CLAMP k (if table.oob = 1 then rows.countP out else 0)
  (bump (commitWrites s3 c.f w t.halo) FRD_POISON_EVENTS_CARRIED c.f (poisonedUnits w),
    if table.oob = 0 && rows.any out then stBounds else stOK)

def copyUsed : List (Nat × Nat) := [(32, 5), (38, 12)]

def execStreamCopy (q : QueueId) (n : W32) (mb : Nat) (s : State) : Host.Outcome State Fault Refusal :=
  .next (runEntry q n (· == 0x28) copyUsed
    (fun t e => (copyBody (ctxOf s q n mb) t e).keep (ctxOf s q n mb)) s)

end Sys2Proof.Machine
end

