-- ==== Sys2Proof/Machine/Emit.lean ====
section
/-! DEFINITION. Narrow weight copies (R85, R86, R103 to R106, R141 to R146, R149, R222, R229, R230, R257): where they lie, how
an update pass emits them with biases, widened blocks, directory and streaks, and how a fall-back emits them again. -/

namespace Sys2Proof.Machine

/-! ### Histories (R69 to R72, R92) -/

/-- A history after a commit that appends `a` (R71, R92). -/
def appendHist (depth step : Nat) (h : HistSt) (a : W32) (ovf : Bool) : HistSt :=
  let l := h.entries ++ [a]
  ⟨l.drop (l.length - depth), ovf, h.warm - 1, step, (h.head + 1) % max 1 depth⟩

/-- A slot's history as the commit of the present step will leave it. -/
def histAfter (s : State) (p : Nat) (k : SlotCfg) : HistSt :=
  let x := getPart s p
  appendHist k.depth (getF s ANC_STEP_COUNT_STEP p + 1) (getHist x k.slot) (tblGet pzero32 x.amax k.slot)
    (x.ovf.contains k.slot)

/-- The update pass of the present step emits a slot's copy by JIT (R89, R92): its own mode, warm-up in the next step, or a storm
that has quantised the slot and so puts it into warm-up at the commit (R155). -/
def nextJit (s : State) (p : Nat) (k : SlotCfg) : Bool :=
  match k.mode with
  | .fixed => false
  | .jit => true
  | .history => decide ((histAfter s p k).warm > 0) || (getPart s p).stormSlots.contains k.slot

/-- The tensor scale with which the update pass emits a copy for the next step (R89, R230). -/
def nextScale (s : State) (p : Nat) (k : SlotCfg) (f : ElemFmt) (aJit : W32) : W32 :=
  if k.mode = .fixed then k.fixed
  else if nextJit s p k then tensorScale f k.headroom (amaxUnits aJit)
  else tensorScale f k.headroom (histEstimate (histAfter s p k))

/-! ### Descriptors of sets and copies -/

/-- ROT_SIZE's code (R250). -/
def rotCode (n : Nat) : Nat := if n = 0 then 0 else Nat.log2 (n / 8)

/-- A dense descriptor of FP32 or BF16 elements of `rows` × `cols` (log 27). -/
def denseDesc (base rows cols : Nat) (bf16 : Bool) : Desc :=
  { fam := if bf16 then 5 else 6, width := 1, dims := 2, blk := 0, split := 1, space := 0, oob := 0, overlap := false
    halo := false, budget := 0, rot := 0, wcopy := false, group := 0, ext := [cols, rows, 1, 1, 1, 1]
    str := [1, Int.ofNat cols, 0, 0, 0, 0], seed := 0, baseE := base, baseM := 0, baseX := 0, baseG := 0
    slot := noSlot, pad := 0, padLo := List.replicate 6 0, padHi := List.replicate 6 0, shard := 0xFFFF, resv := true }

/-- The settings of a copy's GEMM (R103): FWD for the forward copy, DX for the backward one. -/
def copyGemm (s : State) (p : Nat) (t : TensorCfg) (fwd : Bool) : Option GemmCfg :=
  (layerCfg s p t.layer).map (fun l => if fwd then l.fwd else l.dx)

def copySlot (s : State) (p : Nat) (t : TensorCfg) (fwd : Bool) : Option SlotCfg :=
  slotCfg s p (if fwd then t.fwdSlot else t.bwdSlot)

/-- The reduction length and the lines of a copy: K and N for the forward copy, N and K for the backward one. -/
def copyLen (t : TensorCfg) (fwd : Bool) : Nat := if fwd then t.rows else t.cols
def copyLines (t : TensorCfg) (fwd : Bool) : Nat := if fwd then t.cols else t.rows

/-- The descriptor of a copy at its addresses (R222, R254; log 27): dimension 1 is the reduction axis. -/
def copyDesc (s : State) (p : Nat) (t : TensorCfg) (fwd : Bool) (a : CopyAddr) : Option Desc :=
  match copySlot s p t fwd, copyGemm s p t fwd with
  | some k, some g =>
    let c := copyLines t fwd
    let r := copyLen t fwd
    some { fam := k.family, width := (if k.family = 5 ∨ k.family = 6 then 1 else k.width), dims := 2, blk := 1, split := 1
           space := 0, oob := 0, overlap := false, halo := false, budget := k.budget, rot := rotCode g.rot, wcopy := true
           group := t.groupCode, ext := [c, r, 1, 1, 1, 1], str := [1, Int.ofNat c, 0, 0, 0, 0], seed := g.seed
           baseE := a.elems, baseM := a.metas, baseX := a.epis, baseG := a.header, slot := k.slot, pad := 0
           padLo := List.replicate 6 0, padHi := List.replicate 6 0, shard := 0xFFFF, resv := true }
  | _, _ => none

/-- The value of a master element as it reaches emission, and whether it is poisoned: by row `k` and column `n`. -/
abbrev MasterVal := Nat → Nat → W32 × Bool

/-- The lines that a copy's store takes: along the reduction axis, cut into rotation groups or blocks. -/
def copyQLines (t : TensorCfg) (fwd : Bool) (d : Desc) (v : MasterVal) : List QLine :=
  let len := copyLen t fwd
  let sizes := if d.rotSize = 0 then List.replicate (len / 16) 16 else rotPieces d.rotSize len
  (List.range (copyLines t fwd)).flatMap (fun c =>
    (sizes.foldl (fun (acc : Nat × List QLine) n =>
      let els := (List.range n).map (fun i => if fwd then v (acc.1 + i) c else v c (acc.1 + i))
      (acc.1 + n, acc.2 ++ [⟨[c, acc.1, 0, 0, 0, 0], els.map (·.1), els.any (·.2)⟩])) (0, [])).2)

/-! ### The previous copy (R85, R141, R142) -/

/-- What a block of the previous copy says: widened, streak, nominal bias and 8-bit bias. -/
structure PrevBlock where
  widened : Bool
  streak  : Nat
  bias    : Nat
  bias8   : Nat
  deriving DecidableEq, Repr

def prevBlock (s : State) (f : Nat) (d : Desc) (a : CopyAddr) (reset : Bool) (i : Nat) (b : List Nat) : PrevBlock :=
  let shape := readNat s (d.blkMetaKey f b + 1) 1
  let streak := bitsOf (readNat s (a.streak + i / 2) 1) (4 * (i % 2)) 4
  let sp := match readHeader s f d with
    | some h => (readSpill s f d h i).2
    | none => none
  let nb := if reset then 0 else bitsOf shape 5 2
  match decide (bitsOf shape 3 2 = 3), sp with
  | true, some (_, w) => ⟨true, streak, nb, if reset then 0 else bitsOf w 13 2⟩
  | _, _ => ⟨false, streak, nb, nb⟩

/-! ### Emission by an update pass (R142) -/

/-- One block in emission: its canonical index, its input, the trial, what the previous copy says, its streak count and
whether it asks for a spill entry. -/
structure EmitBlock where
  i     : Nat
  x     : QIn
  trial : QBlock
  prev  : PrevBlock
  s     : Nat
  want  : Bool
  deriving DecidableEq, Repr

/-- The blocks that get spill entries: first those that stay widened, then new ones, in canonical order (R142). -/
def grantSpill (cap : Nat) (l : List EmitBlock) : List Nat :=
  ((l.filter (fun b => b.want && b.prev.widened) ++ l.filter (fun b => b.want && !b.prev.widened)).take cap).map (·.i)

/-- A widened block's main slot (R143). -/
def widenedMain (w : WSet) (d : Desc) (f : Nat) (b : List Nat) (bias : Nat) (poison : Bool) : WSet :=
  let w1 := wputs w (d.blkElemKey f b) (List.replicate (2 * d.width) 0#8) poison
  let w2 := wputs w1 (d.blkMetaKey f b) [0#8, BitVec.ofNat 8 (d.width - 1 + 3 * 8 + bias * 32)] poison
  if d.budget = 0 then w2 else wputs w2 (d.blkEpiKey f b) (List.replicate (3 * d.budget) 0#8) poison

/-- The header of a copy (R257). -/
def copyHeader (s : State) (p : Nat) (t : TensorCfg) (fwd : Bool) (d : Desc) (version rung : Nat) (full : Bool)
    (qw tw cap : Nat) (a : CopyAddr) (planes : Bool) : CopyHeader :=
  let g := copyGemm s p t fwd
  { version := version, layer := t.layer, rot := d.rot, promote := (g.map (·.promote)).getD 8, rung := rung
    flags := b2n full, seed := d.seed, kseg := (g.map (·.kseg)).getD 0, qw := qw, tw := tw
    groupTable := if d.fam = 1 ∨ d.fam = 4 then t.groupTable else 0
    spillBase := if cap = 0 then 0 else a.spill, spillCap := cap, dirBase := if cap = 0 then 0 else a.dir
    streakBase := if planes then a.streak else 0 }

/-- The emission of one block-quantised copy for the next step: trials, spill grants, planes, spill region, directory,
streaks and header, with the events, the amax and the scale that the commit takes over (R142 to R147, R230). -/
def emitBlocks (s : State) (c : Ctx) (t : TensorCfg) (fwd : Bool) (k : SlotCfg) (d : Desc) (ef : ElemFmt)
    (dst : CopyAddr) (pd : Desc) (pa : CopyAddr) (v : MasterVal) : State :=
  let (blocks, bad) := rotateLines d (slotSide (some k)) (copyQLines t fwd d v)
  let amax := amaxOf (blocks.flatMap (·.vals))
  let st := nextScale s c.p k ef amax
  let jit := nextJit s c.p k
  let steps := ((partCfg s c.p).map (·.troubleSteps)).getD 3
  let reset := (getPart s c.p).rebias.contains (2 * t.tensor + b2n (!fwd)) || !k.weight
  let hdr0 := copyHeader s c.p t fwd d 0 0 false 0 0 0 dst true
  let grp (b : List Nat) : Group := readGroup s c.f d (some hdr0) b
  let ems := blocks.map (fun x =>
    let i := linearOf d.unitExt x.at_
    let pr := prevBlock s c.f pd pa reset i x.at_
    let tr := quantiseBlock ef (grp x.at_) ⟨st, k.weight, k.crush, d.budget, k.shift⟩ pr.bias x.vals
    let n := if pr.widened then (if tr.ev.troubled then 0 else pr.streak + 1)
      else if tr.ev.troubled then min (pr.streak + 1) 15 else 0
    (⟨i, x, tr, pr, n, if pr.widened then decide (n < steps) else decide (n ≥ steps)⟩ : EmitBlock))
  let q := ems.length
  let cap := ceilDiv (t.spill64ths * q) 64
  let granted := grantSpill cap ems
  let wide (b : EmitBlock) : QBlock :=
    match elemFmt d.family 8 with
    | some f8 => quantiseBlock f8 (grp b.x.at_) ⟨st, k.weight, k.crush, 0, k.shift⟩
        (if b.prev.widened then b.prev.bias8 else b.prev.bias) b.x.vals
    | none => b.trial
  let outs := ems.map (fun b => (b, if granted.contains b.i then some (wide b) else none))
  let denied := outs.countP (fun o => o.1.want && o.2.isNone)
  let streakOf (o : EmitBlock × Option QBlock) : Nat :=
    match o.2 with
    | some _ => if o.1.prev.widened then o.1.s else 0
    | none => if o.1.prev.widened then (if o.1.want then steps else 0) else o.1.s
  let written (o : EmitBlock × Option QBlock) : QBlock := o.2.getD o.1.trial
  let tw := outs.countP (fun o => (written o).ev.troubled)
  let ev := outs.foldl (fun (e : QEvents) o =>
    match o.2 with
    | some w => (e.add { o.1.trial.ev with taken := 0, epiInf := 0 }).add w.ev   -- no epiphyte of the trial is written (R114)
    | none => e.add o.1.trial.ev) ({ rotNonfinite := bad } : QEvents)
  let spilled := (outs.filterMap (fun o => o.2.map (fun w => (o.1, w))))
  let w0 := outs.foldl (fun w o =>
    match o.2 with
    | some _ => widenedMain w d c.f o.1.x.at_ o.1.trial.bias o.1.x.poison
    | none => putBlock w d c.f o.1.x.at_ o.1.trial o.1.x.poison) ([] : WSet)
  let w1 := if cap = 0 then w0 else
    let ws := (spilled.zipIdx).foldl (fun w (o, j) =>
      wputs w (dst.spill + 18 * j) (packCodes 8 o.2.codes ++
        [BitVec.ofNat 8 o.2.scale, BitVec.ofNat 8 (shapeByte 8 3 o.2.bias o.2.crush)]) o.1.x.poison) w0
    (List.range (ceilDiv q 64)).foldl (fun w g =>
      let bm := (spilled.filter (fun o => o.1.i / 64 == g)).foldl (fun n o => n + 2 ^ (o.1.i % 64)) 0
      wputs w (dst.dir + 16 * g) (leBytes 8 bm ++ leBytes 4 (spilled.countP (fun o => decide (o.1.i / 64 < g)))
        ++ leBytes 4 0)) ws
  let sk (i : Nat) : Nat := ((outs.find? (fun o => o.1.i == i)).map streakOf).getD 0
  let w2 := wputs w1 dst.streak ((List.range (ceilDiv q 2)).map (fun j =>
    BitVec.ofNat 8 (sk (2 * j) + 16 * sk (2 * j + 1))))
  let hdr := copyHeader s c.p t fwd d (getF s ANC_STEP_COUNT_STEP c.p + 1) (startRung d.fam d.width) (decide (denied > 0))
    q tw cap dst true
  let w3 := wputs w2 (d.headerKey c.f) (headerBytes hdr)
  let s1 := bumpQuant s c.f ev
  let s2 := bump (bump (bump s1 FRD_FB_EVENTS_WIDENED c.f (spilled.countP (fun o => !o.1.prev.widened)))
    FRD_FB_EVENTS_NARROWED c.f (outs.countP (fun o => o.2.isNone && o.1.prev.widened && !o.1.want)))
    FRD_FB_EVENTS_SPILL_DENIED c.f denied
  let s3 := bump s2 ANC_FB_COUNTS_SPILL_FULL c.p (b2n (decide (denied > 0)))
  let s4 := modPart s3 c.p (fun x => { x with
    nextAmax := tblModify pzero32 x.nextAmax k.slot (amaxJoin amax)
    nextOvf := if outs.any (fun o => (written o).ev.overflow > 0) && !x.nextOvf.contains k.slot then x.nextOvf ++ [k.slot]
      else x.nextOvf
    nextScales := tblPut x.nextScales k.slot (some ⟨st, jit⟩) })
  commitWrites s4 c.f w3

/-- The sets of a tensor as the selector places them. -/
def activeSet (s : State) (p : Nat) (t : TensorCfg) : SetAddr :=
  if t.updatable && tblGet 0 (getPart s p).select t.tensor == 1 then t.set1 else t.set0
def alternateSet (s : State) (p : Nat) (t : TensorCfg) : SetAddr :=
  if tblGet 0 (getPart s p).select t.tensor == 1 then t.set0 else t.set1

/-- The master of a set. -/
def masterDesc (t : TensorCfg) (a : SetAddr) : Desc := denseDesc a.master t.rows t.cols false

def masterVal (s : State) (f : Nat) (t : TensorCfg) (a : SetAddr) : MasterVal := fun k n =>
  let d := masterDesc t a
  (readWide s f d [n, k, 0, 0, 0, 0], rangePoison s (d.elemKey f [n, k, 0, 0, 0, 0]) 4)

def masterUnits (t : TensorCfg) (a : SetAddr) : List Nat := unitsOf a.master (4 * t.rows * t.cols)

/-- The emission of one copy of a tensor into the alternate set (R229): block-quantised, FP32, BF16 or none. A copy under JIT
takes its values from the new masters, which the engine has written, reads once to form a_jit and again to quantise (R89). -/
def emitCopy (s : State) (c : Ctx) (t : TensorCfg) (fwd : Bool) (dst prev : SetAddr) (v : MasterVal) : State :=
  let a := if fwd then dst.fwd else dst.bwd
  let pa := if fwd then prev.fwd else prev.bwd
  match copySlot s c.p t fwd, copyDesc s c.p t fwd a, copyDesc s c.p t fwd pa with
  | some k, some d, some pd =>
    if d.wide then
      let hdr := copyHeader s c.p t fwd d (getF s ANC_STEP_COUNT_STEP c.p + 1) 3 false 0 0 0 a false
      let w := (List.range (copyLines t fwd)).foldl (fun w i =>
        (List.range (copyLen t fwd)).foldl (fun w j =>
          let x := if fwd then v j i else v i j
          putWide w d c.f [i, j, 0, 0, 0, 0] x.1 x.2) w) ([] : WSet)
      commitWrites s c.f (wputs w (d.headerKey c.f) (headerBytes hdr))
    else
      match elemFmt d.family d.width with
      | some ef =>
        if copyLen t fwd % 16 ≠ 0 then s
        else if nextJit s c.p k then
          emitBlocks (readUnits (readUnits s (masterUnits t dst)) (masterUnits t dst)) c t fwd k d ef a pd pa
            (masterVal s c.f t dst)
        else emitBlocks s c t fwd k d ef a pd pa v
      | none => s
  | _, _, _ => s

/-! ### Re-emission (R149, R154, R230) -/

/-- A narrow copy emitted again from the ACTIVE master at its slot's present rung: bias 0, no spill region, no streaks. Under JIT
the masters are read twice (R89); a weight slot's scale stays with the reserve's copy (R572). -/
def reemitCopy (s : State) (c : Ctx) (t : TensorCfg) (fwd : Bool) : State :=
  let set := activeSet s c.p t
  match copySlot s c.p t fwd, copyDesc s c.p t fwd (if fwd then set.fwd else set.bwd) with
  | some k, some d =>
    if d.blocked = false ∨ copyLen t fwd % 16 ≠ 0 then s
    else
      let (blocks, bad) := rotateLines d (slotSide (some k)) (copyQLines t fwd d (masterVal s c.f t set))
      let amax := amaxOf (blocks.flatMap (·.vals))
      let (rung, storm) := targetRung s c k
      let (fam, wd) := rungFormat d.fam d.width rung
      let ver := ((readHeader s c.f d).map (·.version)).getD 0
      let s0 := readUnits s (masterUnits t set)
      if fam = 5 then
        let s1 := ensureReloc s0 c d rung storm one32
        let d1 := readSide s1 c.p d
        let s2 := bump (noteAmax s1 c.p k amax false) FRD_EPI_EVENTS_ROT_NONFINITE c.f bad
        let hdr := copyHeader s2 c.p t fwd d ver rung false blocks.length 0 0 (if fwd then set.fwd else set.bwd) false
        commitWrites (noteStorm s2 c k rung) c.f
          (wputs (putBf16Blocks [] d1 c.f d.blk blocks) (d1.headerKey c.f) (headerBytes hdr))
      else
        match elemFmt (Family.ofCode fam) wd with
        | none => s
        | some ef =>
          let (st, jit) := quantScale s0 c.p k ef storm amax
          let s1 := ensureReloc (if jit then readUnits s0 (masterUnits t set) else s0) c d rung storm st
          let d1 := readSide s1 c.p d
          let hdr0 := copyHeader s1 c.p t fwd d ver rung false 0 0 0 (if fwd then set.fwd else set.bwd) false
          let qs := blocks.map (fun b => (b, quantiseBlock ef (readGroup s1 c.f d1 (some hdr0) b.at_)
            ⟨st, k.weight, k.crush, k.budget, k.shift⟩ 0 b.vals))
          let ev := qs.foldl (fun (e : QEvents) x => e.add x.2.ev) ({ rotNonfinite := bad } : QEvents)
          let tw := qs.countP (fun x => x.2.ev.troubled)
          let hdr := copyHeader s1 c.p t fwd d ver rung false qs.length tw 0 (if fwd then set.fwd else set.bwd) false
          let s2 := if jit && !k.weight then recordJit s1 c.p k d.baseM st else s1
          let s3 := noteStorm (noteAmax (bumpQuant s2 c.f ev) c.p k amax (decide (ev.overflow > 0))) c k rung
          commitWrites s3 c.f (wputs (qs.foldl (fun w x => putBlock w d1 c.f x.1.at_ x.2 x.1.poison) [])
            (d1.headerKey c.f) (headerBytes hdr))
  | _, _ => s

/-- The tensors of a partition, by ascending index. -/
def partTensors (s : State) (p : Nat) : List TensorCfg :=
  sortBy (fun a b => decide (a.tensor ≤ b.tensor)) ((cfgOf s).tensors.filter (fun t => t.part == p))

/-- The copies of a pass of a layer are emitted again (R149 step 2). -/
def reemitLayer (s : State) (c : Ctx) (layer pass : Nat) : State :=
  ((partTensors s c.p).filter (fun t => t.layer == layer)).foldl (fun s t => reemitCopy s c t (pass == 0)) s

end Sys2Proof.Machine
end

