-- ==== Sys2Proof/Machine/Drain.lean ====
section
/-! DEFINITION. The drains of a PEAT set (R224, R239, R241, R242, R417, R420, R421) and the forward copies that reach a rollout
partition (R31, R33). -/

namespace Sys2Proof.Machine

/-! ### What a set holds -/

def stateDesc (t : TensorCfg) (a : SetAddr) (k : Nat) : Desc :=
  denseDesc (if k = 0 then a.slot0 else a.slot1) t.rows t.cols (t.slotBf16.getD k false)

/-- The byte runs of a copy in R421's order: header, element, metadata and epiphyte planes, spill region, directory and
streak plane. -/
def copyRuns (s : State) (p : Nat) (t : TensorCfg) (fwd : Bool) (a : CopyAddr) : List (Nat × Nat) :=
  match copyDesc s p t fwd a with
  | none => []
  | some d =>
    let n := d.unitCount
    if d.wide then [(a.header, 128), (a.elems, d.elemSize * n)]
    else
      let cap := ceilDiv (t.spill64ths * n) 64
      [(a.header, 128), (a.elems, 2 * d.width * n), (a.metas, 2 * n), (a.epis, 3 * d.budget * n)]
      ++ (if cap = 0 then [] else [(a.spill, 18 * cap), (a.dir, 16 * ceilDiv n 64)]) ++ [(a.streak, ceilDiv n 2)]

/-- The items of a set by ITEM number (R420): master, state slots, forward and backward copies. -/
def setItems (s : State) (p : Nat) (t : TensorCfg) (a : SetAddr) : List (Nat × List (Nat × Nat)) :=
  let n := t.rows * t.cols
  let st (k base : Nat) : List (Nat × List (Nat × Nat)) :=
    if k < t.slots then [(1 + k, [(base, (if t.slotBf16.getD k false then 2 else 4) * n)])] else []
  [(0, [(a.master, 4 * n)])] ++ st 0 a.slot0 ++ st 1 a.slot1
  ++ [(3, copyRuns s p t true a.fwd), (4, copyRuns s p t false a.bwd)]

/-! ### The checkpoint stream (R420, R421) -/

/-- A byte of a drain and whether it carries poison (R301). -/
abbrev Marked := Byte × Bool

def plainBytes (l : List Byte) : List Marked := l.map (fun b => (b, false))

/-- The bytes of a run of memory, each marked as its unit is. -/
def readMarked (s : State) (k n : Nat) : List Marked :=
  (List.range n).map (fun i => (readByte s (k + i), unitPoison s ((k + i) / 256)))

/-- The byte runs of some items of a set. -/
def runsOf (items : List (Nat × List (Nat × Nat))) : List (Nat × Nat) := items.flatMap (·.2)

/-- The machine after a drain's reads of some runs: each block is checked as any read of it is (R299). -/
def readRuns (s : State) (runs : List (Nat × Nat)) : State := readUnits s (dedupNat (runs.flatMap (fun r => unitsOf r.1 r.2)))

/-- One record: header, payload and padding. -/
def streamRecord (type source tensor version item offset records : Nat) (payload : List Marked) : List Marked :=
  let body := payload.map (·.1)
  let head := leBytes 2 type ++ leBytes 2 source ++ leBytes 4 tensor ++ leBytes 8 version ++ leBytes 1 item ++ leBytes 3 0 ++
    leBytes 4 body.length ++ leBytes 8 offset ++ leBytes 4 (crc32c body) ++ leBytes 4 0 ++ leBytes 4 records
  plainBytes (head ++ leBytes 4 (crc32c head)) ++ payload ++ plainBytes (List.replicate (roundUp body.length 16 - body.length) 0#8)

/-- A scale-history record (R90). Entries stand in ring order; a place that holds no entry is zero (log 39). -/
def historyRecord (k : SlotCfg) (h : HistSt) : List Byte :=
  let n := h.entries.length
  let ring := (List.range k.depth).map (fun i =>
    let age := (h.head + k.depth - 1 - i) % k.depth
    if age < n then (h.entries.getD (n - 1 - age) pzero32).toNat else 0)
  leBytes 4 k.slot ++ leBytes 1 n ++ leBytes 1 h.head ++ leBytes 1 (b2n h.ovf + 2 * b2n (decide (h.warm > 0))) ++
  leBytes 1 k.depth ++ leBytes 8 h.step ++ ring.flatMap (leBytes 4)

/-- A tensor's records: its items in pieces of at most 1 MiB. -/
def tensorRecords (s : State) (p version source : Nat) (t : TensorCfg) (set : SetAddr) : List (List Marked) :=
  (setItems s p t set).flatMap (fun it =>
    let bytes := it.2.flatMap (fun r => readMarked s r.1 r.2)
    ((chunks (2 ^ 20) bytes).zipIdx).map (fun (c, i) => streamRecord 3 source t.tensor version it.1 (i * 2 ^ 20) 0 c))

def streamSource (s : State) (p : Nat) : Nat := s.fabric.addr.getD 0 + p * 2 ^ 12

/-- The records before the first tensor. -/
def streamStart (s : State) (p version : Nat) : List (List Marked) :=
  [streamRecord 1 (streamSource s p) 0 version 0 0 0
    (plainBytes (leBytes 8 version ++ leBytes 8 ((getPart s p).lastConf.getD 0))),
   streamRecord 2 (streamSource s p) 0 version 0 0 0 (plainBytes s.cfg.committed.manifest)]

/-- The records after the last tensor, where `n` records have gone before: a history record for every slot of the partition
(R90), those in FIXED mode without an entry. -/
def streamEnd (s : State) (p version n : Nat) : List (List Marked) :=
  let x := getPart s p
  let hist := ((cfgOf s).slots.filter (fun k => k.part == p)).map (fun k =>
    historyRecord k (tblGet HistSt.empty x.peatSnap.hist k.slot))
  let body := [streamRecord 4 (streamSource s p) 0 version 0 0 0 (plainBytes (hist.flatMap id)),
    streamRecord 5 (streamSource s p) 0 version 0 0 0 (plainBytes x.peatSnap.norms),
    streamRecord 6 (streamSource s p) 0 version 0 0 0 (plainBytes (x.ckptTraces.flatMap id))]
  body ++ [streamRecord 0xFF (streamSource s p) 0 version 0 0 (n + body.length + 1) []]

/-! ### Sending -/

/-- Whether a destination is one of the rollouts. -/
def DrainDest.isRollout : DrainDest → Bool
  | .rollout _ => true
  | _ => false

/-- ANC_DRAIN_STATE (R246). -/
def setDrainRegs (s : State) (p : Nat) : State :=
  match (getPart s p).drain with
  | none => s
  | some d =>
    let done (k : DrainDest → Bool) : Nat := b2n (d.dests.all (fun x => !k x.dest || x.gaveUp ||
      (x.waiting.isEmpty && x.await.isEmpty)))
    let pend := (dedupNat (d.dests.flatMap (fun x => if x.gaveUp then [] else x.waiting))).length
    let s1 := setF (setF s ANC_DRAIN_STATE_PENDING p (min pend (2 ^ 24 - 1))) ANC_DRAIN_STATE_BUDDY_DONE p (done (· == .buddy))
    let s2 := setF (setF s1 ANC_DRAIN_STATE_ROLLOUT_DONE p (done (·.isRollout))) ANC_DRAIN_STATE_CKPT_DONE p
      (done (· == .checkpoint))
    setF (setF s2 ANC_DRAIN_STATE_CKPT_DUE p (b2n d.ckpt)) ANC_DRAIN_STATE_VERSION_LO p (d.version % 2 ^ 32)

/-- The multicast groups by which a partition's copies reach its rollouts: this device is the root (R34, R358). -/
def rolloutGroups (s : State) (p : Nat) : List McastCfg :=
  (cfgOf s).mcast.filter (fun m => some m.root == s.fabric.addr && m.rootPart == p)

/-- The entry of one of them. -/
def rolloutGroup (s : State) (p g : Nat) : Option McastCfg := (rolloutGroups s p).find? (fun m => m.group == g)

/-- The address on the buddy of byte `o` of slot `k` (R417; log 40): each slot is half of the named granules. -/
def buddyAddr (b : BuddyCfg) (k o : Nat) : Nat :=
  let at_ := k * (b.granules.length * 2 ^ 29) + o
  b.granules.getD (at_ / 2 ^ 30) 0 * 2 ^ 30 + at_ % 2 ^ 30

/-- Bytes cut where the destination crosses 256 bytes, with their offsets. -/
def cut256 (o : Nat) (l : List Marked) : List (Nat × List Marked) :=
  let first := 256 - o % 256
  ((o, l.take first) :: ((chunks 256 (l.drop first)).zipIdx).map (fun (c, i) => (o + first + 256 * i, c))).filter
    (fun x => !x.2.isEmpty)

/-- A message of a drain: its transaction (kind 4 to the buddy, 5 for a checkpoint) stays until its WRITE_ACK. -/
def drainMsg (s : State) (p dst mtype addr : Nat) (pl : List Marked) : State :=
  let tag := s.fabric.nextTag
  let s1 := { s with fabric := { s.fabric with
    nextTag := (tag + 1) % 2 ^ 16
    txns := s.fabric.txns ++ [⟨tag, dst, 14, s.counter, if mtype = 0x08 then 5 else 4, p, addr, pl.length⟩] } }
  sendMsg s1 14 { dst := dst, part := p, mtype := mtype, tag := tag, addr := addr, payload := pl.map (·.1)
                  poison := pl.any (·.2) }

/-! ### Copies on their way into a receive region (R31, R358) -/

def mcastRx (s : State) (g : Nat) : McastRx := (s.fabric.mcast.find? (fun x => x.group == g)).getD ⟨g, 0, []⟩
def putMcastRx (s : State) (x : McastRx) : State :=
  { s with fabric := { s.fabric with mcast := s.fabric.mcast.filter (fun y => y.group != x.group) ++ [x] } }

def mcastReject (s : State) : State := bump s FAB_MSG_EVENTS_MCAST_REJECT 0 1

/-- Bytes of a copy arrive at offset `o` of the receive region of entry `e`, into INCOMING; those outside the region are not
written (R358). They become INCOMING's once the copy is completely received (R359; log 103). -/
def stageBytes (s : State) (e : McastCfg) (o : Nat) (l : List Byte) (poison : Bool) : State :=
  if o + l.length > e.rxLen then mcastReject s
  else
    let x := mcastRx s e.group
    putMcastRx s { x with bytes := x.bytes + l.length, cells := wputs x.cells (e.rxBase + o) l poison }

/-- The scale set as it travels behind the last tensor of a copy (R73; log 36): for each slot its number, with the JIT flag in
bit 31, and its S_t; and then the number of slots. -/
def scaleSetBytes (t : Tbl ScaleEntry) : List Byte :=
  t.flatMap (fun e => leBytes 4 (e.1 % 2 ^ 31 + b2n e.2.jit * 2 ^ 31) ++ leBytes 4 e.2.st.toNat) ++ leBytes 8 t.length

/-- The scale set that came with a copy, from the end of its bytes. -/
def receivedScales (cells : WSet) : Tbl ScaleEntry :=
  let top := (cells.map (·.1)).foldl (fun m k => max m (k + 1)) 0
  let at_ (k n : Nat) : Nat := leNat ((List.range n).map (fun i => ((tblFind cells (k + i)).map (·.val)).getD 0))
  let n := at_ (top - 8) 8
  if 8 * n + 8 ≤ cells.length then
    (List.range n).foldl (fun t i =>
      let k := top - 8 - 8 * n + 8 * i
      let w := at_ k 4
      tblPut t (w % 2 ^ 31) (some ⟨BitVec.ofNat 32 (at_ (k + 4) 4), decide (2 ^ 31 ≤ w)⟩)) []
  else []

/-- Bytes of the stream at offset `o` go to a destination. -/
def sendStream (s : State) (p : Nat) (dest : DrainDest) (version o : Nat) (l : List Marked) : State :=
  match dest with
  | .buddy =>
    match (partCfg s p).bind (·.buddy) with
    | some b => (cut256 o l).foldl (fun s x => drainMsg s p b.dev 0x01 (buddyAddr b (version % 2) x.1) x.2) s
    | none => s
  | .checkpoint =>
    (cut256 o l).foldl (fun s x => drainMsg s p (s.fabric.addr.getD 0 / 16 * 16) 0x08 x.1 x.2) s
  | .rollout g =>
    match rolloutGroup s p g with
    | none => s
    | some m =>
      (cut256 o l).foldl (fun s x =>
        let pl := x.2.map (·.1)
        let poison := x.2.any (·.2)
        let s1 := sendMsg s 15 { dst := m.group, part := p, mtype := 0x09, flags := 1, addr := x.1, payload := pl, poison := poison }
        if m.localRx then stageBytes s1 m x.1 pl poison else s1) s

/-- The set that the drain reads: the one set of a frozen tensor, the replaced set of one that the commit flipped, else the
ACTIVE set, which is the set of the drain's version too. -/
def drainedSet (s : State) (p : Nat) (t : TensorCfg) (flipped : List Nat) : SetAddr :=
  if !t.updatable then t.set0 else if flipped.contains t.tensor then alternateSet s p t else activeSet s p t

/-- The items of a tensor that the drain sends to rollouts: its forward copy with all its planes. -/
def forwardItems (s : State) (p : Nat) (t : TensorCfg) (set : SetAddr) : List (Nat × List (Nat × Nat)) :=
  (setItems s p t set).filter (fun i => i.1 == 3)

/-- Where the forward copies of the tensors below `tn` end in the receive region: every tensor of the partition has its place
there, in ascending order, whether a drain sends it or not (log 103). -/
def copyOffset (s : State) (p tn : Nat) : Nat :=
  (((partTensors s p).filter (fun t => decide (t.tensor < tn))).map (fun t =>
    ((runsOf (forwardItems s p t t.set0)).map (·.2)).sum)).sum

/-- The next tensor of a destination is sent: with the records before the first tensor, and after the last one the end of
the stream, or the scale set and the fence of a multicast (R73, R359, R417). -/
def sendHead (s0 : State) (p version : Nat) (flipped : List Nat) (d : DestSt) : State × DestSt :=
  match d.waiting with
  | [] => (s0, d)
  | tn :: rest =>
    match tensorCfg s0 p tn with
    | none => (s0, d)
    | some t =>
      let set := drainedSet s0 p t flipped
      match d.dest with
      | .rollout g =>
        let runs := runsOf (forwardItems s0 p t set)
        let s := readRuns s0 runs
        let bytes := runs.flatMap (fun r => readMarked s r.1 r.2)
        let s1 := sendStream s p (.rollout g) version (copyOffset s p tn) bytes
        match rest, rolloutGroup s p g with
        | [], some m =>
          let tail := plainBytes (scaleSetBytes (getPart s p).peatSnap.scales)
          let s2 := sendStream s1 p (.rollout g) version (copyOffset s p (2 ^ 32)) tail
          let total := d.sent + bytes.length + tail.length
          (sendMsg s2 15 { dst := m.group, part := p, mtype := 0x0A, flags := 1, tag := g
                           payload := leBytes 8 version ++ leBytes 8 total },
           { d with sent := total, since := s.counter })
        | _, _ => (s1, { d with sent := d.sent + bytes.length, since := s.counter })
      | dest =>
        let s := readRuns s0 (runsOf (setItems s0 p t set))
        let first := if d.records = 0 then streamStart s p version else []
        let mid := tensorRecords s p version (streamSource s p) t set
        let n := d.records + first.length + mid.length
        let last := if rest.isEmpty then streamEnd s p version n else []
        let bytes := (first ++ mid ++ last).flatMap id
        let s1 := if d.records = 0 then
            match dest, (partCfg s p).bind (·.buddy), tblFind (getPart s p).buddyEnd (version % 2) with
            | .buddy, some b, some o =>
              drainMsg s p b.dev 0x01 (buddyAddr b (version % 2) o) (plainBytes (List.replicate 48 0#8))
            | _, _, _ => s
          else s
        let s2 := sendStream s1 p dest version d.sent bytes
        let total := d.sent + bytes.length
        let s3 := if rest.isEmpty && dest == .buddy then modPart s2 p (fun x => { x with
            buddyEnd := tblPut x.buddyEnd (version % 2) (some (total - 48)) }) else s2
        (s3, { d with sent := total, records := n, since := s.counter })

/-- The drain of the set that an accepted commit replaced (R224, R241; log 38): every updatable tensor goes to every destination
that is due, and the frozen ones with the first drain that a destination gets after load, and with every checkpoint. `flipped`
are the tensors updated. -/
def startDrain (s : State) (p step version : Nat) (flipped : List Nat) : State :=
  match partCfg s p with
  | none => s
  | some pc =>
    let x := getPart s p
    let pick (f : TensorCfg → Bool) : List Nat :=
      sortBy (fun a b => decide (a ≤ b)) (((partTensors s p).filter f).map (·.tensor))
    let all := pick (fun _ => true)
    let some_ (k : DrainDest) : List Nat := if x.served.contains k then pick (·.updatable) else all
    let ckpt := decide (step % max 1 pc.ckptInterval = 0)
    let dest (d : DrainDest) (ts await : List Nat) : DestSt := ⟨d, ts, await, s.counter, false, false, 0, 0⟩
    let rolls := if x.accepted % max 1 pc.rolloutEvery = 0 then rolloutGroups s p else []
    let dests := (if pc.buddy.isSome then [dest .buddy (some_ .buddy) []] else [])
      ++ rolls.map (fun m => dest (.rollout m.group) (some_ (.rollout m.group))
        (m.receivers.filter (fun d => some d != s.fabric.addr)))
      ++ (if ckpt then [dest .checkpoint all []] else [])
    let s1 := modPart s p (fun y => { y with
      ckptTraces := if ckpt then y.traces else y.ckptTraces
      traces := if ckpt then [] else y.traces
      served := y.served ++ (dests.map (·.dest)).filter (fun k => !y.served.contains k) })
    let (s2, ds) := dests.foldl (fun (acc : State × List DestSt) d =>
      let (t, d1) := sendHead acc.1 p version flipped d
      (t, acc.2 ++ [d1])) (s1, [])
    setDrainRegs (modPart s2 p (fun y => { y with drain := some ⟨version, ckpt, flipped, ds⟩ })) p

/-- Every destination that R34 and R35 name has the whole set, or was abandoned. -/
def drainDone (s : State) (p : Nat) : Bool :=
  match (getPart s p).drain with
  | none => true
  | some d => d.dests.all (fun x => x.gaveUp || (x.waiting.isEmpty && x.await.isEmpty))

/-- The alternate set of a tensor may be written (R239): it is no PEAT set, or every destination of the drain has it or was
abandoned. -/
def tensorDrained (s : State) (p t : Nat) : Bool :=
  match (getPart s p).drain with
  | none => true
  | some d => !d.flipped.contains t || d.dests.all (fun x => x.gaveUp || !x.waiting.contains t)

/-! ### Copies that reach a rollout (R31, R33) -/

/-- A completely received copy at rollout partition `p` (R33): discarded where its version is not above ACTIVE's, or not above
that of a complete copy in INCOMING; else it becomes INCOMING. Bytes that it does not carry stay as the copy that it replaces
had them. -/
def incomingCopy (s : State) (p version : Nat) (scales : Tbl ScaleEntry) (cells : WSet) : State :=
  let x := getPart s p
  let record (kept dropped kind : Nat) (s : State) : State :=
    logEvent s 0x0102 0 0 0 (some p) (leBytes 8 kept ++ leBytes 8 dropped ++ leBytes 1 kind)
  let old := match x.incoming with
    | some c => if c.complete then some c else none
    | none => none
  match x.active.filter (fun a => decide (version ≤ a.version)), old with
  | some a, _ => record a.version version 0 s
  | none, some c =>
    if version ≤ c.version then record c.version version 0 s
    else
      let new : CopySt := ⟨version, true, scales, cells.foldl (fun w e => wput w e.1 e.2) c.cells⟩
      record version c.version 1 (setPart s p { x with incoming := some new })
  | none, none =>
    let new : CopySt := ⟨version, true, scales, cells⟩
    setPart s p { x with incoming := some new }

/-- The end of a copy at entry `e`, of which `total` bytes were sent: it is INCOMING's where all of them arrived, and is discarded
where not (R359). -/
def endCopy (s : State) (e : McastCfg) (version total : Nat) : State :=
  let x := mcastRx s e.group
  let s1 := putMcastRx s ⟨e.group, 0, []⟩
  if x.bytes = total then incomingCopy s1 e.rxPart version (receivedScales x.cells) x.cells else s1

/-! ### DRAIN_COMPLETE and DRAIN_GIVEUP (R241, R242) -/

/-- The destination that a row names: 0 the buddy, 1 the checkpoint, 2 + g the rollouts of multicast group g. -/
def destOf : Nat → Option DrainDest
  | 0 => some .buddy
  | 1 => some .checkpoint
  | g + 2 => if g < 256 then some (.rollout g) else none

/-- One destination of a drain changes. -/
def setDest (s : State) (p : Nat) (d : DrainSt) (k : DrainDest) (f : DestSt → DestSt) : State :=
  setDrainRegs (modPart s p (fun x => { x with
    drain := some { d with dests := d.dests.map (fun y => if y.dest = k then f y else y) } })) p

/-- Writes to a destination that have not been acknowledged. -/
def drainPending (s : State) (p : Nat) (k : DrainDest) : Bool :=
  s.fabric.txns.any (fun t => t.part == p && t.kind == (match k with | .buddy => 4 | .checkpoint => 5 | .rollout _ => 99))

/-- Tensor `t` has been accepted by a destination, which takes its tensors in ascending order: every write of it has been
acknowledged (R281). -/
def drainComplete (s : State) (p t dest : Nat) : State :=
  match (getPart s p).drain, destOf dest with
  | some d, some k =>
    match d.dests.find? (fun y => y.dest == k) with
    | none => s
    | some y =>
      if y.gaveUp || y.refused || drainPending s p k || y.waiting.head? != some t then s
      else
        let (s1, y1) := sendHead s p d.version d.flipped { y with waiting := y.waiting.drop 1, since := s.counter }
        let s2 := setDest s1 p d k (fun _ => y1)
        match y1.waiting, k with
        | [], .rollout g =>
          match rolloutGroup s p g with
          | some m => if m.localRx then endCopy s2 m d.version y1.sent else s2
          | none => s2
        | _, _ => s2
  | _, _ => s

def execDrainComplete (p t dest : Nat) (s : State) : Host.Outcome State Fault Refusal := .next (drainComplete s p t dest)

/-- A destination is abandoned for the rest of the set (R242). -/
def abandonDest (s : State) (p : Nat) (d : DrainSt) (y : DestSt) : State :=
  let code := match y.dest with | .buddy => 0 | .rollout _ => 1 | .checkpoint => 2
  let s1 := setDest s p d y.dest (fun z => { z with gaveUp := true })
  let s2 := bump (logEvent s1 0x0109 0 2 0 (some p)
    (leBytes 1 code ++ leBytes 2 (y.waiting.headD 0) ++ leBytes 8 d.version)) ANC_DRAIN_EVENTS_ABANDONED p 1
  if y.dest.isRollout then s2 else raiseCause s2 p 4

def drainGiveup (p dest now : Nat) (s0 : State) : State :=
  let s := advance s0 now
  match (getPart s p).drain, destOf dest with
  | some d, some k =>
    match d.dests.find? (fun y => y.dest == k) with
    | none => s
    | some y =>
      if y.gaveUp || (y.waiting.isEmpty && y.await.isEmpty)
          || !elapsed s y.since (((partCfg s p).map (·.drainGiveup)).getD 20) 10 then s
      else abandonDest s p d y
  | _, _ => s

def execDrainGiveup (p dest now : Nat) (s : State) : Host.Outcome State Fault Refusal := .next (drainGiveup p dest now s)

end Sys2Proof.Machine
end

