-- ==== Sys2Proof/Machine/Ladder.lean ====
section
/-! DEFINITION. The fall-back ladder (R137 to R160, R190): layer checks, fall-backs with the repeats they cause, storms, and
their records. -/

namespace Sys2Proof.Machine

/-! ### Layers -/

/-- The layers that the ladder counts (R140): those with a GEMM of block-quantised operands. -/
def ladderLayers (s : State) (p : Nat) : List LayerCfg :=
  (cfgOf s).layers.filter (fun l => l.part == p && (l.fwd.blocked || l.dx.blocked || l.dw.blocked))

/-- The slots of a layer; `pass` none takes both passes. -/
def layerSlots (s : State) (p layer : Nat) (pass : Option Nat) : List SlotCfg :=
  (cfgOf s).slots.filter (fun k => k.part == p && k.layer == layer && (match pass with | some a => slotPass k == a | none => true))

/-- The rung of a layer in a pass (R138): the lowest among its operand slots of that pass; a free value where it has none
(log 87). -/
def layerRung (s : State) (p layer pass : Nat) : Nat :=
  let b := (getLayer (getPart s p) layer pass).bump
  let ks := layerSlots s p layer (some pass)
  if ks.isEmpty then Config.idlePassRung layer pass
  else ks.foldl (fun r k => min r (startRung k.family k.width + b)) 3

/-- Q_W and T_W of the ACTIVE copies of a layer's pass (R147). -/
def copyCounts (s : State) (p layer pass : Nat) : Nat × Nat :=
  (partTensors s p).foldl (fun acc t =>
    if t.layer ≠ layer then acc
    else
      let set := activeSet s p t
      match copyDesc s p t (pass == 0) (if pass = 0 then set.fwd else set.bwd) with
      | some d => (match readHeader s 0 d with
        | some h => (acc.1 + h.qw, acc.2 + h.tw)
        | none => acc)
      | none => acc) (0, 0)

/-- Blocks of a weight copy whose slot is `k`: those of the tensors that name it. -/
def weightBlocks (s : State) (p k : Nat) : Nat :=
  (partTensors s p).foldl (fun n t =>
    let b := t.rows * t.cols / 16
    n + (if t.fwdSlot = k then b else 0) + (if t.bwdSlot = k then b else 0)) 0

/-- Bytes of a layer's operand slots for the whole step with its slots raised by `bump` (R152): weight copies by their shapes;
activation and gradient slots by the blocks of every micro-batch, of which the commands so far have shown some and the rest is a
free value (log 28). -/
def layerFootprint (s : State) (p layer bump : Nat) : Nat :=
  let x := getPart s p
  (layerSlots s p layer none).foldl (fun n k =>
    let (fam, w) := rungFormat k.family k.width (min 3 (startRung k.family k.width + bump))
    let per := if fam = 5 then 32 else 2 * w + 2 + 3 * k.budget
    let blocks :=
      if k.weight then weightBlocks s p k.slot
      else max ((x.counts.filter (fun c => c.slot == k.slot)).foldl (fun a c => a + c.q) 0)
        (Config.stepBlocks p k.slot (getF s ANC_STEP_COUNT_STEP p + 1))
    n + per * blocks) 0

def fellLayers (x : PartSt) : List Nat :=
  dedupNat ((x.layers.filter (fun e => e.2.fell)).map (fun e => e.1 / 2))

/-- ANC_FB_STATE (R162). -/
def setFbState (s : State) (p : Nat) : State :=
  let x := getPart s p
  let foot := ((partCfg s p).bind (·.stormFootprint)).getD 0
  let used := x.used + (if x.storm.isSome then foot else 0)
  let s1 := setF s ANC_FB_STATE_STEP_LAYERS_FB p (min (fellLayers x).length 0xFFFF)
  setF (setF s1 ANC_FB_STATE_STORM p (b2n x.storm.isSome)) ANC_FB_STATE_RESERVE_USED p
    (min (ceilDiv used (2 ^ 20)) (2 ^ 24 - 1))

/-- A record of R159. -/
def fbLog (s : State) (p layer lo hi reason pass mb order t q : Nat) : State :=
  logEvent s 0x0108 0 1 0 (some p)
    (leBytes 8 (getF s ANC_STEP_COUNT_STEP p + 1) ++ leBytes 4 layer ++
     [BitVec.ofNat 8 (lo % 4 + hi % 4 * 4), BitVec.ofNat 8 reason, BitVec.ofNat 8 pass, 0#8] ++
     leBytes 4 mb ++ leBytes 4 order ++ leBytes 8 t ++ leBytes 8 q)

/-! ### What a command fills, reads and produces -/

/-- The rhizome slots a recorded command fills, those it reads, and whether it begins their outputs. -/
def cmdSlots (r : CmdRec) : List (Nat × Nat) × List (Nat × Nat) × Bool :=
  let f := match r.q with | .frond f => f | _ => 0
  match entOp r.entry with
  | 0x10 =>
    let a := parseMatmul r.entry
    ((List.range' a.base (a.tm * a.tn)).map (fun k => (f, k)), [], a.cont == 0)
  | 0x11 =>
    let a := parseStore r.entry
    ([], (List.range' a.base (a.tm * a.tn)).map (fun k => (f, k)), false)
  | 0x18 =>
    let a := parseGather r.entry
    let l := (a.srcs.filterMap id).map (sourceSlots a.tiles)
    if a.mode = 0 then (l.headD [], (l.drop 1).flatMap id, false) else ([], l.flatMap id, false)
  | _ => ([], [], false)

/-- The scale slots that a recorded command quantises into. -/
def cmdOutputs (s : State) (p : Nat) (r : CmdRec) : List Nat :=
  let hs := match entOp r.entry with
    | 0x11 => [p16 r.entry 36, p16 r.entry 38]
    | 0x20 => [p16 r.entry 42, p16 r.entry 44]
    | 0x21 => [p16 r.entry 48]
    | 0x28 => [p16 r.entry 34]
    | _ => []
  (hs.filter (fun h => handleValid s p h)).map (fun h => (readDesc s p h).slot)

/-- A MATMUL's layer, pass and output (R166, R190). -/
def cmdGemm (s : State) (p : Nat) (r : CmdRec) : Option (Nat × Nat × OutId) :=
  if entOp r.entry = 0x10 then
    let a := parseMatmul r.entry
    let dl := (readDesc s p a.left).localize s p
    let dr := (readDesc s p a.right).localize s p
    let l := gemmLayer s p dl dr
    some (l, (if a.gemm = 0 then 0 else 1), ⟨l, a.gemm, opLines dl true, opLines dr false⟩)
  else none

/-- The commands that filled the slots a store read, back to the MATMUL that began each (R149 step 3): numbered commands,
the store's own number first. -/
def fillersOf (cmds : List (Nat × CmdRec)) (i : Nat) (r : CmdRec) : List Nat :=
  ((cmds.filter (fun x => decide (x.1 < i))).reverse.foldl (fun (acc : List Nat × List (Nat × Nat)) x =>
    let (fills, reads, new) := cmdSlots x.2
    if fills.any acc.2.contains then
      let want := acc.2 ++ reads
      (acc.1 ++ [x.1], if new then want.filter (fun k => !fills.contains k) else want)
    else acc) ([i], (cmdSlots r).2.1)).1

/-- The commands that read the slots a repeated MATMUL filled, up to the next MATMUL that begins them anew. -/
def readersOf (cmds : List (Nat × CmdRec)) (i : Nat) (r : CmdRec) : List Nat :=
  ((cmds.filter (fun x => decide (x.1 > i))).foldl (fun (acc : List Nat × List (Nat × Nat)) x =>
    let (fills, reads, new) := cmdSlots x.2
    if new then (acc.1, acc.2.filter (fun k => !fills.contains k))
    else if reads.any acc.2.contains || fills.any acc.2.contains then (acc.1 ++ [x.1], acc.2)
    else acc) ([i], (cmdSlots r).1)).1

/-- The commands that a fall-back of a layer's pass at check `j` repeats, by their numbers (R149, R150): producers of the
operands of micro-batches 0 to j, and the layer's GEMMs issued so far with what reads their slots. -/
def repeatsOf (s : State) (p layer pass j : Nat) (early : Bool) (cmds : List (Nat × CmdRec)) : List Nat :=
  let mine (k : Nat) : Bool :=
    match slotCfg s p k with
    | some c => c.layer == layer && slotPass c == pass
    | none => false
  let prods := (cmds.filter (fun x => (if early then x.2.mb == j else decide (x.2.mb ≤ j))
    && (cmdOutputs s p x.2).any mine)).flatMap (fun x => fillersOf cmds x.1 x.2)
  let gemms := if early then [] else (cmds.filter (fun x =>
    match cmdGemm s p x.2 with
    | some g => g.1 == layer && g.2.1 == pass
    | none => false)).flatMap (fun x => readersOf cmds x.1 x.2)
  prods ++ gemms

/-! ### Repeats -/

/-- One recorded command is performed again (R149, R154, R157). -/
def rerunCmd (p : Nat) (s : State) (r : CmdRec) : State :=
  let f := match r.q with | .frond f => f | _ => 0
  let c : Ctx := { p := p, f := f, q := r.q, n := r.n, e := r.entry, mb := r.mb, rerun := true }
  let s0 := if entOp r.entry = 0x10 ∧ (cmdSlots r).2.2 = true then
      (cmdSlots r).1.foldl (fun s k => setSlot s k.1 k.2 SlotSt.empty) s
    else s
  let v := match entOp r.entry with
    | 0x10 => matmulBody c s0 r.entry
    | 0x11 => storeBody c s0 r.entry
    | 0x18 => if p8 r.entry 32 = 0 then foldBody c s0 r.entry else sumBody c s0 r.entry
    | 0x20 => vectorBody c true s0 r.entry
    | 0x21 => softmaxBody c s0 r.entry
    | 0x22 => sampleBody c s0 r.entry
    | 0x28 => copyBody c s0 r.entry
    | _ => .wait
  match v with
  | .effect s1 _ _ _ _ =>
    (match r.q with
     | .cushion k => if entOp r.entry = 0x18 then bump s1 CSH_GADD_EVENTS_OPS k 1 else s1
     | _ => finishSlots s1 f r.n)
  | _ => s0

/-- The outputs of the MATMULs among the repeats (R190). -/
def repeatedOutputs (s : State) (p : Nat) (l : List CmdRec) : List OutId :=
  l.filterMap (fun r => (cmdGemm s p r).map (fun g => g.2.2))

/-- A repeated MATMUL's slot holds an output that is not repeated: the repeat waits (R190). -/
def repeatBlocked (s : State) (outs : List OutId) (r : CmdRec) : Bool :=
  (cmdSlots r).2.2 && (cmdSlots r).1.any (fun k =>
    let x := getSlot s k.1 k.2
    !slotEmpty x && !outs.contains x.out)

/-- Repeats run in order up to one that waits; the rest is left (R190). -/
def runRepeats (p : Nat) (outs : List OutId) : List CmdRec → State → State × List CmdRec
  | [], s => (s, [])
  | r :: rs, s => if repeatBlocked s outs r then (s, r :: rs) else runRepeats p outs rs (rerunCmd p s r)

/-- Slots of a partition's fronds that name one of the outputs become EMPTY (R190). -/
def emptyOutputs (s : State) (p : Nat) (outs : List OutId) : State :=
  { s with fronds := (s.fronds.map (fun e =>
      if ownerOfFrond s e.1 = some p then (e.1, { e.2 with slots := e.2.slots.filter (fun k => !outs.contains k.2.out) })
      else e)).filter (fun e => e.2 != FrondSt.empty) }

/-- The repeats that wait go on; once all have run, the slots that stood EMPTY before stand EMPTY again (R190; log 29). -/
def goOn (s : State) (p : Nat) (x : RepeatSt) : State :=
  let (s1, rest) := runRepeats p x.outs x.cmds s
  if rest.isEmpty then
    let s2 := x.empty.foldl (fun s k => if x.outs.contains (getSlot s k.1 k.2).out then setSlot s k.1 k.2 SlotSt.empty else s) s1
    modPart s2 p (fun y => { y with repeats := none })
  else modPart s1 p (fun y => { y with repeats := some { x with cmds := rest } })

/-- The repeats of a fall-back begin: the slots of the repeated outputs are emptied first. -/
def startRepeats (s : State) (c : Ctx) (layer : Nat) (l : List CmdRec) : State :=
  let outs := repeatedOutputs s c.p l
  let fills := l.flatMap (fun r => (cmdSlots r).1)
  let empty := fills.filter (fun k => slotEmpty (getSlot s k.1 k.2))
  goOn (emptyOutputs s c.p outs) c.p ⟨c.q, c.n, layer, l, outs, fills, empty⟩

/-- The recorded commands of a partition's step, numbered in issue order. -/
def numbered (x : PartSt) : List (Nat × CmdRec) := (x.cmds.zipIdx).map (fun (r, i) => (i, r))

def pickCmds (cmds : List (Nat × CmdRec)) (is : List Nat) : List CmdRec :=
  (cmds.filter (fun x => is.contains x.1)).map (·.2)

/-! ### LAYER_CHECK (R147 to R153, R566) -/

/-- The counts of a layer and pass with the copy's and those of micro-batches up to `j` (R147, R148). -/
def countUp (s : State) (p layer pass j : Nat) : LayerSt :=
  let x := getPart s p
  let st := getLayer x layer pass
  let (qw, tw) := if st.copyIn then (0, 0) else copyCounts s p layer pass
  let mine (c : MbCount) : Bool := decide (c.mb ≤ j) && !st.added.contains c.mb &&
    (match slotCfg s p c.slot with | some k => k.layer == layer && slotPass k == pass | none => false)
  let cs := x.counts.filter mine
  { st with copyIn := true, added := dedupNat (st.added ++ cs.map (·.mb))
            q := st.q + qw + cs.foldl (fun n c => n + c.q) 0
            t := st.t + tw + cs.foldl (fun n c => n + c.t) 0 }

/-- The copies of every layer that a storm raises (R154): those of layers below rung 2, and those of the triggering layer and
pass while it is below rung 3 (R153). -/
def reemitStorm (s : State) (c : Ctx) (layer pass : Nat) : State :=
  (partTensors s c.p).foldl (fun s t =>
    [true, false].foldl (fun s fwd =>
      let a := if fwd then 0 else 1
      let r := layerRung s c.p t.layer a
      if (ladderLayers s c.p).any (fun l => l.layer == t.layer) && (decide (r < 2) || (t.layer == layer && a == pass && decide (r < 3))) then
        reemitCopy s c t fwd
      else s) s) s

/-- A check that trips: the fall-back or the storm, with repeats and records. -/
def fallBack (s : State) (c : Ctx) (lc : LayerCfg) (pass j : Nat) (st : LayerSt) : State :=
  let p := c.p
  let x := getPart s p
  let r := layerRung s p lc.layer pass
  let cmds := numbered x
  let order := entOrder c.e
  let pc := partCfg s p
  let foot := (pc.bind (·.stormFootprint)).getD 0
  let need := layerFootprint s p lc.layer (st.bump + 1)
  let fell := (dedupNat (fellLayers x ++ [lc.layer])).length
  let layersHit := decide (fell * 2 ^ ((pc.map (·.stormLog2)).getD 2) > (ladderLayers s p).length)
  let full := decide ((pc.map reserveBytes).getD 0 < x.used + need + foot)
  let storm := layersHit || full
  let reason := if layersHit then 3 else if full then 4 else 1
  let mine := repeatsOf s p lc.layer pass j lc.early cmds
  let later := if storm then (cmds.filter (fun y =>
      c.key.lt ⟨entOrder y.2.entry, min (qNum y.2.q) 312, y.2.n.toNat⟩)).map (·.1) else []
  let rep := pickCmds cmds (mine ++ later)
  let st1 := { st with q := 0, t := 0, fell := true, added := dedupNat (st.added ++ List.range (j + 1))
                       bump := if storm then st.bump else st.bump + 1, stormed := st.stormed || storm }
  let s1 := modPart s p (fun x => modLayer { x with
    storm := if storm then some ⟨c.key, lc.layer, pass⟩ else x.storm
    used := if storm then x.used else x.used + need } lc.layer pass (fun _ => st1))
  let s2 := bump s1 ANC_FB_COUNTS_LAYER_FB p 1
  let s3 := fbLog s2 p lc.layer r (if storm then max 2 r else r + 1) reason pass j order st.t st.q
  let s4 := if storm then
      fbLog (raiseCause (bump s3 ANC_FB_COUNTS_STORMS p 1) p 3) p noSlot 0 0 reason pass j order st.t st.q
    else s3
  let c' := { c with n := c.n + 1, rerun := true }
  let s5 := if storm then reemitStorm s4 c' lc.layer pass else reemitLayer s4 { c with rerun := true } lc.layer pass
  startRepeats (setFbState s5 p) c lc.layer rep

/-- R153 and R156 take checks in step order: a check waits while another frond queue of the partition has a LAYER_CHECK of a
lower place at its head with its marks satisfied (log 115). -/
def earlierCheck (s : State) (c : Ctx) : Bool :=
  (frondsOf s c.p).any (fun f =>
    let q : QueueId := .frond f
    q != c.q && (exposedNow (getQ s q)).any (fun m =>
      let e := entryBytes s q m
      entOp e == 0x12 && isHead s q m && marksMet s q e && OrderKey.lt ⟨entOrder e, f, m.toNat⟩ c.key))

/-- LAYER_CHECK (R147 to R153). A check whose repeats wait for a slot completes when the last of them has run (R149, R190). -/
def checkBody (c : Ctx) (s : State) (e : List Byte) : Verdict :=
  let layer := p32 e 32
  let pass := p8 e 36
  let j := p32 e 40
  match (ladderLayers s c.p).find? (fun l => l.layer == layer) with
  | none => .reject stBadDesc 0
  | some lc =>
    if pass > 1 ∨ recompute e = true then .reject stBadDesc 0
    else
      let st := countUp s c.p layer pass j
      let x := getPart s c.p
      let trips := decide (st.t * 2 ^ lc.thrLog2 > st.q) && x.storm.isNone && !isRollout s c.p
        && decide (layerRung s c.p layer pass < 3)
      if x.repeats.isSome || earlierCheck s c then .wait
      else if trips then
        let s1 := fallBack s c lc pass j st
        .effect s1 stOK 0 false (if (getPart s1 c.p).repeats.isSome then .repeats else .done)
      else .ok (modPart s c.p (fun x => modLayer x layer pass (fun _ => st)))

def execLayerCheck (q : QueueId) (n : W32) (s : State) : Host.Outcome State Fault Refusal :=
  .next (runEntry q n (· == 0x12) [(32, 5), (40, 4)] (checkBody (ctxOf s q n 0)) s)

/-! ### Between steps (R146, R155, R160) -/

/-- A step's start: every copy whose header says SPILL_FULL raises its layer by one rung (R146). The record gives MICROBATCH and
STEP_ORDER as 0 and T and Q as the copy's counts, since no check gives them (R159; DESIGN CHOICE, log 116). -/
def spillFullStart (s : State) (c : Ctx) : State :=
  (partTensors s c.p).foldl (fun s t =>
    [true, false].foldl (fun s fwd =>
      let set := activeSet s c.p t
      let pass := if fwd then 0 else 1
      match copyDesc s c.p t fwd (if fwd then set.fwd else set.bwd) with
      | none => s
      | some d =>
        match readHeader s c.f d with
        | none => s
        | some h =>
          let st := getLayer (getPart s c.p) t.layer pass
          if bitOf h.flags 0 = false ∨ st.spillFull ∨ isRollout s c.p then s
          else
            let r := layerRung s c.p t.layer pass
            let need := layerFootprint s c.p t.layer 1
            let (q, tw) := copyCounts s c.p t.layer pass
            let s1 := modPart s c.p (fun x => modLayer { x with used := x.used + need } t.layer pass
              (fun l => { l with bump := 1, fell := true, spillFull := true }))
            let s2 := fbLog (bump s1 ANC_FB_COUNTS_LAYER_FB c.p 1) c.p t.layer r (min 3 (r + 1)) 2 pass 0 0 tw q
            reemitLayer (setFbState s2 c.p) { c with rerun := true } t.layer pass) s) s

/-- The rung-trace entry of a step (R160). -/
def traceEntry (s : State) (p step : Nat) : List Byte :=
  let x := getPart s p
  let ls := ladderLayers s p
  let final (l pass : Nat) : Nat :=
    let r := layerRung s p l pass
    if (getLayer x l pass).stormed ∧ r < 3 then 2 else r
  let byte (l : LayerCfg) : Nat :=
    let f (k : LayerSt → Bool) : Nat := b2n (k (getLayer x l.layer 0) || k (getLayer x l.layer 1))
    final l.layer 0 + final l.layer 1 * 4 + f (·.spillFull) * 16 + f (·.stormed) * 32
  let size := 16 + roundUp ls.length 16
  let body := leBytes 8 step ++ leBytes 2 (fellLayers x).length ++ leBytes 1 (b2n x.storm.isSome) ++ leBytes 5 0 ++
    (sortBy (fun a b => decide (a.layer ≤ b.layer)) ls).flatMap (fun l => leBytes 1 (byte l))
  body ++ List.replicate (size - body.length) 0#8

/-- The step's entry reaches the rung-trace ring. -/
def writeTrace (s : State) (p step : Nat) : State :=
  let e := traceEntry s p step
  match partCfg s p with
  | some pc =>
    if pc.rungDepth = 0 then s
    else
      let s1 := writeBytes s (pc.rungRing + e.length * ((getPart s p).traceAt % pc.rungDepth)) e
      modPart s1 p (fun x => { x with traceAt := x.traceAt + 1 })
  | none => s

end Sys2Proof.Machine
end

