-- ==== Sys2Proof/Machine/Update.lean ====
section
/-! DEFINITION. The update engine and the step commit (chapter 9 of the spec): UPDATE, EMIT_ONLY, STEP_COMMIT, norm records,
non-finite handling, and the drains of the PEAT set. -/

namespace Sys2Proof.Machine

/-! ### The clip factor (R234) -/

/-- The G2 of a tensor in an epoch, provisional or confirmed. -/
def finalG2 (s : State) (p e t : Nat) : Option G2Rec :=
  match (getPart s p).g2s.find? (fun r => r.epoch == e && r.tensor == t) with
  | some r => some r
  | none => (epochOf s p e).bind (fun x => (x.tensorOf t).bind (g2Rec s x))

/-- The G2 of a tensor in the present step, from the latest epoch of the step that reduces it. -/
def stepG2 (s : State) (p t : Nat) : Option G2Rec :=
  let x := getPart s p
  let es := ((x.g2s.filter (fun r => r.tensor == t)).map (·.epoch) ++
    (x.epochs.filter (fun z => (z.tensorOf t).isSome)).map (·.epoch)).filter (fun e => decide (x.stepFrom ≤ e))
  match es with
  | [] => none
  | e :: l => finalG2 s p (l.foldl max e) t

/-- G of R234, once final: the tensors of a GLOBAL fold may stand in different epochs of the step. -/
def clipG (s : State) (p e : Nat) (t : TensorCfg) : Option W64 :=
  if t.clipMode = 2 then
    let l := ((partTensors s p).filter (fun u => u.updatable && u.clipMode == 2)).map (fun u =>
      if u.tensor = t.tensor then finalG2 s p e t.tensor else stepG2 s p u.tensor)
    if l.all (·.isSome) then
      let gs := l.filterMap (fun r => r.map (·.g2))
      some ((gs.drop 1).foldl fp64AddRne (gs.headD 0))
    else none
  else (finalG2 s p e t.tensor).map (·.g2)

/-- `c ÷ √G` rounded once to FP32, for a positive finite G. -/
def clipRatio (g : W64) (c : W32) : W32 :=
  let num := (int32Of c).natAbs ^ 2 * 2 ^ 776 * 2 ^ 512
  let den := (int64Of g).natAbs
  let q := num / den
  let r := isqrt q
  fp32OfScaled (Int.ofNat (2 * r + (if r * r = q ∧ num % den = 0 then 0 else 1))) (-257)

/-- F of R234. -/
def clipFactor (g : W64) (c : W32) : W32 :=
  if isNaN64 g then Config.nanClip g c
  else if isInf64 g then pzero32
  else if int64Of g ≤ (int32Of c) ^ 2 * 2 ^ 776 then one32
  else clipRatio g c

/-- The clip norm that a tensor's mode takes (R236). -/
def clipNormOf (s : State) (p : Nat) (t : TensorCfg) : W32 :=
  if t.clipMode = 2 then ((partCfg s p).map (·.clipNorm)).getD one32 else t.clipNorm

/-! ### Plain copies -/

/-- A plain copy of `n` bytes, which carries poison (R301). -/
def moveBytes (s : State) (src dst n : Nat) : State :=
  (writeSet (readUnits s (unitsOf src n)) ((List.range n).foldl (fun w i =>
    wput w (dst + i) { val := readByte s (src + i), poison := unitPoison s ((src + i) / 256), pad := false }) ([] : WSet))).1

/-- The ACTIVE set copied byte for byte into the alternate set (R238 TENSOR). -/
def copySet (s : State) (p : Nat) (t : TensorCfg) : State :=
  let src := setItems s p t (activeSet s p t)
  let dst := setItems s p t (alternateSet s p t)
  ((src.zip dst).flatMap (fun x => x.1.2.zip x.2.2)).foldl (fun s x => moveBytes s x.1.1 x.2.1 x.1.2) s

/-! ### UPDATE with MODE = UPDATE (R224 to R234) -/

/-- The slots that a program names and the tensor does not have (R226). -/
def updSlotsOk (t : TensorCfg) (pr : Prog) : Bool :=
  (slotsNamed pr 0x30).all (fun k => decide (k < 2) || decide (k - 2 < t.slots))
  && (slotsNamed pr 0x31).all (fun k => k == 0 || k == 3 || decide (k - 1 < t.slots))
  && (slotsNamed pr 0x32).isEmpty && (slotsNamed pr 0x33).isEmpty
  && (decide (t.cols ≤ 256 * pr.groups) || !(pr.body.any (fun w => isReduction (decodeIns w).op)))

/-- The run of an update program before its first rows. S14, S15 and SEED are not among R226's operands (log 3). -/
def updStart (s : State) (c : Ctx) (t : TensorCfg) (pr : Prog) (grad : Desc) (act alt : SetAddr) (clip : W32) : VRun :=
  let m := masterDesc t alt
  let free (k : Nat) : W32 := Config.unwrittenReg s.free 0 (128 + k)
  let rot := ((copyGemm s c.p t true).map (·.rot)).getD 0
  { q := c.q, n := c.n, mb := 0, entry := c.e
    cfg := { prog := pr
             ins := [some (masterDesc t act, one32), some (grad, one32),
                     if t.slots > 0 then some (stateDesc t act 0, one32) else none,
                     if t.slots > 1 then some (stateDesc t act 1, one32) else none]
             have_ := [true, decide (t.slots > 0), decide (t.slots > 1), true]
             quant := [false, false, false, false], vrows := [], vcols := []
             scalars := (List.range 12).map (fun i => BitVec.ofNat 32 (p32 c.e (52 + 4 * i))) ++
               [clip, BitVec.ofNat 32 (getF s ANC_STEP_COUNT_STEP c.p + 1), free 14, free 15]
             seed := (free 16).zeroExtend 64 + (free 17).zeroExtend 64 * 0x100000000#64
             clip := clip, ext := m.ext, outs := [], panel := max 16 rot }
    draw := s.free, next := 0, lanes := [], pc := 0, stores := [], faults := [], poisoned := [], blocks := [], groups := [] }

/-- What a finished run leaves of one element of an output: the masked element's ACTIVE value, a stored value, or nothing
stored; with its poison. -/
def updElem (s : State) (c : Ctx) (mask : Option Mask) (cols : Nat) (r : VRun) (st : Tbl VStore) (act : Desc) (e : Nat) :
    Option (W32 × Bool) :=
  let co := coordsOf act.ext e
  if maskKeeps mask (e / cols) (e % cols) then (tblFind st e).map (fun x => (x.val, r.poisoned.contains x.chunk))
  else some (readWide s c.f act co, rangePoison s (act.elemKey c.f co) act.elemSize)

/-- The effects of an update program that has run to its end. -/
def updFinish (s0 s : State) (c : Ctx) (t : TensorCfg) (mask : Option Mask) (r : VRun) (act alt : SetAddr) (emit : Nat)
    (g : G2Rec) (gNonfin : Bool) (clip : W32) : State :=
  let n := t.rows * t.cols
  let outs : List (Nat × Desc × Desc) :=
    [(0, masterDesc t act, masterDesc t alt)]
    ++ (if t.slots > 0 then [(1, stateDesc t act 0, stateDesc t alt 0)] else [])
    ++ (if t.slots > 1 then [(2, stateDesc t act 1, stateDesc t alt 1)] else [])
  let elem (k : Nat) (a : Desc) : Nat → Option (W32 × Bool) := updElem s0 c mask t.cols r (storesOf r k) a
  -- a masked element's bytes move unchanged (R227)
  let put (a b : Desc) (w : WSet) (e : Nat) (x : W32 × Bool) : WSet :=
    let co := coordsOf b.ext e
    if maskKeeps mask (e / t.cols) (e % t.cols) then putWide w b c.f co x.1 x.2
    else wputs w (b.elemKey c.f co) (readBytes s0 (a.elemKey c.f co) a.elemSize) x.2
  let w := outs.foldl (fun w o => (List.range n).foldl (fun w e =>
    match elem o.1 o.2.1 e with
    | some x => put o.2.1 o.2.2 w e x
    | none => w) w) ([] : WSet)
  let s1 := commitWrites s c.f w
  let inMask (e : Nat) : Bool := maskKeeps mask (e / t.cols) (e % t.cols)
  let kept (k : Nat) : List W32 := ((storesOf r k).filter (fun x => inMask x.1)).map (·.2.val)
  let m := masterDesc t act
  let w2 := ((List.range n).filterMap (fun e => (elem 0 m e).map (·.1))).foldl NormAcc.add NormAcc.zero
  let u2 := (kept 3).foldl NormAcc.add NormAcc.zero
  let nonfin := r.stores.any (fun x => inMask x.elem && !isFinite32 x.val)
  let vals : MasterVal := fun k j =>
    match elem 0 m (k * t.cols + j) with
    | some x => x
    | none =>
      let d := masterDesc t alt
      (readWide s0 c.f d [j, k, 0, 0, 0, 0], rangePoison s0 (d.elemKey c.f [j, k, 0, 0, 0, 0]) 4)
  let s2 := if bitOf emit 0 then emitCopy s1 c t true alt act vals else s1
  let s3 := if bitOf emit 1 then emitCopy s2 c t false alt act vals else s2
  let s4 := bump (bump s3 ANC_UPD_EVENTS_CLIPPED c.p (b2n (clip != one32))) ANC_UPD_EVENTS_NONFIN_OUT c.p (b2n nonfin)
  modPart s4 c.p (fun x => { x with
    steps := tblSet TensorStep.zero x.steps t.tensor
      { updated := true, epoch := g.epoch, w2 := w2.value, u2 := u2.value, g2 := g.g2, g2Shard := g.shard, clip := clip
        nonfinite := gNonfin, nonfinOut := nonfin, masked := mask.isSome, index := g.index, shards := g.shards } })

/-- The status of an UPDATE whose epoch is confirmed (R397). -/
def confirmedStatus (g : G2Rec) (bad : Bool) : Nat :=
  if bad then stPoison else if g.retracted then stRetracted else if g.backed then stLocalDeadline else stOK

/-- R243 for a command that names a tensor of the table. -/
def keepsTensor (s : State) (p : Nat) (e : List Byte) (t : TensorCfg) : Bool :=
  recompute e && ((layerCfg s p t.layer).map (·.keep)).getD false

def updateBody (c : Ctx) (s : State) (e : List Byte) : Verdict :=
  let emit := p8 e 48
  let hGrad := p16 e 36
  let hMask := p16 e 50
  let ep := p64 e 40
  let uses : List Use := [{ h := hGrad, fmtOk := (readDesc s c.p hGrad).fam == 6 }]
  let refuse (x : Option (Nat × Nat)) : Verdict := .reject (x.getD (stBadDesc, 0)).1 (x.getD (stBadDesc, 0)).2
  match tensorCfg s c.p (p16 e 32) with
  | none => refuse (validate s c.p uses)
  | some t =>
    let uses := uses ++ maskUse hMask t.rows t.cols
    if !t.updatable ∨ p8 e 34 > 1 ∨ emit > 3 ∨ keepsTensor s c.p e t = true then refuse (validate s c.p uses)
    else
      match finalG2 s c.p ep t.tensor, clipG s c.p ep t with
      | some g, some gv =>
        if !tensorDrained s c.p t.tensor then .wait
        else
          match validate s c.p uses, boundProg (getFrond s c.f) (p8 e 35) c.n with
          | some (st, d), _ => .reject st d
          | none, none => .reject stBadDesc 0
          | none, some pr =>
            let grad := (readDesc s c.p hGrad).localize s c.p
            let act := activeSet s c.p t
            let alt := alternateSet s c.p t
            if grad.ext ≠ (masterDesc t act).ext ∨ !updSlotsOk t pr then .reject stBadDesc 0
            else if !c.rerun && (getFrond s c.f).vrun.isSome then .wait
            else
              let clip := if t.clipMode = 0 then one32 else clipFactor gv (clipNormOf s c.p t)
              let mask := if hMask = 0xFFFF then none else some (readMask s c.p c.f hMask t.rows t.cols)
              let sMask := readUnits s (dedupNat (maskUnits s c.p c.f hMask t.rows t.cols))
              let s0 := { sMask with free := sMask.free + 1 }
              let (s1, r) := runWhole c.f s0 (updStart s c t pr grad act alt clip)
              let bad := !r.poisoned.isEmpty
              match firstFault r.faults with
              | some x => .effect (recordFault s1 c.f x) stBounds 0 bad .done
              | none =>
                let s2 := updFinish s s1 c t mask r act alt emit g (!isFinite64 gv) clip
                if (epochOf s c.p ep).isSome then .effect s2 (if bad then stPoison else stOK) 0 bad (.epoch ep)
                else .effect s2 (confirmedStatus g bad) 0 bad .done
      | _, _ => .wait

/-- The parameter bytes of UPDATE (R225, R311). -/
def updateUsed : List (Nat × Nat) := [(32, 6), (40, 9), (50, 50)]

/-- UPDATE and EMIT_ONLY share an opcode; MODE tells them apart. -/
def isEmitOnly (s : State) (q : QueueId) (n : W32) : Bool := p8 (entryBytes s q n) 34 == 1

def execUpdate (q : QueueId) (n : W32) (s : State) : Host.Outcome State Fault Refusal :=
  .next (if isEmitOnly s q n then s else runEntry q n (· == 0x30) updateUsed (updateBody (ctxOf s q n 0)) s)

/-! ### UPDATE with MODE = EMIT_ONLY (R230) -/

/-- A copy that R149 or R154 calls for: its slot stands above its starting rung, or under a storm. -/
def emitCalled (s : State) (c : Ctx) (t : TensorCfg) (fwd : Bool) : Bool :=
  match copySlot s c.p t fwd with
  | some k =>
    let (r, storm) := targetRung s c k
    storm || decide (r > startRung k.family k.width)
  | none => false

def emitBody (c : Ctx) (s : State) (e : List Byte) : Verdict :=
  let emit := p8 e 48
  match tensorCfg s c.p (p16 e 32) with
  | none => .reject stBadDesc 0
  | some t =>
    if emit > 3 ∨ keepsTensor s c.p e t = true then .reject stBadDesc 0
    else
      let s1 := if bitOf emit 0 && emitCalled s c t true then reemitCopy s c t true else s
      let s2 := if bitOf emit 1 && emitCalled s c t false then reemitCopy s1 c t false else s1
      let read := (bitOf emit 0 && emitCalled s c t true) || (bitOf emit 1 && emitCalled s c t false)
      .poisoned s2 stOK (read && rangePoison s (activeSet s c.p t).master (4 * t.rows * t.cols))

def execEmitOnly (q : QueueId) (n : W32) (s : State) : Host.Outcome State Fault Refusal :=
  .next (if isEmitOnly s q n then runEntry q n (· == 0x30) updateUsed (emitBody (ctxOf s q n 0)) s else s)

/-! ### Norm records (R237) -/

/-- This device's shard index and the number of shards of a tensor, as the settings give them (R237, R276). -/
def shardOf (s : State) (p : Nat) (t : TensorCfg) : Nat × Nat :=
  match findGroup s t.shardGroup with
  | some g => ((memberIndex s p g).getD 0, g.members.length)
  | none => (0, 1)

/-- A norm record. Of a tensor that the step has not updated, the norms, CLIP and the low FLAGS bits are free values (log 37). -/
def normRecord (step : Nat) (t : TensorCfg) (shard : Nat × Nat) (skipped : Bool) (x : TensorStep) : List Byte :=
  if x.updated then
    let flags := b2n (x.clip != one32) + 2 * b2n x.nonfinite + 4 * b2n x.nonfinOut + 8 * b2n skipped + 16 * b2n x.masked
    leBytes 4 t.tensor ++ leBytes 2 x.index ++ leBytes 2 x.shards ++ leBytes 8 step ++ leBytes 8 x.w2.toNat ++
    leBytes 8 x.g2.toNat ++ leBytes 8 x.u2.toNat ++ leBytes 8 x.g2Shard.toNat ++ leBytes 4 x.clip.toNat ++
    leBytes 2 flags ++ leBytes 10 0
  else
    leBytes 4 t.tensor ++ leBytes 2 shard.1 ++ leBytes 2 shard.2 ++ leBytes 8 step ++
    (List.range 36).map (Config.idleNorm step t.tensor) ++ leBytes 2 ((Config.idleNorm step t.tensor 36).toNat % 32) ++ leBytes 10 0

/-- The norm records of a commit, into the ring; G2 values that R371 may take are kept. -/
def writeNorms (s : State) (p step : Nat) (skipped : Nat → Bool) : State × List Byte :=
  let x := getPart s p
  let ts := (partTensors s p).filter (·.updatable)
  let recs := ts.flatMap (fun t => normRecord step t (shardOf s p t) (skipped t.tensor) (tblGet TensorStep.zero x.steps t.tensor))
  match partCfg s p with
  | none => (s, recs)
  | some pc =>
    let usable (w : W64) : Bool := isFinite64 w && decide (mag64 w ≠ 0)
    let last := ts.foldl (fun l t =>
      let y := tblGet TensorStep.zero x.steps t.tensor
      if y.updated && usable y.g2 then tblPut l t.tensor (some y.g2) else l) x.lastG2
    let s1 := if pc.normDepth = 0 ∨ ts.isEmpty then s
      else writeBytes s (pc.normRing + recs.length * (x.normAt % pc.normDepth)) recs
    (modPart s1 p (fun y => { y with lastG2 := last, normAt := y.normAt + 1 }), recs)

/-! ### Histories and the scale set (R71 to R73, R92, R93, R155) -/

def partSlots (s : State) (p : Nat) : List SlotCfg := (cfgOf s).slots.filter (fun k => k.part == p)

/-- Slots in warm-up. -/
def warmSlots (s : State) (p : Nat) : Nat :=
  (partSlots s p).countP (fun k => k.mode == .history && decide ((getHist (getPart s p) k.slot).warm > 0))

/-- The event records of R93, where the number of slots in warm-up leaves zero or reaches it. -/
def logWarm (s : State) (p before step : Nat) : State :=
  let now := warmSlots s p
  if before = 0 ∧ now > 0 then logEvent s 0x0104 0 1 0 (some p) (leBytes 4 now ++ leBytes 8 step)
  else if before > 0 ∧ now = 0 then logEvent s 0x0105 0 0 0 (some p) (leBytes 4 before ++ leBytes 8 step)
  else s

/-- Every slot's a_n is appended (R69 to R71); a rollout keeps no history (R74). -/
def appendAll (s : State) (p step : Nat) : State :=
  if isRollout s p then s else
  modPart s p (fun x => { x with
    hist := (partSlots s p).foldl (fun h k =>
      if k.mode = .fixed then h
      else tblSet HistSt.empty h k.slot (appendHist k.depth step (tblGet HistSt.empty h k.slot)
        (tblGet pzero32 x.amax k.slot) (x.ovf.contains k.slot))) x.hist })

/-- The scale set of the commit (R73). A copy emitted in the step has the scale it was emitted with, and one that the next step
reads as this one did keeps its own (`kept`, by slot), as does a copy of a flipped tensor that the step has not emitted (`flipped`).
A slot flagged JIT that is no weight slot keeps the value of the old entry, 1.0 where there is none (DESIGN CHOICE, log 118). -/
def newScales (s : State) (p : Nat) (kept flipped : List Nat) : Tbl ScaleEntry :=
  let x := getPart s p
  (partSlots s p).foldl (fun l k =>
    let old := tblFind x.scales k.slot
    let warm := k.mode == .history && decide ((getHist x k.slot).warm > 0)
    let copy : Option ScaleEntry :=
      if kept.contains k.slot then old
      else if !k.weight then none
      else match tblFind x.nextScales k.slot with
        | some v => some ⟨v.st, v.jit || warm⟩
        | none => if flipped.contains k.slot then tblFind x.altScales k.slot else none
    let e : ScaleEntry :=
      match copy with
      | some v => v
      | none => match k.mode, elemFmt (Family.ofCode k.family) k.width with
        | .fixed, _ => ⟨k.fixed, false⟩
        | .history, some f =>
          if warm then ⟨(old.map (·.st)).getD one32, true⟩
          else ⟨tensorScale f k.headroom (histEstimate (getHist x k.slot)), false⟩
        | .history, none => ⟨(old.map (·.st)).getD one32, warm⟩
        | .jit, _ => ⟨(old.map (·.st)).getD one32, true⟩
    tblPut l k.slot (some e)) []

/-- The storm's slots lose their histories and enter warm-up (R155). -/
def stormReset (s : State) (p step : Nat) : State :=
  modPart s p (fun x => { x with
    hist := x.stormSlots.foldl (fun h k =>
      match slotCfg s p k with
      | some c =>
        (match c.mode with
         | .history => tblSet HistSt.empty h k ⟨[], false, c.depth, step, 0⟩
         | .jit => tblSet HistSt.empty h k ⟨[], false, 0, step, 0⟩
         | .fixed => h)
      | none => h) x.hist })

/-! ### STEP_COMMIT (R34, R35, R238, R240) -/

/-- Every UPDATE of the step has ended and its epoch is confirmed (R34, R240): none is under way, none that RETRACT has exposed
again has still to issue, and none stands at the head of its strand with its marks satisfied (log 119). -/
def updatesDone (s : State) (p : Nat) : Bool :=
  (queuesOf s p).all (fun q =>
    let x := getQ s q
    x.live.all (fun i => i.opcode != 0x30 || i.waits == .done) && x.again.isEmpty
    && (exposedNow x).all (fun m =>
      let e := entryBytes s q m
      !(entOp e == 0x30 && p8 e 34 == 0 && isHead s q m && marksMet s q e)))
  && (getPart s p).steps.all (fun y => !y.2.updated || notAbove s p y.2.epoch)

/-- The skip of R238 that applies to the step: the non-finite tensors, and whether the whole step is skipped. -/
def badTensors (x : PartSt) : List Nat :=
  (x.steps.filter (fun y => y.2.updated && (y.2.nonfinite || y.2.nonfinOut))).map (·.1)

/-- Scale slots of tensors. -/
def slotsOf (s : State) (p : Nat) (ts : List Nat) : List Nat :=
  ((partTensors s p).filter (fun t => ts.contains t.tensor)).flatMap (fun t => [t.fwdSlot, t.bwdSlot])

/-- The copy that `r` names, as `rebias` numbers copies, has been emitted in the step (R106). -/
def wasEmitted (s : State) (p : Nat) (r : Nat) : Bool :=
  (tensorCfg s p (r / 2)).any (fun t =>
    (tblFind (getPart s p).nextScales (if r % 2 = 0 then t.fwdSlot else t.bwdSlot)).isSome)

/-- Steps 2 and 3 of R240 for an accepted step. `bad` are the tensors skipped under TENSOR policy. The slots of tensors whose
copies the next step reads again keep their amax and scale (R230). -/
def acceptStep (s : State) (p step : Nat) (bad : List Nat) : State :=
  let x := getPart s p
  let upd := (x.steps.filter (fun y => y.2.updated)).map (·.1)
  let s1 := (partTensors s p).foldl (fun s t => if bad.contains t.tensor then copySet s p t else s) s
  let s2 := bump s1 ANC_UPD_EVENTS_SKIPPED_TENSORS p bad.length
  let idle := ((partTensors s p).filter (fun t => !upd.contains t.tensor)).map (·.tensor)
  let kept := slotsOf s p (bad ++ idle)
  let flipped := slotsOf s p upd
  let s3 := stormReset (appendAll s2 p step) p step
  let scales := newScales s3 p kept flipped
  modPart s3 p (fun y => { y with
    select := upd.foldl (fun l t => tblSet 0 l t (1 - tblGet 0 l t)) y.select
    amax := kept.foldl (fun l k => tblSet pzero32 l k (tblGet pzero32 y.amax k)) y.nextAmax
    ovf := y.nextOvf.filter (fun k => !kept.contains k) ++ y.ovf.filter kept.contains
    scales := scales
    altScales := flipped.foldl (fun l k => tblPut l k (tblFind y.scales k)) y.altScales
    rebias := y.rebias.filter (fun r => bad.contains (r / 2) || !wasEmitted s3 p r)
    accepted := y.accepted + 1 })

/-- A step that STEP policy skips: only the copies that the next step reads again keep what they contributed (R230, R238). It
appends nothing and so counts as no step of a warm-up (R92; DESIGN CHOICE, log 117). -/
def skipStep (s : State) (p step : Nat) : State :=
  let weight (k : Nat) : Bool := ((slotCfg s p k).map (·.weight)).getD false
  modPart (stormReset (bump s ANC_UPD_EVENTS_SKIPPED_STEPS p 1) p step) p (fun y => { y with
    amax := y.amax.filter (fun e => weight e.1), ovf := y.ovf.filter weight })

/-- What a commit ends in either case: the step's records of the ladder, the JIT scale table, the pad epoch (R269). -/
def endStep (x : PartSt) (now : Nat) : PartSt :=
  { x with
    nextAmax := [], nextOvf := [], nextScales := [], jit := [], steps := [], layers := [], counts := [], storm := none
    stormSlots := [], used := 0, relocAt := 0, stormAt := 0, mbRungs := [], cmds := [], relocs := []
    bias0 := [], repeats := none, stepFrom := max x.stepFrom ((x.lastConf.map (· + 1)).getD 0)
    padEpoch := (x.padEpoch + 1) % 2 ^ 64, commitAt := (now :: x.commitAt).take 2 }

/-- The context of the fall-backs at a step's start: the partition's first frond does their work, after every entry of its anchor
queue up to `n`. -/
def startCtx (s : State) (p : Nat) (n : W32) : Ctx :=
  { p := p, f := (frondsOf s p).headD 0, q := .anchor p, n := n, e := [], mb := 0, rerun := true }

def commitBody (c : Ctx) (s : State) (e : List Byte) : Verdict :=
  let step := p64 e 32
  let p := c.p
  if step ≠ getF s ANC_STEP_COUNT_STEP p + 1 then .reject stIllegal 0
  else if !updatesDone s p || !drainDone s p then .wait
  else
    let x := getPart s p
    let bad := badTensors x
    let whole := !bad.isEmpty && !((partCfg s p).map (·.skipTensor)).getD false
    let upd := (x.steps.filter (fun y => y.2.updated)).map (·.1)
    let s2 := if whole then skipStep s p step else acceptStep s p step bad
    let s3 := logWarm s2 p (warmSlots s p) step
    let s4 := writeTrace s3 p step
    let (s5, recs) := writeNorms s4 p step (fun t => if whole then upd.contains t else bad.contains t)
    let s6 := setF s5 ANC_STEP_COUNT_STEP p step
    let trace := traceEntry s3 p step
    let s7 := modPart s6 p (fun y =>
      let z := endStep y s.counter
      if whole then { z with traces := z.traces ++ [trace] }
      else { z with version := step, peatSnap := z.snap, snap := ⟨y.hist, y.scales, recs⟩
                    traces := z.traces ++ [trace] })
    let s8 := if whole then s7 else startDrain s7 p step x.version upd
    let s9 := setFbState (spillFullStart s8 (startCtx s8 p (c.n + 1))) p
    .effect s9 (if !bad.isEmpty then 0x0E else if x.storm.isSome then 0x0F else stOK) 0 false .done

def execStepCommit (q : QueueId) (n : W32) (s : State) : Host.Outcome State Fault Refusal :=
  .next (runEntry q n (· == 0x31) [(32, 8)] (commitBody (ctxOf s q n 0)) s)

end Sys2Proof.Machine
end

