-- ==== Sys2Proof/Machine/Check.lean ====
section
/-! DEFINITION. What CHECK evaluates (R427 to R437): the header and directory from the image's bytes, and the range,
consistency, resource, feed and reachability rules over the settings of its sections. -/

namespace Sys2Proof.Machine

/-- A finding (R437). ITEM and VALUE are none where R437 names nothing to put there (log 42). -/
structure Finding where
  stage  : Nat
  status : Nat
  code   : Nat
  type   : Nat
  item   : Option Nat
  value  : Option Int
  deriving DecidableEq, Repr

def fStruct (at_ : Nat) (stage : Nat) : Finding := ⟨stage, stFormat, 0x02, 0, none, some (Int.ofNat at_)⟩
def fBind (at_ : Nat) : Finding := ⟨3, stInconsistent, 0x03, 0, none, some (Int.ofNat at_)⟩

/-- A finding of stage 4. -/
def f4 (code type item : Nat) (value : Option Int := none) : Finding := ⟨4, stInconsistent, code, type, some item, value⟩

/-- RANGE unless the setting is legal. -/
def rng (type item : Nat) (v : Int) (ok : Bool) : List Finding := if ok then [] else [f4 0x04 type item (some v)]
def rngN (type item v lo hi : Nat) : List Finding := rng type item (Int.ofNat v) (decide (lo ≤ v ∧ v ≤ hi))
def refF (type item v : Nat) (ok : Bool) : List Finding := if ok then [] else [f4 0x09 type item (some (Int.ofNat v))]

/-! ### Stages 1 to 3 -/

/-- A directory entry (R428). -/
structure DirEntry where
  type   : Nat
  offset : Nat
  length : Nat
  resv   : Bool
  deriving DecidableEq, Repr

def dirEntry (b : List Byte) (i : Nat) : DirEntry :=
  let o := 128 + 16 * i
  ⟨leAt b o 2, leAt b (o + 4) 4, leAt b (o + 8) 4, leAt b (o + 2) 2 == 0 && leAt b (o + 12) 4 == 0⟩

def directory (b : List Byte) : List DirEntry := (List.range (leAt b 20 4)).map (dirEntry b)

def imgLen (b : List Byte) : Nat := leAt b 24 4
def imgSig (b : List Byte) : Nat := leAt b 28 4
def imgDelta (b : List Byte) : Bool := leAt b 6 1 == 1

/-- Stage 1, the header fields that locate the signature: the offset of the first bad one. -/
def headerFault (b : List Byte) (limit : Nat) : Option Nat :=
  if leAt b 0 4 ≠ 0x59464C44 then some 0
  else if leAt b 4 2 ≠ 1 then some 4
  else if imgLen b > limit then some 24
  else if imgSig b % 64 ≠ 0 ∨ imgSig b + 1282 > imgLen b then some 28
  else none

/-- Stage 2: the rest of R427, the directory of R428 and the sections of R431; the offset of the first failure. -/
def structFault (b : List Byte) : Option Nat :=
  let n := leAt b 20 4
  let d := directory b
  let bad (i : Nat) : Bool :=
    let e := dirEntry b i
    let prev := if i = 0 then 0 else (dirEntry b (i - 1)).type
    !e.resv || decide (e.type ≤ prev) || decide (e.type > 0x0B) || decide (e.offset % 64 ≠ 0)
    || decide (e.offset < 128 + 16 * n) || decide (e.offset + e.length > imgSig b)
  if leAt b 6 1 > 1 then some 6
  else if leAt b 7 1 ≠ 0 then some 7
  else if n > 16 ∨ 128 + 16 * n > imgSig b then some 20
  else if imgDelta b = false ∧ (sliceB b 32 32).any (· != 0) = true then some 32
  else if leAt b 67 1 ≠ 0 then some 67
  else if (sliceB b 76 52).any (· != 0) then some 76
  else match (List.range n).find? bad with
    | some i => some (128 + 16 * i)
    | none =>
      if imgDelta b = false ∧ [1, 2, 3, 7].all (fun t => d.any (fun e => e.type == t)) = false then some 128 else none

/-- Stage 3. -/
def bindFault (s : State) (b : List Byte) : Option Nat :=
  if leAt b 64 2 ≠ 0x0768 then some 64
  else if leAt b 66 1 ≠ 0xC0 then some 66
  else if (sliceB b 68 8).any (· != 0) ∧ sliceB b 68 8 ≠ sliceB (bindValue s) 0 8 then some 68
  else if imgDelta b = true ∧ sliceB b 32 32 ≠ s.cfg.committed.digest then some 32
  else none

/-- The digest of an image (R430). -/
def imageDigest (b : List Byte) : List Byte :=
  let whole := sliceB b 0 (imgLen b)
  Config.shake256 (if imgDelta b then sliceB b 32 32 ++ whole else whole) 32

/-- The settings that an image gives (R431): a section that it holds replaces the whole of the same section, and the absent
sections of a FULL image are at their defaults; then slots, tensors, groups and partitions take what the sections give them. -/
def mergeCfg (base : ImageCfg) (delta : Bool) (types : List Nat) (x : Sections) : ImageCfg :=
  let b : ImageCfg := if delta then base else {}
  let has (t : Nat) : Bool := types.contains t
  let man := x.manifest.getD ([], [], [], [])
  let lay := x.layers.getD ([], [], [])
  let vcs := x.vcMap.getD ({}, [])
  let red := x.redundancy.getD ({}, [])
  let pow := x.power.getD ({}, [])
  ImageCfg.resolve
  { parts := if has 1 then x.parts.getD [] else b.parts
    tensors := if has 2 then x.tensors.getD [] else b.tensors
    layers := if has 3 then lay.1 else b.layers
    slots := if has 3 then lay.2.1 else b.slots
    tensorMap := if has 3 then lay.2.2 else b.tensorMap
    split := if has 5 then x.split.getD {} else b.split
    vcMap := if has 6 then vcs.1 else b.vcMap
    groupVc := if has 6 then vcs.2 else b.groupVc
    groups := if has 7 then man.1 else b.groups
    mcast := if has 7 then man.2.1 else b.mcast
    epochTensors := if has 7 then man.2.2.1 else b.epochTensors
    tensorRed := if has 7 then man.2.2.2 else b.tensorRed
    routing := if has 8 then x.routing.getD {} else b.routing
    policy := if has 4 then x.scale.getD {} else b.policy
    redundancy := if has 9 then red.1 else b.redundancy
    partRed := if has 9 then red.2 else b.partRed
    understory := if has 10 then x.understory.getD {} else b.understory
    power := if has 11 then pow.1 else b.power
    partPower := if has 11 then pow.2 else b.partPower }

/-! ### Stage 4 -/

def normalF32 (w : W32) : Bool := decide (0x00800000 ≤ w.toNat) && decide (w.toNat < 0x7F800000)

def partFindings (p : Nat) (c : PartCfg) : List Finding :=
  refF 1 p p (decide (p < 8))
  ++ rng 1 p (Int.ofNat c.cushions) (decide (0 < c.cushions ∧ c.cushions < 2 ^ 24))
  ++ rng 1 p (Int.ofNat c.granules) (decide (0 < c.granules ∧ c.granules < 2 ^ 768))
  ++ rng 1 p (Int.ofNat c.ports) (decide (c.ports < 2 ^ 36))
  ++ rngN 1 p c.descCount 256 65535
  ++ rngN 1 p c.rungDepth 0 65535
  ++ rngN 1 p c.normDepth 1 65535
  ++ rngN 1 p c.retainGiB 0 128
  ++ rngN 4 p c.stagingGiB 0 64
  ++ rngN 1 p c.reserve64ths 0 32
  ++ (match c.stormFootprint with
      | some v => if v ≤ reserveBytes c then [] else [f4 0x10 1 p (some (Int.ofNat v))]
      | none => [f4 0x10 1 p])
  ++ rngN 1 p c.ckptInterval 1 65535
  ++ rngN 1 p c.troubleSteps 1 15
  ++ rngN 1 p c.stormLog2 1 4
  ++ rng 1 p (Int.ofNat c.clipNorm.toNat) (normalF32 c.clipNorm)
  ++ rngN 1 p c.rolloutEvery 1 1024
  ++ rngN 1 p c.drainGiveup 1 600
  ++ rngN 1 p c.partWeight 1 255
  ++ rngN 1 p c.remoteTimeoutUs 10 100000
  ++ rngN 1 p c.rescaleMax 1 7
  ++ rngN 1 p c.redGiveup 1 6000
  ++ rngN 1 p c.retractLimit 1 7
  ++ rngN 11 p c.pgateIdleUs 1 100000
  ++ (match c.buddy with
      | some b => rng 9 p (Int.ofNat b.dev) (decide (b.dev < 4096)) ++ refF 9 p b.part (decide (b.part < 8))
      | none => [])

/-- R25, R26: the second of two partitions that name one cushion or granule. -/
def sharedFindings (c : ImageCfg) : List Finding :=
  let pairs (f : PartCfg → Nat) (n code : Nat) : List Finding := (List.range n).flatMap (fun k =>
    match c.parts.filter (fun e => bitOf (f e.2) k) with
    | _ :: rest => rest.map (fun e => f4 code 1 k (some (Int.ofNat e.1)))
    | [] => [])
  pairs (·.cushions) 24 0x05 ++ pairs (·.granules) 768 0x06

def hasPart (c : ImageCfg) (p : Nat) : Bool := c.parts.any (fun e => e.1 == p)

def tensorFindings (c : ImageCfg) (t : TensorCfg) : List Finding :=
  let slotOk (k : Nat) : Bool := c.slots.any (fun x => x.part == t.part && x.slot == k)
  refF 2 t.tensor t.part (hasPart c t.part)
  ++ refF 2 t.tensor t.layer (c.layers.any (fun l => l.part == t.part && l.layer == t.layer))
  ++ rng 2 t.tensor (Int.ofNat (t.rows * t.cols)) (decide (0 < t.rows * t.cols))
  ++ rngN 2 t.tensor t.slots 0 2
  ++ refF 2 t.tensor t.fwdSlot (slotOk t.fwdSlot) ++ refF 2 t.tensor t.bwdSlot (slotOk t.bwdSlot)
  ++ rng 3 t.tensor (Int.ofNat t.groupCode) (decide (t.groupCode ≤ 12 ∨ t.groupCode = 15))
  ++ rng 3 t.tensor (Int.ofNat t.spill64ths) ([0, 1, 2, 4, 8, 16].contains t.spill64ths)
  ++ rngN 3 t.tensor t.clipMode 0 2
  ++ rng 3 t.tensor (Int.ofNat t.clipNorm.toNat) (normalF32 t.clipNorm)
  ++ rngN 7 t.tensor t.redHeadroom 0 15
  ++ rng 7 t.tensor t.redInitLog2 (decide (-63 ≤ t.redInitLog2 ∧ t.redInitLog2 ≤ 63))
  ++ (if t.shardGroup = 0xFFFF then [] else refF 2 t.tensor t.shardGroup (c.groups.any (fun g => g.group == t.shardGroup)))

def gemmFindings (l : Nat) (g : GemmCfg) : List Finding :=
  rng 3 l (Int.ofNat g.rot) ([0, 16, 32, 64, 128].contains g.rot)
  ++ rngN 3 l g.seed 1 0xFFFFFFFF
  ++ rngN 3 l g.promote 1 32
  ++ rng 3 l (Int.ofNat g.kseg) (g.kseg == 0 || (decide (g.kseg ≤ 1048576) && g.kseg % g.promote == 0))

def layerFindings (c : ImageCfg) (l : LayerCfg) : List Finding :=
  refF 3 l.layer l.part (hasPart c l.part)
  ++ gemmFindings l.layer l.fwd ++ gemmFindings l.layer l.dx ++ gemmFindings l.layer l.dw
  ++ rngN 3 l.layer l.thrLog2 2 12

/-- The ranges of R67 for the values that a slot or a partition gives of its own. -/
def ownFindings (type item : Nat) (o : ScaleOwn) : List Finding :=
  o.depth.toList.flatMap (fun v => rngN type item v 1 64) ++ o.headroom.toList.flatMap (fun v => rngN type item v 0 3)
  ++ o.crush.toList.flatMap (fun v => rngN type item v 1 16)

/-- The partition-wide values of the SCALE_POLICY section (R67). -/
def policyFindings (c : ImageCfg) : List Finding :=
  c.policy.wide.flatMap (fun e => refF 4 e.1 e.1 (hasPart c e.1) ++ ownFindings 4 e.1 e.2)

def slotFindings (c : ImageCfg) (k : SlotCfg) : List Finding :=
  let wide := decide (k.family = 5 ∨ k.family = 6)
  refF 3 k.slot k.part (hasPart c k.part)
  ++ (if k.layer = noSlot then [] else refF 3 k.slot k.layer (c.layers.any (fun l => l.part == k.part && l.layer == k.layer)))
  ++ rng 3 k.slot (Int.ofNat k.family) (wide || decide (k.family ≤ 4))
  ++ rng 3 k.slot (Int.ofNat k.width) (wide || (elemFmt (Family.ofCode k.family) k.width).isSome)
  ++ (if k.mode = .fixed then rng 4 k.slot (Int.ofNat k.fixed.toNat) (normalF32 k.fixed) else [])
  ++ ownFindings 3 k.slot k.own
  ++ rngN 3 k.slot k.budget 0 2 ++ rngN 3 k.slot k.shift 0 7

def vcFindings (c : ImageCfg) : List Finding :=
  let creditList (item : Nat) (l : List Nat) : List Finding :=
    ((l.zipIdx).flatMap (fun (v, i) => rngN 6 item v (if 24 ≤ i ∧ i < 36 then 4 else 0) 4096))
    ++ (if l.foldl (· + ·) 0 > 4096 then [f4 0x0B 6 item (some (Int.ofNat (l.foldl (· + ·) 0)))] else [])
  c.groups.flatMap (fun g => if g.vc < 8 then [] else [f4 0x0B 6 g.group (some (Int.ofNat g.vc))])
  ++ creditList 0 c.vcMap.credits ++ c.vcMap.byPort.flatMap (fun e => creditList e.1 e.2)
  ++ ((c.vcMap.weights.zipIdx).filter (fun e => decide (e.2 < 8 ∨ 12 ≤ e.2))).flatMap (fun (v, i) => rngN 6 i v 1 15)

/-- R274: the members, the grid and the backups of a group. -/
def groupFindings (g : GroupCfg) : List Finding :=
  let who := g.members.map (fun m => (m.dev, m.part))
  let rep := (who.zipIdx).filter (fun (x, i) => (who.take i).contains x)
  let bad := (g.members.zipIdx).filter (fun (m, _) => match m.backup with | some b => b.1 == m.dev | none => false)
  (if g.grid.foldl (· * ·) 1 = g.members.length ∧ 1 ≤ g.grid.length ∧ g.grid.length ≤ 3 then []
   else [f4 0x0A 7 g.group (some (Int.ofNat (g.grid.foldl (· * ·) 1)))])
  ++ (rep.map (·.2) ++ bad.map (·.2)).map (fun i => f4 0x0A 7 g.group (some (Int.ofNat i)))
  ++ rngN 7 g.group g.deadline 2 65535
  ++ rng 7 g.group (Int.ofNat g.sampleN) (g.sampleN == 0 || (List.range' 4 13).any (fun j => g.sampleN == 2 ^ j))
  ++ (g.members.filter (fun m => decide (m.part > 7))).map (fun m => f4 0x09 7 g.group (some (Int.ofNat m.part)))

def treeParents (m : McastCfg) (d : Nat) : List Nat := (m.edges.filter (fun e => e.2 == d)).map (·.1)

/-- Device `d` has one way up to the root, of at most the given length. -/
def climbs (m : McastCfg) : Nat → Nat → Bool
  | 0, d => d == m.root
  | k + 1, d => d == m.root || (match treeParents m d with | [q] => climbs m k q | _ => false)

/-- R358: the edges of a multicast group form a tree from its root to every receiver. -/
def isTree (m : McastCfg) : Bool :=
  (treeParents m m.root).isEmpty && (m.edges.map (·.2) ++ m.receivers).all (climbs m m.edges.length)

def mcastFindings (c : ImageCfg) (m : McastCfg) : List Finding :=
  rngN 7 m.group m.group 0 255
  ++ (if isTree m then [] else [f4 0x0C 7 m.group])
  ++ (if m.localRx then refF 7 m.group m.rxPart (hasPart c m.rxPart) else [])

def deviceFindings (c : ImageCfg) : List Finding :=
  let sp := c.split
  let r := c.routing
  let q := c.redundancy
  let u := c.understory
  let w := c.power
  rngN 5 0 sp.r 1 30 ++ rngN 5 0 sp.w 1 30 ++ rngN 5 0 sp.m 1 30
  ++ (if sp.r + sp.w + sp.m = 32 then [] else [f4 0x0F 5 0 (some (Int.ofNat (sp.r + sp.w + sp.m)))])
  ++ rngN 5 0 sp.prefetchDepth 0 16 ++ rngN 5 0 sp.prefetchKiB256 0 12
  ++ (r.replayTimeoutUs.zipIdx).flatMap (fun (v, i) => rngN 8 i v 1 64)
  ++ rngN 8 0 r.replayLimit 1 63 ++ rngN 8 0 r.trainLimit 1 15 ++ rngN 8 0 r.nonminBias 0 1023
  ++ rngN 8 0 r.commitGiveup 1 600 ++ rngN 8 0 r.roundGiveup 1 100 ++ rngN 8 0 r.bootGiveup 5 600
  ++ r.pins.flatMap (fun x => rng 8 x.colony (Int.ofNat x.port)
      (decide (x.colony < 256 ∧ x.slot < 4 ∧ x.member < 16 ∧ 15 ≤ x.port ∧ x.port < 36)))
  ++ rngN 9 0 q.testPeriod 1 720 ++ rngN 9 0 q.poisonLimit 1 1024
  ++ (if q.feedImage then rngN 9 0 q.feedId 1 0xFFFFFFFF else [])
  ++ rngN 10 0 u.scrubPeriod 1 168 ++ rngN 10 0 u.lichenIdle 1 10000 ++ rngN 10 0 u.sensorCal 1 600
  ++ rngN 10 0 u.serdesCal 10 3600 ++ rngN 10 0 u.telemPeriod 0 6000
  ++ (match u.telemBase with | some b => rng 10 0 (Int.ofNat b) (b % 1024 == 0 && addrLegal 0 b) | none => [])
  ++ rngN 10 0 u.telemFrames 16 1048576
  ++ rngN 11 0 w.pllIdle 1 1000 ++ rng 11 0 (Int.ofNat w.slewUp) (decide (50 ≤ w.slewUp ∧ w.slewUp ≤ 2000) && w.slewUp % 10 == 0)
  ++ rng 11 0 (Int.ofNat w.slewDown) (decide (50 ≤ w.slewDown ∧ w.slewDown ≤ 4000) && w.slewDown % 10 == 0)
  ++ rng 11 0 (Int.ofNat w.floor) (decide (w.floor ≤ 3000 ∧ w.floor ≤ w.cap) && w.floor % 50 == 0)
  ++ rng 11 0 (Int.ofNat w.cap) (decide (1000 ≤ w.cap ∧ w.cap ≤ 3200) && w.cap % 50 == 0)
  ++ rngN 11 0 w.thermWarn 70 105 ++ rngN 11 0 w.inletMax 20 50 ++ rngN 11 0 w.flowMin 10 100
  ++ rng 11 0 (Int.ofNat w.coolantCap) (decide (1000 ≤ w.coolantCap ∧ w.coolantCap ≤ 3200) && w.coolantCap % 50 == 0)
  ++ rng 11 0 (Int.ofNat w.flowPerKw) (decide (25 ≤ w.flowPerKw ∧ w.flowPerKw ≤ 500) && w.flowPerKw % 5 == 0)
  ++ rngN 11 0 w.flowFull 10 500 ++ rngN 11 0 w.flowMinReq 0 100 ++ rngN 11 0 w.flowLead 0 300
  ++ rngN 11 0 w.shelfAddr 0x08 0x77

/-- A state that holds an image's settings, for the layouts that follow from them. -/
def withCfg (s : State) (c : ImageCfg) : State :=
  { s with cfg := { s.cfg with committed := { s.cfg.committed with cfg := c } } }

/-- The byte ranges of a partition's objects (R437, PLACEMENT and OVERLAP): first byte and length. The queues are those of
a partition that has left IDLE, where software has placed them. -/
def partObjects (s : State) (c : ImageCfg) (p : Nat) (x : PartCfg) : List (Nat × Nat) :=
  let v := withCfg s c
  let ts := partTensors v p
  let upd := ts.countP (·.updatable)
  let entry := 16 + roundUp (ladderLayers v p).length 16
  let sets := ts.flatMap (fun t => (setItems v p t t.set0 ++ (if t.updatable then setItems v p t t.set1 else [])).flatMap (·.2))
  let queues := if (getPart s p).state = .idle then [] else
    ((queuesOf s p).filter (fun q => ringBase s q != 0)).flatMap (fun q =>
      [(ringBase s q, 128 * 2 ^ ringLog2 s q), (cqBase s q, 16 * 2 ^ ringLog2 s q)])
  ([(x.descBase, 128 * x.descCount), (x.rungRing, entry * x.rungDepth), (x.normRing, 64 * upd * x.normDepth),
    (x.retainBase, x.retainGiB * 2 ^ 30), (x.jitBase, 2 ^ 20), (x.stagingBase, x.stagingGiB * 2 ^ 30),
    (x.reserveBase, reserveBytes x)] ++ sets ++ queues).filter (fun o => decide (0 < o.2))

def placeFindings (s : State) (c : ImageCfg) (p : Nat) (x : PartCfg) : List Finding :=
  let os := partObjects s c p x
  let inside (o : Nat × Nat) : Bool := decide (o.1 + o.2 ≤ 2 ^ 40) &&
    (List.range ((o.1 + o.2 - 1) / 2 ^ 30 + 1 - o.1 / 2 ^ 30)).all (fun i => bitOf x.granules (o.1 / 2 ^ 30 + i))
  let meet (a b : Nat × Nat) : Bool := decide (a.1 < b.1 + b.2) && decide (b.1 < a.1 + a.2)
  (os.filter (fun o => !inside o)).map (fun o => f4 0x07 1 p (some (Int.ofNat o.1)))
  ++ (os.zipIdx).flatMap (fun (a, i) => ((os.drop (i + 1)).filter (meet a)).map (fun _ => f4 0x08 1 p))

/-- The size of the checkpoint stream that the tensor table implies (R417, R420). -/
def streamSize (s : State) (c : ImageCfg) (p : Nat) : Nat :=
  let v := withCfg s c
  let ts := partTensors v p
  let rec_ (n : Nat) : Nat := 48 * max 1 (ceilDiv n (2 ^ 20)) + roundUp n 16
  let hist := ((c.slots.filter (fun k => k.part == p && k.mode != .fixed)).map (fun k => 16 + 4 * k.depth)).foldl (· + ·) 0
  ts.foldl (fun n t => n + (setItems v p t t.set0).foldl (fun k it => k + rec_ (it.2.foldl (fun a r => a + r.2) 0)) 0)
    (rec_ 16 + rec_ 0 + rec_ hist + rec_ (64 * ts.countP (·.updatable)) + rec_ 0 + rec_ 0)

def buddyFindings (s : State) (c : ImageCfg) (p : Nat) (x : PartCfg) : List Finding :=
  match x.buddy with
  | some b => if b.granules.length * 2 ^ 30 < 2 * streamSize s c p then [f4 0x0E 7 p (some (Int.ofNat b.granules.length))] else []
  | none => []

/-- Stage 4: every range and consistency rule. -/
def stage4 (s : State) (c : ImageCfg) : List Finding :=
  c.parts.flatMap (fun e => partFindings e.1 e.2 ++ placeFindings s c e.1 e.2 ++ buddyFindings s c e.1 e.2)
  ++ sharedFindings c ++ c.tensors.flatMap (tensorFindings c) ++ c.layers.flatMap (layerFindings c)
  ++ c.slots.flatMap (slotFindings c) ++ policyFindings c ++ vcFindings c ++ c.groups.flatMap groupFindings
  ++ c.mcast.flatMap (mcastFindings c) ++ deviceFindings c
  ++ (c.epochTensors.filter (fun e => decide (e.2 > 4096))).map (fun e => f4 0x0D 7 e.1 (some (Int.ofNat e.2)))

/-! ### Stages 5 to 7 -/

/-- Stage 5 for one partition (R409, R411, R414): withdrawn cushions, RETIRED granules and overdue cushions that are new. -/
def stage5 (s : State) (e : Nat × PartCfg) : List Finding :=
  let old := partCfg s e.1
  let newC (k : Nat) : Bool := !bitOf ((old.map (·.cushions)).getD 0) k
  let newG (k : Nat) : Bool := !bitOf ((old.map (·.granules)).getD 0) k
  let overdue (k : Nat) : Bool := (List.range 12).any (fun i => getF s FRD_REL_STATE_TEST_OVERDUE (12 * k + i) == 1)
  let f (k : Nat) : Finding := ⟨5, stNoResource, 0x11, 1, some k, none⟩
  ((List.range 24).filter (fun k => bitOf e.2.cushions k && (!cushionPresent s k || (newC k && overdue k)))).map f
  ++ ((List.range 768).filter (fun k => bitOf e.2.granules k && (s.mgmt.trained.any (fun t => t.1 == k / 64 && t.2 ≥ 3)
      || (newG k && s.cfg.floor.retired.contains k)))).map f

/-- Stage 6 for one partition (R418): the feed of its buddy. -/
def stage6 (s : State) (feeds : List FeedRead) (e : Nat × PartCfg) : List Finding :=
  match e.2.buddy with
  | none => []
  | some b =>
    let own : FeedRead := ⟨e.1, getF s ANC_FEED_ID_FEED, decide (getF s ANC_FEED_ID_SOURCE ≠ 0)⟩
    match if s.fabric.addr = some b.dev then some own else feeds.find? (fun f => f.part == e.1) with
    | none => [⟨6, stLinkDown, 0x13, 9, some e.1, none⟩]
    | some f =>
      if getF s ANC_FEED_ID_SOURCE = 0 ∨ f.source = false ∨ f.feed = getF s ANC_FEED_ID_FEED then
        [⟨6, stFeedConflict, 0x12, 9, some e.1, some (Int.ofNat f.feed)⟩]
      else []

/-- This device's place in a group, for partition `p`. -/
def namesPart (s : State) (g : GroupCfg) (p : Nat) : Bool :=
  g.members.any (fun m => (some m.dev == s.fabric.addr && m.part == p) ||
    (match m.backup with | some b => some b.1 == s.fabric.addr && b.2 == p | none => false))

def mcastNames (s : State) (m : McastCfg) (p : Nat) : Bool :=
  (some m.root == s.fabric.addr && m.rootPart == p) || (m.localRx && m.rxPart == p)

/-- The other devices that a partition's settings name (R424): members and backups of its groups, its buddy and the roots of
its multicast groups, with section and item. -/
def namedDevices (s : State) (c : ImageCfg) (p : Nat) : List (Nat × Nat × Nat) :=
  let gs := (c.groups.filter (fun g => namesPart s g p)).flatMap (fun g =>
    g.members.flatMap (fun m => [(7, g.group, m.dev)] ++ (m.backup.toList.map (fun b => (7, g.group, b.1)))))
  let b := ((c.parts.find? (fun e => e.1 == p)).bind (·.2.buddy)).toList.map (fun b => (9, p, b.dev))
  let ms := (c.mcast.filter (fun m => mcastNames s m p)).map (fun m => (7, m.group, m.root))
  (gs ++ b ++ ms).filter (fun d => some d.2.2 != s.fabric.addr)

/-- Stage 7 for one partition. -/
def stage7 (s : State) (c : ImageCfg) (p : Nat) : List Finding :=
  ((namedDevices s c p).filter (fun d => !reachable s d.2.2)).map (fun d =>
    ⟨7, stLinkDown, 0x13, d.1, some d.2.1, some (Int.ofNat d.2.2)⟩)

/-- Stages 5 to 7 of an image (R435, R440). -/
def lateStages (s : State) (c : ImageCfg) (feeds : List FeedRead) : List Finding :=
  c.parts.flatMap (stage5 s) ++ c.parts.flatMap (stage6 s feeds) ++ c.parts.flatMap (fun e => stage7 s c e.1)

/-- Findings stand in stage order, then by section and item (R437). -/
def sortFindings (l : List Finding) : List Finding :=
  sortBy (fun a b => decide (a.stage < b.stage) || (a.stage == b.stage &&
    (decide (a.type < b.type) || (a.type == b.type && decide (a.item.getD 0 ≤ b.item.getD 0))))) l

/-- The status of the first stage that fails; stage 6 gives LINK_DOWN before FEED_CONFLICT. -/
def findingStatus (l : List Finding) : Nat :=
  match l with
  | [] => stOK
  | a :: _ => if a.stage = 6 ∧ l.any (fun f => f.stage == 6 && f.status == stLinkDown) = true then stLinkDown else a.status

/-- Every finding of an image, its settings and whether its sections were read. -/
def evaluate (s : State) (b : List Byte) (limit : Nat) (i : CheckInput) : List Finding × ImageCfg :=
  let c := mergeCfg (cfgOf s) (imgDelta b) ((directory b).map (·.type)) i.sections
  match headerFault b limit with
  | some o => ([fStruct o 1], c)
  | none =>
    if i.sigOk = false then ([⟨1, stSignature, 0x01, 0, none, none⟩], c)
    else if leAt b 16 4 < s.flash.imageCtr then ([⟨1, stSignature, 0x01, 0, none, some (Int.ofNat (leAt b 16 4))⟩], c)
    else match structFault b with
      | some o => ([fStruct o 2], c)
      | none =>
        match bindFault s b with
        | some o => ([fBind o], c)
        | none => (sortFindings (stage4 s c ++ lateStages s c i.feeds), c)

/-- The signature itself fails (R505). -/
def imageUnsigned (b : List Byte) (limit : Nat) (i : CheckInput) : Bool := (headerFault b limit).isNone && !i.sigOk

/-- The 16 bytes of a finding (R437). -/
def Finding.bytes (f : Finding) (n : Nat) : List Byte :=
  leBytes 1 f.status ++ leBytes 1 f.code ++ leBytes 2 f.type ++
  leBytes 4 ((f.item.map (BitVec.ofNat 64)).getD (Config.findingField f.code 0 n)).toNat ++
  leBytes 8 ((f.value.map (BitVec.ofInt 64)).getD (Config.findingField f.code 1 n)).toNat

/-- The report of a CHECK (R437). -/
def reportBytes (status : Nat) (fs : List Finding) (digest imageId : List Byte) (cap draw : Nat) : List Byte :=
  let room := (cap - 64) / 16
  leBytes 1 status ++ leBytes 1 (b2n (decide (fs.length > room)) + 2 * b2n (decide (status = 0))) ++ leBytes 2 0 ++
  leBytes 4 fs.length ++ sliceB digest 0 32 ++ sliceB imageId 0 8 ++ leBytes 16 0 ++
  ((fs.take room).zipIdx).flatMap (fun (f, k) => f.bytes (draw + k))

/-- The image that a CHECK with OK stages (R436). -/
def stagedImage (b : List Byte) (digest : List Byte) (c : ImageCfg) (old : StoredImage) : StoredImage where
  delta := imgDelta b
  imageId := leAt b 8 8
  secVer := leAt b 16 4
  digest := digest
  manifest := match (directory b).find? (fun e => e.type == 7) with
    | some e => sliceB b e.offset e.length
    | none => old.manifest
  cfg := c

end Sys2Proof.Machine
end

