-- ==== Sys2Proof/Machine/Commit.lean ====
section
/-! DEFINITION. CHECK (R435 to R437) and what a COMMIT changes (R106, R289, R320, R408, R409, R411, R434, R439 to R442). -/

namespace Sys2Proof.Machine

/-! ### CHECK -/

/-- Bytes of installed HBM (R251). -/
def hbmRange (a n : Nat) : Bool := decide (a + n ≤ 12 * 2 ^ 36)

def checkImageBody (i : CheckInput) (s : State) (e : List Byte) : Verdict :=
  let image := p64 e 32
  let len := p32 e 40
  let report := p64 e 48
  let cap := p32 e 56
  if image % 64 ≠ 0 ∨ report % 64 ≠ 0 ∨ len < 128 ∨ len > 2 ^ 24 ∨ cap < 64 ∨ cap > 2 ^ 20 ∨ cap % 16 ≠ 0 then
    .reject stBadDesc 0
  else if !hbmRange image len || !hbmRange report cap then .reject stBounds 0
  else
    let s0 := readUnits s (unitsOf image len)
    let b := readBytes s0 image len
    let (fs, c) := evaluate s0 b len i
    let s0 := if imageUnsigned b len i then sigFail s0 1 else s0
    let st := findingStatus fs
    let digest := imageDigest b
    let s1 := writeBytes { s0 with free := s0.free + fs.length } report
      (reportBytes st fs digest (sliceB b 8 8) cap s0.free)
    let staged := if st = stOK then some (stagedImage b digest c s0.cfg.committed) else none
    let s2 := { s1 with cfg := { s1.cfg with staged := staged } }
    let s3 := setF (setF s2 CFG_STATE_STAGED 0 (b2n staged.isSome)) CFG_STAGED_DIGEST_DIGEST 0
      (if staged.isSome then leAt digest 0 8 else 0)
    let s4 := bump (bump s3 CFG_EVENTS_CHECKS 0 1) CFG_EVENTS_CHECK_FAILS 0 (b2n (decide (st ≠ stOK)))
    .effect s4 st 0 false .done

def execCheck (q : QueueId) (n : W32) (i : CheckInput) (s : State) : Host.Outcome State Fault Refusal :=
  .next (runEntry q n (· == 0x40) [(32, 12), (48, 12)] (checkImageBody i) s)

/-! ### Register classes at a COMMIT (R544) -/

/-- The FROND event of enabled frond `f`, with its queue: its index is mapped to another physical frond. -/
def resetFrondRegs (s0 : State) (f : Nat) : State :=
  let s := { s0 with queues := s0.queues.filter (fun e => e.1 != f) }
  resetRegs s (fun r i => decide (0x100000 ≤ r.off) && (r.cls == .frond || r.cls == .owner) && i == f)

/-- The OWNER event of cushion `c`, with the queues of the cushion and its fronds. -/
def resetOwner (s : State) (c : Nat) : State :=
  let s1 := resetRegs s (fun r i => r.cls == .owner && (if 0x100000 ≤ r.off then i / 12 == c else i == c))
  { s1 with queues := s1.queues.filter (fun e => !(decide (e.1 < 288) && e.1 / 12 == c) && e.1 != 288 + c) }

/-- The PART event of partition `p`, with its anchor queue. -/
def resetPartRegs (s : State) (p : Nat) : State :=
  let s1 := resetRegs s (fun r i => r.cls == .part && i == p)
  { s1 with queues := s1.queues.filter (fun e => e.1 != 312 + p) }

/-! ### The floorplan record (R408, R409, R411, R433, R434) -/

def floorCushion (s : State) (c : Nat) : FloorCushion := s.cfg.floor.cushions.getD c FloorCushion.made

/-- ANC_SPARES, CFG_FLOORPLAN and FRONDS show the record. -/
def showFloor (s : State) : State :=
  let cs := s.cfg.floor.cushions
  let gone := cs.countP (fun c => c.status == 3)
  let s1 := setF s ANC_SPARES_CUSHIONS 0 ((cs.zipIdx).foldl (fun v (c, i) => v + c.status * 4 ^ i) 0)
  let s2 := setF (setF (setF s1 CFG_FLOORPLAN_SEQUENCE 0 (s.cfg.floor.sequence % 2 ^ 32)) CFG_FLOORPLAN_WITHDRAWN 0 gone)
    CFG_FLOORPLAN_RETIRED_GRANULES 0 s.cfg.floor.retired.length
  setF s2 ANC_DEVICE_ID_FRONDS 0 (12 * (24 - gone))

/-- A new record is written to the copy with the older SEQUENCE, and then the counter is raised (R434); at its largest value
it stays (R506). -/
def writeFloor (s : State) (fp : Floorplan) : State :=
  let fp1 := { fp with sequence := min (s.cfg.floor.sequence + 1) (2 ^ 64 - 1) }
  let fl := if s.flash.fpA.sequence ≤ s.flash.fpB.sequence then { s.flash with fpA := fp1 } else { s.flash with fpB := fp1 }
  showFloor { s with cfg := { s.cfg with floor := fp1 }, flash := { fl with fpCounter := max fl.fpCounter fp1.sequence } }

/-- What a retirement in a cushion loses: the local memory and rhizome contents of its fronds (R409). -/
def loseCushion (s : State) (c : Nat) : State :=
  (List.range 12).foldl (fun s i =>
    let f := 12 * c + i
    modFrond (zeroRange s (localKey f 0) (2 ^ 22)) f (fun x => { x with slots := [], progs := [], vrun := none })) s

/-- The partition that owns a cushion, if any, is IDLE or LOADED (R409). -/
def cushionQuiet (s : State) (c : Nat) : Bool :=
  match ownerOfCushion s c with
  | some p => (getPart s p).state == .idle || (getPart s p).state == .loaded
  | none => true

/-- The offset that a MAP does not name (R433). -/
def spareOffset (m : Nat) : Nat := ((List.range 13).find? (fun o => !(List.range 12).any (fun i => bitsOf m (4 * i) 4 == o))).getD 12

/-- One frond is retired: its spare takes its index, or the cushion is withdrawn (R409). The new position of a withdrawn
cushion's frond is free: there is none. -/
def retireFrond (s : State) (f : Nat) : State :=
  let c := cushionOf f
  let k := floorCushion s c
  let old := bitsOf k.map (4 * (f % 12)) 4
  let q := 13 * (c % 12)
  let put (k' : FloorCushion) (s : State) : State :=
    { s with cfg := { s.cfg with floor := { s.cfg.floor with cushions := s.cfg.floor.cushions.set c k' } } }
  let s0 := { s with mgmt := { s.mgmt with suspect := s.mgmt.suspect.filter (· != physOf s f) } }
  if k.status = 0 then
    let sp := spareOffset k.map
    let s1 := put ⟨putBits k.map (4 * (f % 12)) 4 sp, 1⟩ s0
    let s2 := bump (resetFrondRegs (loseCushion s1 c) f) ANC_REL_EVENTS_RETIRED 0 1
    raiseCause (logEvent s2 0x0404 1 2 f (ownerOfCushion s c)
      (leBytes 1 (c / 12) ++ leBytes 1 (q + old) ++ leBytes 1 (q + sp) ++ leBytes 1 0)) 11 2
  else
    let s1 := put { k with status := 3 } (loseCushion { s0 with free := s0.free + 1 } c)
    raiseCause (logEvent s1 0x0404 1 2 f (ownerOfCushion s c)
      (leBytes 1 (c / 12) ++ leBytes 1 (q + old) ++ leBytes 1 ((Config.findingField 0x04 2 s.free).toNat % 256) ++ leBytes 1 1)) 11 2

/-- A cushion that failed its test is withdrawn (R415); no frond is retired, so there is no record of R409 (log 120). -/
def withdrawCushion (s : State) (c : Nat) : State :=
  let s1 := loseCushion s c
  { s1 with cfg := { s1.cfg with floor := { s1.cfg.floor with
      cushions := s1.cfg.floor.cushions.set c { floorCushion s1 c with status := 3 } } } }

/-- Enabled fronds that the next COMMIT may retire. -/
def toRetire (s : State) : List Nat := (List.range 288).filter (fun f =>
  frondEnabled s f && s.mgmt.suspect.contains (physOf s f) && cushionQuiet s (cushionOf f))

/-- Granules that the next COMMIT marks RETIRED (R411). -/
def granulesOut (s : State) : List (Nat × Nat) :=
  ((dedupNat (s.mgmt.badBlocks.map (fun u => granuleOf (256 * u)))).map (fun g =>
    (g, s.mgmt.badBlocks.countP (fun u => granuleOf (256 * u) == g)))).filter (fun e =>
      decide ((cfgOf s).redundancy.poisonLimit ≤ e.2) && !s.cfg.floor.retired.contains e.1)

/-- The COMMIT must write the floorplan record (R440). -/
def floorDue (s : State) : Bool :=
  !(toRetire s).isEmpty || !(granulesOut s).isEmpty || !(s.mgmt.badCushions.filter (cushionQuiet s)).isEmpty
  || (s.cfg.floor != s.flash.fpA && s.cfg.floor != s.flash.fpB)

/-- Step 1 of R440. -/
def updateFloor (s : State) : State :=
  let fs := toRetire s
  let bad := s.mgmt.badCushions.filter (cushionQuiet s)
  let gs := granulesOut s
  if !floorDue s then s
  else
    let s1 := fs.foldl (fun s f => if frondEnabled s f then retireFrond s f else s) s
    let s2 := bad.foldl withdrawCushion { s1 with mgmt := { s1.mgmt with badCushions := s1.mgmt.badCushions.filter (fun c => !bad.contains c) } }
    let s3 := gs.foldl (fun s g =>
      raiseCause (logEvent { s with cfg := { s.cfg with floor := { s.cfg.floor with retired := s.cfg.floor.retired ++ [g.1] } } }
        0x0205 3 2 (g.1 / 64) (ownerOfGranule s g.1) (leBytes 2 g.1 ++ leBytes 2 (min g.2 65535))) 11 3) s2
    writeFloor s3 s3.cfg.floor

/-! ### What a COMMIT changes (R439, R441) -/

/-- The entries of the settings that name partition `p` (R439). -/
def partView (s : State) (c : ImageCfg) (p : Nat) : ImageCfg where
  parts := c.parts.filter (fun e => e.1 == p)
  tensors := c.tensors.filter (fun t => t.part == p)
  layers := c.layers.filter (fun l => l.part == p)
  slots := c.slots.filter (fun k => k.part == p)
  groups := c.groups.filter (fun g => namesPart s g p)
  mcast := c.mcast.filter (fun m => mcastNames s m p)
  epochTensors := c.epochTensors.filter (fun e => e.1 == p)
  policy := ⟨c.policy.wide.filter (fun e => e.1 == p), c.policy.staging.filter (fun e => e.1 == p),
    c.policy.fixed.filter (fun e => e.1 == p)⟩
  partRed := c.partRed.filter (fun r => r.part == p)
  partPower := c.partPower.filter (fun e => e.1 == p)
  tensorMap := c.tensorMap.filter (fun m => m.part == p)
  tensorRed := c.tensorRed.filter (fun r => r.part == p)

def changedParts (s : State) (new : ImageCfg) : List Nat :=
  (List.range 8).filter (fun p => partView s (cfgOf s) p != partView s new p)

def mapOf (c : ImageCfg) (f : PartCfg → Nat) (p : Nat) : Nat := ((c.parts.find? (fun e => e.1 == p)).map (fun e => f e.2)).getD 0

/-- The COMMIT changes the cushions or granules of partition `p` (R321). -/
def movesUnits (s : State) (new : ImageCfg) (p : Nat) : Bool :=
  mapOf (cfgOf s) (·.cushions) p != mapOf new (·.cushions) p || mapOf (cfgOf s) (·.granules) p != mapOf new (·.granules) p

def sameRot (a b : GemmCfg) : Bool := a.rot == b.rot && a.seed == b.seed

/-- R106: the layers of partition `p` whose rotation changes: copies start at bias 0, slots enter warm-up, one record per
layer names the first GEMM changed. -/
def changeRotations (s : State) (new : ImageCfg) (p : Nat) : State :=
  let before := warmSlots s p
  let s1 := ((cfgOf s).layers.filter (fun l => l.part == p)).foldl (fun s l =>
    match new.layers.find? (fun x => x.part == p && x.layer == l.layer) with
    | none => s
    | some n =>
      let gs : List (GemmKind × GemmCfg × GemmCfg) := [(.fwd, l.fwd, n.fwd), (.dx, l.dx, n.dx), (.dw, l.dw, n.dw)]
      let diff := gs.filter (fun g => !sameRot g.2.1 g.2.2)
      match diff with
      | [] => s
      | g :: _ =>
        let ts := (cfgOf s).tensors.filter (fun t => t.part == p && t.layer == l.layer)
        let ks := new.slots.filter (fun k => k.part == p && k.layer == l.layer && k.mode == .history && diff.any (fun d => d.1 == k.gemm))
        let s1 := modPart s p (fun x => { x with
          rebias := dedupNat (x.rebias ++ ts.flatMap (fun t => [2 * t.tensor, 2 * t.tensor + 1]))
          hist := ks.foldl (fun h k => tblSet HistSt.empty h k.slot { HistSt.empty with warm := k.depth }) x.hist })
        let code := match g.1 with | .fwd => 0 | .dx => 1 | .dw => 2
        logEvent s1 0x0107 0 0 0 (some p) (leBytes 4 l.layer ++ leBytes 1 code ++ leBytes 1 g.2.1.rot ++ leBytes 1 g.2.2.rot ++
          leBytes 4 g.2.1.seed ++ leBytes 4 g.2.2.seed)) s
  logWarm s1 p before (getF s1 ANC_STEP_COUNT_STEP p + 1)

/-- The feed ID as FEED_SOURCE has it (R418): under PMBUS it is 0, with SOURCE 0, until it has been read. -/
def showFeed (s : State) (old : ImageCfg) : State :=
  let r := (cfgOf s).redundancy
  if r.feedImage then setF (setF s ANC_FEED_ID_FEED 0 r.feedId) ANC_FEED_ID_SOURCE 0 2
  else if old.redundancy.feedImage then setF (setF s ANC_FEED_ID_FEED 0 0) ANC_FEED_ID_SOURCE 0 0
  else s

/-- Ports that the settings name (R441). -/
def namedPorts (s : State) (c : ImageCfg) : List Nat := (List.range 36).filter (fun p =>
  c.parts.any (fun e => bitOf e.2.ports p) || c.mcast.any (fun m => bitOf m.ports p) ||
  c.routing.pins.any (fun x => x.port == p && s.fabric.addr.map (· % 16) == some x.member))

/-- One changed partition at the instant of R441. `start` moves it from IDLE to LOADED. -/
def movePart (s : State) (old new : ImageCfg) (boot : Bool) (skip : List Nat) (p : Nat) : State :=
  let c0 := mapOf old (·.cushions) p
  let c1 := mapOf new (·.cushions) p
  let g0 := mapOf old (·.granules) p
  let g1 := mapOf new (·.granules) p
  let idle := decide ((getPart s p).state = .idle)
  let start := idle && c1 != 0 && g1 != 0 && !skip.contains p
  let touched := (List.range 24).filter (fun c => if start then bitOf c1 c else bitOf c0 c != bitOf c1 c)
  let s1 := touched.foldl (fun s c => (List.range 12).foldl (fun s i => modFrond s (12 * c + i) (fun x =>
    { x with gate := .power, slots := [], progs := [], vrun := none })) (resetOwner s c)) s
  let fresh := (List.range 768).filter (fun g => bitOf g1 g && !bitOf g0 g)
  let s2 := if boot then s1 else { s1 with mgmt := { s1.mgmt with zeroing := s1.mgmt.zeroing ++ fresh } }
  let kept : PartSt := { PartSt.idle with fault := (getPart s2 p).fault }
  let s3 := if start then setPart (resetPartRegs s2 p) p { kept with state := .loaded }
    else if c1 = 0 ∧ (getPart s2 p).state = .loaded then setPart s2 p kept
    else s2
  let v := getF s3 ANC_BOOT_STATUS_VERIFIED
  let f := getF s3 ANC_BOOT_STATUS_VERIFY_FAIL
  let good := if boot then (namedDevices s3 new p).isEmpty else true
  if c1 = 0 ∨ skip.contains p = true then s3
  else setF (setF s3 ANC_BOOT_STATUS_VERIFIED 0 (if good then v ||| 2 ^ p else v))
    ANC_BOOT_STATUS_VERIFY_FAIL 0 (if good && bitOf f p then f - 2 ^ p else f)

/-- The instant of R441. -/
def applyImage (s : State) (img : StoredImage) (boot : Bool) (skip : List Nat) : State :=
  let old := cfgOf s
  let new := img.cfg
  let changed := if boot then (new.parts.map (·.1)).filter (· < 8) else changedParts s new
  let s1 := if boot then s else changed.foldl (fun s p => changeRotations s new p) s
  let s2 := { s1 with cfg := { s1.cfg with committed := img } }
  let s3 := noteDies (changed.foldl (fun s p => movePart s old new boot skip p) s2)
  let s4 := raiseCounter s3 0 img.secVer
  let s5 := setF (setF s4 CFG_COMMITTED_DIGEST_DIGEST 0 (leAt img.digest 0 8)) CFG_STATE_SECURITY_VERSION 0 img.secVer
  let s6 := (namedPorts s5 new).foldl (fun s p =>
    if (getPort s p).state = .failed ∧ hostPort s p = false then modPort (enterTrain s p) p (fun x => { x with fails := 0 }) else s)
    (showFeed s5 old)
  if s6.fabric.gossip.done then buildRoutes s6 else s6

/-! ### The end of a COMMIT -/

/-- The COMMIT that is in the device queue, and its parameters. -/
def liveCommit (s : State) : Option Issued := (getQ s .device).live.find? (fun i => i.opcode == 0x41)

def commitParams (s : State) (i : Issued) : Nat × Nat × Nat × Nat :=
  let e := entryBytes s .device i.n
  (p8 e 32, p64 e 40, p16 e 48, p8 e 50)

def commitWaits (s : State) (w b : Nat) : State := setF (setF s CFG_STATE_COMMIT_WAIT 0 w) CFG_STATE_BARRIER_WAIT 0 b

/-- A COMMIT that ends without taking effect (R440, R443). -/
def failCommit (s : State) (n : W32) (status : Nat) : State :=
  bump (settleRun (commitWaits s 0 0) .device n status) CFG_EVENTS_COMMIT_FAILS 0 1

/-- The committed image goes to the configuration slot of flash, with the retained copy of HOST_MODE (R444, R448, R449). -/
def persistImage (s : State) : State :=
  { s with flash := { s.flash with image := some s.cfg.committed, hostMode := some (cfgOf s).routing.hostStipe } }

/-- A COMMIT takes effect (R441, R442, R444): with equal settings it changes nothing but LAST_EPOCH. -/
def applyCommit (s : State) (i : Issued) : State :=
  match s.cfg.staged with
  | none => failCommit s i.n stIllegal
  | some img =>
    let (mode, epoch, _, persist) := commitParams s i
    let s1 := if img.cfg = cfgOf s then s else applyImage s img false []
    let s2 := if mode = 1 then setF { s1 with cfg := { s1.cfg with lastEpoch := epoch } } CFG_BARRIER_LAST_EPOCH 0 epoch else s1
    let s3 := if persist = 1 then persistImage s2 else s2
    bump (settleRun (commitWaits s3 0 0) .device i.n stOK) CFG_EVENTS_COMMITS 0 1

end Sys2Proof.Machine
end

