-- ==== Sys2Proof/Machine/Reach.lean ====
section
/-! DEFINITION. Who reaches which register (R9, R536 to R539). -/

namespace Sys2Proof.Machine

/-- The offset lies in a page that the device has: pages of withdrawn cushions are unassigned (R537). -/
def pagePresent (s : State) (off : Nat) : Bool :=
  if 0x60000 ≤ off ∧ off < 0x78000 then cushionPresent s ((off - 0x60000) / 0x1000)
  else if 0x100000 ≤ off ∧ off < 0x220000 then frondEnabled s ((off - 0x100000) / 0x1000)
  else true

/-- An offset that a register of the device occupies (R9, R536). -/
def assigned (s : State) (off : Nat) : Bool := (regAt off).isSome && pagePresent s off

/-- The reach of R539: a frond sequencer has its own page and its own mailbox channel. -/
def reaches (req : Requester) (off : Nat) : Bool :=
  match req with
  | .sequencer f => (decide (0x100000 + 0x1000 * f ≤ off ∧ off < 0x101000 + 0x1000 * f))
      || (decide (mbxData (32 + f) 0 ≤ off ∧ off < mbxData (33 + f) 0))
  | _ => true

/-- A register of a follower's queue (R404). -/
def followerQueue (s : State) (off : Nat) : Bool :=
  decide (0x100000 ≤ off) && decide (0x4B8 ≤ off % 0x1000) && decide (off % 0x1000 < 0x4E0) && isFollower s ((off - 0x100000) / 0x1000)

/-- The boot-accessible registers (R542). -/
def bootOpen (off : Nat) : Bool :=
  off == 0 || off == ANC_DEV_STATE_STATE.off || off == ANC_BOOT_STATUS_BOOT_ERROR.off || off == ANC_BOOT_TIME_READY_TICKS.off
  || off == FAB_ID_COLONY.off || off == FAB_ASSIGN_COLONY.off
  || off == MGT_LICHEN_STATE_STATE.off || off == MGT_FW_SLOT_A_VERSION.off || off == MGT_FW_SLOT_B_VERSION.off
  || (decide (MGT_LOG_NEWEST_SEQ.off ≤ off) && decide (off < MGT_LOG_EVENTS_LOST.off))
  || off == SEC_STATUS_OPENED.off || (decide (0x14000 ≤ off) && decide (off < 0x18000))
  || (decide (0x20000 ≤ off) && decide (off < 0x20800))

/-- The device answers an access at all: without 48 V no path reaches the window, in BOOT the host reaches the
boot-accessible registers of a stipe device (R448, R542), and a peer none (R540). -/
def admits (s : State) (req : Requester) (off : Nat) : Bool :=
  match s.dev with
  | .off | .standby => false
  | .ready | .service => true
  | .boot => (match req with
    | .host _ => isStipe s && bootOpen off
    | .peer _ => false
    | _ => true)

/-- The identity to which a shadow belongs (R543): REQUESTER code and source address. -/
def ident : Requester → Nat × Nat
  | .host a => (0, a)
  | .peer a => (1, a)
  | .lichen => (2, 0)
  | .debug => (2, 0)
  | .sequencer _ => (3, 0)

def dropShadow (s : State) (req : Requester) : State :=
  { s with shadows := s.shadows.filter (fun x => ident x.req != ident req) }

/-- An access to the register at aligned offset `off` by `req`, addressed at `pos`: `act` where it is performed, else the
access error of R9. Every access of a requester drops its shadow (R13). A follower's queue registers discard writes (R404) and are
read as any register. -/
def touchAt (s : State) (req : Requester) (off pos : Nat) (write : Bool) (act : State → State) : State :=
  if !admits s req off then s
  else
    let s0 := dropShadow s req
    if !assigned s off then accessError s0 req pos 2
    else if !reaches req off || (write && followerQueue s off) then accessError s0 req pos 3
    else act s0

/-- A whole-register write by one of the rows that are writes. -/
def touch (s : State) (req : Requester) (off : Nat) (act : State → State) : State := touchAt s req off off true act

/-- A control-space access of any width (R8, R9). Where an access is bad in two ways, INT_ACCESS_LOG takes the KIND of the
first of: narrow, misaligned, unassigned, out of reach (DESIGN CHOICE, log 100). -/
def access (a : Access) (write : Bool) (act : Nat → State → State) (s : State) : State :=
  let off := a.off / 8 * 8
  let bad (kind : Nat) : State := if admits s a.req off then accessError (dropShadow s a.req) a.req a.off kind else s
  match a.width with
  | .narrow => bad 0
  | .w32 => if a.off % 4 ≠ 0 then bad 1 else touchAt s a.req off a.off write (act off)
  | .w64 => if a.off % 8 ≠ 0 then bad 1 else touchAt s a.req off a.off write (act off)

/-! ### Writes (R10 to R12) -/

/-- A write as it reaches a register: the halves it addresses, and its value in place. -/
structure Wr where
  lo : Bool
  hi : Bool
  v  : W64
  deriving DecidableEq, Repr

def Wr.full (v : W64) : Wr := ⟨true, true, v⟩

/-- Bit `n` is written as 1. -/
def Wr.bit (w : Wr) (n : Nat) : Bool := (if n < 32 then w.lo else w.hi) && bitOf w.v.toNat n

def Wr.mask (w : Wr) : W64 := (if w.lo then 0xFFFFFFFF else 0) ||| (if w.hi then 0xFFFFFFFF00000000 else 0)

/-- Bits `lo` to `lo + width − 1`. -/
def fieldMask (lo width : Nat) : W64 := BitVec.ofNat 64 ((2 ^ width - 1) * 2 ^ lo)

/-- A write by access type: RW fields take the value and W1C fields are cleared, in the halves addressed (R10, R12). -/
def writeFields (s : State) (off : Nat) (w : Wr) : State :=
  match regAt off with
  | none => s
  | some (r, _, _) =>
    setReg s off (r.fields.foldl (fun x f =>
      let m := fieldMask f.lo f.width &&& w.mask
      match f.acc with
      | .rw => (x &&& ~~~m) ||| (w.v &&& m)
      | .w1c => x &&& ~~~(w.v &&& m)
      | _ => x) (getReg s off))

end Sys2Proof.Machine
end

