-- ==== Sys2Proof/Machine/Queue.lean ====
section
/-! DEFINITION. The commands that every queue has, and what software does to a queue (R308 to R318, R323 to R325). -/

namespace Sys2Proof.Machine

/-- NOP (R318): completes with its STATUS byte. The row also takes entries whose opcode R317 does not list, which are
rejected. -/
def nopBody (s : State) (e : List Byte) : Verdict :=
  let st := p8 e 32
  if st = 0 ∨ 0x80 ≤ st then .effect s st 0 false .done else .reject stBadDesc 0

def execNop (q : QueueId) (n : W32) (s : State) : Host.Outcome State Fault Refusal :=
  .next (runEntry q n (fun op => op == 0 || !opListed op) [(32, 1)] nopBody s)

/-- FENCE (R316): its flags take effect in the instant it completes. -/
def fenceBody (s : State) (e : List Byte) : Verdict :=
  if p8 e 32 ≥ 8 then .reject stBadDesc 0 else .ok s

def execFence (q : QueueId) (n : W32) (s : State) : Host.Outcome State Fault Refusal :=
  .next (runEntry q n (· == 1) [(32, 1)] fenceBody s)

/-- The exchange of a fence with SWITCH_COPY (R32): INCOMING becomes ACTIVE when it is complete and newer; its bytes take their
place in the receive region (log 103). While no copy is ACTIVE there is no version to exceed, and a complete INCOMING becomes
ACTIVE (DESIGN CHOICE, log 104). -/
def switchCopy (s : State) (q : QueueId) (p : Nat) : State :=
  let x := getPart s p
  let va := (x.active.map (·.version)).getD 0
  match x.incoming with
  | some c =>
    if c.complete && (x.active.isNone || decide (c.version > va)) then
      setPart (writeSet s c.cells).1 p
        { x with active := some { c with cells := [] }, incoming := x.active.map (fun a => { a with complete := false }) }
    else queueEvent s q 0x0101 0 (leBytes 8 va ++ leBytes 8 c.version)
  | none => queueEvent s q 0x0101 0 (leBytes 8 va ++ leBytes 8 0)

/-- A fence's actions, in bit order, as it completes (R316). COMMIT_POINT acts by holding the fence (R321). -/
def fenceActions (s : State) (q : QueueId) (p flags : Nat) : State :=
  let s1 := if bitOf flags 0 then modPart s p (fun x => { x with padEpoch := (x.padEpoch + 1) % 2 ^ 64 }) else s
  if bitOf flags 2 then switchCopy s1 q p else s1

/-- Partition `p` is held at a fence with COMMIT_POINT (R321). -/
def heldAtFence (s : State) (p : Nat) : Bool :=
  (queuesOf s p).any (fun q => (getQ s q).live.any (fun i => i.opcode == 1 && bitOf i.param 1))

/-- A COMMIT waits in the device queue. -/
def commitPending (s : State) : Bool := (getQ s .device).live.any (fun i => i.opcode == 0x41)

/-- A write of TAIL (R309): discarded where it overruns the ring. A TAIL below entries that have issued takes none of them
back (log 95). -/
def writeTail (s : State) (q : QueueId) (req : Requester) (v : W32) : State :=
  let x := getQ s q
  let c := x.record.count
  if (v - c).toNat > 2 ^ ringLog2 s q then accessError s req (qBase q + 0x10) 3
  else setQ s q { x with tail := v }

/-- The row TAIL: TAIL lies in the low half of its register, so a 32-bit and a 64-bit write act alike (R12). -/
def execTail (q : QueueId) (a : Requester) (width : AccWidth) (v : W64) (s : State) : Host.Outcome State Fault Refusal :=
  .next (touch s a (qBase q + 0x10) (fun s =>
    match width with
    | .narrow => accessError s a (qBase q + 0x10) 0
    | _ => writeTail s q a (v.setWidth 32)))

/-- The states in which a queue's control register takes an action (R325). -/
def ctrlOpen (s : State) (q : QueueId) : Bool :=
  match q with
  | .device => decide (s.dev = .ready ∨ s.dev = .service)
  | _ => (match queueOwner s q with
    | some p => decide ((getPart s p).state = .running ∨ (getPart s p).state = .draining)
    | none => false)

/-- RESUME (R325): the halted entry at HALT_POS may issue again from its start. -/
def resumeQueue (s : State) (q : QueueId) (req : Requester) : State :=
  let x := getQ s q
  match haltPos x with
  | some i =>
    if ctrlOpen s q then
      setQ s q { x with halted := x.halted.filter (fun y => y.n != i.n), redo := x.redo ++ [i.n] }
    else accessError s req (qBase q + 0x20) 3
  | none => accessError s req (qBase q + 0x20) 3

/-- SKIP (R325): a record with SKIPPED, and the entry's mark where SKIP_SIGNALS says so. -/
def skipQueue (s : State) (q : QueueId) (req : Requester) : State :=
  let x := getQ s q
  match haltPos x with
  | some i =>
    if ctrlOpen s q then
      let s1 := writeRecord (setQ s q { x with halted := x.halted.filter (fun y => y.n != i.n) }) q
        { i with resumed := false } true
      if bitOf i.flags 3 then signalMark s1 q i.signal else s1
    else accessError s req (qBase q + 0x20) 3
  | none => accessError s req (qBase q + 0x20) 3

def execResume (q : QueueId) (a : Requester) (s : State) : Host.Outcome State Fault Refusal :=
  .next (touch s a (qBase q + 0x20) (fun s => resumeQueue s q a))

def execSkip (q : QueueId) (a : Requester) (s : State) : Host.Outcome State Fault Refusal :=
  .next (touch s a (qBase q + 0x20) (fun s => skipQueue s q a))

end Sys2Proof.Machine
end

