-- ==== Sys2Proof/Machine/Barrier.lean ====
section
/-! DEFINITION. COMMIT (R438, R440), fabric barriers (R463, R464), the give-ups of a barrier (R443, R464) and the release of
partitions at fabric-ready (R465). -/

namespace Sys2Proof.Machine

/-! ### Participants -/

/-- Every device that a manifest names: members, backups, buddies, multicast roots and receivers. -/
def manifestDevices (c : ImageCfg) : List Nat :=
  c.groups.flatMap (fun g => g.members.flatMap (fun m => m.dev :: m.backup.toList.map (·.1)))
  ++ c.parts.flatMap (fun e => e.2.buddy.toList.map (·.dev)) ++ c.mcast.flatMap (fun m => m.root :: m.receivers)

/-- The participants of a barrier (R463): the devices named, and the device itself, in ascending order. -/
def participants (s : State) (c : ImageCfg) (group : Nat) : List Nat :=
  let named := if group = 0xFFFF then manifestDevices c
    else match c.groups.find? (fun g => g.group == group) with
      | some g => g.members.map (·.dev)
      | none => []
  sortBy (fun a b => decide (a ≤ b)) (dedupNat (s.fabric.addr.toList ++ named))

/-! ### Messages (R463) -/

def barrierPayload (b : BarrierSt) (count level status : Nat) : List Byte :=
  leBytes 8 b.epoch ++ leBytes 8 b.digest ++ leBytes 2 b.group ++ leBytes 2 count ++ leBytes 1 level ++ leBytes 1 status ++
  leBytes 10 0

def sendBarrier (s : State) (dst mtype : Nat) (pl : List Byte) : State :=
  sendMsg s 8 { dst := dst, part := 0xF, mtype := mtype, payload := pl }

def getBarrier (s : State) (e : Nat) : Option BarrierSt := s.fabric.barriers.find? (fun b => b.epoch == e)

def putBarrier (s : State) (b : BarrierSt) : State :=
  { s with fabric := { s.fabric with barriers := s.fabric.barriers.filter (fun x => x.epoch != b.epoch) ++ [b] } }

def dropBarrier (s : State) (e : Nat) : State :=
  { s with fabric := { s.fabric with barriers := s.fabric.barriers.filter (fun x => x.epoch != e) } }

/-- The participants of a colony, and a colony's head (R464). -/
def inBarrierColony (b : BarrierSt) (c : Nat) : List Nat := b.members.filter (fun m => m / 16 == c)
def headOf (b : BarrierSt) (c : Nat) : Nat := (inBarrierColony b c).headD 0

/-- Participants that the joins held cover, this device's own included. -/
def covered (b : BarrierSt) : Nat := b2n b.joined + b.joins.foldl (fun n j => n + j.count) 0

/-- A differing digest has been received (R464); the fabric-ready barrier compares none. -/
def barrierBad (b : BarrierSt) : Bool := b.epoch != 0 && b.joins.any (fun j => j.digest != b.digest)

def showBarrier (s : State) (b : BarrierSt) (active : Bool) : State :=
  setF (setF (setF s FAB_BARRIER_EPOCH_LO 0 (b.epoch % 2 ^ 32)) FAB_BARRIER_JOINS 0 (covered b)) FAB_BARRIER_ACTIVE 0 (b2n active)

/-! ### Fabric-ready (R464, R465) -/

/-- Stages 6 and 7 for the partitions that no COMMIT has verified. -/
def verifyParts (s : State) (feeds : List FeedRead) : State :=
  ((cfgOf s).parts.filter (fun e => decide (e.1 < 8) && decide ((getPart s e.1).state ≠ .idle)
      && !bitOf (getF s ANC_BOOT_STATUS_VERIFIED) e.1)).foldl (fun s e =>
    let fs := sortFindings (stage6 s feeds e ++ stage7 s (cfgOf s) e.1)
    if fs.isEmpty then setF s ANC_BOOT_STATUS_VERIFIED 0 (getF s ANC_BOOT_STATUS_VERIFIED ||| 2 ^ e.1)
    else setF { s with mgmt := { s.mgmt with verify := tblPut s.mgmt.verify e.1 (some (findingStatus fs)) } }
      ANC_BOOT_STATUS_VERIFY_FAIL 0 (getF s ANC_BOOT_STATUS_VERIFY_FAIL ||| 2 ^ e.1)) s

def fabricReady (s : State) (partial_ : Bool) (feeds : List FeedRead) : State :=
  let s1 := setF (setF (setF s ANC_BOOT_STATUS_FABRIC_READY 0 1) ANC_BOOT_STATUS_PARTIAL 0 (b2n partial_))
    ANC_BOOT_TIME_FABRIC_TICKS 0 (s.counter % 2 ^ 32)
  verifyParts (if partial_ then raiseCause s1 10 5 else s1) feeds

/-! ### The barrier's course (R464) -/

/-- A barrier completes here with a status. -/
def completeBarrier (s : State) (b : BarrierSt) (status : Nat) (feeds : List FeedRead) : State :=
  let s1 := dropBarrier (showBarrier s b false) b.epoch
  if b.epoch = 0 then fabricReady s1 false feeds
  else match liveCommit s1 with
    | some i =>
      if i.waits = .barrier b.epoch then
        (if status = stOK then applyCommit s1 i else failCommit s1 i.n stInconsistent)
      else s1
    | none => s1

/-- RELEASE at a head, which forwards it to its colony, or at a member. -/
def releaseHere (s : State) (b : BarrierSt) (own status : Nat) (feeds : List FeedRead) : State :=
  let st := if barrierBad b then stInconsistent else status
  let s1 := if headOf b (own / 16) = own then
      ((inBarrierColony b (own / 16)).filter (· != own)).foldl (fun s m =>
        sendBarrier s m 0x15 (barrierPayload b b.members.length 0 st)) s
    else s
  completeBarrier s1 b st feeds

/-- What the joins held bring about, at a head or the root. -/
def evalBarrier (s : State) (e : Nat) (feeds : List FeedRead) : State :=
  match getBarrier s e, s.fabric.addr with
  | some b, some a =>
    let mine := inBarrierColony b (a / 16)
    let others := mine.filter (· != a)
    let whole := others.all (fun m => b.joins.any (fun j => j.src == m && j.level == 0))
    if !b.joined || headOf b (a / 16) != a || !whole then s
    else if b.members.headD 0 = a then
      if covered b ≥ b.members.length then
        let heads := dedupNat ((b.members.map (fun m => headOf b (m / 16))).filter (· != a))
        let st := if barrierBad b then stInconsistent else stOK
        releaseHere (heads.foldl (fun s h => sendBarrier s h 0x15 (barrierPayload b b.members.length 0 st)) s) b a st feeds
      else s
    else if b.sentUp then s
    else sendBarrier (putBarrier s { b with sentUp := true }) (b.members.headD 0) 0x14 (barrierPayload b mine.length 1 0)
  | _, _ => s

/-- This device joins a barrier. Joins that arrived before are counted. -/
def joinBarrier (s : State) (e group digest : Nat) (members : List Nat) (feeds : List FeedRead) : State :=
  let early := ((getBarrier s e).map (·.joins)).getD []
  let b : BarrierSt := ⟨e, true, group, members, digest, early, false, s.counter⟩
  let s1 := showBarrier (putBarrier s b) b true
  match s.fabric.addr with
  | some a =>
    let s2 := if headOf b (a / 16) = a then s1 else sendBarrier s1 (headOf b (a / 16)) 0x14 (barrierPayload b 1 0 0)
    evalBarrier s2 e feeds
  | none => s1

/-- Stage 8 starts after stage 7 and READY (R446). -/
def maybeFabricBarrier (s : State) (feeds : List FeedRead) : State :=
  if s.dev = .ready ∧ getF s ANC_BOOT_STATUS_ROUTES_OK = 1 ∧ getF s ANC_BOOT_STATUS_FABRIC_READY = 0
      ∧ ((getBarrier s 0).map (·.joined)).getD false = false then
    joinBarrier s 0 0xFFFF 0 (participants s (cfgOf s) 0xFFFF) feeds
  else s

/-- BARRIER_JOIN (R464). -/
def barrierJoin (feeds : List FeedRead) (m : Msg) (s : State) : State :=
  let e := leAt m.payload 0 8
  let j : JoinMsg := ⟨m.src, leAt m.payload 20 1, leAt m.payload 18 2, leAt m.payload 8 8⟩
  let b := (getBarrier s e).getD ⟨e, false, leAt m.payload 16 2, [], 0, [], false, s.counter⟩
  let b1 := { b with joins := b.joins.filter (fun x => !(x.src == j.src && x.level == j.level)) ++ [j] }
  let s1 := putBarrier s b1
  evalBarrier (if b.joined then showBarrier s1 b1 true else s1) e feeds

def execBarrierJoin (a : Arrival) (feeds : List FeedRead) (s : State) : Host.Outcome State Fault Refusal :=
  .next (recv 0x14 a (barrierJoin feeds a.msg) s)

/-- BARRIER_RELEASE (R464): completes a barrier that this device has joined. -/
def barrierRelease (feeds : List FeedRead) (m : Msg) (s : State) : State :=
  match getBarrier s (leAt m.payload 0 8), s.fabric.addr with
  | some b, some a => if b.joined then releaseHere s b a (leAt m.payload 21 1) feeds else s
  | _, _ => s

def execBarrierRelease (a : Arrival) (feeds : List FeedRead) (s : State) : Host.Outcome State Fault Refusal :=
  .next (recv 0x15 a (barrierRelease feeds a.msg) s)

/-- BOOT_GIVEUP (R464): the fabric-ready barrier ends as partial. -/
def bootGiveup (now : Nat) (feeds : List FeedRead) (s0 : State) : State :=
  let s := advance s0 now
  match getBarrier s 0 with
  | some b =>
    if b.joined && elapsed s b.since (cfgOf s).routing.bootGiveup 1 then
      fabricReady (dropBarrier (showBarrier s b false) 0) true feeds
    else s
  | none => s

def execBootGiveup (now : Nat) (feeds : List FeedRead) (s : State) : Host.Outcome State Fault Refusal :=
  .next (bootGiveup now feeds s)

/-- COMMIT_GIVEUP (R443): the COMMIT ends with LINK_DOWN and applies nothing. -/
def commitGiveup (now : Nat) (s0 : State) : State :=
  let s := advance s0 now
  match liveCommit s with
  | some i =>
    match i.waits with
    | .barrier e =>
      match getBarrier s e with
      | some b =>
        if elapsed s b.since (cfgOf s).routing.commitGiveup 1 then
          failCommit (dropBarrier (showBarrier s b false) e) i.n stLinkDown
        else s
      | none => s
    | _ => s
  | none => s

def execCommitGiveup (now : Nat) (s : State) : Host.Outcome State Fault Refusal := .next (commitGiveup now s)

/-! ### COMMIT -/

/-- Every changed partition is IDLE, LOADED or held at a COMMIT_POINT fence (R321). -/
def commitSettled (s : State) (img : StoredImage) : Bool :=
  (changedParts s img.cfg).all (fun p =>
    (getPart s p).state == .idle || (getPart s p).state == .loaded || heldAtFence s p)

/-- Pairs that this COMMIT can retire and that R408's test has still to judge. -/
def pairsToTest (s : State) : List Nat := (List.range 288).filter (fun f =>
  frondEnabled s f && s.mgmt.pairs.contains (physOf s f) && cushionQuiet s (cushionOf f))

/-- A COMMIT that waits takes place once its partitions have settled (R440). -/
def tryCommit (feeds : List FeedRead) (s : State) : State :=
  match liveCommit s, s.cfg.staged with
  | some i, some img =>
    if i.waits ≠ .settle then s
    else if !commitSettled s img then commitWaits s 1 0
    else if !(pairsToTest s).isEmpty then
      (((pairsToTest s).map (physOf s)).filter (fun u => !s.mgmt.testing.contains u)).foldl startTest s
    else if pufFailed s && floorDue s then failCommit s i.n stSignature
    else
      let s1 := updateFloor s
      let fs := sortFindings (lateStages s1 img.cfg feeds)
      let (mode, epoch, group, _) := commitParams s1 i
      if !fs.isEmpty then failCommit s1 i.n (findingStatus fs)
      else if mode = 0 then applyCommit s1 i
      else
        let s2 := modQ (commitWaits s1 0 1) .device (fun x => { x with
          live := x.live.map (fun y => if y.n = i.n then { y with waits := .barrier epoch } else y) })
        joinBarrier s2 epoch group (leAt img.digest 0 8) (participants s2 img.cfg group) feeds
  | _, _ => s

/-- The checks of R321 and R438 at issue. -/
def commitImageBody (s : State) (e : List Byte) : Verdict :=
  let mode := p8 e 32
  let group := p16 e 48
  let fails (st : Nat) : Verdict := .reject st 0
  if mode > 1 ∨ p8 e 50 > 1 then fails stBadDesc
  else match s.cfg.staged with
    | none => fails stIllegal
    | some img =>
      if group ≠ 0xFFFF ∧ (img.cfg.groups.any (fun g => g.group == group)) = false then fails stBadDesc
      else if mode = 1 ∧ p64 e 40 ≤ s.cfg.lastEpoch then fails stIllegal
      else if (changedParts s img.cfg).any (fun p => movesUnits s img.cfg p &&
          (getPart s p).state != .idle && (getPart s p).state != .loaded) then fails stIllegal
      else .effect s stOK 0 false .settle

/-- A rejected COMMIT ends without taking effect too (R445). -/
def commitIssue (q : QueueId) (n : W32) (s : State) : State :=
  let s1 := runEntry q n (· == 0x41) [(32, 1), (40, 8), (48, 3)] commitImageBody s
  if (getQ s1 q).record.count ≠ (getQ s q).record.count ∨ (getQ s1 q).halted.length > (getQ s q).halted.length then
    bump s1 CFG_EVENTS_COMMIT_FAILS 0 1
  else s1

/-- COMMIT: its issue, and, where its partitions had still to settle, each later event at which they have (log 50). -/
def execCommit (q : QueueId) (n : W32) (feeds : List FeedRead) (s : State) : Host.Outcome State Fault Refusal :=
  .next (match liveCommit s with
    | some i => if q = .device ∧ i.n = n then tryCommit feeds s else s
    | none => tryCommit feeds (commitIssue q n s))

end Sys2Proof.Machine
end

