-- ==== Sys2Proof/Machine/Discovery.lean ====
section
/-! DEFINITION. Attestation of a port (R455), colony numbering (R457 to R459), route gossip (R460 to R462) and the intervals
that run late (R466). -/

namespace Sys2Proof.Machine

/-! ### Attestation (R455) -/

def portDst (s : State) (p : Nat) : Nat := (getPort s p).partnerAddr.getD 0

/-- ATTEST_REQ: the report over the partner's nonce, in fragments of up to 256 bytes in ascending offset. -/
def attestAnswer (a : Arrival) (s : State) : State :=
  ((chunks 256 (attestReport s a.msg.payload)).zipIdx).foldl (fun s (b, i) =>
    sendOnPort s a.port 8 { mtype := 0x11, dst := portDst s a.port, addr := 256 * i, payload := b }) s

def execAttestReq (a : Arrival) (s : State) : Host.Outcome State Fault Refusal := .next (recv 0x10 a (attestAnswer a) s)

/-- The ANNOUNCE of this device (R457). -/
def announceBytes (s : State) (p addr : Nat) : List Byte :=
  leBytes 1 (addr / 16) ++ leBytes 1 (addr % 16) ++ leBytes 1 p ++ leBytes 1 (b2n (isStipe s)) ++
  leBytes 16 (tblGet 0 s.fabric.serials (addr / 16)) ++ leBytes 4 0

def sendAnnounce (s : State) (p : Nat) : State :=
  match s.fabric.addr with
  | some a => sendOnPort s p 8 { mtype := 0x12, dst := portDst s p, payload := announceBytes s p a }
  | none => s

/-- The port is fit for every message: its ANNOUNCE goes out (R457). -/
def admitPort (s : State) (p : Nat) : State :=
  let miswired := getF s FAB_PORT_ATTEST_MISWIRED p == 1
  sendAnnounce (modPort s p (fun x => { x with usable := !miswired })) p

/-- The report over this device's nonce is whole and of the form of R507. -/
def reportFits (x : PortSt) (b : List Byte) : Bool :=
  decide (b.length = 4738) && decide (leAt b 0 4 = 0x41545347) && decide (leAt b 4 2 = 1) && decide (leAt b 8 4 = 4738)
  && sliceB b 16 32 == x.nonce

/-- The outcome of an attestation (R455). -/
def judgeReport (s : State) (p : Nat) (b : List Byte) (verified : Bool) : State :=
  let ok := verified && reportFits (getPort s p) b
  let opened := bitOf (leAt b 6 2) 0
  if ok && !opened then admitPort (setF s FAB_PORT_ATTEST_STATE p 2) p
  else
    let lax := (cfgOf s).routing.attestLog
    let s1 := logEvent (setF s FAB_PORT_ATTEST_STATE p 3) 0x0303 4 2 p none
      (leBytes 2 (portDst s p) ++ leBytes 1 (b2n ok) ++ leBytes 1 (b2n lax))
    if lax then admitPort s1 p else raiseCause s1 9 p

/-- ATTEST_RESP: a fragment at its offset; the last one completes the report. -/
def attestFragment (a : Arrival) (verified : Bool) (s : State) : State :=
  let x := getPort s a.port
  if getF s FAB_PORT_ATTEST_STATE a.port ≠ 1 ∨ a.msg.addr ≠ x.report.length then s
  else
    let b := x.report ++ a.msg.payload
    if b.length < 4738 then setPort s a.port { x with report := b }
    else judgeReport (setPort s a.port { x with report := [] }) a.port b verified

def execAttestResp (a : Arrival) (verified : Bool) (s : State) : Host.Outcome State Fault Refusal :=
  .next (recv 0x11 a (attestFragment a verified) s)

/-! ### Colony numbering (R458, R459) -/

def miswired (s : State) (p : Nat) : Bool := getF s FAB_PORT_ATTEST_MISWIRED p == 1

/-- A port that has given an ANNOUNCE. -/
def announced (s : State) (p : Nat) : Bool := !(getPort s p).announce.isEmpty

/-- Stage 5 completes; stage 6 has been done as each ANNOUNCE was sent, so a gossip run is due (R446, R461). -/
def checkColony (s : State) : State :=
  if s.fabric.addr.isSome && getF s ANC_BOOT_STATUS_COLONY_OK == 0
      && (List.range 15).all (fun p => !portOk s p || announced s p) then
    wantGossip (markEvent (setF s ANC_BOOT_STATUS_COLONY_OK 0 1) 3)
  else s

/-- The table of R459 for the ANNOUNCE that a port has given. -/
def checkAnnounce (s : State) (p : Nat) : State :=
  match s.fabric.addr with
  | none => s
  | some a =>
    let b := (getPort s p).announce
    let col := leAt b 0 1
    let mem := leAt b 1 1
    let serial := leAt b 4 16
    if b.isEmpty then s
    else if p < 15 then
      if col ≠ a / 16 ∨ mem ≠ (a % 16 + p + 1) % 16 ∨ leAt b 2 1 + p ≠ 14 then
        let s1 := modPort (setF s FAB_PORT_ATTEST_MISWIRED p 1) p (fun x => { x with usable := false })
        raiseCause (logEvent s1 0x0304 4 2 p none (sliceB b 0 24)) 9 p
      else s
    else if col = a / 16 then
      let dup := decide (serial ≠ tblGet 0 s.fabric.serials (a / 16))
      let s1 := leaveUp { s with free := s.free + 1 } p ((Config.findingField 0x31 0 s.free).toNat % 256)
      logEvent (enterIdent s1 p) 0x0302 4 2 p none (leBytes 2 (col * 16 + mem) ++ leBytes 1 (b2n dup))
    else modPort { s with fabric := { s.fabric with serials := tblPut s.fabric.serials col (some serial) } } p
      (fun x => { x with link := some col })

/-- The device takes its address (R458): it announces itself on every UP and attested port, and checks what its ports have
given it. -/
def takeAddress (s : State) (addr serial : Nat) : State :=
  let s1 := { s with fabric := { s.fabric with
      addr := some addr
      serials := tblPut s.fabric.serials (addr / 16) (some serial) } }
  let s2 := setF (setF (setF (setF s1 FAB_ID_COLONY 0 (addr / 16)) FAB_ID_MEMBER 0 (addr % 16)) FAB_ID_VALID 0 1)
    FAB_ID_STIPE 0 (b2n (isStipe s))
  let s3 := ((List.range 36).filter (portOk s2)).foldl sendAnnounce s2
  checkColony ((List.range 36).foldl checkAnnounce s3)

/-- ANNOUNCE (R458, R459). The first one on a port starts a gossip run (R461). -/
def takeAnnounce (a : Arrival) (s : State) : State :=
  let p := a.port
  let b := sliceB a.msg.payload 0 24
  let first := !announced s p
  let from_ := leAt b 0 1 * 16 + leAt b 1 1 % 16
  let s1 := setF (modPort s p (fun x => { x with announce := b, partnerAddr := some from_ })) FAB_PORT_STATUS_PARTNER p from_
  match s.fabric.addr with
  | some _ =>
    let s2 := checkColony (checkAnnounce s1 p)
    if first && announced s2 p then wantGossip s2 else s2
  | none =>
    if p < 15 ∧ isStipe s = false then
      takeAddress (markEvent s1 2) (leAt b 0 1 * 16 + (leAt b 1 1 + 31 - p) % 16) (leAt b 4 16)
    else s1

def execAnnounce (a : Arrival) (s : State) : Host.Outcome State Fault Refusal :=
  .next (recv 0x12 a (takeAnnounce a) s)

/-- FAB_ASSIGN (R458): COLONY is held, and with GO it becomes the stipe device's colony. -/
def fabAssign (a : Requester) (w : Wr) (s : State) : State :=
  if !isStipe s || s.fabric.addr.isSome then accessError s a FAB_ASSIGN_COLONY.off 3
  else
    let s1 := writeFields s FAB_ASSIGN_COLONY.off w
    if w.bit 63 then takeAddress (markEvent s1 2) (getF s1 FAB_ASSIGN_COLONY * 16) s.cfg.floor.serial else s1

def execFabAssign (a : Requester) (v : W64) (s : State) : Host.Outcome State Fault Refusal :=
  .next (touch s a FAB_ASSIGN_COLONY.off (fabAssign a (Wr.full v)))

/-! ### Gossip (R460, R461) -/

/-- A link entry: member, global port, remote colony, UP. -/
abbrev LinkEntry := Nat × Nat × Nat × Bool

/-- This device's own global links, as far as their ports have given an ANNOUNCE; one whose port has left UP stays, down. -/
def ownLinks (s : State) (addr : Nat) : List LinkEntry :=
  let live := ((List.range 36).filter (fun p => decide (15 ≤ p) && (getPort s p).link.isSome)).map (fun p =>
    (addr % 16, p, (getPort s p).link.getD 0, portOk s p))
  let gone := (s.fabric.gossip.links.filter (fun l => l.1 == addr / 16 && l.2.1 == addr % 16
      && !live.any (fun x => x.2.1 == l.2.2.1))).map (fun l => (l.2.1, l.2.2.1, l.2.2.2.1, false))
  live ++ gone

/-- The map of direct reach that link entries give: bit c is 1 for a direct UP link to colony c. -/
def reachMap (ls : List LinkEntry) : Nat :=
  (List.range 256).foldl (fun v c => if ls.any (fun l => l.2.2.1 == c && l.2.2.2) then v + 2 ^ c else v) 0

def knownLinks (s : State) (col : Nat) : List LinkEntry :=
  (s.fabric.gossip.links.filter (fun l => l.1 == col)).map (·.2)

/-- The entries of a round's content on a port: link entries and set entries as bytes, and whether each is a link entry. -/
def roundItems (s : State) (addr p : Nat) : List (Bool × List Byte) :=
  let ls := knownLinks s (addr / 16)
  let setItem (c m : Nat) : Bool × List Byte := (false, leBytes 1 c ++ leBytes 32 m)
  if p < 15 then
    ls.map (fun l => (true, leBytes 1 l.1 ++ leBytes 1 l.2.1 ++ leBytes 1 l.2.2.1 ++ leBytes 1 (b2n l.2.2.2))) ++
    ((List.range 256).filter (bitOf (reachMap ls))).map (fun c => setItem c (tblGet 0 s.fabric.gossip.sets c))
  else [setItem (addr / 16) (reachMap ls)]

/-- Items into fragments of at most 248 bytes, each filled in order. -/
def packItems (l : List (Bool × List Byte)) : List (List (Bool × List Byte)) :=
  let r := l.foldl (fun (acc : List (List (Bool × List Byte)) × List (Bool × List Byte)) i =>
    if (acc.2.foldl (fun n x => n + x.2.length) 0) + i.2.length > 248 then (acc.1 ++ [acc.2], [i])
    else (acc.1, acc.2 ++ [i])) ([], [])
  r.1 ++ [r.2]

/-- A round's fragments go out on a port. FRAG counts to 15, so at most 15 go (log 54). -/
def sendRound (s : State) (p : Nat) : State :=
  match s.fabric.addr with
  | none => s
  | some a =>
    let g := s.fabric.gossip
    let fs := (packItems (roundItems s a p)).take 15
    (fs.zipIdx).foldl (fun s (f, i) =>
      let head := leBytes 2 g.run ++ leBytes 1 g.round ++ leBytes 1 (i + 16 * fs.length) ++ leBytes 1 (a / 16) ++
        leBytes 1 (a % 16) ++ leBytes 1 (f.countP (·.1)) ++ leBytes 1 (f.countP (fun x => !x.1))
      sendOnPort s p 8 { mtype := 0x13, dst := portDst s p, payload := head ++ f.flatMap (·.2) }) s

/-- Ports of a round: UP, attested, addressed and not MISWIRED (R461). -/
def gossipPorts (s : State) : List Nat := (List.range 36).filter (fun p => portOk s p && announced s p && !miswired s p)

/-- All fragments of the present round have arrived on a port. -/
def roundHeard (g : GossipSt) (p : Nat) : Bool :=
  let mine := g.got.filter (fun x => x.1 == p && x.2.1 == g.run && x.2.2.1 == g.round)
  mine.any (fun x => (List.range (x.2.2.2 / 16)).all (fun i => mine.any (fun y => y.2.2.2 % 16 == i && y.2.2.2 / 16 == x.2.2.2 / 16)))

/-- Round 6 is complete: stage 7 (R461, R462). -/
def finishGossip (s : State) (feeds : List FeedRead) : State :=
  let s1 := setGossip s { s.fabric.gossip with done := true, round := 0 }
  let s2 := if getF s1 ANC_BOOT_STATUS_ROUTES_OK = 0 then markEvent s1 4 else s1
  maybeFabricBarrier (buildRoutes (setF s2 ANC_BOOT_STATUS_ROUTES_OK 0 1)) feeds

def startRound (s : State) (r : Nat) : State :=
  let ps := gossipPorts s
  let s1 := setGossip s { s.fabric.gossip with round := r, since := s.counter, ports := ps }
  ps.foldl sendRound s1

/-- The round ends, and every later one for which all fragments have arrived already. -/
def endRounds : Nat → State → List FeedRead → State
  | 0, s, _ => s
  | k + 1, s, feeds =>
    let g := s.fabric.gossip
    if g.round = 0 ∨ g.ports.any (fun p => !roundHeard g p) = true then s
    else if g.round ≥ 6 then finishGossip s feeds
    else endRounds k (startRound s (g.round + 1)) feeds

/-- Round 1 of a run, from this device's own links; knowledge of an earlier run does not enter it (log 53). -/
def startRun (s : State) (run : Nat) (feeds : List FeedRead) : State :=
  match s.fabric.addr with
  | none => s
  | some a =>
    let s1 := { s with fabric := { s.fabric with gossip := { s.fabric.gossip with
        run := run
        links := (ownLinks s a).map (fun l => (a / 16, l))
        sets := []
        got := s.fabric.gossip.got.filter (fun x => x.2.1 == run)
        done := false
        seen := max run s.fabric.gossip.seen } } }
    endRounds 6 (startRound (bump s1 FAB_GOSSIP_RUNS 0 1) 1) feeds

/-- Link entries and set entries of a fragment enter the knowledge: an entry of this device's own links never changes, a
later statement on another link stands, and maps are united (log 53). -/
def mergeFragment (s : State) (addr : Nat) (b : List Byte) : State :=
  let nl := leAt b 6 1
  let ns := leAt b 7 1
  let col := leAt b 4 1
  let s1 := (List.range nl).foldl (fun s i =>
    let o := 8 + 4 * i
    let e : Nat × LinkEntry := (col, leAt b o 1 % 16, leAt b (o + 1) 1, leAt b (o + 2) 1, bitOf (leAt b (o + 3) 1) 0)
    if col ≠ addr / 16 ∨ e.2.1 = addr % 16 then s
    else
      let g := s.fabric.gossip
      { s with fabric := { s.fabric with gossip := { g with
        links := g.links.filter (fun l => !(l.1 == col && l.2.1 == e.2.1 && l.2.2.1 == e.2.2.1)) ++ [e] } } }) s
  (List.range ns).foldl (fun s i =>
    let o := 8 + 4 * nl + 33 * i
    let g := s.fabric.gossip
    { s with fabric := { s.fabric with gossip := { g with
      sets := tblModify 0 g.sets (leAt b o 1) (fun m => (BitVec.ofNat 256 m ||| BitVec.ofNat 256 (leAt b (o + 1) 32)).toNat) } } }) s1

/-- ROUTE_GOSSIP (R461): a higher run is joined at round 1, a lower one ignored. Before stage 6 is complete a device has no
run, and notes only which is the highest it has seen. -/
def takeGossip (a : Arrival) (feeds : List FeedRead) (s : State) : State :=
  let b := a.msg.payload
  let run := leAt b 0 2
  let g0 := s.fabric.gossip
  let s0 := { s with fabric := { s.fabric with gossip := { g0 with seen := max run g0.seen } } }
  match s.fabric.addr with
  | none => s0
  | some addr =>
    if getF s ANC_BOOT_STATUS_COLONY_OK = 0 then s0
    else
      let s1 := if run > g0.run then startRun s0 run feeds else s0
      let g := s1.fabric.gossip
      if run < g.run ∨ g.round = 0 then s1
      else
        let s2 := { s1 with fabric := { s1.fabric with gossip := { g with
            got := g.got ++ [(a.port, run, leAt b 2 1, leAt b 3 1)] } } }
        endRounds 6 (mergeFragment s2 addr b) feeds

def execRouteGossip (a : Arrival) (feeds : List FeedRead) (s : State) : Host.Outcome State Fault Refusal :=
  .next (recv 0x13 a (takeGossip a feeds) s)

/-- GOSSIP_RUN_START (R461). -/
def gossipRunStart (feeds : List FeedRead) (s : State) : State :=
  if s.fabric.gossip.want then
    startRun { s with fabric := { s.fabric with gossip := { s.fabric.gossip with want := false } } }
      (s.fabric.gossip.seen + 1) feeds
  else s

def execGossipRunStart (feeds : List FeedRead) (s : State) : Host.Outcome State Fault Refusal :=
  .next (gossipRunStart feeds s)

/-- ROUND_GIVEUP (R461): the round ends on all its ports at once. -/
def roundGiveup (now : Nat) (feeds : List FeedRead) (s0 : State) : State :=
  let s := advance s0 now
  let g := s.fabric.gossip
  if g.round ≠ 0 ∧ elapsed s g.since (cfgOf s).routing.roundGiveup 10 = true then
    endRounds 6 (setGossip (bump s FAB_GOSSIP_GIVEUPS 0 1) { g with ports := [] }) feeds
  else s

def execRoundGiveup (now : Nat) (feeds : List FeedRead) (s : State) : Host.Outcome State Fault Refusal :=
  .next (roundGiveup now feeds s)

/-! ### Late intervals (R466) -/

/-- When interval `n` began, unless it has not begun or has ended. -/
def intervalSince (s : State) (n : Nat) : Option Nat :=
  let m := tblFind s.mgmt.marks
  let open_ (f : Fld) : Bool := getF s f == 0
  match n with
  | 0 => if s.dev = .boot then m 0 else none
  | 1 => if open_ ANC_BOOT_STATUS_COLONY_OK then (m 1).bind (fun a => (m 2).map (max a)) else none
  | 2 => if open_ ANC_BOOT_STATUS_ROUTES_OK then m 3 else none
  | 3 => if open_ ANC_BOOT_STATUS_FABRIC_READY then m 4 else none
  | 4 => if open_ ANC_BOOT_STATUS_FABRIC_READY then m 0 else none
  | _ => none

def intervalBound (n : Nat) : Nat := [4, 2, 12, 14, 20].getD n 0

/-- STARTUP_LATE: an interval exceeds its bound. -/
def startupLate (n now : Nat) (s0 : State) : State :=
  let s := advance s0 now
  let late := getF s ANC_BOOT_STATUS_LATE
  match intervalSince s n with
  | some t =>
    if s.counter - t > intervalBound n * 32768 ∧ bitOf late n = false then
      raiseCause (logEvent (setF s ANC_BOOT_STATUS_LATE 0 (late + 2 ^ n)) 0x0503 0 1 0 none
        (leBytes 1 (late + 2 ^ n))) 10 n
    else s
  | none => s

def execStartupLate (st : StartStage) (now : Nat) (s : State) : Host.Outcome State Fault Refusal :=
  .next (match st with | .stage n => startupLate n now s)

end Sys2Proof.Machine
end

