-- ==== Sys2Proof/Machine/Restore.lean ====
section
/-! DEFINITION. The restore of a partition from a checkpoint stream (R86, R91 to R93, R145, R420 to R423). -/

namespace Sys2Proof.Machine

/-! ### Reading the stream (R420) -/

/-- A record of a stream, with the offset of its payload. `good` says that its CRCs hold and it is whole. -/
structure StreamRec where
  type    : Nat
  tensor  : Nat
  version : Nat
  item    : Nat
  offset  : Nat
  records : Nat
  payload : List Byte
  at_     : Nat
  good    : Bool
  deriving DecidableEq, Repr

def headGood (h : List Byte) : Bool := decide (leAt h 44 4 = crc32c (sliceB h 0 44)) && decide (leAt h 20 4 ≤ 2 ^ 20)

def parseRec (h payload : List Byte) (o : Nat) : StreamRec :=
  ⟨leAt h 0 2, leAt h 4 4, leAt h 8 8, leAt h 16 1, leAt h 24 8, leAt h 40 4, payload, o,
    headGood h && decide (payload.length = leAt h 20 4) && decide (leAt h 32 4 = crc32c payload)⟩

/-- The records from offset `o`, read through `rd`, up to the END record or the first bad header. -/
def readRecs (rd : Nat → Nat → List Byte) : Nat → Nat → List StreamRec
  | 0, _ => []
  | k + 1, o =>
    let h := rd o 48
    if h.length < 48 then []
    else
      let n := leAt h 20 4
      let r := parseRec h (if headGood h then rd (o + 48) n else []) (o + 48)
      if !headGood h || r.type == 0xFF then [r] else r :: readRecs rd k (o + 48 + roundUp n 16)

/-- The bytes read of a remote stream, as a reader: what has not been read is missing. -/
def heldBytes (l : List Byte) (o n : Nat) : List Byte := (l.drop o).take n

def streamRecs (s : State) (r : RestoreSt) : List StreamRec :=
  if r.remote then readRecs (heldBytes r.bytes) (r.bytes.length / 48 + 1) 0
  else readRecs (fun o n => readBytes s (r.addr + o) n) (2 ^ 36) 0

/-- The machine after the reads of a stream in this device's own HBM (R299): every unit up to the last record read. -/
def readStream (s : State) (r : RestoreSt) (rs : List StreamRec) : State :=
  if r.remote then s
  else readUnits s (unitsOf r.addr (match rs.getLast? with | some x => x.at_ + x.payload.length | none => 48))

/-- Byte `o` of a stream was read poisoned (R301). -/
def streamPoison (s : State) (r : RestoreSt) (o : Nat) : Bool :=
  if r.remote then r.bad.any (fun x => decide (x.1 ≤ o) && decide (o < x.1 + x.2)) else unitPoison s ((r.addr + o) / 256)

/-- A payload with its poison. -/
def StreamRec.marked (s : State) (r : RestoreSt) (x : StreamRec) : List Marked :=
  (x.payload.zipIdx).map (fun b => (b.1, streamPoison s r (x.at_ + b.2)))

/-- More of a remote stream is to be read: neither its END record nor a bad header has been read whole. -/
def needMore (l : List Byte) : Nat → Nat → Bool
  | 0, _ => false
  | k + 1, o =>
    let h := heldBytes l o 48
    let n := leAt h 20 4
    if h.length < 48 then true
    else if !headGood h then false
    else if leAt h 0 2 = 0xFF then decide (l.length < o + 48 + n)
    else needMore l k (o + 48 + roundUp n 16)

def streamRead (r : RestoreSt) : Bool := !r.remote || r.failed || !needMore r.bytes (r.bytes.length / 48 + 1) 0

/-- The next READ_REQ of a remote restore: up to the next 256-byte boundary (R346, R422). -/
def readOn (s : State) (r : RestoreSt) : State :=
  if streamRead r then s
  else
    let a := r.addr + r.bytes.length
    let n := 256 - a % 256
    let tag := s.fabric.nextTag
    let s1 := { s with fabric := { s.fabric with
      nextTag := (tag + 1) % 2 ^ 16
      txns := s.fabric.txns ++ [⟨tag, r.dev, 12, s.counter, 6, r.part, a, n⟩] } }
    sendMsg s1 12 { dst := r.dev, part := 0xF, mtype := 0x03, tag := tag, addr := a % 2 ^ 40 + (n - 1) * 2 ^ 56 }

/-- A response of a remote restore (R357, R570): its bytes with their poison, or its failure. -/
def restoreBytes (s : State) (data : Option (List Byte)) (poison : Bool := false) : State :=
  match s.mgmt.restore with
  | none => s
  | some r =>
    let r1 := match data with
      | some l => { r with
          bytes := r.bytes ++ l
          bad := if poison then r.bad ++ [(r.bytes.length, l.length)] else r.bad }
      | none => { r with failed := true }
    readOn { s with mgmt := { s.mgmt with restore := some r1 } } r1

/-! ### GO (R422, R426) -/

def restoreDone (s : State) (status : Nat) : State :=
  setF (setF s ANC_RESTORE_STATUS_STATUS 0 status) ANC_RESTORE_STATUS_DONE 0 1

/-- A write of ANC_RESTORE_CTRL. -/
def restoreWrite (a : Requester) (w : Wr) (s0 : State) : State :=
  let s := writeFields s0 ANC_RESTORE_CTRL_SRC_DEV.off w
  if !w.bit 63 then s
  else if s.mgmt.restore.isSome then accessError s a ANC_RESTORE_CTRL_SRC_DEV.off 3
  else
    let p := getF s ANC_RESTORE_CTRL_PARTITION
    if (getPart s p).state ≠ .loaded then restoreDone s stIllegal
    else
      let r : RestoreSt := ⟨p, getF s ANC_RESTORE_SRC_ADDR, getF s ANC_RESTORE_CTRL_REMOTE == 1, getF s ANC_RESTORE_CTRL_SRC_DEV,
        [], false, []⟩
      let s1 := wakeLichen (setF s ANC_RESTORE_STATUS_BUSY 0 1)
      readOn { s1 with mgmt := { s1.mgmt with restore := some r } } r

def execRestore (a : Requester) (v : W64) (s : State) : Host.Outcome State Fault Refusal :=
  .next (touch s a ANC_RESTORE_CTRL_SRC_DEV.off (restoreWrite a (Wr.full v)))

/-! ### What a stream holds (R421, R422) -/

/-- The class of a record in R421's order. -/
def recClass : Nat → Nat
  | 1 => 0
  | 2 => 1
  | 3 => 2
  | 4 => 3
  | 5 => 4
  | 6 => 5
  | 0xFF => 6
  | _ => 7

/-- One record may follow another (R421). -/
def recFollows (a b : StreamRec) : Bool :=
  let ca := recClass a.type
  let cb := recClass b.type
  if ca = 2 ∧ cb = 2 then
    decide (a.tensor < b.tensor) || (a.tensor == b.tensor && (decide (a.item < b.item) ||
      (a.item == b.item && decide (a.offset < b.offset))))
  else decide (ca < cb) || (ca == cb && decide (2 < ca) && decide (ca < 6))

def inOrder : List StreamRec → Bool
  | [] => true
  | [_] => true
  | a :: b :: t => recFollows a b && inOrder (b :: t)

/-- The stream's form: its CRCs, its order, one STATE and one MANIFEST at its head; and, unless reading it failed, an END
record that counts its records. -/
def streamForm (rs : List StreamRec) (failed : Bool) : Bool :=
  rs.all (fun r => r.good && decide (recClass r.type < 7)) && inOrder rs &&
  (match rs with
   | a :: b :: _ => a.type == 1 && b.type == 2
   | [a] => failed && a.type == 1
   | [] => failed) &&
  (failed || (match rs.getLast? with
    | some r => r.type == 0xFF && r.records == rs.length
    | none => false))

/-- The bytes of memory at which an item of SET0 lies, in order. -/
def itemRuns (s : State) (p : Nat) (t : TensorCfg) (item : Nat) : List (Nat × Nat) :=
  (((setItems s p t t.set0).find? (fun i => i.1 == item)).map (·.2)).getD []

def runsLen (rs : List (Nat × Nat)) : Nat := rs.foldl (fun n r => n + r.2) 0

/-- Status of a restore (R422). A failed remote read is LINK_DOWN unless what was read shows an earlier condition
(log 66). -/
def restoreStatus (s : State) (r : RestoreSt) (rs : List StreamRec) : Nat :=
  let data := rs.filter (fun x => x.type == 3)
  if !streamForm rs r.failed then stFormat
  else if data.any (fun x => (tensorCfg s r.part x.tensor).isNone) then stBadDesc
  else if data.any (fun x => match tensorCfg s r.part x.tensor with
      | some t => decide (runsLen (itemRuns s r.part t x.item) < x.offset + x.payload.length)
      | none => false) then stBounds
  else if r.failed then stLinkDown
  else stOK

/-- Bytes, marked with their poison, at their places in an item. -/
def runSet (w : WSet) : List (Nat × Nat) → Nat → List Marked → WSet
  | [], _, _ => w
  | (k, n) :: t, o, l =>
    if o ≥ n then runSet w t (o - n) l
    else runSet (((l.take (n - o)).zipIdx).foldl (fun w b =>
      wput w (k + o + b.2) { val := b.1.1, poison := b.1.2, pad := false }) w) t 0 (l.drop (n - o))

def putRuns (s : State) (runs : List (Nat × Nat)) (o : Nat) (l : List Marked) : State := (writeSet s (runSet [] runs o l)).1

/-- SET0 of every tensor of the partition is undefined (R422; log 5). -/
def undefineSet0 (s : State) (p : Nat) : State :=
  ((cfgOf s).tensors.filter (fun t => t.part == p)).foldl (fun s t =>
    ((setItems s p t t.set0).flatMap (·.2)).foldl (fun s r =>
      writeBytes { s with free := s.free + r.2 } r.1 ((List.range r.2).map (fun i => Config.undefinedSet0 (s.free + i)))) s) s

/-- A restore ends without effect on selectors, counts and histories. -/
def failRestore (s : State) (status : Nat) : State :=
  match s.mgmt.restore with
  | none => s
  | some r =>
    let s1 := { undefineSet0 s r.part with mgmt := { s.mgmt with restore := none } }
    restoreDone (setF (setF s1 ANC_RESTORE_STATUS_BUSY 0 0) ANC_RESTORE_STATUS_ORDER_CHANGED 0 0) status

/-! ### What a restore brings back (R423) -/

/-- The history of a slot from its record (R91, R92). -/
def restoredHist (k : SlotCfg) (b : List Byte) : HistSt :=
  let valid := leAt b 4 1
  let head := leAt b 5 1
  let flags := leAt b 6 1
  let depth := leAt b 7 1
  let ring := (List.range valid).map (fun i => BitVec.ofNat 32 (leAt b (16 + 4 * ((head + depth - valid + i) % max 1 depth)) 4))
  let kept := ring.drop (valid - k.depth)
  if valid = 0 then { HistSt.empty with warm := if k.mode = .history then k.depth else 0 }
  else
    { entries := kept
      ovf := bitOf flags 0
      warm := if bitOf flags 1 then k.depth - valid else 0
      step := leAt b 8 8
      head := if depth = k.depth then head else kept.length % max 1 k.depth }

/-- The history records of a stream's payload, cut by their DEPTH. -/
def cutHist : Nat → List Byte → List (List Byte)
  | 0, _ => []
  | k + 1, l =>
    if l.length < 16 then []
    else
      let n := 16 + 4 * leAt l 7 1
      l.take n :: cutHist k (l.drop n)

def payloadOf (rs : List StreamRec) (type : Nat) : List Byte := (rs.filter (fun r => r.type == type)).flatMap (·.payload)

/-- The bytes of an item that a stream covers. -/
def covered_ (rs : List StreamRec) (t item lo n : Nat) : Bool :=
  decide (n ≤ (rs.filter (fun r => r.type == 3 && r.tensor == t && r.item == item)).foldl (fun c r =>
    c + (min (r.offset + r.payload.length) (lo + n) - max r.offset lo)) 0)

/-- A copy restored without its metadata plane starts at bias 0, and one without spill region, directory or streak plane with
every block unwidened and every streak 0 (R93, R145). -/
def restoreCopy (s : State) (p : Nat) (rs : List StreamRec) (t : TensorCfg) (fwd : Bool) : State :=
  let item := if fwd then 3 else 4
  let runs := itemRuns s p t item
  let pre (i : Nat) : Nat := runsLen (runs.take i)
  let whole (i : Nat) : Bool := match runs[i]? with | some r => covered_ rs t.tensor item (pre i) r.2 | none => true
  if runs.length < 5 then s
  else
    let planes := runs.drop 4
    let noMeta := !whole 2
    let noSpill := (List.range planes.length).any (fun i => !whole (4 + i))
    let s1 := if noMeta then modPart s p (fun x => { x with rebias := dedupNat (x.rebias ++ [2 * t.tensor + b2n (!fwd)]) }) else s
    let s2 := if noSpill then planes.foldl (fun s r => writeBytes s r.1 (List.replicate r.2 0#8)) s1 else s1
    if noMeta || noSpill then
      logEvent s2 0x0106 0 1 0 (some p) (leBytes 2 t.tensor ++ leBytes 1 item ++ leBytes 1 (b2n noMeta + 2 * b2n noSpill))
    else s2

/-- The histories, norms and rung trace of a stream. -/
def restoreTables (s : State) (p version : Nat) (rs : List StreamRec) : State :=
  let hb := payloadOf rs 4
  let recs := cutHist hb.length hb
  let norms := payloadOf rs 5
  let trace := payloadOf rs 6
  let before := warmSlots s p
  let usable (g : W64) : Bool := g.toNat % 2 ^ 63 != 0 && bitsOf g.toNat 52 11 != 0x7FF
  let s1 := modPart s p (fun x => { x with
    hist := (partSlots s p).foldl (fun h k =>
      if k.mode = .fixed then h
      else match recs.find? (fun b => leAt b 0 4 == k.slot) with
        | some b => tblSet HistSt.empty h k.slot (restoredHist k b)
        | none => tblSet HistSt.empty h k.slot { HistSt.empty with warm := if k.mode = .history then k.depth else 0 }) []
    lastG2 := (chunks 64 norms).foldl (fun l b =>
      let g := BitVec.ofNat 64 (leAt b 24 8)
      if usable g then tblPut l (leAt b 0 4) (some g) else l) x.lastG2 })
  let s2 := logWarm s1 p before (version + 1)
  let size := 16 + roundUp (ladderLayers s p).length 16
  let s3 := match partCfg s p with
    | some pc => if pc.rungDepth = 0 then s2 else (chunks size trace).foldl (fun s e =>
        modPart (writeBytes s (pc.rungRing + size * ((getPart s p).traceAt % pc.rungDepth)) e) p
          (fun x => { x with traceAt := x.traceAt + 1 })) s2
    | none => s2
  let scales := (newScales (modPart s3 p (fun x => { x with nextScales := [], scales := [], altScales := [] })) p [] []).map (fun (k, e) =>
    (k, if e.jit && ((slotCfg s p k).map (·.weight)).getD false then
        (⟨Config.receivedScale version k, Config.receivedJit version k⟩ : ScaleEntry) else e))
  modPart s3 p (fun x => { x with scales := scales, snap := ⟨x.hist, scales, norms⟩ })

/-- A restore that ends with OK, in one action (R423). -/
def finishRestore (s0 : State) (r : RestoreSt) (rs : List StreamRec) : State :=
  let s := s0
  let p := r.part
  let state := payloadOf rs 1
  let version := leAt state 0 8
  let s1 := (rs.filter (fun x => x.type == 3)).foldl (fun s x =>
    match tensorCfg s p x.tensor with
    | some t => putRuns s (itemRuns s p t x.item) x.offset (x.marked s0 r)
    | none => s) s
  let ts := ((cfgOf s).tensors.filter (fun t => t.part == p && rs.any (fun x => x.type == 3 && x.tensor == t.tensor)))
  let s2 := ts.foldl (fun s t => restoreCopy (restoreCopy s p rs t true) p rs t false) s1
  let s3 := modPart s2 p (fun x => { x with
    select := ts.foldl (fun l t => tblSet 0 l t.tensor 0) x.select
    lastConf := some (leAt state 8 8)
    version := version
    drain := none })
  let s4 := restoreTables (setF s3 ANC_STEP_COUNT_STEP p version) p version rs
  let s5 := setReg s4 (ANC_DRAIN_STATE_PENDING.at p)
    (BitVec.ofNat 64 (2 ^ 24 + 2 ^ 25 + 2 ^ 26))
  let ms := payloadOf rs 2
  let changed := ms != s.cfg.committed.manifest && Config.orderChanged ms s.cfg.committed.manifest
  let s6 := { s5 with mgmt := { s5.mgmt with restore := none } }
  restoreDone (setF (setF s6 ANC_RESTORE_STATUS_BUSY 0 0) ANC_RESTORE_STATUS_ORDER_CHANGED 0 (b2n changed)) stOK

/-- RESTORE_END: the stream has been read, or reading it has failed. -/
def restoreEnd (p : Nat) (s : State) : State :=
  match s.mgmt.restore with
  | none => s
  | some r =>
    if r.part ≠ p ∨ streamRead r = false ∨ zeroingFor s (.anchor p) = true then s
    else
      let rs := streamRecs s r
      let st := restoreStatus s r rs
      let s1 := readStream s r rs
      if st = stOK then finishRestore s1 r rs else failRestore s1 st

def execRestoreEnd (p : Nat) (s : State) : Host.Outcome State Fault Refusal := .next (restoreEnd p s)

end Sys2Proof.Machine
end

