-- ==== Sys2Proof/Machine/Control.lean ====
section
/-! DEFINITION. Control-space reads and writes (R8 to R14, R536 to R543): what a register reads as, what a write of one does,
and the rows that are accesses to one register. -/

namespace Sys2Proof.Machine

/-! ### The queue registers (R327) -/

/-- The queue register at an offset: its queue, and 0 BASE, 1 CQ_BASE, 2 TAIL, 3 HEAD, 4 CTRL. -/
def queueAt (off : Nat) : Option (QueueId × Nat) :=
  let r (q : QueueId) : Option (QueueId × Nat) :=
    if qBase q ≤ off ∧ off < qBase q + 0x28 then some (q, (off - qBase q) / 8) else none
  if 0x100000 ≤ off then r (.frond ((off - 0x100000) / 0x1000))
  else if 0x60000 ≤ off then r (.cushion ((off - 0x60000) / 0x1000))
  else if 0x2400 ≤ off then r .device
  else if 0x2200 ≤ off then r (.anchor ((off - 0x2200) / 0x40))
  else none

/-- A queue's control register (R324, R327). -/
def ctrlView (x : QueueSt) : Nat :=
  match haltPos x with
  | some i => 2 ^ 8 + min 255 x.halted.length * 2 ^ 16 + i.n.toNat * 2 ^ 32
  | none => 0

/-- The registers that software sets a ring with accept a write (R310). -/
def baseOpen (s : State) (q : QueueId) : Bool :=
  match q with
  | .device =>
    let x := getQ s q
    decide (s.dev = .boot ∨ s.dev = .ready ∨ s.dev = .service) && x.tail == x.issued.count && x.tail == x.record.count
      && x.halted.isEmpty
  | _ => (match queueOwner s q with
    | some p => decide ((getPart s p).state = .loaded)
    | none => false)

def queueWrite (s : State) (q : QueueId) (k : Nat) (a : Requester) (w : Wr) : State :=
  if k < 2 then
    let s1 := writeFields s (qBase q + 8 * k) w
    if baseOpen s q && (k == 1 || (decide (6 ≤ ringLog2 s1 q) && decide (ringLog2 s1 q ≤ 16))) then s1
    else accessError s a (qBase q + 8 * k) 3
  else if k = 2 then (if w.lo then writeTail s q a (w.v.setWidth 32) else s)
  else if k = 4 ∧ w.lo = true then
    match bitsOf w.v.toNat 0 2 with
    | 1 => resumeQueue s q a
    | 2 => skipQueue s q a
    | _ => s
  else s

/-! ### Registers that show live state -/

def frondState (s : State) (f : Nat) : Nat :=
  let xs := (getFrond s f).slots.map (fun e => e.2.state)
  let act := xs.countP (fun x => match x with | .active _ _ => true | _ => false)
  let done := xs.countP (fun x => decide (x = .done))
  let held := xs.countP (fun x => decide (x = .held))
  (128 - act - done - held) + act * 2 ^ 8 + done * 2 ^ 16 + held * 2 ^ 24

/-- Test age of a physical frond in seconds (R413): the ledger's, and what has passed since. -/
def testAge (s : State) (phys : Nat) : Nat := tblGet 0 s.flash.ages phys + (s.counter - s.mgmt.ledgerAt) / 32768

/-- FRD_REL_STATE (R426). -/
def relState (s : State) (f : Nat) : Nat :=
  let ph := physOf s f
  let age := if s.cfg.floorOk then min (testAge s ph) (2 ^ 32 - 1) else 0
  let role := if pairedFrond s f then (if isFollower s f then 2 else 1) else 0
  age + getF s FRD_REL_STATE_TEST_OVERDUE f * 2 ^ 32 + b2n (s.mgmt.suspect.contains ph) * 2 ^ 33 + role * 2 ^ 34 +
  (if s.cfg.floorOk then tblGet 0 s.flash.lastTest ph else 0) * 2 ^ 36

def partCode : PartState → Nat
  | .idle => 0
  | .loaded => 1
  | .running => 2
  | .draining => 3
  | .test => 4
  | .faulted => 5

def devCode : DevState → Nat
  | .off => 0
  | .standby => 1
  | .boot => 2
  | .ready => 3
  | .service => 4

def lichenCode : LichenState → Nat
  | .asleep => 0
  | .waking => 1
  | .running => 2
  | .reset => 3

/-- A page's index and the offset in the page, for the pages with several instances. -/
def pageIndex (base off : Nat) : Nat := (off - base) / 0x1000

/-- What a register reads as: state shown live, or else what is stored. -/
def regValue (s : State) (off : Nat) : Nat :=
  let v := (getReg s off).toNat
  match queueAt off with
  | some (q, k) =>
    let x := getQ s q
    if k = 2 then x.tail.toNat
    else if k = 3 then x.issued.count.toNat + x.record.count.toNat * 2 ^ 32
    else if k = 4 then ctrlView x
    else v
  | none =>
    if 0x100000 ≤ off then
      let f := pageIndex 0x100000 off
      if off % 0x1000 = 0x458 then frondState s f else if off % 0x1000 = 0x4E8 then relState s f else v
    else if 0x2228 ≤ off ∧ off < 0x2400 ∧ off % 0x40 = 0x28 then
      let x := getPart s ((off - 0x2200) / 0x40)
      partCode x.state + x.fault % 256 * 2 ^ 8
    else if off = ANC_DEV_STATE_STATE.off then devCode s.dev
    else if off = INT_SUMMARY_BLOCKS.off then intSummary s
    else if 0x17000 ≤ off ∧ off < 0x17028 then
      let w := (off - 0x17000) / 8
      (s.queues.filter (fun e => decide (e.1 / 64 = w) && decide (e.1 < 320) && !e.2.halted.isEmpty)).foldl
        (fun n e => n + 2 ^ (e.1 % 64)) 0
    else if off = MGT_LICHEN_STATE_STATE.off then putBits v 0 2 (lichenCode s.mgmt.lichen)
    else if off = FAB_ID_COLONY.off then putBits v 13 1 (b2n (isStipe s))
    else if off = DBG_STATE_OPEN.off then
      b2n s.dbgPort.opened + 2 * b2n s.mgmt.halted + s.dbgPort.halted.length % 512 * 2 ^ 16 + s.dbgPort.target % 65536 * 2 ^ 32
    else v

/-! ### The test ports of the stacks (R305, R411) -/

/-- The wrapper operation of stack `t` has shifted LEN bits: it is done, and a hard repair returns the granules of its row. -/
def tpFinish (s : State) (t : Nat) : State :=
  let (bits, words) := tblGet (0, []) s.mgmt.tpShift t
  if getF s HBM_TP_STATUS_BUSY t = 1 ∧ getF s HBM_TP_CTRL_LEN t ≤ bits then
    let s1 := setF (setF s HBM_TP_STATUS_BUSY t 0) HBM_TP_STATUS_DONE t 1
    match Config.wrapperRepair (getF s HBM_TP_CTRL_INSTR t) words with
    | some rec =>
      let s2 := { s1 with mgmt := { s1.mgmt with repairs := s1.mgmt.repairs ++ [(t, rec)] } }
      let back := s2.cfg.floor.retired.filter (fun g => granuleOfRow t (leAt rec 2 2) == g)
      if leAt rec 4 1 = 1 ∧ back ≠ [] ∧ pufFailed s = false then
        writeFloor s2 { s2.cfg.floor with retired := s2.cfg.floor.retired.filter (fun g => !back.contains g) }
      else s2
    | none => s1
  else s

/-- HBM_TP_CTRL is written. -/
def tpCtrlWrite (t : Nat) (a : Requester) (w : Wr) (s : State) : State :=
  let off := HBM_TP_CTRL_INSTR.at t
  let s1 := writeFields s off w
  if !w.bit 63 then s1
  else if s.dev ≠ .service then accessError (setF s1 HBM_TP_STATUS_REFUSED t 1) a off 3
  else
    let s2 := wakeLichen (setF s1 HBM_TP_STATUS_BUSY t 1)
    tpFinish { s2 with mgmt := { s2.mgmt with tpShift := tblPut s2.mgmt.tpShift t (some (0, [])) } } t

/-- HBM_TP_DATA is written: 64 bits are shifted in. A 32-bit write shifts the register with that half replaced. -/
def tpDataWrite (t : Nat) (a : Requester) (w : Wr) (s : State) : State :=
  let off := HBM_TP_DATA_DATA.at t
  if s.dev ≠ .service then accessError s a off 3
  else if getF s HBM_TP_STATUS_BUSY t = 1 then
    let s1 := writeFields s off w
    let (bits, words) := tblGet (0, []) s.mgmt.tpShift t
    tpFinish { s1 with mgmt := { s1.mgmt with tpShift := tblPut s1.mgmt.tpShift t (some (bits + 64, words ++ [getReg s1 off])) } } t
  else writeFields s off w

/-- HBM_TP_DATA is read: the next 64 bits shifted out. -/
def tpDataShift (t : Nat) (s : State) : State :=
  if s.dev = .service ∧ getF s HBM_TP_STATUS_BUSY t = 1 then
    let (bits, words) := tblGet (0, []) s.mgmt.tpShift t
    let s1 := setReg { s with free := s.free + 1 } (HBM_TP_DATA_DATA.at t)
      (Config.wrapperShiftOut t (getF s HBM_TP_CTRL_INSTR t) s.free)
    tpFinish { s1 with mgmt := { s1.mgmt with tpShift := tblPut s1.mgmt.tpShift t (some (bits + 64, words)) } } t
  else s

/-! ### The event log's window and firmware update (R480, R484) -/

/-- The record with a SEQ, in the queue or in flash. -/
def findRecord (s : State) (seq : Nat) : Option LogRec :=
  if queueFirstSeq s ≤ seq then s.mgmt.queue[seq - queueFirstSeq s]? else tblFind s.flash.log seq

/-- A write of SEQ in MGT_LOG_SEL. The record is copied at once (log 62). -/
def logSelWrite (w : Wr) (s : State) : State :=
  let s1 := writeFields s MGT_LOG_SEL_SEQ.off w
  let seq := getF s1 MGT_LOG_SEL_SEQ
  let r := if seq = 0 then none else findRecord s1 seq
  let bytes := (r.map (fun r => r.bytes seq)).getD (List.replicate 64 0#8)
  let s2 := setF (setF s1 MGT_LOG_SEL_READY 0 1) MGT_LOG_SEL_FOUND 0 (b2n r.isSome)
  (List.range 8).foldl (fun s k => setReg s (MGT_LOG_DATA0_DATA.off + 8 * k) (BitVec.ofNat 64 (leAt bytes (8 * k) 8))) s2

/-- A firmware update ends (R484). -/
def fwResult (s : State) (status slot : Nat) : State :=
  let s1 := setF (setF (setF s MGT_FW_RESULT_BUSY 0 0) MGT_FW_RESULT_DONE 0 1) MGT_FW_RESULT_STATUS 0 status
  raiseCause (setF s1 MGT_FW_RESULT_SLOT 0 slot) 15 0

/-- MGT_FW_CTRL is written. The target is the slot that is not ACTIVE. -/
def fwWrite (a : Requester) (w : Wr) (s : State) : State :=
  let s1 := writeFields s MGT_FW_CTRL_ADDR.off w
  if !w.bit 63 then s1
  else if s.mgmt.fwBusy.isSome then accessError s1 a MGT_FW_CTRL_ADDR.off 3
  else
    let slot := if s.flash.slotA.state = 4 then 1 else 0
    if s.dev = .ready ∨ s.dev = .service then
      let s2 := wakeLichen (setF s1 MGT_FW_RESULT_BUSY 0 1)
      { s2 with mgmt := { s2.mgmt with fwBusy := some (slot, getF s1 MGT_FW_CTRL_ADDR) } }
    else fwResult s1 stIllegal slot

/-! ### Mailbox registers (R485, R486) -/

/-- The requester is the channel's sender. A peer's lichen core sends its request by message, and writes only the control
register (log 67). -/
def sendsOn (s : State) (a : Requester) (c : Nat) : Bool :=
  match a with
  | .host _ => decide (c < 16)
  | .sequencer f => c == 32 + f
  | .peer src => decide (16 ≤ c ∧ c < 32) && s.fabric.addr.isSome && src == (s.fabric.addr.getD 0) / 16 * 16 + (c - 16)
  | _ => false

def mbxDataWrite (c k : Nat) (a : Requester) (w : Wr) (s : State) : State :=
  if !sendsOn s a c || (decide (16 ≤ c) && decide (c < 32)) || bitOf (getReg s (mbxCtrl c)).toNat 0 then accessError s a (mbxData c k) 3
  else writeFields s (mbxData c k) w

/-- MBX_CTRL is written. -/
def mbxCtrlWrite (c : Nat) (a : Requester) (w : Wr) (s : State) : State :=
  let v := getReg s (mbxCtrl c)
  if !sendsOn s a c then accessError s a (mbxCtrl c) 3
  else
    let s1 := if w.bit 1 then setReg s (mbxCtrl c) (v &&& ~~~2) else s
    if !w.bit 0 || bitOf v.toNat 0 then s1
    else if bitOf v.toNat 1 || (decide (16 ≤ c) && decide (c < 32)) then accessError s1 a (mbxCtrl c) 3
    else postRequest s1 c

/-! ### The landing buffer's pointers (R363) -/

/-- Bytes free in sub-ring `m`. -/
def landFree (s : State) (m : Nat) : Nat :=
  2 ^ getF s FAB_HDMA_CTRL_LOG2_SUB - (getF s FAB_HDMA_PTR_WR m + 2 ^ 32 - getF s FAB_HDMA_PTR_RD m) % 2 ^ 32

/-- WRITE_ACKs that were withheld go out, oldest first, as far as there is room. -/
def releaseAcks (s : State) : State :=
  s.fabric.heldAcks.foldl (fun s e =>
    if e.2.1 ≤ landFree s e.1 then
      sendMsg { s with fabric := { s.fabric with heldAcks := s.fabric.heldAcks.erase e } } e.2.2.vc e.2.2.msg
    else s) s

def hdmaPtrWrite (m : Nat) (a : Requester) (w : Wr) (s : State) : State :=
  let off := FAB_HDMA_PTR_WR.at m
  if !isStipe s then accessError s a off 3 else releaseAcks (writeFields s off w)

/-! ### A write of any register -/

/-- A write reaches the register at `off` (R10 to R12 and the rules of the register's own; a 1 to VALID of FRD_VEC_FAULT and
HBM_LAST_POISON clears the whole register: R221, R307). -/
def regWrite (a : Requester) (w : Wr) (off : Nat) (s : State) : State :=
  match queueAt off with
  | some (q, k) => queueWrite s q k a w
  | none =>
    if 0x4000 ≤ off ∧ off < 0x8000 then
      (if (getPart s ((off - 0x4000) / 0x800)).state = .loaded then writeFields s off w else accessError s a off 3)
    else if off = ANC_RESTORE_CTRL_SRC_DEV.off then restoreWrite a w s
    else if off = INT_ENABLE_ENABLE.off then notifyInt (intActive s) (2 ^ 64 - 1) (writeFields s off w)
    else if 0x14100 ≤ off ∧ off < 0x17000 then
      notifyInt (intActive s) (if off % 0x80 = 0 then 2 ^ ((off - 0x14100) / 0x80) else 0) (writeFields s off w)
    else if off = MGT_FW_CTRL_ADDR.off then fwWrite a w s
    else if off = MGT_LOG_SEL_SEQ.off then logSelWrite w s
    else if 0x20000 ≤ off ∧ off < 0x30000 then
      let c := (off - 0x20000) / 0x80
      if off % 0x80 = 0x60 then mbxCtrlWrite c a w s else mbxDataWrite c (off % 0x80 / 8) a w s
    else if off = FAB_ASSIGN_COLONY.off then fabAssign a w s
    else if 0x30800 ≤ off ∧ off < 0x30980 then (if isStipe s then writeFields s off w else accessError s a off 3)
    else if 0x30980 ≤ off ∧ off < 0x31000 then hdmaPtrWrite ((off - 0x30980) / 8) a w s
    else if 0x31000 ≤ off ∧ off < 0x34000 ∧ off % 0x40 = 0x20 then
      (if w.bit 0 then resetPort ((off - 0x31000) / 0x40) s else s)
    else if 0x50000 ≤ off ∧ off < 0x5C000 then
      let t := pageIndex 0x50000 off
      if off % 0x1000 = 0x10 then (if w.bit 63 then setReg s off 0 else s)
      else if off % 0x1000 = 0x40 then tpCtrlWrite t a w s
      else if off % 0x1000 = 0x48 then tpDataWrite t a w s
      else writeFields s off w
    else if FRD_VEC_FAULT_VALID.at 0 ≤ off ∧ off < FRD_VEC_FAULT_VALID.at 288 ∧ off % 0x1000 = 0x488 then (if w.bit 63 then setReg s off 0 else s)
    else writeFields s off w

/-! ### Reads (R12, R13) -/

/-- The RC fields for which `hit` holds are cleared. -/
def clearRc (s : State) (off : Nat) (hit : FieldDef → Bool) : State :=
  match regAt off with
  | some (r, _, _) =>
    setReg s off (r.fields.foldl (fun x f => if f.acc = .rc ∧ hit f then x &&& ~~~(fieldMask f.lo f.width) else x) (getReg s off))
  | none => s

/-- The fields of the register at `off` that count only waiting, or show what is in flight between two steps: OPERAND_WAIT,
PORT_WAIT, DRAIN_WAIT, INFLIGHT and PEAK, TXN_FULL, COMMIT_WAIT and TURNAROUNDS (R191, R221, R246, R280, R307). -/
def waitFields (off : Nat) : List (Nat × Nat) :=
  if 0x100000 ≤ off then
    (if off % 0x1000 = FRD_ARRAY_WAITS_OPERAND_WAIT.off % 0x1000 then [(FRD_ARRAY_WAITS_OPERAND_WAIT.lo, FRD_ARRAY_WAITS_OPERAND_WAIT.width)]
    else if off % 0x1000 = FRD_VEC_WAITS_PORT_WAIT.off % 0x1000 then [(FRD_VEC_WAITS_PORT_WAIT.lo, FRD_VEC_WAITS_PORT_WAIT.width)]
    else if off % 0x1000 = FRD_UPD_WAITS_DRAIN_WAIT.off % 0x1000 then [(FRD_UPD_WAITS_DRAIN_WAIT.lo, FRD_UPD_WAITS_DRAIN_WAIT.width)]
    else if off % 0x1000 = FRD_STREAM_STATE_INFLIGHT.off % 0x1000 then [(0, 14), (16, 14)]
    else if off % 0x1000 = FRD_STREAM_STALLS_TXN_FULL.off % 0x1000 then [(0, 48)]
    else [])
  else if 0x50000 ≤ off ∧ off < 0x5C000 ∧ off % 0x1000 = 0x20 then [(32, 32)]
  else if 0x2100 ≤ off ∧ off < 0x2200 ∧ off % 0x20 = ANC_DRAIN_EVENTS_COMMIT_WAIT.off % 0x20 then
    [(ANC_DRAIN_EVENTS_COMMIT_WAIT.lo, ANC_DRAIN_EVENTS_COMMIT_WAIT.width)]
  else []

/-- A register's value with its waiting counters as a read finds them (log 19). -/
def withWaits (s : State) (off v : Nat) : Nat :=
  (waitFields off).foldl (fun v f =>
    putBits v f.1 f.2 (min (Config.waitCount off f.1 s.free) (if f.2 = 14 then 8192 else 2 ^ f.2 - 1))) v

/-- A register as a read finds it: FAB_HWIN and FAB_HDMA registers read as zero except at a stipe device (R364). -/
def readValue (s : State) (off : Nat) : W64 :=
  if 0x30800 ≤ off ∧ off < 0x31000 ∧ isStipe s = false then 0 else BitVec.ofNat 64 (withWaits s off (regValue s off))

/-- A read that is performed; `sh` is the shadow that this read may return. -/
def regRead (a : Access) (sh : Option W32) (off : Nat) (s0 : State) : State :=
  let low := decide (a.off % 8 = 0)
  let s1 := if 0x50000 ≤ off ∧ off < 0x5C000 ∧ off % 0x1000 = 0x48 ∧ low = true then tpDataShift (pageIndex 0x50000 off) s0 else s0
  let v := readValue s1 off
  let s := if (waitFields off).isEmpty then s1 else { s1 with free := s1.free + 1 }
  match a.width, low, sh with
  | .w64, _, _ => { clearRc s off (fun _ => true) with lastRead := v }
  | _, true, _ =>
    let s1 := clearRc s off (fun _ => true)
    { s1 with
      lastRead := (v.setWidth 32).setWidth 64
      shadows := s1.shadows ++ [⟨a.req, off, (v >>> 32).setWidth 32⟩] }
  | _, false, some h => { s with lastRead := h.setWidth 64 }
  | _, false, none => { clearRc s off (fun f => decide (32 ≤ f.lo)) with lastRead := v >>> 32 }

/-- A control-space read; `gap` is how many CCLK cycles have passed since the requester's last access. Its value stands in
`lastRead`. -/
def ctlReadAt (a : Access) (gap : Nat) (s : State) : State :=
  let sh := if gap ≤ 64 then
      (s.shadows.find? (fun x => ident x.req == ident a.req && x.off == a.off / 8 * 8)).map (·.high)
    else none
  access a false (regRead a sh) { s with lastRead := 0 }

/-- The bytes of a write in place: a 32-bit access carries its value in the low half. -/
def wrOf (a : Access) (v : W64) : Wr :=
  match a.width with
  | .w32 => if a.off % 8 = 0 then ⟨true, false, (v.setWidth 32).setWidth 64⟩ else ⟨false, true, v <<< 32⟩
  | _ => Wr.full v

def ctlWriteAt (a : Access) (v : W64) (s : State) : State := access a true (regWrite a.req (wrOf a v)) s

/-! ### Rows -/

/-- CLEARING_READ: any control-space read. -/
def execClearingRead (a : Access) (gap : Nat) (s : State) : Host.Outcome State Fault Refusal := .next (ctlReadAt a gap s)

/-- REGISTER_WRITE: any control-space write. -/
def execRegisterWrite (a : Access) (v : W64) (s : State) : Host.Outcome State Fault Refusal := .next (ctlWriteAt a v s)

/-- PORT_RESET (R330). -/
def execPortReset (p : Nat) (a : Requester) (s : State) : Host.Outcome State Fault Refusal :=
  .next (touch s a (FAB_PORT_CTRL_RESET.at p) (resetPort p))

/-- FAB_HDMA_PTR_RD (R363). -/
def execHdmaPtrRd (m : Nat) (a : Requester) (v : W32) (s : State) : Host.Outcome State Fault Refusal :=
  .next (touch s a (FAB_HDMA_PTR_WR.at m) (hdmaPtrWrite m a ⟨false, true, v.setWidth 64 <<< 32⟩))

/-- LOG_SEL (R480). -/
def execLogSel (a : Requester) (v : W64) (s : State) : Host.Outcome State Fault Refusal :=
  .next (touch s a MGT_LOG_SEL_SEQ.off (logSelWrite (Wr.full v)))

/-- FW_UPDATE (R484). -/
def execFwUpdate (a : Requester) (v : W64) (s : State) : Host.Outcome State Fault Refusal :=
  .next (touch s a MGT_FW_CTRL_ADDR.off (fwWrite a (Wr.full v)))

/-- HBM_TP_GO (R305). -/
def execHbmTpGo (t : Nat) (a : Requester) (v : W64) (s : State) : Host.Outcome State Fault Refusal :=
  .next (touch s a (HBM_TP_CTRL_INSTR.at t) (tpCtrlWrite t a (Wr.full v)))

/-- HBM_TP_DATA_WRITE (R305). -/
def execHbmTpDataWrite (t : Nat) (a : Requester) (v : W64) (s : State) : Host.Outcome State Fault Refusal :=
  .next (touch s a (HBM_TP_DATA_DATA.at t) (tpDataWrite t a (Wr.full v)))

/-- HBM_TP_DATA_READ (R305). -/
def execHbmTpDataRead (t : Nat) (a : Requester) (s : State) : Host.Outcome State Fault Refusal :=
  .next (ctlReadAt ⟨a, HBM_TP_DATA_DATA.at t, .w64⟩ 0 s)

/-- MAILBOX_GO (R486). -/
def execMailboxGo (c : Nat) (a : Requester) (v : W64) (s : State) : Host.Outcome State Fault Refusal :=
  .next (touch s a (mbxCtrl c) (mbxCtrlWrite c a (Wr.full v)))

end Sys2Proof.Machine
end

