-- ==== Sys2Proof/Machine/Remote.lean ====
section
/-! DEFINITION. Remote transactions (R355 to R357, R570), control messages (R540), multicast (R358, R359), the host port
(R361 to R363, R541, R542) and the rows of the reduction messages. -/

namespace Sys2Proof.Machine

/-! ### Responses -/

/-- A response goes on VC 13, or on the group's VC that the request came on (R346). -/
def respVc (a : Arrival) : Nat := if a.vc < 8 then a.vc else 13

/-- A response copies TAG, PART and HOST of its request (log 55). -/
def respond (s : State) (vc : Nat) (m : Msg) (mtype status : Nat) (pl : List Byte) (poison : Bool := false) : State :=
  sendMsg s vc { dst := m.src, part := m.part, mtype := mtype, flags := if isHostMsg m then 4 else 0, tag := m.tag,
                 status := status, payload := pl, poison := poison }

/-- The waiting transaction that a response from `src` answers. -/
def findTxn (s : State) (m : Msg) (kinds : List Nat) : Option Txn :=
  s.fabric.txns.find? (fun t => t.tag == m.tag && t.dst == m.src && kinds.contains t.kind)

def dropTxn (s : State) (t : Txn) : State := { s with fabric := { s.fabric with txns := s.fabric.txns.erase t } }

def lateResp (s : State) : State := bump s FAB_MSG_EVENTS_LATE_RESP 0 1

/-! ### Who may read and write what (R355) -/

def granted (s : State) (src part addr n : Nat) (wr : Bool) : Bool :=
  (cfgOf s).groups.any (fun g => g.members.any (fun m => m.dev == src && m.part == part)
    && g.windows.any (fun w => (if wr then w.write else w.read) && decide (w.base ≤ addr) && decide (addr + n ≤ w.base + w.len)))

def devOpen (s : State) : Bool := decide (s.dev = .ready ∨ s.dev = .service)

/-- The bytes lie in HBM and do not cross a 256-byte boundary (R346; log 55). -/
def spanOk (addr n : Nat) : Bool := hbmRange addr n && decide (addr % 256 + n ≤ 256)

def grantStatus (s : State) (m : Msg) (addr n : Nat) (wr : Bool) : Nat :=
  if isHostMsg m || m.part == 0xF then (if !devOpen s then stIllegal else if spanOk addr n then stOK else stBounds)
  else if granted s m.src m.part addr n wr && spanOk addr n then stOK
  else stBounds

/-- Some byte of the run lies in a granule that is being zeroed: an access to it waits (R289). -/
def zeroingHit (s : State) (addr n : Nat) : Bool :=
  s.mgmt.zeroing.any (fun g => decide (g * 2 ^ 30 < addr + n) && decide (addr < g * 2 ^ 30 + 2 ^ 30))

/-- WRITE (R355, R356). -/
def remoteWrite (a : Arrival) (s : State) : State :=
  let m := a.msg
  let st := grantStatus s m m.addr m.payload.length true
  let s1 := if st = stOK then writeBytes s m.addr m.payload m.poison else s
  respond s1 (respVc a) m 0x02 st []

def execWrite (a : Arrival) (s : State) : Host.Outcome State Fault Refusal :=
  .next (if zeroingHit s a.msg.addr a.msg.payload.length then s else recv 0x01 a (remoteWrite a) s)

/-- READ_REQ (R346, R355, R356). -/
def remoteRead (a : Arrival) (s : State) : State :=
  let m := a.msg
  let addr := m.addr % 2 ^ 56
  let n := m.addr / 2 ^ 56 + 1
  let st := grantStatus s m addr n false
  if st = stOK then
    let s1 := readUnits s (unitsOf addr n)
    respond s1 (respVc a) m 0x04 st (readBytes s1 addr n) (rangePoison s1 addr n)
  else respond s (respVc a) m 0x04 st []

def execReadReq (a : Arrival) (s : State) : Host.Outcome State Fault Refusal :=
  .next (if zeroingHit s (a.msg.addr % 2 ^ 56) (a.msg.addr / 2 ^ 56 + 1) then s else recv 0x03 a (remoteRead a) s)

/-! ### Host messages in order (R362) -/

/-- An earlier write to the same target on the other VC is unanswered. -/
def hostBlocked (s : State) (m : OutMsg) : Bool :=
  s.fabric.txns.any (fun t => t.dst == m.msg.dst && t.vc != m.vc && (t.kind == 0 || t.kind == 2))

def kindOf (mtype : Nat) : Nat := if mtype = 0x01 then 0 else if mtype = 0x03 then 1 else if mtype = 0x05 then 2 else 3

/-- Every host message that may go goes, in order. -/
def pumpHost (s : State) : State :=
  s.fabric.hostQ.foldl (fun s m =>
    if hostBlocked s m || s.fabric.hostQ.any (fun x => x.msg.dst == m.msg.dst) then
      { s with fabric := { s.fabric with hostQ := s.fabric.hostQ ++ [m] } }
    else
      sendMsg { s with fabric := { s.fabric with txns := s.fabric.txns ++
        [⟨m.msg.tag, m.msg.dst, m.vc, s.counter, kindOf m.msg.mtype, 0xF, m.msg.addr % 2 ^ 40 + b2n (bitOf m.msg.addr 63) * 2 ^ 40, m.msg.payload.length⟩] } } m.vc m.msg)
    { s with fabric := { s.fabric with hostQ := [] } }

/-- A host request's messages are queued, each under a tag of its own. -/
def hostMessages (s : State) (tag : Nat) (wr : Bool) (ms : List OutMsg) : State :=
  let base := s.fabric.nextTag
  let tagged := (ms.zipIdx).map (fun (m, i) => { m with msg := { m.msg with tag := (base + i) % 2 ^ 16, flags := 4, part := 0xF } })
  let tags := tagged.map (fun m => m.msg.tag)
  pumpHost { s with fabric := { s.fabric with
    nextTag := (base + ms.length) % 2 ^ 16
    hostQ := s.fabric.hostQ ++ tagged
    hostOps := s.fabric.hostOps ++ [⟨tag, wr, tags, tags.map (fun t => (t, [])), false, false⟩] } }

def hostAnswer (s : State) (tag code : Nat) (data : List Byte) : State :=
  { s with fabric := { s.fabric with hostDone := s.fabric.hostDone ++ [(tag, code, data)] } }

/-- A message of a host request is answered, or has failed: a failed write is recorded (R362), and a read whose messages are
all answered completes. -/
def hostReply (s : State) (t : Txn) (status : Nat) (data : List Byte) (poison : Bool) : State :=
  match s.fabric.hostOps.find? (fun o => o.left.contains t.tag) with
  | none => pumpHost s
  | some o =>
    let bad := decide (status ≠ stOK)
    let o1 : HostOp := { o with
      left := o.left.erase t.tag
      data := o.data.map (fun d => if d.1 = t.tag then (d.1, data) else d)
      failed := o.failed || bad
      poison := o.poison || poison }
    let s1 := if bad && o.write then logEvent s 0x0305 4 2 0 none (leBytes 2 t.dst ++ leBytes 8 (t.key % 2 ^ 40) ++ leBytes 1 status) else s
    let ops := s1.fabric.hostOps.erase o
    if o1.left.isEmpty then
      let s2 := { s1 with fabric := { s1.fabric with hostOps := ops } }
      pumpHost (if o.write then s2
        else if o1.failed then hostAnswer s2 o.tag 1 []
        else hostAnswer s2 o.tag (if o1.poison then 3 else 0) (o1.data.flatMap (·.2)))
    else pumpHost { s1 with fabric := { s1.fabric with hostOps := ops ++ [o1] } }

/-! ### WRITE_ACK, READ_RESP and CTL_RESP -/

/-- A write of a drain is answered with `status`, or is not answered in time (R242, R357, R363; log 57). -/
def drainReply (s : State) (t : Txn) (status : Nat) : State :=
  match (getPart s t.part).drain with
  | none => s
  | some d =>
    let k := if t.kind = 5 then DrainDest.checkpoint else .buddy
    match d.dests.find? (fun y => y.dest == k) with
    | none => s
    | some y =>
      if status = stOK ∨ y.gaveUp = true then s
      else if t.kind = 5 ∧ status = stLinkDown then abandonDest s t.part d y
      else setDest s t.part d k (fun z => { z with refused := true })

/-- The status of a command one of whose writes was answered with `st` (R357): a non-OK response before LINK_DOWN, and either
before what the command itself ended with. -/
def joinStatus (cur st : Nat) : Nat :=
  if st = stOK then cur
  else if cur = stOK ∨ cur = stPoison ∨ cur = stLinkDown then st
  else cur

/-- A write of a STREAM_COPY is answered with `status`, or not in time (R281, R357). -/
def copyReply (s : State) (t : Txn) (status : Nat) : State :=
  (queuesOf s t.part).foldl (fun s q => modQ s q (fun x => { x with
    live := x.live.map (fun i => match i.waits with
      | .remote tags => if tags.contains t.tag then
          { i with
            status := joinStatus i.status status
            waits := if (tags.erase t.tag).isEmpty then .done else .remote (tags.erase t.tag) }
        else i
      | _ => i) })) s

def writeAck (a : Arrival) (s : State) : State :=
  match findTxn s a.msg [0, 4, 5, 7] with
  | none => lateResp s
  | some t => if t.kind = 7 then copyReply (dropTxn s t) t a.msg.status else if t.kind = 0 then hostReply (dropTxn s t) t a.msg.status [] false else drainReply (dropTxn s t) t a.msg.status

def execWriteAck (a : Arrival) (s : State) : Host.Outcome State Fault Refusal := .next (recv 0x02 a (writeAck a) s)

def readResp (a : Arrival) (s : State) : State :=
  let m := a.msg
  match findTxn s m [1, 6] with
  | none => lateResp s
  | some t =>
    if t.kind = 1 then hostReply (dropTxn s t) t m.status m.payload m.poison
    else restoreBytes (dropTxn s t) (if m.status = stOK then some m.payload else none) m.poison

def execReadResp (a : Arrival) (s : State) : Host.Outcome State Fault Refusal := .next (recv 0x04 a (readResp a) s)

def ctlResp (a : Arrival) (s : State) : State :=
  let m := a.msg
  match findTxn s m [2, 3] with
  | none => lateResp s
  | some t => hostReply (dropTxn s t) t m.status (m.payload.take (if t.key ≥ 2 ^ 40 then 4 else 8)) false

def execCtlResp (a : Arrival) (s : State) : Host.Outcome State Fault Refusal := .next (recv 0x07 a (ctlResp a) s)

/-! ### Timeouts (R357, R570) -/

/-- CTL_TIMEOUT in microseconds. -/
def ctlTimeoutUs (s : State) : Nat :=
  if (cfgOf s).parts.isEmpty then 200 else (cfgOf s).parts.foldl (fun m e => max m e.2.remoteTimeoutUs) 0

/-- REMOTE_TIMEOUT: a write of a partition has had no response. A command's ends with LINK_DOWN (R357), a drain's counts as
refused (log 57). -/
def remoteTimeout (tag now : Nat) (s0 : State) : State :=
  let s := advance s0 now
  match s.fabric.txns.find? (fun t => t.tag == tag && (t.kind == 4 || t.kind == 5 || t.kind == 7)) with
  | some t =>
    if elapsed s t.since (((partCfg s t.part).map (·.remoteTimeoutUs)).getD 200) 1000000 then
      (if t.kind = 7 then copyReply (dropTxn s t) t stLinkDown else drainReply (dropTxn s t) t stAborted)
    else s
  | none => s

def execRemoteTimeout (tag now : Nat) (s : State) : Host.Outcome State Fault Refusal := .next (remoteTimeout tag now s)

/-- CTL_TIMEOUT: a request of the host or of the lichen core has had no response. -/
def ctlTimeout (tag now : Nat) (s0 : State) : State :=
  let s := advance s0 now
  match s.fabric.txns.find? (fun t => t.tag == tag && t.kind != 4 && t.kind != 5 && t.kind != 7) with
  | some t =>
    if elapsed s t.since (ctlTimeoutUs s) 1000000 then
      (if t.kind = 6 then restoreBytes (dropTxn s t) none else hostReply (dropTxn s t) t stLinkDown [] false)
    else s
  | none => s

def execCtlTimeout (tag now : Nat) (s : State) : Host.Outcome State Fault Refusal := .next (ctlTimeout tag now s)

/-! ### CTL_WRITE and CTL_READ (R540) -/

def ctlStatus (s : State) (m : Msg) : Nat :=
  if m.addr % 2 ^ 63 ≥ 2 ^ 30 then stBadDesc
  else if m.part < 8 ∧ isHostMsg m = false then stBounds
  else if !devOpen s then stIllegal
  else stOK

def ctlAccess (m : Msg) : Access :=
  ⟨if isHostMsg m then .host m.src else .peer m.src, m.addr % 2 ^ 30, if bitOf m.addr 63 then .w32 else .w64⟩

def ctlWriteMsg (a : Arrival) (s : State) : State :=
  let m := a.msg
  let st := ctlStatus s m
  let s1 := if st = stOK then ctlWriteAt (ctlAccess m) (BitVec.ofNat 64 (leAt m.payload 0 8)) s else s
  respond s1 11 m 0x07 st []

def execCtlWrite (a : Arrival) (s : State) : Host.Outcome State Fault Refusal := .next (recv 0x05 a (ctlWriteMsg a) s)

def ctlReadMsg (a : Arrival) (gap : Nat) (s : State) : State :=
  let m := a.msg
  let st := ctlStatus s m
  if st = stOK then
    let s1 := ctlReadAt (ctlAccess m) gap s
    respond s1 11 m 0x07 st (leBytes 8 s1.lastRead.toNat)
  else respond s 11 m 0x07 st []

def execCtlRead (a : Arrival) (gap : Nat) (s : State) : Host.Outcome State Fault Refusal := .next (recv 0x06 a (ctlReadMsg a gap) s)

/-! ### LAND_WRITE (R363) -/

/-- A payload at byte offset `o` of a sub-ring, cut where the ring wraps. -/
def ringWrites (base size o : Nat) (l : List Byte) (poison : Bool) : List (Nat × List Byte × Bool) :=
  let k := size - o % size
  [(base + o % size, l.take k, poison)] ++ (if l.length ≤ k then [] else [(base, l.drop k, poison)])

/-- The manifest names the sender in a group (log 56). -/
def landGranted (s : State) (m : Msg) : Bool :=
  m.part == 0xF || isHostMsg m || (cfgOf s).groups.any (fun g => g.members.any (fun k => k.dev == m.src && k.part == m.part))

def landWrite (a : Arrival) (s : State) : State :=
  let m := a.msg
  let k := m.src % 16
  if !landGranted s m then respond s 13 m 0x02 stBounds []
  else if (m.part = 0xF ∨ isHostMsg m = true) ∧ devOpen s = false then respond s 13 m 0x02 stIllegal []
  else if !isStipe s || getF s FAB_HDMA_CTRL_ENABLE == 0 || (m.addr != 0 && tblFind s.fabric.landNext k != some m.addr) then
    respond s 13 m 0x02 stLinkDown []
  else
    let n := m.payload.length
    let size := 2 ^ getF s FAB_HDMA_CTRL_LOG2_SUB
    let wr := getF s FAB_HDMA_PTR_WR k
    let s1 := setF { s with fabric := { s.fabric with
        dma := s.fabric.dma ++ ringWrites (getF s FAB_HDMA_BASE_BASE + k * size) size wr m.payload m.poison
        landNext := tblPut s.fabric.landNext k (some (m.addr + n)) } } FAB_HDMA_PTR_WR k (wr + n)
    let ack : Msg := { dst := m.src, part := m.part, mtype := 0x02, flags := if isHostMsg m then 4 else 0, tag := m.tag }
    releaseAcks { s1 with fabric := { s1.fabric with heldAcks := s1.fabric.heldAcks ++ [(k, n, ⟨13, 0, ack, .none⟩)] } }

def execLandWrite (a : Arrival) (s : State) : Host.Outcome State Fault Refusal := .next (recv 0x08 a (landWrite a) s)

/-! ### Multicast (R358, R359) -/

/-- The tree of the message's group takes it: every port of this device's entry has a credit. -/
def treeReady (s : State) (a : Arrival) : Bool := mcastReady s ⟨a.vc, arrivalClass a, a.msg, .none⟩

/-- The message goes on by every port of the entry. -/
def mcastOn (a : Arrival) (s : State) : State :=
  let ports := mcastPorts s a.msg.dst
  if ports.isEmpty then s
  else if a.msg.hops + 1 > 7 then bump s FAB_MSG_EVENTS_HOP_EXCEEDED 0 1
  else ports.foldl (fun s p => queueOn s p ⟨a.vc, arrivalClass a, { a.msg with hops := a.msg.hops + 1 }, .none⟩) s

/-- MCAST_WRITE: the copies go on, and the payload enters the receive region's INCOMING slot (R31, R358; log 103). -/
def mcastWrite (a : Arrival) (s0 : State) : State :=
  let s := mcastOn a s0
  let m := a.msg
  match mcastEntry s m.dst with
  | none => mcastReject s
  | some e =>
    if m.src ≠ e.root then mcastReject s
    else if !e.localRx then s
    else stageBytes s e m.addr m.payload m.poison

/-- A multicast row takes place once the tree is ready. -/
def recvTree (mtype : Nat) (a : Arrival) (body : State → State) (s : State) : State :=
  if isMcast a.msg && treeReady s a then recv mtype a body s else s

def execMcastWrite (a : Arrival) (s : State) : Host.Outcome State Fault Refusal := .next (recvTree 0x09 a (mcastWrite a) s)

/-- MCAST_FENCE ends a copy (R359). -/
def mcastFence (a : Arrival) (s0 : State) : State :=
  let s := mcastOn a s0
  let m := a.msg
  match mcastEntry s m.dst with
  | none => mcastReject s
  | some e =>
    if m.src ≠ e.root then mcastReject s
    else if !e.localRx then s
    else
      let version := leAt m.payload 0 8
      let got := (mcastRx s m.dst).bytes
      let same := decide (got = leAt m.payload 8 8)
      sendMsg (endCopy s e version (leAt m.payload 8 8)) 13
        { dst := e.root, part := m.part, mtype := 0x0B, tag := m.tag, status := if same then stOK else stLinkDown
          payload := leBytes 8 version ++ leBytes 8 got }

def execMcastFence (a : Arrival) (s : State) : Host.Outcome State Fault Refusal := .next (recvTree 0x0A a (mcastFence a) s)

/-- MCAST_DONE: a receiver has answered the root. The fence's TAG, which the answer copies, is the group (log 55). -/
def mcastDone (a : Arrival) (s : State) : State :=
  let m := a.msg
  match (List.range 8).find? (fun p => match (getPart s p).drain with
      | some d => d.version == leAt m.payload 0 8 && p == m.part && d.dests.any (fun y => y.dest == .rollout m.tag && y.await.contains m.src)
      | none => false) with
  | none => lateResp s
  | some p =>
    match (getPart s p).drain with
    | some d => setDest s p d (.rollout m.tag) (fun y => { y with await := y.await.erase m.src })
    | none => s

def execMcastDone (a : Arrival) (s : State) : Host.Outcome State Fault Refusal := .next (recv 0x0B a (mcastDone a) s)

/-! ### HOST_REQUEST (R361, R362, R541) -/

/-- What a BAR's address reaches: a control-space offset of a device, an HBM address of a device, or nothing. -/
inductive HostTarget where
  | control (dev off : Nat)
  | memory (dev addr : Nat)
  | unsupported
  deriving DecidableEq, Repr

def hostTarget (s : State) (r : HostReq) : HostTarget :=
  let own := s.fabric.addr.getD 0
  match r.bar with
  | 0 => if r.addr < 2 ^ 30 then .control own r.addr else .unsupported
  | 2 => if r.addr < 2 ^ 34 then .control (own / 16 * 16 + r.addr / 2 ^ 30) (r.addr % 2 ^ 30) else .unsupported
  | 4 =>
    let w := r.addr / 2 ^ 34
    let o := r.addr % 2 ^ 34
    if w ≥ 16 ∨ getF s FAB_HWIN_VALID w = 0 then .unsupported
    else if getF s FAB_HWIN_TYPE w = 1 then
      (if o < 2 ^ 30 then .control (getF s FAB_HWIN_TARGET w) o else .unsupported)
    else .memory (getF s FAB_HWIN_TARGET w) (getF s FAB_HWIN_BASE w * 2 ^ 34 + o)
  | _ => .unsupported

def allEnabled (r : HostReq) : Bool := r.enables.isEmpty || (r.enables.take r.len).all id

/-- The accesses that a control request makes (R541): byte position in the request, and width. -/
def hostAccesses (r : HostReq) (off : Nat) : List (Nat × AccWidth) :=
  if !allEnabled r then [(0, .narrow)]
  else if r.len = 4 ∧ off % 4 = 0 then [(0, .w32)]
  else if r.len = 8 ∧ off % 8 = 0 then [(0, .w64)]
  else if 8 < r.len ∧ r.len ≤ 64 ∧ off % 8 = 0 ∧ r.len % 8 = 0 then (List.range (r.len / 8)).map (fun i => (8 * i, .w64))
  else if r.len = 4 then [(0, .w32)]
  else if r.len = 8 then [(0, .w64)]
  else [(0, .narrow)]

def widthBytes : AccWidth → Nat
  | .w32 => 4
  | _ => 8

def hostValue (r : HostReq) (i : Nat) (w : AccWidth) : W64 := BitVec.ofNat 64 (leAt r.data i (widthBytes w))

/-- A control request to this device's own window. -/
def hostOwnControl (s : State) (r : HostReq) (off : Nat) : State :=
  let as := hostAccesses r off
  let acc (x : Nat × AccWidth) : Access := ⟨.host (s.fabric.addr.getD 0), off + x.1, x.2⟩
  if r.write then as.foldl (fun s x => ctlWriteAt (acc x) (hostValue r x.1 x.2) s) s
  else
    let (s1, bytes) := as.foldl (fun (p : State × List Byte) x =>
      let t := ctlReadAt (acc x) (if x.1 = 0 then r.gap else 0) p.1
      (t, p.2 ++ leBytes (widthBytes x.2) t.lastRead.toNat)) (s, [])
    hostAnswer s1 r.tag 0 (sliceB bytes 0 r.len)

/-- A control request to another device. A narrower or misaligned access fails here (log 63). -/
def hostControl (s : State) (r : HostReq) (dev off : Nat) : State :=
  let as := hostAccesses r off
  let bad (kind : Nat) : State :=
    let s1 := accessError s (.host (s.fabric.addr.getD 0)) off kind
    if r.write then s1 else hostAnswer s1 r.tag 0 (List.replicate r.len 0#8)
  match as with
  | [(_, .narrow)] => bad 0
  | _ =>
    if off % (if r.len = 4 then 4 else 8) ≠ 0 then bad 1
    else hostMessages s r.tag r.write (as.map (fun x =>
      { vc := 11, hc := 0, msg :=
        { dst := dev, mtype := if r.write then 0x05 else 0x06,
          addr := (off + x.1) % 2 ^ 30 + (if x.2 = .w32 then 2 ^ 63 else 0),
          payload := if r.write then leBytes 8 (hostValue r x.1 x.2).toNat else [] } }))

/-- The runs of enabled bytes of a write, cut at 256-byte boundaries of the target: offset and bytes. -/
def enabledRuns (r : HostReq) (addr : Nat) : List (Nat × List Byte) :=
  let on (i : Nat) : Bool := r.enables.isEmpty || r.enables.getD i false
  (List.range r.len).foldl (fun acc i =>
    if !on i then acc
    else
      let b := r.data.getD i 0#8
      match acc.getLast? with
      | some (o, l) => if o + l.length = addr + i ∧ (addr + i) % 256 ≠ 0 then acc.dropLast ++ [(o, l ++ [b])] else acc ++ [(addr + i, [b])]
      | none => [(addr + i, [b])]) []

/-- A window request to HBM of this device. -/
def hostOwnMemory (s : State) (r : HostReq) (addr : Nat) : State :=
  if !hbmRange addr r.len then
    (if r.write then logEvent s 0x0305 4 2 0 none (leBytes 2 (s.fabric.addr.getD 0) ++ leBytes 8 addr ++ leBytes 1 stBounds)
     else hostAnswer s r.tag 1 [])
  else if r.write then (enabledRuns r addr).foldl (fun s x => writeBytes s x.1 x.2 r.poison) s
  else
    let s1 := readUnits s (unitsOf addr r.len)
    hostAnswer s1 r.tag (if rangePoison s1 addr r.len then 3 else 0) (readBytes s1 addr r.len)

def hostMemory (s : State) (r : HostReq) (dev addr : Nat) : State :=
  hostMessages s r.tag r.write (
    if r.write then (enabledRuns r addr).map (fun x =>
      { vc := 12, hc := 0, msg := { dst := dev, mtype := 0x01, addr := x.1, payload := x.2, poison := r.poison } })
    else (cut256 addr (plainBytes (List.replicate r.len 0#8))).map (fun x =>
      { vc := 12, hc := 0, msg := { dst := dev, mtype := 0x03, addr := x.1 + (x.2.length - 1) * 2 ^ 56 } }))

/-- A request that is unsupported: a read gets the completion, a posted write none. -/
def hostUnsupported (s : State) (r : HostReq) : State := if r.write then s else hostAnswer s r.tag 2 []

def hostRequest (r : HostReq) (s : State) : State :=
  if !hostTrained s || s.dev = .off || s.dev = .standby then s
  else if s.dev = .boot then
    (if r.bar = 0 ∧ (hostAccesses r r.addr).all (fun x => admits s (.host 0) ((r.addr + x.1) / 8 * 8)) = true
     then hostOwnControl s r r.addr else hostUnsupported s r)
  else
    match hostTarget s r with
    | .unsupported => hostUnsupported s r
    | .control d o => if d = s.fabric.addr.getD 0 then hostOwnControl s r o else hostControl s r d o
    | .memory d a => if d = s.fabric.addr.getD 0 then hostOwnMemory s r a else hostMemory s r d a

def execHostRequest (r : HostReq) (s : State) : Host.Outcome State Fault Refusal := .next (hostRequest r s)

/-! ### Reduction messages (R374 to R397) -/

/-- The partition that a reduction message is for: the one with the open epoch that it names, in a group that names its
sender; else the lowest that shares a group with the sender (log 30). -/
def redPartition (s : State) (m : Msg) : Option Nat :=
  let own := s.fabric.addr.getD 0
  let shares (p : Nat) : Bool := (cfgOf s).groups.any (fun g =>
    g.members.any (fun k => (k.dev == m.src && k.part == m.part) || k.backup == some (m.src, m.part))
    && g.members.any (fun k => (k.dev == own && k.part == p) || k.backup == some (own, p)))
  match (List.range 8).find? (fun p => shares p && (epochByLow s p (bitsOf m.addr 0 32)).isSome) with
  | some p => some p
  | none => (List.range 8).find? shares

/-- A reduction message arrives, and what it lets the members on this device do is done. A message of a sender that shares
no group with this device has no receiver. -/
def redArrive (m : Msg) (s : State) : State :=
  match redPartition s m with
  | some p => redSettle (redMessage s p m)
  | none => s

def execRedBlocks (a : Arrival) (s : State) : Host.Outcome State Fault Refusal := .next (recv 0x40 a (redArrive a.msg) s)
def execRedResult (a : Arrival) (s : State) : Host.Outcome State Fault Refusal := .next (recv 0x41 a (redArrive a.msg) s)
def execRedNorm (a : Arrival) (s : State) : Host.Outcome State Fault Refusal := .next (recv 0x42 a (redArrive a.msg) s)
def execBackupReq (a : Arrival) (s : State) : Host.Outcome State Fault Refusal := .next (recv 0x43 a (redArrive a.msg) s)
def execCheckOk (a : Arrival) (s : State) : Host.Outcome State Fault Refusal := .next (recv 0x44 a (redArrive a.msg) s)
def execRetractReq (a : Arrival) (s : State) : Host.Outcome State Fault Refusal := .next (recv 0x45 a (redArrive a.msg) s)
def execConfirm (a : Arrival) (s : State) : Host.Outcome State Fault Refusal := .next (recv 0x46 a (redArrive a.msg) s)
def execRetract (a : Arrival) (s : State) : Host.Outcome State Fault Refusal := .next (recv 0x47 a (redArrive a.msg) s)

end Sys2Proof.Machine
end

