-- ==== Sys2Proof/Machine/Startup.lean ====
section
/-! DEFINITION. Power, resets and start-up (R289, R306, R319, R434, R446 to R453, R466, R482, R483, R500, R516, R519, R544,
R552 to R555). -/

namespace Sys2Proof.Machine

/-! ### Leaving SERVICE (R289, R306) -/

/-- The marks of blocks poisoned since the last zeroing of their granule (R411). -/
def forgetBad (s : State) (hit : Nat → Bool) : State :=
  { s with mgmt := { s.mgmt with badBlocks := s.mgmt.badBlocks.filter (fun u => !hit (granuleOf (256 * u))) } }

def zeroStack (s : State) (t : Nat) : State := forgetBad (zeroRange s (t * 2 ^ 36) (2 ^ 36)) (fun g => g / 64 == t)

/-- The device leaves SERVICE, by whatever way: its repairs are logged and their stacks zeroed. -/
def logRepairs (s : State) : State :=
  let s1 := s.mgmt.repairs.foldl (fun s r => logEvent s 0x0204 3 1 r.1 none (sliceB r.2 0 5)) s
  let s2 := (dedupNat (s.mgmt.repairs.map (·.1))).foldl zeroStack s1
  { s2 with mgmt := { s2.mgmt with repairs := [] } }

/-! ### Entries into BOOT, STANDBY and OFF -/

/-- Host requests under way end with Completer Abort (R544, R554). -/
def abortHost (s : State) : State :=
  { s with fabric := { s.fabric with
      hostDone := s.fabric.hostDone ++ (s.fabric.hostOps.filter (fun o => !o.write)).map (fun o => (o.tag, 1, []))
      hostOps := []
      hostQ := []
      txns := s.fabric.txns.filter (fun t => decide (4 ≤ t.kind)) } }

/-- What leaves no trace at an entry into BOOT or STANDBY (R319): partitions, queues, mark counts, ports and messages. -/
def dropWork (s0 : State) : State :=
  let s := abortHost s0
  { s with
    parts := []
    queues := []
    ports := []
    rhzUps := []
    seqUps := []
    fabric := { FabricSt.empty with hostDone := s.fabric.hostDone, dma := s.fabric.dma }
    regs := s.regs.filter (fun e => decide (e.1 < 0x4000) || decide (0x8000 ≤ e.1))
    fronds := (s.fronds.map (fun e => (e.1, { e.2 with slots := [], progs := [], vrun := none, seqLog := [], lockstep := none }))).filter
      (fun e => e.2 != FrondSt.empty)
    shadows := [] }

/-- Entry into STANDBY (R319): HBM and on-chip memories lose their contents (log 15), and the lichen core stops. The log queue is
kept (R478), with the records of the repairs of a SERVICE that is left so (R306). -/
def enterStandby (s0 : State) : State :=
  let s := dropWork (logRepairs s0)
  { s with
    dev := .standby
    mgmt := { MgmtSt.reset with lichen := .reset, queue := s.mgmt.queue, lostNext := s.mgmt.lostNext }
    mem := []
    units := []
    upsets := []
    fronds := [] }

/-- The device works: BOOT, READY or SERVICE. -/
def devOn (s : State) : Bool := decide (s.dev = .boot ∨ s.dev = .ready ∨ s.dev = .service)

def loseWork (s : State) : State := if devOn s then enterStandby s else s

def showPgood (s : State) : State := setF s PWR_STATUS_PGOOD 0 (b2n s.pins.in48)

/-- Entry into BOOT (R319, R441, R448, R516, R544): registers of every class but AUX at their reset values, the port closed,
HOST_MODE taken from the retained copy or from HOST_SEL, test ages and LAST_TEST resumed from the ledger (R413, R545; log
121). -/
def enterBoot (s0 : State) : State :=
  let s1 := resetRegs (dropWork s0) (fun r _ => r.cls != .aux)
  showPgood (noteDies { s1 with
    dev := .boot
    stipe := s1.flash.hostMode.getD s1.pins.hostSel
    cfg := { CfgSt.reset with floor := s1.cfg.floor }
    flash := { s1.flash with boots := s1.flash.boots + 1 }
    mgmt := { MgmtSt.reset with queue := s1.mgmt.queue, lostNext := s1.mgmt.lostNext, ledgerAt := s1.counter }
    dbgPort := { DebugSt.reset with writes := s1.dbgPort.writes }
    power := { PowerSt.reset with dieIdleAt := [] } })

/-- The device enters BOOT at the later of power-good and RESET_N high, once the island is out of reset (R552, R553). That is
where R466's first interval starts. -/
def tryBoot (s : State) : State :=
  if s.dev = .standby ∧ s.island = true ∧ s.pins.in48 = true ∧ s.pins.resetN = true then markEvent (enterBoot s) 0 else s

/-! ### The rails and pins -/

/-- AUX33_ON (R319, R544, R552). -/
def aux33On (s : State) : State :=
  if s.dev = .off then
    { resetRegs s (fun r _ => r.cls == .aux) with
      dev := .standby
      pins := { s.pins with aux33 := true }
      island := false
      counter := 0 }
  else s

def execAux33On (s : State) : Host.Outcome State Fault Refusal := .next (aux33On s)

/-- AUX33_LOSS (R319, R478, R519): the device enters OFF, and the log queue is lost. -/
def aux33Loss (s : State) : State :=
  let s1 := enterStandby s
  { s1 with
    dev := .off
    pins := { s1.pins with aux33 := false }
    island := false
    mgmt := { s1.mgmt with queue := [], lostNext := false } }

def execAux33Loss (s : State) : Host.Outcome State Fault Refusal := .next (aux33Loss s)

/-- ISLAND_RESET_RELEASE (R552): the counter starts. -/
def islandRelease (s : State) : State :=
  if s.dev = .standby ∧ s.island = false then tryBoot { s with island := true, counter := 0 } else s

def execIslandResetRelease (s : State) : Host.Outcome State Fault Refusal := .next (islandRelease s)

/-- POWER_GOOD (R519, R553, R555). -/
def powerGood (hostSel : Bool) (s : State) : State :=
  if s.pins.in48 then s else tryBoot (showPgood { s with pins := { s.pins with in48 := true, hostSel := hostSel } })

def execPowerGood (hostSel : Bool) (s : State) : Host.Outcome State Fault Refusal := .next (powerGood hostSel s)

/-- POWER_GOOD_LOSS (R319, R519). -/
def powerLoss (s : State) : State := showPgood (loseWork { s with pins := { s.pins with in48 := false } })

def execPowerGoodLoss (s : State) : Host.Outcome State Fault Refusal := .next (powerLoss s)

/-- RESET_N (R553). -/
def resetN (high : Bool) (s : State) : State :=
  let s1 := { s with pins := { s.pins with resetN := high } }
  if high then tryBoot s1 else loseWork s1

def execResetN (high : Bool) (s : State) : Host.Outcome State Fault Refusal := .next (resetN high s)

/-- PERST_N (R554): while low it holds the host port in reset. -/
def perstN (high : Bool) (s : State) : State :=
  let s1 := { s with pins := { s.pins with perstN := high } }
  if !high && isStipe s then abortHost s1 else s1

def execPerstN (high : Bool) (s : State) : Host.Outcome State Fault Refusal := .next (perstN high s)

/-! ### The root secret (R500) -/

/-- PUF_RECONSTRUCT: the reconstruction ends, `ok` unless all 8 attempts failed. -/
def pufReconstruct (ok : Bool) (s : State) : State :=
  if s.dev ≠ .boot then s
  else
    let s1 := showSecurity (setF s SEC_STATUS_PUF_FAIL 0 (b2n (!ok)))
    if ok then s1 else raiseCause (logEvent s1 0x0704 7 3 0 none (leBytes 1 8)) 16 3

def execPufReconstruct (ok : Bool) (s : State) : Host.Outcome State Fault Refusal := .next (pufReconstruct ok s)

/-! ### Lichen boot (R434, R449, R482, R483) -/

def getFw (s : State) (k : Nat) : FwSlot := if k = 0 then s.flash.slotA else s.flash.slotB
def setFw (s : State) (k : Nat) (x : FwSlot) : State :=
  { s with flash := if k = 0 then { s.flash with slotA := x } else { s.flash with slotB := x } }

/-- MGT_FW_SLOT_A and MGT_FW_SLOT_B show the slots. -/
def showFw (s : State) : State :=
  let a := s.flash.slotA
  let b := s.flash.slotB
  let s1 := setF (setF (setF s MGT_FW_SLOT_A_VERSION 0 a.version) MGT_FW_SLOT_A_STATE 0 a.state) MGT_FW_SLOT_A_TRIES 0 a.tries
  setF (setF (setF s1 MGT_FW_SLOT_B_VERSION 0 b.version) MGT_FW_SLOT_B_STATE 0 b.state) MGT_FW_SLOT_B_TRIES 0 b.tries

def bootError (s : State) (code : Nat) : State := raiseCause (setF s ANC_BOOT_STATUS_BOOT_ERROR 0 code) 10 6

/-- A TRIAL slot whose three boots reached no READY becomes BAD (R483). -/
def endTrial (s : State) (k : Nat) : State :=
  let x := getFw s k
  if x.state = 3 ∧ x.tries ≥ 3 then
    logEvent (setFw s k { x with state := 5 }) 0x0602 6 2 0 none (leBytes 1 k ++ leBytes 4 x.version ++ leBytes 1 1)
  else s

/-- The candidates in the order of R482. -/
def fwCandidates (s : State) : List Nat :=
  let st (k : Nat) : Nat := (getFw s k).state
  (([0, 1].filter (fun k => st k == 2)) ++ ([0, 1].filter (fun k => st k == 3)) ++ ([0, 1].filter (fun k => st k == 4)) ++
    ([0, 1].filter (fun k => st k == 1)))

/-- The first candidate that verifies; those before it become BAD (R482, R505). -/
def tryFw (ok : Nat → Bool) : List Nat → State → State × Option Nat
  | [], s => (s, none)
  | k :: t, s =>
    let x := getFw s k
    if ok k && decide (s.flash.fwCtr ≤ x.sec) then
      (if x.state = 2 then setFw s k { x with state := 3, tries := 1 }
       else if x.state = 3 then setFw s k { x with tries := x.tries + 1 } else s, some k)
    else tryFw ok t (sigFail (setFw s k { x with state := 5 }) 0)

/-- Step 2 of R449: the copy that verifies and whose SEQUENCE is the counter (R434; log 70). -/
def pickFloor (s : State) (fpA fpB : Bool) : State × Option Floorplan :=
  let now (f : Floorplan) : Bool := f.sequence == s.flash.fpCounter
  let bad := (now s.flash.fpA && !fpA) || (now s.flash.fpB && !fpB)
  let s1 := if bad then sigFail s 2 else s
  if now s.flash.fpA && fpA then (s1, some s.flash.fpA)
  else if now s.flash.fpB && fpB then (s1, some s.flash.fpB)
  else (s1, none)

/-- Step 3 of R449: the failing stage of the persisted image, 0 for an empty slot. Stages 2 and 3 depend on the image and the
device alone, and it passed them before it was persisted. -/
def imageStage (s : State) (signed : Bool) : Option Nat :=
  match s.flash.image with
  | none => some 0
  | some img => if !signed || decide (img.secVer < s.flash.imageCtr) then some 1
    else if (stage4 s img.cfg).isEmpty then none else some 4

/-- The boot image is selected: its link settings act from now on (R453), the whole of it at READY. -/
def selectImage (s : State) (img : StoredImage) : State :=
  let links : ImageCfg := { routing := img.cfg.routing, vcMap := img.cfg.vcMap }
  let s1 := setF { s with cfg := { s.cfg with staged := some img, committed := { StoredImage.builtIn with cfg := links } } }
    ANC_BOOT_STATUS_IMAGE_OK 0 1
  ((List.range 36).filter (fun p => !hostPort s1 p)).foldl enterTrain s1

/-- LICHEN_BOOT: `slotA`, `slotB`, `fpA`, `fpB` and `image` say whether the signatures verify. -/
def lichenBoot (slotA slotB fpA fpB image : Bool) (s0 : State) : State :=
  if s0.dev ≠ .boot ∨ getF s0 ANC_BOOT_STATUS_FW_OK = 1 then s0
  else
    let s := endTrial (endTrial s0 0) 1
    match tryFw (fun k => if k = 0 then slotA else slotB) (fwCandidates s) s with
    | (s1, none) => bootError (showFw s1) 1
    | (s1, some k) =>
      let s2 := setLogRegs (setF (showFw s1) ANC_BOOT_STATUS_FW_OK 0 1)
      let s3 := { s2 with mgmt := { s2.mgmt with fwSlot := k, lichen := .running, workAt := s2.counter, fedAt := s2.counter } }
      match pickFloor s3 fpA fpB with
      | (s4, none) => bootError s4 2
      | (s4, some f) =>
        let s5 := showFloor (setF { s4 with cfg := { s4.cfg with floor := f, floorOk := true } } ANC_BOOT_STATUS_FLOORPLAN_OK 0 1)
        match imageStage s5 image with
        | none => selectImage s5 (s5.flash.image.getD StoredImage.builtIn)
        | some st =>
          let s6 := if st = 1 ∧ image = false then sigFail s5 1 else s5
          selectImage (bootError (logEvent s6 0x0501 0 2 0 none (leBytes 1 st)) 3) StoredImage.builtIn

def execLichenBoot (slotA slotB fpA fpB image : Bool) (s : State) : Host.Outcome State Fault Refusal :=
  .next (lichenBoot slotA slotB fpA fpB image s)

/-! ### HBM training (R289, R451) -/

/-- Stage 3a has ended for a stack. -/
def stackSettled (s : State) (t : Nat) : Bool := getF s HBM_STATUS_TRAINED t == 1 || decide (3 ≤ tblGet 0 s.mgmt.trained t)

/-- HBM_TRAINING_END: an attempt of stack `t` ends. -/
def hbmTrainingEnd (t : Nat) (ok : Bool) (s : State) : State :=
  if s.dev ≠ .boot ∨ getF s ANC_BOOT_STATUS_FW_OK = 0 ∨ 12 ≤ t ∨ stackSettled s t = true then s
  else if ok then zeroStack (setF s HBM_STATUS_TRAINED t 1) t
  else
    let n := tblGet 0 s.mgmt.trained t + 1
    let s1 := { s with mgmt := { s.mgmt with trained := tblPut s.mgmt.trained t (some n) } }
    if n ≥ 3 then bootError (logEvent s1 0x0206 3 3 t none (leBytes 1 n)) 4 else s1

def execHbmTrainingEnd (t : Nat) (ok : Bool) (s : State) : Host.Outcome State Fault Refusal := .next (hbmTrainingEnd t ok s)

/-- GRANULE_ZEROED (R289). -/
def granuleZeroed (g : Nat) (s : State) : State :=
  if s.mgmt.zeroing.contains g then
    forgetBad { zeroRange s (g * 2 ^ 30) (2 ^ 30) with mgmt := { s.mgmt with zeroing := s.mgmt.zeroing.erase g } } (· == g)
  else s

def execGranuleZeroed (g : Nat) (s : State) : Host.Outcome State Fault Refusal := .next (granuleZeroed g s)

/-! ### The boot commit (R450, R452, R483) -/

/-- R483: the running TRIAL slot becomes ACTIVE, and the former ACTIVE slot VALID. -/
def acceptTrial (s : State) : State :=
  let k := s.mgmt.fwSlot
  let x := getFw s k
  if x.state = 3 then
    let o := getFw s (1 - k)
    let s1 := setFw (setFw s k { x with state := 4, tries := 0 }) (1 - k) (if o.state = 4 then { o with state := 1 } else o)
    raiseCounter (logEvent (showFw s1) 0x0602 6 0 0 none (leBytes 1 k ++ leBytes 4 x.version ++ leBytes 1 0)) 1 x.sec
  else s

/-- R450: a partition with a finding stays IDLE. What the persisted image gives it, it owned before (log 71). -/
def bootFindings (s : State) (img : StoredImage) : List (Nat × Finding) :=
  let v := withCfg s img.cfg
  img.cfg.parts.flatMap (fun e => (sortFindings (stage5 v e)).map (fun f => (e.1, f)))

def logFinding (s : State) (x : Nat × Finding) : State :=
  logEvent { s with free := s.free + 1 } 0x0502 0 2 0 (some x.1) (x.2.bytes s.free)

/-- BOOT_COMMIT: the end of stage 3a. -/
def bootCommit (feeds : List FeedRead) (s : State) : State :=
  match s.cfg.staged with
  | none => s
  | some img =>
    if s.dev ≠ .boot ∨ (List.range 12).all (stackSettled s) = false then s
    else
      let fs := bootFindings s img
      let s1 := fs.foldl logFinding s
      let s2 := { applyImage s1 img true (fs.map (·.1)) with dev := .ready }
      let s3 := { s2 with cfg := { s2.cfg with staged := none } }
      let s4 := setF (setF s3 ANC_BOOT_STATUS_HBM_OK 0 1) ANC_BOOT_TIME_READY_TICKS 0 (s3.counter % 2 ^ 32)
      maybeFabricBarrier (acceptTrial s4) feeds

def execBootCommit (feeds : List FeedRead) (s : State) : Host.Outcome State Fault Refusal := .next (bootCommit feeds s)

end Sys2Proof.Machine
end

