-- ==== Sys2Proof/Machine/Partition.lean ====
section
/-! DEFINITION. The device commands that move partitions and the device between states (R317 to R322, R412, R465), and the
in-field tests that they start. -/

namespace Sys2Proof.Machine

/-! ### In-field tests (R412) -/

/-- The physical position of a cushion's spare, while the spare is ready. -/
def spareAt (s : State) (c : Nat) : Option Nat :=
  let k := floorCushion s c
  if k.status = 0 then some (c / 12 * 156 + 13 * (c % 12) + spareOffset k.map) else none

/-- The partition whose cushion a unit lies in. -/
def unitOwner (s : State) (u : Nat) : Option Nat := ownerOfCushion s (unitCushion u)

/-- The units of a partition's test: its enabled fronds and its cushions (log 72). -/
def partUnits (s : State) (p : Nat) : List Nat := (frondsOf s p).map (physOf s) ++ (cushionsOf s p).map (312 + ·)

/-- The units of the device test: every frond including spares, and every cushion. -/
def deviceUnits (s : State) : List Nat :=
  (List.range 24).flatMap (fun c => if cushionPresent s c then
    ((List.range 12).map (fun i => physOf s (12 * c + i))) ++ (spareAt s c).toList ++ [312 + c] else [])

/-! ### Partition commands -/

/-- A command that carries PARTITION (R318) and needs the partition in one of some states (R322). -/
def partBody (ok : PartState → Bool) (act : State → Nat → Verdict) (s : State) (e : List Byte) : Verdict :=
  let p := p8 e 32
  if p > 7 then .reject stBadDesc 0
  else if ok (getPart s p).state then act s p
  else .reject stIllegal 0

/-- A HISTORY slot without a record enters warm-up for HIST_DEPTH steps (R92); a rollout keeps no history (R74). -/
def startWarm (s : State) (p : Nat) : State :=
  if isRollout s p then s else
  modPart s p (fun x => { x with
    hist := (partSlots s p).foldl (fun h k =>
      let y := tblGet HistSt.empty h k.slot
      if k.mode = .history ∧ y.entries = [] ∧ y.warm = 0 then tblSet HistSt.empty h k.slot { y with warm := k.depth } else h)
      x.hist })

/-- PART_START (R320, R465). The first step starts with it, and loaded copies that are spill-full raise their layers (R146). -/
def startPart (s : State) (p : Nat) : Verdict :=
  if bitOf (getF s ANC_BOOT_STATUS_VERIFY_FAIL) p then .reject (tblGet stLinkDown s.mgmt.verify p) 0
  else if !bitOf (getF s ANC_BOOT_STATUS_VERIFIED) p then .reject stIllegal 0
  else
    let s1 := setPartState (logWarm (startWarm s p) p (warmSlots s p) (getF s ANC_STEP_COUNT_STEP p + 1)) p .running
    .ok (setFbState (spillFullStart s1 (startCtx s1 p 0)) p)

def execPartStart (q : QueueId) (n : W32) (s : State) : Host.Outcome State Fault Refusal :=
  .next (runEntry q n (· == 0x48) [(32, 1)] (partBody (· == .loaded) startPart) s)

/-- PART_DRAIN (R320): no further entry issues. -/
def execPartDrain (q : QueueId) (n : W32) (s : State) : Host.Outcome State Fault Refusal :=
  .next (runEntry q n (· == 0x49) [(32, 1)] (partBody (· == .running) (fun s p => .ok (setPartState s p .draining))) s)

/-- PART_ABORT (R320): issued commands end with ABORTED, and every queue's counts become its TAIL. -/
def abortPart (s : State) (p : Nat) : State :=
  let s1 := resetQueues (abortIssued s p) p
  setPartState (modPart s1 p (fun x => { x with epochs := [], early := [], repeats := none })) p .loaded

def execPartAbort (q : QueueId) (n : W32) (s : State) : Host.Outcome State Fault Refusal :=
  .next (runEntry q n (· == 0x4A) [(32, 1)]
    (partBody (fun x => x == .running || x == .draining) (fun s p => .ok (abortPart s p))) s)

/-- PART_TEST (R320, R412): it completes when every unit's test has ended. -/
def testPart (s : State) (p : Nat) : Verdict :=
  let us := partUnits s p
  if us.isEmpty then .ok s
  else .effect (us.foldl startTest (setPartState s p .test)) stOK 0 false .test

def execPartTest (q : QueueId) (n : W32) (s : State) : Host.Outcome State Fault Refusal :=
  .next (runEntry q n (· == 0x4B) [(32, 1)] (partBody (· == .loaded) testPart) s)

/-- PART_CLEAR (R320). -/
def execPartClear (q : QueueId) (n : W32) (s : State) : Host.Outcome State Fault Refusal :=
  .next (runEntry q n (· == 0x4C) [(32, 1)]
    (partBody (· == .faulted) (fun s p => .ok (setPartState (resetQueues s p) p .loaded))) s)

/-- DRAINED_TO_IDLE (R320): every issued command has completed, and every drain has completed or been abandoned. -/
def drainedToIdle (p : Nat) (s : State) : State :=
  if (getPart s p).state = .draining ∧ (queuesOf s p).all (fun q => (getQ s q).live.isEmpty && (getQ s q).again.isEmpty) = true
      ∧ drainDone s p = true then setPartState s p .loaded
  else s

def execDrainedToIdle (p : Nat) (s : State) : Host.Outcome State Fault Refusal := .next (drainedToIdle p s)

/-! ### SERVICE -/

/-- SVC_TEST (R319, R322, R412). -/
def svcTestBody (s : State) (_ : List Byte) : Verdict :=
  if (List.range 8).all (fun p => (getPart s p).state == .idle || (getPart s p).state == .loaded) then
    .effect ((deviceUnits s).foldl startTest { s with dev := .service }) stOK 0 false .test
  else .reject stIllegal 0

def execSvcTest (q : QueueId) (n : W32) (s : State) : Host.Outcome State Fault Refusal :=
  .next (runEntry q n (· == 0x4D) [] svcTestBody s)

/-- SVC_EXIT (R306, R319): repairs are logged and their stacks zeroed; the entry into BOOT discards the device queue, and with
it this entry's own record. -/
def svcExit (q : QueueId) (n : W32) (s : State) : State :=
  let was := (getQ s .device).live.any (fun i => i.opcode == 0x4E)
  let s1 := runEntry q n (· == 0x4E) [] (fun s _ => .ok s) s
  if !was && (getQ s1 .device).live.any (fun i => i.opcode == 0x4E) then enterBoot (logRepairs s1) else s1

def execSvcExit (q : QueueId) (n : W32) (s : State) : Host.Outcome State Fault Refusal := .next (svcExit q n s)

end Sys2Proof.Machine
end

