-- ==== Sys2Proof/Machine/Complete.lean ====
section
/-! DEFINITION. COMMAND_COMPLETE (R281, R323, R324, R568): an issued command completes. -/

namespace Sys2Proof.Machine

/-- What a command does in the instant it completes, beside its record: a fence's actions (R316), a MATMUL's slots (R173), a
GATHER_ADD's count (R186). -/
def completionEffects (s : State) (q : QueueId) (i : Issued) : State :=
  if i.opcode = 1 then
    match queueOwner s q with
    | some p => fenceActions s q p i.param
    | none => s
  else match q with
    | .frond f => if i.opcode = 0x10 then finishSlots s f i.n else s
    | .cushion c => if i.opcode = 0x18 then bump s CSH_GADD_EVENTS_OPS c 1 else s
    | _ => s

/-- The pending COMMIT changes partition `p`'s settings (R321, R439). -/
def commitChanges (s : State) (p : Nat) : Bool :=
  commitPending s && (s.cfg.staged.elim false (fun img => (changedParts s img.cfg).contains p))

/-- A fence with COMMIT_POINT holds its partition until a pending COMMIT that changes it has taken effect (R321; log 41). -/
def heldFence (s : State) (q : QueueId) (i : Issued) : Bool :=
  i.opcode == 1 && bitOf i.param 1 && ((queueOwner s q).elim false (commitChanges s))

/-- A mismatch of the frond or of its follower in entry `n` awaits its repeat (R400, R407). -/
def mismatched (s : State) (q : QueueId) (n : W32) : Bool :=
  match q with
  | .frond f => ((getFrond s f).lockstep.map (·.1)) == some n ||
      (pairedFrond s f && f % 2 == 0 && ((getFrond s (f + 1)).lockstep.map (·.1)) == some n)
  | _ => false

/-- The repeats for which a LAYER_CHECK waits go on as far as they can (R190). -/
def resumeRepeats (s : State) (q : QueueId) (n : W32) : State :=
  match (queueOwner s q).bind (fun p => (getPart s p).repeats.map (fun x => (p, x))) with
  | some (p, x) => if x.q = q ∧ x.n = n then goOn s p x else s
  | none => s

/-- A LAYER_CHECK whose repeats have all run, or are gone with their step. -/
def repeatsOver (s : State) (q : QueueId) (i : Issued) : Bool :=
  i.waits == .repeats && ((queueOwner s q).bind (fun p => (getPart s p).repeats)).all (fun x => x.q != q || x.n != i.n)

/-- Entry `n` completes, where it has issued and waits for nothing more. -/
def commandComplete (q : QueueId) (n : W32) (s0 : State) : State :=
  let s := resumeRepeats s0 q n
  match (getQ s q).live.find? (fun i => i.n == n) with
  | some i =>
    if (i.waits = .done ∨ repeatsOver s q i = true) ∧ heldFence s q i = false ∧ mismatched s q n = false then concludeEntry (completionEffects s q i) q i else s
  | none => s

def execCommandComplete (q : QueueId) (n : W32) (s : State) : Host.Outcome State Fault Refusal :=
  .next (commandComplete q n s)

end Sys2Proof.Machine
end

