-- ==== Sys2Proof/Machine/Mgmt.lean ====
section
/-! DEFINITION. The lichen core, the event log in flash, firmware update, mailbox services and telemetry (R468 to R490, R496,
R497). -/

namespace Sys2Proof.Machine

/-- The lichen core executes firmware: it runs and the debug port has not halted it. -/
def lichenRuns (s : State) : Bool := decide (s.mgmt.lichen = .running) && !s.mgmt.halted

def worked (s : State) : State := { s with mgmt := { s.mgmt with workAt := s.counter } }

/-! ### Mailbox replies (R486 to R490) -/

/-- The twelve data words of a channel. -/
def mbxWords (s : State) (c : Nat) : List W64 := (List.range 12).map (fun k => getReg s (mbxData c k))

/-- The reply of R486, in one action; a peer's goes out as MBX_REPLY (R490). -/
def finishReply (s : State) (c status : Nat) (data : List W64) : State :=
  let ctrl := (getReg s (mbxCtrl c)).toNat
  let s1 := (data.zipIdx).foldl (fun s (v, k) => setReg s (mbxData c k) v) s
  let v := putBits (putBits (putBits ctrl 0 2 2) 8 8 status) 16 16 ((bitsOf ctrl 16 16 + 1) % 65536)
  let s2 := setReg s1 (mbxCtrl c) (BitVec.ofNat 64 v)
  let s3 := worked { s2 with mgmt := { s2.mgmt with mbxOrder := s2.mgmt.mbxOrder.erase c } }
  if c < 16 then raiseCause s3 13 c
  else if c < 32 then
    sendMsg s3 10 { dst := (s.fabric.addr.getD 0) / 16 * 16 + (c - 16), mtype := 0x19, status := status,
                    payload := data.flatMap (fun w => leBytes 8 w.toNat) }
  else s3

/-- A service's reply: DATA0 holds the code, the listed registers the results, and the others what firmware leaves in them (log
73). -/
def reply (s : State) (c status : Nat) (results : List (Nat × W64)) : State :=
  let data := (List.range 12).map (fun k =>
    if k = 0 then getReg s (mbxData c 0)
    else match results.find? (fun r => r.1 == k) with
      | some r => r.2
      | none => Config.replyWord s.free k)
  finishReply { s with free := s.free + 1 } c status data

/-- The service code of a channel's request. -/
def mbxCode (s : State) (c : Nat) : Nat := (getReg s (mbxData c 0)).toNat % 65536

/-- The lichen core serves the request of channel `c`: it runs, the request is the oldest (R569), and names the service. -/
def serves (s : State) (c code : Nat) : Bool :=
  lichenRuns s && s.mgmt.mbxOrder.head? == some c && decide (c < 32) && mbxCode s c == code

def serve (c code : Nat) (body : State → State) (s : State) : State := if serves s c code then body s else s

/-- ECHO (R488). -/
def execEcho (c : Nat) (s : State) : Host.Outcome State Fault Refusal :=
  .next (serve c 0x0000 (fun s => finishReply s c stOK (mbxWords s c)) s)

def mbxWord (s : State) (c k : Nat) : Nat := (getReg s (mbxData c k)).toNat

/-- An address in HBM for `n` bytes, at an alignment (log 74). -/
def hbmTarget (a n align : Nat) : Option Nat :=
  if a % align ≠ 0 then some stBadDesc else if hbmRange a n then none else some stBounds

/-- LOG_COPY (R488). -/
def logCopy (c : Nat) (s : State) : State :=
  let first := mbxWord s c 1
  let count := mbxWord s c 2
  let a := mbxWord s c 3
  if count = 0 ∨ 65536 < count then reply s c stBadDesc []
  else
    let recs := (List.range count).filterMap (fun i => if first + i = 0 then none
      else (findRecord s (first + i)).map (fun r => r.bytes (first + i)))
    match hbmTarget a (64 * recs.length) 64 with
    | some st => reply s c st []
    | none => reply (writeBytes s a recs.flatten) c stOK [(1, BitVec.ofNat 64 recs.length)]

def execLogCopy (c : Nat) (s : State) : Host.Outcome State Fault Refusal := .next (serve c 0x0001 (logCopy c) s)

/-! ### Telemetry (R475) -/

def thermOff (n : Nat) : Nat := MGT_THERM_TEMP.at n
def railOff (n : Nat) : Nat := MGT_RAIL_VOLT.at n

/-- The 1,024 bytes of a frame. -/
def frameBytes (s : State) (frame : Nat) : List Byte :=
  let cool := (getReg s MGT_COOLANT_INLET.off).toNat
  let fault := (List.range 240).any (fun n => bitOf (getReg s (thermOff n)).toNat 32)
  sliceB (leBytes 8 frame ++ leBytes 8 s.counter ++
    (List.range 240).flatMap (fun n => leBytes 2 (getReg s (thermOff n)).toNat) ++
    (List.range 10).flatMap (fun n => leBytes 6 (getReg s (railOff n)).toNat) ++
    leBytes 6 cool ++ leBytes 2 (b2n fault)) 0 1024

/-- A frame goes to the next position of the ring. -/
def writeFrame (s : State) : State :=
  let u := (cfgOf s).understory
  match u.telemBase with
  | none => s
  | some base =>
    let frame := s.mgmt.frames + 1
    let s1 := writeBytes s (base + 1024 * (s.mgmt.frames % max 1 u.telemFrames)) (frameBytes s frame)
    setF { s1 with mgmt := { s1.mgmt with frames := frame } } MGT_TELEM_STATE_FRAME 0 (frame % 2 ^ 48)

/-- TELEMETRY_FRAME (R475, R497). -/
def telemetryFrame (s : State) : State :=
  if (cfgOf s).understory.telemPeriod != 0 && lichenUp s then writeFrame (wakeLichen s) else s

def execTelemetryFrame (s : State) : Host.Outcome State Fault Refusal := .next (telemetryFrame s)

/-- TELEM_NOW (R488). -/
def telemNow (c : Nat) (s : State) : State :=
  if (cfgOf s).understory.telemPeriod = 0 then reply s c stNoResource []
  else
    let s1 := writeFrame s
    reply s1 c stOK [(1, BitVec.ofNat 64 s1.mgmt.frames)]

def execTelemNow (c : Nat) (s : State) : Host.Outcome State Fault Refusal := .next (serve c 0x0002 (telemNow c) s)

/-! ### Other replies -/

/-- ATTEST (R488, R507). -/
def attestService (c : Nat) (s : State) : State :=
  let a := mbxWord s c 5
  let nonce := (List.range' 1 4).flatMap (fun k => leBytes 8 (mbxWord s c k))
  match hbmTarget a 4738 1 with
  | some st => reply s c st []
  | none => reply (writeBytes s a (attestReport s nonce)) c stOK [(1, 4738)]

def execAttest (c : Nat) (s : State) : Host.Outcome State Fault Refusal := .next (serve c 0x0003 (attestService c) s)

/-- The codes of R488 and R509 that a channel's services have. -/
def knownCode (code : Nat) : Bool := decide (code ≤ 3) || (decide (0x10 ≤ code) && decide (code ≤ 0x13))

/-- LICHEN_REPLY: the reply to a request that names no service (R488); the services' replies are those of their own rows. The
operand gives the words that firmware leaves in DATA1 to DATA11. -/
def lichenReply (c status : Nat) (data : List W64) (s : State) : State :=
  if knownCode (mbxCode s c) || status != stBadDesc then s
  else serve c (mbxCode s c) (fun s =>
    finishReply s c stBadDesc (getReg s (mbxData c 0) :: (List.range 11).map (fun k => data.getD k 0))) s

def execLichenReply (c status : Nat) (data : List W64) (s : State) : Host.Outcome State Fault Refusal :=
  .next (lichenReply c status data s)

/-- A record as its 64 bytes give it. -/
def LogRec.ofBytes (b : List Byte) : LogRec where
  type := leAt b 6 2
  ticks := leAt b 8 6
  boot := leAt b 14 2
  source := leAt b 16 1
  part := if bitOf (leAt b 17 1) 3 then some (bitsOf (leAt b 17 1) 0 3) else none
  severity := bitsOf (leAt b 17 1) 4 2
  lost := false
  unitNo := leAt b 18 2
  payload := sliceB (b.drop 24) 0 40

/-- SEQUENCER_LOG_RECORD (R489): the record on the channel of a frond's sequencer enters the log and is answered with OK; or,
while the channel is idle and the sequencer holds a record, that record is sent, anew after ABORTED. -/
def sequencerRecord (c : Nat) (s : State) : State :=
  if c < 32 ∨ 320 ≤ c then s
  else
    let f := c - 32
    let x := getFrond s f
    if bitOf (getReg s (mbxCtrl c)).toNat 0 then
      (if lichenRuns s && s.mgmt.mbxOrder.head? == some c then
        let bytes := (mbxWords s c).flatMap (fun w => leBytes 8 w.toNat)
        let s1 := logEnter (modFrond s f (fun x => { x with seqLog := x.seqLog.drop 1 })) (LogRec.ofBytes bytes)
        finishReply s1 c stOK (mbxWords s c)
      else s)
    else match x.seqLog with
      | r :: _ => seqPost s f r
      | [] => s

def execSequencerLogRecord (c : Nat) (s : State) : Host.Outcome State Fault Refusal := .next (sequencerRecord c s)

/-! ### Receiver resets (R487) -/

/-- A receiver reset of one channel: its data read zero, GO is clear, DONE set and STATUS ABORTED. A peer whose request it ends
gets a reply. -/
def resetChannel (s : State) (c : Nat) : State :=
  let ctrl := (getReg s (mbxCtrl c)).toNat
  let s1 := (List.range 12).foldl (fun s k => setReg s (mbxData c k) 0) s
  let s2 := setReg s1 (mbxCtrl c) (BitVec.ofNat 64 (putBits (putBits ctrl 0 2 2) 8 8 stAborted))
  let s3 := { s2 with mgmt := { s2.mgmt with mbxOrder := s2.mgmt.mbxOrder.erase c } }
  if c < 16 then raiseCause s3 13 c
  else if c < 32 ∧ bitOf ctrl 0 = true then
    sendMsg s3 10 { dst := (s.fabric.addr.getD 0) / 16 * 16 + (c - 16), mtype := 0x19, status := stAborted,
                    payload := List.replicate 96 0 }
  else s3

/-- MAILBOX_RESET: the lichen firmware resets one channel. -/
def mailboxReset (c : Nat) (a : Requester) (s : State) : State :=
  if c < 320 ∧ a = .lichen ∧ lichenRuns s = true then resetChannel s c else s

def execMailboxReset (c : Nat) (a : Requester) (s : State) : Host.Outcome State Fault Refusal := .next (mailboxReset c a s)

/-! ### Sleep, wake and the watchdog (R468, R470) -/

/-- Nothing waits for the lichen core. -/
def lichenIdle (s : State) : Bool :=
  s.mgmt.mbxOrder.isEmpty && s.mgmt.queue.isEmpty && s.mgmt.fwBusy.isNone && s.mgmt.restore.isNone
  && (getQ s .device).live.isEmpty

/-- LICHEN_SLEEP (R468). -/
def lichenSleep (now : Nat) (s0 : State) : State :=
  let s := advance s0 now
  if lichenRuns s && lichenIdle s && elapsed s s.mgmt.workAt (cfgOf s).understory.lichenIdle 10000 then
    { s with mgmt := { s.mgmt with lichen := .asleep } }
  else s

def execLichenSleep (now : Nat) (s : State) : Host.Outcome State Fault Refusal := .next (lichenSleep now s)

/-- LICHEN_WAKE (R468): a wake event finds the core asleep, or the wake that an event began has ended. -/
def lichenWake (s : State) : State :=
  let run (s : State) : State := worked { s with mgmt := { s.mgmt with lichen := .running, fedAt := s.counter } }
  match s.mgmt.lichen with
  | .asleep => if getF s ANC_BOOT_STATUS_FW_OK = 1 then run (bump s MGT_LICHEN_STATE_WAKES 0 1) else s
  | .waking => run s
  | _ => s

def execLichenWake (_ : WakeCause) (s : State) : Host.Outcome State Fault Refusal := .next (lichenWake s)

/-- A CHECK that has not completed ends with ABORTED, and nothing stays staged (R436, R470). -/
def abortCheck (s : State) : State :=
  match (getQ s .device).live.find? (fun i => i.opcode == 0x40) with
  | none => s
  | some i =>
    let s1 := { settleRun s .device i.n stAborted with cfg := { s.cfg with staged := none } }
    bump (setF (setF s1 CFG_STATE_STAGED 0 0) CFG_STAGED_DIGEST_DIGEST 0 0) CFG_EVENTS_CHECK_FAILS 0
      (b2n (decide (i.status = stOK)))

/-- A COMMIT before its instant, and a restore, end with ABORTED (R470, R513). -/
def abortLichenWork (s : State) : State :=
  let s1 := match liveCommit s with
    | some i => (match i.waits with
      | .barrier e => failCommit (match getBarrier s e with
          | some b => dropBarrier (showBarrier s b false) e
          | none => s) i.n stAborted
      | .settle => failCommit s i.n stAborted
      | _ => s)
    | none => s
  failRestore s1 stAborted

/-- What a lichen reset does (R470). -/
def lichenReset (s : State) (cause : Nat) : State :=
  let s1 := abortLichenWork (abortCheck ((List.range 320).foldl resetChannel s))
  let s2 := if s1.dev = .boot then
      setF (setF { s1 with mgmt := { s1.mgmt with lichen := .reset } } ANC_BOOT_STATUS_FW_OK 0 0) MGT_LOG_NEWEST_SEQ 0 0
    else { s1 with mgmt := { s1.mgmt with lichen := .running, fedAt := s1.counter, workAt := s1.counter } }
  let s3 := logEvent (bump { s2 with free := s2.free + 1 } MGT_LICHEN_STATE_RESETS 0 1) 0x0603 6 2 0 none
    (leBytes 1 cause ++ leBytes 4 (Config.lichenPc s2.free))
  raiseCause s3 15 2

/-- WATCHDOG: firmware has not written the watchdog for 32,768 ticks, or asks for the reset itself (R470). It is suspended while
the core is halted (R515). -/
def watchdog (now : Nat) (request : Bool) (s0 : State) : State :=
  let s := advance s0 now
  if lichenRuns s then
    (if request then lichenReset s 1
     else if s.counter - s.mgmt.fedAt ≥ 32768 then lichenReset s 0 else s)
  else s

def execWatchdog (now : Nat) (request : Bool) (s : State) : Host.Outcome State Fault Refusal :=
  .next (watchdog now request s)

/-! ### The log in flash (R478, R479) -/

/-- The erase block, counted without wrapping, that record `n` lies in. -/
def eraseBlock (n : Nat) : Nat := (n - 1) / 4096

/-- Blocks that may be written so far: the 256 of manufacture and those erased since. An erase that is its block's 100,000th
retires it (R479; log 78). -/
def blocksWritable (s : State) : Nat := 256 + min s.flash.erased (99999 * 256)

/-- One record reaches flash. -/
def flushOne (s : State) : State :=
  match s.mgmt.queue with
  | [] => s
  | r :: rest =>
    let n := queueFirstSeq s
    if eraseBlock n < blocksWritable s then
      bump { s with
        mgmt := { s.mgmt with queue := rest }
        flash := { s.flash with log := tblPut s.flash.log n (some r) } } MGT_LOG_EVENTS_WRITTEN 0 1
    else s

/-- LOG_FLUSH (R478): the queued records reach flash. -/
def logFlush (s : State) : State :=
  if lichenRuns s ∧ s.mgmt.queue ≠ [] then
    worked (setLogRegs ((List.range s.mgmt.queue.length).foldl (fun s _ => flushOne s) s))
  else s

def execLogFlush (s : State) : Host.Outcome State Fault Refusal := .next (logFlush s)

/-- LOG_ERASE (R479): the block ahead of the writing position is erased, and its records leave the log. -/
def logErase (s : State) : State :=
  let next := queueFirstSeq s
  if lichenRuns s ∧ blocksWritable s ≤ eraseBlock next + 1 ∧ s.flash.erased < 100000 * 256 then
    setLogRegs { s with flash := { s.flash with
      erased := s.flash.erased + 1
      log := s.flash.log.filter (fun e => eraseBlock e.1 != s.flash.erased) } }
  else s

def execLogErase (s : State) : Host.Outcome State Fault Refusal := .next (logErase s)

/-! ### Firmware update (R481, R484) -/

/-- The header is well formed (R481), and the image lies in HBM (log 74). -/
def fwHeaderOk (a : Nat) (h : List Byte) : Bool :=
  let len := leAt h 16 4
  let sig := leAt h 20 4
  leAt h 0 4 == 0x48574C50 && leAt h 4 2 == 1 && decide (len ≤ 2 ^ 23) && sig % 64 == 0
  && leAt h 24 2 == 0x0768 && leAt h 26 1 == 0xC0 && leAt h 6 2 == 0
  && (h.drop 27).all (· == 0) && hbmRange a len

/-- FW_DONE (R484): the image has been copied and judged; `verified` is the verdict on its signature. -/
def fwDone (verified : Bool) (s : State) : State :=
  match s.mgmt.fwBusy with
  | none => s
  | some (slot, a) =>
    if !lichenRuns s then s
    else
      let h := readBytes s a 128
      let s := readUnits s (unitsOf a (if fwHeaderOk a h then max 128 (leAt h 16 4) else 128))
      let sec := leAt h 12 4
      let st := if !fwHeaderOk a h then stFormat
        else if !verified || decide (sec < s.flash.fwCtr) then stSignature else stOK
      let s0 := worked { s with mgmt := { s.mgmt with fwBusy := none } }
      let s1 := if st = stSignature then sigFail s0 0 else s0
      let x : FwSlot := if st = stOK then
          ⟨leAt h 8 4, sec, 2, 0, some (Config.shake256 (readBytes s a (leAt h 16 4)) 32)⟩
        else ⟨0, 0, 0, 0, none⟩
      let s2 := logEvent (showFw (setFw s1 slot x)) 0x0601 6 (if st = stOK then 0 else 2) 0 none
        (leBytes 1 slot ++ leBytes 4 (leAt h 8 4) ++ leBytes 1 st)
      fwResult s2 st slot

def execFwDone (verified : Bool) (s : State) : Host.Outcome State Fault Refusal := .next (fwDone verified s)

/-! ### Messages of lichen cores (R490, R496) -/

/-- MBX_POST: the request enters the sender's channel, or is refused at once. -/
def mbxPost (a : Arrival) (s : State) : State :=
  let src := a.msg.src
  let own := s.fabric.addr.getD 0
  let c := 16 + src % 16
  let ctrl := (getReg s (mbxCtrl c)).toNat
  if src / 16 ≠ own / 16 ∨ bitOf ctrl 0 = true ∨ bitOf ctrl 1 = true then
    let words := (List.range 12).flatMap (fun k => leBytes 8 (Config.replyWord s.free k).toNat)
    let s1 := sendMsg { s with free := s.free + 1 } 10
      { dst := src, mtype := 0x19, tag := a.msg.tag, status := stNoResource, payload := words }
    bump s1 MBX_CTRL_MBX_REJECT c 1
  else
    let s1 := (List.range 12).foldl (fun s k => setReg s (mbxData c k) (BitVec.ofNat 64 (leAt a.msg.payload (8 * k) 8))) s
    postRequest s1 c

def execMbxPost (a : Arrival) (s : State) : Host.Outcome State Fault Refusal := .next (recv 0x18 a (mbxPost a) s)

/-- MBX_REPLY: firmware receives it; the block keeps nothing of it. -/
def execMbxReply (a : Arrival) (s : State) : Host.Outcome State Fault Refusal := .next (recv 0x19 a id s)

/-- INT_NOTIFY (R496). -/
def intNotify (a : Arrival) (s : State) : State :=
  if isStipe s ∧ a.msg.src / 16 = (s.fabric.addr.getD 0) / 16 ∧ leAt a.msg.payload 0 8 ≠ 0 then
    raiseCause s 17 (a.msg.src % 16)
  else s

def execIntNotify (a : Arrival) (s : State) : Host.Outcome State Fault Refusal := .next (recv 0x1A a (intNotify a) s)

/-! ### Calibration (R497) -/

/-- SENSOR_CALIBRATION: each sensor in turn, holding its last value. The sensors are those of R471: 240 thermal, 10 rails, two
coolant temperatures and the flow. -/
def sensorCalibration (s : State) : State :=
  if lichenUp s then
    wakeLichen { s with mgmt := { s.mgmt with calNext := (s.mgmt.calNext + 1) % 253 } }
  else s

def execSensorCalibration (s : State) : Host.Outcome State Fault Refusal := .next (sensorCalibration s)

/-- SERDES_CALIBRATION: the next UP port. -/
def serdesCalibration (s : State) : State :=
  let later := (List.range 36).map (fun i => (s.mgmt.serdesNext + i) % 36)
  match later.find? (fun p => decide ((getPort s p).state = .up)) with
  | some p =>
    if lichenUp s then
      wakeLichen { s with mgmt := { s.mgmt with serdesNext := (p + 1) % 36 } }
    else s
  | none => s

def execSerdesCalibration (s : State) : Host.Outcome State Fault Refusal := .next (serdesCalibration s)

end Sys2Proof.Machine
end

