-- ==== Sys2Proof/Machine/Security.lean ====
section
/-! DEFINITION. The services of the security block and the debug port (R500 to R517). -/

namespace Sys2Proof.Machine

/-! ### Services (R509) -/

/-- A service of host channels; on another channel the code gets BAD_DESCRIPTOR. -/
def hostService (c code : Nat) (body : State → State) (s : State) : State :=
  serve c code (fun s => if c < 16 then body s else reply s c stBadDesc []) s

/-- PROVISIONED (R517). The key identifier is that of the identity key (log 76). -/
def provisioned (s : State) : State := raiseCause (logEvent (showSecurity s) 0x0705 7 0 0 none (keyIdent s)) 16 4

/-- A signature block whose length field exceeds 1,280 fails (R504). -/
def blockOk (b : List Byte) (verified : Bool) : Bool := verified && decide (leAt b 0 2 ≤ 1280)

/-- PROVISION: `verified` is the verdict on the certificate for the present serial number and key. -/
def provision (c : Nat) (verified : Bool) (s : State) : State :=
  let a := mbxWord s c 1
  match hbmTarget a 1282 1 with
  | some st => reply s c st []
  | none =>
    let cert := readBytes s a 1282
    let s := readUnits s (unitsOf a 1282)
    if blockOk cert verified then
      reply (provisioned { s with flash := { s.flash with certified := true, opened := false, cert := cert } }) c stOK []
    else reply (sigFail s 3) c stSignature []

def execProvision (c : Nat) (verified : Bool) (s : State) : Host.Outcome State Fault Refusal :=
  .next (hostService c 0x0010 (provision c verified) s)

/-- OWNER_KEY: the new key must be signed with the installed one, if any. -/
def ownerKeyService (c : Nat) (verified : Bool) (s : State) : State :=
  let a := mbxWord s c 1
  let signed := s.flash.ownerKey.isSome
  match hbmTarget a (if signed then 1793 + 1282 else 1793) 1 with
  | some st => reply s c st []
  | none =>
    let s := readUnits s (unitsOf a (if signed then 1793 + 1282 else 1793))
    if !signed || blockOk (readBytes s (a + 1793) 1282) verified then
      reply (provisioned { s with flash := { s.flash with ownerKey := some (readBytes s a 1793) } }) c stOK []
    else reply (sigFail s 4) c stSignature []

def execOwnerKey (c : Nat) (verified : Bool) (s : State) : Host.Outcome State Fault Refusal :=
  .next (hostService c 0x0011 (ownerKeyService c verified) s)

/-- SEAL (R503, R509). -/
def sealService (c : Nat) (s : State) : State :=
  let slot := mbxWord s c 1
  if pufFailed s then reply s c stNoResource []
  else if 64 ≤ slot then reply s c stBounds []
  else
    let secret := (List.range' 2 4).flatMap (fun k => leBytes 8 (mbxWord s c k))
    let bound := if bitOf (mbxWord s c 6) 32 then sliceB s.cfg.committed.digest 0 8 else []
    let s1 := { s with flash := { s.flash with
      sealedAt := tblPut s.flash.sealedAt slot (some (secret, bound, mbxWord s c 6 % 2 ^ 32)) } }
    reply (showSecurity s1) c stOK []

def execSealSecret (c : Nat) (s : State) : Host.Outcome State Fault Refusal :=
  .next (hostService c 0x0012 (sealService c) s)

/-- UNSEAL (R503, R509). -/
def unsealService (c : Nat) (s : State) : State :=
  let a := mbxWord s c 2
  if pufFailed s then reply s c stNoResource []
  else match tblFind s.flash.sealedAt (mbxWord s c 1) with
    | none => reply s c stBounds []
    | some (secret, bound, least) =>
      match hbmTarget a 32 64 with
      | some st => reply s c st []
      | none =>
        if least ≤ s.flash.fwCtr ∧ (bound = [] ∨ bound = sliceB s.cfg.committed.digest 0 8) then
          reply (writeBytes s a secret) c stOK []
        else reply s c stSignature []

def execUnsealSecret (c : Nat) (s : State) : Host.Outcome State Fault Refusal :=
  .next (hostService c 0x0013 (unsealService c) s)

/-! ### The test access port (R510)

A scan shifts a data register: `tdo` holds the bits shifted out, least significant first. An instruction that is not available
behaves as BYPASS. -/

def bitsLsb (w v : Nat) : List Bool := (List.range w).map (bitOf v)

def bytesBits (b : List Byte) : List Bool := b.flatMap (fun x => bitsLsb 8 x.toNat)

def setDebug (s : State) (f : DebugSt → DebugSt) : State := { s with dbgPort := f s.dbgPort }

/-- Bits pass through the 1-bit bypass register. -/
def bypassScan (v : List Bool) (s : State) : State :=
  setDebug s (fun d => { d with tdo := (d.bypass :: v).take v.length, bypass := v.getLast?.getD d.bypass })

/-- The port answers while the device has auxiliary power. -/
def portPowered (s : State) : Bool := decide (s.dev ≠ .off)

/-- A scan of an instruction marked open (R510). -/
def openScan (shifted : List Bool) (act : State → State) (s : State) : State :=
  if !portPowered s then s else if s.dbgPort.opened then act s else bypassScan shifted s

def execBypass (tdi : Bool) (s : State) : Host.Outcome State Fault Refusal :=
  .next (if portPowered s then bypassScan [tdi] s else s)

/-- IDCODE: 0xC076_809B. -/
def execIdcode (s : State) : Host.Outcome State Fault Refusal :=
  .next (if portPowered s then setDebug s (fun d => { d with tdo := bitsLsb 32 0xC076809B }) else s)

/-- What the boundary register captures is shifted out, and the operand is shifted in (log 77). -/
def boundaryScan (v : List Bool) (s : State) : State :=
  setDebug { s with free := s.free + 1 } (fun d => { d with tdo := Config.boundarySample s.free, boundary := v })

def execSamplePreload (v : List Bool) (s : State) : Host.Outcome State Fault Refusal :=
  .next (if portPowered s then boundaryScan v s else s)

/-- EXTEST: the boundary register drives the outputs. -/
def execExtest (v : List Bool) (s : State) : Host.Outcome State Fault Refusal :=
  .next (openScan v (fun s => setDebug (boundaryScan v s) (fun d => { d with outputs := v })) s)

/-- DBG_CHALLENGE (R511). -/
def dbgChallenge (s : State) : State :=
  if devOn s then
    let nonce := sliceB (Config.freshNonce s.free) 0 32
    setDebug { s with free := s.free + 1 } (fun d => { d with nonce := some nonce, tdo := bytesBits nonce })
  else s

def execDbgChallenge (s : State) : Host.Outcome State Fault Refusal := .next (dbgChallenge s)

/-! ### Opening the port (R511 to R513) -/

/-- Step 1 (R513). -/
def openStates (s : State) : State :=
  let s1 := abortLichenWork s
  if s1.dev = .ready then
    (List.range 8).foldl (fun s p =>
      if (getPart s p).state = .running ∨ (getPart s p).state = .draining then enterFaulted s p stAborted else s)
      { s1 with dev := .service }
  else s1

/-- Steps 2 and 3: the sealed key store is empty, and the identity is new and not certified. The new root secret is there (log
79). -/
def renewIdentity (s : State) : State :=
  setF { s with flash := { s.flash with sealedAt := [], enrol := s.flash.enrol + 1, certified := false, cert := [] } }
    SEC_STATUS_PUF_FAIL 0 0

/-- A token verifies: the port opens (R512). Step 4 signs the floorplan record again where it stands and changes no counter
(R506; log 91). -/
def openPort (s : State) : State :=
  let before := devCode s.dev
  let s1 := renewIdentity (openStates s)
  let s2 := showSecurity (setDebug { s1 with flash := { s1.flash with opened := true } } (fun d => { d with opened := true }))
  raiseCause (logEvent (setF s2 SEC_STATUS_PORT_OPEN 0 1) 0x0701 7 2 0 none (leBytes 1 before)) 16 0

/-- A token fails (R505, R511). -/
def rejectToken (s : State) : State :=
  let n := getF s SEC_STATUS_UNLOCK_FAILS + 1
  let s1 := setF s SEC_STATUS_UNLOCK_FAILS 0 n
  let s2 := if 8 ≤ n then setF s1 SEC_STATUS_LOCKED 0 1 else s1
  raiseCause (raiseCause (logEvent s2 0x0702 7 2 0 none (leBytes 1 n)) 16 1) 16 2

/-- DBG_UNLOCK (R511): `verified` is the verdict on the token over the nonce last captured, the serial number and the tag. -/
def dbgUnlock (token : List Byte) (verified : Bool) (s : State) : State :=
  if !devOn s || getF s SEC_STATUS_LOCKED == 1 then s
  else
    let fresh := s.dbgPort.nonce.isSome
    let s1 := setDebug s (fun d => { d with nonce := none })
    if fresh && blockOk token verified then openPort s1 else rejectToken s1

def execDbgUnlock (token : List Byte) (verified : Bool) (s : State) : Host.Outcome State Fault Refusal :=
  .next (dbgUnlock token verified s)

/-! ### Debug commands (R514, R515) -/

/-- The result of a command. -/
def dbgDone (err : Bool) (s : State) : State := setDebug s (fun d => { d with done := true, error := err })

/-- The bits of a DBG_CMD: OP, SPACE, INDEX and ADDRESS. -/
def cmdBits (op space index addr : Nat) : List Bool :=
  bitsLsb 64 (op % 256 + space % 4 * 2 ^ 8 + index % 4 * 2 ^ 10 + addr % 2 ^ 48 * 2 ^ 16)

/-- A DBG_CMD while the port is open: on the lichen core, or on the pair of a queue number; any other target gives ERROR. -/
def dbgCmd (bits : List Bool) (core : State → State) (pair : Nat → State → State) (s : State) : State :=
  openScan bits (fun s =>
    if s.dbgPort.target = 0 then core s
    else if s.dbgPort.target ≤ 320 then pair (s.dbgPort.target - 1) s
    else dbgDone true s) s

/-- DBG_SEL. -/
def execDbgSel (target : Nat) (s : State) : Host.Outcome State Fault Refusal :=
  .next (openScan (bitsLsb 16 target) (fun s => setDebug s (fun d => { d with target := target % 65536 })) s)

/-- DBG_DATA: an update supplies write data; a capture returns the result with DONE and ERROR. -/
def execDbgData (write : Bool) (v : W64) (s : State) : Host.Outcome State Fault Refusal :=
  .next (openScan (bitsLsb 66 v.toNat) (fun s => setDebug s (fun d =>
    if write then { d with wrData := v }
    else { d with tdo := bitsLsb 64 d.rdData.toNat ++ [d.done, d.error] })) s)

def setLichenHalt (h : Bool) (s : State) : State :=
  { s with mgmt := { s.mgmt with halted := h, fedAt := if h then s.mgmt.fedAt else s.counter } }

def execHalt (s : State) : Host.Outcome State Fault Refusal :=
  .next (dbgCmd (cmdBits 1 0 0 0) (fun s => dbgDone false (setLichenHalt true s))
    (fun q s => dbgDone false (setDebug s (fun d => { d with
      halted := dedupNat (d.halted ++ [q])
      stepping := d.stepping.filter (· != q) }))) s)

def execRun (s : State) : Host.Outcome State Fault Refusal :=
  .next (dbgCmd (cmdBits 2 0 0 0) (fun s => dbgDone false (setLichenHalt false s))
    (fun q s => dbgDone false (setDebug s (fun d => { d with
      halted := d.halted.filter (· != q)
      stepping := d.stepping.filter (· != q) }))) s)

/-- STEP: a halted pair issues one command and halts again. A lichen instruction changes nothing that the model holds (log 80). -/
def execStep (s : State) : Host.Outcome State Fault Refusal :=
  .next (dbgCmd (cmdBits 3 0 0 0) (dbgDone false)
    (fun q s => dbgDone false (setDebug s (fun d =>
      if d.halted.contains q then { d with stepping := dedupNat (d.stepping ++ [q]) } else d))) s)

def execBpSet (n : Nat) (addr : Nat) (s : State) : Host.Outcome State Fault Refusal :=
  .next (dbgCmd (cmdBits 4 0 n addr)
    (fun s => dbgDone false (setDebug s (fun d => { d with lichenBps := tblPut d.lichenBps (n % 4) (some (addr % 2 ^ 48)) })))
    (fun q s => if addr % 2 ^ 48 ≥ 2 ^ 32 then dbgDone true s
      else dbgDone false (setDebug s (fun d => { d with bps := tblPut d.bps (4 * q + n % 4) (some (addr % 2 ^ 48)) }))) s)

def execBpClr (n : Nat) (s : State) : Host.Outcome State Fault Refusal :=
  .next (dbgCmd (cmdBits 5 0 n 0)
    (fun s => dbgDone false (setDebug s (fun d => { d with lichenBps := tblPut d.lichenBps (n % 4) none })))
    (fun q s => dbgDone false (setDebug s (fun d => { d with bps := tblPut d.bps (4 * q + n % 4) none }))) s)

/-- A READ's result. -/
def dbgResult (v : W64) (s : State) : State := dbgDone false (setDebug s (fun d => { d with rdData := v }))

/-- READ of the selected space. Lichen SRAM and target state words have no layout (log 11). -/
def dbgReadAt (space addr : Nat) (s : State) : State :=
  match space % 4 with
  | 0 =>
    let s1 := ctlReadAt ⟨.debug, addr % 2 ^ 48, .w64⟩ 0 s
    dbgResult s1.lastRead s1
  | 1 =>
    let a := addr % 2 ^ 48
    if hbmRange a 8 then
      let s1 := readUnits s (unitsOf a 8)
      dbgResult (BitVec.ofNat 64 (readNat s1 a 8)) s1
    else dbgDone true s
  | k => dbgResult (Config.debugWord s.dbgPort.target k (addr % 2 ^ 48) s.dbgPort.writes) s

def execDbgRead (space addr : Nat) (s : State) : Host.Outcome State Fault Refusal :=
  .next (dbgCmd (cmdBits 0x10 space 0 addr) (dbgReadAt space addr) (fun _ => dbgReadAt space addr) s)

/-- WRITE of the selected space. -/
def dbgWriteAt (space addr : Nat) (s : State) : State :=
  let v := s.dbgPort.wrData
  match space % 4 with
  | 0 => dbgDone false (ctlWriteAt ⟨.debug, addr % 2 ^ 48, .w64⟩ v s)
  | 1 =>
    let a := addr % 2 ^ 48
    if hbmRange a 8 then dbgDone false (writeBytes s a (leBytes 8 v.toNat)) else dbgDone true s
  | _ => dbgDone false (setDebug s (fun d => { d with writes := d.writes + 1 }))

def execDbgWrite (space addr : Nat) (s : State) : Host.Outcome State Fault Refusal :=
  .next (dbgCmd (cmdBits 0x11 space 0 addr) (dbgWriteAt space addr) (fun _ => dbgWriteAt space addr) s)

end Sys2Proof.Machine
end

