-- ==== Sys2Proof/Machine/Power.lean ====
section
/-! DEFINITION. Sensors, the governor, thermal and coolant limits, gating (R18, R37, R471 to R474, R519 to R535). -/

namespace Sys2Proof.Machine

def setPower (s : State) (f : PowerSt → PowerSt) : State := { s with power := f s.power }

def powerCfg (s : State) : PowerCfg := (cfgOf s).power

/-! ### Sensors (R471 to R474) -/

/-- A valid sample ends a sensor's fault (log 81). -/
def validSample (n : Nat) (s : State) : State :=
  { s with mgmt := { s.mgmt with faulted := s.mgmt.faulted.filter (· != n) } }

/-- The kind and the index of a sensor, in the rows of R471 (log 81). -/
def sensorKind (n : Nat) : Nat × Nat :=
  if n < 240 then (0, n) else if n < 250 then (1, n - 240) else if n < 252 then (2, n - 250) else (3, 0)

/-- SENSOR_FAULT (R474): 10 consecutive periods have passed without a valid sample. -/
def sensorFault (n : Nat) (s : State) : State :=
  if 253 ≤ n ∨ s.mgmt.faulted.contains n = true then s
  else
    let s1 := { s with mgmt := { s.mgmt with faulted := s.mgmt.faulted ++ [n] } }
    let s2 := if n < 240 then setF s1 MGT_THERM_FAULT n 1 else s1
    raiseCause (logEvent s2 0x0604 6 1 0 none (leBytes 1 (sensorKind n).1 ++ leBytes 2 (sensorKind n).2)) 14 4

def execSensorFault (n : Nat) (s : State) : Host.Outcome State Fault Refusal :=
  .next (if devOn s then sensorFault n s else s)

/-! ### Thermal limits (R526, R527) -/

/-- A TEMP field in sixteenths of a degree. -/
def tempOf (v : Nat) : Int := (BitVec.ofNat 16 v).toInt

def sensorTemp (s : State) (n : Nat) : Int := tempOf (getF s MGT_THERM_TEMP n)

/-- The stages shut down, and the device enters STANDBY as it does on loss of power-good (log 82). -/
def shutDown (s : State) : State := powerLoss s

def thermRec (s : State) (type severity idx temp : Nat) : State :=
  logEvent s type 8 severity 0 none (leBytes 2 idx ++ leBytes 2 temp)

/-- The THERM_WARN end condition. -/
def allCool (s : State) : Bool :=
  (List.range 234).all (fun n => decide (sensorTemp s n ≤ (Int.ofNat (powerCfg s).thermWarn - 3) * 16))
  && (List.range 12).all (fun t => decide (getF s HBM_STATUS_TEMP t ≤ 92))

/-- THERM_WARN is entered. -/
def enterWarn (s : State) (idx temp : Nat) : State :=
  if s.power.warn.isSome then s
  else
    let s1 := setPower s (fun x => { x with warn := some (x.ceiling, 0) })
    raiseCause (thermRec (bump (setF s1 PWR_STATUS_THERM_WARN 0 1) PWR_THERM_EVENTS_WARN_ENTRIES 0 1) 0x0801 1 idx temp) 14 0

/-- The THERM_CRIT hold is entered: no command issues, ballast stops and the floor is 0. -/
def enterCrit (s : State) (idx temp : Nat) : State :=
  if s.power.critHold then s
  else
    let s1 := setPower s (fun x => { x with critHold := true, ballast := false, floor := 0 })
    let s2 := setF (setF s1 PWR_STATUS_CRIT_HOLD 0 1) PWR_LIMITS_FLOOR 0 0
    raiseCause (thermRec (bump s2 PWR_THERM_EVENTS_CRIT_HOLDS 0 1) 0x0802 2 idx temp) 14 1

/-- Both end when every die sensor and stack is cool. -/
def endWarn (s : State) : State :=
  if s.power.warn.isSome && allCool s then
    setF (setF (setPower s (fun x => { x with warn := none, critHold := false, lowSince := none }))
      PWR_STATUS_THERM_WARN 0 0) PWR_STATUS_CRIT_HOLD 0 0
  else s

/-- A thermal sample is stored (R499; log 58). -/
def storeTherm (n t : Nat) (s : State) : State :=
  let top := if tempOf (getF s MGT_THERM_MAX n) < tempOf t then t else getF s MGT_THERM_MAX n
  setPower (setF (setF (setF (validSample n s) MGT_THERM_TEMP n t) MGT_THERM_MAX n top) MGT_THERM_FAULT n 0)
    (fun x => { x with therm := true })

/-- THERMAL_SAMPLE: `t` is the sample as MGT_THERM.TEMP holds it. -/
def thermalSample (n t : Nat) (s0 : State) : State :=
  if 240 ≤ n ∨ devOn s0 = false then s0
  else
    let v := tempOf t
    let s := storeTherm n (t % 65536) s0
    if v ≥ 125 * 16 then
      let s1 := thermRec s 0x0803 3 n t
      shutDown (if 234 ≤ n then logEvent s1 0x0806 8 3 0 none (leBytes 1 (n - 234) ++ leBytes 1 1) else s1)
    else if 234 ≤ n then s
    else
      let k := if v ≥ 110 * 16 then tblGet 0 s.power.hot n + 1 else 0
      let s1 := setPower s (fun x => { x with hot := tblSet 0 x.hot n k })
      let s2 := if v ≥ Int.ofNat (powerCfg s).thermWarn * 16 then enterWarn s1 n t else s1
      endWarn (if 3 ≤ k then enterCrit s2 n t else s2)

def execThermalSample (n t : Nat) (s : State) : Host.Outcome State Fault Refusal := .next (thermalSample n t s)

/-- A record of a thermal condition that no die sensor brought on. -/
def freeTherm (s : State) (act : State → Nat → Nat → State) : State :=
  act { s with free := s.free + 1 } (Config.thermField s.free 0) (Config.thermField s.free 1)

/-- HBM_TEMP_READOUT (R286, R526): `t` in degrees. -/
def hbmTempReadout (k t : Nat) (s : State) : State :=
  if 12 ≤ k ∨ devOn s = false then s
  else
    let v := min t 255
    let s1 := setF (setF s HBM_STATUS_TEMP k v) HBM_STATUS_REFRESH_2X k (b2n (decide (85 < v)))
    let s2 := if 95 ≤ v ∧ s1.power.warn = none then freeTherm s1 enterWarn else s1
    endWarn (if 105 ≤ v ∧ s2.power.critHold = false then freeTherm s2 enterCrit else s2)

def execHbmTempReadout (k t : Nat) (s : State) : Host.Outcome State Fault Refusal := .next (hbmTempReadout k t s)

/-- THERM_CRIT_TIMEOUT (R527): the condition has lasted 1 s at 600 W. -/
def thermCritTimeout (now : Nat) (s0 : State) : State :=
  let s := advance s0 now
  match s.power.lowSince with
  | some t => if s.power.warn.isSome && !s.power.critHold && elapsed s t 1 1 then freeTherm s enterCrit else s
  | none => s

def execThermCritTimeout (now : Nat) (s : State) : Host.Outcome State Fault Refusal := .next (thermCritTimeout now s)

/-! ### Rails (R519, R520) -/

/-- The nominal voltage of a rail in mV: AUX33 has 3.3 V (R519); the others' are free (log 84). -/
def nominal (n : Nat) : Nat := if n = 1 then 3300 else Config.nominalVoltage n

/-- A rail lies more than a part in `k` away from its nominal voltage. -/
def offBy (n volt k : Nat) : Bool :=
  let d := if volt ≤ nominal n then nominal n - volt else volt - nominal n
  decide (nominal n < k * d)

/-- The rails that a group of stages feeds, and the group's rating in tenths of a watt (R520): stages 0 and 1, 2 and 3, 4, 5. -/
def stageRails : Nat → List Nat × Nat
  | 0 => ([2], 20000)
  | 1 => ([3], 20000)
  | 2 => ([4, 5, 9], 6000)
  | _ => ([6, 7, 8], 6000)

def groupOfRail (n : Nat) : Option Nat := (List.range 4).find? (fun g => (stageRails g).1.contains n)

/-- The stage that a record names: one of a group's two is free (log 84). -/
def stageName (s : State) (n : Nat) : Nat :=
  match groupOfRail n with
  | some 2 => 4
  | some 3 => 5
  | some g => 2 * g + Config.shutdownStage s.free % 2
  | none => Config.shutdownStage s.free % 6

def stageRecord (s : State) (n cause : Nat) : State :=
  logEvent { s with free := s.free + 1 } 0x0806 8 3 0 none (leBytes 1 (stageName s n) ++ leBytes 1 cause)

/-- POWER of a sample (R473): for IN48 the product of VOLT and CURR, rounded as the sample has it; else the sample's. -/
def railPower (n volt curr power : Nat) : Nat :=
  if n = 0 then
    let q := volt * curr / 1000
    if volt * curr % 1000 ≠ 0 ∧ power = q + 1 then q + 1 else q
  else power

/-- The consecutive samples, one per 10 µs, of a condition. -/
def countBad (s : State) (key : Nat) (bad : Bool) : State × Nat :=
  let k := if bad then tblGet 0 s.power.railBad key + 1 else 0
  (setPower s (fun x => { x with railBad := tblSet 0 x.railBad key k }), k)

/-- A stage group lies above its rating: its output power is its rails' (R473). -/
def aboveRating (s : State) (g : Nat) : Bool :=
  decide ((stageRails g).2 < (stageRails g).1.foldl (fun v r => v + getF s MGT_RAIL_POWER r) 0)

/-- RAIL_SAMPLE: mV, tenths of an ampere and, for a rail other than IN48, tenths of a watt. -/
def railSample (n volt curr power : Nat) (s0 : State) : State :=
  if 10 ≤ n ∨ devOn s0 = false then s0
  else
    let p := min (railPower n volt curr power) 65535
    let s1 := setF (setF (validSample (240 + n) s0) MGT_RAIL_VOLT n (min volt 65535)) MGT_RAIL_CURR n (min curr 65535)
    let s2 := setF (setF s1 MGT_RAIL_POWER n p) MGT_RAIL_PEAK n (max p (getF s1 MGT_RAIL_PEAK n))
    let bad := if n = 0 then decide (volt < 40000) || decide (60000 < volt) else offBy n volt 20
    let (s3, k) := countBad s2 n bad
    let s4 := if k = (if n = 0 then 100 else 10) then
        raiseCause (bump (logEvent s3 0x0804 8 1 0 none (leBytes 1 n ++ leBytes 2 volt)) PWR_THERM_EVENTS_RAIL_EVENTS 0 1) 14 2
      else s3
    if n ≠ 0 ∧ offBy n volt 10 = true then shutDown (stageRecord s4 n 0)
    else match groupOfRail n with
      | some g =>
        if (stageRails g).1.head? = some n then
          let (s5, m) := countBad s4 (16 + g) (aboveRating s4 g)
          if 100 ≤ m then shutDown (stageRecord s5 n 2) else s5
        else s4
      | none => s4

def execRailSample (n volt curr power : Nat) (s : State) : Host.Outcome State Fault Refusal :=
  .next (railSample n volt curr power s)

/-! ### Coolant (R528) -/

/-- Full flow is driven: while the cause condition holds, and in BOOT until the first thermal samples (R528, R529). -/
def fullFlow (s : State) : Bool :=
  (s.power.capped && s.power.coolGood == 0) || (decide (s.dev = .boot) && !s.power.therm)

/-- The duty of the FLOW_REQ output (R529): low in STANDBY; in OFF the land is not driven. -/
def flowReq (s : State) : Option Nat :=
  match s.dev with
  | .off => none
  | .standby => some 0
  | _ => some (if fullFlow s then 255 else getF s PWR_FLOW_DUTY)

/-- COOLANT_LIMIT: a sample of the coolant sensors. -/
def coolantSample (inlet outlet flow : Nat) (s0 : State) : State :=
  if devOn s0 = false then s0
  else
    let c := powerCfg s0
    let hot := decide (tempOf inlet > Int.ofNat c.inletMax * 16)
    let low := decide (flow < c.flowMin * 10)
    let s1 := validSample 250 (validSample 251 (validSample 252 s0))
    let s2 := setF (setF (setF (setF s1 MGT_COOLANT_INLET 0 inlet) MGT_COOLANT_OUTLET 0 outlet) MGT_COOLANT_FLOW 0 flow)
      MGT_COOLANT_VALID 0 1
    let s3 := setPower s2 (fun x => { x with
      inletBad := if hot then x.inletBad + 1 else 0
      flowBad := if low then x.flowBad + 1 else 0
      coolGood := if hot || low then 0 else x.coolGood + 1 })
    if s3.power.inletBad = 10 ∨ s3.power.flowBad = 10 then
      let s4 := setF (setPower s3 (fun x => { x with capped := true })) PWR_STATUS_COOLANT_CAP 0 1
      let s5 := setF s4 PWR_FLOW_DUTY 0 255
      raiseCause (bump (logEvent s5 0x0805 8 2 0 none (leBytes 2 inlet ++ leBytes 2 flow))
        PWR_THERM_EVENTS_COOLANT_EVENTS 0 1) 14 3
    else if s3.power.capped ∧ 10 ≤ s3.power.coolGood then
      setF (setPower s3 (fun x => { x with capped := false })) PWR_STATUS_COOLANT_CAP 0 0
    else s3

def execCoolantLimit (inlet outlet flow : Nat) (s : State) : Host.Outcome State Fault Refusal :=
  .next (coolantSample inlet outlet flow s)

/-! ### The governor (R522 to R525, R529, R530) -/

/-- The lowest-numbered partition that has completed a STEP_COMMIT, and the counter at its last (R530). -/
def profilePart (s : State) : Option (Nat × Nat) := (List.range 8).findSome? (fun p =>
  (getPart s p).commitAt.head?.map (fun t => (p, t)))

/-- Bin `i` of 64 over a run of windows, oldest first: the sum of power times the windows that fall in the bin, in
sixty-fourths. -/
def profileBin (ws : List Nat) (n i : Nat) : Nat :=
  let lo := i * n
  let hi := (i + 1) * n
  ((ws.zipIdx).drop (lo / 64)).take (n / 64 + 2) |>.foldl (fun v (p, w) =>
    v + p * (min hi (64 * (w + 1)) - max lo (64 * w))) 0

/-- The step profile at a STEP_COMMIT of the profile partition (R530; log 85). -/
def takeProfile (s : State) (x : PowerSt) : PowerSt :=
  match profilePart s with
  | none => x
  | some now =>
    if x.lastStep = some now then x
    else if (x.lastStep.map (·.1)) = some now.1 then
      let n := x.stepWin.length
      { x with
        profile := if n = 0 then [] else (List.range 64).map (profileBin x.stepWin.reverse n)
        profLen := n
        stepWin := []
        lastStep := some now }
    else { x with profile := [], profLen := 0, stepWin := [], lastStep := some now }

/-- The excursion rule (R523). -/
def countExcursion (above : Bool) (x : PowerSt) : PowerSt :=
  if above then { x with excRun := x.excRun + 1, excLeft := if 100 ≤ x.excRun + 1 then 1000 else x.excLeft }
  else { x with excRun := 0, excLeft := if 0 < x.excRun then 999 else x.excLeft - 1 }

/-- C of the next window (R522, R527, R528), in tenths of a watt. IN48 × 100 A is the register's value in mV; without a sample
of IN48 it binds nothing (log 85). -/
def nextCeiling (s : State) (p : Nat) (x : PowerSt) : Nat :=
  let c := powerCfg s
  let volt := getF s MGT_RAIL_VOLT 0
  let terms := [p + c.slewUp, 40000] ++ (if volt = 0 then [] else [volt]) ++ (if 0 < x.excLeft then [c.cap * 10] else []) ++
    (match x.warn with | some (c0, k) => [max 6000 (c0 - 100 * k)] | none => []) ++
    (if x.capped then [c.coolantCap * 10] else [])
  terms.foldl min 40000

/-- F of the next window (R522, R526). -/
def nextFloor (s : State) (p ceiling : Nat) (x : PowerSt) : Nat :=
  let c := powerCfg s
  let busy := (List.range 8).any (fun k => decide ((getPart s k).state = .running))
  if x.critHold then 0
  else min ceiling (max (p - c.slewDown) (if busy then min (c.floor * 10) ceiling else 0))

/-- A frond on which ballast may run (R525). -/
def ballastable (s : State) (f : Nat) : Bool :=
  frondEnabled s f && (match ownerOfFrond s f with
    | some p => decide ((getPart s p).state = .running) && (getQ s (.frond f)).live.isEmpty
    | none => false)

/-- GOVERNOR_WINDOW: a 100 µs window has ended with mean power `p`, in tenths of a watt; whether the governor throttled in it,
the idle kilocycles it inserted by frond, and the kilocycles of ballast by frond. -/
def governorWindow (p : Nat) (throttle : Bool) (held ballast : List (Nat × Nat)) (s : State) : State :=
  if devOn s = false then s
  else
    let c := powerCfg s
    let above := decide (c.cap * 10 < p)
    let spun := if s.power.critHold then [] else ballast.filter (fun e => ballastable s e.1)
    let x0 := takeProfile s s.power
    let x1 := countExcursion above { x0 with
      windows := (p :: x0.windows).take 10000
      stepWin := if x0.lastStep.isSome then p :: x0.stepWin else []
      ballast := !spun.isEmpty
      warn := x0.warn.map (fun w => (w.1, w.2 + 1)) }
    let up := nextCeiling s p x1
    let low := x1.warn.isSome && decide (up ≤ 6000)
    let x2 := { x1 with
      ceiling := up
      floor := nextFloor s p up x1
      lowSince := if low then some (x1.lowSince.getD s.counter) else none }
    let s1 := setPower s (fun _ => x2)
    let s2 := bump (bump (bump s1 PWR_GOV_EVENTS_EXCURSIONS 0 (b2n (above && s.power.excRun == 0)))
      PWR_GOV_EVENTS_FLOOR_SHORT 0 (b2n (decide (p < s.power.floor)))) PWR_GOV_EVENTS_THROTTLE_WINDOWS 0 (b2n throttle)
    let s3 := spun.foldl (fun s e => bump s FRD_PWR_EVENTS_BALLAST_KCYCLES e.1 e.2) s2
    let s4 := if throttle then (held.filter (fun e => frondEnabled s e.1)).foldl (fun s e =>
        bump s FRD_PWR_EVENTS_GOV_HOLD_KCYCLES e.1 e.2) s3 else s3
    let s5 := setF (setF s4 PWR_STATUS_WINDOW_POWER 0 (min p 65535)) PWR_STATUS_AVG_1S 0
      (min 65535 (x2.windows.foldl (· + ·) 0 / max 1 x2.windows.length))
    let s6 := setF (setF (setF s5 PWR_STATUS_THROTTLE 0 (b2n throttle)) PWR_STATUS_BALLAST 0 (b2n x2.ballast))
      PWR_STATUS_EXCURSION 0 (b2n (decide (0 < x2.excLeft)))
    setF (setF s6 PWR_LIMITS_CEILING 0 (x2.ceiling / 10)) PWR_LIMITS_FLOOR 0 (x2.floor / 10)

def execGovernorWindow (p : Nat) (throttle : Bool) (held ballast : List (Nat × Nat)) (s : State) :
    Host.Outcome State Fault Refusal := .next (governorWindow p throttle held ballast s)

/-- The look-ahead (R530), as a numerator over the profile's length. -/
def lookAhead (s : State) : Nat :=
  let x := s.power
  if x.profLen = 0 then 0
  else
    let b0 := 64 * x.stepWin.length / x.profLen
    let b1 := 64 * (x.stepWin.length + 1000 * (powerCfg s).flowLead) / x.profLen
    ((List.range (min 64 (b1 + 1 - b0))).map (fun i => x.profile.getD ((b0 + i) % 64) 0)).foldl max 0

/-- The requested flow in hundredths of a litre per minute (R529), as numerator and denominator. -/
def flowWanted (s : State) : Nat × Nat :=
  let x := s.power
  let c := powerCfg s
  let (a, b) := (x.windows.foldl (· + ·) 0, max 1 x.windows.length)
  let (l, m) := (lookAhead s, max 1 x.profLen)
  let (p, q) := if a * m ≥ l * b then (a, b) else (l, m)
  if c.flowPerKw * p ≥ c.flowMinReq * 10 * (q * 10000) then (c.flowPerKw * p, q * 10000) else (c.flowMinReq * 10, 1)

/-- FLOW_REQ_UPDATE (R529). -/
def flowReqUpdate (s : State) : State :=
  if devOn s = false then s
  else
    let (n, d) := flowWanted s
    let full := (powerCfg s).flowFull * 10
    let duty := min 255 ((255 * n + d * full - 1) / max 1 (d * full))
    let least := if getF s PWR_FLOW_OVERRIDE_ENABLE = 1 then getF s PWR_FLOW_OVERRIDE_DUTY else 0
    let target := n / d + (if n % d ≠ 0 then b2n (Config.flowRoundsUp s.free) else 0)
    setF (setF { s with free := s.free + 1 } PWR_FLOW_DUTY 0 (if fullFlow s then 255 else max duty least))
      PWR_FLOW_TARGET 0 (min 65535 target)

def execFlowReqUpdate (s : State) : Host.Outcome State Fault Refusal := .next (flowReqUpdate s)

/-! ### Gating and wake (R37, R531, R532) -/

/-- The frond whose queue a frond executes: its own, or its leader's (R404). -/
def leaderOf (s : State) (f : Nat) : Nat := if isFollower s f then f - 1 else f

/-- An entry of the frond's queue stands exposed with its marks satisfied (R531, R532). -/
def readyEntry (s : State) (f : Nat) : Bool :=
  let q : QueueId := .frond (leaderOf s f)
  let x := getQ s q
  let met (n : W32) : Bool :=
    let e := entryBytes s q n
    exposed x n && waitMet s q (p16 e 8) (p32 e 16) && waitMet s q (p16 e 10) (p32 e 20)
  decide ((ownerOfFrond s f).elim false (fun p => (getPart s p).state == .running) = true)
  && ((List.range (x.tail - x.issued.floor).toNat).any (fun i => met (x.issued.floor + BitVec.ofNat 32 i))
    || x.redo.any met || x.again.any (fun i => met i.n))

/-- The frond has no work, and no test of it runs. -/
def frondIdle (s : State) (f : Nat) : Bool :=
  !underTest s f && (getQ s (.frond (leaderOf s f))).live.isEmpty && (getFrond s f).vrun.isNone && !readyEntry s f

/-- CLOCK_GATE (R37). The 50 ns lie below the counter's resolution (log 86). -/
def clockGate (f : Nat) (s : State) : State :=
  if frondEnabled s f && (getFrond s f).gate == .awake && frondIdle s f then modFrond s f (fun x => { x with gate := .clock })
  else s

def execClockGate (f : Nat) (s : State) : Host.Outcome State Fault Refusal := .next (clockGate f s)

/-- POWER_GATE (R531): PGATE_IDLE of its partition has passed, no command has its marks satisfied and ballast is not required.
What a gated frond holds is kept. -/
def powerGate (f now : Nat) (s0 : State) : State :=
  let s := advance s0 now
  match (ownerOfFrond s f).bind (partCfg s) with
  | some c =>
    if frondEnabled s f && (getFrond s f).gate != .power && frondIdle s f && !(s.power.ballast && ballastable s f)
        && elapsed s (getFrond s f).idleAt c.pgateIdleUs 1000000 then
      noteDies (modFrond s f (fun x => { x with gate := .power }))
    else s
  | none => s

def execPowerGate (f now : Nat) (s : State) : Host.Outcome State Fault Refusal := .next (powerGate f now s)

/-- PLL_STOP (R531). -/
def pllStop (d now : Nat) (s0 : State) : State :=
  let s := advance s0 now
  if d < 2 ∧ devOn s = true ∧ s.power.pllOff.contains d = false ∧ dieGated s d = true
      ∧ elapsed s (tblGet 0 s.power.dieIdleAt d) (powerCfg s).pllIdle 1000 = true then
    setPower s (fun x => { x with pllOff := x.pllOff ++ [d] })
  else s

def execPllStop (d now : Nat) (s : State) : Host.Outcome State Fault Refusal := .next (pllStop d now s)

/-- FROND_WAKE (R532): prefetch has found a ready entry. A wake from power gating is withheld while it would carry P above C,
which the operand says. -/
def frondWake (f : Nat) (withheld : Bool) (s : State) : State :=
  if frondEnabled s f && readyEntry s f then
    match (getFrond s f).gate with
    | .awake => s
    | .clock => modFrond s f (fun x => { x with gate := .awake })
    | .power => if withheld then s else wakeFrond s f
  else s

def execFrondWake (f : Nat) (withheld : Bool) (s : State) : Host.Outcome State Fault Refusal :=
  .next (frondWake f withheld s)

end Sys2Proof.Machine
end

