-- ==== Sys2Proof/Machine/Reliability.lean ====
section
/-! DEFINITION. Tests, the test ledger, mismatches, the feed ID and patrol scrub (R304, R400, R407, R408, R412 to R415, R418,
R419). -/

namespace Sys2Proof.Machine

/-! ### The test ledger (R413, R497) -/

/-- A physical frond is powered: an enabled one that is not power-gated. -/
def physPowered (s : State) (u : Nat) : Bool :=
  match frondAt s u with
  | some f => !powerGated s f
  | none => s.mgmt.testing.contains u

/-- Every age, and every powered time, is written to the ledger (log 86). -/
def writeLedger (s : State) : State :=
  let secs := (s.counter - s.mgmt.ledgerAt) / 32768
  { s with
    mgmt := { s.mgmt with ledgerAt := s.mgmt.ledgerAt + secs * 32768 }
    flash := { s.flash with
      ages := (List.range 312).foldl (fun l u => tblSet 0 l u (tblGet 0 s.flash.ages u + secs)) s.flash.ages
      powered := (List.range 312).foldl (fun l u =>
        if physPowered s u then tblSet 0 l u (tblGet 0 s.flash.powered u + secs) else l) s.flash.powered } }

/-- TEST_LEDGER: an hour has passed. -/
def testLedger (now : Nat) (s0 : State) : State :=
  let s := advance s0 now
  if lichenUp s && elapsed s s.mgmt.ledgerAt 3600 1 then
    wakeLichen (writeLedger s)
  else s

def execTestLedger (now : Nat) (s : State) : Host.Outcome State Fault Refusal := .next (testLedger now s)

/-! ### Due and overdue fronds (R414) -/

/-- TEST_PERIOD in seconds. -/
def testPeriod (s : State) : Nat := (cfgOf s).redundancy.testPeriod * 3600

/-- A unit that the understory tests: a spare, or a frond or cushion that no partition owns. -/
def understoryUnit (s : State) (u : Nat) : Bool :=
  cushionPresent s (unitCushion u) && ((unitOwner s u).isNone || decide (spareAt s (unitCushion u) = some u))

/-- TEST_DUE: the age of physical frond `u` has reached TEST_PERIOD. In a partition that is RUNNING, DRAINING or FAULTED its test
is deferred, as it is when its partition enters one of these states (`deferTests`). -/
def testDue (u : Nat) (s : State) : State :=
  if 312 ≤ u ∨ s.cfg.floorOk = false ∨ testAge s u < testPeriod s ∨ cushionPresent s (unitCushion u) = false then s
  else
    let s1 := { s with mgmt := { s.mgmt with due := if s.mgmt.due.contains u then s.mgmt.due else s.mgmt.due ++ [u] } }
    match frondAt s u, unitOwner s u with
    | some f, some p =>
      if [PartState.running, .draining, .faulted].contains (getPart s p).state then setF s1 FRD_REL_STATE_TEST_OVERDUE f 1 else s1
    | _, _ => s1

def execTestDue (u : Nat) (s : State) : Host.Outcome State Fault Refusal := .next (testDue u s)

/-- TEST_OVERDUE: the age of an overdue frond has reached twice TEST_PERIOD; once per frond. -/
def testOverdue (u : Nat) (s : State) : State :=
  match frondAt s u with
  | some f =>
    if getF s FRD_REL_STATE_TEST_OVERDUE f = 1 ∧ 2 * testPeriod s ≤ testAge s u ∧ s.mgmt.late.contains u = false then
      let s1 := { s with mgmt := { s.mgmt with late := s.mgmt.late ++ [u] } }
      raiseCause (logEvent s1 0x0403 1 2 f (ownerOfFrond s f) (leBytes 4 (testAge s u))) 11 0
    else s
  | none => s

def execTestOverdue (u : Nat) (s : State) : Host.Outcome State Fault Refusal := .next (if u < 312 then testOverdue u s else s)

/-- The test of a unit needs a wake from power gating: a spare's always, a frond's while it is gated (R18, R25). -/
def testWakes (s : State) (u : Nat) : Bool :=
  decide (u < 312) && (match frondAt s u with | some f => powerGated s f | none => true)

/-- UNDERSTORY_TEST: a scheduled unit's test starts; a cushion's follows those of its fronds (R412). A wake that would carry P
above C is withheld, and the test with it, which the operand says (R18, R532). -/
def understoryTest (u : Nat) (withheld : Bool) (s : State) : State :=
  let after := decide (312 ≤ u) && s.mgmt.testing.any (fun v => decide (v < 312) && unitCushion v == unitCushion u)
  if s.mgmt.due.contains u && !s.mgmt.testing.contains u && understoryUnit s u && !after
      && !(withheld && testWakes s u) then
    startTest { s with mgmt := { s.mgmt with due := s.mgmt.due.erase u } } u
  else s

def execUnderstoryTest (start : TestStart) (s : State) : Host.Outcome State Fault Refusal :=
  .next (understoryTest start.unit start.withheld s)

/-! ### The end of a test (R408, R415) -/

/-- A tested frond of a pair that mismatched (R408): one that passes returns to service, and a pair that passes is
unresolved. -/
def judgePair (s : State) (u : Nat) (pass : Bool) : State :=
  if !s.mgmt.pairs.contains u then s
  else
    let s1 := { s with mgmt := { s.mgmt with
      pairs := s.mgmt.pairs.erase u
      suspect := if pass then s.mgmt.suspect.filter (· != u) else s.mgmt.suspect } }
    match frondAt s1 u with
    | some f =>
      let mate := physOf s1 (if f % 2 = 0 then f + 1 else f - 1)
      if pass && !s1.mgmt.pairs.contains mate && !s1.mgmt.suspect.contains mate then bump s1 ANC_REL_EVENTS_UNRESOLVED 0 1 else s1
    | none => s1

/-- A frond's test passes: its age is 0 and TEST_OVERDUE is clear. -/
def frondPassed (s : State) (u : Nat) : State :=
  let s1 := { s with
    flash := { s.flash with ages := tblSet 0 s.flash.ages u 0 }
    mgmt := { s.mgmt with
      due := s.mgmt.due.filter (· != u)
      late := s.mgmt.late.filter (· != u) } }
  match frondAt s u with
  | some f => setF s1 FRD_REL_STATE_TEST_OVERDUE f 0
  | none => s1

/-- A frond's test fails: it is SUSPECT, and a spare is bad (R415). -/
def frondFailed (s : State) (u : Nat) : State :=
  let c := unitCushion u
  if spareAt s c = some u then
    showFloor { s with cfg := { s.cfg with floor := { s.cfg.floor with
      cushions := s.cfg.floor.cushions.set c { floorCushion s c with status := 2 } } } }
  else { s with mgmt := { s.mgmt with suspect := dedupNat (s.mgmt.suspect ++ [u]) } }

/-- A partition's tests have all ended: it leaves TEST, and its PART_TEST may complete. -/
def settlePart (s : State) (p : Nat) : State :=
  if (getPart s p).state = .test ∧ s.mgmt.testing.any (fun u => unitOwner s u == some p && spareAt s (unitCushion u) != some u) = false then
    let failed := s.mgmt.testFail.contains p
    let s1 := { s with mgmt := { s.mgmt with testFail := s.mgmt.testFail.filter (· != p) } }
    let s2 := if failed then enterFaulted s1 p stCheckFail else setPartState s1 p .loaded
    modQ s2 .device (fun x => { x with live := x.live.map (fun i =>
      if i.opcode = 0x4B ∧ i.param = p ∧ i.waits = .test then { i with waits := .done } else i) })
  else s

/-- The device test has ended. -/
def settleDevice (s : State) : State :=
  if s.mgmt.testing.isEmpty then
    modQ s .device (fun x => { x with live := x.live.map (fun i =>
      if i.opcode = 0x4D ∧ i.waits = .test then { i with waits := .done } else i) })
  else s

/-- A tested frond has no more work: its idle time begins, and one of no partition is power-gated again, as a spare is (R18,
R25). -/
def testGate (s : State) (u : Nat) : State :=
  match (if u < 312 then frondAt s u else none) with
  | some f => noteDies (modFrond s f (fun x => { x with
      idleAt := s.counter, gate := if (ownerOfFrond s f).isSome then x.gate else .power }))
  | none => noteDies s

/-- TEST_COMPLETE: the test of unit `u` ends. -/
def testComplete (u : Nat) (pass : Bool) (s00 : State) : State :=
  if !s00.mgmt.testing.contains u then s00
  else
    let s := testGate { s00 with mgmt := { s00.mgmt with testing := s00.mgmt.testing.filter (· != u) } } u
    let owner := unitOwner s u
    let s0 := { s with mgmt := { s.mgmt with
      testFail := match owner with
        | some p => if !pass && decide ((getPart s p).state = .test) then s.mgmt.testFail ++ [p] else s.mgmt.testFail
        | none => s.mgmt.testFail } }
    let s1 :=
      if u < 312 then
        let s2 := writeLedger s0
        let s3 := bump { s2 with flash := { s2.flash with lastTest := tblPut s2.flash.lastTest u (some (if pass then 1 else 2)) } }
          ANC_REL_EVENTS_TESTS_RUN 0 1
        let s4 := judgePair (if pass then frondPassed s3 u else frondFailed s3 u) u pass
        if owner.isNone ∧ spareAt s4 (unitCushion u) ≠ some u then
          { s4 with mgmt := { s4.mgmt with due := dedupNat (s4.mgmt.due ++ [312 + unitCushion u]) } }
        else s4
      else if pass then s0
      else { s0 with mgmt := { s0.mgmt with badCushions := dedupNat (s0.mgmt.badCushions ++ [u - 312]) } }
    settleDevice (match owner with
      | some p => settlePart s1 p
      | none => s1)

def execTestComplete (u : Nat) (pass : Bool) (s : State) : Host.Outcome State Fault Refusal := .next (testComplete u pass s)

/-! ### Mismatches (R400, R405, R407) -/

/-- LOCKSTEP_MISMATCH: the sequencers of frond `f`, or the pair that it leads, differ in an output of entry `n`. Neither acts; the
repeat follows. -/
def lockstepMismatch (f : Nat) (n : W32) (pair : Bool) (s : State) : State :=
  if frondEnabled s f && (getFrond s f).lockstep.isNone && (!pair || (pairedFrond s f && !isFollower s f))
      && (getQ s (.frond (leaderOf s f))).live.any (fun i => i.n == n) then
    modFrond s f (fun x => { x with lockstep := some (n, pair) })
  else s

def execLockstepMismatch (f : Nat) (n : W32) (pair : Bool) (s : State) : Host.Outcome State Fault Refusal :=
  .next (lockstepMismatch f n pair s)

/-- The record of an outcome (R477). -/
def mismatchRecord (s : State) (f : Nat) (n : W32) (pair permanent : Bool) : State :=
  seqLogEvent s f (mkRec s 0x0402 1 (if permanent then 3 else 1) f (ownerOfFrond s f)
    (leBytes 4 n.toNat ++ leBytes 1 (b2n pair) ++ leBytes 1 (b2n permanent)))

/-- LOCKSTEP_RETRY: the repeat agrees, or disagrees again. -/
def lockstepRetry (f : Nat) (agrees : Bool) (s : State) : State :=
  match (getFrond s f).lockstep with
  | none => s
  | some (n, pair) =>
    let s1 := modFrond s f (fun x => { x with lockstep := none })
    let q : QueueId := .frond (leaderOf s f)
    match (getQ s q).live.find? (fun i => i.n == n) with
    | none => s1
    | some i =>
      let s2 := mismatchRecord s1 f n pair (!agrees)
      if agrees then
        let s3 := bump s2 (if pair then FRD_REL_EVENTS_PAIR_TRANSIENT else FRD_REL_EVENTS_LOCKSTEP_TRANSIENT) f 1
        modQ s3 q (fun x => { x with live := x.live.map (fun y => if y.n = n then { y with status := stMismatchTransient } else y) })
      else
        let us := if pair then [physOf s f, physOf s (f + 1)] else [physOf s f]
        let s3 := bump { s2 with mgmt := { s2.mgmt with
          suspect := dedupNat (s2.mgmt.suspect ++ us)
          pairs := if pair then dedupNat (s2.mgmt.pairs ++ us) else s2.mgmt.pairs } } ANC_REL_EVENTS_PERM_MISMATCH 0 1
        concludeEntry s3 q { i with status := stCheckFail, detail := 0 }

def execLockstepRetry (f : Nat) (agrees : Bool) (s : State) : Host.Outcome State Fault Refusal :=
  .next (lockstepRetry f agrees s)

/-! ### The feed ID (R418, R419, R533) -/

/-- FEED_ID_POLL: `bytes` is what MFR_LOCATION returned, none where the read failed; `feeds` are the buddies' feed IDs as
answered. -/
def feedIdPoll (bytes : Option (List Byte)) (feeds : List FeedRead) (s : State) : State :=
  match bytes with
  | none => s
  | some b =>
    if devOn s = false ∨ (cfgOf s).redundancy.feedImage = true then s
    else
      let new := crc32c b
      let old := getF s ANC_FEED_ID_FEED
      let known := decide (getF s ANC_FEED_ID_SOURCE = 1)
      let s1 := setF (setF s ANC_FEED_ID_FEED 0 new) ANC_FEED_ID_SOURCE 0 1
      if known && decide (new ≠ old) then
        let clash := feeds.any (fun r => r.source && r.feed == new && ((partCfg s r.part).bind (·.buddy)).isSome)
        let s2 := logEvent s1 0x0405 0 (if clash then 2 else 1) 0 none (leBytes 4 old ++ leBytes 4 new ++ leBytes 1 (b2n clash))
        if clash then raiseCause s2 11 1 else s2
      else s1

def execFeedIdPoll (bytes : Option (List Byte)) (feeds : List FeedRead) (s : State) : Host.Outcome State Fault Refusal :=
  .next (feedIdPoll bytes feeds s)

/-! ### Patrol scrub (R304) -/

def blocksPerStack : Nat := 2 ^ 28

/-- The next pass over a stack may begin: SCRUB_PERIOD has passed since the last began (R304; log 105). -/
def scrubDue (s : State) (k : Nat) : Bool :=
  tblGet 0 s.mgmt.scrubAt k != 0 ||
  (match tblFind s.mgmt.scrubSince k with
   | some t => elapsed s t ((cfgOf s).understory.scrubPeriod * 3600) 1
   | none => true)

/-- PATROL_SCRUB: the next block of a stack is read and checked; `up` says how many of the reads fail of themselves, and
whether by an uncorrectable indication of the stack, beside an upset that waits there. -/
def patrolScrub (k : Nat) (up : Upset) (now : Nat) (s0 : State) : State :=
  let s := advance s0 now
  if 12 ≤ k ∨ devOn s = false ∨ getF s HBM_STATUS_TRAINED k = 0 ∨ scrubDue s k = false then s
  else
    let i := tblGet 0 s.mgmt.scrubAt k
    let u := k * blocksPerStack + i
    let w := tblGet Upset.zero s.upsets u
    let x : Upset := if w.reads < up.reads then up else w
    let reads := min 3 (x.reads + 1)
    let s1 := bump { s with upsets := tblSet Upset.zero s.upsets u Upset.zero } HBM_TRAFFIC_ACCESSES k (4 * reads)
    let s2 := if 3 ≤ x.reads then
        hbmPoisoned (bump (poisonUnit s1 u) HBM_ERR_EVENTS_SCRUB_POISONED k 1) u 0x0203 (b2n x.stack)
      else if 0 < x.reads then bump s1 HBM_ERR_EVENTS_RETRY_OK k 1 else s1
    let j := if i + 1 = blocksPerStack then 0 else i + 1
    let s3 := setF { s2 with mgmt := { s2.mgmt with
        scrubAt := tblSet 0 s2.mgmt.scrubAt k j
        scrubSince := if i = 0 then tblPut s2.mgmt.scrubSince k (some s2.counter) else s2.mgmt.scrubSince } }
      HBM_STATUS_SCRUB_PROGRESS k (j / 4096)
    if j = 0 then bump s3 HBM_STATUS_SCRUB_PASSES k 1 else s3

def execPatrolScrub (k : Nat) (find : ScrubFind) (s : State) : Host.Outcome State Fault Refusal :=
  .next (patrolScrub k ⟨find.reads, find.stack⟩ find.now s)

end Sys2Proof.Machine
end

