-- ==== Sys2Proof/Machine/Dispatch.lean ====
section
/-! DEFINITION. Dispatch: one arm per constructor of Instr, each one direct call of that row's meaning. -/

namespace Sys2Proof.Machine

open Sys2Proof

def exec (i : Instr) (s : State) : Host.Outcome State Fault Refusal :=
  match i with
  | .nop q n => Sys2Proof.Machine.execNop q n s
  | .fence q n => Sys2Proof.Machine.execFence q n s
  | .matmul q n => Sys2Proof.Machine.execMatmul q n s
  | .storeTiles q n mb => Sys2Proof.Machine.execStoreTiles q n mb s
  | .layerCheck q n => Sys2Proof.Machine.execLayerCheck q n s
  | .gatherAddFold q n => Sys2Proof.Machine.execGatherAddFold q n s
  | .gatherAddSum q n => Sys2Proof.Machine.execGatherAddSum q n s
  | .vectorRun q n mb whole => Sys2Proof.Machine.execVectorRun q n mb whole s
  | .fusedSoftmax q n mb => Sys2Proof.Machine.execFusedSoftmax q n mb s
  | .sample q n => Sys2Proof.Machine.execSample q n s
  | .loadProgram q n => Sys2Proof.Machine.execLoadProgram q n s
  | .streamCopy q n mb => Sys2Proof.Machine.execStreamCopy q n mb s
  | .update q n => Sys2Proof.Machine.execUpdate q n s
  | .emitOnly q n => Sys2Proof.Machine.execEmitOnly q n s
  | .stepCommit q n => Sys2Proof.Machine.execStepCommit q n s
  | .redTensor q n => Sys2Proof.Machine.execRedTensor q n s
  | .redContrib q n => Sys2Proof.Machine.execRedContrib q n s
  | .redClose q n => Sys2Proof.Machine.execRedClose q n s
  | .check q n inp => Sys2Proof.Machine.execCheck q n inp s
  | .commit q n feeds => Sys2Proof.Machine.execCommit q n feeds s
  | .partStart q n => Sys2Proof.Machine.execPartStart q n s
  | .partDrain q n => Sys2Proof.Machine.execPartDrain q n s
  | .partAbort q n => Sys2Proof.Machine.execPartAbort q n s
  | .partTest q n => Sys2Proof.Machine.execPartTest q n s
  | .partClear q n => Sys2Proof.Machine.execPartClear q n s
  | .svcTest q n => Sys2Proof.Machine.execSvcTest q n s
  | .svcExit q n => Sys2Proof.Machine.execSvcExit q n s
  | .drainedToIdle p => Sys2Proof.Machine.execDrainedToIdle p s
  | .commandComplete q n => Sys2Proof.Machine.execCommandComplete q n s
  | .tail q a width v => Sys2Proof.Machine.execTail q a width v s
  | .resume q a => Sys2Proof.Machine.execResume q a s
  | .skip q a => Sys2Proof.Machine.execSkip q a s
  | .fadd f => Sys2Proof.Machine.execFadd f s
  | .fsub f => Sys2Proof.Machine.execFsub f s
  | .fmul f => Sys2Proof.Machine.execFmul f s
  | .ffma f => Sys2Proof.Machine.execFfma f s
  | .fmin f => Sys2Proof.Machine.execFmin f s
  | .fmax f => Sys2Proof.Machine.execFmax f s
  | .fabs f => Sys2Proof.Machine.execFabs f s
  | .fneg f => Sys2Proof.Machine.execFneg f s
  | .fcmp f => Sys2Proof.Machine.execFcmp f s
  | .sel f => Sys2Proof.Machine.execSel f s
  | .iadd f => Sys2Proof.Machine.execIadd f s
  | .isub f => Sys2Proof.Machine.execIsub f s
  | .imul f => Sys2Proof.Machine.execImul f s
  | .and f => Sys2Proof.Machine.execAnd f s
  | .or f => Sys2Proof.Machine.execOr f s
  | .xor f => Sys2Proof.Machine.execXor f s
  | .shl f => Sys2Proof.Machine.execShl f s
  | .shr f => Sys2Proof.Machine.execShr f s
  | .sar f => Sys2Proof.Machine.execSar f s
  | .icmp f => Sys2Proof.Machine.execIcmp f s
  | .cvt f => Sys2Proof.Machine.execCvt f s
  | .exp2 f => Sys2Proof.Machine.execExp2 f s
  | .log2 f => Sys2Proof.Machine.execLog2 f s
  | .rcp f => Sys2Proof.Machine.execRcp f s
  | .sqrt f => Sys2Proof.Machine.execSqrt f s
  | .rsqrt f => Sys2Proof.Machine.execRsqrt f s
  | .sinpi f => Sys2Proof.Machine.execSinpi f s
  | .cospi f => Sys2Proof.Machine.execCospi f s
  | .fdiv f => Sys2Proof.Machine.execFdiv f s
  | .ld f => Sys2Proof.Machine.execLd f s
  | .st f => Sys2Proof.Machine.execSt f s
  | .bcr f => Sys2Proof.Machine.execBcr f s
  | .bcc f => Sys2Proof.Machine.execBcc f s
  | .perm f => Sys2Proof.Machine.execPerm f s
  | .rand f => Sys2Proof.Machine.execRand f s
  | .coord f => Sys2Proof.Machine.execCoord f s
  | .movi f => Sys2Proof.Machine.execMovi f s
  | .rsum f => Sys2Proof.Machine.execRsum f s
  | .rmax f => Sys2Proof.Machine.execRmax f s
  | .rmin f => Sys2Proof.Machine.execRmin f s
  | .endChunk f => Sys2Proof.Machine.execEndChunk f s
  | .dataFlit p fl => Sys2Proof.Machine.execDataFlit p fl s
  | .controlFlit p fl => Sys2Proof.Machine.execControlFlit p fl s
  | .nullFlit p fl => Sys2Proof.Machine.execNullFlit p fl s
  | .replayTimeout p => Sys2Proof.Machine.execReplayTimeout p s
  | .ident p fl => Sys2Proof.Machine.execIdent p fl s
  | .identTimeout p now => Sys2Proof.Machine.execIdentTimeout p now s
  | .trainAttemptEnd p ok => Sys2Proof.Machine.execTrainAttemptEnd p ok s
  | .linkLoss p lane => Sys2Proof.Machine.execLinkLoss p lane s
  | .portReset p a => Sys2Proof.Machine.execPortReset p a s
  | .forward a => Sys2Proof.Machine.execForward a s
  | .write a => Sys2Proof.Machine.execWrite a s
  | .writeAck a => Sys2Proof.Machine.execWriteAck a s
  | .readReq a => Sys2Proof.Machine.execReadReq a s
  | .readResp a => Sys2Proof.Machine.execReadResp a s
  | .ctlWrite a => Sys2Proof.Machine.execCtlWrite a s
  | .ctlRead a gap => Sys2Proof.Machine.execCtlRead a gap s
  | .ctlResp a => Sys2Proof.Machine.execCtlResp a s
  | .landWrite a => Sys2Proof.Machine.execLandWrite a s
  | .mcastWrite a => Sys2Proof.Machine.execMcastWrite a s
  | .mcastFence a => Sys2Proof.Machine.execMcastFence a s
  | .mcastDone a => Sys2Proof.Machine.execMcastDone a s
  | .remoteTimeout tag now => Sys2Proof.Machine.execRemoteTimeout tag now s
  | .ctlTimeout tag now => Sys2Proof.Machine.execCtlTimeout tag now s
  | .hostRequest r => Sys2Proof.Machine.execHostRequest r s
  | .hdmaPtrRd m a v => Sys2Proof.Machine.execHdmaPtrRd m a v s
  | .redBlocks a => Sys2Proof.Machine.execRedBlocks a s
  | .redResult a => Sys2Proof.Machine.execRedResult a s
  | .redNorm a => Sys2Proof.Machine.execRedNorm a s
  | .backupReq a => Sys2Proof.Machine.execBackupReq a s
  | .checkOk a => Sys2Proof.Machine.execCheckOk a s
  | .retractReq a => Sys2Proof.Machine.execRetractReq a s
  | .confirm a => Sys2Proof.Machine.execConfirm a s
  | .retract a => Sys2Proof.Machine.execRetract a s
  | .redDeadline p e t member now => Sys2Proof.Machine.execRedDeadline p e t member now s
  | .redGiveup p e now => Sys2Proof.Machine.execRedGiveup p e now s
  | .epochLocalFail p e now => Sys2Proof.Machine.execEpochLocalFail p e now s
  | .drainGiveup p dest now => Sys2Proof.Machine.execDrainGiveup p dest now s
  | .drainComplete p t dest => Sys2Proof.Machine.execDrainComplete p t dest s
  | .mbxPost a => Sys2Proof.Machine.execMbxPost a s
  | .mbxReply a => Sys2Proof.Machine.execMbxReply a s
  | .intNotify a => Sys2Proof.Machine.execIntNotify a s
  | .attestReq a => Sys2Proof.Machine.execAttestReq a s
  | .attestResp a verified => Sys2Proof.Machine.execAttestResp a verified s
  | .announce a => Sys2Proof.Machine.execAnnounce a s
  | .routeGossip a feeds => Sys2Proof.Machine.execRouteGossip a feeds s
  | .gossipRunStart feeds => Sys2Proof.Machine.execGossipRunStart feeds s
  | .roundGiveup now feeds => Sys2Proof.Machine.execRoundGiveup now feeds s
  | .barrierJoin a feeds => Sys2Proof.Machine.execBarrierJoin a feeds s
  | .barrierRelease a feeds => Sys2Proof.Machine.execBarrierRelease a feeds s
  | .bootGiveup now feeds => Sys2Proof.Machine.execBootGiveup now feeds s
  | .commitGiveup now => Sys2Proof.Machine.execCommitGiveup now s
  | .startupLate k now => Sys2Proof.Machine.execStartupLate k now s
  | .fabAssign a v => Sys2Proof.Machine.execFabAssign a v s
  | .aux33On => Sys2Proof.Machine.execAux33On s
  | .aux33Loss => Sys2Proof.Machine.execAux33Loss s
  | .islandResetRelease => Sys2Proof.Machine.execIslandResetRelease s
  | .powerGood hostSel => Sys2Proof.Machine.execPowerGood hostSel s
  | .powerGoodLoss => Sys2Proof.Machine.execPowerGoodLoss s
  | .resetN high => Sys2Proof.Machine.execResetN high s
  | .perstN high => Sys2Proof.Machine.execPerstN high s
  | .pufReconstruct ok => Sys2Proof.Machine.execPufReconstruct ok s
  | .lichenBoot slotA slotB fpA fpB image => Sys2Proof.Machine.execLichenBoot slotA slotB fpA fpB image s
  | .hbmTrainingEnd k ok => Sys2Proof.Machine.execHbmTrainingEnd k ok s
  | .bootCommit feeds => Sys2Proof.Machine.execBootCommit feeds s
  | .granuleZeroed g => Sys2Proof.Machine.execGranuleZeroed g s
  | .restore a v => Sys2Proof.Machine.execRestore a v s
  | .restoreEnd p => Sys2Proof.Machine.execRestoreEnd p s
  | .fwUpdate a v => Sys2Proof.Machine.execFwUpdate a v s
  | .fwDone verified => Sys2Proof.Machine.execFwDone verified s
  | .logSel a v => Sys2Proof.Machine.execLogSel a v s
  | .hbmTpGo k a v => Sys2Proof.Machine.execHbmTpGo k a v s
  | .hbmTpDataWrite k a v => Sys2Proof.Machine.execHbmTpDataWrite k a v s
  | .hbmTpDataRead k a => Sys2Proof.Machine.execHbmTpDataRead k a s
  | .clearingRead a gap => Sys2Proof.Machine.execClearingRead a gap s
  | .registerWrite a v => Sys2Proof.Machine.execRegisterWrite a v s
  | .mailboxGo c a v => Sys2Proof.Machine.execMailboxGo c a v s
  | .echo c => Sys2Proof.Machine.execEcho c s
  | .logCopy c => Sys2Proof.Machine.execLogCopy c s
  | .telemNow c => Sys2Proof.Machine.execTelemNow c s
  | .attest c => Sys2Proof.Machine.execAttest c s
  | .provision c verified => Sys2Proof.Machine.execProvision c verified s
  | .ownerKey c verified => Sys2Proof.Machine.execOwnerKey c verified s
  | .sealSecret c => Sys2Proof.Machine.execSealSecret c s
  | .unsealSecret c => Sys2Proof.Machine.execUnsealSecret c s
  | .sequencerLogRecord c => Sys2Proof.Machine.execSequencerLogRecord c s
  | .lichenReply c status data => Sys2Proof.Machine.execLichenReply c status data s
  | .mailboxReset c a => Sys2Proof.Machine.execMailboxReset c a s
  | .lichenSleep now => Sys2Proof.Machine.execLichenSleep now s
  | .lichenWake w => Sys2Proof.Machine.execLichenWake w s
  | .watchdog now request => Sys2Proof.Machine.execWatchdog now request s
  | .logFlush => Sys2Proof.Machine.execLogFlush s
  | .logErase => Sys2Proof.Machine.execLogErase s
  | .thermalSample n t => Sys2Proof.Machine.execThermalSample n t s
  | .thermCritTimeout now => Sys2Proof.Machine.execThermCritTimeout now s
  | .railSample n volt curr power => Sys2Proof.Machine.execRailSample n volt curr power s
  | .coolantLimit inlet outlet flow => Sys2Proof.Machine.execCoolantLimit inlet outlet flow s
  | .sensorFault n => Sys2Proof.Machine.execSensorFault n s
  | .governorWindow mean throttle held ballast => Sys2Proof.Machine.execGovernorWindow mean throttle held ballast s
  | .flowReqUpdate => Sys2Proof.Machine.execFlowReqUpdate s
  | .clockGate f => Sys2Proof.Machine.execClockGate f s
  | .powerGate f now => Sys2Proof.Machine.execPowerGate f now s
  | .pllStop d now => Sys2Proof.Machine.execPllStop d now s
  | .frondWake f withheld => Sys2Proof.Machine.execFrondWake f withheld s
  | .feedIdPoll bytes feeds => Sys2Proof.Machine.execFeedIdPoll bytes feeds s
  | .patrolScrub k find => Sys2Proof.Machine.execPatrolScrub k find s
  | .hbmTempReadout k t => Sys2Proof.Machine.execHbmTempReadout k t s
  | .telemetryFrame => Sys2Proof.Machine.execTelemetryFrame s
  | .sensorCalibration => Sys2Proof.Machine.execSensorCalibration s
  | .serdesCalibration => Sys2Proof.Machine.execSerdesCalibration s
  | .testLedger now => Sys2Proof.Machine.execTestLedger now s
  | .testDue f => Sys2Proof.Machine.execTestDue f s
  | .testOverdue f => Sys2Proof.Machine.execTestOverdue f s
  | .understoryTest start => Sys2Proof.Machine.execUnderstoryTest start s
  | .testComplete f pass => Sys2Proof.Machine.execTestComplete f pass s
  | .lockstepMismatch f n pair => Sys2Proof.Machine.execLockstepMismatch f n pair s
  | .lockstepRetry f agrees => Sys2Proof.Machine.execLockstepRetry f agrees s
  | .dbgChallenge => Sys2Proof.Machine.execDbgChallenge s
  | .dbgUnlock token verified => Sys2Proof.Machine.execDbgUnlock token verified s
  | .dbgSel target => Sys2Proof.Machine.execDbgSel target s
  | .dbgData write v => Sys2Proof.Machine.execDbgData write v s
  | .halt => Sys2Proof.Machine.execHalt s
  | .run => Sys2Proof.Machine.execRun s
  | .step => Sys2Proof.Machine.execStep s
  | .bpSet n addr => Sys2Proof.Machine.execBpSet n addr s
  | .bpClr n => Sys2Proof.Machine.execBpClr n s
  | .dbgRead space addr => Sys2Proof.Machine.execDbgRead space addr s
  | .dbgWrite space addr => Sys2Proof.Machine.execDbgWrite space addr s
  | .extest v => Sys2Proof.Machine.execExtest v s
  | .samplePreload v => Sys2Proof.Machine.execSamplePreload v s
  | .idcode => Sys2Proof.Machine.execIdcode s
  | .bypass tdi => Sys2Proof.Machine.execBypass tdi s
  | .flitTime p => Sys2Proof.Machine.execFlitTime p s

end Sys2Proof.Machine
end

