-- ==== Sys2Proof/Machine/Step.lean ====
section
/-! DEFINITION. A step: the command at the front of the queue takes place, or the always-on clock ticks. -/

namespace Sys2Proof.Machine

/-- One tick of the always-on clock (R23): the local counter counts once the island's reset is released. -/
def tick (s : State) : State := if s.island then { s with counter := s.counter + 1 } else s

/-- A step: the command at the front of `pending`, with the rest of the queue left to wait; on an empty queue the always-on
clock ticks (log 1). -/
def step (s : State) : Host.Outcome State Fault Refusal :=
  match s.pending with
  | [] => .next (tick s)
  | c :: rest => exec c { s with pending := rest }

/-- The state with the command that a word spells put at the front of its queue; unchanged, since no word spells one. -/
def State.withFetchWord (s : State) (nbits w : Nat) : State :=
  match decodeTableWord nbits w with
  | some c => { s with pending := c :: s.pending }
  | none => s

end Sys2Proof.Machine
end

