-- ==== Sys2Proof/Safety.lean ====
section
/-! DEFINITION. What counts as a safe run, in the terms the statements use: the machine goes on, and its memory keeps its
canonical form. -/

namespace Sys2Proof.Safety

open Sys2Proof.Machine

/-- The machine goes on: a step answers a next state. -/
def Goes (s : State) : Prop := ∃ t, step s = .next t

/-- The memory of a state is in canonical form, with its unit marks and its upsets. -/
def MemOk (s : State) : Prop := Memory.wf s.mem ∧ TblWf UnitMeta.zero s.units ∧ TblWf Upset.zero s.upsets

/-- The register file and the tables of queues, fronds, slots, partitions and ports are in canonical form: keys strictly rising,
and nothing listed that stands at its default (for a register, its reset value). Then equal machines are equal data. -/
structure TablesOk (s : State) : Prop where
  regs   : s.regs.Pairwise (fun a b => a.1 < b.1)
  resets : ∀ e ∈ s.regs, e.2 ≠ BitVec.ofNat 64 (regReset e.1)
  queues : TblWf QueueSt.empty s.queues
  fronds : TblWf FrondSt.empty s.fronds
  slots  : ∀ e ∈ s.fronds, TblWf SlotSt.empty e.2.slots
  parts  : TblWf PartSt.idle s.parts
  ports  : TblWf PortSt.down s.ports

/-- A safe run of `k` steps: every step goes on, and every state on the way keeps memory and tables in canonical form. -/
def Safe : Nat → State → Prop
  | 0, s => MemOk s ∧ TablesOk s
  | k + 1, s => (MemOk s ∧ TablesOk s) ∧ ∃ t, step s = .next t ∧ Safe k t

end Sys2Proof.Safety
end

