-- ==== Sys2Proof/Frame.lean ====
section
/-! DEFINITION. The areas of the state and what it is for two states to agree on an area; the frame statements are written in
these terms. -/

namespace Sys2Proof.Frame

open Sys2Proof.Machine

/-- The areas of the state: one for each field, save that the poison marks, tags and upsets of memory are one area, and that
the queue of waiting commands is none, since no command touches it. -/
inductive Area where
  | free | dev | pins | island | counter | regs | lastRead | shadows | mem | marks | rhzUps | seqUps | queues | fronds | parts
  | ports | fabric | cfg | flash | mgmt | dbgPort | power | msix | stipe
  deriving DecidableEq, Repr

/-- The number of an area. -/
def Area.idx : Area → Nat
  | .free => 0 | .dev => 1 | .pins => 2 | .island => 3 | .counter => 4 | .regs => 5 | .lastRead => 6 | .shadows => 7
  | .mem => 8 | .marks => 9 | .rhzUps => 10 | .seqUps => 11 | .queues => 12 | .fronds => 13 | .parts => 14 | .ports => 15
  | .fabric => 16 | .cfg => 17 | .flash => 18 | .mgmt => 19 | .dbgPort => 20 | .power => 21 | .msix => 22 | .stipe => 23

/-- Two states hold the same in an area. For `mem` that is every byte of memory. -/
def Area.same : Area → State → State → Prop
  | .free, s, t => t.free = s.free
  | .dev, s, t => t.dev = s.dev
  | .pins, s, t => t.pins = s.pins
  | .island, s, t => t.island = s.island
  | .counter, s, t => t.counter = s.counter
  | .regs, s, t => t.regs = s.regs
  | .lastRead, s, t => t.lastRead = s.lastRead
  | .shadows, s, t => t.shadows = s.shadows
  | .mem, s, t => t.mem = s.mem
  | .marks, s, t => t.units = s.units ∧ t.upsets = s.upsets
  | .rhzUps, s, t => t.rhzUps = s.rhzUps
  | .seqUps, s, t => t.seqUps = s.seqUps
  | .queues, s, t => t.queues = s.queues
  | .fronds, s, t => t.fronds = s.fronds
  | .parts, s, t => t.parts = s.parts
  | .ports, s, t => t.ports = s.ports
  | .fabric, s, t => t.fabric = s.fabric
  | .cfg, s, t => t.cfg = s.cfg
  | .flash, s, t => t.flash = s.flash
  | .mgmt, s, t => t.mgmt = s.mgmt
  | .dbgPort, s, t => t.dbgPort = s.dbgPort
  | .power, s, t => t.power = s.power
  | .msix, s, t => t.msix = s.msix
  | .stipe, s, t => t.stipe = s.stipe

/-- The counters of flash that only count up: the three of R506, the entries into BOOT, the numbers given to log records, the
erase blocks erased, and the enrolments. -/
def FlashUp (a b : FlashSt) : Prop :=
  a.imageCtr ≤ b.imageCtr ∧ a.fwCtr ≤ b.fwCtr ∧ a.fpCounter ≤ b.fpCounter ∧ a.boots ≤ b.boots ∧ a.logNext ≤ b.logNext ∧
  a.erased ≤ b.erased ∧ a.enrol ≤ b.enrol

/-- The areas that a command may change, by what its meaning writes. The queue of waiting commands is no area: none changes it. -/
def touches (c : Instr) : List Area :=
  match c with
  | .nop _ _ | .fence _ _ | .matmul _ _ | .storeTiles _ _ _ | .gatherAddFold _ _ | .gatherAddSum _ _
  | .fusedSoftmax _ _ _ | .sample _ _ | .loadProgram _ _ | .streamCopy _ _ _ | .emitOnly _ _ | .stepCommit _ _
  | .redTensor _ _ | .redContrib _ _ | .redClose _ _ | .partStart _ _ | .partDrain _ _ | .partAbort _ _
  | .partClear _ _ =>
    [.regs, .mem, .marks, .rhzUps, .seqUps, .queues, .fronds, .parts, .fabric, .flash, .mgmt, .dbgPort, .msix]
  | .layerCheck _ _ | .vectorRun _ _ _ _ | .update _ _ =>
    [.free, .regs, .mem, .marks, .rhzUps, .seqUps, .queues, .fronds, .parts, .fabric, .flash, .mgmt, .dbgPort, .msix]
  | .check _ _ _ =>
    [.free, .regs, .mem, .marks, .rhzUps, .seqUps, .queues, .fronds, .parts, .fabric, .cfg, .flash, .mgmt, .dbgPort,
     .msix]
  | .commit _ _ _ =>
    [.free, .regs, .mem, .marks, .rhzUps, .seqUps, .queues, .fronds, .parts, .ports, .fabric, .cfg, .flash, .mgmt,
     .dbgPort, .power, .msix]
  | .partTest _ _ =>
    [.regs, .mem, .marks, .rhzUps, .seqUps, .queues, .fronds, .parts, .fabric, .flash, .mgmt, .dbgPort, .power, .msix]
  | .svcTest _ _ =>
    [.dev, .regs, .mem, .marks, .rhzUps, .seqUps, .queues, .fronds, .parts, .fabric, .flash, .mgmt, .dbgPort, .power,
     .msix]
  | .svcExit _ _ =>
    [.dev, .regs, .shadows, .mem, .marks, .rhzUps, .seqUps, .queues, .fronds, .parts, .ports, .fabric, .cfg, .flash,
     .mgmt, .dbgPort, .power, .msix, .stipe]
  | .drainedToIdle _ =>
    [.regs, .fronds, .parts]
  | .commandComplete _ _ =>
    [.free, .regs, .mem, .marks, .rhzUps, .queues, .fronds, .parts, .fabric, .flash, .mgmt, .msix]
  | .tail _ _ _ _ | .resume _ _ =>
    [.regs, .shadows, .queues, .fabric, .msix]
  | .skip _ _ =>
    [.regs, .shadows, .mem, .marks, .queues, .fronds, .fabric, .flash, .mgmt, .msix]
  | .fadd _ | .fsub _ | .fmul _ | .ffma _ | .fmin _ | .fmax _ | .fabs _ | .fneg _ | .fcmp _ | .sel _ | .iadd _
  | .isub _ | .imul _ | .and _ | .or _ | .xor _ | .shl _ | .shr _ | .sar _ | .icmp _ | .cvt _ | .exp2 _ | .log2 _
  | .rcp _ | .sqrt _ | .rsqrt _ | .sinpi _ | .cospi _ | .fdiv _ | .ld _ | .st _ | .bcr _ | .bcc _ | .perm _ | .rand _
  | .coord _ | .movi _ | .rsum _ | .rmax _ | .rmin _ | .fwDone _ =>
    [.regs, .marks, .fronds, .fabric, .flash, .mgmt, .msix]
  | .endChunk _ | .lockstepRetry _ _ =>
    [.regs, .mem, .marks, .queues, .fronds, .parts, .fabric, .flash, .mgmt, .msix]
  | .dataFlit _ _ | .controlFlit _ _ | .nullFlit _ _ | .ident _ _ | .announce _ =>
    [.free, .regs, .ports, .fabric, .flash, .mgmt, .msix]
  | .replayTimeout _ | .linkLoss _ _ | .readResp _ | .ctlResp _ | .attestResp _ _ =>
    [.regs, .ports, .fabric, .flash, .mgmt, .msix]
  | .identTimeout _ _ =>
    [.counter, .regs, .ports]
  | .trainAttemptEnd _ _ =>
    [.regs, .ports]
  | .portReset _ _ =>
    [.regs, .shadows, .ports, .fabric, .flash, .mgmt, .msix]
  | .forward _ =>
    [.regs, .ports, .fabric]
  | .write _ =>
    [.regs, .mem, .marks, .fronds, .ports, .fabric, .flash, .mgmt, .msix]
  | .writeAck _ =>
    [.regs, .queues, .parts, .ports, .fabric, .flash, .mgmt, .msix]
  | .readReq _ =>
    [.regs, .marks, .fronds, .ports, .fabric, .flash, .mgmt, .msix]
  | .ctlWrite _ | .registerWrite _ _ =>
    [.free, .regs, .shadows, .mem, .marks, .queues, .fronds, .ports, .fabric, .cfg, .flash, .mgmt, .msix]
  | .ctlRead _ _ =>
    [.free, .regs, .lastRead, .shadows, .ports, .fabric, .cfg, .flash, .mgmt, .msix]
  | .landWrite _ | .mcastWrite _ | .mbxReply _ | .attestReq _ =>
    [.regs, .ports, .fabric, .mgmt]
  | .mcastFence _ =>
    [.regs, .parts, .ports, .fabric, .flash, .mgmt, .msix]
  | .mcastDone _ =>
    [.regs, .parts, .ports, .fabric, .mgmt]
  | .remoteTimeout _ _ =>
    [.counter, .regs, .queues, .parts, .fabric, .flash, .mgmt, .msix]
  | .ctlTimeout _ _ | .startupLate _ _ =>
    [.counter, .regs, .fabric, .flash, .mgmt, .msix]
  | .hostRequest _ =>
    [.free, .regs, .lastRead, .shadows, .mem, .marks, .queues, .fronds, .ports, .fabric, .cfg, .flash, .mgmt, .msix]
  | .hdmaPtrRd _ _ _ | .logSel _ _ =>
    [.regs, .shadows, .fabric, .msix]
  | .redBlocks _ | .redResult _ | .redNorm _ | .backupReq _ | .checkOk _ | .retractReq _ | .confirm _ | .retract _ =>
    [.regs, .mem, .marks, .queues, .fronds, .parts, .ports, .fabric, .flash, .mgmt, .msix]
  | .redDeadline _ _ _ _ _ | .redGiveup _ _ _ | .epochLocalFail _ _ _ =>
    [.counter, .regs, .mem, .marks, .queues, .fronds, .parts, .fabric, .flash, .mgmt, .msix]
  | .drainGiveup _ _ _ =>
    [.counter, .regs, .parts, .fabric, .flash, .mgmt, .msix]
  | .drainComplete _ _ _ =>
    [.regs, .marks, .fronds, .parts, .fabric, .flash, .mgmt, .msix]
  | .mbxPost _ | .flitTime _ =>
    [.free, .regs, .ports, .fabric, .mgmt]
  | .intNotify _ =>
    [.regs, .ports, .fabric, .mgmt, .msix]
  | .routeGossip _ _ | .gossipRunStart _ | .barrierJoin _ _ | .barrierRelease _ _ =>
    [.regs, .queues, .fronds, .parts, .ports, .fabric, .cfg, .flash, .mgmt, .power, .msix]
  | .roundGiveup _ _ =>
    [.counter, .regs, .queues, .fronds, .parts, .ports, .fabric, .cfg, .flash, .mgmt, .power, .msix]
  | .bootGiveup _ _ =>
    [.counter, .regs, .fabric, .mgmt, .msix]
  | .commitGiveup _ =>
    [.counter, .regs, .queues, .fabric]
  | .fabAssign _ _ =>
    [.free, .regs, .shadows, .ports, .fabric, .flash, .mgmt, .msix]
  | .aux33On =>
    [.dev, .pins, .island, .counter, .regs]
  | .aux33Loss =>
    [.dev, .pins, .island, .regs, .shadows, .mem, .marks, .rhzUps, .seqUps, .queues, .fronds, .parts, .ports,
     .fabric, .flash, .mgmt, .msix]
  | .islandResetRelease =>
    [.dev, .island, .counter, .regs, .shadows, .rhzUps, .seqUps, .queues, .fronds, .parts, .ports, .fabric, .cfg,
     .flash, .mgmt, .dbgPort, .power, .stipe]
  | .powerGood _ =>
    [.dev, .pins, .regs, .shadows, .rhzUps, .seqUps, .queues, .fronds, .parts, .ports, .fabric, .cfg, .flash, .mgmt,
     .dbgPort, .power, .stipe]
  | .powerGoodLoss =>
    [.dev, .pins, .regs, .shadows, .mem, .marks, .rhzUps, .seqUps, .queues, .fronds, .parts, .ports, .fabric, .flash,
     .mgmt, .msix]
  | .resetN _ =>
    [.dev, .pins, .regs, .shadows, .mem, .marks, .rhzUps, .seqUps, .queues, .fronds, .parts, .ports, .fabric, .cfg,
     .flash, .mgmt, .dbgPort, .power, .msix, .stipe]
  | .perstN _ =>
    [.pins, .fabric]
  | .pufReconstruct _ | .sensorFault _ | .feedIdPoll _ _ | .testOverdue _ =>
    [.regs, .fabric, .flash, .mgmt, .msix]
  | .lichenBoot _ _ _ _ _ =>
    [.regs, .ports, .fabric, .cfg, .flash, .mgmt, .msix]
  | .hbmTrainingEnd _ _ =>
    [.regs, .mem, .marks, .fabric, .flash, .mgmt, .msix]
  | .bootCommit _ =>
    [.free, .dev, .regs, .queues, .fronds, .parts, .ports, .fabric, .cfg, .flash, .mgmt, .power, .msix]
  | .granuleZeroed _ =>
    [.mem, .marks, .mgmt]
  | .restore _ _ | .fwUpdate _ _ | .mailboxGo _ _ _ =>
    [.regs, .shadows, .fabric, .mgmt, .msix]
  | .restoreEnd _ =>
    [.free, .regs, .mem, .marks, .fronds, .parts, .fabric, .flash, .mgmt, .msix]
  | .hbmTpGo _ _ _ | .hbmTpDataWrite _ _ _ =>
    [.regs, .shadows, .fabric, .cfg, .flash, .mgmt, .msix]
  | .hbmTpDataRead _ _ | .clearingRead _ _ =>
    [.free, .regs, .lastRead, .shadows, .fabric, .cfg, .flash, .mgmt, .msix]
  | .echo _ | .lichenReply _ _ _ | .mailboxReset _ _ =>
    [.regs, .fabric, .mgmt, .msix]
  | .logCopy _ | .telemNow _ | .attest _ | .unsealSecret _ =>
    [.free, .regs, .mem, .marks, .fronds, .fabric, .flash, .mgmt, .msix]
  | .provision _ _ | .ownerKey _ _ =>
    [.free, .regs, .marks, .fronds, .fabric, .flash, .mgmt, .msix]
  | .sealSecret _ =>
    [.free, .regs, .fabric, .flash, .mgmt, .msix]
  | .sequencerLogRecord _ =>
    [.regs, .fronds, .fabric, .flash, .mgmt, .msix]
  | .lichenSleep _ =>
    [.counter, .mgmt]
  | .lichenWake _ | .sensorCalibration | .serdesCalibration | .testDue _ =>
    [.regs, .mgmt]
  | .watchdog _ _ =>
    [.free, .counter, .regs, .mem, .marks, .queues, .fronds, .fabric, .cfg, .flash, .mgmt, .msix]
  | .logFlush =>
    [.regs, .flash, .mgmt]
  | .logErase =>
    [.regs, .flash]
  | .thermalSample _ _ =>
    [.dev, .pins, .regs, .shadows, .mem, .marks, .rhzUps, .seqUps, .queues, .fronds, .parts, .ports, .fabric, .flash,
     .mgmt, .power, .msix]
  | .thermCritTimeout _ =>
    [.free, .counter, .regs, .fabric, .flash, .mgmt, .power, .msix]
  | .railSample _ _ _ _ =>
    [.free, .dev, .pins, .regs, .shadows, .mem, .marks, .rhzUps, .seqUps, .queues, .fronds, .parts, .ports, .fabric,
     .flash, .mgmt, .power, .msix]
  | .coolantLimit _ _ _ =>
    [.regs, .fabric, .flash, .mgmt, .power, .msix]
  | .governorWindow _ _ _ _ =>
    [.regs, .power]
  | .flowReqUpdate =>
    [.free, .regs]
  | .clockGate _ | .lockstepMismatch _ _ _ =>
    [.fronds]
  | .powerGate _ _ =>
    [.counter, .fronds, .power]
  | .pllStop _ _ =>
    [.counter, .power]
  | .frondWake _ _ =>
    [.regs, .fronds, .power]
  | .patrolScrub _ _ =>
    [.counter, .regs, .marks, .fabric, .flash, .mgmt, .msix]
  | .hbmTempReadout _ _ =>
    [.free, .regs, .fabric, .flash, .mgmt, .power, .msix]
  | .telemetryFrame =>
    [.regs, .mem, .marks, .fronds, .fabric, .flash, .mgmt, .msix]
  | .testLedger _ =>
    [.counter, .regs, .flash, .mgmt]
  | .understoryTest _ =>
    [.regs, .mem, .marks, .fronds, .mgmt, .power]
  | .testComplete _ _ =>
    [.regs, .mem, .marks, .queues, .fronds, .parts, .fabric, .cfg, .flash, .mgmt, .power, .msix]
  | .dbgChallenge | .extest _ | .samplePreload _ =>
    [.free, .dbgPort]
  | .dbgUnlock _ _ =>
    [.free, .dev, .regs, .mem, .marks, .queues, .fronds, .parts, .fabric, .flash, .mgmt, .dbgPort, .msix]
  | .dbgSel _ | .dbgData _ _ | .step | .bpSet _ _ | .bpClr _ | .idcode | .bypass _ =>
    [.dbgPort]
  | .halt | .run =>
    [.mgmt, .dbgPort]
  | .dbgRead _ _ =>
    [.free, .regs, .lastRead, .shadows, .marks, .fronds, .fabric, .cfg, .flash, .mgmt, .dbgPort, .msix]
  | .dbgWrite _ _ =>
    [.free, .regs, .shadows, .mem, .marks, .queues, .fronds, .ports, .fabric, .cfg, .flash, .mgmt, .dbgPort, .msix]

end Sys2Proof.Frame
end

