-- ==== Sys2Proof/WellFormed.lean ====
section
/-! DEFINITION. Which commands are well formed: every operand names a thing that the device has, in the range the spec gives
it. A command outside these ranges names nothing and changes nothing of the device, or, for a control-space access, meets the
access errors of R9. -/

namespace Sys2Proof

/-- Package fronds 0 to 287 (R5). -/
def frondNumOk (f : Nat) : Bool := decide (f < 288)
/-- Partitions 0 to 7 (R24). -/
def partNumOk (p : Nat) : Bool := decide (p < 8)
/-- Ports 0 to 35 (R329). -/
def portNumOk (p : Nat) : Bool := decide (p < 36)
/-- Stacks 0 to 11 (R5). -/
def stackNumOk (k : Nat) : Bool := decide (k < 12)
/-- Mailbox channels 0 to 319 (R485). -/
def channelNumOk (c : Nat) : Bool := decide (c < 320)
/-- Units of in-field tests: physical fronds 0 to 311 and 312 + c for package cushion c (R412). -/
def unitNumOk (u : Nat) : Bool := decide (u < 336)

/-- The queues of R308. -/
def queueIdOk : QueueId → Bool
  | .frond f => frondNumOk f
  | .cushion c => decide (c < 24)
  | .anchor p => partNumOk p
  | .device => true

/-- The requesters of R539; a fabric address has 12 bits (R348). -/
def requesterOk : Requester → Bool
  | .host a => decide (a < 4096)
  | .peer a => decide (a < 4096)
  | .lichen => true
  | .debug => true
  | .sequencer f => frondNumOk f

/-- An access lies in the window of 1 GiB (R536). -/
def accessOk (a : Access) : Bool := requesterOk a.req && decide (a.off < 2 ^ 30)

/-- The fields of a message header have their widths (R345), and its payload at most 256 bytes. -/
def msgOk (m : Msg) : Bool :=
  decide (m.dst < 4096) && decide (m.src < 4096) && decide (m.part < 16) && decide (m.mtype < 256) && decide (m.flags < 256)
  && decide (m.hops < 16) && decide (m.tag < 65536) && decide (m.status < 256) && decide (m.seqno < 2 ^ 32)
  && decide (m.addr < 2 ^ 64) && decide (m.payload.length ≤ 256)

/-- The virtual channels 0 to 15 and hop classes 0 to 2 (R340, R342). -/
def arrivalOk (a : Arrival) : Bool := portNumOk a.port && decide (a.vc < 16) && decide (a.hc < 3) && msgOk a.msg

/-- A flit has 256 bytes (R332). -/
def flitOk (f : FlitIn) : Bool := f.bytes.length == 256

/-- A PCIe request names BAR 0, BAR 2 or a window, and a write carries its data (R361). -/
def hostReqOk (r : HostReq) : Bool :=
  decide (1 ≤ r.len ∧ r.len ≤ 4096) && (!r.write || r.data.length == r.len)

/-- The feeds name partitions. -/
def feedsOk (l : List FeedRead) : Bool := l.all (fun r => partNumOk r.part && decide (r.feed < 2 ^ 32))

/-- Well-formed commands. -/
def Instr.wellFormed (i : Instr) : Bool :=
  match i with
  | .nop q _ | .fence q _ | .matmul q _ | .storeTiles q _ _ | .layerCheck q _ | .gatherAddFold q _ | .gatherAddSum q _
  | .vectorRun q _ _ _ | .fusedSoftmax q _ _ | .sample q _ | .loadProgram q _ | .streamCopy q _ _ | .update q _ | .emitOnly q _
  | .stepCommit q _ | .redTensor q _ | .redContrib q _ | .redClose q _ | .partStart q _ | .partDrain q _ | .partAbort q _
  | .partTest q _ | .partClear q _ | .svcTest q _ | .svcExit q _ | .commandComplete q _ => queueIdOk q
  | .check q _ i => queueIdOk q && feedsOk i.feeds
  | .commit q _ feeds => queueIdOk q && feedsOk feeds
  | .drainedToIdle p => partNumOk p
  | .tail q a _ _ => queueIdOk q && requesterOk a
  | .resume q a | .skip q a => queueIdOk q && requesterOk a
  | .fadd f | .fsub f | .fmul f | .ffma f | .fmin f | .fmax f | .fabs f | .fneg f | .fcmp f | .sel f | .iadd f | .isub f
  | .imul f | .and f | .or f | .xor f | .shl f | .shr f | .sar f | .icmp f | .cvt f | .exp2 f | .log2 f | .rcp f | .sqrt f
  | .rsqrt f | .sinpi f | .cospi f | .fdiv f | .ld f | .st f | .bcr f | .bcc f | .perm f | .rand f | .coord f | .movi f
  | .rsum f | .rmax f | .rmin f | .endChunk f => frondNumOk f
  | .dataFlit p fl | .controlFlit p fl | .nullFlit p fl | .ident p fl => portNumOk p && flitOk fl
  | .replayTimeout p | .identTimeout p _ | .trainAttemptEnd p _ | .linkLoss p _ | .flitTime p => portNumOk p
  | .portReset p a => portNumOk p && requesterOk a
  | .forward a | .write a | .writeAck a | .readReq a | .readResp a | .ctlWrite a | .ctlRead a _ | .ctlResp a | .landWrite a
  | .mcastWrite a | .mcastFence a | .mcastDone a | .redBlocks a | .redResult a | .redNorm a | .backupReq a | .checkOk a
  | .retractReq a | .confirm a | .retract a | .mbxPost a | .mbxReply a | .intNotify a | .attestReq a | .attestResp a _
  | .announce a => arrivalOk a
  | .routeGossip a feeds | .barrierJoin a feeds | .barrierRelease a feeds => arrivalOk a && feedsOk feeds
  | .remoteTimeout tag _ | .ctlTimeout tag _ => decide (tag < 65536)
  | .hostRequest r => hostReqOk r
  | .hdmaPtrRd m a _ => decide (m < 16) && requesterOk a
  | .redDeadline p _ _ _ _ | .redGiveup p _ _ | .epochLocalFail p _ _ => partNumOk p
  | .drainGiveup p d _ => partNumOk p && decide (d < 258)
  | .drainComplete p _ d => partNumOk p && decide (d < 258)
  | .gossipRunStart feeds | .roundGiveup _ feeds | .bootGiveup _ feeds | .bootCommit feeds => feedsOk feeds
  | .commitGiveup _ | .aux33On | .aux33Loss | .islandResetRelease | .powerGood _ | .powerGoodLoss | .resetN _ | .perstN _
  | .pufReconstruct _ | .lichenBoot _ _ _ _ _ | .fwDone _ | .lichenSleep _ | .lichenWake _ | .watchdog _ _ | .logFlush
  | .logErase | .thermCritTimeout _ | .flowReqUpdate | .telemetryFrame | .sensorCalibration | .serdesCalibration
  | .testLedger _ | .dbgChallenge | .halt | .run | .step | .extest _ | .samplePreload _ | .idcode | .bypass _ => true
  | .startupLate g _ => (match g with | .stage n => decide (n < 5))
  | .fabAssign a _ | .restore a _ | .fwUpdate a _ | .logSel a _ => requesterOk a
  | .hbmTrainingEnd k _ => stackNumOk k
  | .granuleZeroed g => decide (g < 768)
  | .restoreEnd p => partNumOk p
  | .hbmTpGo k a _ | .hbmTpDataWrite k a _ => stackNumOk k && requesterOk a
  | .hbmTpDataRead k a => stackNumOk k && requesterOk a
  | .clearingRead a _ | .registerWrite a _ => accessOk a
  | .mailboxGo c a _ => channelNumOk c && requesterOk a
  | .mailboxReset c a => channelNumOk c && requesterOk a
  | .echo c | .logCopy c | .telemNow c | .attest c | .provision c _ | .ownerKey c _ | .sealSecret c | .unsealSecret c
  | .lichenReply c _ _ => decide (c < 32)
  | .sequencerLogRecord c => decide (32 ≤ c ∧ c < 320)
  | .thermalSample n t => decide (n < 240) && decide (t < 65536)
  | .railSample n v c w => decide (n < 10) && decide (v < 65536) && decide (c < 65536) && decide (w < 65536)
  | .coolantLimit i o f => decide (i < 65536) && decide (o < 65536) && decide (f < 65536)
  | .sensorFault n => decide (n < 253)
  | .governorWindow p _ _ _ => decide (p < 65536)
  | .clockGate f | .powerGate f _ | .frondWake f _ | .lockstepMismatch f _ _ | .lockstepRetry f _ => frondNumOk f
  | .pllStop d _ => decide (d < 2)
  | .feedIdPoll _ feeds => feedsOk feeds
  | .patrolScrub k _ => stackNumOk k
  | .hbmTempReadout k t => stackNumOk k && decide (t < 256)
  | .testDue u | .testOverdue u => decide (u < 312)
  | .testComplete u _ => unitNumOk u
  | .understoryTest start => unitNumOk start.unit
  | .dbgUnlock token _ => token.length == 1282
  | .dbgSel t => decide (t < 65536)
  | .dbgData _ _ => true
  | .bpSet n a => decide (n < 4) && decide (a < 2 ^ 48)
  | .bpClr n => decide (n < 4)
  | .dbgRead sp a | .dbgWrite sp a => decide (sp < 4) && decide (a < 2 ^ 48)

end Sys2Proof
end

