-- ==== Sys2Proof/Claims.lean ====
section
/-! DEFINITION. The terms in which the statements speak: an entry that is free to issue, the state once it has issued, and what
a pinnule instruction computes for a lane. -/

namespace Sys2Proof.Claims

open Sys2Proof.Machine

/-! ### Entries of queues -/

/-- Entry `n` of queue `q` has opcode `op`, may issue now (R283, R308, R314 to R316), stands at no breakpoint, has no failing
state word, and passes the checks that every command passes once it has been fetched (R25, R27, R313, R317, R322). -/
def FreeToIssue (s : State) (q : QueueId) (n : W32) (op : Nat) (used : List (Nat × Nat)) : Prop :=
  entOp (entryBytes s q n) = op ∧ canIssue s q n = true ∧ bpHit s q n = false ∧ (∀ x ∈ s.seqUps, x.queue ≠ qNum q) ∧
  commonChecks (fetchEntry s q n) q n (entryBytes s q n) used = none

/-- The state once the entry has been fetched and its descriptors have been read (R248, R299). -/
def atIssue (s : State) (q : QueueId) (n : W32) : State := issueReads (fetchEntry s q n) q (entryBytes s q n)

/-- The state on which the entry's own rule acts: the slots that it names have been read too (R402). -/
def atBody (s : State) (q : QueueId) (n : W32) : State := checkSlots (atIssue s q n) (entSlots q (entryBytes s q n))

/-- RESUME, or RETRACT of a resumed entry, has exposed the entry again (R325, R394). -/
def resumedEntry (s : State) (q : QueueId) (n : W32) : Bool :=
  (getQ s q).redo.contains n || (getQ s q).again.any (fun i => i.n == n && i.resumed)

/-- The state once entry `n` has issued and its rule has made `s1` of the state: ISSUED counts it, and it is live with its
status, waiting for `w`. -/
def issued (s s1 : State) (q : QueueId) (n : W32) (st : Nat) (poison : Bool) (w : WaitFor) : State :=
  modQ (wakeFor (countOutcome (markIssued s1 q n) q false st poison) q) q
    (fun x => { x with live := x.live ++ [hdr (entryBytes s q n) st 0 n (resumedEntry s q n) w] })

/-- The state once entry `n` has been rejected with a status and DETAIL: its record is written, and its queue halts where the
status halts (R248, R324, R326). -/
def rejected (s : State) (q : QueueId) (n : W32) (st d : Nat) : State :=
  concludeEntry (countOutcome (markIssued (atIssue s q n) q n) q true st (st == stPoison)) q
    (hdr (entryBytes s q n) st d n (resumedEntry s q n) .done)

/-- An access of a requester to the register at an aligned offset is performed (R9, R539, R540, R542). -/
def Reached (s : State) (a : Requester) (off : Nat) : Prop :=
  admits s a off = true ∧ assigned s off = true ∧ reaches a off = true ∧ followerQueue s off = false

/-- A command's own rule neither rejects its entry nor makes it wait. -/
def Accepts (v : Verdict) : Prop := ∃ s1 st d k w, v = .effect s1 st d k w

/-- No repeats of a fall-back are under way for the entry (R149, R190). -/
def NoRepeat (s : State) (q : QueueId) (n : W32) : Prop :=
  ∀ p x, queueOwner s q = some p → (getPart s p).repeats = some x → x.q ≠ q ∨ x.n ≠ n

/-! ### Lanes -/

/-- Frond `f` has the run `r`, its partition works, and `i` is the run's next instruction. -/
def AtInstr (s : State) (f : Nat) (r : VRun) (i : PIns) : Prop :=
  (getFrond s f).vrun = some r ∧ frondWorks s f = true ∧ (r.cfg.prog.code[r.pc]?).map decodeIns = some i

/-- Source A, B and C of an instruction in a lane: B is a scalar parameter where the instruction says so (R198). -/
def srcA (i : PIns) (x : Lane) : W32 := x.regs.getD i.a 0
def srcB (c : VCfg) (i : PIns) (x : Lane) : W32 := if i.scalar then c.scalars.getD (i.b % 16) 0 else x.regs.getD i.b 0
def srcC (i : PIns) (x : Lane) : W32 := x.regs.getD i.c 0

/-- A row of the instructions that write one register from a lane's own values: the command, the operation code and the value
(R199, R200, R216). -/
structure AluRow where
  cmd : Nat → Instr
  op  : Nat
  val : VCfg → PIns → Lane → W32

def aluRows : List AluRow :=
  [⟨.fadd, 0x01, fun c i x => fp32AddRne (srcA i x) (srcB c i x)⟩, ⟨.fsub, 0x02, fun c i x => fp32SubRne (srcA i x) (srcB c i x)⟩,
   ⟨.fmul, 0x03, fun c i x => fp32MulRne (srcA i x) (srcB c i x)⟩,
   ⟨.ffma, 0x04, fun c i x => fp32FmaRne (srcA i x) (srcB c i x) (srcC i x)⟩,
   ⟨.fmin, 0x05, fun c i x => fp32Min (srcA i x) (srcB c i x)⟩, ⟨.fmax, 0x06, fun c i x => fp32Max (srcA i x) (srcB c i x)⟩,
   ⟨.fabs, 0x07, fun _ i x => srcA i x &&& 0x7FFFFFFF#32⟩, ⟨.fneg, 0x08, fun _ i x => srcA i x ^^^ 0x80000000#32⟩] ++
  [⟨.sel, 0x0A, fun c i x => if bitOf x.preds (i.mod % 8) then srcA i x else srcB c i x⟩,
   ⟨.iadd, 0x10, fun c i x => srcA i x + srcB c i x⟩, ⟨.isub, 0x11, fun c i x => srcA i x - srcB c i x⟩,
   ⟨.imul, 0x12, fun c i x => srcA i x * srcB c i x⟩, ⟨.and, 0x13, fun c i x => srcA i x &&& srcB c i x⟩,
   ⟨.or, 0x14, fun c i x => srcA i x ||| srcB c i x⟩, ⟨.xor, 0x15, fun c i x => srcA i x ^^^ srcB c i x⟩,
   ⟨.shl, 0x16, fun c i x => srcA i x <<< ((srcB c i x).toNat % 32)⟩,
   ⟨.shr, 0x17, fun c i x => srcA i x >>> ((srcB c i x).toNat % 32)⟩,
   ⟨.sar, 0x18, fun c i x => (srcA i x).sshiftRight ((srcB c i x).toNat % 32)⟩] ++
  [⟨.cvt, 0x20, fun _ i x => if i.mod = 0 then fp32ToInt32 (srcA i x) else if i.mod = 1 then int32ToFp32 (srcA i x)
      else if i.mod = 2 then bf16ToFp32 (fp32ToBf16 (srcA i x)) else bf16ToFp32 ((srcA i x).setWidth 16)⟩,
   ⟨.exp2, 0x28, fun _ i x => fp32Exp2 (srcA i x)⟩, ⟨.log2, 0x29, fun _ i x => fp32Log2 (srcA i x)⟩,
   ⟨.rcp, 0x2A, fun _ i x => fp32RcpRne (srcA i x)⟩, ⟨.sqrt, 0x2B, fun _ i x => fp32SqrtRne (srcA i x)⟩,
   ⟨.rsqrt, 0x2C, fun _ i x => fp32RsqrtRne (srcA i x)⟩, ⟨.sinpi, 0x2D, fun _ i x => fp32Sinpi (srcA i x)⟩,
   ⟨.cospi, 0x2E, fun _ i x => fp32Cospi (srcA i x)⟩, ⟨.fdiv, 0x2F, fun c i x => fp32DivRne (srcA i x) (srcB c i x)⟩] ++
  [⟨.rand, 0x35, fun c i x => philox c.seed (x.elem % 2 ^ 32) (x.elem / 2 ^ 32 % 2 ^ 32) (c.scalars.getD i.mod 0).toNat
      (0x80000000 + i.immU)⟩,
   ⟨.coord, 0x36, fun c i x => BitVec.ofNat 32 ((coordsOf c.ext x.elem).getD i.mod 0)⟩,
   ⟨.movi, 0x37, fun _ i _ => if i.mod = 0 then bf16ToFp32 (BitVec.ofNat 16 i.immU) else BitVec.ofInt 32 i.imm⟩]

/-- A row of the instructions that write one predicate. -/
structure PredRow where
  cmd : Nat → Instr
  op  : Nat
  val : VCfg → PIns → Lane → Bool

def predRows : List PredRow :=
  [⟨.fcmp, 0x09, fun c i x => if i.mod = 0 then fp32Eq (srcA i x) (srcB c i x) else if i.mod = 1 then fp32Lt (srcA i x) (srcB c i x)
      else if i.mod = 2 then fp32Le (srcA i x) (srcB c i x) else isNaN32 (srcA i x) || isNaN32 (srcB c i x)⟩,
   ⟨.icmp, 0x19, fun c i x => if i.mod = 0 then srcA i x == srcB c i x else if i.mod = 1 then (srcA i x).slt (srcB c i x)
      else if i.mod = 2 then (srcA i x).sle (srcB c i x) else (srcA i x).ult (srcB c i x)⟩]

/-- A row of the row reductions: the command, the operation code, the combining operation and the value of an empty row (R201,
R202). -/
structure RedRow where
  cmd   : Nat → Instr
  op    : Nat
  f     : W32 → W32 → W32
  empty : W32

def redRows : List RedRow :=
  [⟨.rsum, 0x38, fp32AddRne, pzero32⟩, ⟨.rmax, 0x39, fp32Max, ninf32⟩, ⟨.rmin, 0x3A, fp32Min, pinf32⟩]

/-- What a lane does with an instruction that loads, broadcasts or permutes (R199, R203, R205, R209). -/
def loadRes (s : State) (f : Nat) (r : VRun) (i : PIns) (x : Lane) : LaneRes :=
  if i.op = 0x30 then laneLd s f r.cfg r.draw r.pc i x
  else if i.op = 0x32 then laneVec s f (r.cfg.vrows.getD i.slot none) x.col
  else if i.op = 0x33 then laneVec s f (r.cfg.vcols.getD i.slot none) x.row
  else lanePerm r.cfg.prog.strict r.draw r.pc (r.lanes.filter (fun y => y.chunk == x.chunk)) i.a (srcB r.cfg i x) x

def loadRows : List ((Nat → Instr) × Nat) := [(.ld, 0x30), (.bcr, 0x32), (.bcc, 0x33), (.perm, 0x34)]

/-! ### SAMPLE -/

/-- The record of row `i` of a SAMPLE, and whether a byte read for it was poisoned (R215 to R218): the temperature, TOP_K and
TOP_P of the entry, the logits of the row, and the request word of the row's sequence and position. -/
def sampleRec (s : State) (c : Ctx) (e : List Byte) (i : Nat) : List Byte × Bool :=
  let d (h : Nat) : Desc := (readDesc s c.p h).localize s c.p
  let dl := d (p16 e 32)
  let q := rowBytes s c.f (d (p16 e 34)) i
  let n (k : Nat) : Nat := leAt q.1 (4 * k) 4
  let xs := (List.range (dl.e 0)).map (fun j => elemRead s c.f dl one32 (coordsOf dl.ext (i * dl.e 0 + j)))
  let r := sampleRow ⟨BitVec.ofNat 32 (p32 e 48), p16 e 52, BitVec.ofNat 32 (p32 e 56), p8 e 60 == 1⟩ (xs.map (·.v))
    (philox (BitVec.ofNat 64 (p64 e 40)) (n 2) (n 0) (n 1) 0)
  (sampleRecord r (sampleVersion s c.p c.f (p8 e 36) (p16 e 38)) (n 0 + n 1 * 2 ^ 32) (n 2),
    q.2.any (unitPoison s) || xs.any (·.poison))

/-- The bytes that the records write, an element after the other of each row (R218). -/
def sampleWrites (f : Nat) (d : Desc) (rs : List (List Byte × Bool)) : WSet :=
  (rs.zipIdx).foldl (fun w (r, i) => ((chunks d.elemSize r.1).zipIdx).foldl (fun w (b, k) =>
    wputs w (d.elemKey f (coordsOf d.ext (d.e 0 * i + k))) b r.2) w) []

/-! ### When the commands of a frond or cushion go through

Each of these lists what the command's own rules ask of its entry, its descriptors and the slots that it names. -/

/-- A MATMUL goes through (R168 to R174, R182, R243, R254, R256 to R258): its descriptors are legal, wide enough to hold elements and
block along the reduction; its parameters are in their ranges and its region inside the output; rotations, headers and
scales agree; no repeat holds it; and every slot of its region is EMPTY or, with CONT = 1, holds what it continues. -/
def MatmulRuns (c : Ctx) (s : State) (e : List Byte) : Prop :=
  let a := parseMatmul e
  let dl := (readDesc s c.p a.left).localize s c.p
  let dr := (readDesc s c.p a.right).localize s c.p
  let l := readSide s c.p dl
  let r := readSide s c.p dr
  let kb := opLength l true / 16
  let g := gemmIntervals s c.p c.f a.gemm dl dr
  let out : OutId := ⟨gemmLayer s c.p dl dr, a.gemm, opLines l true, opLines r false⟩
  let power (x : Option W32) : Prop := (x.bind pow2Exp).isSome = true
  let slot (k : Nat) : SlotSt := getSlot s c.f k
  let tiles := regionTiles a.base a.tm a.tn a.mt a.nt
  validate s c.p [{ h := a.left, fmtOk := dl.fam != 6 && opBlkOk dl true && headerRotOk s c.f dl },
    { h := a.right, fmtOk := dr.fam != 6 && opBlkOk dr false && headerRotOk s c.f dr }] = none ∧
  namesKeep s c.p e [a.left, a.right] = false ∧ dl.count ≠ 0 ∧ dr.count ≠ 0 ∧
  (a.gemm ≤ 2 ∧ a.cont ≤ 1 ∧ a.hold ≤ 1 ∧ a.trav ≤ 1 ∧ a.tm ≠ 0 ∧ a.tn ≠ 0 ∧ a.tm * a.tn ≤ 128 ∧ a.base + a.tm * a.tn ≤ 128) ∧
  (a.seg < (if g.2.1 = 0 then 1 else ceilDiv kb g.2.1) ∧ opLength l true = opLength r false ∧ opLength l true % 16 = 0 ∧
    32 * (a.mt + a.tm - 1) < opLines l true ∧ 32 * (a.nt + a.tn - 1) < opLines r false) ∧
  (dl.rot = dr.rot ∧ (dl.rot = 0 ∨ dl.seed = dr.seed) ∧ g.2.2 = true ∧ g.1 ≠ 0 ∧ (readScale s c.p dl).isSome = true ∧
    (readScale s c.p dr).isSome = true) ∧
  (a.cont = 1 → g.2.1 = 0 ∧ power (readScale s c.p dl) ∧ power (readScale s c.p dr) ∧
    ∀ t ∈ tiles, (slot t.1).state = .held → power (some (slot t.1).sa) ∧ power (some (slot t.1).sb)) ∧
  (layerHeld s c out.layer = false ∧ (∀ t ∈ tiles, slotActive (slot t.1) = false ∧ slotHeld s c (c.f, t.1) = false)) ∧
  ∀ t ∈ tiles, (a.cont = 0 → (slot t.1).state = .empty) ∧ (a.cont = 1 → contOk (slot t.1) out t.2.1 t.2.2 a.seg a.use = true)

/-- The slots of a tile of a fold hold one output's segments in a row (R184). -/
def columnFits : List SlotSt → Bool
  | [] => false
  | x :: xs => x.seg == 0 && (xs.foldl (fun (acc : Bool × Nat) y =>
      (acc.1 && decide (y.out = x.out) && y.m == x.m && y.n == x.n && decide (y.sa = x.sa) && decide (y.sb = x.sb)
        && y.seg == acc.2 + 1 && y.segTo == y.seg, y.segTo)) (true, x.segTo)).1

/-- The slots of tile `t` of the sources of a GATHER_ADD, in source order. -/
def foldColumn (a : GatherP) (t : Nat) : List (Nat × Nat) := (a.srcs.filterMap id).filterMap (fun x => (sourceSlots a.tiles x)[t]?)

/-- A GATHER_ADD FOLD goes through (R183, R184): its form is legal, every slot is DONE, held by no repeat and named once, and the
slots of each tile hold consecutive segments of one output, from segment 0. -/
def FoldRuns (c : Ctx) (s : State) (e : List Byte) : Prop :=
  let a := parseGather e
  let all := (List.range a.tiles).flatMap (foldColumn a)
  a.mode = 0 ∧ gatherFormOk s c a = true ∧ (∀ x ∈ all, (getSlot s x.1 x.2).state = .done ∧ slotHeld s c x = false) ∧
  (∀ t < a.tiles, columnFits ((foldColumn a t).map (fun x => getSlot s x.1 x.2)) = true) ∧
  (dedupNat (all.map (fun x => x.1 * 128 + x.2))).length = all.length

/-- The handles among the sources of a GATHER_ADD, and its sources that are slot ranges. -/
def descSources (a : GatherP) : List Nat := (a.srcs.filterMap id).filterMap (fun x => match x with | .desc h => some h | _ => none)
def rangeSources (a : GatherP) : List Source := (a.srcs.filterMap id).filter (fun x => match x with | .slots _ _ => true | _ => false)

/-- The slot of a source at tile `t`. -/
def slotOfTile (s : State) (a : GatherP) (x : Source) (t : Nat) : SlotSt :=
  match (sourceSlots a.tiles x)[t]? with | some y => getSlot s y.1 y.2 | none => SlotSt.empty

/-- The descriptor of DEST. -/
def sumDest (s : State) (c : Ctx) (a : GatherP) : Desc :=
  (readDesc s c.p (match a.dest with | some (.desc h) => h | _ => 0xFFFF)).localize s c.p

/-- A GATHER_ADD SUM of a destination with elements goes through (R183, R185): its descriptors are legal and FP32, its form is
legal, every descriptor source has DEST's extents, and every slot is DONE, held by no repeat, inside DEST, and at each tile
of one place in the output. -/
def SumRuns (c : Ctx) (s : State) (e : List Byte) : Prop :=
  let a := parseGather e
  let dd := sumDest s c a
  let slots := (rangeSources a).flatMap (fun x => (List.range a.tiles).map (slotOfTile s a x))
  a.mode = 1 ∧ gatherFormOk s c a = true ∧ dd.count ≠ 0 ∧
  (∃ h, a.dest = some (.desc h) ∧ namesKeep s c.p e (h :: descSources a) = false ∧
    validate s c.p ((descSources a).map (fun k => ({ h := k, fmtOk := (readDesc s c.p k).fam == 6 } : Use)) ++
      [{ h := h, write := true, fmtOk := (readDesc s c.p h).fam == 6 }] ++ maskUse a.mask dd.rows dd.cols) = none) ∧
  (∀ h ∈ descSources a, ((readDesc s c.p h).localize s c.p).ext = dd.ext) ∧
  (∀ z ∈ slots, z.state = .done ∧ tileOutside dd z = false) ∧
  (∀ x ∈ rangeSources a, ∀ y ∈ sourceSlots a.tiles x, slotHeld s c y = false) ∧
  (∀ t < a.tiles, ∀ x ∈ rangeSources a, ∀ y ∈ rangeSources a, (slotOfTile s a x t).m = (slotOfTile s a y t).m ∧
    (slotOfTile s a x t).n = (slotOfTile s a y t).n)

/-- The value that a source gives the element at row `x.1` and column `x.2.1` of DEST, which is entry `x.2.2.2` of tile `x.2.2.1`, and
whether it is poisoned (R129, R185); memory is read in `v`. -/
def sumTerm (s v : State) (c : Ctx) (a : GatherP) (x : Nat × Nat × Nat × Nat) : Source → W32 × Bool
  | .desc h =>
    let k := ((readDesc s c.p h).localize s c.p).elemKey c.f ((sumDest s c a).coordsMN x.1 x.2.1)
    (BitVec.ofNat 32 (readNat v k 4), rangePoison v k 4)
  | .slots f b =>
    let z := slotOfTile s a (.slots f b) x.2.2.1
    ((scaleOutput (z.vals.getD x.2.2.2 pzero32) z.sa z.sb).1, z.poison)

/-- The elements that a SUM without a mask writes: row, column, tile and entry. Without slot sources, every element of DEST. -/
def sumPlaces (s : State) (c : Ctx) (a : GatherP) : List (Nat × Nat × Nat × Nat) :=
  let dd := sumDest s c a
  match (rangeSources a).head? with
  | none => (List.range dd.count).map (fun i => (i / dd.cols, i % dd.cols, 0, 0))
  | some y => (List.range a.tiles).flatMap (fun t => (List.range 1024).filterMap (fun i =>
      let z := slotOfTile s a y t
      let m := 32 * z.m + i / 32
      let n := 32 * z.n + i % 32
      if m < min dd.rows z.out.rows ∧ n < min dd.cols z.out.cols then some (m, n, t, i) else none))

/-- The elements that a SUM without a mask stores (R185): each is the left fold of its terms in source order, poisoned where a term or
any slot named is. -/
def sumStores (s v : State) (c : Ctx) (a : GatherP) : List OutVal :=
  let slots := (rangeSources a).flatMap (fun x => (List.range a.tiles).map (slotOfTile s a x))
  (sumPlaces s c a).map (fun x =>
    let terms := (a.srcs.filterMap id).map (sumTerm s v c a x)
    ⟨x.1, x.2.1, (sumFold (terms.map (·.1))).1, slots.any (·.poison) || terms.any (·.2)⟩)

/-- A STREAM_COPY of a destination that this device holds whole, with elements, goes through (R265, R268, R282): its descriptors are
legal and of a legal format pair, SRC delivers DST's extents, and only a crozier copy is displaced; where it leaves SRC's
extents, OOB allows it; and a rotation has whole pieces, a JIT output its room. -/
def CopyRuns (c : Ctx) (s : State) (e : List Byte) : Prop :=
  let a := parseCopy e
  let d0 := readDesc s c.p a.src
  let t0 := readDesc s c.p a.dst
  let d := d0.localize s c.p
  let t := t0.localize s c.p
  validateFrond s c.p [{ h := a.src }, { h := a.dst, write := true, fmtOk := a.croz != 1 || quantSlotOk s c.p t0 }] = none ∧
  namesKeep s c.p e [a.src, a.dst] = false ∧ a.croz ≤ 1 ∧ (a.croz = 0 → ∀ x ∈ a.shift, x = 0) ∧ srcShape d0 = t0.ext ∧
  srcShape d = t.ext ∧ copySpreads d0 t0 d t = false ∧ copyPairOk d t a.croz = true ∧ d.count ≠ 0 ∧ t.count ≠ 0 ∧
  (leavesExtent d t a.shift = true → d.oob ≠ 0 ∧ (d.oob = 2 → t.blocked = true → t.space = 1)) ∧
  (a.croz = 1 → (t.wide = true → t.rotSize = 0 ∨ t.e 0 % 16 = 0) ∧ jitRoom s c [t] = true)

/-- An UPDATE of tensor `t` by program `pr` goes through (R224 to R226, R240, R243): the tensor may be updated and its last flip has
drained, its parameters are in their ranges, GRAD and MASK are legal and have the tensor's shape, the program names only
slots that the tensor has, and the vector engine is free. -/
def UpdateRuns (c : Ctx) (s : State) (e : List Byte) (t : TensorCfg) (pr : Prog) : Prop :=
  tensorCfg s c.p (p16 e 32) = some t ∧ t.updatable = true ∧ p8 e 34 = 0 ∧ p8 e 48 ≤ 3 ∧ keepsTensor s c.p e t = false ∧
  tensorDrained s c.p t.tensor = true ∧
  validate s c.p ({ h := p16 e 36, fmtOk := (readDesc s c.p (p16 e 36)).fam == 6 } :: maskUse (p16 e 50) t.rows t.cols) = none ∧
  boundProg (getFrond s c.f) (p8 e 35) c.n = some pr ∧
  ((readDesc s c.p (p16 e 36)).localize s c.p).ext = (masterDesc t (activeSet s c.p t)).ext ∧ updSlotsOk t pr = true ∧
  (getFrond s c.f).vrun = none

/-- What an UPDATE without a mask writes: every element that the run has stored of the master and of the state, in the alternate
set (R227). -/
def updateWrites (s : State) (c : Ctx) (t : TensorCfg) (r : VRun) : WSet :=
  let alt := alternateSet s c.p t
  let outs : List (Nat × Desc) := [(0, masterDesc t alt)] ++ (if t.slots > 0 then [(1, stateDesc t alt 0)] else []) ++
    (if t.slots > 1 then [(2, stateDesc t alt 1)] else [])
  outs.foldl (fun w o => (List.range (t.rows * t.cols)).foldl (fun w e =>
    match tblFind (storesOf r o.1) e with
    | some x => putWide w o.2 c.f (coordsOf o.2.ext e) x.val (r.poisoned.contains x.chunk)
    | none => w) w) []

/-- An EMIT_ONLY of tensor `t` goes through (R230, R243). -/
def EmitRuns (c : Ctx) (s : State) (e : List Byte) (t : TensorCfg) : Prop :=
  tensorCfg s c.p (p16 e 32) = some t ∧ p8 e 34 = 1 ∧ p8 e 48 ≤ 3 ∧ keepsTensor s c.p e t = false

/-! ### Messages -/

/-- A message of type `mtype` that is addressed to this device alone, on a channel that its type allows (R346), and that came
from a port fit for it or from this device itself (R347, R455). -/
def Delivered (s : State) (a : Arrival) (mtype : Nat) : Prop :=
  a.msg.mtype = mtype ∧ vcAllowed mtype a.vc = true ∧ isMcast a.msg = false ∧ s.fabric.addr = some a.msg.dst ∧
  (portOk s a.port = true ∨ s.fabric.addr = some a.msg.src)

/-- The state once a message has left its receive buffer and its SEQNO has been checked (R352). -/
def received (s : State) (a : Arrival) : State := checkSeq (takeMsg s a) a

/-- The open epoch and the tensor that a reduction message names, in this attempt, at partition `p` (R374, R383). -/
def NamesTensor (s : State) (a : Arrival) (p : Nat) (x : EpochSt) (t : RedTensor) : Prop :=
  redPartition s a.msg = some p ∧ epochByLow s p (bitsOf a.msg.addr 0 32) = some x ∧
  bitsOf a.msg.addr 51 3 = x.attempt ∧ x.tensorOf (bitsOf a.msg.addr 32 16) = some t

/-- A block that passes the checks of R388 and R391. -/
def BlockGood (s : State) (a : Arrival) (t : RedTensor) (b : Bfx) : Prop :=
  payloadBlocks a.msg.payload = [b] ∧ b.pass = bitsOf a.msg.addr 48 3 ∧ b.exp = expOf t b.pass ∧ b.block < t.blocks ∧
  ((teamOf s t).g.residue && residueBad b) = false

/-- The message sent last is the response to `m`, on a channel, with a type, a status and a payload (R346). -/
def Answers (t : State) (vc : Nat) (m : Msg) (mtype status : Nat) (payload : List Byte) : Prop :=
  ∃ o, t.fabric.outq.getLast? = some o ∧ o.vc = vc ∧ o.msg.dst = m.src ∧ o.msg.tag = m.tag ∧ o.msg.mtype = mtype ∧
    o.msg.status = status ∧ o.msg.payload = payload

/-- A multicast message of type `mtype` that may go on by every port of its group's tree (R358). -/
def DeliveredTree (s : State) (a : Arrival) (mtype : Nat) : Prop :=
  a.msg.mtype = mtype ∧ a.vc = 15 ∧ isMcast a.msg = true ∧ treeReady s a = true ∧ portOk s a.port = true

/-! ### Flits -/

/-- Port `p` takes flits, and the flit passes the CRC check (R332, R338); `h` is its header, and it asks for no replay. -/
def GoodFlit (s : State) (p : Nat) (fl : FlitIn) (h : LinkHead) : Prop :=
  ((getPort s p).state = .up ∨ (getPort s p).state = .ident) ∧ fl.fecBad = false ∧ fl.bytes.length = 256 ∧
  leAt fl.bytes 252 4 = crc32c (sliceB fl.bytes 0 252) ∧ h = parseHead (leAt fl.bytes 0 8) ∧ h.nak = false

/-- The port once the fields of a flit's header have been taken (R335 to R337). -/
def fieldsTaken (s : State) (p : Nat) (h : LinkHead) : PortSt := getPort (takeFields s p h) p

/-! ### Registers -/

/-- An access that R9 names: narrow, misaligned, or to an unassigned offset. -/
def BadAccess (s : State) (a : Access) : Prop :=
  a.width = .narrow ∨ (a.width = .w32 ∧ a.off % 4 ≠ 0) ∨ (a.width = .w64 ∧ a.off % 8 ≠ 0) ∨ assigned s (a.off / 8 * 8) = false

/-! ### Mailboxes and services -/

/-- GO and DONE of a channel's control register (R485). -/
def goBit (s : State) (c : Nat) : Bool := bitOf (getReg s (mbxCtrl c)).toNat 0
def doneBit (s : State) (c : Nat) : Bool := bitOf (getReg s (mbxCtrl c)).toNat 1

/-- A request of channel `c` has its reply (R486): GO is clear, DONE set, and STATUS holds `st`. -/
def Replied (t : State) (c st : Nat) : Prop :=
  goBit t c = false ∧ doneBit t c = true ∧ bitsOf (getReg t (mbxCtrl c)).toNat 8 8 = st

/-- Bit `k` of the cause register of interrupt block `b` is 1 (R492). -/
def Caused (t : State) (b k : Nat) : Prop := bitOf (getReg t (causeOff b)).toNat k = true

/-- The records that LOG_COPY finds from SEQ `first` on, `count` numbers long, as their bytes (R488). -/
def loggedRun (s : State) (first count : Nat) : List (List Byte) :=
  (List.range count).filterMap (fun i => if first + i = 0 then none
    else (findRecord s (first + i)).map (fun r => r.bytes (first + i)))

/-- The state in which a delivered fabric control message acts: the lichen core has been woken (R468). -/
def atLichen (s : State) (a : Arrival) : State := wakeLichen (received s a)

/-- A link-local message of type `mtype` on the channel of such messages (R346, R454), and the state in which it acts: the message
has left its receive buffer and the lichen core has been woken. -/
def LinkMsg (a : Arrival) (mtype : Nat) : Prop := a.msg.mtype = mtype ∧ a.vc = 8
def atLink (s : State) (a : Arrival) : State := wakeLichen (takeMsg s a)

/-- Entries of fragments that have arrived for a run and round of gossip. -/
def heardOf (g : GossipSt) (run round : Nat) : List (Nat × Nat × Nat × Nat) :=
  g.got.filter (fun x => x.2.1 == run && x.2.2.1 == round)

/-! ### Barriers -/

/-- The join that a BARRIER_JOIN carries (R463), and a barrier's record with that join held, the latest of its sender and level. -/
def joinOf (m : Msg) : JoinMsg := ⟨m.src, leAt m.payload 20 1, leAt m.payload 18 2, leAt m.payload 8 8⟩
def withJoin (b : BarrierSt) (m : Msg) : BarrierSt :=
  { b with joins := b.joins.filter (fun x => !(x.src == (joinOf m).src && x.level == (joinOf m).level)) ++ [joinOf m] }

/-- Every other participant of device `d`'s colony has joined (R464). -/
def colonyWhole (b : BarrierSt) (d : Nat) : Prop :=
  ∀ m ∈ inBarrierColony b (d / 16), m ≠ d → ∃ j ∈ b.joins, j.src = m ∧ j.level = 0

/-! ### Accesses -/

/-- The offsets of the access-error cause, of its occurrence counts and of the access log (R9, R492). -/
def errorOffs : List Nat := [causeOff 8, INT_COUNT0_COUNT.at 8, INT_ACCESS_LOG_VALID.off]

/-- An access changed nothing but what an access error leaves: the cause bit of its requester is 1, and its counts and the access log
may have changed. -/
def OnlyErrored (s t : State) (req : Requester) : Prop :=
  Caused t 8 (reqCode req) ∧ (∀ off, off ∉ errorOffs → getReg t off = getReg s off) ∧ t.mem = s.mem ∧ t.queues = s.queues ∧
  t.fronds = s.fronds ∧ t.parts = s.parts ∧ t.ports = s.ports ∧ t.cfg = s.cfg ∧ t.flash = s.flash ∧ t.mgmt = s.mgmt ∧
  t.power = s.power ∧ t.dbgPort = s.dbgPort ∧ t.dev = s.dev

/-- What a 64-bit write of `v` leaves in a field by its access type, and what a performed read leaves (R10, R12). -/
def writtenField (f : FieldDef) (old v : Nat) : Nat :=
  match f.acc with
  | .rw => bitsOf v f.lo f.width
  | .w1c => (BitVec.ofNat 64 (bitsOf old f.lo f.width) &&& ~~~(BitVec.ofNat 64 (bitsOf v f.lo f.width))).toNat
  | _ => bitsOf old f.lo f.width
def readField (f : FieldDef) (old : Nat) : Nat := if f.acc = .rc then 0 else bitsOf old f.lo f.width

/-! ### Power and start-up -/

/-- The device has entered BOOT from `s` (R319, R441, R448, R516): one more entry is counted, the built-in settings act, nothing of
partitions, queues and ports is left, the debug port is closed, and HOST_MODE is the retained copy or else HOST_SEL. -/
def Booted (s t : State) : Prop :=
  t.dev = .boot ∧ t.flash.boots = s.flash.boots + 1 ∧ t.cfg.committed = CfgSt.reset.committed ∧ t.cfg.staged = none ∧
  t.parts = [] ∧ t.queues = [] ∧ t.ports = [] ∧ t.dbgPort.opened = false ∧ t.stipe = s.flash.hostMode.getD t.pins.hostSel ∧
  t.mem = s.mem

/-- The device has entered STANDBY (R319): memory and everything on chip is lost, and the log queue is kept (R478), with the
records of the repairs of a SERVICE left so after it (R306). -/
def StoodBy (s t : State) : Prop :=
  t.dev = .standby ∧ t.mem = [] ∧ t.fronds = [] ∧ t.parts = [] ∧ t.queues = [] ∧ t.ports = [] ∧
  ∃ l, t.mgmt.queue = s.mgmt.queue ++ l ∧ (s.mgmt.repairs = [] → l = [])

/-! ### The debug port -/

/-- The port is powered and open, and commands go to target `n` (R510, R514). -/
def DebugOpen (s : State) (n : Nat) : Prop := portPowered s = true ∧ s.dbgPort.opened = true ∧ s.dbgPort.target = n

/-- The scans that the port takes only while it is open, with the bits each shifts (R510, R514). -/
def openScans : List (Instr × List Bool) :=
  [(.halt, cmdBits 1 0 0 0), (.run, cmdBits 2 0 0 0), (.step, cmdBits 3 0 0 0)]
def openScansN (n addr : Nat) : List (Instr × List Bool) :=
  [(.bpSet n addr, cmdBits 4 0 n addr), (.bpClr n, cmdBits 5 0 n 0), (.dbgRead n addr, cmdBits 0x10 n 0 addr),
   (.dbgWrite n addr, cmdBits 0x11 n 0 addr), (.dbgSel addr, bitsLsb 16 addr)]

end Sys2Proof.Claims
end

