-- ==== Sys2Proof/Certificates/Slice0/Obligations.lean ====
section
/-! DEFINITION. The statements of this slice: each a claim about the machine of Machine/, in the terms of Claims.lean, Frame.lean
and Safety.lean. -/

open Sys2Proof Sys2Proof.Machine Sys2Proof.Safety Sys2Proof.Frame Sys2Proof.Claims

/-- A step at a state with command c at the front of its queue is exec of c on the state with the rest of the queue. -/
def Obligations.StepRunsFront : Prop :=
  ∀ (c : Instr) (s : State) (rest : List Instr), s.pending = c :: rest → step s = exec c { s with pending := rest }

/-- With no command waiting, a step counts the local counter up by one once the always-on island is out of reset, and changes
nothing else (the model's choice, log 1). -/
def Obligations.EmptyQueueTicks : Prop :=
  ∀ s : State, s.pending = [] →
    (s.island = true → step s = .next { s with counter := s.counter + 1 }) ∧ (s.island = false → step s = .next s)

/-- After reset the device is in BOOT, no command waits, every register stands at its reset value, every byte of memory reads as
the model's 0 (log 15), every queue is empty, every partition IDLE and every port DOWN, and both counters of flash are those of
manufacture (log 14). At reset memory, the register file and the tables of queues, fronds, partitions and ports are in canonical form. -/
def Obligations.ResetHolds : Prop :=
  (State.reset.dev = .boot ∧ State.reset.pending = [] ∧
  (∀ off, getReg State.reset off = BitVec.ofNat 64 (regReset off)) ∧ (∀ k, readByte State.reset k = 0) ∧
  (∀ q, getQ State.reset q = QueueSt.empty) ∧ (∀ p, (getPart State.reset p).state = .idle) ∧
  (∀ p, (getPort State.reset p).state = .down) ∧ State.reset.flash.imageCtr = 0 ∧ State.reset.flash.fwCtr = 0) ∧
  (MemOk State.reset ∧ TablesOk State.reset)

/-- From every state whose memory, unit marks and upsets are in canonical form, every step that answers a next state keeps them
so, whatever command stands at the front. -/
def Obligations.StepKeepsMemory : Prop := ∀ s t : State, MemOk s → step s = .next t → MemOk t

/-- From every state whose register file and tables of queues, fronds, partitions and ports are in canonical form, every step
that answers a next state keeps them so. -/
def Obligations.StepKeepsTables : Prop := ∀ s t : State, TablesOk s → step s = .next t → TablesOk t

/-- For every command and state: what the command leaves outside its areas is as it was. An area is a field of the state; for
`mem` that is every byte of memory. `touches` lists the areas of each command. The commands that wait are the same after every
command; and after a command that stores nothing, reading one byte at any address gives what it gave. -/
def Obligations.Frame : Prop :=
  ((∀ (c : Instr) (s t : State) (a : Area), exec c s = .next t → a ∉ touches c → a.same s t) ∧
  (∀ (c : Instr) (s t : State), exec c s = .next t → t.pending = s.pending)) ∧
  (∀ (c : Instr) (s t : State) (k : Nat), exec c s = .next t → Area.mem ∉ touches c → readByte t k = readByte s k)

/-- Whatever command runs, in whatever state, the image, firmware and floorplan counters of R506 do not decrease, and neither do
the number of entries into BOOT, the next log number, the erase blocks erased and the enrolment number. -/
def Obligations.CountersNeverDecrease : Prop := ∀ s t : State, step s = .next t → FlashUp s.flash t.flash

/-- No command stops the machine: from every state, a step answers a next state. -/
def Obligations.EveryStepGoesOn : Prop := ∀ s : State, Goes s

/-- FADD, FSUB, FMUL, FFMA, FMIN, FMAX, FABS, FNEG, SEL, IADD, ISUB, IMUL, AND, OR, XOR, SHL, SHR, SAR, CVT, EXP2, LOG2, RCP,
SQRT, RSQRT, SINPI, COSPI, FDIV, RAND, COORD and MOVI: where the frond's run stands at such an instruction, the command answers a
next state in which every lane whose guard is true has DST at the operation's value of its own sources and every other lane is
as it was; the run goes on at the next instruction, and its stores, faults and poisoned chunks, memory and every other frond are
as they were. FCMP and ICMP: where the frond's run stands at such an instruction, the command answers a next state in which every lane
whose guard is true has predicate K[DST mod 8] at the comparison that MOD names and every other lane is as it was; registers,
stores and faults are as they were. -/
def Obligations.LaneOperations : Prop :=
  (∀ row ∈ aluRows, ∀ (f : Nat) (s : State) (r : VRun) (i : PIns), TablesOk s → AtInstr s f r i → i.op = row.op →
    ∃ t r', exec (row.cmd f) s = .next t ∧ (getFrond t f).vrun = some r' ∧
      r'.pc = r.pc + 1 ∧ r'.stores = r.stores ∧ r'.faults = r.faults ∧ r'.poisoned = dedupNat r.poisoned ∧
      r'.lanes = r.lanes.map (fun x => if guardOf i x then
        { x with regs := x.regs.modify i.dst (fun _ => row.val r.cfg i x) } else x) ∧
      t.mem = s.mem ∧ t.units = s.units ∧ (∀ g, g ≠ f → getFrond t g = getFrond s g)) ∧
  (∀ row ∈ predRows, ∀ (f : Nat) (s : State) (r : VRun) (i : PIns), TablesOk s → AtInstr s f r i → i.op = row.op →
    ∃ t r', exec (row.cmd f) s = .next t ∧ (getFrond t f).vrun = some r' ∧
      r'.pc = r.pc + 1 ∧ r'.stores = r.stores ∧ r'.faults = r.faults ∧
      r'.lanes = r.lanes.map (fun x => if guardOf i x then
        { x with preds := putBits x.preds (i.dst % 8) 1 (if row.val r.cfg i x then 1 else 0) } else x) ∧
      t.mem = s.mem ∧ t.units = s.units ∧ (∀ g, g ≠ f → getFrond t g = getFrond s g))

/-- RSUM, RMAX and RMIN: every lane whose guard is true has DST at the reduction of source A over the lanes of its own row whose
guards are true, in pieces of 256 by a pairwise tree and then from the left (R201), or at the operation's identity where no lane
takes part; every other lane is as it was. -/
def Obligations.LaneReductions : Prop :=
  ∀ row ∈ redRows, ∀ (f : Nat) (s : State) (r : VRun) (i : PIns), TablesOk s → AtInstr s f r i → i.op = row.op →
    ∃ t r', exec (row.cmd f) s = .next t ∧ (getFrond t f).vrun = some r' ∧
      r'.pc = r.pc + 1 ∧ r'.stores = r.stores ∧ r'.faults = r.faults ∧
      r'.lanes = r.lanes.map (fun x => if guardOf i x then
        { x with regs := x.regs.modify i.dst (fun _ =>
            (rowReduce row.f ((r.lanes.filter (fun y => y.row == x.row && guardOf i y)).map (srcA i))).getD row.empty) }
        else x) ∧
      t.mem = s.mem ∧ t.units = s.units ∧ (∀ g, g ≠ f → getFrond t g = getFrond s g)

/-- LD, BCR, BCC and PERM: every lane whose guard is true has DST at the value its load, broadcast or permutation gives, and after a
load of IN0 notes whether the value is padding; faults of lanes are added to the run's faults, and every other lane is as it was.
ST: no lane changes, and every lane whose guard is true adds source A, with that note, to the run's stores at its own element. No
byte of memory changes before the run ends. -/
def Obligations.LaneLoadsAndStores : Prop :=
  (∀ row ∈ loadRows, ∀ (f : Nat) (s : State) (r : VRun) (i : PIns), TablesOk s → AtInstr s f r i → i.op = row.2 →
    ∃ t r', exec (row.1 f) s = .next t ∧ (getFrond t f).vrun = some r' ∧ r'.pc = r.pc + 1 ∧ r'.stores = r.stores ∧
      r'.lanes = r.lanes.map (fun x => if guardOf i x then
        { applyAct i x (loadRes s f r i x).act with pad := (loadRes s f r i x).pad.getD x.pad } else x) ∧
      r'.faults = r.faults ++ (r.lanes.filter (fun x => guardOf i x && (loadRes s f r i x).fault != 0)).map
        (fun x => ⟨x.chunk, x.lane, r.pc, (loadRes s f r i x).fault⟩) ∧
      t.mem = s.mem) ∧
  (∀ (f : Nat) (s : State) (r : VRun) (i : PIns), TablesOk s → AtInstr s f r i → i.op = 0x31 →
    ∃ t r', exec (.st f) s = .next t ∧ (getFrond t f).vrun = some r' ∧ r'.pc = r.pc + 1 ∧ r'.lanes = r.lanes ∧
      r'.faults = r.faults ∧
      r'.stores = r.stores ++ (r.lanes.filter (guardOf i)).map (fun x => ⟨i.slot, x.elem, x.chunk, srcA i x, x.pad⟩) ∧
      t.mem = s.mem)

/-- END: while rows remain, the next bundle becomes resident at the program's start and nothing else changes. After the last
bundle the run's outputs are stored, the run is gone from the frond, and its entry may complete with the run's status. -/
def Obligations.EndOfBundle : Prop :=
  ∀ (f : Nat) (s : State) (r : VRun) (i : PIns) (p : Nat), AtInstr s f r i → i.op = 0x3F → ownerOfFrond s f = some p →
    ((nextBundle r).lanes ≠ [] →
      exec (.endChunk f) s = .next (modFrond s f (fun x => { x with vrun := some (nextBundle r) }))) ∧
    ((nextBundle r).lanes = [] → ∃ s1 st bad,
      finishRun s { p := p, f := f, q := r.q, n := r.n, e := r.entry, mb := r.mb, rerun := false } r = (s1, st, bad) ∧
      exec (.endChunk f) s = .next (settleRun (countOutcome (modFrond s1 f (fun x => { x with vrun := none })) r.q false st bad)
        r.q r.n st))

/-- NOP: an entry free to issue whose STATUS byte is 0 or at least 0x80 issues and will complete with that status. FENCE: an entry
free to issue whose flags are below 8 issues and will complete with OK. Neither changes anything else than the queue's counts,
the live entries and what an issue clears. A NOP whose STATUS is from 1 to 0x7F, and a FENCE whose flags name a reserved bit, are rejected with BAD_DESCRIPTOR. -/
def Obligations.NopAndFence : Prop :=
  ((∀ (q : QueueId) (n : W32) (s : State), FreeToIssue s q n 0x00 [(32, 1)] →
    (p8 (entryBytes s q n) 32 = 0 ∨ 0x80 ≤ p8 (entryBytes s q n) 32) →
    exec (.nop q n) s = .next (issued s (atBody s q n) q n (p8 (entryBytes s q n) 32) false .done)) ∧
  (∀ (q : QueueId) (n : W32) (s : State), FreeToIssue s q n 0x01 [(32, 1)] → p8 (entryBytes s q n) 32 < 8 →
    exec (.fence q n) s = .next (issued s (atBody s q n) q n stOK false .done))) ∧
  ((∀ (q : QueueId) (n : W32) (s : State), FreeToIssue s q n 0x00 [(32, 1)] →
    (0 < p8 (entryBytes s q n) 32 ∧ p8 (entryBytes s q n) 32 < 0x80) → exec (.nop q n) s = .next (rejected s q n stBadDesc 0)) ∧
  (∀ (q : QueueId) (n : W32) (s : State), FreeToIssue s q n 0x01 [(32, 1)] → 8 ≤ p8 (entryBytes s q n) 32 →
    exec (.fence q n) s = .next (rejected s q n stBadDesc 0)))

/-- Where an entry has issued: the queue's live entries are those before and the entry with its header, status and wait; ISSUED
has passed the entry; every other queue, every frond, every partition and every byte of memory is as it was. -/
def Obligations.IssuedEntryIsLive : Prop :=
  ∀ (s s1 : State) (q : QueueId) (n : W32) (st : Nat) (k : Bool) (w : WaitFor), TablesOk s1 →
    (getQ (issued s s1 q n st k w) q).live = (getQ s1 q).live ++ [hdr (entryBytes s q n) st 0 n (resumedEntry s q n) w] ∧
    (getQ (issued s s1 q n st k w) q).issued = (getQ s1 q).issued.add n ∧
    (∀ r, qNum r ≠ qNum q → getQ (issued s s1 q n st k w) r = getQ s1 r) ∧
    (issued s s1 q n st k w).mem = s1.mem ∧ (issued s s1 q n st k w).fronds = s1.fronds ∧
    (issued s s1 q n st k w).parts = s1.parts

/-- COMMAND_COMPLETE of a live entry that waits for nothing, is not held at a COMMIT_POINT and awaits no repeat, and whose status
is not CHECK_FAIL, of any command but FENCE, whose place in the completion ring the queue reaches: the sixteen bytes of its record
stand there, and every byte of HBM and cache that the record does not cover is as it was; the entry is no longer live, and the
queue's halted entries are those before, and the entry too where its status halts. -/
def Obligations.CompletionWritesRecord : Prop :=
  ∀ (q : QueueId) (n : W32) (s : State) (i : Issued), MemOk s → TablesOk s →
    (getQ s q).live.find? (fun x => x.n == n) = some i → i.waits = .done → NoRepeat s q n → heldFence s q i = false →
    mismatched s q n = false → i.status ≠ stCheckFail → i.opcode ≠ 0x01 →
    ringReach s q (cqBase s q + 16 * (n.toNat % 2 ^ ringLog2 s q)) 16 = true →
    ∃ t, exec (.commandComplete q n) s = .next t ∧
      readBytes t (cqBase s q + 16 * (n.toNat % 2 ^ ringLog2 s q)) 16 = recordBytes i false ∧
      (∀ k, (k < localBase ∨ cacheBase ≤ k) → (k < cqBase s q + 16 * (n.toNat % 2 ^ ringLog2 s q) ∨
        cqBase s q + 16 * (n.toNat % 2 ^ ringLog2 s q) + 16 ≤ k) → readByte t k = readByte s k) ∧
      (∀ x ∈ (getQ t q).live, x.n ≠ n) ∧
      (halting i.status = true → (getQ t q).halted = (getQ s q).halted ++ [i]) ∧
      (halting i.status = false → (getQ t q).halted = (getQ s q).halted)

/-- TAIL: a 32-bit or 64-bit write of a value that does not overrun the ring, counted from COMPLETED, makes it the TAIL. RESUME: where the queue takes control actions and an entry is halted, the halted entry of lowest order is
exposed again. SKIP: there that entry's record is written with SKIPPED, its mark counts where its header asks so, and it is
halted no more. The shadows of the requester for the register are gone in each. A TAIL that overruns the ring, and a RESUME or SKIP
of a queue with no halted entry or in a state that takes no control actions, leave every queue as it was and raise the access error of kind 3 (R309, R325, R9). A narrow TAIL raises kind 0. -/
def Obligations.TailResumeSkip : Prop :=
  ((∀ (q : QueueId) (a : Requester) (w : AccWidth) (v : W64) (s : State), w ≠ .narrow → Reached s a (qBase q + 0x10) →
    ((v.setWidth 32 - (getQ s q).record.count).toNat ≤ 2 ^ ringLog2 s q) →
    exec (.tail q a w v) s = .next (setQ (dropShadow s a) q { getQ s q with tail := v.setWidth 32 })) ∧
  (∀ (q : QueueId) (a : Requester) (s : State) (i : Issued), haltPos (getQ s q) = some i → ctrlOpen s q = true →
    Reached s a (qBase q + 0x20) →
    exec (.resume q a) s = .next (setQ (dropShadow s a) q { getQ s q with
        halted := (getQ s q).halted.filter (fun y => y.n != i.n), redo := (getQ s q).redo ++ [i.n] })) ∧
  (∀ (q : QueueId) (a : Requester) (s : State) (i : Issued), haltPos (getQ s q) = some i → ctrlOpen s q = true →
    Reached s a (qBase q + 0x20) →
    ∃ s2, s2 = writeRecord (setQ (dropShadow s a) q { getQ s q with
        halted := (getQ s q).halted.filter (fun y => y.n != i.n) }) q { i with resumed := false } true ∧
      exec (.skip q a) s = .next (if bitOf i.flags 3 then signalMark s2 q i.signal else s2))) ∧
  ((∀ (q : QueueId) (a : Requester) (w : AccWidth) (v : W64) (s : State), Reached s a (qBase q + 0x10) → w ≠ .narrow →
    2 ^ ringLog2 s q < (v.setWidth 32 - (getQ s q).record.count).toNat →
    exec (.tail q a w v) s = .next (accessError (dropShadow s a) a (qBase q + 0x10) 3)) ∧
  (∀ (q : QueueId) (a : Requester) (v : W64) (s : State), Reached s a (qBase q + 0x10) →
    exec (.tail q a .narrow v) s = .next (accessError (dropShadow s a) a (qBase q + 0x10) 0)) ∧
  (∀ (q : QueueId) (a : Requester) (s : State), haltPos (getQ s q) = none ∨ ctrlOpen s q = false →
    Reached s a (qBase q + 0x20) →
    exec (.resume q a) s = .next (accessError (dropShadow s a) a (qBase q + 0x20) 3) ∧
    exec (.skip q a) s = .next (accessError (dropShadow s a) a (qBase q + 0x20) 3)))

/-- COMMAND_COMPLETE of a live FENCE of a partition that no COMMIT holds: its flags take effect in bit order, and then the entry takes
its outcome. Flag 0 adds 1 to the pad epoch. Flag 2 makes a complete and newer INCOMING copy the ACTIVE one, its bytes in the
receive region (log 103), and the former ACTIVE the INCOMING one; while no copy is ACTIVE, any complete INCOMING is newer (the model's
choice, log 104). Otherwise it leaves ACTIVE and writes a record of type 0x0101 with both versions. -/
def Obligations.FenceActsAtCompletion : Prop :=
  (∀ (q : QueueId) (n : W32) (p : Nat) (s : State) (i : Issued), (getQ s q).live.find? (fun x => x.n == n) = some i →
    i.waits = .done → i.opcode = 0x01 → NoRepeat s q n → heldFence s q i = false → mismatched s q n = false →
    queueOwner s q = some p →
    exec (.commandComplete q n) s = .next (concludeEntry (fenceActions s q p i.param) q i)) ∧
  (∀ (q : QueueId) (p flags : Nat) (s : State), fenceActions s q p flags =
    (if bitOf flags 2 then fenceActions (if bitOf flags 0 then fenceActions s q p 1 else s) q p 4
      else if bitOf flags 0 then fenceActions s q p 1 else s)) ∧
  (∀ (q : QueueId) (p : Nat) (s : State), fenceActions s q p 1 = modPart s p (fun x => { x with padEpoch := (x.padEpoch + 1) % 2 ^ 64 })) ∧
  (∀ (q : QueueId) (p : Nat) (s : State) (c : CopySt), (getPart s p).incoming = some c → c.complete = true →
    (∀ a, (getPart s p).active = some a → a.version < c.version) →
    fenceActions s q p 4 = setPart (writeSet s c.cells).1 p { getPart s p with
      active := some { c with cells := [] }, incoming := (getPart s p).active.map (fun a => { a with complete := false }) }) ∧
  (∀ (q : QueueId) (p : Nat) (s : State),
    (∀ c, (getPart s p).incoming = some c → c.complete = false ∨ ∃ a, (getPart s p).active = some a ∧ c.version ≤ a.version) →
    fenceActions s q p 4 = queueEvent s q 0x0101 0 (leBytes 8 (((getPart s p).active.map (·.version)).getD 0) ++
      leBytes 8 (((getPart s p).incoming.map (·.version)).getD 0)))

/-- MATMUL: an entry free to issue that goes through issues with OK, FORMAT (an invalid group table, R47) or POISON_CONSUMED. Every
slot of its region is then ACTIVE with the entry and its HOLD, and names the GEMM, its extents, the tile, the segment and USE of
the entry; its entries are those of the array's tile, from zero, or with CONT = 1 from the entries that the slot held; and with
CONT = 0 its scales are the operands'. Every slot outside the region is as it was, and so is every byte of memory. -/
def Obligations.MatmulFillsSlots : Prop :=
  ∀ (f : Nat) (n : W32) (s : State), TablesOk s → FreeToIssue s (.frond f) n 0x10 matmulUsed →
    let e := entryBytes s (.frond f) n
    let c := ctxOf s (.frond f) n 0
    let a := parseMatmul e
    let s0 := atBody s (.frond f) n
    let dl := (readDesc s0 c.p a.left).localize s0 c.p
    let dr := (readDesc s0 c.p a.right).localize s0 c.p
    let l := readSide s0 c.p dl
    let r := readSide s0 c.p dr
    let kb := opLength l true / 16
    let g := gemmIntervals s0 c.p f a.gemm dl dr
    let k0 := if g.2.1 = 0 then 0 else a.seg * g.2.1
    let k1 := if g.2.1 = 0 then kb else min kb (k0 + g.2.1)
    let sa := (readScale s0 c.p dl).getD one32
    let sb := (readScale s0 c.p dr).getD one32
    let ex (x : W32) : Int := (pow2Exp x).getD 0
    MatmulRuns c s0 e →
    ∃ s1 st k v, exec (.matmul (.frond f) n) s = .next (issued s s1 (.frond f) n st k .done) ∧
      (st = stOK ∨ st = stFormat ∨ st = stPoison) ∧ s1.mem = s.mem ∧ v.mem = s.mem ∧
      (∀ t ∈ regionTiles a.base a.tm a.tn a.mt a.nt,
        let x := getSlot s1 f t.1
        let old := getSlot s0 f t.1
        x.state = .active n (a.hold == 1) ∧ x.seg = a.seg ∧ x.segTo = a.seg ∧ x.use = a.use ∧ x.m = t.2.1 ∧ x.n = t.2.2 ∧
        x.out = ⟨gemmLayer s0 c.p dl dr, a.gemm, opLines l true, opLines r false⟩ ∧
        (a.cont = 0 → x.sa = sa ∧ x.sb = sb ∧
          x.vals = (runTile v f l r g.1 k0 k1 t.2.1 t.2.2 (List.replicate 1024 pzero32) 0).vals) ∧
        (a.cont = 1 → x.sa = old.sa ∧ x.sb = old.sb ∧
          x.vals = (runTile v f l r g.1 k0 k1 t.2.1 t.2.2 old.vals (ex sa + ex sb - ex old.sa - ex old.sb)).vals)) ∧
      (∀ h i, (h = f → ∀ t ∈ regionTiles a.base a.tm a.tn a.mt a.nt, t.1 ≠ i) → getSlot s1 h i = getSlot s0 h i)

/-- STORE_TILES: an entry free to issue whose own checks pass, with elements to store, issues with OK or POISON_CONSUMED. With RETAIN = 0 every slot of its
range is EMPTY afterwards; with RETAIN = 1 every slot of its range is as it was at issue, and DONE. With one wide destination, no mask and
MODE = 0, every byte of memory stands as the store path leaves it after the scaled values of the slots, in canonical element
order. -/
def Obligations.StoreTilesStores : Prop :=
  ∀ (f : Nat) (n : W32) (mb : Nat) (s : State), TablesOk s → FreeToIssue s (.frond f) n 0x11 storeUsed →
    let c := ctxOf s (.frond f) n mb
    let a := parseStore (entryBytes s (.frond f) n)
    let s0 := atBody s (.frond f) n
    let d := (readDesc s0 c.p a.da).localize s0 c.p
    let slots := (List.range' a.base (a.tm * a.tn)).map (getSlot s0 f)
    let vals := (slots.flatMap (fun x => (slotValues x d.rows d.cols).1)).map (fun o => { o with poison := slots.any (·.poison) })
    Accepts (storeBody c s0 (entryBytes s (.frond f) n)) →
    (d.count ≠ 0 ∨ (a.db ≠ 0xFFFF ∧ ((readDesc s0 c.p a.db).localize s0 c.p).count ≠ 0)) →
    ∃ s1 st k, exec (.storeTiles (.frond f) n mb) s = .next (issued s s1 (.frond f) n st k .done) ∧
      (st = stOK ∨ st = stPoison) ∧
      (a.retain = 0 → ∀ i, a.base ≤ i → i < a.base + a.tm * a.tn → getSlot s1 f i = SlotSt.empty) ∧
      (a.retain = 1 → ∀ i, a.base ≤ i → i < a.base + a.tm * a.tn →
        getSlot s1 f i = getSlot s0 f i ∧ (getSlot s1 f i).state = .done) ∧
      (d.blocked = false → a.db = 0xFFFF → a.mask = 0xFFFF → a.mode = 0 →
        s1.mem = (commitWrites s0 f (wideStore s0 f d false vals []).w).mem)

/-- GATHER_ADD FOLD: an entry free to issue that goes through issues with OK or POISON_CONSUMED; no byte of memory changes; at each
tile, the first source's slot holds the segment fold of the sources' entries in source order, up to the last source's segment,
and every other source's slot is EMPTY. GATHER_ADD SUM: an entry free to issue that goes through issues with OK or
POISON_CONSUMED, and every slot of every frond is as it was at issue; without a mask, memory stands as the store path leaves it
after every element of DEST, or of the tiles held, has taken the left fold of its sources' values, scaled where they are slots. -/
def Obligations.GatherAddFoldsAndSums : Prop :=
  (∀ (k : Nat) (n : W32) (s : State), TablesOk s →
    FreeToIssue s (.cushion k) n 0x18 (gatherUsed (entryBytes s (.cushion k) n)) →
    let e := entryBytes s (.cushion k) n
    let c := ctxOf s (.cushion k) n 0
    let a := parseGather e
    let s0 := atBody s (.cushion k) n
    FoldRuns c s0 e →
    ∃ s1 st b, exec (.gatherAddFold (.cushion k) n) s = .next (issued s s1 (.cushion k) n st b .done) ∧
      (st = stOK ∨ st = stPoison) ∧ s1.mem = s.mem ∧
      (∀ t < a.tiles, ∀ h l, foldColumn a t = h :: l →
        (getSlot s1 h.1 h.2).state = .done ∧ (getSlot s1 h.1 h.2).seg = 0 ∧
        (getSlot s1 h.1 h.2).segTo = (getSlot s0 (l.getLastD h).1 (l.getLastD h).2).segTo ∧
        (getSlot s1 h.1 h.2).vals = (List.range 1024).map (fun i =>
          (foldSegs ((h :: l).map (fun x => (getSlot s0 x.1 x.2).vals.getD i pzero32))).1) ∧
        ∀ x ∈ l, getSlot s1 x.1 x.2 = SlotSt.empty)) ∧
  (∀ (k : Nat) (n : W32) (s : State), TablesOk s →
    FreeToIssue s (.cushion k) n 0x18 (gatherUsed (entryBytes s (.cushion k) n)) →
    let e := entryBytes s (.cushion k) n
    let c := ctxOf s (.cushion k) n 0
    let a := parseGather e
    let s0 := atBody s (.cushion k) n
    SumRuns c s0 e →
    ∃ s1 st b v, exec (.gatherAddSum (.cushion k) n) s = .next (issued s s1 (.cushion k) n st b .done) ∧
      (st = stOK ∨ st = stPoison) ∧ (∀ f i, getSlot s1 f i = getSlot s0 f i) ∧ v.mem = s.mem ∧
      (a.mask = 0xFFFF → s1.mem =
        (writeSet v (wideStore v c.f (sumDest s0 c a) false (sumStores s0 v c a) []).w).1.mem))

/-- A write set reaches memory through the store path: every byte whose key it does not list reads as before. -/
def Obligations.CommitWritesFrame : Prop :=
  ∀ (s : State) (f : Nat) (w : WSet) (k : Nat), MemOk s → (∀ e ∈ w, e.1 ≠ k) → readByte (commitWrites s f w) k = readByte s k

/-- LAYER_CHECK: an entry free to issue that names a layer the ladder counts, a pass of 0 or 1 and no RECOMPUTE, while no repeats are
under way and no other check goes before it (log 115). Where the layer's count of troubled blocks does not exceed its threshold,
or no fall-back may follow, it issues, will complete with OK, and the layer holds the counts with those of the micro-batch and
nothing else of the partition has changed. Where it exceeds the threshold, the state is the one that the fall-back makes, and the
entry waits while a repeat still waits for its slot. -/
def Obligations.LayerCheckCounts : Prop :=
  ∀ (p : Nat) (q : QueueId) (n : W32) (s : State) (lc : LayerCfg), queueOwner s q = some p → FreeToIssue s q n 0x12 [(32, 5), (40, 4)] →
    let e := entryBytes s q n
    let c := ctxOf s q n 0
    let s0 := atBody s q n
    let st := countUp s0 p (p32 e 32) (p8 e 36) (p32 e 40)
    (ladderLayers s0 p).find? (fun l => l.layer == p32 e 32) = some lc → p8 e 36 ≤ 1 → recompute e = false →
    (getPart s0 p).repeats = none → earlierCheck s0 c = false →
    ((¬ (st.q < st.t * 2 ^ lc.thrLog2 ∧ (getPart s0 p).storm = none ∧ isRollout s0 p = false ∧
        layerRung s0 p (p32 e 32) (p8 e 36) < 3)) →
      exec (.layerCheck q n) s = .next (issued s (modPart s0 p (fun x => modLayer x (p32 e 32) (p8 e 36) (fun _ => st)))
        q n stOK false .done)) ∧
    (st.q < st.t * 2 ^ lc.thrLog2 → (getPart s0 p).storm = none → isRollout s0 p = false →
      layerRung s0 p (p32 e 32) (p8 e 36) < 3 →
      let s1 := fallBack s0 c lc (p8 e 36) (p32 e 40) st
      exec (.layerCheck q n) s = .next (issued s s1 q n stOK false
        (if (getPart s1 p).repeats.isSome then .repeats else .done)))

/-- LOAD_PROGRAM: an entry whose own checks pass issues with OK or POISON_CONSUMED, and the frond's programs hold the handle bound
by this entry to the program parsed from memory; no byte of memory changes. VECTOR_RUN with its instructions as commands of their
own: an entry whose own checks pass on a frond that has no run, and that has elements, issues and waits for its run, which stands at
its first bundle; no byte of memory changes. VECTOR_RUN as a whole: the entry's outputs are stored at once. -/
def Obligations.ProgramsLoadAndRun : Prop :=
  (∀ (f : Nat) (n : W32) (s : State), TablesOk s → FreeToIssue s (.frond f) n 0x23 [(32, 1), (40, 8)] →
    let e := entryBytes s (.frond f) n
    let s0 := atBody s (.frond f) n
    let hd : W64 := BitVec.ofNat 64 (readNat s0 (p64 e 40) 8)
    Accepts (loadBody (ctxOf s (.frond f) n 0) s0 e) →
    ∃ s1 st k pr, exec (.loadProgram (.frond f) n) s = .next (issued s s1 (.frond f) n st k .done) ∧ (st = stOK ∨ st = stPoison) ∧
      parseProgram hd ((List.range (bitsOf hd.toNat 7 11)).map (fun i =>
        BitVec.ofNat 64 (readNat s0 (p64 e 40 + 8 + 8 * i) 8))) = some pr ∧
      (getFrond s1 f).progs.getLast? = some ⟨p8 e 32, n, pr⟩ ∧ s1.mem = s.mem) ∧
  (∀ (f : Nat) (n : W32) (mb : Nat) (s : State), TablesOk s → FreeToIssue s (.frond f) n 0x20 vrunUsed →
    let e := entryBytes s (.frond f) n
    let c := ctxOf s (.frond f) n mb
    let s0 := atBody s (.frond f) n
    let ds := (vrunHandles e).map (vrunDesc s0 c)
    Accepts (vectorBody c false s0 e) → (∀ d, ds.getD 4 none = some d → d.count ≠ 0) →
    ∃ s1 pr d0, exec (.vectorRun (.frond f) n mb false) s = .next (issued s s1 (.frond f) n stOK false .vector) ∧
      boundProg (getFrond s0 f) (p8 e 32) n = some pr ∧ ds.getD 4 none = some d0 ∧
      (getFrond s1 f).vrun = some (nextBundle (vrunStart s0 c e pr ds d0)) ∧
      s1.mem = s.mem) ∧
  (∀ (f : Nat) (n : W32) (mb : Nat) (s : State), TablesOk s → FreeToIssue s (.frond f) n 0x20 vrunUsed →
    let e := entryBytes s (.frond f) n
    let c := ctxOf s (.frond f) n mb
    let s0 := atBody s (.frond f) n
    let ds := (vrunHandles e).map (vrunDesc s0 c)
    Accepts (vectorBody c true s0 e) → (∀ d, ds.getD 4 none = some d → d.count ≠ 0) →
    ∃ s1 st k pr d0 s2 r2, exec (.vectorRun (.frond f) n mb true) s = .next (issued s s1 (.frond f) n st k .done) ∧
      boundProg (getFrond s0 f) (p8 e 32) n = some pr ∧ ds.getD 4 none = some d0 ∧
      runWhole f { s0 with free := s0.free + 1 } (vrunStart s0 c e pr ds d0) = (s2, r2) ∧
      s1.mem = (finishRun s2 c r2).1.mem ∧ st = (finishRun s2 c r2).2.1 ∧ (getFrond s1 f).vrun = (getFrond s2 f).vrun)

/-- FUSED_SOFTMAX: an entry whose own checks pass issues with OK, FORMAT or POISON_CONSUMED; where it has elements and its one
output is a wide OUT, memory stands as the store path leaves it after the probabilities of every row (R211 to R213). SAMPLE: an
entry whose own checks pass issues with OK or POISON_CONSUMED; where it has rows, memory stands as the store path leaves it after the
32-byte record of each row (R217, R218). -/
def Obligations.SoftmaxAndSample : Prop :=
  (∀ (f : Nat) (n : W32) (mb : Nat) (s : State), FreeToIssue s (.frond f) n 0x21 softmaxUsed →
    let e := entryBytes s (.frond f) n
    let c := ctxOf s (.frond f) n mb
    let s0 := atBody s (.frond f) n
    let d (h : Nat) : Desc := (readDesc s0 c.p h).localize s0 c.p
    let din := d (p16 e 32)
    let rows := (din.ext.drop 1).foldl (· * ·) 1
    let causal : Option Int := if p8 e 36 = 0 then none else some (BitVec.ofNat 32 (p32 e 40) : W32).toInt
    let mask : Option Desc := if p16 e 34 = 0xFFFF then none else some (d (p16 e 34))
    let rs := (List.range rows).map (smxRow s0 c din ((readScale s0 c.p din).getD one32) mask causal (BitVec.ofNat 32 (p32 e 44)))
    let outs := rs.map (fun r => softmaxRow r.z)
    Accepts (softmaxBody c s0 e) →
    ∃ s1 st k, exec (.fusedSoftmax (.frond f) n mb) s = .next (issued s s1 (.frond f) n st k .done) ∧
      (st = stOK ∨ st = stFormat ∨ st = stPoison) ∧
      (din.count ≠ 0 → p16 e 48 ≠ 0xFFFF → (d (p16 e 48)).blocked = false → p16 e 50 = 0xFFFF → p16 e 52 = 0xFFFF →
        s1.mem = (commitWrites (bumpRows (countReads (readUnits s0 (dedupNat (rs.flatMap (·.units)))) f din.fam
            (rs.flatMap (·.reads))).1 f (rs.map (fun r => rowOrder r.z))) f
          (((outs.zip rs).zipIdx).foldl (fun w (o, i) => (o.1.1.zipIdx).foldl (fun w (v, j) =>
            putWide w (d (p16 e 48)) f (coordsOf (d (p16 e 48)).ext (i * (d (p16 e 48)).e 0 + j)) v o.2.poison) w) [])).mem)) ∧
  (∀ (f : Nat) (n : W32) (s : State), FreeToIssue s (.frond f) n 0x22 sampleUsed →
    let e := entryBytes s (.frond f) n
    let c := ctxOf s (.frond f) n 0
    let s0 := atBody s (.frond f) n
    let d (h : Nat) : Desc := (readDesc s0 c.p h).localize s0 c.p
    Accepts (sampleBody c s0 e) →
    ∃ s1 st k, exec (.sample (.frond f) n) s = .next (issued s s1 (.frond f) n st k .done) ∧ (st = stOK ∨ st = stPoison) ∧
      ((d (p16 e 32)).count ≠ 0 → ∃ v, v.mem = s.mem ∧ s1.mem = (commitWrites v f (sampleWrites f (d (p16 e 62))
        ((List.range (((d (p16 e 32)).ext.drop 1).foldl (· * ·) 1)).map (sampleRec s0 c e)))).mem))

/-- STREAM_COPY: an entry free to issue that goes through issues with OK or POISON_CONSUMED, and no queue, tile slot or program
changes but by the issue. Memory then stands as the store path leaves it. Where both sides are wide and no crozier acts, every
element of the destination has taken the source element at its own coordinates, or the pad value, or the clamped one. Where
both are block-quantised, and no fall-back has raised the source, every block has taken the source's block, its
metadata and its epiphytes. With the crozier, every element has taken the displaced source element, through rotation and
quantiser as DST asks. -/
def Obligations.StreamCopyStores : Prop :=
  ∀ (f : Nat) (n : W32) (mb : Nat) (s : State), FreeToIssue s (.frond f) n 0x28 copyUsed →
    let e := entryBytes s (.frond f) n
    let c := ctxOf s (.frond f) n mb
    let s0 := atBody s (.frond f) n
    let a := parseCopy e
    let d := (readDesc s0 c.p a.src).localize s0 c.p
    let t := (readDesc s0 c.p a.dst).localize s0 c.p
    let els := (List.range t.count).map (fun i => copyElem s0 f d t [] (coordsOf t.ext i))
    CopyRuns c s0 e →
    ∃ s1 st k, exec (.streamCopy (.frond f) n mb) s = .next (issued s s1 (.frond f) n st k .done) ∧
      (st = stOK ∨ st = stPoison) ∧ s1.queues = s0.queues ∧ (∀ g, (getFrond s1 g).slots = (getFrond s0 g).slots ∧ (getFrond s1 g).progs = (getFrond s0 g).progs) ∧
      (a.croz = 0 → t.blocked = false →
        s1.mem = (commitWrites (readUnits s0 (dedupNat (els.flatMap (·.units)))) f
          (els.foldl (fun w x => wputs w (t.elemKey f x.c) x.raw x.poison x.pad) []) t.halo).mem) ∧
      (a.croz = 0 → t.blocked = true → findReloc (getPart s0 c.p) d.slot d.baseM = none →
        s1.mem = (commitWrites (blockSet s0 c d t).1 f (blockSet s0 c d t).2).mem) ∧
      (a.croz = 1 → s1.mem =
        (commitWrites (crozSet s0 c d t a.shift).1 f (crozSet s0 c d t a.shift).2.1 (t.wide && t.halo)).mem)

/-- UPDATE: an entry free to issue with MODE 0 that goes through, once the G2 it needs is final, issues. Where no lane faulted, it
waits for its epoch's confirmation while that epoch is open, and else completes as R397 says; the partition's step holds the
tensor as updated, with the epoch, G2 and clip factor that R233 and R234 give and what the MASK says; and without a mask and with
EMIT 0, memory stands as the store path leaves it after every element that the program stored, in the alternate set. Where a
lane faulted, the entry completes with BOUNDS, no byte of memory changes and the step is as it was. EMIT_ONLY: an entry free to
issue with MODE 1 that goes through issues with OK or POISON_CONSUMED; a copy that EMIT names is emitted again where it stands
above its starting rung or under a storm, and where none does, nothing but the queue changes. -/
def Obligations.UpdateAndEmitOnly : Prop :=
  (∀ (f : Nat) (n : W32) (s : State) (t : TensorCfg) (pr : Prog) (g : G2Rec) (gv : W64), TablesOk s →
    FreeToIssue s (.frond f) n 0x30 updateUsed →
    let e := entryBytes s (.frond f) n
    let c := ctxOf s (.frond f) n 0
    let s0 := atBody s (.frond f) n
    let ep := p64 e 40
    let clip := if t.clipMode = 0 then one32 else clipFactor gv (clipNormOf s0 c.p t)
    let v := readUnits s0 (dedupNat (maskUnits s0 c.p f (p16 e 50) t.rows t.cols))
    let x := runWhole f { v with free := v.free + 1 } (updStart s0 c t pr ((readDesc s0 c.p (p16 e 36)).localize s0 c.p)
      (activeSet s0 c.p t) (alternateSet s0 c.p t) clip)
    let bad := !x.2.poisoned.isEmpty
    UpdateRuns c s0 e t pr → finalG2 s0 c.p ep t.tensor = some g → clipG s0 c.p ep t = some gv →
    ∃ s1 st w, exec (.update (.frond f) n) s = .next (issued s s1 (.frond f) n st bad w) ∧
      (∀ y, firstFault x.2.faults = some y →
        st = stBounds ∧ w = .done ∧ s1.mem = s.mem ∧ (getPart s1 c.p).steps = (getPart s c.p).steps) ∧
      (firstFault x.2.faults = none →
        ((epochOf s0 c.p ep).isSome = true → w = .epoch ep ∧ st = if bad then stPoison else stOK) ∧
        (epochOf s0 c.p ep = none → w = .done ∧ st = confirmedStatus g bad) ∧
        (let y := tblGet TensorStep.zero (getPart s1 c.p).steps t.tensor
         y.updated = true ∧ y.epoch = g.epoch ∧ y.g2 = g.g2 ∧ y.clip = clip ∧ y.masked = (p16 e 50 != 0xFFFF) ∧
           y.nonfinite = !isFinite64 gv) ∧
        (p16 e 50 = 0xFFFF → p8 e 48 = 0 → s1.mem = (commitWrites x.1 f (updateWrites s0 c t x.2)).mem))) ∧
  (∀ (f : Nat) (n : W32) (s : State) (t : TensorCfg), FreeToIssue s (.frond f) n 0x30 updateUsed →
    let e := entryBytes s (.frond f) n
    let c := ctxOf s (.frond f) n 0
    let s0 := atBody s (.frond f) n
    let fwd := bitOf (p8 e 48) 0 && emitCalled s0 c t true
    let bwd := bitOf (p8 e 48) 1 && emitCalled s0 c t false
    EmitRuns c s0 e t →
    ∃ s1 st k, exec (.emitOnly (.frond f) n) s = .next (issued s s1 (.frond f) n st k .done) ∧ (st = stOK ∨ st = stPoison) ∧
      (fwd = true → bwd = false → s1 = reemitCopy s0 c t true) ∧ (fwd = false → bwd = true → s1 = reemitCopy s0 c t false) ∧
      (fwd = true → bwd = true → s1 = reemitCopy (reemitCopy s0 c t true) c t false) ∧
      (fwd = false → bwd = false → s1 = s0 ∧ st = stOK))

/-- STEP_COMMIT: an entry free to issue whose STEP follows STEP_COUNT, whose UPDATEs are all confirmed and whose drain is done,
issues with NONFINITE where an updated tensor was not finite, else with STORM where a storm stood, else with OK. The state before
the next drain and the next step's spill-full raises has STEP_COUNT at STEP and the pad epoch one further; where the step is
accepted, VERSION is STEP and the selector of exactly the updated tensors has changed sides; where it is skipped whole, VERSION and
every selector are as they were. A STEP that does not follow STEP_COUNT is rejected with ILLEGAL_IN_STATE. -/
def Obligations.StepCommitEndsStep : Prop :=
  (∀ (p : Nat) (n : W32) (s : State), TablesOk s → FreeToIssue s (.anchor p) n 0x31 [(32, 8)] →
    let e := entryBytes s (.anchor p) n
    let s0 := atBody s (.anchor p) n
    let x := getPart s0 p
    let bad := badTensors x
    let whole := !bad.isEmpty && !((partCfg s0 p).map (·.skipTensor)).getD false
    let upd := (x.steps.filter (fun y => y.2.updated)).map (·.1)
    p64 e 32 = getF s0 ANC_STEP_COUNT_STEP p + 1 → updatesDone s0 p = true → drainDone s0 p = true →
    ∃ s7 s8, s8 = (if whole then s7 else startDrain s7 p (p64 e 32) x.version upd) ∧
      exec (.stepCommit (.anchor p) n) s = .next (issued s
        (setFbState (spillFullStart s8 (startCtx s8 p (n + 1))) p) (.anchor p) n
        (if !bad.isEmpty then stNonfinite else if x.storm.isSome then stStorm else stOK) false .done) ∧
      getF s7 ANC_STEP_COUNT_STEP p = p64 e 32 ∧
      (getPart s7 p).padEpoch = (x.padEpoch + 1) % 2 ^ 64 ∧
      (getPart s7 p).version = (if whole then x.version else p64 e 32) ∧
      (getPart s7 p).select = (if whole then x.select else upd.foldl (fun l t => tblSet 0 l t (1 - tblGet 0 l t)) x.select) ∧
      (getPart s7 p).steps = [] ∧ (getPart s7 p).storm = none ∧ (getPart s7 p).cmds = []) ∧
  (∀ (p : Nat) (n : W32) (s : State), FreeToIssue s (.anchor p) n 0x31 [(32, 8)] →
    p64 (entryBytes s (.anchor p) n) 32 ≠ getF (atBody s (.anchor p) n) ANC_STEP_COUNT_STEP p + 1 →
    exec (.stepCommit (.anchor p) n) s = .next (rejected s (.anchor p) n stIllegal 0))

/-- RED_TENSOR: an entry free to issue whose own checks pass issues and waits for its epoch, which is open and holds the tensor as
the entry declares it. RED_CONTRIB: an entry free to issue whose own checks pass issues with OK or POISON_CONSUMED and waits for its
epoch; before any block goes out, the epoch retains every block of the region for this frond. RED_CLOSE: an entry free to issue
whose own checks pass issues and waits for its epoch, which is closed with the entry's count before a CHECK_OK may go. None of them
stores a byte of memory by its issue. -/
def Obligations.ReductionCommands : Prop :=
  (∀ (p : Nat) (n : W32) (s : State), TablesOk s → FreeToIssue s (.anchor p) n 0x38 [(32, 18)] →
    let e := entryBytes s (.anchor p) n
    let s0 := atBody s (.anchor p) n
    Accepts (redTensorBody (ctxOf s (.anchor p) n 0) s0 e) →
    ∃ s1 x t, exec (.redTensor (.anchor p) n) s =
        .next (redSettle (issued s s1 (.anchor p) n stOK false (.epoch (p64 e 32)))) ∧
      s1.mem = s.mem ∧ epochOf s1 p (p64 e 32) = some x ∧ x.tensorOf (p16 e 40) = some t ∧
      t.group = p16 e 42 ∧ t.axis = p8 e 44 ∧ t.scatter = (p8 e 45 == 1) ∧ t.desc = readDesc s0 p (p16 e 46) ∧
      t.contribs = p16 e 48 ∧ t.written = [] ∧ t.passes = []) ∧
  (∀ (f : Nat) (n : W32) (s : State), TablesOk s → FreeToIssue s (.frond f) n 0x39 [(32, 19)] →
    let e := entryBytes s (.frond f) n
    let c := ctxOf s (.frond f) n 0
    let s0 := atBody s (.frond f) n
    Accepts (redContribBody c s0 e) →
    ∃ s1 s2 x st k t bs, exec (.redContrib (.frond f) n) s =
        .next (redSettle (issued s s1 (.frond f) n st k (.epoch (p64 e 32)))) ∧
      (st = stOK ∨ st = stPoison) ∧ s1.mem = s.mem ∧
      (epochOf s0 c.p (p64 e 32)).bind (fun x => x.tensorOf (p16 e 40)) = some t ∧
      bs = contribBlocks s0 c t (([42, 44, 46, 48].map (p16 e)).filter (· != 0xFFFF) |>.map (readDesc s0 c.p)) (p8 e 50 == 1) ∧
      epochOf s2 c.p (p64 e 32) = some x ∧
      (∀ r ∈ bs, ∃ y ∈ x.retained, y.tensor = p16 e 40 ∧ y.block = r.block ∧ y.frond = f) ∧
      ∃ fresh : List Retained, s1 =
        fresh.foldl (fun s r => startBlock s c.p (p64 e 32) (p16 e 40) r.block (tblGet 0 t.passes r.block)) s2) ∧
  (∀ (p : Nat) (n : W32) (s : State), TablesOk s → FreeToIssue s (.anchor p) n 0x3A [(32, 10)] →
    let e := entryBytes s (.anchor p) n
    Accepts (redCloseBody (ctxOf s (.anchor p) n 0) (atBody s (.anchor p) n) e) →
    ∃ s1 x, exec (.redClose (.anchor p) n) s =
        .next (redSettle (issued s (maybeOk s1 p (p64 e 32)) (.anchor p) n stOK false (.epoch (p64 e 32)))) ∧
      s1.mem = s.mem ∧ epochOf s1 p (p64 e 32) = some x ∧ x.closed = some (p16 e 40) ∧ x.since = s.counter)

/-- A reduction message that is delivered, names an open epoch of its partition in the present attempt and a tensor it holds.
RED_BLOCKS: a good block from a member of this colony, new at its root, is held, and then its chain may go on; no memory changes.
RED_RESULT: a good final block that this member holds and has not written reaches memory through the store path, and counts as
written, and then the norm and the check may go. RED_NORM: the sender's shard norm is listed. BACKUP_REQ at a backup: what is asked
of a single block is listed, and then the block may go. -/
def Obligations.ReductionBlocks : Prop :=
  (∀ (a : Arrival) (s : State) (p j : Nat) (x : EpochSt) (t : RedTensor) (b : Bfx), TablesOk s → Delivered s a 0x40 →
    NamesTensor (received s a) a p x t → BlockGood (received s a) a t b →
    let k := teamOf (received s a) t
    t.backup = false → k.isRoot t.me b.block = true → b.flag bfBackup = false →
    (indexIn k.g (a.msg.src, a.msg.part)).filter (fun j => k.sub.contains j) = some j → memberColony k.g j = k.col →
    (∀ c ∈ boxOf x t.tensor b.block b.pass (b.flag bfSample) false, c.member ≠ j) →
    ∃ u y, exec (.redBlocks a) s = .next (redSettle (chainOn u p x.epoch t.tensor b.block b.pass (b.flag bfSample))) ∧
      u.mem = s.mem ∧ epochOf u p x.epoch = some y ∧
      y.recvd = x.recvd ++ [⟨t.tensor, b.pass, j, b, false, b.flag bfSample, false⟩]) ∧
  (∀ (a : Arrival) (s : State) (p : Nat) (x : EpochSt) (t : RedTensor) (b : Bfx), TablesOk s → Delivered s a 0x41 →
    NamesTensor (received s a) a p x t → BlockGood (received s a) a t b →
    let k := teamOf (received s a) t
    (b.flag bfRescale = false ∨ b.flag bfSat = true) → b.count = k.sub.length →
    holdsBlock (received s a) t t.me b.block = true → b.block ∉ t.written →
    ∃ u v y z, exec (.redResult a) s = .next (redSettle (maybeOk (maybeNorm u p x.epoch t.tensor) p x.epoch)) ∧
      v.mem = s.mem ∧ v.cfg = s.cfg ∧
      u.mem = (writeSet v ((((b.m.take (min 16 (t.desc.count - 16 * b.block))).map (bfxValue b)).zipIdx).foldl (fun w (r, i) =>
        match elemOn v t t.me (16 * b.block + i) with
        | some c => putWide w t.desc 0 c r (b.flag bfPoison)
        | none => w) [])).1.mem ∧
      epochOf u p x.epoch = some y ∧ y.tensorOf t.tensor = some z ∧ z.written = t.written ++ [b.block]) ∧
  (∀ (a : Arrival) (s : State) (p j : Nat) (x : EpochSt) (t : RedTensor), TablesOk s → Delivered s a 0x42 →
    NamesTensor (received s a) a p x t → j = leAt a.msg.payload 10 2 → j ∈ (teamOf (received s a) t).sub →
    ∃ u y z, exec (.redNorm a) s = .next (redSettle (maybeOk u p x.epoch)) ∧ epochOf u p x.epoch = some y ∧
      y.tensorOf t.tensor = some z ∧ z.norms = tblPut t.norms j (some (BitVec.ofNat 64 (leAt a.msg.payload 16 8)))) ∧
  (∀ (a : Arrival) (s : State) (p : Nat) (x : EpochSt) (t : RedTensor), TablesOk s → Delivered s a 0x43 →
    NamesTensor (received s a) a p x t → leAt a.msg.payload 16 4 = 1 →
    ∃ u y z, exec (.backupReq a) s = .next (redSettle (startBlock u p x.epoch t.tensor (leAt a.msg.payload 12 4)
        (leAt a.msg.payload 9 1))) ∧ epochOf u p x.epoch = some y ∧ y.tensorOf t.tensor = some z ∧
      z.asks = t.asks ++ [⟨leAt a.msg.payload 12 4, leAt a.msg.payload 9 1, a.msg.src, a.msg.part⟩])

/-- Delivered and naming an open epoch of its partition in the present attempt. CHECK_OK at a leader that has not answered: it is
held; while a member of the subgroup has sent none, nothing else happens, and the last of agreeing ones sends CONFIRM to every
member and backup. RETRACT_REQ at a leader that has not answered sends RETRACT of the next attempt to every member and backup, fatal
where the limit of attempts is passed. CONFIRM: the epoch is gone, the last confirmed epoch is at least it, and no live command of
the partition waits for it. A fatal RETRACT: the epoch is gone; where its reason is no timeout the partition is FAULTED. One that
is not fatal: the epoch's attempt is the message's, nothing is received or checked in it, and its blocks start again. -/
def Obligations.EpochAgreement : Prop :=
  (∀ (a : Arrival) (s : State) (p j : Nat) (x : EpochSt) (lt : RedTensor), TablesOk s → Delivered s a 0x44 →
    let r := received s a
    let oks := x.oks.filter (fun o => o.1 != j) ++ [(j, leAt a.msg.payload 12 4, leAt a.msg.payload 16 8)]
    let k := teamOf r lt
    redPartition r a.msg = some p → epochByLow r p (bitsOf a.msg.addr 0 32) = some x → bitsOf a.msg.addr 51 3 = x.attempt →
    leadTensor x = some lt → lt.backup = false → k.leader = lt.me → x.answered = false →
    indexIn k.g (a.msg.src, a.msg.part) = some j →
    ∃ u y, epochOf u p x.epoch = some y ∧ y.oks = oks ∧
      ((∃ i ∈ k.sub, ∀ o ∈ oks, o.1 ≠ i) → y.answered = false ∧ exec (.checkOk a) s = .next (redSettle u)) ∧
      ((∀ i ∈ k.sub, ∃ o ∈ oks, o.1 = i) → (∀ o ∈ oks, o.2 = (leAt a.msg.payload 12 4, leAt a.msg.payload 16 8)) →
        y.answered = true ∧ exec (.checkOk a) s = .next (redSettle ((roster k).foldl (fun s d =>
          sendCheck s p x d 0x46 (checkPayload x.epoch x.attempt 0 0 0 0 0 0 0)) u)))) ∧
  (∀ (a : Arrival) (s : State) (p : Nat) (x : EpochSt) (lt : RedTensor), TablesOk s → Delivered s a 0x45 →
    let r := received s a
    let k := teamOf r lt
    let pl := a.msg.payload
    redPartition r a.msg = some p → epochByLow r p (bitsOf a.msg.addr 0 32) = some x → bitsOf a.msg.addr 51 3 = x.attempt →
    leadTensor x = some lt → lt.backup = false → k.leader = lt.me → x.answered = false →
    ∃ u y, epochOf u p x.epoch = some y ∧ y.answered = true ∧
      exec (.retractReq a) s = .next (redSettle ((roster k).foldl (fun s d => sendCheck s p x d 0x47
        (checkPayload x.epoch (x.attempt + 1) (leAt pl 9 1)
          (if x.attempt + 1 > ((partCfg r p).map (·.retractLimit)).getD 3 then 1 else 0) 0 0 (leAt pl 24 2) (leAt pl 26 2)
          (leAt pl 28 4))) u))) ∧
  (∀ (a : Arrival) (s : State) (p : Nat) (x : EpochSt), TablesOk s → Delivered s a 0x46 →
    redPartition (received s a) a.msg = some p → epochByLow (received s a) p (bitsOf a.msg.addr 0 32) = some x →
    bitsOf a.msg.addr 51 3 = x.attempt →
    ∃ u, exec (.confirm a) s = .next (redSettle u) ∧ epochOf u p x.epoch = none ∧
      (∃ l, (getPart u p).lastConf = some l ∧ x.epoch ≤ l) ∧ u.mem = s.mem ∧
      (∀ q ∈ queuesOf s p, ∀ i ∈ (getQ u q).live, i.waits ≠ .epoch x.epoch)) ∧
  (∀ (a : Arrival) (s : State) (p : Nat) (x : EpochSt), TablesOk s → Delivered s a 0x47 →
    redPartition (received s a) a.msg = some p → epochByLow (received s a) p (bitsOf a.msg.addr 0 32) = some x →
    bitsOf a.msg.addr 51 3 = x.attempt →
    (bitOf (leAt a.msg.payload 10 1) 0 = true →
      ∃ u, exec (.retract a) s = .next (redSettle u) ∧ epochOf u p x.epoch = none ∧
        (leAt a.msg.payload 9 1 ≠ rsnTimeout → (getPart u p).state = .faulted)) ∧
    (bitOf (leAt a.msg.payload 10 1) 0 = false →
      ∃ u y, epochOf u p x.epoch = some y ∧ y.attempt = leAt a.msg.payload 8 1 ∧ y.recvd = [] ∧ y.oks = [] ∧ y.bad = false ∧
        y.tensors = x.tensors.map RedTensor.restart ∧ y.retained = x.retained ∧
        exec (.retract a) s = .next (redSettle (x.tensors.foldl (fun s t =>
          maybeOk (maybeNorm ((List.range t.blocks).foldl (fun s b => startBlock s p x.epoch t.tensor b 0) s) p x.epoch t.tensor)
            p x.epoch) u))))

/-- A reduction message delivered for an open epoch's partition whose attempt is not the present one, or for an epoch not above the
last confirmed one, changes nothing but STALE's count; one for an epoch that is not open yet waits for its RED_TENSOR. -/
def Obligations.StaleReductionMessages : Prop :=
  ∀ row ∈ [(Instr.redBlocks, 0x40), (.redResult, 0x41), (.redNorm, 0x42), (.backupReq, 0x43), (.checkOk, 0x44),
      (.retractReq, 0x45), (.confirm, 0x46), (.retract, 0x47)],
    ∀ (a : Arrival) (s : State) (p : Nat), Delivered s a row.2 →
    let r := received s a
    redPartition r a.msg = some p → s.fabric.selfq = [] →
    (∀ x, epochByLow r p (bitsOf a.msg.addr 0 32) = some x → bitsOf a.msg.addr 51 3 ≠ x.attempt →
      exec (row.1 a) s = .next (bump r RED_LATE_EVENTS_STALE p 1)) ∧
    (∀ l, epochByLow r p (bitsOf a.msg.addr 0 32) = none → (getPart r p).lastConf = some l →
      (BitVec.ofNat 32 (bitsOf a.msg.addr 0 32) - BitVec.ofNat 32 l : W32).toInt ≤ 0 →
      exec (row.1 a) s = .next (bump r RED_LATE_EVENTS_STALE p 1)) ∧
    (epochByLow r p (bitsOf a.msg.addr 0 32) = none → (getPart r p).lastConf = none →
      exec (row.1 a) s = .next (modPart r p (fun x => { x with early := x.early ++ [a.msg] })))

/-- RED_DEADLINE: every armed deadline of the member that has run out is disarmed, and the member's backup, where it has one, is
asked for each. RED_GIVEUP: where a closed epoch has run out of its time and has not asked yet, it has asked, its time starts
anew, and its leader is asked to retract for a timeout. EPOCH_LOCAL_FAIL: where an epoch that has asked runs out of its time again,
it is gone, and its live commands may complete with LINK_DOWN. -/
def Obligations.ReductionTimeLimits : Prop :=
  (∀ (p e tn j now : Nat) (s : State) (x : EpochSt) (t : RedTensor), TablesOk s →
    let r := advance s now
    epochOf s p e = some x → x.tensorOf tn = some t →
    let k := teamOf r t
    let due := t.armed.filter (fun d => d.member == j && decide (r.counter - d.since ≥ k.g.deadline))
    ∃ u y z, epochOf u p e = some y ∧ y.tensorOf tn = some z ∧ z.armed = t.armed.filter (fun d => !due.contains d) ∧
      u.mem = s.mem ∧
      (memberBackup k.g j = none → exec (.redDeadline p e tn j now) s = .next (redSettle u)) ∧
      (∀ q, memberBackup k.g j = some q → exec (.redDeadline p e tn j now) s = .next (redSettle (due.foldl (fun s d =>
        redSend s p q 9 { mtype := 0x43, addr := redAddrField e tn d.pass x.attempt false true
                          payload := leBytes 8 e ++ leBytes 1 x.attempt ++ leBytes 1 d.pass ++ leBytes 2 tn ++ leBytes 4 d.block ++
                            leBytes 4 1 ++ leBytes 2 (memberAddr k.g j).1 ++ leBytes 10 0 }) u)))) ∧
  (∀ (p e now : Nat) (s : State) (x : EpochSt), TablesOk s → epochOf s p e = some x → x.closed.isSome = true →
    x.asked = false → giveupOver (advance s now) p x.since = true →
    ∃ u y, exec (.redGiveup p e now) s = .next (redSettle (redFail u p e rsnTimeout 0 0)) ∧ epochOf u p e = some y ∧
      y.asked = true ∧ y.since = max s.counter now ∧ u.mem = s.mem) ∧
  (∀ (p e now : Nat) (s : State) (x : EpochSt), TablesOk s → epochOf s p e = some x → x.asked = true →
    giveupOver (advance s now) p x.since = true →
    ∃ u, exec (.epochLocalFail p e now) s = .next (redSettle u) ∧ epochOf u p e = none ∧
      (∀ q ∈ queuesOf s p, ∀ i ∈ (getQ s q).live, i.waits = .epoch e →
        { i with status := stLinkDown, waits := .done } ∈ (getQ u q).live))

/-- DRAIN_GIVEUP: a destination that is still waiting when its time is over is abandoned, and the others are as they were.
DRAIN_COMPLETE: a destination whose writes are all acknowledged and whose first waiting tensor it is has passed that tensor, and the
next tensor's records have been sent. DRAINED_TO_IDLE: a DRAINING partition with no live command and no drain becomes LOADED; any
other partition stays as it is. -/
def Obligations.DrainEnds : Prop :=
  (∀ (p dest now : Nat) (s : State) (d : DrainSt) (k : DrainDest) (y : DestSt), TablesOk s → (getPart s p).drain = some d →
    destOf dest = some k → d.dests.find? (fun z => z.dest == k) = some y → y.gaveUp = false →
    (y.waiting ≠ [] ∨ y.await ≠ []) → elapsed (advance s now) y.since (((partCfg s p).map (·.drainGiveup)).getD 20) 10 = true →
    ∃ t, exec (.drainGiveup p dest now) s = .next t ∧ t.mem = s.mem ∧ t.queues = s.queues ∧
      (getPart t p).drain = some { d with dests := d.dests.map (fun z => if z.dest = k then { z with gaveUp := true } else z) }) ∧
  (∀ (p tn dest : Nat) (s : State) (d : DrainSt) (k : DrainDest) (y : DestSt), TablesOk s → (getPart s p).drain = some d →
    destOf dest = some k → d.dests.find? (fun z => z.dest == k) = some y → y.gaveUp = false → y.refused = false →
    drainPending s p k = false → y.waiting.head? = some tn →
    let x := sendHead s p d.version d.flipped { y with waiting := y.waiting.drop 1, since := s.counter }
    ∃ t, exec (.drainComplete p tn dest) s = .next t ∧ x.2.waiting = y.waiting.drop 1 ∧
      (getPart t p).drain = some { d with dests := d.dests.map (fun z => if z.dest = k then x.2 else z) } ∧
      ((k.isRollout = false ∨ y.waiting.drop 1 ≠ []) → t = setDest x.1 p d k (fun _ => x.2))) ∧
  (∀ (p : Nat) (s : State), TablesOk s → (getPart s p).state = .draining →
    (∀ q ∈ queuesOf s p, (getQ s q).live = [] ∧ (getQ s q).again = []) → drainDone s p = true →
    exec (.drainedToIdle p) s = .next (setPartState s p .loaded)) ∧
  (∀ (p : Nat) (s : State), (getPart s p).state ≠ .draining → exec (.drainedToIdle p) s = .next s)

/-- CHECK: an entry free to issue whose own checks pass issues with the status of the first stage that fails, or OK. Memory then holds
the report at REPORT, through the store path, and no other byte has changed; where the status is OK the image read is the staged
one, and STAGED is 1; with any other status nothing is staged, and STAGED is 0. The committed image and LAST_EPOCH stay. A CHECK
whose parameters are outside their ranges is rejected with BAD_DESCRIPTOR. -/
def Obligations.CheckReports : Prop :=
  (∀ (n : W32) (i : CheckInput) (s : State), TablesOk s → FreeToIssue s .device n 0x40 [(32, 12), (48, 12)] →
    let e := entryBytes s .device n
    let s0 := readUnits (atBody s .device n) (unitsOf (p64 e 32) (p32 e 40))
    let b := readBytes s (p64 e 32) (p32 e 40)
    let r := evaluate s0 b (p32 e 40) i
    let st := findingStatus r.1
    Accepts (checkImageBody i (atBody s .device n) e) →
    ∃ s1 v draw, exec (.check .device n i) s = .next (issued s s1 .device n st false .done) ∧ v.mem = s.mem ∧
      s1.mem = (writeBytes v (p64 e 48)
        (reportBytes st r.1 (imageDigest b) (sliceB b 8 8) (p32 e 56) draw)).mem ∧
      s1.cfg.staged = (if st = stOK then some (stagedImage b (imageDigest b) r.2 s.cfg.committed) else none) ∧
      getF s1 CFG_STATE_STAGED 0 = (if st = stOK then 1 else 0) ∧
      s1.cfg.committed = s.cfg.committed ∧ s1.cfg.lastEpoch = s.cfg.lastEpoch) ∧
  (∀ (n : W32) (i : CheckInput) (s : State), FreeToIssue s .device n 0x40 [(32, 12), (48, 12)] →
    let e := entryBytes s .device n
    (p64 e 32 % 64 ≠ 0 ∨ p64 e 48 % 64 ≠ 0 ∨ p32 e 40 < 128 ∨ 2 ^ 24 < p32 e 40 ∨ p32 e 56 < 64 ∨ 2 ^ 20 < p32 e 56 ∨
      p32 e 56 % 16 ≠ 0) →
    exec (.check .device n i) s = .next (rejected s .device n stBadDesc 0))

/-- COMMIT: an entry free to issue whose own checks pass, with no COMMIT live, issues and is tried at once. A live COMMIT with a
staged image waits, with COMMIT_WAIT 1, while a changed partition is neither IDLE, LOADED nor held. Once all are, where no pair has
still to be tested and the floorplan record needs no change: a finding of stages 5 to 7 ends it with that stage's status and the
settings stay; without findings and under MODE = LOCAL the staged image is the committed one (where its settings differ), the entry
may complete with OK, and LAST_EPOCH stays; under PERSIST the configuration slot of flash holds the committed image. -/
def Obligations.CommitTakesEffect : Prop :=
  (∀ (n : W32) (feeds : List FeedRead) (s : State), TablesOk s → FreeToIssue s .device n 0x41 [(32, 1), (40, 8), (48, 3)] →
    liveCommit s = none → Accepts (commitImageBody (atBody s .device n) (entryBytes s .device n)) →
    exec (.commit .device n feeds) s =
      .next (tryCommit feeds (issued s (atBody s .device n) .device n stOK false .settle))) ∧
  (∀ (n : W32) (feeds : List FeedRead) (s : State) (i : Issued) (img : StoredImage), TablesOk s → liveCommit s = some i →
    i.n = n → i.waits = .settle → s.cfg.staged = some img →
    (commitSettled s img = false → exec (.commit .device n feeds) s = .next (commitWaits s 1 0)) ∧
    (commitSettled s img = true → pairsToTest s = [] → floorDue s = false →
      (lateStages s img.cfg feeds ≠ [] →
        ∃ t, exec (.commit .device n feeds) s = .next t ∧ t.cfg = s.cfg ∧ t.parts = s.parts ∧
          { i with status := findingStatus (sortFindings (lateStages s img.cfg feeds)), waits := .done } ∈ (getQ t .device).live) ∧
      (lateStages s img.cfg feeds = [] → (commitParams s i).1 = 0 →
        ∃ t, exec (.commit .device n feeds) s = .next t ∧
          t.cfg.committed = (if img.cfg = cfgOf s then s.cfg.committed else img) ∧ t.cfg.lastEpoch = s.cfg.lastEpoch ∧
          { i with status := stOK, waits := .done } ∈ (getQ t .device).live ∧
          ((commitParams s i).2.2.2 = 1 → t.flash.image = some t.cfg.committed))))

/-- PART_START, PART_DRAIN, PART_ABORT, PART_TEST and PART_CLEAR: an entry free to issue that names a partition in a state the
command needs issues, and the partition is in the state it leads to: RUNNING, DRAINING, LOADED, TEST, LOADED. PART_START needs a
verified partition, and then raises the layers of its spill-full copies. After PART_ABORT and PART_CLEAR no entry of the partition's queues is live or halted, and every entry before
TAIL has passed. PART_TEST of a partition with units tests all of them. In any other state of the partition the entry is rejected
with ILLEGAL_IN_STATE. -/
def Obligations.PartitionCommands : Prop :=
  (∀ (n : W32) (s : State), TablesOk s → FreeToIssue s .device n 0x48 [(32, 1)] →
    let p := p8 (entryBytes s .device n) 32
    p ≤ 7 → (getPart s p).state = .loaded → bitOf (getF s ANC_BOOT_STATUS_VERIFY_FAIL) p = false →
    bitOf (getF s ANC_BOOT_STATUS_VERIFIED) p = true →
    ∃ v s1, s1 = setFbState (spillFullStart v (startCtx v p 0)) p ∧
      exec (.partStart .device n) s = .next (issued s s1 .device n stOK false .done) ∧
      (getPart v p).state = .running ∧ v.mem = s.mem ∧ (getPart s1 p).state = .running ∧ s1.queues = s.queues) ∧
  (∀ (n : W32) (s : State), TablesOk s → FreeToIssue s .device n 0x49 [(32, 1)] →
    let p := p8 (entryBytes s .device n) 32
    p ≤ 7 → (getPart s p).state = .running →
    ∃ s1, s1 = setPartState (atBody s .device n) p .draining ∧
      exec (.partDrain .device n) s = .next (issued s s1 .device n stOK false .done) ∧ (getPart s1 p).state = .draining ∧
      s1.mem = s.mem ∧ s1.queues = s.queues) ∧
  (∀ (n : W32) (s : State), TablesOk s → FreeToIssue s .device n 0x4A [(32, 1)] →
    let p := p8 (entryBytes s .device n) 32
    p ≤ 7 → ((getPart s p).state = .running ∨ (getPart s p).state = .draining) →
    ∃ s1, exec (.partAbort .device n) s = .next (issued s s1 .device n stOK false .done) ∧ (getPart s1 p).state = .loaded ∧
      (getPart s1 p).epochs = [] ∧
      ∀ q ∈ queuesOf s p, (getQ s1 q).live = [] ∧ (getQ s1 q).halted = [] ∧ (getQ s1 q).issued.count = (getQ s q).tail ∧
        (getQ s1 q).record.count = (getQ s q).tail) ∧
  (∀ (n : W32) (s : State), TablesOk s → FreeToIssue s .device n 0x4B [(32, 1)] →
    let p := p8 (entryBytes s .device n) 32
    p ≤ 7 → (getPart s p).state = .loaded → partUnits s p ≠ [] →
    ∃ s1, exec (.partTest .device n) s = .next (issued s s1 .device n stOK false .test) ∧ (getPart s1 p).state = .test ∧
      (∀ u ∈ partUnits s p, u ∈ s1.mgmt.testing) ∧ s1.queues = s.queues) ∧
  (∀ (n : W32) (s : State), TablesOk s → FreeToIssue s .device n 0x4C [(32, 1)] →
    let p := p8 (entryBytes s .device n) 32
    p ≤ 7 → (getPart s p).state = .faulted →
    ∃ s1, exec (.partClear .device n) s = .next (issued s s1 .device n stOK false .done) ∧ (getPart s1 p).state = .loaded ∧
      s1.mem = s.mem ∧
      ∀ q ∈ queuesOf s p, (getQ s1 q).live = [] ∧ (getQ s1 q).halted = [] ∧ (getQ s1 q).issued.count = (getQ s q).tail ∧
        (getQ s1 q).record.count = (getQ s q).tail) ∧
  (∀ row ∈ [(Instr.partStart, 0x48, [PartState.loaded]), (.partDrain, 0x49, [.running]),
      (.partAbort, 0x4A, [.running, .draining]), (.partTest, 0x4B, [.loaded]), (.partClear, 0x4C, [.faulted])],
    ∀ (n : W32) (s : State), FreeToIssue s .device n row.2.1 [(32, 1)] →
    let p := p8 (entryBytes s .device n) 32
    (p ≤ 7 → (getPart s p).state ∉ row.2.2 → exec (row.1 .device n) s = .next (rejected s .device n stIllegal 0)) ∧
    (7 < p → exec (row.1 .device n) s = .next (rejected s .device n stBadDesc 0)))

/-- SVC_TEST: an entry free to issue, with every partition IDLE or LOADED, issues and waits for the tests; the device is in SERVICE,
and every frond, spare and cushion that is present is under test. SVC_EXIT: an entry free to issue, with no SVC_EXIT live, brings
the device into BOOT: no queue, partition or port keeps anything, and one more entry into BOOT is counted. -/
def Obligations.ServiceCommands : Prop :=
  (∀ (n : W32) (s : State), TablesOk s → FreeToIssue s .device n 0x4D [] →
    (∀ p, p < 8 → (getPart s p).state = .idle ∨ (getPart s p).state = .loaded) →
    ∃ s1, exec (.svcTest .device n) s = .next (issued s s1 .device n stOK false .test) ∧ s1.dev = .service ∧
      (∀ u ∈ deviceUnits s, u ∈ s1.mgmt.testing) ∧ s1.queues = s.queues ∧ s1.parts = s.parts) ∧
  (∀ (n : W32) (s : State), TablesOk s → FreeToIssue s .device n 0x4E [] →
    (∀ i ∈ (getQ s .device).live, i.opcode ≠ 0x4E) →
    ∃ t, exec (.svcExit .device n) s = .next t ∧ t.dev = .boot ∧ t.queues = [] ∧ t.parts = [] ∧ t.ports = [] ∧
      t.flash.boots = s.flash.boots + 1 ∧ t.dbgPort.opened = false)

/-- A port in UP or IDENT. A flit that fails its check counts, with its FEC counts, and the port asks for a replay, whatever the row; no
other port changes. Of those that pass and ask for no replay: one of another kind than its row's changes nothing; a DATA or CONTROL
flit next in sequence is counted in the sequence, a DATA flit's body is added to its stream, and a CONTROL flit changes a port in UP
no further, nor does one that is no IDENT of version 1 a port in IDENT; an IDENT of version 1 is taken by a port in IDENT, with the partner's credits, and the port
is UP exactly where an IDENT with SEEN has arrived and one has been sent, but stays in IDENT at a global port whose partner is of the
same colony; one behind the sequence leaves the expected number as it was, and one ahead of it makes the port ask for a replay, NULL
flits likewise. REPLAY_TIMEOUT: a port that holds unacknowledged flits sends them again from the oldest, and past its limit it
trains again. -/
def Obligations.FlitsArrive : Prop :=
  (∀ row ∈ [Instr.dataFlit, .controlFlit, .nullFlit, .ident], ∀ (p : Nat) (fl : FlitIn) (s : State), TablesOk s →
    ((getPort s p).state = .up ∨ (getPort s p).state = .ident) → (row = Instr.ident → leAt fl.bytes 8 1 = 1) →
    (fl.fecBad = true ∨ fl.bytes.length ≠ 256 ∨ leAt fl.bytes 252 4 ≠ crc32c (sliceB fl.bytes 0 252)) →
    ∃ t, exec (row p fl) s = .next t ∧
      t = modPort (bump (bump (bump s FAB_PORT_ERR_FEC_CORR p fl.corrected) FAB_PORT_ERR_FEC_UNCORR p fl.lost)
        FAB_PORT_ERR_CRC_ERR p 1) p askReplay ∧
      getPort t p = askReplay (getPort s p) ∧ t.mem = s.mem ∧ t.fabric = s.fabric ∧ ∀ g, g ≠ p → getPort t g = getPort s g) ∧
  (∀ row ∈ [(Instr.dataFlit, 0), (.controlFlit, 1), (.nullFlit, 2)], ∀ (p : Nat) (fl : FlitIn) (h : LinkHead) (s : State),
    GoodFlit s p fl h → h.kind ≠ row.2 → exec (row.1 p fl) s = .next s) ∧
  (∀ (p : Nat) (fl : FlitIn) (h : LinkHead) (s : State), TablesOk s → GoodFlit s p fl h → h.kind = 0 →
    h.seq = (getPort s p).expect →
    ∃ t, exec (.dataFlit p fl) s = .next t ∧ t.mem = s.mem ∧ t.fabric = s.fabric ∧
      getPort t p = takeData { fieldsTaken s p h with expect := ((getPort s p).expect + 1) % 4096, nak := false }
        h (sliceB fl.bytes 8 244)) ∧
  (∀ row ∈ [Instr.controlFlit, .ident], ∀ (p : Nat) (fl : FlitIn) (h : LinkHead) (s : State), TablesOk s →
    GoodFlit s p fl h → h.kind = 1 → h.seq = (getPort s p).expect → (row = Instr.ident → leAt fl.bytes 8 1 = 1) →
    let twin := decide (15 ≤ p) && bitOf (leAt fl.bytes 9 1) 3 && decide (s.fabric.addr.map (· / 16) =
      some (leAt fl.bytes 14 2 % 4096 / 16))
    ((getPort s p).state = .up ∨ leAt fl.bytes 8 1 ≠ 1 ∨ leAt fl.bytes 128 1 ≠ 1 → ∃ t, exec (row p fl) s = .next t ∧ t.mem = s.mem ∧ t.fabric = s.fabric ∧
      getPort t p = { fieldsTaken s p h with expect := ((getPort s p).expect + 1) % 4096, nak := false }) ∧
    ((getPort s p).state = .ident → leAt fl.bytes 8 1 = 1 → leAt fl.bytes 128 1 = 1 →
      ∃ t, exec (row p fl) s = .next t ∧ t.mem = s.mem ∧ (getPort t p).seenRx = true ∧
        (getPort t p).expect = ((getPort s p).expect + 1) % 4096 ∧ (getPort t p).hbmFree = bitOf (leAt fl.bytes 9 1) 2 ∧
        (getPort t p).partnerCredits = (List.range 48).map (fun i => leAt fl.bytes (32 + 2 * i) 2) ∧
        (twin = true → (getPort t p).state = .ident) ∧
        (twin = false → ((getPort t p).state = .up ↔
          ((getPort s p).seenSeen = true ∨ bitOf (leAt fl.bytes 9 1) 0 = true) ∧ (getPort s p).seenTx = true)))) ∧
  (∀ row ∈ [(Instr.dataFlit, 0), (.controlFlit, 1), (.nullFlit, 2)], ∀ (p : Nat) (fl : FlitIn) (h : LinkHead) (s : State),
    TablesOk s → GoodFlit s p fl h → h.kind = row.2 → (row.2 ≠ 2 → h.seq ≠ (getPort s p).expect) →
    let ahead := if row.2 = 2 then seqBefore (((getPort s p).expect + 4095) % 4096) h.seq
      else !seqBefore h.seq (getPort s p).expect
    ∃ t, exec (row.1 p fl) s = .next t ∧ t.mem = s.mem ∧ t.fabric = s.fabric ∧ (getPort t p).expect = (getPort s p).expect ∧
      getPort t p = (if ahead then askReplay (fieldsTaken s p h) else fieldsTaken s p h)) ∧
  (∀ (p : Nat) (s : State) (r : KeptFlit) (l : List KeptFlit), TablesOk s →
    ((getPort s p).state = .up ∨ (getPort s p).state = .ident) → (getPort s p).replay = r :: l → (getPort s p).resend = none →
    ((getPort s p).replays + 1 ≤ (cfgOf s).routing.replayLimit →
      ∃ t, exec (.replayTimeout p) s = .next t ∧ t.mem = s.mem ∧
        getPort t p = { getPort s p with resend := some r.seq, replays := (getPort s p).replays + 1 }) ∧
    ((cfgOf s).routing.replayLimit < (getPort s p).replays + 1 →
      ∃ t, exec (.replayTimeout p) s = .next t ∧ t.mem = s.mem ∧ (getPort t p).state = .train ∧ (getPort t p).replay = []))

/-- TRAIN_ATTEMPT_END of a port in TRAIN: with success it is in IDENT, with its sequence numbers at 0 and its credit
allocations taken; without, one more failure is
counted, and it is FAILED at TRAIN_LIMIT and in TRAIN below it. IDENT_TIMEOUT of a port in IDENT that has heard no IDENT for 10 ms acts as a
failed attempt. LINK_LOSS of a port in UP brings it to TRAIN, fit for no message, with nothing kept for replay. PORT_RESET of a port
that is no host port brings it to TRAIN with no failures counted. The STATE field of FAB_PORT_STATUS shows the state. -/
def Obligations.PortStates : Prop :=
  (∀ (p : Nat) (s : State), TablesOk s → (getPort s p).state = .train →
    ∃ t, exec (.trainAttemptEnd p true) s = .next t ∧ (getPort t p).state = .ident ∧ (getPort t p).seq = 0 ∧
      (getPort t p).expect = 0 ∧ (getPort t p).alloc = creditsOf s p ∧ (getPort t p).since = s.counter ∧ getF t FAB_PORT_STATUS_STATE p = 2) ∧
  (∀ (p : Nat) (s : State), TablesOk s → (getPort s p).state = .train →
    ∃ t, exec (.trainAttemptEnd p false) s = .next t ∧ (getPort t p).fails = (getPort s p).fails + 1 ∧
      ((cfgOf s).routing.trainLimit ≤ (getPort s p).fails + 1 → (getPort t p).state = .failed) ∧
      ((getPort s p).fails + 1 < (cfgOf s).routing.trainLimit → (getPort t p).state = .train)) ∧
  (∀ (p now : Nat) (s : State), TablesOk s → (getPort s p).state = .ident →
    elapsed (advance s now) (getPort s p).since 10 1000 = true →
    ∃ t, exec (.identTimeout p now) s = .next t ∧ (getPort t p).fails = (getPort s p).fails + 1 ∧
      ((cfgOf s).routing.trainLimit ≤ (getPort s p).fails + 1 → (getPort t p).state = .failed) ∧
      ((getPort s p).fails + 1 < (cfgOf s).routing.trainLimit → (getPort t p).state = .train)) ∧
  (∀ (p : Nat) (lane : Bool) (s : State), TablesOk s → (getPort s p).state = .up →
    ∃ t, exec (.linkLoss p lane) s = .next t ∧ (getPort t p).state = .train ∧ (getPort t p).usable = false ∧
      (getPort t p).replay = [] ∧ t.mem = s.mem ∧ t.queues = s.queues) ∧
  (∀ (p : Nat) (a : Requester) (s : State), TablesOk s → p < 36 → hostPort s p = false → Reached s a (FAB_PORT_CTRL_RESET.at p) →
    ∃ t, exec (.portReset p a) s = .next t ∧ (getPort t p).state = .train ∧ (getPort t p).fails = 0 ∧ t.mem = s.mem ∧
      t.queues = s.queues)

/-- FORWARD: a message for another device that arrives on a channel of its type at a fit port leaves the receive buffer, and with one
more hop, up to 7, stands last at the port of its route; without a route it is discarded and counted. FLIT_TIME: once waiting messages
have their routes, a port in replay sends the flit that is next in it; a port with 1,024 flits unacknowledged, or in UP with nothing
to send, sends a NULL flit with the last sequence number; one in UP with a stream to send sends a DATA flit with the next sequence
number, kept for replay, and one in IDENT its IDENT. -/
def Obligations.ForwardAndFlitTime : Prop :=
  (∀ (a : Arrival) (s : State), TablesOk s → vcAllowed a.msg.mtype a.vc = true → linkLocal a.msg = false → isMcast a.msg = false →
    s.fabric.addr ≠ some a.msg.dst → portOk s a.port = true → a.msg.hops < 7 →
    let m := { a.msg with hops := a.msg.hops + 1 }
    let s1 := takeMsg s a
    (∀ p hc d, nextHop s1 a.vc (arrivalClass a) m = .via p hc d →
      ∃ t, exec (.forward a) s = .next t ∧ (getPort t p).txq = (getPort s1 p).txq ++ [⟨a.vc, hc, m, .none⟩] ∧ t.mem = s.mem) ∧
    (nextHop s1 a.vc (arrivalClass a) m = .stuck →
      exec (.forward a) s = .next (bump s1 FAB_MSG_EVENTS_UNROUTABLE 0 1))) ∧
  (∀ (a : Arrival) (s : State), vcAllowed a.msg.mtype a.vc = true → linkLocal a.msg = false → isMcast a.msg = false →
    s.fabric.addr ≠ some a.msg.dst → portOk s a.port = true → 7 ≤ a.msg.hops →
    exec (.forward a) s = .next (bump (takeMsg s a) FAB_MSG_EVENTS_HOP_EXCEEDED 0 1)) ∧
  (∀ (p : Nat) (s : State), TablesOk s → p < 36 →
    let x := getPort (routeAll s) p
    (x.state = .up ∨ x.state = .ident) →
    (∀ n, x.resend = some n → ∃ t, exec (.flitTime p) s = .next t ∧ getPort t p = putReplay x n) ∧
    (x.resend = none →
      (1024 ≤ x.replay.length ∨ (x.state = .up ∧ chooseStream (routeAll s) x = none) → ∃ t, exec (.flitTime p) s = .next t ∧ t.mem = s.mem ∧
        (getPort t p).seq = x.seq ∧ (getPort t p).replay = x.replay ∧
        (getPort t p).lastSent = flitBytes (presentFields x { blankHead with seq := (x.seq + 4095) % 4096 }) []) ∧
      (x.replay.length < 1024 → x.state = .up → ∀ k w c, chooseStream (routeAll s) x = some (k, w, c) →
        ∃ t y, exec (.flitTime p) s = .next t ∧ t.mem = s.mem ∧ getPort t p = putData x k w c ∧
          (getPort t p).seq = (x.seq + 1) % 4096 ∧ (getPort t p).replay = x.replay ++ [y] ∧ y.seq = x.seq) ∧
      (x.replay.length < 1024 → x.state = .ident →
        ∃ t y, exec (.flitTime p) s = .next t ∧ t.mem = s.mem ∧ (getPort t p).seq = (x.seq + 1) % 4096 ∧
          (getPort t p).replay = x.replay ++ [y] ∧ y.seq = x.seq ∧ (getPort t p).seenTx = (x.seenTx || x.seenRx) ∧
          (getPort t p).lastSent = flitBytes (presentFields x { blankHead with seq := x.seq, kind := 1, used := 121 })
            (identBody (routeAll s) p x.seenRx))))

/-- Delivered requests; WRITE and READ_REQ wait while a granule that they reach is being zeroed. WRITE: where the sender is granted the range, the payload reaches memory as one write, and WRITE_ACK answers
OK; where not, no byte changes, and WRITE_ACK answers the reason. READ_REQ: no byte changes, and READ_RESP answers OK with the bytes, or
the reason with none. CTL_WRITE and CTL_READ: where admitted they act as the register access that they name and CTL_RESP answers
OK, for a read with its value; where not, nothing is accessed and CTL_RESP answers the reason. LAND_WRITE: in sequence at an
enabled landing buffer, the payload goes by DMA to the sender's sub-ring and its write pointer moves on; from a sender without a
grant it is answered BOUNDS, and nothing goes to the host. -/
def Obligations.RemoteRequests : Prop :=
  (∀ (a : Arrival) (s : State), zeroingHit s a.msg.addr a.msg.payload.length = true → exec (.write a) s = .next s) ∧
  (∀ (a : Arrival) (s : State), zeroingHit s (a.msg.addr % 2 ^ 56) (a.msg.addr / 2 ^ 56 + 1) = true →
    exec (.readReq a) s = .next s) ∧
  (∀ (a : Arrival) (s : State), Delivered s a 0x01 → zeroingHit s a.msg.addr a.msg.payload.length = false →
    let r := received s a
    let st := grantStatus r a.msg a.msg.addr a.msg.payload.length true
    ∃ t, exec (.write a) s = .next t ∧ Answers t (respVc a) a.msg 0x02 st [] ∧
      (st = stOK → t.mem = (writeBytes r a.msg.addr a.msg.payload a.msg.poison).mem) ∧ (st ≠ stOK → t.mem = s.mem)) ∧
  (∀ (a : Arrival) (s : State), Delivered s a 0x03 →
    zeroingHit s (a.msg.addr % 2 ^ 56) (a.msg.addr / 2 ^ 56 + 1) = false →
    let st := grantStatus (received s a) a.msg (a.msg.addr % 2 ^ 56) (a.msg.addr / 2 ^ 56 + 1) false
    ∃ t, exec (.readReq a) s = .next t ∧ t.mem = s.mem ∧ Answers t (respVc a) a.msg 0x04 st
      (if st = stOK then readBytes s (a.msg.addr % 2 ^ 56) (a.msg.addr / 2 ^ 56 + 1) else [])) ∧
  (∀ (a : Arrival) (s : State), Delivered s a 0x05 →
    let r := received s a
    let st := ctlStatus r a.msg
    let u := if st = stOK then ctlWriteAt (ctlAccess a.msg) (BitVec.ofNat 64 (leAt a.msg.payload 0 8)) r else r
    ∃ f, exec (.ctlWrite a) s = .next { u with fabric := f } ∧ Answers { u with fabric := f } 11 a.msg 0x07 st []) ∧
  (∀ (a : Arrival) (gap : Nat) (s : State), Delivered s a 0x06 →
    let r := received s a
    let st := ctlStatus r a.msg
    let u := if st = stOK then ctlReadAt (ctlAccess a.msg) gap r else r
    ∃ f, exec (.ctlRead a gap) s = .next { u with fabric := f } ∧
      Answers { u with fabric := f } 11 a.msg 0x07 st (if st = stOK then leBytes 8 u.lastRead.toNat else [])) ∧
  (∀ (a : Arrival) (s : State), TablesOk s → Delivered s a 0x08 →
    let r := received s a
    let m := a.msg
    let k := m.src % 16
    (landGranted r m = false → ∃ t, exec (.landWrite a) s = .next t ∧ Answers t 13 m 0x02 stBounds [] ∧
      t.fabric.dma = s.fabric.dma ∧ t.mem = s.mem) ∧
    (landGranted r m = true → (devOpen r = true ∨ (m.part ≠ 0xF ∧ isHostMsg m = false)) → isStipe s = true →
      getF r FAB_HDMA_CTRL_ENABLE = 1 → (m.addr = 0 ∨ tblFind r.fabric.landNext k = some m.addr) →
      ∃ t, exec (.landWrite a) s = .next t ∧ t.mem = s.mem ∧
        t.fabric.dma = s.fabric.dma ++ ringWrites (getF r FAB_HDMA_BASE_BASE + k * 2 ^ getF r FAB_HDMA_CTRL_LOG2_SUB)
          (2 ^ getF r FAB_HDMA_CTRL_LOG2_SUB) (getF r FAB_HDMA_PTR_WR k) m.payload m.poison ∧
        getF t FAB_HDMA_PTR_WR k = (getF r FAB_HDMA_PTR_WR k + m.payload.length) % 2 ^ 32))

/-- A delivered WRITE_ACK, READ_RESP or CTL_RESP that answers no waiting transaction of its kind changes nothing but LATE_RESP's count.
WRITE_ACK with OK for a write of a drain ends that transaction and nothing else. A WRITE_ACK for a write of a STREAM_COPY, and its
REMOTE_TIMEOUT, leave the command waiting for its other writes, or complete, with a status other than OK kept. The response with OK to the last message of a
host's read gives the host the data. REMOTE_TIMEOUT: a drain's write that has waited too long is ended, and its destination counts it
as refused. CTL_TIMEOUT: where the last message of a host's read has waited too long, the read ends with Completer Abort. -/
def Obligations.Responses : Prop :=
  (∀ row ∈ [(Instr.writeAck, 0x02, [0, 4, 5, 7]), (.readResp, 0x04, [1, 6]), (.ctlResp, 0x07, [2, 3])],
    ∀ (a : Arrival) (s : State), Delivered s a row.2.1 → findTxn (received s a) a.msg row.2.2 = none →
    exec (row.1 a) s = .next (bump (received s a) FAB_MSG_EVENTS_LATE_RESP 0 1)) ∧
  (∀ (a : Arrival) (s : State) (x : Txn), Delivered s a 0x02 → findTxn (received s a) a.msg [0, 4, 5, 7] = some x →
    (x.kind = 4 ∨ x.kind = 5) → a.msg.status = stOK → exec (.writeAck a) s = .next (dropTxn (received s a) x)) ∧
  (∀ (a : Arrival) (now : Nat) (s : State) (x : Txn) (q : QueueId) (i : Issued) (tags : List Nat), x.kind = 7 →
    q ∈ queuesOf s x.part → i ∈ (getQ s q).live → i.waits = .remote tags → x.tag ∈ tags → tags.Nodup →
    let ends (st : Nat) (t : State) : Prop := t.mem = s.mem ∧ { i with
      status := joinStatus i.status st
      waits := if tags.erase x.tag = [] then .done else .remote (tags.erase x.tag) } ∈ (getQ t q).live
    (Delivered s a 0x02 → findTxn (received s a) a.msg [0, 4, 5, 7] = some x →
      ∃ t, exec (.writeAck a) s = .next t ∧ ends a.msg.status t) ∧
    (s.fabric.txns.find? (fun y => y.tag == x.tag && (y.kind == 4 || y.kind == 5 || y.kind == 7)) = some x →
      elapsed (advance s now) x.since (((partCfg s x.part).map (·.remoteTimeoutUs)).getD 200) 1000000 = true →
      ∃ t, exec (.remoteTimeout x.tag now) s = .next t ∧ ends stLinkDown t)) ∧
  (∀ (a : Arrival) (s : State) (x : Txn) (o : HostOp), Delivered s a 0x04 → findTxn (received s a) a.msg [1, 6] = some x →
    x.kind = 1 → a.msg.status = stOK → a.msg.poison = false →
    s.fabric.hostOps.find? (fun o => o.left.contains x.tag) = some o → o.left = [x.tag] → o.write = false → o.failed = false →
    o.poison = false → o.data = [(x.tag, [])] →
    ∃ t, exec (.readResp a) s = .next t ∧ t.mem = s.mem ∧
      t.fabric.hostDone = s.fabric.hostDone ++ [(o.tag, 0, a.msg.payload)]) ∧
  (∀ (a : Arrival) (s : State) (x : Txn) (o : HostOp), Delivered s a 0x07 → findTxn (received s a) a.msg [2, 3] = some x →
    a.msg.status = stOK → x.key < 2 ^ 40 →
    s.fabric.hostOps.find? (fun o => o.left.contains x.tag) = some o → o.left = [x.tag] → o.write = false → o.failed = false →
    o.poison = false → o.data = [(x.tag, [])] →
    ∃ t, exec (.ctlResp a) s = .next t ∧ t.mem = s.mem ∧
      t.fabric.hostDone = s.fabric.hostDone ++ [(o.tag, 0, a.msg.payload.take 8)]) ∧
  (∀ (tag now : Nat) (s : State) (x : Txn) (d : DrainSt) (y : DestSt), TablesOk s →
    s.fabric.txns.find? (fun x => x.tag == tag && (x.kind == 4 || x.kind == 5 || x.kind == 7)) = some x → x.kind ≠ 7 →
    elapsed (advance s now) x.since (((partCfg s x.part).map (·.remoteTimeoutUs)).getD 200) 1000000 = true →
    (getPart s x.part).drain = some d →
    let k := if x.kind = 5 then DrainDest.checkpoint else .buddy
    d.dests.find? (fun y => y.dest == k) = some y → y.gaveUp = false →
    ∃ t, exec (.remoteTimeout tag now) s = .next t ∧ t.fabric.txns = s.fabric.txns.erase x ∧ t.mem = s.mem ∧
      (getPart t x.part).drain = some { d with dests := d.dests.map (fun z => if z.dest = k then { z with refused := true } else z) }) ∧
  (∀ (tag now : Nat) (s : State) (x : Txn) (o : HostOp),
    s.fabric.txns.find? (fun x => x.tag == tag && x.kind != 4 && x.kind != 5 && x.kind != 7) = some x → x.kind ≠ 6 →
    elapsed (advance s now) x.since (ctlTimeoutUs s) 1000000 = true →
    s.fabric.hostOps.find? (fun o => o.left.contains x.tag) = some o → o.left = [x.tag] → o.write = false →
    ∃ t, exec (.ctlTimeout tag now) s = .next t ∧ t.mem = s.mem ∧ t.fabric.hostDone = s.fabric.hostDone ++ [(o.tag, 1, [])])

/-- A multicast message that may go on by its whole tree and comes at a fit port. With no entry for its group, or from another
device than the root, it is counted as rejected; at a device that is no receiver it goes on and does nothing else. MCAST_WRITE at a
receiver: inside its region, its bytes are held for the copy on its way and counted, and memory and the partition's copies stay;
outside, it is counted as rejected. MCAST_FENCE at a receiver: the count starts anew, MCAST_DONE goes to the root with the version and the bytes
counted, and where they are those that the fence states and no copy of that or a later version is held, the copy with its scales
is INCOMING and complete; else INCOMING stays as it was. MCAST_DONE at the root: the drain awaits that receiver no longer. -/
def Obligations.Multicast : Prop :=
  (∀ row ∈ [(Instr.mcastWrite, 0x09), (.mcastFence, 0x0A)], ∀ (a : Arrival) (s : State), DeliveredTree s a row.2 →
    ((∀ e, mcastEntry s a.msg.dst = some e → a.msg.src ≠ e.root) →
      exec (row.1 a) s = .next (bump (mcastOn a (received s a)) FAB_MSG_EVENTS_MCAST_REJECT 0 1)) ∧
    (∀ e, mcastEntry s a.msg.dst = some e → a.msg.src = e.root → e.localRx = false →
      exec (row.1 a) s = .next (mcastOn a (received s a)))) ∧
  (∀ (a : Arrival) (s : State) (e : McastCfg), DeliveredTree s a 0x09 → mcastEntry s a.msg.dst = some e → a.msg.src = e.root →
    e.localRx = true →
    (e.rxLen < a.msg.addr + a.msg.payload.length →
      exec (.mcastWrite a) s = .next (bump (mcastOn a (received s a)) FAB_MSG_EVENTS_MCAST_REJECT 0 1)) ∧
    (a.msg.addr + a.msg.payload.length ≤ e.rxLen →
      ∃ t, exec (.mcastWrite a) s = .next t ∧ t.mem = s.mem ∧ t.parts = s.parts ∧
        mcastRx t a.msg.dst = { mcastRx s a.msg.dst with
          bytes := (mcastRx s a.msg.dst).bytes + a.msg.payload.length
          cells := wputs (mcastRx s a.msg.dst).cells (e.rxBase + a.msg.addr) a.msg.payload a.msg.poison })) ∧
  (∀ (a : Arrival) (s : State) (e : McastCfg), TablesOk s → DeliveredTree s a 0x0A → mcastEntry s a.msg.dst = some e →
    a.msg.src = e.root → e.localRx = true →
    let version := leAt a.msg.payload 0 8
    let got := (mcastRx s a.msg.dst).bytes
    let taken := got = leAt a.msg.payload 8 8 ∧ (∀ c, (getPart s e.rxPart).active = some c → c.version < version) ∧
      (∀ c, (getPart s e.rxPart).incoming = some c → c.complete = true → c.version < version)
    ∃ t o, exec (.mcastFence a) s = .next t ∧ t.mem = s.mem ∧ (mcastRx t a.msg.dst).bytes = 0 ∧
      t.fabric.outq.getLast? = some o ∧ o.msg.mtype = 0x0B ∧ o.msg.dst = e.root ∧
      o.msg.status = (if got = leAt a.msg.payload 8 8 then stOK else stLinkDown) ∧
      o.msg.payload = leBytes 8 version ++ leBytes 8 got ∧
      (taken → ∃ c, (getPart t e.rxPart).incoming = some c ∧ c.version = version ∧ c.complete = true ∧
        c.scales = receivedScales (mcastRx s a.msg.dst).cells) ∧
      (¬ taken → (getPart t e.rxPart).incoming = (getPart s e.rxPart).incoming)) ∧
  (∀ (a : Arrival) (s : State) (d : DrainSt) (y : DestSt), TablesOk s → Delivered s a 0x0B → a.msg.part < 8 →
    (getPart s a.msg.part).drain = some d → d.version = leAt a.msg.payload 0 8 → y ∈ d.dests →
    y.dest = .rollout a.msg.tag → a.msg.src ∈ y.await →
    ∃ t, exec (.mcastDone a) s = .next t ∧ t.mem = s.mem ∧ (getPart t a.msg.part).drain = some { d with
      dests := d.dests.map (fun z => if z.dest = .rollout a.msg.tag then { z with await := z.await.erase a.msg.src } else z) })

/-- HOST_REQUEST at a device in READY or SERVICE whose host port is trained. To its own window, an aligned 8-byte read or write with all
bytes enabled is the register access it names, and the read is answered with the value. To its own HBM, a write stores the enabled
bytes, and a read is answered with the bytes of memory, marked where they are poisoned. To another device it becomes an operation
that waits for the responses to its messages. Unsupported, a read is answered so and a write changes nothing. FAB_HDMA_PTR_RD: the
host's pointer is the value written. -/
def Obligations.HostRequests : Prop :=
  (∀ (r : HostReq) (s : State) (d o : Nat), hostTrained s = true → (s.dev = .ready ∨ s.dev = .service) →
    hostTarget s r = .control d o → d = s.fabric.addr.getD 0 → r.len = 8 → o % 8 = 0 → allEnabled r = true →
    (r.write = true → exec (.hostRequest r) s = .next (ctlWriteAt ⟨.host d, o, .w64⟩ (BitVec.ofNat 64 (leAt r.data 0 8)) s)) ∧
    (r.write = false → ∃ u, u = ctlReadAt ⟨.host d, o, .w64⟩ r.gap s ∧
      exec (.hostRequest r) s = .next { u with fabric := { u.fabric with
        hostDone := u.fabric.hostDone ++ [(r.tag, 0, leBytes 8 u.lastRead.toNat)] } })) ∧
  (∀ (r : HostReq) (s : State) (d a : Nat), hostTrained s = true → (s.dev = .ready ∨ s.dev = .service) →
    hostTarget s r = .memory d a → d = s.fabric.addr.getD 0 → hbmRange a r.len = true →
    (r.write = true → exec (.hostRequest r) s =
      .next ((enabledRuns r a).foldl (fun s x => writeBytes s x.1 x.2 r.poison) s)) ∧
    (r.write = false → ∃ t k, exec (.hostRequest r) s = .next t ∧ t.mem = s.mem ∧ (k = 0 ∨ k = 3) ∧
      t.fabric.hostDone = s.fabric.hostDone ++ [(r.tag, k, readBytes s a r.len)])) ∧
  (∀ (r : HostReq) (s : State) (d a : Nat), hostTrained s = true → (s.dev = .ready ∨ s.dev = .service) →
    hostTarget s r = .memory d a → d ≠ s.fabric.addr.getD 0 →
    ∃ t o, exec (.hostRequest r) s = .next t ∧ t.mem = s.mem ∧ t.fabric.hostOps = s.fabric.hostOps ++ [o] ∧ o.tag = r.tag ∧
      o.write = r.write ∧ o.left.length = (if r.write then (enabledRuns r a).length
        else (cut256 a (plainBytes (List.replicate r.len 0#8))).length)) ∧
  (∀ (r : HostReq) (s : State), hostTrained s = true → (s.dev = .ready ∨ s.dev = .service) →
    hostTarget s r = .unsupported →
    (r.write = true → exec (.hostRequest r) s = .next s) ∧
    (r.write = false → ∃ t, exec (.hostRequest r) s = .next t ∧ t.regs = s.regs ∧ t.mem = s.mem ∧
      t.fabric.hostDone = s.fabric.hostDone ++ [(r.tag, 2, [])])) ∧
  (∀ (m : Nat) (a : Requester) (v : W32) (s : State), TablesOk s → m < 16 → isStipe s = true →
    Reached s a (FAB_HDMA_PTR_WR.at m) →
    ∃ t, exec (.hdmaPtrRd m a v) s = .next t ∧ t.mem = s.mem ∧ getF t FAB_HDMA_PTR_RD m = v.toNat ∧
      getF t FAB_HDMA_PTR_WR m = getF s FAB_HDMA_PTR_WR m)

/-- MAILBOX_GO by a channel's sender: a 1 to GO, with GO and DONE clear, makes the channel's request the youngest pending one; a 1 to
DONE clears DONE; by another requester, or while DONE is set, no request is made and the access error is raised. MAILBOX_RESET by running
lichen firmware: the data read zero, GO is clear, DONE set, STATUS is ABORTED and the request is not pending. MBX_POST: the payload
enters the channel of the sender's member number as a pending request; from another colony, or while GO or DONE is set, nothing is
kept and MBX_REPLY answers NO_RESOURCE. MBX_REPLY leaves nothing but the wake. INT_NOTIFY of a non-zero summary at a stipe device sets
the cause bit of the sender's member number. -/
def Obligations.MailboxRequests : Prop :=
  (∀ (c : Nat) (a : Requester) (v : W64) (s : State), TablesOk s → c < 320 → (c < 16 ∨ 32 ≤ c) → sendsOn s a c = true →
    Reached s a (mbxCtrl c) → bitOf v.toNat 0 = true → goBit s c = false → doneBit s c = false →
    ∃ t, exec (.mailboxGo c a v) s = .next t ∧ goBit t c = true ∧ t.mgmt.mbxOrder = s.mgmt.mbxOrder ++ [c] ∧ t.mem = s.mem ∧
      ∀ k < 12, getReg t (mbxData c k) = getReg s (mbxData c k)) ∧
  (∀ (c : Nat) (a : Requester) (v : W64) (s : State), TablesOk s → c < 320 → sendsOn s a c = true → Reached s a (mbxCtrl c) →
    bitOf v.toNat 0 = false → bitOf v.toNat 1 = true →
    ∃ t, exec (.mailboxGo c a v) s = .next t ∧ doneBit t c = false ∧ goBit t c = goBit s c ∧ t.mgmt = s.mgmt ∧ t.mem = s.mem) ∧
  (∀ (c : Nat) (a : Requester) (v : W64) (s : State), TablesOk s → c < 320 → Reached s a (mbxCtrl c) →
    (sendsOn s a c = false ∨ (bitOf v.toNat 0 = true ∧ goBit s c = false ∧ doneBit s c = true)) →
    ∃ t, exec (.mailboxGo c a v) s = .next t ∧ goBit t c = goBit s c ∧ Caused t 8 (reqCode a) ∧
      t.mgmt.mbxOrder = s.mgmt.mbxOrder ∧ t.mem = s.mem) ∧
  (∀ (c : Nat) (s : State), TablesOk s → c < 320 → lichenRuns s = true →
    ∃ t, exec (.mailboxReset c .lichen) s = .next t ∧ Replied t c stAborted ∧ (∀ k < 12, getReg t (mbxData c k) = 0) ∧
      t.mgmt.mbxOrder = s.mgmt.mbxOrder.erase c ∧ t.mem = s.mem) ∧
  (∀ (a : Arrival) (s : State), TablesOk s → Delivered s a 0x18 →
    let c := 16 + a.msg.src % 16
    (a.msg.src / 16 = a.msg.dst / 16 → goBit s c = false → doneBit s c = false →
      ∃ t, exec (.mbxPost a) s = .next t ∧ goBit t c = true ∧ t.mgmt.mbxOrder = s.mgmt.mbxOrder ++ [c] ∧ t.mem = s.mem ∧
        ∀ k < 12, getReg t (mbxData c k) = BitVec.ofNat 64 (leAt a.msg.payload (8 * k) 8)) ∧
    (a.msg.src / 16 ≠ a.msg.dst / 16 ∨ goBit s c = true ∨ doneBit s c = true →
      ∃ t pl, exec (.mbxPost a) s = .next t ∧ Answers t 10 a.msg 0x19 stNoResource pl ∧ pl.length = 96 ∧
        t.mgmt.mbxOrder = s.mgmt.mbxOrder ∧ t.mem = s.mem ∧ ∀ k < 12, getReg t (mbxData c k) = getReg s (mbxData c k))) ∧
  (∀ (a : Arrival) (s : State), Delivered s a 0x19 → exec (.mbxReply a) s = .next (atLichen s a)) ∧
  (∀ (a : Arrival) (s : State), TablesOk s → Delivered s a 0x1A → isStipe s = true → a.msg.src / 16 = a.msg.dst / 16 →
    leAt a.msg.payload 0 8 ≠ 0 →
    ∃ t, exec (.intNotify a) s = .next t ∧ Caused t 17 (a.msg.src % 16) ∧ t.mem = s.mem)

/-- The oldest pending request names the service, and the lichen core runs. ECHO answers OK with the data as they were. LOG_COPY writes
the records found, in order, to memory and answers OK with their number, or BAD_DESCRIPTOR for a count of 0 or above 65,536. TELEM_NOW
writes a telemetry frame to the ring's next place and answers OK with its number, or NO_RESOURCE while telemetry is off. ATTEST writes
the report over the nonce and answers OK with its length, or the reason that the target does not fit. LICHEN_REPLY, to a request that
names no service, answers BAD_DESCRIPTOR with DATA0 as it was. SEQUENCER_LOG_RECORD posts the oldest record that an idle channel's
sequencer holds; a posted one enters the log and is answered with OK. -/
def Obligations.ManagementServices : Prop :=
  (∀ (c : Nat) (s : State), TablesOk s → serves s c 0x0000 = true →
    ∃ t, exec (.echo c) s = .next t ∧ Replied t c stOK ∧ t.mgmt.mbxOrder = s.mgmt.mbxOrder.erase c ∧ t.mem = s.mem ∧
      ∀ k < 12, getReg t (mbxData c k) = getReg s (mbxData c k)) ∧
  (∀ (c : Nat) (s : State), TablesOk s → serves s c 0x0001 = true →
    let recs := loggedRun s (mbxWord s c 1) (mbxWord s c 2)
    let a := mbxWord s c 3
    (mbxWord s c 2 = 0 ∨ 65536 < mbxWord s c 2 →
      ∃ t, exec (.logCopy c) s = .next t ∧ Replied t c stBadDesc ∧ t.mem = s.mem) ∧
    (1 ≤ mbxWord s c 2 → mbxWord s c 2 ≤ 65536 → hbmTarget a (64 * recs.length) 64 = none →
      ∃ t, exec (.logCopy c) s = .next t ∧ Replied t c stOK ∧ getReg t (mbxData c 1) = BitVec.ofNat 64 recs.length ∧
        t.mem = (writeBytes s a recs.flatten).mem)) ∧
  (∀ (c : Nat) (s : State), TablesOk s → serves s c 0x0002 = true →
    ((cfgOf s).understory.telemPeriod = 0 →
      ∃ t, exec (.telemNow c) s = .next t ∧ Replied t c stNoResource ∧ t.mem = s.mem) ∧
    (∀ base, (cfgOf s).understory.telemPeriod ≠ 0 → (cfgOf s).understory.telemBase = some base →
      ∃ t, exec (.telemNow c) s = .next t ∧ Replied t c stOK ∧ t.mgmt.frames = s.mgmt.frames + 1 ∧
        getReg t (mbxData c 1) = BitVec.ofNat 64 (s.mgmt.frames + 1) ∧
        t.mem = (writeBytes s (base + 1024 * (s.mgmt.frames % max 1 (cfgOf s).understory.telemFrames))
          (frameBytes s (s.mgmt.frames + 1))).mem)) ∧
  (∀ (c : Nat) (s : State), TablesOk s → serves s c 0x0003 = true →
    let a := mbxWord s c 5
    (∀ st, hbmTarget a 4738 1 = some st → ∃ t, exec (.attest c) s = .next t ∧ Replied t c st ∧ t.mem = s.mem) ∧
    (hbmTarget a 4738 1 = none →
      ∃ t, exec (.attest c) s = .next t ∧ Replied t c stOK ∧ getReg t (mbxData c 1) = 4738 ∧
        t.mem = (writeBytes s a (attestReport s ((List.range' 1 4).flatMap (fun k => leBytes 8 (mbxWord s c k))))).mem)) ∧
  (∀ (c : Nat) (data : List W64) (s : State), TablesOk s → knownCode (mbxCode s c) = false → serves s c (mbxCode s c) = true →
    ∃ t, exec (.lichenReply c stBadDesc data) s = .next t ∧ Replied t c stBadDesc ∧ t.mem = s.mem ∧
      getReg t (mbxData c 0) = getReg s (mbxData c 0)) ∧
  (∀ (f : Nat) (r : LogRec) (l : List LogRec) (s : State), f < 288 → goBit s (32 + f) = false → (getFrond s f).seqLog = r :: l →
    exec (.sequencerLogRecord (32 + f)) s = .next (seqPost s f r)) ∧
  (∀ (f : Nat) (s : State), TablesOk s → f < 288 → goBit s (32 + f) = true → lichenRuns s = true →
    s.mgmt.mbxOrder.head? = some (32 + f) → s.mgmt.queue.length < 256 →
    ∃ t, exec (.sequencerLogRecord (32 + f)) s = .next t ∧ Replied t (32 + f) stOK ∧ t.mem = s.mem ∧
      t.flash.logNext = s.flash.logNext + 1 ∧ (getFrond t f).seqLog = (getFrond s f).seqLog.drop 1 ∧
      t.mgmt.queue = s.mgmt.queue ++
        [{ LogRec.ofBytes ((mbxWords s (32 + f)).flatMap (fun w => leBytes 8 w.toNat)) with lost := s.mgmt.lostNext }])

/-- The oldest pending request, of a host channel, names the service, and the lichen core runs. PROVISION: a certificate that verifies
is kept, CERTIFIED is set and OPENED cleared, and the answer is OK; one that does not changes none of these, raises the cause of a
failed signature and is answered with SIGNATURE. OWNER_KEY: the first key, or one whose signature by the installed key
verifies, is installed; another is not, and SIGNATURE answers. SEAL keeps the secret in its slot with the image
digest where the request binds it, and its least firmware version. UNSEAL writes the secret to memory where the digest and the
firmware counter allow it; else it writes nothing and answers SIGNATURE. With PUF_FAIL both answer NO_RESOURCE. -/
def Obligations.SecurityServices : Prop :=
  (∀ (c : Nat) (ok : Bool) (s : State), TablesOk s → c < 16 → serves s c 0x0010 = true → hbmTarget (mbxWord s c 1) 1282 1 = none →
    let cert := readBytes s (mbxWord s c 1) 1282
    (blockOk cert ok = true →
      ∃ t, exec (.provision c ok) s = .next t ∧ Replied t c stOK ∧ t.flash.certified = true ∧ t.flash.opened = false ∧
        t.flash.cert = cert ∧ Caused t 16 4 ∧ t.mem = s.mem) ∧
    (blockOk cert ok = false →
      ∃ t, exec (.provision c ok) s = .next t ∧ Replied t c stSignature ∧ t.flash.certified = s.flash.certified ∧
        t.flash.opened = s.flash.opened ∧ t.flash.cert = s.flash.cert ∧ Caused t 16 2 ∧ t.mem = s.mem)) ∧
  (∀ (c : Nat) (ok : Bool) (s : State), TablesOk s → c < 16 → serves s c 0x0011 = true →
    let a := mbxWord s c 1
    let n := if s.flash.ownerKey.isSome then 1793 + 1282 else 1793
    let good := !s.flash.ownerKey.isSome || blockOk (readBytes s (a + 1793) 1282) ok
    hbmTarget a n 1 = none →
    (good = true → ∃ t, exec (.ownerKey c ok) s = .next t ∧ Replied t c stOK ∧
      t.flash.ownerKey = some (readBytes s a 1793) ∧ Caused t 16 4 ∧ t.mem = s.mem) ∧
    (good = false → ∃ t, exec (.ownerKey c ok) s = .next t ∧ Replied t c stSignature ∧
      t.flash.ownerKey = s.flash.ownerKey ∧ Caused t 16 2 ∧ t.mem = s.mem)) ∧
  (∀ (c : Nat) (s : State), TablesOk s → c < 16 → serves s c 0x0012 = true →
    let slot := mbxWord s c 1
    (pufFailed s = true → ∃ t, exec (.sealSecret c) s = .next t ∧ Replied t c stNoResource ∧
      t.flash.sealedAt = s.flash.sealedAt) ∧
    (pufFailed s = false → slot < 64 →
      ∃ t, exec (.sealSecret c) s = .next t ∧ Replied t c stOK ∧ t.mem = s.mem ∧ tblFind t.flash.sealedAt slot =
        some ((List.range' 2 4).flatMap (fun k => leBytes 8 (mbxWord s c k)),
          if bitOf (mbxWord s c 6) 32 then sliceB s.cfg.committed.digest 0 8 else [], mbxWord s c 6 % 2 ^ 32))) ∧
  (∀ (c : Nat) (s : State) (secret bound : List Byte) (least : Nat), TablesOk s → c < 16 → serves s c 0x0013 = true →
    let a := mbxWord s c 2
    (pufFailed s = true → ∃ t, exec (.unsealSecret c) s = .next t ∧ Replied t c stNoResource ∧ t.mem = s.mem) ∧
    (pufFailed s = false → tblFind s.flash.sealedAt (mbxWord s c 1) = some (secret, bound, least) → hbmTarget a 32 64 = none →
      (least ≤ s.flash.fwCtr ∧ (bound = [] ∨ bound = sliceB s.cfg.committed.digest 0 8) →
        ∃ t, exec (.unsealSecret c) s = .next t ∧ Replied t c stOK ∧ t.mem = (writeBytes s a secret).mem) ∧
      (¬(least ≤ s.flash.fwCtr ∧ (bound = [] ∨ bound = sliceB s.cfg.committed.digest 0 8)) →
        ∃ t, exec (.unsealSecret c) s = .next t ∧ Replied t c stSignature ∧ t.mem = s.mem)))

/-- ATTEST_REQ: the report over the partner's nonce goes out on the port, in fragments of 256 bytes. ATTEST_RESP: a fragment at its
offset joins the report; where the report is whole and verifies, and its device is not opened, the port is PASSED and fit for messages
unless MISWIRED; any other whole report fails it, and it becomes fit for messages where the settings only log, else its cause is
raised. ANNOUNCE: a device with no address takes it from its neighbour; one with an address notes a global link's colony, marks a
neighbour at the wrong place MISWIRED, and drops a global link to its own colony. FAB_ASSIGN with GO gives a stipe device without an
address its colony; elsewhere it is discarded with an access error. -/
def Obligations.NeighboursAndAddresses : Prop :=
  (∀ (a : Arrival) (s : State), TablesOk s → LinkMsg a 0x10 →
    ∃ t, exec (.attestReq a) s = .next t ∧ t.mem = s.mem ∧
      (getPort t a.port).txq = (getPort s a.port).txq ++
        ((chunks 256 (attestReport (atLink s a) a.msg.payload)).zipIdx).map (fun x =>
          ⟨8, 0, { mtype := 0x11, dst := portDst s a.port, addr := 256 * x.2, payload := x.1,
                   src := s.fabric.addr.getD 0 }, .none⟩)) ∧
  (∀ (a : Arrival) (verified : Bool) (s : State), TablesOk s → LinkMsg a 0x11 → a.port < 36 →
    getF s FAB_PORT_ATTEST_STATE a.port = 1 → a.msg.addr = (getPort s a.port).report.length →
    let b := (getPort s a.port).report ++ a.msg.payload
    let good := verified && reportFits (getPort s a.port) b && !bitOf (leAt b 6 2) 0
    let p := a.port
    (b.length < 4738 → ∃ t, exec (.attestResp a verified) s = .next t ∧ (getPort t p).report = b ∧
      getF t FAB_PORT_ATTEST_STATE p = 1 ∧ (getPort t p).usable = (getPort s p).usable ∧ t.mem = s.mem) ∧
    (4738 ≤ b.length → ∃ t, exec (.attestResp a verified) s = .next t ∧ t.mem = s.mem ∧
      getF t FAB_PORT_ATTEST_STATE p = (if good then 2 else 3) ∧
      (good = true ∨ (cfgOf s).routing.attestLog = true → (getPort t p).usable = !miswired s p) ∧
      (good = false → (cfgOf s).routing.attestLog = false →
        (getPort t p).usable = (getPort s p).usable ∧ Caused t 9 p))) ∧
  (∀ (a : Arrival) (s : State), TablesOk s → LinkMsg a 0x12 → a.port < 36 →
    let b := sliceB a.msg.payload 0 24
    let p := a.port
    (s.fabric.addr = none → p < 15 → isStipe s = false →
      ∃ t, exec (.announce a) s = .next t ∧ t.mem = s.mem ∧
        t.fabric.addr = some (leAt b 0 1 * 16 + (leAt b 1 1 + 31 - p) % 16)) ∧
    (∀ d, s.fabric.addr = some d → 15 ≤ p → leAt b 0 1 ≠ d / 16 →
      ∃ t, exec (.announce a) s = .next t ∧ t.mem = s.mem ∧ (getPort t p).link = some (leAt b 0 1) ∧
        tblFind t.fabric.serials (leAt b 0 1) = some (leAt b 4 16)) ∧
    (∀ d, s.fabric.addr = some d → p < 15 →
      (leAt b 0 1 ≠ d / 16 ∨ leAt b 1 1 ≠ (d % 16 + p + 1) % 16 ∨ leAt b 2 1 + p ≠ 14) →
      ∃ t, exec (.announce a) s = .next t ∧ t.mem = s.mem ∧ miswired t p = true ∧ (getPort t p).usable = false ∧ Caused t 9 p) ∧
    (∀ d, s.fabric.addr = some d → 15 ≤ p → leAt b 0 1 = d / 16 →
      ∃ t, exec (.announce a) s = .next t ∧ t.mem = s.mem ∧ (getPort t p).state = .ident ∧ (getPort t p).usable = false)) ∧
  (∀ (a : Requester) (v : W64) (s : State), TablesOk s → Reached s a FAB_ASSIGN_COLONY.off →
    (isStipe s = true → s.fabric.addr = none → bitOf v.toNat 63 = true →
      ∃ t, exec (.fabAssign a v) s = .next t ∧ t.mem = s.mem ∧ t.fabric.addr = some (bitsOf v.toNat 0 8 * 16)) ∧
    (isStipe s = false ∨ s.fabric.addr.isSome = true →
      ∃ t, exec (.fabAssign a v) s = .next t ∧ t.mem = s.mem ∧ t.fabric.addr = s.fabric.addr ∧ Caused t 8 (reqCode a)))

/-- ROUTE_GOSSIP before the device has an address and its colony is numbered, or of an older run, only raises the highest run seen;
a fragment of the present run is noted and merged, the round goes on while a port of it lacks a fragment, and round 6 ends the run.
Ending a run shows ROUTES_OK. GOSSIP_RUN_START: a wanted run is one above the highest seen, counts, and stands at round 1 on the fit
ports. ROUND_GIVEUP: a round that has waited too long is counted and ends: round 6 ends the run, an earlier one is followed by the
next. STARTUP_LATE: an interval above its bound sets its LATE bit and its cause; one within its bound does neither. -/
def Obligations.GossipRuns : Prop :=
  (∀ (a : Arrival) (feeds : List FeedRead) (s : State), TablesOk s → LinkMsg a 0x13 →
    let b := a.msg.payload
    let run := leAt b 0 2
    let g := s.fabric.gossip
    let r := atLink s a
    (s.fabric.addr = none ∨ getF s ANC_BOOT_STATUS_COLONY_OK = 0 ∨ run < g.run →
      exec (.routeGossip a feeds) s = .next { r with fabric := { r.fabric with gossip := { g with seen := max run g.seen } } }) ∧
    (∀ d, s.fabric.addr = some d → getF s ANC_BOOT_STATUS_COLONY_OK ≠ 0 → run = g.run → g.round ≠ 0 →
      let m := mergeFragment { r with fabric := { r.fabric with gossip := { g with
        seen := max run g.seen, got := g.got ++ [(a.port, run, leAt b 2 1, leAt b 3 1)] } } } d b
      (m.fabric.gossip.ports.any (fun p => !roundHeard m.fabric.gossip p) = true →
        exec (.routeGossip a feeds) s = .next m) ∧
      (m.fabric.gossip.ports.any (fun p => !roundHeard m.fabric.gossip p) = false → 6 ≤ g.round →
        exec (.routeGossip a feeds) s = .next (finishGossip m feeds)))) ∧
  (∀ (feeds : List FeedRead) (s : State), TablesOk s → s.dev ≠ .ready →
    getF (finishGossip s feeds) ANC_BOOT_STATUS_ROUTES_OK = 1 ∧ (finishGossip s feeds).fabric.gossip.done = true ∧
      (finishGossip s feeds).fabric.gossip.round = 0) ∧
  (∀ (feeds : List FeedRead) (s : State) (d : Nat), TablesOk s → s.fabric.addr = some d → s.fabric.gossip.want = true →
    gossipPorts s ≠ [] → s.fabric.gossip.got.all (fun x => x.2.1 != s.fabric.gossip.seen + 1) = true →
    ∃ t, exec (.gossipRunStart feeds) s = .next t ∧ t.mem = s.mem ∧ t.fabric.gossip.want = false ∧
      t.fabric.gossip.run = s.fabric.gossip.seen + 1 ∧ t.fabric.gossip.round = 1 ∧ t.fabric.gossip.ports = gossipPorts s ∧
      getF t FAB_GOSSIP_RUNS = satAdd 16 (getF s FAB_GOSSIP_RUNS) 1) ∧
  (∀ (now : Nat) (feeds : List FeedRead) (s : State), TablesOk s → s.fabric.gossip.round ≠ 0 →
    elapsed (advance s now) s.fabric.gossip.since (cfgOf s).routing.roundGiveup 10 = true →
    let g := s.fabric.gossip
    (6 ≤ g.round → exec (.roundGiveup now feeds) s =
      .next (finishGossip (setGossip (bump (advance s now) FAB_GOSSIP_GIVEUPS 0 1) { g with ports := [] }) feeds)) ∧
    (g.round < 6 → gossipPorts s ≠ [] → heardOf g g.run (g.round + 1) = [] →
      ∃ t, exec (.roundGiveup now feeds) s = .next t ∧ t.mem = s.mem ∧ t.fabric.gossip.round = g.round + 1 ∧
        t.fabric.gossip.run = g.run ∧ getF t FAB_GOSSIP_GIVEUPS = satAdd 16 (getF s FAB_GOSSIP_GIVEUPS) 1)) ∧
  (∀ (n now since : Nat) (s : State), TablesOk s → n < 5 → intervalSince (advance s now) n = some since →
    bitOf (getF s ANC_BOOT_STATUS_LATE) n = false →
    ((advance s now).counter - since > intervalBound n * 32768 →
      ∃ t, exec (.startupLate (.stage n) now) s = .next t ∧ t.mem = s.mem ∧ Caused t 10 n ∧
        getF t ANC_BOOT_STATUS_LATE = getF s ANC_BOOT_STATUS_LATE + 2 ^ n) ∧
    ((advance s now).counter - since ≤ intervalBound n * 32768 →
      exec (.startupLate (.stage n) now) s = .next (advance s now)))

/-- BARRIER_JOIN at a device that has not joined the barrier keeps the join, the latest of its sender and level. At the head of a colony
that is not the root, once every other participant of the colony has joined, one join for the whole colony goes up to the root. At the
root, once the joins cover every participant, the fabric-ready barrier completes: FABRIC_READY is shown and PARTIAL is not.
BARRIER_RELEASE at a member that has joined: the fabric-ready barrier completes; a COMMIT's barrier ends, and the COMMIT that waits for
it takes effect where the release says OK and no digest differs, and else ends with INCONSISTENT. A head forwards the release to its
colony. BOOT_GIVEUP ends the fabric-ready barrier as partial, with its cause; COMMIT_GIVEUP ends the COMMIT with LINK_DOWN. -/
def Obligations.Barriers : Prop :=
  (∀ (a : Arrival) (feeds : List FeedRead) (s : State), Delivered s a 0x14 →
    let e := leAt a.msg.payload 0 8
    let b := (getBarrier s e).getD ⟨e, false, leAt a.msg.payload 16 2, [], 0, [], false, s.counter⟩
    b.joined = false → exec (.barrierJoin a feeds) s = .next (putBarrier (atLichen s a) (withJoin b a.msg))) ∧
  (∀ (a : Arrival) (feeds : List FeedRead) (s : State) (b : BarrierSt), Delivered s a 0x14 →
    let d := a.msg.dst
    let b1 := withJoin b a.msg
    getBarrier s (leAt a.msg.payload 0 8) = some b → b.joined = true → headOf b (d / 16) = d → b.members.headD 0 ≠ d →
    colonyWhole b1 d → b.sentUp = false →
    ∃ t o, exec (.barrierJoin a feeds) s = .next t ∧ t.mem = s.mem ∧
      getBarrier t b.epoch = some { b1 with sentUp := true } ∧ t.fabric.outq.getLast? = some o ∧ o.msg.dst = b.members.headD 0 ∧
      o.msg.mtype = 0x14 ∧ o.msg.payload = barrierPayload b1 (inBarrierColony b (d / 16)).length 1 0) ∧
  (∀ (a : Arrival) (feeds : List FeedRead) (s : State) (b : BarrierSt), TablesOk s → Delivered s a 0x14 →
    let d := a.msg.dst
    let b1 := withJoin b a.msg
    leAt a.msg.payload 0 8 = 0 → getBarrier s 0 = some b → b.joined = true → headOf b (d / 16) = d → b.members.headD 0 = d →
    colonyWhole b1 d → b.members.length ≤ covered b1 →
    ∃ t, exec (.barrierJoin a feeds) s = .next t ∧ t.mem = s.mem ∧ getBarrier t 0 = none ∧
      getF t ANC_BOOT_STATUS_FABRIC_READY = 1 ∧ getF t ANC_BOOT_STATUS_PARTIAL = 0) ∧
  (∀ (a : Arrival) (feeds : List FeedRead) (s : State) (b : BarrierSt), Delivered s a 0x15 →
    let e := leAt a.msg.payload 0 8
    let u := dropBarrier (showBarrier (atLichen s a) b false) e
    let st := if barrierBad b then stInconsistent else leAt a.msg.payload 21 1
    getBarrier s e = some b → b.joined = true → headOf b (a.msg.dst / 16) ≠ a.msg.dst →
    (e = 0 → exec (.barrierRelease a feeds) s = .next (fabricReady u false feeds)) ∧
    (∀ i, e ≠ 0 → liveCommit s = some i → i.waits = .barrier e →
      exec (.barrierRelease a feeds) s = .next (if st = stOK then applyCommit u i else failCommit u i.n stInconsistent))) ∧
  (∀ (a : Arrival) (feeds : List FeedRead) (s : State) (b : BarrierSt) (m : Nat), Delivered s a 0x15 →
    leAt a.msg.payload 0 8 = 0 → getBarrier s 0 = some b → b.joined = true → headOf b (a.msg.dst / 16) = a.msg.dst →
    m ∈ inBarrierColony b (a.msg.dst / 16) → m ≠ a.msg.dst →
    ∃ t, exec (.barrierRelease a feeds) s = .next t ∧ t.mem = s.mem ∧
      ∃ o ∈ t.fabric.outq, o.msg.dst = m ∧ o.msg.mtype = 0x15) ∧
  (∀ (part : Bool) (feeds : List FeedRead) (s : State), TablesOk s →
    getF (fabricReady s part feeds) ANC_BOOT_STATUS_FABRIC_READY = 1 ∧
    getF (fabricReady s part feeds) ANC_BOOT_STATUS_PARTIAL = b2n part ∧ (part = true → Caused (fabricReady s part feeds) 10 5)) ∧
  (∀ (now : Nat) (feeds : List FeedRead) (s : State) (b : BarrierSt), getBarrier s 0 = some b → b.joined = true →
    elapsed (advance s now) b.since (cfgOf s).routing.bootGiveup 1 = true →
    exec (.bootGiveup now feeds) s =
      .next (fabricReady (dropBarrier (showBarrier (advance s now) b false) 0) true feeds)) ∧
  (∀ (now e : Nat) (s : State) (i : Issued) (b : BarrierSt), liveCommit s = some i → i.waits = .barrier e →
    getBarrier s e = some b → elapsed (advance s now) b.since (cfgOf s).routing.commitGiveup 1 = true →
    exec (.commitGiveup now) s =
      .next (failCommit (dropBarrier (showBarrier (advance s now) b false) e) i.n stLinkDown))

/-- AUX33_ON in OFF enters STANDBY with the counter at 0 and the AUX registers at reset. AUX33_LOSS enters OFF from any state and loses
the log queue too. The release of the island starts the counter. POWER_GOOD samples HOST_SEL; RESET_N and power-good together, with
the island released, bring a device in STANDBY to BOOT at the later event. The loss of either in BOOT, READY or SERVICE enters STANDBY.
PERST_N low at a stipe device ends the host's requests, reads with Completer Abort, and nothing else. -/
def Obligations.PowerAndReset : Prop :=
  (∀ s : State, s.dev = .off → ∃ t, exec .aux33On s = .next t ∧ t.dev = .standby ∧ t.counter = 0 ∧ t.island = false ∧
    t.pins.aux33 = true ∧ t.mem = s.mem ∧
    ∀ off r i j, regAt off = some (r, i, j) → r.cls = .aux → getReg t off = BitVec.ofNat 64 (regReset off)) ∧
  (∀ s : State, ∃ t, exec .aux33Loss s = .next t ∧ t.dev = .off ∧ t.island = false ∧ t.mem = [] ∧ t.fronds = [] ∧ t.parts = [] ∧
    t.queues = [] ∧ t.mgmt.queue = [] ∧ t.pins.aux33 = false) ∧
  (∀ s : State, s.dev = .standby → s.island = false → ∃ t, exec .islandResetRelease s = .next t ∧ t.island = true ∧
    t.counter = 0 ∧ (s.pins.in48 = true → s.pins.resetN = true → Booted s t) ∧
    (s.pins.in48 = false ∨ s.pins.resetN = false → t.dev = .standby)) ∧
  (∀ (sel : Bool) (s : State), TablesOk s → s.pins.in48 = false → ∃ t, exec (.powerGood sel) s = .next t ∧ t.pins.hostSel = sel ∧
    t.pins.in48 = true ∧ getF t PWR_STATUS_PGOOD = 1 ∧
    (s.dev = .standby → s.island = true → s.pins.resetN = true → Booted s t) ∧
    (s.dev ≠ .standby ∨ s.island = false ∨ s.pins.resetN = false → t.dev = s.dev ∧ t.mem = s.mem)) ∧
  (∀ s : State, TablesOk s → s.dev = .boot ∨ s.dev = .ready ∨ s.dev = .service →
    (∃ t, exec .powerGoodLoss s = .next t ∧ t.pins.in48 = false ∧ getF t PWR_STATUS_PGOOD = 0 ∧ StoodBy s t) ∧
    (∃ t, exec (.resetN false) s = .next t ∧ t.pins.resetN = false ∧ t.pins.in48 = s.pins.in48 ∧ StoodBy s t)) ∧
  (∀ s : State, s.dev = .standby → s.island = true → s.pins.in48 = true →
    ∃ t, exec (.resetN true) s = .next t ∧ t.pins.resetN = true ∧ Booted s t) ∧
  (∀ s : State, s.dev = .ready ∨ s.dev = .off ∨ s.pins.in48 = false →
    exec (.resetN true) s = .next { s with pins := { s.pins with resetN := true } }) ∧
  (∀ s : State, isStipe s = true → ∃ t, exec (.perstN false) s = .next t ∧ t.pins = { s.pins with perstN := false } ∧
    t.fabric.hostOps = [] ∧ t.fabric.hostQ = [] ∧ t.dev = s.dev ∧ t.mem = s.mem ∧ t.ports = s.ports ∧ t.parts = s.parts ∧
    t.fabric.hostDone = s.fabric.hostDone ++ (s.fabric.hostOps.filter (fun o => !o.write)).map (fun o => (o.tag, 1, []))) ∧
  (∀ (high : Bool) (s : State), high = true ∨ isStipe s = false →
    exec (.perstN high) s = .next { s with pins := { s.pins with perstN := high } })

/-- In BOOT. PUF_RECONSTRUCT: success leaves PUF_FAIL 0; failure sets it and its cause. LICHEN_BOOT: where neither firmware slot
verifies, no firmware runs and BOOT_ERROR names the firmware; where the ACTIVE slot verifies, with no slot pending or on trial, and the current copy of
the floorplan does, firmware runs, the floorplan is the copy's, and an image is selected. HBM_TRAINING_END: success shows TRAINED and
leaves the whole stack zero; a third failure gives the stack up with its BOOT_ERROR. BOOT_COMMIT, once every stack is settled: the selected
image is committed and the device READY. GRANULE_ZEROED: the whole granule reads zero, and it no longer waits. -/
def Obligations.StartUpStages : Prop :=
  (∀ s : State, TablesOk s → s.dev = .boot →
    (∃ t, exec (.pufReconstruct true) s = .next t ∧ getF t SEC_STATUS_PUF_FAIL = 0 ∧ t.mem = s.mem ∧ t.flash = s.flash) ∧
    (∃ t, exec (.pufReconstruct false) s = .next t ∧ getF t SEC_STATUS_PUF_FAIL = 1 ∧ Caused t 16 3 ∧ t.mem = s.mem)) ∧
  (∀ (a b c : Bool) (s : State), TablesOk s → s.dev = .boot → getF s ANC_BOOT_STATUS_FW_OK = 0 →
    ∃ t, exec (.lichenBoot false false a b c) s = .next t ∧ getF t ANC_BOOT_STATUS_FW_OK = 0 ∧
      getF t ANC_BOOT_STATUS_BOOT_ERROR = 1 ∧ Caused t 10 6 ∧ t.mgmt.lichen = s.mgmt.lichen ∧ t.mem = s.mem) ∧
  (∀ (slotB fpB image : Bool) (s : State), TablesOk s → s.dev = .boot → getF s ANC_BOOT_STATUS_FW_OK = 0 →
    s.flash.slotA.state = 4 → s.flash.slotB.state < 2 → s.flash.fwCtr ≤ s.flash.slotA.sec →
    s.flash.fpA.sequence = s.flash.fpCounter →
    ∃ t, exec (.lichenBoot true slotB true fpB image) s = .next t ∧ getF t ANC_BOOT_STATUS_FW_OK = 1 ∧
      getF t ANC_BOOT_STATUS_FLOORPLAN_OK = 1 ∧ getF t ANC_BOOT_STATUS_IMAGE_OK = 1 ∧ t.mgmt.lichen = .running ∧
      t.mgmt.fwSlot = 0 ∧ t.cfg.floor = s.flash.fpA ∧ t.cfg.floorOk = true ∧ t.cfg.staged.isSome = true ∧
      (s.flash.image = none → t.cfg.staged = some StoredImage.builtIn ∧ getF t ANC_BOOT_STATUS_BOOT_ERROR = 3) ∧ t.mem = s.mem) ∧
  (∀ (k : Nat) (s : State), MemOk s → TablesOk s → s.dev = .boot → getF s ANC_BOOT_STATUS_FW_OK = 1 → k < 12 → stackSettled s k = false →
    (∃ t, exec (.hbmTrainingEnd k true) s = .next t ∧ getF t HBM_STATUS_TRAINED k = 1 ∧
      (∀ i, i < 2 ^ 36 → readByte t (k * 2 ^ 36 + i) = 0) ∧
      ∀ a, (a < k * 2 ^ 36 ∨ (k + 1) * 2 ^ 36 ≤ a) → readByte t a = readByte s a) ∧
    (∃ t, exec (.hbmTrainingEnd k false) s = .next t ∧ t.mem = s.mem ∧ getF t HBM_STATUS_TRAINED k = 0 ∧
      tblFind t.mgmt.trained k = some (tblGet 0 s.mgmt.trained k + 1) ∧
      (tblGet 0 s.mgmt.trained k = 2 → getF t ANC_BOOT_STATUS_BOOT_ERROR = 4 ∧ Caused t 10 6))) ∧
  (∀ (feeds : List FeedRead) (s : State) (img : StoredImage), TablesOk s → s.cfg.staged = some img → s.dev = .boot →
    (List.range 12).all (stackSettled s) = true →
    let fs := bootFindings s img
    let s1 := { applyImage (fs.foldl logFinding s) img true (fs.map (·.1)) with dev := .ready }
    let s2 := { s1 with cfg := { s1.cfg with staged := none } }
    let s3 := setF (setF s2 ANC_BOOT_STATUS_HBM_OK 0 1) ANC_BOOT_TIME_READY_TICKS 0 (s2.counter % 2 ^ 32)
    exec (.bootCommit feeds) s = .next (maybeFabricBarrier (acceptTrial s3) feeds) ∧ s3.cfg.committed = img ∧
      getF s3 ANC_BOOT_STATUS_HBM_OK = 1) ∧
  (∀ (g : Nat) (s : State), MemOk s → g ∈ s.mgmt.zeroing →
    ∃ t, exec (.granuleZeroed g) s = .next t ∧ t.mgmt.zeroing = s.mgmt.zeroing.erase g ∧
      (∀ i, i < 2 ^ 30 → readByte t (g * 2 ^ 30 + i) = 0) ∧
      ∀ a, (a < g * 2 ^ 30 ∨ (g + 1) * 2 ^ 30 ≤ a) → readByte t a = readByte s a)

/-- A register access that reaches the device and is narrower than 32 bits, misaligned, or to an unassigned offset is not performed: a
write changes nothing but what the access error leaves, a read likewise and its value is 0, and the access-error cause bit of its
requester is set. -/
def Obligations.BadAccessNotPerformed : Prop :=
  ∀ (a : Access) (v : W64) (gap : Nat) (s : State), TablesOk s → BadAccess s a → admits s a.req (a.off / 8 * 8) = true →
    (∃ t, exec (.registerWrite a v) s = .next t ∧ OnlyErrored s t a.req) ∧
    (∃ t, exec (.clearingRead a gap) s = .next t ∧ t.lastRead = 0 ∧ OnlyErrored s t a.req)

/-- A 64-bit write that is performed acts as the register's rule says, and by access type each field of a register with no rule of
its own: RW takes the value, W1C clears where it is 1, others stay. A performed 64-bit read answers the register's value and clears RC
fields only; a write out of the requester's reach, or of a register of a follower's queue, changes nothing but what the access error
leaves. LOG_SEL shows at once whether the record is held, and its bytes or zeros. At a stack's test port: GO outside SERVICE is
refused with an access error; in SERVICE it starts an operation of LEN bits; a write of data shifts 64 bits in, and the last one
ends the operation; a read answers the bits shifted out. -/
def Obligations.RegisterAccess : Prop :=
  (∀ (a : Requester) (off : Nat) (v : W64) (s : State), off % 8 = 0 → Reached s a off →
    exec (.registerWrite ⟨a, off, .w64⟩ v) s = .next (regWrite a (Wr.full v) off (dropShadow s a))) ∧
  (∀ (off : Nat) (v : W64) (s : State) (r : RegDef) (i j : Nat) (f : FieldDef), TablesOk s → regAt off = some (r, i, j) →
    f ∈ r.fields →
    bitsOf (getReg (writeFields s off (Wr.full v)) off).toNat f.lo f.width = writtenField f (getReg s off).toNat v.toNat ∧
    bitsOf (getReg (clearRc s off (fun _ => true)) off).toNat f.lo f.width = readField f (getReg s off).toNat) ∧
  (∀ (a : Requester) (off gap : Nat) (s : State), off % 8 = 0 → admits s a off = true → assigned s off = true →
    reaches a off = true → (∀ k < 12, off ≠ HBM_TP_DATA_DATA.at k) →
    exec (.clearingRead ⟨a, off, .w64⟩ gap) s = .next { clearRc (dropShadow s a) off (fun _ => true) with
      lastRead := readValue s off
      free := s.free + (if (waitFields off).isEmpty then 0 else 1) }) ∧
  (∀ (a : Requester) (off : Nat) (v : W64) (s : State), TablesOk s → off % 8 = 0 → admits s a off = true →
    assigned s off = true → (reaches a off = false ∨ followerQueue s off = true) →
    ∃ t, exec (.registerWrite ⟨a, off, .w64⟩ v) s = .next t ∧ OnlyErrored s t a) ∧
  (∀ (a : Requester) (v : W64) (s : State), TablesOk s → Reached s a MGT_LOG_SEL_SEQ.off →
    let seq := bitsOf v.toNat 0 48
    let r := if seq = 0 then none else findRecord s seq
    ∃ t, exec (.logSel a v) s = .next t ∧ getF t MGT_LOG_SEL_READY = 1 ∧ getF t MGT_LOG_SEL_FOUND = b2n r.isSome ∧ t.mem = s.mem ∧
      ∀ k < 8, getReg t (MGT_LOG_DATA0_DATA.off + 8 * k) =
        BitVec.ofNat 64 (leAt ((r.map (fun r => r.bytes seq)).getD []) (8 * k) 8)) ∧
  (∀ (k : Nat) (a : Requester) (v : W64) (s : State), TablesOk s → k < 12 → Reached s a (HBM_TP_CTRL_INSTR.at k) →
    bitOf v.toNat 63 = true →
    (s.dev ≠ .service → ∃ t, exec (.hbmTpGo k a v) s = .next t ∧ getF t HBM_TP_STATUS_REFUSED k = 1 ∧ Caused t 8 (reqCode a) ∧
      getF t HBM_TP_STATUS_BUSY k = getF s HBM_TP_STATUS_BUSY k ∧ t.mem = s.mem) ∧
    (s.dev = .service → 0 < bitsOf v.toNat 8 16 → ∃ t, exec (.hbmTpGo k a v) s = .next t ∧ getF t HBM_TP_STATUS_BUSY k = 1 ∧
      tblFind t.mgmt.tpShift k = some (0, []) ∧ t.mem = s.mem)) ∧
  (∀ (k bits : Nat) (words : List W64) (a : Requester) (v : W64) (s : State), TablesOk s → k < 12 →
    Reached s a (HBM_TP_DATA_DATA.at k) → s.dev = .service → getF s HBM_TP_STATUS_BUSY k = 1 →
    tblFind s.mgmt.tpShift k = some (bits, words) →
    (bits + 64 < getF s HBM_TP_CTRL_LEN k →
      (∃ t, exec (.hbmTpDataWrite k a v) s = .next t ∧ tblFind t.mgmt.tpShift k = some (bits + 64, words ++ [v]) ∧
        getF t HBM_TP_STATUS_BUSY k = 1 ∧ t.mem = s.mem) ∧
      (∃ t, exec (.hbmTpDataRead k a) s = .next t ∧ tblFind t.mgmt.tpShift k = some (bits + 64, words) ∧
        t.lastRead = Config.wrapperShiftOut k (getF s HBM_TP_CTRL_INSTR k) s.free ∧ t.mem = s.mem)) ∧
    (getF s HBM_TP_CTRL_LEN k ≤ bits + 64 →
      ∃ t, exec (.hbmTpDataWrite k a v) s = .next t ∧ getF t HBM_TP_STATUS_BUSY k = 0 ∧ getF t HBM_TP_STATUS_DONE k = 1 ∧
        t.mem = s.mem))

/-- RESTORE with GO: for a partition that is not LOADED it ends at once with ILLEGAL_IN_STATE; for a LOADED one it is under way and BUSY,
and from another device its first READ_REQ goes out; while one is under way it is discarded with an access error. RESTORE_END, once
the stream has been read and no granule of the partition is being zeroed: a fault of the stream ends the restore with its status; without one it ends with OK, and the partition's
version is the stream's. FW_UPDATE with GO in READY or SERVICE starts an update to the slot that is not ACTIVE; in another state it
ends with ILLEGAL_IN_STATE; while one is under way it is discarded. FW_DONE: the target slot is PENDING with the image's version
where header, signature and version pass, else EMPTY, and MGT_FW_RESULT shows which; the other slot stays. -/
def Obligations.RestoreAndFirmware : Prop :=
  (∀ (a : Requester) (v : W64) (s : State), TablesOk s → Reached s a ANC_RESTORE_CTRL_SRC_DEV.off → bitOf v.toNat 63 = true →
    let p := bitsOf v.toNat 13 3
    let src := getF s ANC_RESTORE_SRC_ADDR
    (s.mgmt.restore.isSome = true → ∃ t, exec (.restore a v) s = .next t ∧ t.mgmt.restore = s.mgmt.restore ∧ t.mem = s.mem ∧
      Caused t 8 (reqCode a)) ∧
    (s.mgmt.restore = none → (getPart s p).state ≠ .loaded → ∃ t, exec (.restore a v) s = .next t ∧ t.mgmt.restore = none ∧
      getF t ANC_RESTORE_STATUS_STATUS = stIllegal ∧ getF t ANC_RESTORE_STATUS_DONE = 1 ∧ t.mem = s.mem) ∧
    (s.mgmt.restore = none → (getPart s p).state = .loaded → ∃ t, exec (.restore a v) s = .next t ∧ t.mem = s.mem ∧
      getF t ANC_RESTORE_STATUS_BUSY = 1 ∧
      t.mgmt.restore = some ⟨p, src, bitOf v.toNat 12, bitsOf v.toNat 0 12, [], false, []⟩ ∧
      (bitOf v.toNat 12 = true → ∃ o, t.fabric.outq.getLast? = some o ∧ o.msg.mtype = 0x03 ∧ o.msg.dst = bitsOf v.toNat 0 12 ∧
        o.vc = 12))) ∧
  (∀ (p : Nat) (s : State) (r : RestoreSt), TablesOk s → s.mgmt.restore = some r → r.part = p → streamRead r = true →
    zeroingFor s (.anchor p) = false →
    let rs := streamRecs s r
    let st := restoreStatus s r rs
    ∃ t, exec (.restoreEnd p) s = .next t ∧ t.mgmt.restore = none ∧ getF t ANC_RESTORE_STATUS_BUSY = 0 ∧
      getF t ANC_RESTORE_STATUS_DONE = 1 ∧ getF t ANC_RESTORE_STATUS_STATUS = st ∧
      (st = stOK → (getPart t p).version = leAt (payloadOf rs 1) 0 8) ∧ (st ≠ stOK → t.parts = s.parts)) ∧
  (∀ (a : Requester) (v : W64) (s : State), TablesOk s → Reached s a MGT_FW_CTRL_ADDR.off → bitOf v.toNat 63 = true →
    let slot := if s.flash.slotA.state = 4 then 1 else 0
    (s.mgmt.fwBusy.isSome = true → ∃ t, exec (.fwUpdate a v) s = .next t ∧ t.mgmt.fwBusy = s.mgmt.fwBusy ∧ t.mem = s.mem ∧
      Caused t 8 (reqCode a)) ∧
    (s.mgmt.fwBusy = none → (s.dev = .ready ∨ s.dev = .service) → ∃ t, exec (.fwUpdate a v) s = .next t ∧
      getF t MGT_FW_RESULT_BUSY = 1 ∧ t.mgmt.fwBusy = some (slot, bitsOf v.toNat 0 40) ∧ t.mem = s.mem) ∧
    (s.mgmt.fwBusy = none → s.dev = .boot → ∃ t, exec (.fwUpdate a v) s = .next t ∧ t.mgmt.fwBusy = none ∧
      getF t MGT_FW_RESULT_STATUS = stIllegal ∧ getF t MGT_FW_RESULT_DONE = 1 ∧ Caused t 15 0 ∧ t.mem = s.mem)) ∧
  (∀ (verified : Bool) (s : State) (slot a : Nat), TablesOk s → s.mgmt.fwBusy = some (slot, a) → slot < 2 → lichenRuns s = true →
    let h := readBytes s a 128
    let sec := leAt h 12 4
    let st := if fwHeaderOk a h = false then stFormat
      else if verified = false ∨ sec < s.flash.fwCtr then stSignature else stOK
    ∃ t, exec (.fwDone verified) s = .next t ∧ t.mgmt.fwBusy = none ∧ getF t MGT_FW_RESULT_STATUS = st ∧
      getF t MGT_FW_RESULT_DONE = 1 ∧ getF t MGT_FW_RESULT_BUSY = 0 ∧ getF t MGT_FW_RESULT_SLOT = slot ∧ Caused t 15 0 ∧
      t.mem = s.mem ∧ getFw t (1 - slot) = getFw s (1 - slot) ∧
      (st = stOK → (getFw t slot).state = 2 ∧ (getFw t slot).version = leAt h 8 4 ∧ (getFw t slot).sec = sec) ∧
      (st ≠ stOK → (getFw t slot).state = 0))

/-- LICHEN_SLEEP: a core that runs, has nothing to do and has been idle for LICHEN_IDLE sleeps. LICHEN_WAKE: a sleeping core whose
firmware has booted runs, and WAKES counts; one that is waking runs. WATCHDOG: 32,768 ticks without a write, or a request, reset the core:
it runs again (in BOOT it stays in reset), RESETS counts, its cause is set and every request of a host or peer channel ends with
ABORTED; sooner, nothing happens. LOG_FLUSH writes every queued record to flash in order, under its number. LOG_ERASE erases the next
block and drops its records. With firmware's tasks running, TELEMETRY_FRAME writes a frame; SENSOR_CALIBRATION and SERDES_CALIBRATION move to the next sensor and the next UP port. -/
def Obligations.LichenCore : Prop :=
  (∀ (now : Nat) (s : State), lichenRuns s = true → lichenIdle s = true →
    elapsed (advance s now) s.mgmt.workAt (cfgOf s).understory.lichenIdle 10000 = true →
    exec (.lichenSleep now) s = .next { advance s now with mgmt := { s.mgmt with lichen := .asleep } }) ∧
  (∀ (w : WakeCause) (s : State), TablesOk s →
    (s.mgmt.lichen = .asleep → getF s ANC_BOOT_STATUS_FW_OK = 1 → ∃ t, exec (.lichenWake w) s = .next t ∧
      t.mgmt.lichen = .running ∧ t.mem = s.mem ∧ getF t MGT_LICHEN_STATE_WAKES = satAdd 16 (getF s MGT_LICHEN_STATE_WAKES) 1) ∧
    (s.mgmt.lichen = .waking → exec (.lichenWake w) s =
      .next { s with mgmt := { s.mgmt with lichen := .running, fedAt := s.counter, workAt := s.counter } })) ∧
  (∀ (now : Nat) (request : Bool) (s : State), TablesOk s → lichenRuns s = true →
    (request = true ∨ 32768 ≤ (advance s now).counter - s.mgmt.fedAt →
      ∃ t, exec (.watchdog now request) s = .next t ∧ t.mgmt.lichen = (if s.dev = .boot then .reset else .running) ∧
        Caused t 15 2 ∧ ∀ c < 32, Replied t c stAborted) ∧
    (request = false → (advance s now).counter - s.mgmt.fedAt < 32768 →
      exec (.watchdog now request) s = .next (advance s now))) ∧
  (∀ s : State, lichenRuns s = true → s.mgmt.queue ≠ [] → s.mgmt.queue.length < s.flash.logNext →
    eraseBlock (s.flash.logNext - 1) < blocksWritable s →
    ∃ t, exec .logFlush s = .next t ∧ t.mgmt.queue = [] ∧ t.flash.logNext = s.flash.logNext ∧ t.mem = s.mem ∧
      ∀ i < s.mgmt.queue.length, tblFind t.flash.log (queueFirstSeq s + i) = s.mgmt.queue[i]?) ∧
  (∀ s : State, lichenRuns s = true → blocksWritable s ≤ eraseBlock (queueFirstSeq s) + 1 → s.flash.erased < 100000 * 256 →
    ∃ t, exec .logErase s = .next t ∧ t.mem = s.mem ∧ t.mgmt.queue = s.mgmt.queue ∧ t.flash = { s.flash with
      erased := s.flash.erased + 1, log := s.flash.log.filter (fun e => eraseBlock e.1 != s.flash.erased) }) ∧
  (∀ s : State, (cfgOf s).understory.telemPeriod ≠ 0 → lichenUp s = true →
    exec .telemetryFrame s = .next (writeFrame (wakeLichen s)) ∧
    ((cfgOf s).understory.telemBase.isSome = true → (writeFrame (wakeLichen s)).mgmt.frames = s.mgmt.frames + 1)) ∧
  (∀ s : State, lichenUp s = true →
    exec .sensorCalibration s = .next (wakeLichen { s with mgmt := { s.mgmt with calNext := (s.mgmt.calNext + 1) % 253 } }) ∧
    ∀ i < 36, (getPort s ((s.mgmt.serdesNext + i) % 36)).state = .up →
      (∀ j < i, (getPort s ((s.mgmt.serdesNext + j) % 36)).state ≠ .up) → exec .serdesCalibration s =
        .next (wakeLichen { s with mgmt := { s.mgmt with serdesNext := ((s.mgmt.serdesNext + i) % 36 + 1) % 36 } }))

/-- While the device is on. SENSOR_FAULT: the sensor is faulted and its cause set. THERMAL_SAMPLE below 125 °C shows the temperature and
ends the sensor's fault; a die sensor at the warning limit leads to THERM_WARN; its third sample in a row at 110 °C to the THERM_CRIT
hold; at 125 °C the device enters STANDBY. THERM_CRIT_TIMEOUT after 1 s at the least ceiling leads to the hold. RAIL_SAMPLE shows the
voltage; the 100th of IN48 in a row outside its range is an event; a stage's rail more than a tenth off enters STANDBY. COOLANT_LIMIT
shows the sample; the tenth in a row over a limit caps the ceiling and asks full flow; the tenth good one ends that. HBM_TEMP_READOUT shows the
stack's temperature, its refresh rate, and leads to the hold at 105 °C. FEED_ID_POLL shows the feed's code. PATROL_SCRUB, where
its pass is due, reads the next block and leaves memory's bytes; a block that fails three times is poisoned with its cause, and no
other. -/
def Obligations.SensorsAndLimits : Prop :=
  (∀ (n : Nat) (s : State), TablesOk s → devOn s = true → n < 253 → s.mgmt.faulted.contains n = false →
    ∃ t, exec (.sensorFault n) s = .next t ∧ t.mgmt.faulted = s.mgmt.faulted ++ [n] ∧ Caused t 14 4 ∧ t.mem = s.mem ∧
      (n < 240 → getF t MGT_THERM_FAULT n = 1)) ∧
  (∀ (n v : Nat) (s : State), TablesOk s → devOn s = true → n < 240 → v < 65536 →
    (125 * 16 ≤ tempOf v → ∃ t, exec (.thermalSample n v) s = .next t ∧ StoodBy { s with mgmt := t.mgmt } t) ∧
    (tempOf v < 125 * 16 → ∃ t, exec (.thermalSample n v) s = .next t ∧ t.dev = s.dev ∧ t.mem = s.mem ∧
      getF t MGT_THERM_TEMP n = v ∧ getF t MGT_THERM_FAULT n = 0 ∧ n ∉ t.mgmt.faulted ∧
      (n < 234 → Int.ofNat (powerCfg s).thermWarn * 16 ≤ tempOf v →
        t.power.warn.isSome = true ∧ (s.power.warn = none → Caused t 14 0 ∧ getF t PWR_STATUS_THERM_WARN = 1)) ∧
      (n < 234 → 110 * 16 ≤ tempOf v → (powerCfg s).thermWarn ≤ 110 → tblGet 0 s.power.hot n = 2 → s.power.critHold = false →
        t.power.critHold = true ∧ Caused t 14 1 ∧ getF t PWR_STATUS_CRIT_HOLD = 1))) ∧
  (∀ (now x : Nat) (s : State), TablesOk s → s.power.lowSince = some x → s.power.warn.isSome = true → s.power.critHold = false →
    elapsed (advance s now) x 1 1 = true →
    ∃ t, exec (.thermCritTimeout now) s = .next t ∧ t.power.critHold = true ∧ t.power.floor = 0 ∧ Caused t 14 1 ∧ t.mem = s.mem) ∧
  (∀ (n volt curr power : Nat) (s : State), TablesOk s → devOn s = true → n < 10 →
    (n ≠ 0 → offBy n volt 10 = true → ∃ t, exec (.railSample n volt curr power) s = .next t ∧ t.dev = .standby ∧ t.mem = []) ∧
    (n = 0 ∨ (offBy n volt 10 = false ∧ ∀ g, groupOfRail n = some g → tblGet 0 s.power.railBad (16 + g) < 99) →
      ∃ t, exec (.railSample n volt curr power) s = .next t ∧ t.dev = s.dev ∧ t.mem = s.mem ∧
        getF t MGT_RAIL_VOLT n = min volt 65535 ∧ getF t MGT_RAIL_CURR n = min curr 65535 ∧
        (n = 0 → (volt < 40000 ∨ 60000 < volt) → tblGet 0 s.power.railBad 0 = 99 → Caused t 14 2))) ∧
  (∀ (inlet outlet flow : Nat) (s : State), TablesOk s → devOn s = true → inlet < 65536 → outlet < 65536 → flow < 65536 →
    let hot := Int.ofNat (powerCfg s).inletMax * 16 < tempOf inlet
    let low := flow < (powerCfg s).flowMin * 10
    ∃ t, exec (.coolantLimit inlet outlet flow) s = .next t ∧ t.mem = s.mem ∧ getF t MGT_COOLANT_INLET = inlet ∧
      getF t MGT_COOLANT_OUTLET = outlet ∧ getF t MGT_COOLANT_FLOW = flow ∧ getF t MGT_COOLANT_VALID = 1 ∧
      ((hot ∧ s.power.inletBad = 9) ∨ (low ∧ s.power.flowBad = 9) →
        t.power.capped = true ∧ getF t PWR_STATUS_COOLANT_CAP = 1 ∧ getF t PWR_FLOW_DUTY = 255 ∧ Caused t 14 3) ∧
      (¬hot → ¬low → s.power.capped = true → 9 ≤ s.power.coolGood →
        t.power.capped = false ∧ getF t PWR_STATUS_COOLANT_CAP = 0)) ∧
  (∀ (k v : Nat) (s : State), TablesOk s → devOn s = true → k < 12 →
    ∃ t, exec (.hbmTempReadout k v) s = .next t ∧ t.mem = s.mem ∧ getF t HBM_STATUS_TEMP k = min v 255 ∧
      getF t HBM_STATUS_REFRESH_2X k = b2n (decide (85 < v)) ∧
      (105 ≤ v → s.power.critHold = false → t.power.critHold = true ∧ Caused t 14 1)) ∧
  (∀ (b : List Byte) (feeds : List FeedRead) (s : State), TablesOk s → devOn s = true → (cfgOf s).redundancy.feedImage = false →
    ∃ t, exec (.feedIdPoll (some b) feeds) s = .next t ∧ t.mem = s.mem ∧ getF t ANC_FEED_ID_FEED = crc32c b % 2 ^ 32 ∧
      getF t ANC_FEED_ID_SOURCE = 1) ∧
  (∀ (k reads now : Nat) (stack : Bool) (s : State), scrubDue (advance s now) k = false →
    exec (.patrolScrub k ⟨reads, stack, now⟩) s = .next (advance s now)) ∧
  (∀ (k reads now : Nat) (stack : Bool) (s : State), TablesOk s → MemOk s → devOn s = true → k < 12 →
    getF s HBM_STATUS_TRAINED k = 1 → scrubDue (advance s now) k = true →
    let i := tblGet 0 s.mgmt.scrubAt k
    let u := k * blocksPerStack + i
    i < blocksPerStack →
    ∃ t, exec (.patrolScrub k ⟨reads, stack, now⟩) s = .next t ∧ t.mem = s.mem ∧
      t.mgmt.scrubAt = tblSet 0 s.mgmt.scrubAt k (if i + 1 = blocksPerStack then 0 else i + 1) ∧
      (3 ≤ max reads (tblGet Upset.zero s.upsets u).reads → unitPoison t u = true ∧ Caused t 12 k) ∧
      (max reads (tblGet Upset.zero s.upsets u).reads < 3 → t.units = s.units))

/-- GOVERNOR_WINDOW: the window's power is kept and shown; the next ceiling exceeds neither this power by more than the slew, nor
4,000 W, nor the warning's term, nor the coolant cap while it applies; the floor does not exceed the ceiling and is 0 in the THERM_CRIT
hold; both are shown in watts. FLOW_REQ_UPDATE: full duty while full flow is driven; else at least the override. CLOCK_GATE gates an
idle frond that is awake; POWER_GATE one that has been idle for PGATE_IDLE and on which no ballast runs, what it holds stays, and the die's idle time starts where the whole die is gated with it;
PLL_STOP stops the PLL of a die whose fronds have all been gated for long enough. FROND_WAKE wakes a frond with a ready entry; from power gating
POWER_WAKES counts, and a withheld wake does nothing. -/
def Obligations.GovernorAndGating : Prop :=
  (∀ (p : Nat) (throttle : Bool) (held ballast : List (Nat × Nat)) (s : State), TablesOk s → devOn s = true →
    ∃ t, exec (.governorWindow p throttle held ballast) s = .next t ∧ t.mem = s.mem ∧
      t.power.windows = (p :: s.power.windows).take 10000 ∧ t.power.ceiling ≤ p + (powerCfg s).slewUp ∧ t.power.ceiling ≤ 40000 ∧
      (∀ c k, s.power.warn = some (c, k) → t.power.ceiling ≤ max 6000 (c - 100 * (k + 1))) ∧
      (s.power.capped = true → t.power.ceiling ≤ (powerCfg s).coolantCap * 10) ∧ t.power.floor ≤ t.power.ceiling ∧
      (s.power.critHold = true → t.power.floor = 0) ∧ getF t PWR_STATUS_WINDOW_POWER = min p 65535 ∧
      getF t PWR_LIMITS_CEILING = t.power.ceiling / 10 ∧ getF t PWR_LIMITS_FLOOR = t.power.floor / 10 ∧
      getF t PWR_STATUS_THROTTLE = b2n throttle) ∧
  (∀ s : State, TablesOk s → devOn s = true → ∃ t, exec .flowReqUpdate s = .next t ∧ t.mem = s.mem ∧ t.power = s.power ∧
    (fullFlow s = true → getF t PWR_FLOW_DUTY = 255) ∧
    (getF s PWR_FLOW_OVERRIDE_ENABLE = 1 → getF s PWR_FLOW_OVERRIDE_DUTY ≤ getF t PWR_FLOW_DUTY)) ∧
  (∀ (f : Nat) (s : State), frondEnabled s f = true → (getFrond s f).gate = .awake → frondIdle s f = true →
    exec (.clockGate f) s = .next (setFrond s f { getFrond s f with gate := .clock })) ∧
  (∀ (f now p : Nat) (c : PartCfg) (s : State), TablesOk s → ownerOfFrond s f = some p → partCfg s p = some c →
    frondEnabled s f = true → (getFrond s f).gate ≠ .power → frondIdle s f = true →
    (s.power.ballast && ballastable s f) = false → elapsed (advance s now) (getFrond s f).idleAt c.pgateIdleUs 1000000 = true →
    ∃ t, exec (.powerGate f now) s = .next t ∧ getFrond t f = { getFrond s f with gate := .power } ∧ t.mem = s.mem ∧
      t.queues = s.queues ∧ t.regs = s.regs ∧ (dieGated t (f / 144) = true →
        tblFind s.power.dieIdleAt (f / 144) = none → tblFind t.power.dieIdleAt (f / 144) = some (advance s now).counter)) ∧
  (∀ (d now : Nat) (s : State), d < 2 → devOn s = true → s.power.pllOff.contains d = false → dieGated s d = true →
    elapsed (advance s now) (tblGet 0 s.power.dieIdleAt d) (powerCfg s).pllIdle 1000 = true →
    exec (.pllStop d now) s = .next { advance s now with power := { s.power with pllOff := s.power.pllOff ++ [d] } }) ∧
  (∀ (f : Nat) (withheld : Bool) (s : State), TablesOk s → frondEnabled s f = true → readyEntry s f = true →
    ((getFrond s f).gate = .clock → exec (.frondWake f withheld) s =
      .next (setFrond s f { getFrond s f with gate := .awake })) ∧
    ((getFrond s f).gate = .power → withheld = true → exec (.frondWake f withheld) s = .next s) ∧
    ((getFrond s f).gate = .power → withheld = false → ∃ t, exec (.frondWake f withheld) s = .next t ∧ t.mem = s.mem ∧
      getFrond t f = { getFrond s f with gate := .awake } ∧ f / 144 ∉ t.power.pllOff ∧
      getF t FRD_PWR_EVENTS_POWER_WAKES f = satAdd FRD_PWR_EVENTS_POWER_WAKES.width (getF s FRD_PWR_EVENTS_POWER_WAKES f) 1))

/-- TEST_LEDGER, with firmware's tasks running and an hour after the last entry: every age grows by the seconds passed. TEST_DUE at TEST_PERIOD: the unit is due, and a
frond of a RUNNING, DRAINING or FAULTED partition is overdue. TEST_OVERDUE at twice TEST_PERIOD: logged once, with its cause.
UNDERSTORY_TEST: a due unit of no partition, or a spare, is under test, awake and with its die's clock; where it needs a wake that is
withheld, nothing happens. TEST_COMPLETE: the unit is under test no more; a frond that passed has
age 0, and one that failed, unless it is a spare, is suspect; a cushion that failed is bad. LOCKSTEP_MISMATCH: the frond is held with its entry. LOCKSTEP_RETRY:
where the repeat agrees, the entry will complete with MISMATCH_TRANSIENT; where it does not, the frond is suspect, and the entry's
partition is FAULTED. -/
def Obligations.TestsAndMismatches : Prop :=
  (∀ (now : Nat) (s : State), TblWf 0 s.flash.ages → lichenUp s = true →
    elapsed (advance s now) s.mgmt.ledgerAt 3600 1 = true →
    ∃ t, exec (.testLedger now) s = .next t ∧ t.mem = s.mem ∧ ∀ u < 312, tblGet 0 t.flash.ages u =
      tblGet 0 s.flash.ages u + ((advance s now).counter - s.mgmt.ledgerAt) / 32768) ∧
  (∀ (u : Nat) (s : State), TablesOk s → u < 312 → s.cfg.floorOk = true → testPeriod s ≤ testAge s u →
    cushionPresent s (unitCushion u) = true →
    ∃ t, exec (.testDue u) s = .next t ∧ t.mem = s.mem ∧ u ∈ t.mgmt.due ∧
      ∀ f p, frondAt s u = some f → unitOwner s u = some p → [PartState.running, .draining, .faulted].contains (getPart s p).state →
        getF t FRD_REL_STATE_TEST_OVERDUE f = 1) ∧
  (∀ (u f : Nat) (s : State), TablesOk s → u < 312 → frondAt s u = some f → getF s FRD_REL_STATE_TEST_OVERDUE f = 1 →
    2 * testPeriod s ≤ testAge s u →
    (s.mgmt.late.contains u = false → ∃ t, exec (.testOverdue u) s = .next t ∧ t.mem = s.mem ∧ t.mgmt.late = s.mgmt.late ++ [u] ∧
      Caused t 11 0) ∧
    (s.mgmt.late.contains u = true → exec (.testOverdue u) s = .next s)) ∧
  (∀ (u : Nat) (s : State), testWakes s u = true → exec (.understoryTest ⟨u, true⟩) s = .next s) ∧
  (∀ (u : Nat) (withheld : Bool) (s : State), (withheld = false ∨ testWakes s u = false) → s.mgmt.due.contains u = true → s.mgmt.testing.contains u = false → understoryUnit s u = true →
    (u < 312 ∨ ∀ v ∈ s.mgmt.testing, v < 312 → unitCushion v ≠ unitCushion u) →
    ∃ t, exec (.understoryTest ⟨u, withheld⟩) s = .next t ∧ u ∈ t.mgmt.testing ∧ t.mgmt.due = s.mgmt.due.erase u ∧
      (∀ f, u < 312 → frondAt s u = some f → (getFrond t f).gate = .awake) ∧
      (testWakes s u = true → u / 156 ∉ t.power.pllOff)) ∧
  (∀ (u : Nat) (pass : Bool) (s : State), TablesOk s → TblWf 0 s.flash.ages → s.mgmt.testing.contains u = true →
    ∃ t, exec (.testComplete u pass) s = .next t ∧ u ∉ t.mgmt.testing ∧
      (u < 312 → pass = true → tblGet 0 t.flash.ages u = 0 ∧ tblFind t.flash.lastTest u = some 1 ∧ u ∉ t.mgmt.due) ∧
      (u < 312 → pass = false → tblFind t.flash.lastTest u = some 2 ∧
        (spareAt s (unitCushion u) ≠ some u → u ∈ t.mgmt.suspect)) ∧
      (312 ≤ u → pass = false → u - 312 ∈ t.mgmt.badCushions)) ∧
  (∀ (f : Nat) (n : W32) (pair : Bool) (s : State), frondEnabled s f = true → (getFrond s f).lockstep = none →
    (pair = true → pairedFrond s f = true ∧ isFollower s f = false) →
    (∃ i ∈ (getQ s (.frond (leaderOf s f))).live, i.n = n) →
    exec (.lockstepMismatch f n pair) s = .next (setFrond s f { getFrond s f with lockstep := some (n, pair) })) ∧
  (∀ (f p : Nat) (n : W32) (i : Issued) (s : State), TablesOk s → f < 288 → (getFrond s f).lockstep = some (n, false) →
    (getQ s (.frond (leaderOf s f))).live.find? (fun i => i.n == n) = some i → ownerOfFrond s (leaderOf s f) = some p → p < 8 →
    (∃ t, exec (.lockstepRetry f true) s = .next t ∧ (getFrond t f).lockstep = none ∧ t.mem = s.mem ∧
      { i with status := stMismatchTransient } ∈ (getQ t (.frond (leaderOf s f))).live ∧ t.mgmt.suspect = s.mgmt.suspect) ∧
    (∃ t, exec (.lockstepRetry f false) s = .next t ∧ (getFrond t f).lockstep = none ∧ physOf s f ∈ t.mgmt.suspect ∧
      (getPart t p).state = .faulted ∧ (getPart t p).fault = stCheckFail))

/-- DBG_CHALLENGE captures a fresh nonce. DBG_UNLOCK over it: a token that verifies opens the port, empties the sealed store, ends the
certification and the partitions' service, and leaves the three monotonic counters; one that does not counts as a failed unlock with both causes,
and the eighth locks the port; a locked port takes none. While the port is closed every open instruction acts as BYPASS. While it is
open: DBG_SEL and DBG_DATA; HALT, RUN and STEP act on the lichen core or on the queue of the target; breakpoints are set and cleared;
READ and WRITE act on registers and HBM; a target that is none gives ERROR. EXTEST drives the outputs; SAMPLE_PRELOAD, IDCODE and BYPASS work while
the port is powered. -/
def Obligations.DebugPort : Prop :=
  (∀ s : State, devOn s = true → ∃ t, exec .dbgChallenge s = .next t ∧ t.mem = s.mem ∧
    t.dbgPort.nonce = some (sliceB (Config.freshNonce s.free) 0 32)) ∧
  (∀ (token : List Byte) (verified : Bool) (s : State), TablesOk s → devOn s = true →
    (getF s SEC_STATUS_LOCKED = 1 → exec (.dbgUnlock token verified) s = .next s) ∧
    (getF s SEC_STATUS_LOCKED = 0 → s.dbgPort.nonce.isSome = true → blockOk token verified = true →
      ∃ t, exec (.dbgUnlock token verified) s = .next t ∧ t.dbgPort.opened = true ∧ t.dbgPort.nonce = none ∧
        t.flash.opened = true ∧ t.flash.sealedAt = [] ∧ t.flash.certified = false ∧ t.flash.imageCtr = s.flash.imageCtr ∧
        t.flash.fwCtr = s.flash.fwCtr ∧ t.flash.fpCounter = s.flash.fpCounter ∧ getF t SEC_STATUS_PORT_OPEN = 1 ∧ Caused t 16 0 ∧
        t.dev = (if s.dev = .ready then .service else s.dev) ∧
        (s.dev = .ready → ∀ p < 8, (getPart t p).state ≠ .running ∧ (getPart t p).state ≠ .draining)) ∧
    (getF s SEC_STATUS_LOCKED = 0 → (s.dbgPort.nonce = none ∨ blockOk token verified = false) →
      getF s SEC_STATUS_UNLOCK_FAILS < 8 →
      ∃ t, exec (.dbgUnlock token verified) s = .next t ∧ t.dbgPort.opened = s.dbgPort.opened ∧ t.mem = s.mem ∧
        getF t SEC_STATUS_UNLOCK_FAILS = getF s SEC_STATUS_UNLOCK_FAILS + 1 ∧ Caused t 16 1 ∧ Caused t 16 2 ∧
        (getF s SEC_STATUS_UNLOCK_FAILS = 7 → getF t SEC_STATUS_LOCKED = 1))) ∧
  (∀ (x : Instr × List Bool) (n addr : Nat) (s : State), x ∈ openScans ∨ x ∈ openScansN n addr → portPowered s = true →
    s.dbgPort.opened = false → exec x.1 s = .next (bypassScan x.2 s)) ∧
  (∀ (write : Bool) (v : W64) (l : List Bool) (s : State), portPowered s = true → s.dbgPort.opened = false →
    exec (.dbgData write v) s = .next (bypassScan (bitsLsb 66 v.toNat) s) ∧ exec (.extest l) s = .next (bypassScan l s)) ∧
  (∀ (n : Nat) (s : State), DebugOpen s n → ∀ (m : Nat) (v : W64),
    exec (.dbgSel m) s = .next { s with dbgPort := { s.dbgPort with target := m % 65536 } } ∧
    exec (.dbgData true v) s = .next { s with dbgPort := { s.dbgPort with wrData := v } } ∧
    exec (.dbgData false v) s = .next { s with dbgPort := { s.dbgPort with
      tdo := bitsLsb 64 s.dbgPort.rdData.toNat ++ [s.dbgPort.done, s.dbgPort.error] } }) ∧
  (∀ s : State, DebugOpen s 0 → ∀ (n addr : Nat),
    (∃ t, exec .halt s = .next t ∧ t.mgmt = { s.mgmt with halted := true } ∧ t.dbgPort.done = true ∧ t.dbgPort.error = false) ∧
    (∃ t, exec .run s = .next t ∧ t.mgmt = { s.mgmt with halted := false, fedAt := s.counter } ∧ t.dbgPort.error = false) ∧
    exec .step s = .next { s with dbgPort := { s.dbgPort with done := true, error := false } } ∧
    (∃ t, exec (.bpSet n addr) s = .next t ∧ tblFind t.dbgPort.lichenBps (n % 4) = some (addr % 2 ^ 48)) ∧
    (∃ t, exec (.bpClr n) s = .next t ∧ t.dbgPort.lichenBps = tblPut s.dbgPort.lichenBps (n % 4) none)) ∧
  (∀ (q : Nat) (s : State), q < 320 → DebugOpen s (q + 1) → ∀ (n addr : Nat),
    (∃ t, exec .halt s = .next t ∧ q ∈ t.dbgPort.halted ∧ q ∉ t.dbgPort.stepping ∧ t.dbgPort.error = false) ∧
    (∃ t, exec .run s = .next t ∧ q ∉ t.dbgPort.halted ∧ q ∉ t.dbgPort.stepping ∧ t.dbgPort.error = false) ∧
    (q ∈ s.dbgPort.halted → ∃ t, exec .step s = .next t ∧ q ∈ t.dbgPort.stepping ∧ t.dbgPort.error = false) ∧
    (addr % 2 ^ 48 < 2 ^ 32 → ∃ t, exec (.bpSet n addr) s = .next t ∧ t.dbgPort.error = false ∧
      tblFind t.dbgPort.bps (4 * q + n % 4) = some (addr % 2 ^ 48)) ∧
    (2 ^ 32 ≤ addr % 2 ^ 48 → ∃ t, exec (.bpSet n addr) s = .next t ∧ t.dbgPort.error = true ∧ t.dbgPort.bps = s.dbgPort.bps) ∧
    (∃ t, exec (.bpClr n) s = .next t ∧ t.dbgPort.bps = tblPut s.dbgPort.bps (4 * q + n % 4) none)) ∧
  (∀ (n addr : Nat) (s : State), n ≤ 320 → DebugOpen s n →
    let a := addr % 2 ^ 48
    (∃ t, exec (.dbgRead 0 addr) s = .next t ∧
      t.dbgPort.rdData = (ctlReadAt ⟨.debug, a, .w64⟩ 0 s).lastRead ∧ t.regs = (ctlReadAt ⟨.debug, a, .w64⟩ 0 s).regs) ∧
    (∃ t, exec (.dbgWrite 0 addr) s = .next t ∧ t.regs = (ctlWriteAt ⟨.debug, a, .w64⟩ s.dbgPort.wrData s).regs) ∧
    (hbmRange a 8 = true →
      (∃ t, exec (.dbgRead 1 addr) s = .next t ∧ t.mem = s.mem ∧ t.dbgPort.rdData = BitVec.ofNat 64 (readNat s a 8) ∧
        t.dbgPort.error = false) ∧
      (∃ t, exec (.dbgWrite 1 addr) s = .next t ∧ t.mem = (writeBytes s a (leBytes 8 s.dbgPort.wrData.toNat)).mem ∧
        t.dbgPort.error = false)) ∧
    (hbmRange a 8 = false → ∃ t, exec (.dbgWrite 1 addr) s = .next t ∧ t.mem = s.mem ∧ t.dbgPort.error = true)) ∧
  (∀ (n : Nat) (s : State), 320 < n → DebugOpen s n → ∀ x ∈ openScans,
    exec x.1 s = .next { s with dbgPort := { s.dbgPort with done := true, error := true } }) ∧
  (∀ (v : List Bool) (tdi : Bool) (s : State), portPowered s = true →
    (s.dbgPort.opened = true → ∃ t, exec (.extest v) s = .next t ∧ t.dbgPort.outputs = v ∧ t.dbgPort.boundary = v ∧ t.mem = s.mem) ∧
    (∃ t, exec (.samplePreload v) s = .next t ∧ t.dbgPort.boundary = v ∧ t.dbgPort.outputs = s.dbgPort.outputs ∧ t.mem = s.mem) ∧
    exec .idcode s = .next { s with dbgPort := { s.dbgPort with tdo := bitsLsb 32 0xC076809B } } ∧
    exec (.bypass tdi) s = .next { s with dbgPort := { s.dbgPort with tdo := [s.dbgPort.bypass], bypass := tdi } })
end

