-- ==== Sys2Proof/Laws/Agree.lean ====
section
/-! SUPPORT. What a run of the machine leaves alone: the relation `Agree`, and how it composes. -/

namespace Sys2Proof.Laws

open Sys2Proof Sys2Proof.Machine Sys2Proof.Safety Sys2Proof.Frame

theorem flashUp_refl (a : FlashSt) : FlashUp a a := by simp [FlashUp]

theorem flashUp_trans {a b c : FlashSt} (h : FlashUp a b) (k : FlashUp b c) : FlashUp a c := by
  unfold FlashUp at *; omega

/-- From `s` to `t` only the areas whose bits are set in `A` may have changed; the queue of commands is the same, the counters
only rise, and memory keeps its canonical form. -/
structure Agree (A : Nat) (s t : State) : Prop where
  pending : t.pending = s.pending
  free    : s.free ≤ t.free
  flashUp : FlashUp s.flash t.flash
  memOk   : MemOk s → MemOk t
  tabOk   : TablesOk s → TablesOk t
  area    : ∀ a : Area, A.testBit a.idx = false → a.same s t

theorem Area.same_refl (a : Area) (s : State) : a.same s s := by cases a <;> simp [Area.same]

theorem Area.same_trans {a : Area} {s t u : State} (h : a.same s t) (k : a.same t u) : a.same s u := by
  cases a <;> simp_all [Area.same]

theorem Agree.refl (A : Nat) (s : State) : Agree A s s :=
  ⟨rfl, Nat.le_refl _, flashUp_refl _, id, id, fun a _ => Area.same_refl a s⟩

theorem Agree.trans {A : Nat} {s t u : State} (h : Agree A s t) (k : Agree A t u) : Agree A s u :=
  ⟨k.pending.trans h.pending, Nat.le_trans h.free k.free, flashUp_trans h.flashUp k.flashUp, fun m => k.memOk (h.memOk m),
   fun m => k.tabOk (h.tabOk m),
   fun a ha => Area.same_trans (h.area a ha) (k.area a ha)⟩

theorem Agree.mono {A B : Nat} {s t : State} (h : Agree A s t) (hs : A ||| B = B) : Agree B s t := by
  refine ⟨h.pending, h.free, h.flashUp, h.memOk, h.tabOk, fun a ha => h.area a ?_⟩
  have e : (A ||| B).testBit a.idx = B.testBit a.idx := by rw [hs]
  rw [Nat.testBit_or, ha] at e
  simpa using e

/-- An operation runs on a state that was reached. -/
theorem Agree.after {A C : Nat} {s0 s t : State} (hf : Agree A s t) (hs : A ||| C = C) (h : Agree C s0 s) : Agree C s0 t :=
  h.trans (hf.mono hs)

/-- A record update that leaves memory alone. -/
theorem Agree.upd {A : Nat} {s0 s t : State} (h : Agree A s0 s) (hp : t.pending = s.pending) (hf : s.free ≤ t.free)
    (hl : FlashUp s.flash t.flash) (hm : t.mem = s.mem ∧ t.units = s.units ∧ t.upsets = s.upsets)
    (hw : TablesOk s → TablesOk t) (ha : ∀ a : Area, A.testBit a.idx = false → a.same s t) : Agree A s0 t :=
  h.trans ⟨hp, hf, hl, fun m => by unfold MemOk at *; rw [hm.1, hm.2.1, hm.2.2]; exact m, hw, ha⟩

/-- A record update of state `s` that changes a table. -/
theorem Agree.updTab {A : Nat} {s0 s : State} {x_free x_dev x_pins x_island x_counter x_regs x_lastRead x_shadows x_mem x_units x_upsets x_rhzUps x_seqUps x_queues x_fronds x_parts x_ports x_fabric x_cfg x_flash x_mgmt x_dbgPort x_power x_msix x_stipe} (h : Agree A s0 s)
    (hf : s.free ≤ x_free) (hl : FlashUp s.flash x_flash) (hm : x_mem = s.mem) (hu : x_units = s.units) (hx : x_upsets = s.upsets)
    (hw : TablesOk s → TablesOk (State.mk s.pending x_free x_dev x_pins x_island x_counter x_regs x_lastRead x_shadows x_mem x_units x_upsets x_rhzUps x_seqUps x_queues x_fronds x_parts x_ports x_fabric x_cfg x_flash x_mgmt x_dbgPort x_power x_msix x_stipe))
    (ha : ∀ a : Area, A.testBit a.idx = false → a.same s (State.mk s.pending x_free x_dev x_pins x_island x_counter x_regs x_lastRead x_shadows x_mem x_units x_upsets x_rhzUps x_seqUps x_queues x_fronds x_parts x_ports x_fabric x_cfg x_flash x_mgmt x_dbgPort x_power x_msix x_stipe)) :
    Agree A s0 (State.mk s.pending x_free x_dev x_pins x_island x_counter x_regs x_lastRead x_shadows x_mem x_units x_upsets x_rhzUps x_seqUps x_queues x_fronds x_parts x_ports x_fabric x_cfg x_flash x_mgmt x_dbgPort x_power x_msix x_stipe) :=
  h.upd rfl hf hl ⟨hm, hu, hx⟩ hw ha

/-- A record update of state `s` that leaves memory and tables alone. -/
theorem Agree.updMk {A : Nat} {s0 s : State} {x_free x_dev x_pins x_island x_counter x_regs x_lastRead x_shadows x_mem x_units x_upsets x_rhzUps x_seqUps x_queues x_fronds x_parts x_ports x_fabric x_cfg x_flash x_mgmt x_dbgPort x_power x_msix x_stipe} (h : Agree A s0 s)
    (hf : s.free ≤ x_free) (hl : FlashUp s.flash x_flash) (hm : x_mem = s.mem) (hu : x_units = s.units) (hx : x_upsets = s.upsets)
    (hw : x_regs = s.regs ∧ x_queues = s.queues ∧ x_fronds = s.fronds ∧ x_parts = s.parts ∧ x_ports = s.ports)
    (ha : ∀ a : Area, A.testBit a.idx = false → a.same s (State.mk s.pending x_free x_dev x_pins x_island x_counter x_regs x_lastRead x_shadows x_mem x_units x_upsets x_rhzUps x_seqUps x_queues x_fronds x_parts x_ports x_fabric x_cfg x_flash x_mgmt x_dbgPort x_power x_msix x_stipe)) :
    Agree A s0 (State.mk s.pending x_free x_dev x_pins x_island x_counter x_regs x_lastRead x_shadows x_mem x_units x_upsets x_rhzUps x_seqUps x_queues x_fronds x_parts x_ports x_fabric x_cfg x_flash x_mgmt x_dbgPort x_power x_msix x_stipe) :=
  h.upd rfl hf hl ⟨hm, hu, hx⟩ (fun m => by
    obtain ⟨h1, h2, h3, h4, h5⟩ := hw
    subst h1 h2 h3 h4 h5
    exact ⟨m.regs, m.resets, m.queues, m.fronds, m.slots, m.parts, m.ports⟩) ha

theorem Agree.foldl {A : Nat} {s0 : State} {β : Type} {f : State → β → State} {l : List β} {s : State}
    (hf : ∀ t b, Agree A s0 t → Agree A s0 (f t b)) (h : Agree A s0 s) : Agree A s0 (l.foldl f s) := by
  induction l generalizing s with
  | nil => exact h
  | cons b l ih => exact ih (hf s b h)

theorem Agree.foldlFst {A : Nat} {s0 : State} {α β : Type} {f : State × α → β → State × α} {l : List β} {x : State × α}
    (hf : ∀ t b, Agree A s0 t.1 → Agree A s0 (f t b).1) (h : Agree A s0 x.1) : Agree A s0 (l.foldl f x).1 := by
  induction l generalizing x with
  | nil => exact h
  | cons b l ih => exact ih (hf x b h)

theorem Agree.ite {A : Nat} {s0 t u : State} {c : Prop} [Decidable c] (ht : Agree A s0 t) (hu : Agree A s0 u) :
    Agree A s0 (if c then t else u) := by
  split
  · exact ht
  · exact hu

theorem Agree.iteFst {A : Nat} {s0 : State} {α : Type} {x y : State × α} {c : Prop} [Decidable c] (hx : Agree A s0 x.1)
    (hy : Agree A s0 y.1) : Agree A s0 (if c then x else y).1 := by
  split
  · exact hx
  · exact hy

theorem Agree.ofPair {A : Nat} {s0 t : State} {α : Type} {e : State × α} {y : α} (he : e = (t, y)) (h : Agree A s0 e.1) :
    Agree A s0 t := by
  subst he; exact h

theorem Agree.ofEq {A : Nat} {s0 t u : State} (he : t = u) (h : Agree A s0 t) : Agree A s0 u := he ▸ h

/-- What a command's own rule makes of its entry touches no more than `A`. -/
def VAgree (A : Nat) (s0 : State) : Verdict → Prop
  | .effect t _ _ _ _ => Agree A s0 t
  | _ => True

theorem VAgree.effect {A : Nat} {s0 t : State} {v : Verdict} {st d : Nat} {k : Bool} {w : WaitFor} (hv : VAgree A s0 v)
    (he : v = .effect t st d k w) : Agree A s0 t := by
  subst he; exact hv

theorem VAgree.vafter {A C : Nat} {s0 s : State} {v : Verdict} (hv : VAgree A s v) (hs : A ||| C = C) (h : Agree C s0 s) :
    VAgree C s0 v := by
  cases v <;> first | trivial | exact Agree.after hv hs h

theorem VAgree.ite {A : Nat} {s0 : State} {v w : Verdict} {c : Prop} [Decidable c] (hv : VAgree A s0 v) (hw : VAgree A s0 w) :
    VAgree A s0 (if c then v else w) := by
  split
  · exact hv
  · exact hw

theorem VAgree.mono {A B : Nat} {s : State} {v : Verdict} (h : VAgree A s v) (hs : A ||| B = B) : VAgree B s v :=
  h.vafter hs (Agree.refl B s)

theorem or_sub {a b c : Nat} (h : a ||| b = b) (k : b ||| c = c) : a ||| c = c := by
  rw [← k, ← Nat.or_assoc, h]

/-! ### Tables -/

theorem tblPut_mem {α : Type} {t : Tbl α} {k : Nat} {v : Option α} {e : Nat × α} (h : e ∈ tblPut t k v) :
    e ∈ t ∨ (e.1 = k ∧ v = some e.2) := by
  induction t with
  | nil => cases v <;> simp_all [tblPut]
  | cons x t ih =>
    obtain ⟨j, w⟩ := x
    unfold tblPut at h
    split at h
    · cases v with
      | none => exact .inl (List.mem_cons_of_mem _ h)
      | some a =>
        rcases List.mem_cons.1 h with rfl | h
        · exact .inr ⟨rfl, rfl⟩
        · exact .inl (List.mem_cons_of_mem _ h)
    · split at h
      · cases v with
        | none => exact .inl h
        | some a =>
          rcases List.mem_cons.1 h with rfl | h
          · exact .inr ⟨rfl, rfl⟩
          · exact .inl h
      · rcases List.mem_cons.1 h with rfl | h
        · exact .inl (List.mem_cons_self ..)
        · rcases ih h with h | h
          · exact .inl (List.mem_cons_of_mem _ h)
          · exact .inr h

theorem tblPut_sorted {α : Type} {t : Tbl α} {k : Nat} {v : Option α} (h : t.Pairwise (fun a b => a.1 < b.1)) :
    (tblPut t k v).Pairwise (fun a b => a.1 < b.1) := by
  induction t with
  | nil => cases v <;> simp [tblPut]
  | cons x t ih =>
    obtain ⟨j, w⟩ := x
    obtain ⟨h1, h2⟩ := List.pairwise_cons.1 h
    unfold tblPut
    split
    · rename_i e
      cases v with
      | none => exact h2
      | some a => exact List.pairwise_cons.2 ⟨fun b hb => e ▸ h1 b hb, h2⟩
    · split
      · rename_i hlt
        cases v with
        | none => exact h
        | some a =>
          refine List.pairwise_cons.2 ⟨fun b hb => ?_, h⟩
          rcases List.mem_cons.1 hb with rfl | hb
          · exact hlt
          · exact Nat.lt_trans hlt (h1 b hb)
      · rename_i hne hlt
        refine List.pairwise_cons.2 ⟨fun b hb => ?_, ih h2⟩
        rcases tblPut_mem hb with hb | ⟨hb, -⟩
        · exact h1 b hb
        · show j < b.1
          omega

/-- A table keeps its canonical form when a key is set. -/
theorem tblSet_wf {α : Type} [DecidableEq α] {d : α} {t : Tbl α} {k : Nat} {v : α} (h : TblWf d t) :
    TblWf d (tblSet d t k v) := by
  refine ⟨tblPut_sorted h.1, fun e he => ?_⟩
  rcases tblPut_mem he with he | ⟨-, he⟩
  · exact h.2 e he
  · split at he
    · simp at he
    · rename_i hv
      simp only [Option.some.injEq] at he
      exact he ▸ hv

/-- A table keeps its canonical form when entries are dropped. -/
theorem filter_wf {α : Type} [DecidableEq α] {d : α} {t : Tbl α} {p : Nat × α → Bool} (h : TblWf d t) :
    TblWf d (t.filter p) :=
  ⟨h.1.filter p, fun e he => h.2 e (List.mem_filter.1 he).1⟩

/-- A table keeps its canonical form when its values are mapped and what stands at the default is dropped. -/
theorem mapFilter_wf {α : Type} [DecidableEq α] {d : α} {t : Tbl α} {g : Nat × α → Nat × α} (h : TblWf d t)
    (hg : ∀ e, (g e).1 = e.1) : TblWf d ((t.map g).filter (fun e => e.2 != d)) := by
  refine ⟨List.Pairwise.filter _ (List.pairwise_map.2 (h.1.imp (fun {a b} hab => ?_))), fun e he => ?_⟩
  · rw [hg, hg]; exact hab
  · simpa using (List.mem_filter.1 he).2

theorem nil_wf {α : Type} [DecidableEq α] {d : α} : TblWf d ([] : Tbl α) := ⟨.nil, fun _ h => nomatch h⟩

theorem tblFind_mem {α : Type} {t : Tbl α} {k : Nat} {v : α} (h : tblFind t k = some v) : (k, v) ∈ t := by
  induction t with
  | nil => exact nomatch h
  | cons x t ih =>
    obtain ⟨j, w⟩ := x
    unfold tblFind at h
    split at h
    · rename_i e
      subst e
      exact Option.some.inj h ▸ List.mem_cons_self ..
    · split at h
      · exact nomatch h
      · exact List.mem_cons_of_mem _ (ih h)

/-- The slots of every frond are a table in canonical form. -/
theorem getFrond_slots_wf {s : State} {f : Nat} (h : TablesOk s) : TblWf SlotSt.empty (getFrond s f).slots := by
  unfold getFrond tblGet
  cases hf : tblFind s.fronds f with
  | none => exact nil_wf
  | some v => exact h.slots (f, v) (tblFind_mem hf)

end Sys2Proof.Laws
end

