-- ==== Sys2Proof/Laws/AgreeOps.lean ====
section
/-! SUPPORT. What the operations of Machine/Ops.lean leave alone: for each, the areas it may change, as the bits of a mask in
the numbering of `Area.idx`. -/

namespace Sys2Proof.Laws

open Sys2Proof Sys2Proof.Machine Sys2Proof.Safety Sys2Proof.Frame

theorem setPart_agree {s k v} : Agree 16384 s (setPart s k v) := by
  unfold setPart
  exact Agree.updTab (Agree.refl _ _) (Nat.le_refl _) (flashUp_refl _) rfl rfl rfl
    (fun m => ⟨m.regs, m.resets, m.queues, m.fronds, m.slots, tblSet_wf m.parts, m.ports⟩)
    (fun a h => by cases a <;> first | exact absurd h (by decide) | exact rfl | exact ⟨rfl, rfl⟩)

theorem modPart_agree {x0 x1 x2} : Agree 16384 x0 (@modPart x0 x1 x2) := by
  unfold modPart
  refine setPart_agree.after rfl ?_
  exact Agree.refl _ _

theorem setReg_agree {s o v} : Agree 32 s (setReg s o v) := by
  unfold setReg
  refine Agree.updTab (Agree.refl _ _) (Nat.le_refl _) (flashUp_refl _) rfl rfl rfl
    (fun m => ⟨tblPut_sorted m.regs, fun e he => ?_, m.queues, m.fronds, m.slots, m.parts, m.ports⟩)
    (fun a h => by cases a <;> first | exact absurd h (by decide) | exact rfl | exact ⟨rfl, rfl⟩)
  rcases tblPut_mem he with he | ⟨hk, he⟩
  · exact m.resets e he
  · split at he
    · exact nomatch he
    · rename_i hv
      rw [hk, ← Option.some.inj he]
      exact hv

theorem setF_agree {x0 x1 x2 x3} : Agree 32 x0 (@setF x0 x1 x2 x3) := by
  unfold setF
  refine setReg_agree.after rfl ?_
  exact Agree.refl _ _

theorem bump_agree {x0 x1 x2 x3} : Agree 32 x0 (@bump x0 x1 x2 x3) := by
  unfold bump
  refine Agree.ite ?_ ?_
  · exact Agree.refl _ _
  · refine setF_agree.after rfl ?_
    exact Agree.refl _ _

theorem wakeLichen_agree {x0} : Agree 524320 x0 (@wakeLichen x0) := by
  unfold wakeLichen
  refine Agree.ite ?_ ?_
  · refine bump_agree.after rfl ?_
    refine Agree.updMk ?_ (Nat.le_refl _) (flashUp_refl _) rfl rfl rfl ⟨rfl, rfl, rfl, rfl, rfl⟩ (fun a h => by cases a <;> first | exact absurd h (by decide) | exact rfl | exact ⟨rfl, rfl⟩)
    exact Agree.refl _ _
  · refine Agree.updMk ?_ (Nat.le_refl _) (flashUp_refl _) rfl rfl rfl ⟨rfl, rfl, rfl, rfl, rfl⟩ (fun a h => by cases a <;> first | exact absurd h (by decide) | exact rfl | exact ⟨rfl, rfl⟩)
    exact Agree.refl _ _

theorem sendMsg_agree {x0 x1 x2 x3} : Agree 65536 x0 (@sendMsg x0 x1 x2 x3) := by
  unfold sendMsg
  extract_lets +onlyGivenNames v0
  clear_value v0
  extract_lets +onlyGivenNames v1
  clear_value v1
  extract_lets +onlyGivenNames v2
  clear_value v2
  refine Agree.updMk ?_ (Nat.le_refl _) (flashUp_refl _) rfl rfl rfl ⟨rfl, rfl, rfl, rfl, rfl⟩ (fun a h => by cases a <;> first | exact absurd h (by decide) | exact rfl | exact ⟨rfl, rfl⟩)
  exact Agree.refl _ _

theorem notifyInt_agree {x0 x1 x2} : Agree 4259840 x2 (@notifyInt x0 x1 x2) := by
  unfold notifyInt
  extract_lets +onlyGivenNames v0
  clear_value v0
  extract_lets +onlyGivenNames v1
  clear_value v1
  extract_lets +onlyGivenNames v2
  have hv2 : Agree 4259840 x2 v2 := by
    unfold v2
    refine Agree.ite ?_ ?_
    · refine Agree.updMk ?_ (Nat.le_refl _) (flashUp_refl _) rfl rfl rfl ⟨rfl, rfl, rfl, rfl, rfl⟩ (fun a h => by cases a <;> first | exact absurd h (by decide) | exact rfl | exact ⟨rfl, rfl⟩)
      exact Agree.refl _ _
    · exact Agree.refl _ _
  clear_value v2
  refine Agree.ite ?_ ?_
  · split
    · refine sendMsg_agree.after rfl ?_
      assumption
    · assumption
  · assumption

theorem raiseCause_agree {x0 x1 x2} : Agree 4259872 x0 (@raiseCause x0 x1 x2) := by
  unfold raiseCause
  extract_lets +onlyGivenNames v0
  clear_value v0
  extract_lets +onlyGivenNames v1
  have hv1 : Agree 4259872 x0 v1 := by
    unfold v1
    refine setReg_agree.after rfl ?_
    exact Agree.refl _ _
  clear_value v1
  extract_lets +onlyGivenNames v2
  clear_value v2
  refine notifyInt_agree.after rfl ?_
  refine bump_agree.after rfl ?_
  assumption

theorem setLogRegs_agree {x0} : Agree 32 x0 (@setLogRegs x0) := by
  unfold setLogRegs
  extract_lets +onlyGivenNames v0
  have hv0 : Agree 32 x0 v0 := by
    unfold v0
    refine Agree.ite ?_ ?_
    · refine setF_agree.after rfl ?_
      refine setF_agree.after rfl ?_
      exact Agree.refl _ _
    · exact Agree.refl _ _
  clear_value v0
  refine setF_agree.after rfl ?_
  assumption

theorem logEnter_agree {x0 x1} : Agree 5046304 x0 (@logEnter x0 x1) := by
  unfold logEnter
  extract_lets +onlyGivenNames v0
  have hv0 : Agree 5046304 x0 v0 := by
    unfold v0
    refine Agree.ite ?_ ?_
    · refine wakeLichen_agree.after rfl ?_
      exact Agree.refl _ _
    · exact Agree.refl _ _
  clear_value v0
  refine Agree.ite ?_ ?_
  · refine raiseCause_agree.after rfl ?_
    refine bump_agree.after rfl ?_
    refine Agree.updMk ?_ (Nat.le_refl _) (flashUp_refl _) rfl rfl rfl ⟨rfl, rfl, rfl, rfl, rfl⟩ (fun a h => by cases a <;> first | exact absurd h (by decide) | exact rfl | exact ⟨rfl, rfl⟩)
    assumption
  · refine setLogRegs_agree.after rfl ?_
    refine Agree.updMk ?_ (Nat.le_refl _) ⟨Nat.le_refl _, Nat.le_refl _, Nat.le_refl _, Nat.le_refl _, Nat.le_succ _, Nat.le_refl _, Nat.le_refl _⟩ rfl rfl rfl ⟨rfl, rfl, rfl, rfl, rfl⟩ (fun a h => by cases a <;> first | exact absurd h (by decide) | exact rfl | exact ⟨rfl, rfl⟩)
    assumption

/-- A log record changes no anti-rollback counter. -/
theorem logEvent_ctrs {s : State} {a b c d : Nat} {p : Option Nat} {l : List Byte} :
    (logEvent s a b c d p l).flash.imageCtr = s.flash.imageCtr ∧ (logEvent s a b c d p l).flash.fwCtr = s.flash.fwCtr := by
  unfold logEvent logEnter
  extract_lets +onlyGivenNames t
  have ht : t.flash = s.flash := by
    unfold t
    split
    · exact wakeLichen_agree.area .flash rfl
    · rfl
  split
  · have h1 : ∀ u : State, (raiseCause (bump u MGT_LOG_EVENTS_LOST 0 1) 15 1).flash = u.flash := fun u =>
      (raiseCause_agree.area .flash rfl).trans (bump_agree.area .flash rfl)
    rw [h1]
    exact ⟨congrArg (·.imageCtr) ht, congrArg (·.fwCtr) ht⟩
  · have h1 : ∀ u : State, (setLogRegs u).flash = u.flash := fun u => setLogRegs_agree.area .flash rfl
    rw [h1]
    exact ⟨congrArg (·.imageCtr) ht, congrArg (·.fwCtr) ht⟩

theorem logEvent_agree {s a b c d p l} : Agree 5046304 s (logEvent s a b c d p l) := by
  unfold logEvent
  exact logEnter_agree

theorem setQ_agree {s k v} : Agree 4096 s (setQ s k v) := by
  unfold setQ
  exact Agree.updTab (Agree.refl _ _) (Nat.le_refl _) (flashUp_refl _) rfl rfl rfl
    (fun m => ⟨m.regs, m.resets, tblSet_wf m.queues, m.fronds, m.slots, m.parts, m.ports⟩)
    (fun a h => by cases a <;> first | exact absurd h (by decide) | exact rfl | exact ⟨rfl, rfl⟩)

theorem modQ_agree {x0 x1 x2} : Agree 4096 x0 (@modQ x0 x1 x2) := by
  unfold modQ
  refine setQ_agree.after rfl ?_
  exact Agree.refl _ _

theorem poisonUnit_agree {s u} : Agree 512 s (poisonUnit s u) :=
  ⟨rfl, Nat.le_refl _, flashUp_refl _, fun m => ⟨m.1, tblSet_wf m.2.1, m.2.2⟩, (fun m => ⟨m.regs, m.resets, m.queues, m.fronds, m.slots, m.parts, m.ports⟩),
    fun a h => by cases a <;> first | exact absurd h (by decide) | exact rfl⟩

/-- An upset is taken out of its unit. -/
theorem clearUpset_agree {s : State} {u : Nat} :
    Agree 512 s { s with upsets := tblSet Upset.zero s.upsets u Upset.zero } :=
  ⟨rfl, Nat.le_refl _, flashUp_refl _, fun m => ⟨m.1, m.2.1, tblSet_wf m.2.2⟩, (fun m => ⟨m.regs, m.resets, m.queues, m.fronds, m.slots, m.parts, m.ports⟩),
    fun a h => by cases a <;> first | exact absurd h (by decide) | exact rfl | exact ⟨rfl, rfl⟩⟩

theorem hbmPoisoned_agree {x0 x1 x2 x3} : Agree 5046304 x0 (@hbmPoisoned x0 x1 x2 x3) := by
  unfold hbmPoisoned
  extract_lets +onlyGivenNames v0
  clear_value v0
  extract_lets +onlyGivenNames v1
  clear_value v1
  extract_lets +onlyGivenNames v2
  clear_value v2
  extract_lets +onlyGivenNames v3
  clear_value v3
  extract_lets +onlyGivenNames v4
  clear_value v4
  extract_lets +onlyGivenNames v5
  have hv5 : Agree 5046304 x0 v5 := by
    unfold v5
    refine Agree.ite ?_ ?_
    · exact Agree.refl _ _
    · refine setReg_agree.after rfl ?_
      exact Agree.refl _ _
  clear_value v5
  extract_lets +onlyGivenNames v6
  have hv6 : Agree 5046304 x0 v6 := by
    unfold v6
    refine logEvent_agree.after rfl ?_
    assumption
  clear_value v6
  extract_lets +onlyGivenNames v7
  clear_value v7
  extract_lets +onlyGivenNames v8
  have hv8 : Agree 5046304 x0 v8 := by
    unfold v8
    refine Agree.updMk ?_ (Nat.le_refl _) (flashUp_refl _) rfl rfl rfl ⟨rfl, rfl, rfl, rfl, rfl⟩ (fun a h => by cases a <;> first | exact absurd h (by decide) | exact rfl | exact ⟨rfl, rfl⟩)
    assumption
  clear_value v8
  refine raiseCause_agree.after rfl ?_
  assumption

theorem setFrond_agree {s f v} (hv : TablesOk s → TblWf SlotSt.empty v.slots) : Agree 8192 s (setFrond s f v) := by
  unfold setFrond
  refine Agree.updTab (Agree.refl _ _) (Nat.le_refl _) (flashUp_refl _) rfl rfl rfl
    (fun m => ⟨m.regs, m.resets, m.queues, tblSet_wf m.fronds, fun e he => ?_, m.parts, m.ports⟩)
    (fun a h => by cases a <;> first | exact absurd h (by decide) | exact rfl | exact ⟨rfl, rfl⟩)
  rcases tblPut_mem he with he | ⟨-, he⟩
  · exact m.slots e he
  · split at he
    · exact nomatch he
    · exact Option.some.inj he ▸ hv m

theorem modFrond_agree {s f g} (hg : TablesOk s → ∀ x, TblWf SlotSt.empty x.slots → TblWf SlotSt.empty (g x).slots) :
    Agree 8192 s (modFrond s f g) :=
  setFrond_agree (fun m => hg m _ (getFrond_slots_wf m))

theorem postRequest_agree {x0 x1} : Agree 524320 x0 (@postRequest x0 x1) := by
  unfold postRequest
  extract_lets +onlyGivenNames v0
  have hv0 : Agree 524320 x0 v0 := by
    unfold v0
    refine setReg_agree.after rfl ?_
    exact Agree.refl _ _
  clear_value v0
  refine wakeLichen_agree.after rfl ?_
  refine Agree.updMk ?_ (Nat.le_refl _) (flashUp_refl _) rfl rfl rfl ⟨rfl, rfl, rfl, rfl, rfl⟩ (fun a h => by cases a <;> first | exact absurd h (by decide) | exact rfl | exact ⟨rfl, rfl⟩)
  assumption

theorem seqPost_agree {x0 x1 x2} : Agree 524320 x0 (@seqPost x0 x1 x2) := by
  unfold seqPost
  extract_lets +onlyGivenNames v0
  clear_value v0
  extract_lets +onlyGivenNames v1
  have hv1 : Agree 524320 x0 v1 := by
    unfold v1
    refine Agree.foldl (fun a2 b3 h4 => ?_) ?_
    · refine setReg_agree.after rfl ?_
      assumption
    · exact Agree.refl _ _
  clear_value v1
  refine postRequest_agree.after rfl ?_
  refine setReg_agree.after rfl ?_
  assumption

theorem seqLogEvent_agree {x0 x1 x2} : Agree 4792352 x0 (@seqLogEvent x0 x1 x2) := by
  unfold seqLogEvent
  extract_lets +onlyGivenNames v0
  clear_value v0
  refine Agree.ite ?_ ?_
  · extract_lets +onlyGivenNames v1
    have hv1 : Agree 4792352 x0 v1 := by
      unfold v1
      refine Agree.after (modFrond_agree (fun _ _ h => h)) rfl ?_
      exact Agree.refl _ _
    clear_value v1
    refine Agree.ite ?_ ?_
    · refine seqPost_agree.after rfl ?_
      assumption
    · assumption
  · refine raiseCause_agree.after rfl ?_
    refine bump_agree.after rfl ?_
    refine Agree.updMk ?_ (Nat.le_refl _) (flashUp_refl _) rfl rfl rfl ⟨rfl, rfl, rfl, rfl, rfl⟩ (fun a h => by cases a <;> first | exact absurd h (by decide) | exact rfl | exact ⟨rfl, rfl⟩)
    exact Agree.refl _ _

theorem readCheck_agree {s u} : Agree 5055008 s (readCheck s u) := by
  unfold readCheck
  extract_lets +onlyGivenNames x
  split
  · exact Agree.refl _ _
  · extract_lets +onlyGivenNames k s0
    have h0 : Agree 5055008 s s0 := clearUpset_agree.mono rfl
    split
    · split
      · exact bump_agree.after rfl h0
      · exact hbmPoisoned_agree.after rfl (bump_agree.after rfl (poisonUnit_agree.after rfl h0))
    · split
      · extract_lets +onlyGivenNames f
        split
        · exact bump_agree.after rfl h0
        · exact raiseCause_agree.after rfl (seqLogEvent_agree.after rfl (bump_agree.after rfl (poisonUnit_agree.after rfl h0)))
      · extract_lets +onlyGivenNames c
        split
        · exact bump_agree.after rfl h0
        · exact raiseCause_agree.after rfl (logEvent_agree.after rfl (bump_agree.after rfl (poisonUnit_agree.after rfl h0)))

theorem readUnit_agree {x0 x1} : Agree 5055008 x0 (@readUnit x0 x1) := by
  unfold readUnit
  refine Agree.ite ?_ ?_
  · refine bump_agree.after rfl ?_
    refine readCheck_agree.after rfl ?_
    exact Agree.refl _ _
  · refine readCheck_agree.after rfl ?_
    exact Agree.refl _ _

theorem foldlSet_wf {l : WSet} {m : List Host.Cell} (h : Memory.wf m) :
    Memory.wf (l.foldl (fun mem x => tblSet 0 mem x.1 x.2.val) m) := by
  induction l generalizing m with
  | nil => exact h
  | cons x l ih => exact ih (tblSet_wf h)

theorem writeUnit_agree {s u w} : Agree 768 s (writeUnit s u w) := by
  unfold writeUnit
  extract_lets
  refine ⟨rfl, Nat.le_refl _, flashUp_refl _, fun m => ⟨foldlSet_wf m.1, tblSet_wf m.2.1, ?_⟩, (fun m => ⟨m.regs, m.resets, m.queues, m.fronds, m.slots, m.parts, m.ports⟩), fun a h => ?_⟩
  · dsimp only
    split
    · exact tblSet_wf m.2.2
    · exact m.2.2
  · cases a <;> first | exact absurd h (by decide) | exact rfl

theorem writePart_agree {s u w halo} : Agree 5055264 s (writePart s u w halo).1 := by
  unfold writePart
  extract_lets +onlyGivenNames kept d
  split
  · exact Agree.refl _ _
  · split
    · extract_lets +onlyGivenNames st s1
      have h1 : Agree 5055264 s s1 := by
        unfold s1
        exact Agree.ite (Agree.refl _ _) (bump_agree.after rfl (readUnit_agree.mono rfl))
      show Agree 5055264 s (bump (writeUnit s1 u kept) HBM_TRAFFIC_ACCESSES st 4)
      exact bump_agree.after rfl (writeUnit_agree.after rfl h1)
    · show Agree 5055264 s (writeUnit s u kept)
      exact writeUnit_agree.mono rfl

theorem writeSet_agree {x0 x1 x2} : Agree 5055264 x0 (@writeSet x0 x1 x2).1 := by
  unfold writeSet
  refine Agree.foldlFst (fun a0 b1 h2 => ?_) ?_
  · extract_lets +onlyGivenNames v3
    have hv3 : Agree 5055264 x0 v3.1 := by
      unfold v3
      refine writePart_agree.after rfl ?_
      assumption
    clear_value v3
    assumption
  · dsimp only
    exact Agree.refl _ _

theorem writeBytes_agree {x0 x1 x2 x3} : Agree 5055264 x0 (@writeBytes x0 x1 x2 x3) := by
  unfold writeBytes
  refine writeSet_agree.after rfl ?_
  exact Agree.refl _ _

theorem writeRecord_agree {x0 x1 x2 x3} : Agree 5059360 x0 (@writeRecord x0 x1 x2 x3) := by
  unfold writeRecord
  extract_lets +onlyGivenNames v0
  clear_value v0
  extract_lets +onlyGivenNames v1
  have hv1 : Agree 5059360 x0 v1 := by
    unfold v1
    refine Agree.ite ?_ ?_
    · refine writeBytes_agree.after rfl ?_
      exact Agree.refl _ _
    · exact Agree.refl _ _
  clear_value v1
  refine modQ_agree.after rfl ?_
  assumption

theorem mirror_wf {α : Type} [DecidableEq α] {d : α} {t : Tbl α} {p q r : Nat × α → Bool} {k lo hi : Nat} (h : TblWf d t)
    (hp : ∀ e, p e = true → e.1 < lo) (hq : ∀ e, q e = true → lo ≤ e.1 + k ∧ e.1 + k < hi) (hr : ∀ e, r e = true → hi ≤ e.1)
    (hlo : lo ≤ hi) : TblWf d (t.filter p ++ (t.filter q).map (fun e => (e.1 + k, e.2)) ++ t.filter r) := by
  constructor
  · refine List.pairwise_append.2 ⟨List.pairwise_append.2 ⟨h.1.filter p, ?_, ?_⟩, h.1.filter r, ?_⟩
    · exact List.pairwise_map.2 ((h.1.filter q).imp (fun {a b} hab => by show a.1 + k < b.1 + k; omega))
    · intro a ha b hb
      obtain ⟨e, he, rfl⟩ := List.mem_map.1 hb
      have h1 := hp a (List.mem_filter.1 ha).2
      have h2 := hq e (List.mem_filter.1 he).2
      show a.1 < e.1 + k
      omega
    · intro a ha b hb
      have h3 := hr b (List.mem_filter.1 hb).2
      rcases List.mem_append.1 ha with ha | ha
      · have h1 := hp a (List.mem_filter.1 ha).2
        omega
      · obtain ⟨e, he, rfl⟩ := List.mem_map.1 ha
        have h2 := hq e (List.mem_filter.1 he).2
        show e.1 + k < b.1
        omega
  · intro e he
    rcases List.mem_append.1 he with he | he
    · rcases List.mem_append.1 he with he | he
      · exact h.2 e (List.mem_filter.1 he).1
      · obtain ⟨x, hx, rfl⟩ := List.mem_map.1 he
        exact h.2 x (List.mem_filter.1 hx).1
    · exact h.2 e (List.mem_filter.1 he).1--

theorem mirrorPair_agree {s f} : Agree 8960 s (mirrorPair s f) := by
  unfold mirrorPair
  refine Agree.ite ?_ (Agree.refl _ _)
  extract_lets +onlyGivenNames a b mine mineU hi s1
  have hb : b = a + 2 ^ 22 ∧ hi = b + 2 ^ 22 ∧ a % 256 = 0 := by
    refine ⟨?_, rfl, ?_⟩ <;> simp only [a, b, localKey, localBase] <;> omega
  have h1 : Agree 8960 s s1 := by
    refine ⟨rfl, Nat.le_refl _, flashUp_refl _, fun m => ⟨?_, ?_, m.2.2⟩, (fun m => ⟨m.regs, m.resets, m.queues, m.fronds, m.slots, m.parts, m.ports⟩),
      fun a h => by cases a <;> first | exact absurd h (by decide) | exact rfl⟩
    · have key := @mirror_wf _ _ 0 s.mem (fun e => decide (e.1 < b)) (fun e => decide (a ≤ e.1) && decide (e.1 < b))
        (fun e => decide (hi ≤ e.1)) (2 ^ 22) b hi m.1
      refine key ?_ ?_ ?_ ?_
      · intro e he; simpa using he
      · intro e he
        simp only [Bool.and_eq_true, decide_eq_true_eq] at he
        omega
      · intro e he; simpa using he
      · omega
    · have key := @mirror_wf _ _ UnitMeta.zero s.units (fun e => decide (256 * e.1 < b))
        (fun e => decide (a ≤ 256 * e.1) && decide (256 * e.1 < b)) (fun e => decide (hi ≤ 256 * e.1)) (2 ^ 14) (b / 256)
        (hi / 256) m.2.1
      refine key ?_ ?_ ?_ ?_
      · intro e he
        simp only [decide_eq_true_eq] at he
        omega
      · intro e he
        simp only [Bool.and_eq_true, decide_eq_true_eq] at he
        omega
      · intro e he
        simp only [decide_eq_true_eq] at he
        omega
      · omega
  refine (modFrond_agree (fun m _ _ => ?_)).after rfl h1
  have e1 : s1.fronds = s.fronds := rfl
  unfold getFrond
  rw [← e1]
  exact getFrond_slots_wf m

theorem haltCause_agree {x0 x1} : Agree 4259872 x0 (@haltCause x0 x1) := by
  unfold haltCause
  split
  · refine raiseCause_agree.after rfl ?_
    exact Agree.refl _ _
  · refine Agree.ite ?_ ?_
    · refine raiseCause_agree.after rfl ?_
      exact Agree.refl _ _
    · exact Agree.refl _ _

theorem signalMark_agree {x0 x1 x2} : Agree 32 x0 (@signalMark x0 x1 x2) := by
  unfold signalMark
  split
  · refine Agree.ite ?_ ?_
    · refine setReg_agree.after rfl ?_
      exact Agree.refl _ _
    · exact Agree.refl _ _
  · exact Agree.refl _ _

theorem setCompMap_agree {x0 x1} : Agree 32 x0 (@setCompMap x0 x1) := by
  unfold setCompMap
  refine Agree.ite ?_ ?_
  · extract_lets +onlyGivenNames v0
    clear_value v0
    refine setReg_agree.after rfl ?_
    exact Agree.refl _ _
  · exact Agree.refl _ _

theorem compCause_agree {x0 x1} : Agree 4259872 x0 (@compCause x0 x1) := by
  unfold compCause
  split
  · refine raiseCause_agree.after rfl ?_
    refine setCompMap_agree.after rfl ?_
    exact Agree.refl _ _
  · refine Agree.ite ?_ ?_
    · refine raiseCause_agree.after rfl ?_
      exact Agree.refl _ _
    · refine setCompMap_agree.after rfl ?_
      exact Agree.refl _ _

theorem finishEntry_agree {x0 x1 x2} : Agree 5059360 x0 (@finishEntry x0 x1 x2) := by
  unfold finishEntry
  extract_lets +onlyGivenNames v0
  have hv0 : Agree 5059360 x0 v0 := by
    unfold v0
    refine writeRecord_agree.after rfl ?_
    exact Agree.refl _ _
  clear_value v0
  extract_lets +onlyGivenNames v1
  have hv1 : Agree 5059360 x0 v1 := by
    unfold v1
    refine modQ_agree.after rfl ?_
    assumption
  clear_value v1
  extract_lets +onlyGivenNames v2
  have hv2 : Agree 5059360 x0 v2 := by
    unfold v2
    split
    · refine mirrorPair_agree.after rfl ?_
      refine Agree.after (modFrond_agree (fun _ _ h => h)) rfl ?_
      assumption
    · assumption
  clear_value v2
  refine Agree.ite ?_ ?_
  · refine haltCause_agree.after rfl ?_
    refine modQ_agree.after rfl ?_
    assumption
  · extract_lets +onlyGivenNames v3
    have hv3 : Agree 5059360 x0 v3 := by
      unfold v3
      refine signalMark_agree.after rfl ?_
      assumption
    clear_value v3
    refine Agree.ite ?_ ?_
    · refine compCause_agree.after rfl ?_
      assumption
    · assumption

theorem abortIssued_agree {x0 x1} : Agree 5059360 x0 (@abortIssued x0 x1) := by
  unfold abortIssued
  refine Agree.foldl (fun a0 b1 h2 => ?_) ?_
  · refine Agree.foldl (fun a3 b4 h5 => ?_) ?_
    · refine finishEntry_agree.after rfl ?_
      assumption
    · assumption
  · exact Agree.refl _ _

theorem resetQueues_agree {x0 x1} : Agree 4096 x0 (@resetQueues x0 x1) := by
  unfold resetQueues
  refine Agree.foldl (fun a0 b1 h2 => ?_) ?_
  · refine modQ_agree.after rfl ?_
    assumption
  · exact Agree.refl _ _

theorem deferTests_agree {x0 x1} : Agree 32 x0 (@deferTests x0 x1) := by
  unfold deferTests
  refine Agree.foldl (fun a0 b1 h2 => ?_) ?_
  · split
    · refine Agree.ite ?_ ?_
      · refine setF_agree.after rfl ?_
        assumption
      · assumption
    · assumption
  · exact Agree.refl _ _

theorem emptySlots_agree {s p ends} : Agree 8192 s (emptySlots s p ends) := by
  unfold emptySlots
  refine Agree.updTab (Agree.refl _ _) (Nat.le_refl _) (flashUp_refl _) rfl rfl rfl
    (fun m => ⟨m.regs, m.resets, m.queues, mapFilter_wf m.fronds (fun e => by split <;> rfl), fun e he => ?_, m.parts, m.ports⟩)
    (fun a h => by cases a <;> first | exact absurd h (by decide) | exact rfl | exact ⟨rfl, rfl⟩)
  obtain ⟨x, hx, rfl⟩ := List.mem_map.1 (List.mem_filter.1 he).1
  split
  · exact nil_wf
  · exact m.slots x hx

theorem setPartState_agree {x0 x1 x2} : Agree 24608 x0 (@setPartState x0 x1 x2) := by
  unfold setPartState
  extract_lets +onlyGivenNames v0
  have hv0 : Agree 24608 x0 v0 := by
    unfold v0
    refine modPart_agree.after rfl ?_
    exact Agree.refl _ _
  clear_value v0
  extract_lets +onlyGivenNames v1
  have hv1 : Agree 24608 x0 v1 := by
    unfold v1
    refine Agree.ite ?_ ?_
    · refine deferTests_agree.after rfl ?_
      assumption
    · assumption
  clear_value v1
  refine Agree.ite ?_ ?_
  · assumption
  · refine emptySlots_agree.after rfl ?_
    assumption

theorem readUnits_agree {x0 x1} : Agree 5055008 x0 (@readUnits x0 x1) := by
  unfold readUnits
  refine Agree.foldl (fun a0 b1 h2 => ?_) ?_
  · refine readUnit_agree.after rfl ?_
    assumption
  · exact Agree.refl _ _

theorem accessError_agree {x0 x1 x2 x3} : Agree 4259872 x0 (@accessError x0 x1 x2 x3) := by
  unfold accessError
  extract_lets +onlyGivenNames v0
  have hv0 : Agree 4259872 x0 v0 := by
    unfold v0
    refine Agree.ite ?_ ?_
    · exact Agree.refl _ _
    · refine setReg_agree.after rfl ?_
      exact Agree.refl _ _
  clear_value v0
  refine raiseCause_agree.after rfl ?_
  assumption

theorem setPort_agree {s k v} : Agree 32768 s (setPort s k v) := by
  unfold setPort
  exact Agree.updTab (Agree.refl _ _) (Nat.le_refl _) (flashUp_refl _) rfl rfl rfl
    (fun m => ⟨m.regs, m.resets, m.queues, m.fronds, m.slots, m.parts, tblSet_wf m.ports⟩)
    (fun a h => by cases a <;> first | exact absurd h (by decide) | exact rfl | exact ⟨rfl, rfl⟩)

theorem modPort_agree {x0 x1 x2} : Agree 32768 x0 (@modPort x0 x1 x2) := by
  unfold modPort
  refine setPort_agree.after rfl ?_
  exact Agree.refl _ _

theorem sendOnPort_agree {x0 x1 x2 x3} : Agree 32768 x0 (@sendOnPort x0 x1 x2 x3) := by
  unfold sendOnPort
  refine modPort_agree.after rfl ?_
  exact Agree.refl _ _

theorem advance_agree {x0 x1} : Agree 16 x0 (@advance x0 x1) := by
  unfold advance
  refine Agree.updMk ?_ (Nat.le_refl _) (flashUp_refl _) rfl rfl rfl ⟨rfl, rfl, rfl, rfl, rfl⟩ (fun a h => by cases a <;> first | exact absurd h (by decide) | exact rfl | exact ⟨rfl, rfl⟩)
  exact Agree.refl _ _

theorem noteDies_agree {x0} : Agree 2097152 x0 (@noteDies x0) := by
  unfold noteDies
  extract_lets +onlyGivenNames v0
  clear_value v0
  refine Agree.updMk ?_ (Nat.le_refl _) (flashUp_refl _) rfl rfl rfl ⟨rfl, rfl, rfl, rfl, rfl⟩ (fun a h => by cases a <;> first | exact absurd h (by decide) | exact rfl | exact ⟨rfl, rfl⟩)
  exact Agree.refl _ _

theorem resetRegs_agree {s hit} : Agree 32 s (resetRegs s hit) := by
  unfold resetRegs
  exact Agree.updTab (Agree.refl _ _) (Nat.le_refl _) (flashUp_refl _) rfl rfl rfl
    (fun m => ⟨m.regs.filter _, fun e he => m.resets e (List.mem_filter.1 he).1, m.queues, m.fronds, m.slots, m.parts, m.ports⟩)
    (fun a h => by cases a <;> first | exact absurd h (by decide) | exact rfl | exact ⟨rfl, rfl⟩)

theorem zeroRange_agree {s k n} : Agree 768 s (zeroRange s k n) :=
  ⟨rfl, Nat.le_refl _, flashUp_refl _, fun m => ⟨filter_wf m.1, filter_wf m.2.1, filter_wf m.2.2⟩, (fun m => ⟨m.regs, m.resets, m.queues, m.fronds, m.slots, m.parts, m.ports⟩),
    fun a h => by cases a <;> first | exact absurd h (by decide) | exact rfl⟩

theorem setSlot_agree {s f k v} : Agree 8192 s (setSlot s f k v) :=
  modFrond_agree (fun _ _ h => tblSet_wf h)

theorem queueEvent_agree {x0 x1 x2 x3 x4} : Agree 5054496 x0 (@queueEvent x0 x1 x2 x3 x4) := by
  unfold queueEvent
  split
  · refine seqLogEvent_agree.after rfl ?_
    exact Agree.refl _ _
  · refine logEvent_agree.after rfl ?_
    exact Agree.refl _ _
  · refine logEvent_agree.after rfl ?_
    exact Agree.refl _ _
  · refine logEvent_agree.after rfl ?_
    exact Agree.refl _ _

theorem enterFaulted_agree {x0 x1 x2} : Agree 5075744 x0 (@enterFaulted x0 x1 x2) := by
  unfold enterFaulted
  extract_lets +onlyGivenNames v0
  have hv0 : Agree 5075744 x0 v0 := by
    unfold v0
    refine modPart_agree.after rfl ?_
    refine setPartState_agree.after rfl ?_
    exact Agree.refl _ _
  clear_value v0
  refine raiseCause_agree.after rfl ?_
  refine abortIssued_agree.after rfl ?_
  assumption

theorem concludeEntry_agree {x0 x1 x2} : Agree 5075744 x0 (@concludeEntry x0 x1 x2) := by
  unfold concludeEntry
  extract_lets +onlyGivenNames v0
  have hv0 : Agree 5075744 x0 v0 := by
    unfold v0
    refine finishEntry_agree.after rfl ?_
    exact Agree.refl _ _
  clear_value v0
  refine Agree.ite ?_ ?_
  · split
    · refine enterFaulted_agree.after rfl ?_
      assumption
    · assumption
  · assumption

theorem fetchEntry_agree {x0 x1 x2} : Agree 5055008 x0 (@fetchEntry x0 x1 x2) := by
  unfold fetchEntry
  refine Agree.ite ?_ ?_
  · refine readUnits_agree.after rfl ?_
    exact Agree.refl _ _
  · exact Agree.refl _ _

theorem wakeDie_agree {x0 x1} : Agree 2097152 x0 (@wakeDie x0 x1) := by
  unfold wakeDie
  refine Agree.updMk ?_ (Nat.le_refl _) (flashUp_refl _) rfl rfl rfl ⟨rfl, rfl, rfl, rfl, rfl⟩ (fun a h => by cases a <;> first | exact absurd h (by decide) | exact rfl | exact ⟨rfl, rfl⟩)
  exact Agree.refl _ _

theorem wakeFrond_agree {x0 x1} : Agree 2105376 x0 (@wakeFrond x0 x1) := by
  unfold wakeFrond
  refine wakeDie_agree.after rfl ?_
  refine bump_agree.after rfl ?_
  refine Agree.after (modFrond_agree (fun _ _ h => h)) rfl ?_
  exact Agree.refl _ _

theorem startTest_agree {x0 x1} : Agree 2630432 x0 (@startTest x0 x1) := by
  unfold startTest
  extract_lets +onlyGivenNames v0
  clear_value v0
  extract_lets +onlyGivenNames v1
  have hv1 : Agree 2630432 x0 v1 := by
    unfold v1
    refine Agree.updMk ?_ (Nat.le_refl _) (flashUp_refl _) rfl rfl rfl ⟨rfl, rfl, rfl, rfl, rfl⟩ (fun a h => by cases a <;> first | exact absurd h (by decide) | exact rfl | exact ⟨rfl, rfl⟩)
    exact Agree.refl _ _
  clear_value v1
  refine Agree.ite ?_ ?_
  · split
    · extract_lets +onlyGivenNames v2
      have hv2 : Agree 2630432 x0 v2 := by
        unfold v2
        refine Agree.ite ?_ ?_
        · refine wakeFrond_agree.after rfl ?_
          assumption
        · refine Agree.after (modFrond_agree (fun _ _ h => h)) rfl ?_
          assumption
      clear_value v2
      refine Agree.after (modFrond_agree (fun _ _ _ => nil_wf)) rfl ?_
      refine zeroRange_agree.after rfl ?_
      assumption
    · refine wakeDie_agree.after rfl ?_
      assumption
  · refine zeroRange_agree.after rfl ?_
    assumption

end Sys2Proof.Laws
end

