-- ==== Sys2Proof/Laws/AgreeSecure.lean ====
section
/-! SUPPORT. What the operations of Machine/Secure.lean leave alone: for each, the areas it may change, as the bits of a mask in
the numbering of `Area.idx`. -/

namespace Sys2Proof.Laws

open Sys2Proof Sys2Proof.Machine Sys2Proof.Safety Sys2Proof.Frame

theorem raiseCounter_agree {s k v} : Agree 5046304 s (raiseCounter s k v) := by
  unfold raiseCounter
  extract_lets +onlyGivenNames old
  split
  · exact Agree.refl _ _
  · rename_i hv
    extract_lets +onlyGivenNames s1
    have h1 : Agree 5046304 s s1 := logEvent_agree.mono rfl
    have e1 : s1.flash.imageCtr = s.flash.imageCtr ∧ s1.flash.fwCtr = s.flash.fwCtr := by
      unfold s1
      exact logEvent_ctrs
    split
    · rename_i hk
      have hv' : s.flash.imageCtr ≤ v := by simp only [old, hk, if_true] at hv; omega
      exact setF_agree.after rfl (Agree.updMk h1 (Nat.le_refl _)
        ⟨e1.1 ▸ hv', Nat.le_refl _, Nat.le_refl _, Nat.le_refl _, Nat.le_refl _, Nat.le_refl _, Nat.le_refl _⟩ rfl rfl rfl ⟨rfl, rfl, rfl, rfl, rfl⟩
        (fun a h => by cases a <;> first | exact absurd h (by decide) | exact rfl | exact ⟨rfl, rfl⟩))
    · rename_i hk
      have hv' : s.flash.fwCtr ≤ v := by simp only [old, hk, if_false] at hv; omega
      exact setF_agree.after rfl (Agree.updMk h1 (Nat.le_refl _)
        ⟨Nat.le_refl _, e1.2 ▸ hv', Nat.le_refl _, Nat.le_refl _, Nat.le_refl _, Nat.le_refl _, Nat.le_refl _⟩ rfl rfl rfl ⟨rfl, rfl, rfl, rfl, rfl⟩
        (fun a h => by cases a <;> first | exact absurd h (by decide) | exact rfl | exact ⟨rfl, rfl⟩))

theorem sigFail_agree {x0 x1} : Agree 5046304 x0 (@sigFail x0 x1) := by
  unfold sigFail
  refine raiseCause_agree.after rfl ?_
  refine logEvent_agree.after rfl ?_
  exact Agree.refl _ _

theorem showSecurity_agree {x0} : Agree 32 x0 (@showSecurity x0) := by
  unfold showSecurity
  extract_lets +onlyGivenNames v0
  have hv0 : Agree 32 x0 v0 := by
    unfold v0
    refine setF_agree.after rfl ?_
    refine setF_agree.after rfl ?_
    refine setF_agree.after rfl ?_
    exact Agree.refl _ _
  clear_value v0
  extract_lets +onlyGivenNames v1
  have hv1 : Agree 32 x0 v1 := by
    unfold v1
    refine setF_agree.after rfl ?_
    refine setF_agree.after rfl ?_
    assumption
  clear_value v1
  extract_lets +onlyGivenNames v2
  have hv2 : Agree 32 x0 v2 := by
    unfold v2
    refine setF_agree.after rfl ?_
    refine setF_agree.after rfl ?_
    assumption
  clear_value v2
  refine setF_agree.after rfl ?_
  assumption

end Sys2Proof.Laws
end

