-- ==== Sys2Proof/Laws/AgreeDesc.lean ====
section
/-! SUPPORT. What the operations of Machine/Desc.lean leave alone: for each, the areas it may change, as the bits of a mask in
the numbering of `Area.idx`. -/

namespace Sys2Proof.Laws

open Sys2Proof Sys2Proof.Machine Sys2Proof.Safety Sys2Proof.Frame

theorem readDescs_agree {x0 x1 x2} : Agree 5055008 x0 (@readDescs x0 x1 x2) := by
  unfold readDescs
  refine readUnits_agree.after rfl ?_
  exact Agree.refl _ _

end Sys2Proof.Laws
end

