-- ==== Sys2Proof/Laws/AgreeIssue.lean ====
section
/-! SUPPORT. What the operations of Machine/Issue.lean leave alone: for each, the areas it may change, as the bits of a mask in
the numbering of `Area.idx`. -/

namespace Sys2Proof.Laws

open Sys2Proof Sys2Proof.Machine Sys2Proof.Safety Sys2Proof.Frame

theorem keepCmd_agree {x0 x1 x2 x3 x4 x5} : Agree 16384 x0 (@keepCmd x0 x1 x2 x3 x4 x5) := by
  unfold keepCmd
  refine modPart_agree.after rfl ?_
  exact Agree.refl _ _

theorem Verdict_ok_agree {x0} : VAgree 0 x0 (@Verdict.ok x0) := by
  unfold Verdict.ok
  show Agree 0 x0 _
  exact Agree.refl _ _

theorem Verdict_poisoned_agree {x0 x1 x2} : VAgree 0 x0 (@Verdict.poisoned x0 x1 x2) := by
  unfold Verdict.poisoned
  show Agree 0 x0 _
  exact Agree.refl _ _

theorem checkSlots_agree {x0 x1} : Agree 9248 x0 (@checkSlots x0 x1) := by
  unfold checkSlots
  refine Agree.foldl (fun a0 b1 h2 => ?_) ?_
  · extract_lets +onlyGivenNames v3
    refine Agree.ite ?_ ?_
    · assumption
    · extract_lets +onlyGivenNames v4
      have hv4 : Agree 9248 x0 v4 := by
        unfold v4
        refine Agree.updMk ?_ (Nat.le_refl _) (flashUp_refl _) rfl rfl rfl ⟨rfl, rfl, rfl, rfl, rfl⟩ (fun a h => by cases a <;> first | exact absurd h (by decide) | exact rfl | exact ⟨rfl, rfl⟩)
        assumption
      clear_value v4
      refine Agree.ite ?_ ?_
      · refine bump_agree.after rfl ?_
        assumption
      · refine bump_agree.after rfl ?_
        refine setSlot_agree.after rfl ?_
        assumption
  · exact Agree.refl _ _

theorem haltAtBp_agree {x0 x1 x2} : Agree 1048576 x0 (@haltAtBp x0 x1 x2) := by
  unfold haltAtBp
  refine Agree.updMk ?_ (Nat.le_refl _) (flashUp_refl _) rfl rfl rfl ⟨rfl, rfl, rfl, rfl, rfl⟩ (fun a h => by cases a <;> first | exact absurd h (by decide) | exact rfl | exact ⟨rfl, rfl⟩)
  exact Agree.refl _ _

theorem repairWords_agree {x0 x1} : Agree 5056544 x0 (@repairWords x0 x1) := by
  unfold repairWords
  split
  refine Agree.foldl (fun a0 b1 h2 => ?_) ?_
  · refine Agree.ite ?_ ?_
    · assumption
    · refine queueEvent_agree.after rfl ?_
      assumption
  · refine Agree.updMk ?_ (Nat.le_refl _) (flashUp_refl _) rfl rfl rfl ⟨rfl, rfl, rfl, rfl, rfl⟩ (fun a h => by cases a <;> first | exact absurd h (by decide) | exact rfl | exact ⟨rfl, rfl⟩)
    exact Agree.refl _ _

theorem countOutcome_agree {x0 x1 x2 x3 x4} : Agree 32 x0 (@countOutcome x0 x1 x2 x3 x4) := by
  unfold countOutcome
  split
  · extract_lets +onlyGivenNames v0
    have hv0 : Agree 32 x0 v0 := by
      unfold v0
      refine Agree.ite ?_ ?_
      · refine bump_agree.after rfl ?_
        exact Agree.refl _ _
      · exact Agree.refl _ _
    clear_value v0
    extract_lets +onlyGivenNames v1
    have hv1 : Agree 32 x0 v1 := by
      unfold v1
      refine Agree.ite ?_ ?_
      · refine bump_agree.after rfl ?_
        assumption
      · assumption
    clear_value v1
    refine Agree.ite ?_ ?_
    · refine bump_agree.after rfl ?_
      assumption
    · assumption
  · refine Agree.ite ?_ ?_
    · refine bump_agree.after rfl ?_
      exact Agree.refl _ _
    · exact Agree.refl _ _
  · exact Agree.refl _ _

theorem pairIssued_agree {x0 x1} : Agree 1048576 x0 (@pairIssued x0 x1) := by
  unfold pairIssued
  refine Agree.updMk ?_ (Nat.le_refl _) (flashUp_refl _) rfl rfl rfl ⟨rfl, rfl, rfl, rfl, rfl⟩ (fun a h => by cases a <;> first | exact absurd h (by decide) | exact rfl | exact ⟨rfl, rfl⟩)
  exact Agree.refl _ _

theorem markIssued_agree {x0 x1 x2} : Agree 1052672 x0 (@markIssued x0 x1 x2) := by
  unfold markIssued
  refine modQ_agree.after rfl ?_
  refine pairIssued_agree.after rfl ?_
  exact Agree.refl _ _

theorem wakeFor_agree {x0 x1} : Agree 524320 x0 (@wakeFor x0 x1) := by
  unfold wakeFor
  refine Agree.ite ?_ ?_
  · refine wakeLichen_agree.after rfl ?_
    exact Agree.refl _ _
  · exact Agree.refl _ _

theorem conclude_agree {C s t q n e r v} (hC : 6124320 ||| C = C) (h : Agree C s t) (hv : VAgree C s v) :
    Agree C s (conclude t q n e r v) := by
  cases v with
  | wait => exact h
  | reject st d =>
    exact concludeEntry_agree.after (or_sub rfl hC) (countOutcome_agree.after (or_sub rfl hC)
      (markIssued_agree.after (or_sub rfl hC) h))
  | effect s1 st d c w =>
    unfold conclude
    exact modQ_agree.after (or_sub rfl hC) (wakeFor_agree.after (or_sub rfl hC) (countOutcome_agree.after (or_sub rfl hC)
      (markIssued_agree.after (or_sub rfl hC) hv)))

theorem issueReads_agree {x0 x1 x2} : Agree 5055008 x0 (@issueReads x0 x1 x2) := by
  unfold issueReads
  split
  · refine readDescs_agree.after rfl ?_
    exact Agree.refl _ _
  · exact Agree.refl _ _

theorem runEntry_agree {C q n ops used body s} (hC : 6127392 ||| C = C)
    (hb : ∀ t e, VAgree C t (body t e)) : Agree C s (runEntry q n ops used body s) := by
  unfold runEntry
  extract_lets e resumed0 s00
  split
  · split
    · exact haltAtBp_agree.mono (or_sub rfl hC)
    · have h0 : Agree C s s00 := repairWords_agree.after (or_sub rfl hC) (fetchEntry_agree.mono (or_sub rfl hC))
      split
      · exact conclude_agree (or_sub rfl hC) h0 trivial
      · split
        · exact conclude_agree (or_sub rfl hC) h0 trivial
        · have h1 : Agree C s (issueReads s00 q e) := issueReads_agree.after (or_sub rfl hC) h0
          split
          · exact Agree.refl _ _
          · refine conclude_agree (or_sub rfl hC) h1 ?_
            have hv := hb (checkSlots (issueReads s00 q e) (entSlots q e)) e
            rename_i v hne
            revert hv
            cases body (checkSlots (issueReads s00 q e) (entSlots q e)) e with
            | wait => exact fun _ => trivial
            | reject => exact fun _ => trivial
            | effect => exact fun hv => Agree.trans (checkSlots_agree.after (or_sub rfl hC) h1) hv
  · exact Agree.refl _ _

end Sys2Proof.Laws
end

