-- ==== Sys2Proof/Laws/AgreeReach.lean ====
section
/-! SUPPORT. What the operations of Machine/Reach.lean leave alone: for each, the areas it may change, as the bits of a mask in
the numbering of `Area.idx`. -/

namespace Sys2Proof.Laws

open Sys2Proof Sys2Proof.Machine Sys2Proof.Safety Sys2Proof.Frame

theorem dropShadow_agree {x0 x1} : Agree 128 x0 (@dropShadow x0 x1) := by
  unfold dropShadow
  refine Agree.updMk ?_ (Nat.le_refl _) (flashUp_refl _) rfl rfl rfl ⟨rfl, rfl, rfl, rfl, rfl⟩ (fun a h => by cases a <;> first | exact absurd h (by decide) | exact rfl | exact ⟨rfl, rfl⟩)
  exact Agree.refl _ _

theorem writeFields_agree {x0 x1 x2} : Agree 32 x0 (@writeFields x0 x1 x2) := by
  unfold writeFields
  split
  · exact Agree.refl _ _
  · refine setReg_agree.after rfl ?_
    exact Agree.refl _ _

end Sys2Proof.Laws
end

