-- ==== Sys2Proof/Laws/AgreeQueue.lean ====
section
/-! SUPPORT. What the operations of Machine/Queue.lean leave alone: for each, the areas it may change, as the bits of a mask in
the numbering of `Area.idx`. -/

namespace Sys2Proof.Laws

open Sys2Proof Sys2Proof.Machine Sys2Proof.Safety Sys2Proof.Frame

theorem switchCopy_agree {x0 x1 x2} : Agree 5071648 x0 (@switchCopy x0 x1 x2) := by
  unfold switchCopy
  extract_lets +onlyGivenNames v0
  clear_value v0
  extract_lets +onlyGivenNames v1
  clear_value v1
  split
  · refine Agree.ite ?_ ?_
    · refine setPart_agree.after rfl ?_
      refine writeSet_agree.after rfl ?_
      exact Agree.refl _ _
    · refine queueEvent_agree.after rfl ?_
      exact Agree.refl _ _
  · refine queueEvent_agree.after rfl ?_
    exact Agree.refl _ _

theorem fenceActions_agree {x0 x1 x2 x3} : Agree 5071648 x0 (@fenceActions x0 x1 x2 x3) := by
  unfold fenceActions
  extract_lets +onlyGivenNames v0
  have hv0 : Agree 5071648 x0 v0 := by
    unfold v0
    refine Agree.ite ?_ ?_
    · refine modPart_agree.after rfl ?_
      exact Agree.refl _ _
    · exact Agree.refl _ _
  clear_value v0
  refine Agree.ite ?_ ?_
  · refine switchCopy_agree.after rfl ?_
    assumption
  · assumption

theorem writeTail_agree {x0 x1 x2 x3} : Agree 4263968 x0 (@writeTail x0 x1 x2 x3) := by
  unfold writeTail
  extract_lets +onlyGivenNames v0
  clear_value v0
  extract_lets +onlyGivenNames v1
  clear_value v1
  refine Agree.ite ?_ ?_
  · refine accessError_agree.after rfl ?_
    exact Agree.refl _ _
  · refine setQ_agree.after rfl ?_
    exact Agree.refl _ _

theorem resumeQueue_agree {x0 x1 x2} : Agree 4263968 x0 (@resumeQueue x0 x1 x2) := by
  unfold resumeQueue
  extract_lets +onlyGivenNames v0
  clear_value v0
  split
  · refine Agree.ite ?_ ?_
    · refine setQ_agree.after rfl ?_
      exact Agree.refl _ _
    · refine accessError_agree.after rfl ?_
      exact Agree.refl _ _
  · refine accessError_agree.after rfl ?_
    exact Agree.refl _ _

theorem skipQueue_agree {x0 x1 x2} : Agree 5059360 x0 (@skipQueue x0 x1 x2) := by
  unfold skipQueue
  extract_lets +onlyGivenNames v0
  clear_value v0
  split
  · refine Agree.ite ?_ ?_
    · extract_lets +onlyGivenNames v1
      have hv1 : Agree 5059360 x0 v1 := by
        unfold v1
        refine writeRecord_agree.after rfl ?_
        refine setQ_agree.after rfl ?_
        exact Agree.refl _ _
      clear_value v1
      refine Agree.ite ?_ ?_
      · refine signalMark_agree.after rfl ?_
        assumption
      · assumption
    · refine accessError_agree.after rfl ?_
      exact Agree.refl _ _
  · refine accessError_agree.after rfl ?_
    exact Agree.refl _ _

theorem nopBody_agree {x0 x1} : VAgree 0 x0 (@nopBody x0 x1) := by
  unfold nopBody
  extract_lets +onlyGivenNames v0
  clear_value v0
  refine VAgree.ite ?_ ?_
  · show Agree 0 x0 _
    exact Agree.refl _ _
  · exact True.intro

theorem execNop_agree {x0 x1 x2 t} (h : @execNop x0 x1 x2 = .next t) : Agree 6127392 x2 t := by
  unfold execNop at h
  cases h
  refine runEntry_agree rfl (fun s0 e1 => ?_)
  refine nopBody_agree.vafter rfl ?_
  exact Agree.refl _ _

theorem fenceBody_agree {x0 x1} : VAgree 0 x0 (@fenceBody x0 x1) := by
  unfold fenceBody
  refine VAgree.ite ?_ ?_
  · exact True.intro
  · show Agree 0 x0 _
    exact Agree.refl _ _

theorem execFence_agree {x0 x1 x2 t} (h : @execFence x0 x1 x2 = .next t) : Agree 6127392 x2 t := by
  unfold execFence at h
  cases h
  refine runEntry_agree rfl (fun s0 e1 => ?_)
  refine fenceBody_agree.vafter rfl ?_
  exact Agree.refl _ _

theorem execTail_agree {x0 x1 x2 x3 x4 t} (h : @execTail x0 x1 x2 x3 x4 = .next t) : Agree 4264096 x4 t := by
  unfold execTail at h
  cases h
  unfold touch
  unfold touchAt
  refine Agree.ite ?_ ?_
  · exact Agree.refl _ _
  · extract_lets +onlyGivenNames v0
    have hv0 : Agree 4264096 x4 v0 := by
      unfold v0
      refine dropShadow_agree.after rfl ?_
      exact Agree.refl _ _
    clear_value v0
    refine Agree.ite ?_ ?_
    · refine accessError_agree.after rfl ?_
      assumption
    · refine Agree.ite ?_ ?_
      · refine accessError_agree.after rfl ?_
        assumption
      · dsimp -zeta only
        split
        · refine accessError_agree.after rfl ?_
          assumption
        · refine writeTail_agree.after rfl ?_
          assumption

theorem execResume_agree {x0 x1 x2 t} (h : @execResume x0 x1 x2 = .next t) : Agree 4264096 x2 t := by
  unfold execResume at h
  cases h
  unfold touch
  unfold touchAt
  refine Agree.ite ?_ ?_
  · exact Agree.refl _ _
  · extract_lets +onlyGivenNames v0
    have hv0 : Agree 4264096 x2 v0 := by
      unfold v0
      refine dropShadow_agree.after rfl ?_
      exact Agree.refl _ _
    clear_value v0
    refine Agree.ite ?_ ?_
    · refine accessError_agree.after rfl ?_
      assumption
    · refine Agree.ite ?_ ?_
      · refine accessError_agree.after rfl ?_
        assumption
      · dsimp -zeta only
        refine resumeQueue_agree.after rfl ?_
        assumption

theorem execSkip_agree {x0 x1 x2 t} (h : @execSkip x0 x1 x2 = .next t) : Agree 5059488 x2 t := by
  unfold execSkip at h
  cases h
  unfold touch
  unfold touchAt
  refine Agree.ite ?_ ?_
  · exact Agree.refl _ _
  · extract_lets +onlyGivenNames v0
    have hv0 : Agree 5059488 x2 v0 := by
      unfold v0
      refine dropShadow_agree.after rfl ?_
      exact Agree.refl _ _
    clear_value v0
    refine Agree.ite ?_ ?_
    · refine accessError_agree.after rfl ?_
      assumption
    · refine Agree.ite ?_ ?_
      · refine accessError_agree.after rfl ?_
        assumption
      · dsimp -zeta only
        refine skipQueue_agree.after rfl ?_
        assumption

end Sys2Proof.Laws
end

