-- ==== Sys2Proof/Laws/AgreeRung.lean ====
section
/-! SUPPORT. What the operations of Machine/Rung.lean leave alone: for each, the areas it may change, as the bits of a mask in
the numbering of `Area.idx`. -/

namespace Sys2Proof.Laws

open Sys2Proof Sys2Proof.Machine Sys2Proof.Safety Sys2Proof.Frame

theorem allocReloc_agree {x0 x1 x2 x3 x4 x5} : Agree 16384 x0 (@allocReloc x0 x1 x2 x3 x4 x5) := by
  unfold allocReloc
  extract_lets +onlyGivenNames v0
  clear_value v0
  extract_lets +onlyGivenNames v1
  clear_value v1
  extract_lets +onlyGivenNames v2
  clear_value v2
  extract_lets +onlyGivenNames v3
  clear_value v3
  extract_lets +onlyGivenNames v4
  clear_value v4
  split
  extract_lets +onlyGivenNames v5
  clear_value v5
  extract_lets +onlyGivenNames v6
  clear_value v6
  extract_lets +onlyGivenNames v7
  clear_value v7
  extract_lets +onlyGivenNames v8
  clear_value v8
  extract_lets +onlyGivenNames v9
  clear_value v9
  extract_lets +onlyGivenNames v10
  clear_value v10
  extract_lets +onlyGivenNames v11
  clear_value v11
  refine modPart_agree.after rfl ?_
  exact Agree.refl _ _

theorem ensureReloc_agree {x0 x1 x2 x3 x4 x5} : Agree 16384 x0 (@ensureReloc x0 x1 x2 x3 x4 x5) := by
  unfold ensureReloc
  split
  · refine Agree.ite ?_ ?_
    · refine modPart_agree.after rfl ?_
      exact Agree.refl _ _
    · refine allocReloc_agree.after rfl ?_
      exact Agree.refl _ _
  · refine allocReloc_agree.after rfl ?_
    exact Agree.refl _ _

end Sys2Proof.Laws
end

