-- ==== Sys2Proof/Laws/AgreeStore.lean ====
section
/-! SUPPORT. What the operations of Machine/Store.lean leave alone: for each, the areas it may change, as the bits of a mask in
the numbering of `Area.idx`. -/

namespace Sys2Proof.Laws

open Sys2Proof Sys2Proof.Machine Sys2Proof.Safety Sys2Proof.Frame

theorem bumpQuant_agree {x0 x1 x2} : Agree 32 x0 (@bumpQuant x0 x1 x2) := by
  unfold bumpQuant
  extract_lets +onlyGivenNames v0
  have hv0 : Agree 32 x0 v0 := by
    unfold v0
    refine bump_agree.after rfl ?_
    refine bump_agree.after rfl ?_
    exact Agree.refl _ _
  clear_value v0
  extract_lets +onlyGivenNames v1
  have hv1 : Agree 32 x0 v1 := by
    unfold v1
    refine bump_agree.after rfl ?_
    refine bump_agree.after rfl ?_
    assumption
  clear_value v1
  extract_lets +onlyGivenNames v2
  have hv2 : Agree 32 x0 v2 := by
    unfold v2
    refine bump_agree.after rfl ?_
    refine bump_agree.after rfl ?_
    assumption
  clear_value v2
  refine bump_agree.after rfl ?_
  refine bump_agree.after rfl ?_
  refine bump_agree.after rfl ?_
  assumption

theorem commitWrites_agree {x0 x1 x2 x3} : Agree 5055264 x0 (@commitWrites x0 x1 x2 x3) := by
  unfold commitWrites
  split
  refine bump_agree.after rfl ?_
  refine Agree.ofPair (by assumption) ?_
  refine writeSet_agree.after rfl ?_
  exact Agree.refl _ _

theorem noteAmax_agree {x0 x1 x2 x3 x4} : Agree 16384 x0 (@noteAmax x0 x1 x2 x3 x4) := by
  unfold noteAmax
  refine Agree.ite ?_ ?_
  · exact Agree.refl _ _
  · refine modPart_agree.after rfl ?_
    exact Agree.refl _ _

theorem noteStorm_agree {x0 x1 x2 x3} : Agree 16384 x0 (@noteStorm x0 x1 x2 x3) := by
  unfold noteStorm
  extract_lets +onlyGivenNames v0
  clear_value v0
  refine Agree.ite ?_ ?_
  · refine setPart_agree.after rfl ?_
    exact Agree.refl _ _
  · exact Agree.refl _ _

theorem recordJit_agree {x0 x1 x2 x3 x4} : Agree 16384 x0 (@recordJit x0 x1 x2 x3 x4) := by
  unfold recordJit
  refine modPart_agree.after rfl ?_
  exact Agree.refl _ _

theorem noteCounts_agree {x0 x1 x2 x3 x4} : Agree 16384 x0 (@noteCounts x0 x1 x2 x3 x4) := by
  unfold noteCounts
  refine Agree.ite ?_ ?_
  · exact Agree.refl _ _
  · extract_lets +onlyGivenNames v0
    clear_value v0
    extract_lets +onlyGivenNames v1
    clear_value v1
    extract_lets +onlyGivenNames v2
    clear_value v2
    refine setPart_agree.after rfl ?_
    exact Agree.refl _ _

theorem stageJit_agree {x0 x1 x2 x3} : Agree 5055264 x0 (@stageJit x0 x1 x2 x3).1 := by
  unfold stageJit
  extract_lets +onlyGivenNames v0
  clear_value v0
  refine Agree.iteFst ?_ ?_
  · extract_lets +onlyGivenNames v1
    clear_value v1
    extract_lets +onlyGivenNames v2
    clear_value v2
    extract_lets +onlyGivenNames v3
    have hv3 : Agree 5055264 x0 v3 := by
      unfold v3
      refine writeSet_agree.after rfl ?_
      exact Agree.refl _ _
    clear_value v3
    dsimp only
    refine readUnits_agree.after rfl ?_
    assumption
  · dsimp only
    refine queueEvent_agree.after rfl ?_
    refine bump_agree.after rfl ?_
    refine readUnits_agree.after rfl ?_
    exact Agree.refl _ _

theorem keepBias_agree {x0 x1 x2} : Agree 16384 x0 (@keepBias x0 x1 x2) := by
  unfold keepBias
  refine modPart_agree.after rfl ?_
  exact Agree.refl _ _

theorem quantLines_agree {x0 x1 x2 x3 x4} : Agree 5071648 x0 (@quantLines x0 x1 x2 x3 x4).1 := by
  unfold quantLines
  extract_lets +onlyGivenNames v0
  clear_value v0
  split
  extract_lets +onlyGivenNames v1
  clear_value v1
  split
  split
  extract_lets +onlyGivenNames v2
  clear_value v2
  split
  · split
    · dsimp only
      exact Agree.refl _ _
    · extract_lets +onlyGivenNames v3
      clear_value v3
      extract_lets +onlyGivenNames v4
      clear_value v4
      dsimp only
      refine bumpQuant_agree.after rfl ?_
      exact Agree.refl _ _
  · refine Agree.iteFst ?_ ?_
    · extract_lets +onlyGivenNames v5
      have hv5 : Agree 5071648 x0 v5 := by
        unfold v5
        refine Agree.ite ?_ ?_
        · refine ensureReloc_agree.after rfl ?_
          exact Agree.refl _ _
        · exact Agree.refl _ _
      clear_value v5
      extract_lets +onlyGivenNames v6
      clear_value v6
      extract_lets +onlyGivenNames v7
      have hv7 : Agree 5071648 x0 v7 := by
        unfold v7
        refine bump_agree.after rfl ?_
        assumption
      clear_value v7
      dsimp only
      refine noteStorm_agree.after rfl ?_
      refine noteCounts_agree.after rfl ?_
      refine noteAmax_agree.after rfl ?_
      assumption
    · split
      · dsimp only
        exact Agree.refl _ _
      · split
        split
        extract_lets +onlyGivenNames v8
        have hv8 : Agree 5071648 x0 v8 := by
          unfold v8
          refine Agree.ite ?_ ?_
          · refine ensureReloc_agree.after rfl ?_
            refine Agree.ofPair (by assumption) ?_
            refine Agree.iteFst ?_ ?_
            · refine stageJit_agree.after rfl ?_
              exact Agree.refl _ _
            · dsimp only
              exact Agree.refl _ _
          · refine modPart_agree.after rfl ?_
            refine Agree.ofPair (by assumption) ?_
            refine Agree.iteFst ?_ ?_
            · refine stageJit_agree.after rfl ?_
              exact Agree.refl _ _
            · dsimp only
              exact Agree.refl _ _
        clear_value v8
        extract_lets +onlyGivenNames v9
        clear_value v9
        extract_lets +onlyGivenNames v10
        clear_value v10
        extract_lets +onlyGivenNames v11
        clear_value v11
        extract_lets +onlyGivenNames v12
        clear_value v12
        extract_lets +onlyGivenNames v13
        clear_value v13
        extract_lets +onlyGivenNames v14
        clear_value v14
        extract_lets +onlyGivenNames v15
        have hv15 : Agree 5071648 x0 v15 := by
          unfold v15
          refine Agree.ite ?_ ?_
          · refine keepBias_agree.after rfl ?_
            assumption
          · assumption
        clear_value v15
        extract_lets +onlyGivenNames v16
        have hv16 : Agree 5071648 x0 v16 := by
          unfold v16
          refine Agree.ite ?_ ?_
          · refine recordJit_agree.after rfl ?_
            assumption
          · assumption
        clear_value v16
        extract_lets +onlyGivenNames v17
        have hv17 : Agree 5071648 x0 v17 := by
          unfold v17
          refine noteCounts_agree.after rfl ?_
          refine noteAmax_agree.after rfl ?_
          refine bumpQuant_agree.after rfl ?_
          assumption
        clear_value v17
        dsimp only
        refine noteStorm_agree.after rfl ?_
        assumption

end Sys2Proof.Laws
end

