-- ==== Sys2Proof/Laws/AgreeMatrix.lean ====
section
/-! SUPPORT. What the operations of Machine/Matrix.lean leave alone: for each, the areas it may change, as the bits of a mask in
the numbering of `Area.idx`. -/

namespace Sys2Proof.Laws

open Sys2Proof Sys2Proof.Machine Sys2Proof.Safety Sys2Proof.Frame

theorem keep_agree {C s c v} (hC : 16384 ||| C = C) (h : VAgree C s v) : VAgree C s (v.keep c) := by
  cases v with
  | effect => exact keepCmd_agree.after hC h
  | _ => trivial

theorem bumpDot_agree {x0 x1 x2} : Agree 32 x0 (@bumpDot x0 x1 x2) := by
  unfold bumpDot
  extract_lets +onlyGivenNames v0
  have hv0 : Agree 32 x0 v0 := by
    unfold v0
    refine bump_agree.after rfl ?_
    refine bump_agree.after rfl ?_
    exact Agree.refl _ _
  clear_value v0
  refine bump_agree.after rfl ?_
  refine bump_agree.after rfl ?_
  assumption

theorem bumpRead_agree {x0 x1 x2 x3} : Agree 32 x0 (@bumpRead x0 x1 x2 x3) := by
  unfold bumpRead
  extract_lets +onlyGivenNames v0
  have hv0 : Agree 32 x0 v0 := by
    unfold v0
    refine bump_agree.after rfl ?_
    exact Agree.refl _ _
  clear_value v0
  refine bump_agree.after rfl ?_
  assumption

theorem matmulBody_agree {x0 x1 x2} : VAgree 5056032 x1 (@matmulBody x0 x1 x2) := by
  unfold matmulBody
  extract_lets +onlyGivenNames v0
  clear_value v0
  extract_lets +onlyGivenNames v1
  clear_value v1
  extract_lets +onlyGivenNames v2
  clear_value v2
  extract_lets +onlyGivenNames v3
  clear_value v3
  split
  · exact True.intro
  · refine VAgree.ite ?_ ?_
    · exact True.intro
    · refine VAgree.ite ?_ ?_
      · show Agree 5056032 x1 _
        exact Agree.refl _ _
      · extract_lets +onlyGivenNames v4
        clear_value v4
        extract_lets +onlyGivenNames v5
        clear_value v5
        split
        extract_lets +onlyGivenNames v6
        clear_value v6
        extract_lets +onlyGivenNames v7
        clear_value v7
        extract_lets +onlyGivenNames v8
        clear_value v8
        extract_lets +onlyGivenNames v9
        clear_value v9
        extract_lets +onlyGivenNames v10
        clear_value v10
        extract_lets +onlyGivenNames v11
        clear_value v11
        extract_lets +onlyGivenNames v12
        clear_value v12
        extract_lets +onlyGivenNames v13
        clear_value v13
        extract_lets +onlyGivenNames v14
        clear_value v14
        extract_lets +onlyGivenNames v15
        clear_value v15
        refine VAgree.ite ?_ ?_
        · exact True.intro
        · refine VAgree.ite ?_ ?_
          · exact True.intro
          · refine VAgree.ite ?_ ?_
            · exact True.intro
            · split
              · exact True.intro
              · extract_lets +onlyGivenNames v16
                clear_value v16
                extract_lets +onlyGivenNames v17
                clear_value v17
                extract_lets +onlyGivenNames v18
                have hv18 : Agree 5056032 x1 v18 := by
                  unfold v18
                  refine readUnits_agree.after rfl ?_
                  exact Agree.refl _ _
                clear_value v18
                extract_lets +onlyGivenNames v19
                clear_value v19
                extract_lets +onlyGivenNames v20
                clear_value v20
                extract_lets +onlyGivenNames v21
                clear_value v21
                extract_lets +onlyGivenNames v22
                extract_lets +onlyGivenNames v23
                have hv23 : Agree 5056032 x1 v23 := by
                  unfold v23
                  refine Agree.ite ?_ ?_
                  · refine Agree.updMk ?_ (Nat.le_refl _) (flashUp_refl _) rfl rfl rfl ⟨rfl, rfl, rfl, rfl, rfl⟩ (fun a h => by cases a <;> first | exact absurd h (by decide) | exact rfl | exact ⟨rfl, rfl⟩)
                    assumption
                  · assumption
                clear_value v23
                extract_lets +onlyGivenNames v24
                have hv24 : Agree 5056032 x1 v24 := by
                  unfold v24
                  refine Agree.foldl (fun a25 b26 h27 => ?_) ?_
                  · unfold v22
                    extract_lets +onlyGivenNames v28
                    clear_value v28
                    extract_lets +onlyGivenNames v29
                    clear_value v29
                    refine setSlot_agree.after rfl ?_
                    assumption
                  · assumption
                clear_value v24
                extract_lets +onlyGivenNames v30
                have hv30 : Agree 5056032 x1 v30 := by
                  unfold v30
                  refine bumpRead_agree.after rfl ?_
                  refine bumpRead_agree.after rfl ?_
                  assumption
                clear_value v30
                extract_lets +onlyGivenNames v31
                have hv31 : Agree 5056032 x1 v31 := by
                  unfold v31
                  refine bumpDot_agree.after rfl ?_
                  assumption
                clear_value v31
                extract_lets +onlyGivenNames v32
                clear_value v32
                extract_lets +onlyGivenNames v33
                have hv33 : Agree 5056032 x1 v33 := by
                  unfold v33
                  refine bump_agree.after rfl ?_
                  refine bump_agree.after rfl ?_
                  assumption
                clear_value v33
                extract_lets +onlyGivenNames v34
                have hv34 : Agree 5056032 x1 v34 := by
                  unfold v34
                  refine bump_agree.after rfl ?_
                  refine bump_agree.after rfl ?_
                  assumption
                clear_value v34
                extract_lets +onlyGivenNames v35
                clear_value v35
                show Agree 5056032 x1 _
                assumption

theorem storeBody_agree {x0 x1 x2} : VAgree 5071648 x1 (@storeBody x0 x1 x2) := by
  unfold storeBody
  extract_lets +onlyGivenNames v0
  clear_value v0
  extract_lets +onlyGivenNames v1
  clear_value v1
  extract_lets +onlyGivenNames v2
  clear_value v2
  extract_lets +onlyGivenNames v3
  clear_value v3
  extract_lets +onlyGivenNames v4
  clear_value v4
  extract_lets +onlyGivenNames v5
  clear_value v5
  split
  · exact True.intro
  · extract_lets +onlyGivenNames v6
    clear_value v6
    extract_lets +onlyGivenNames v7
    clear_value v7
    refine VAgree.ite ?_ ?_
    · exact True.intro
    · refine VAgree.ite ?_ ?_
      · exact True.intro
      · refine VAgree.ite ?_ ?_
        · show Agree 5071648 x1 _
          exact Agree.refl _ _
        · refine VAgree.ite ?_ ?_
          · exact True.intro
          · split
            · exact True.intro
            · extract_lets +onlyGivenNames v8
              clear_value v8
              extract_lets +onlyGivenNames v9
              clear_value v9
              refine VAgree.ite ?_ ?_
              · exact True.intro
              · refine VAgree.ite ?_ ?_
                · exact True.intro
                · refine VAgree.ite ?_ ?_
                  · exact True.intro
                  · extract_lets +onlyGivenNames v10
                    clear_value v10
                    extract_lets +onlyGivenNames v11
                    have hv11 : Agree 5071648 x1 v11 := by
                      unfold v11
                      refine readUnits_agree.after rfl ?_
                      exact Agree.refl _ _
                    clear_value v11
                    extract_lets +onlyGivenNames v12
                    have hv12 : Agree 5071648 x1 v12 := by
                      unfold v12
                      refine Agree.ite ?_ ?_
                      · refine readUnits_agree.after rfl ?_
                        assumption
                      · assumption
                    clear_value v12
                    extract_lets +onlyGivenNames v13
                    split
                    extract_lets +onlyGivenNames v14
                    clear_value v14
                    extract_lets +onlyGivenNames v15
                    have hv15 : Agree 5071648 x1 v15 := by
                      unfold v15
                      refine bump_agree.after rfl ?_
                      refine Agree.ofPair (by assumption) ?_
                      refine Agree.foldlFst (fun a16 b17 h18 => ?_) ?_
                      · unfold v13
                        extract_lets +onlyGivenNames v19
                        clear_value v19
                        refine Agree.iteFst ?_ ?_
                        · split
                          dsimp only
                          refine commitWrites_agree.after rfl ?_
                          refine Agree.ofPair (by assumption) ?_
                          refine quantLines_agree.after rfl ?_
                          assumption
                        · extract_lets +onlyGivenNames v20
                          clear_value v20
                          dsimp only
                          refine bump_agree.after rfl ?_
                          refine commitWrites_agree.after rfl ?_
                          assumption
                      · assumption
                    clear_value v15
                    extract_lets +onlyGivenNames v21
                    have hv21 : Agree 5071648 x1 v21 := by
                      unfold v21
                      refine Agree.ite ?_ ?_
                      · assumption
                      · refine Agree.foldl (fun a22 b23 h24 => ?_) ?_
                        · refine setSlot_agree.after rfl ?_
                          assumption
                        · assumption
                    clear_value v21
                    show Agree 5071648 x1 _
                    assumption

theorem foldBody_agree {x0 x1 x2} : VAgree 8224 x1 (@foldBody x0 x1 x2) := by
  unfold foldBody
  extract_lets +onlyGivenNames v0
  clear_value v0
  refine VAgree.ite ?_ ?_
  · exact True.intro
  · refine VAgree.ite ?_ ?_
    · exact True.intro
    · extract_lets +onlyGivenNames v1
      clear_value v1
      extract_lets +onlyGivenNames v2
      clear_value v2
      extract_lets +onlyGivenNames v3
      clear_value v3
      extract_lets +onlyGivenNames v4
      clear_value v4
      refine VAgree.ite ?_ ?_
      · exact True.intro
      · split
        · exact True.intro
        · extract_lets +onlyGivenNames v5
          clear_value v5
          refine VAgree.ite ?_ ?_
          · exact True.intro
          · extract_lets +onlyGivenNames v6
            extract_lets +onlyGivenNames v7
            have hv7 : Agree 8224 x1 v7 := by
              unfold v7
              refine Agree.foldl (fun a8 b9 h10 => ?_) ?_
              · unfold v6
                extract_lets +onlyGivenNames v11
                clear_value v11
                extract_lets +onlyGivenNames v12
                clear_value v12
                extract_lets +onlyGivenNames v13
                clear_value v13
                extract_lets +onlyGivenNames v14
                clear_value v14
                extract_lets +onlyGivenNames v15
                clear_value v15
                extract_lets +onlyGivenNames v16
                have hv16 : Agree 8224 x1 v16 := by
                  unfold v16
                  refine Agree.foldl (fun a17 b18 h19 => ?_) ?_
                  · refine setSlot_agree.after rfl ?_
                    assumption
                  · assumption
                clear_value v16
                split
                · refine bump_agree.after rfl ?_
                  refine bump_agree.after rfl ?_
                  refine setSlot_agree.after rfl ?_
                  assumption
                · assumption
              · exact Agree.refl _ _
            clear_value v7
            extract_lets +onlyGivenNames v20
            clear_value v20
            extract_lets +onlyGivenNames v21
            clear_value v21
            extract_lets +onlyGivenNames v22
            clear_value v22
            show Agree 8224 x1 _
            refine bump_agree.after rfl ?_
            assumption

theorem sumBody_agree {x0 x1 x2} : VAgree 5055264 x1 (@sumBody x0 x1 x2) := by
  unfold sumBody
  extract_lets +onlyGivenNames v0
  clear_value v0
  refine VAgree.ite ?_ ?_
  · exact True.intro
  · extract_lets +onlyGivenNames v1
    clear_value v1
    extract_lets +onlyGivenNames v2
    clear_value v2
    extract_lets +onlyGivenNames v3
    clear_value v3
    extract_lets +onlyGivenNames v4
    clear_value v4
    extract_lets +onlyGivenNames v5
    clear_value v5
    split
    · exact True.intro
    · refine VAgree.ite ?_ ?_
      · exact True.intro
      · extract_lets +onlyGivenNames v6
        clear_value v6
        extract_lets +onlyGivenNames v7
        clear_value v7
        extract_lets +onlyGivenNames v8
        clear_value v8
        extract_lets +onlyGivenNames v9
        clear_value v9
        refine VAgree.ite ?_ ?_
        · exact True.intro
        · refine VAgree.ite ?_ ?_
          · show Agree 5055264 x1 _
            exact Agree.refl _ _
          · refine VAgree.ite ?_ ?_
            · exact True.intro
            · refine VAgree.ite ?_ ?_
              · exact True.intro
              · refine VAgree.ite ?_ ?_
                · exact True.intro
                · refine VAgree.ite ?_ ?_
                  · exact True.intro
                  · extract_lets +onlyGivenNames v10
                    clear_value v10
                    extract_lets +onlyGivenNames v11
                    clear_value v11
                    extract_lets +onlyGivenNames v12
                    clear_value v12
                    extract_lets +onlyGivenNames v13
                    clear_value v13
                    extract_lets +onlyGivenNames v14
                    have hv14 : Agree 5055264 x1 v14 := by
                      unfold v14
                      refine readUnits_agree.after rfl ?_
                      exact Agree.refl _ _
                    clear_value v14
                    extract_lets +onlyGivenNames v15
                    clear_value v15
                    extract_lets +onlyGivenNames v16
                    clear_value v16
                    extract_lets +onlyGivenNames v17
                    clear_value v17
                    extract_lets +onlyGivenNames v18
                    extract_lets +onlyGivenNames v19
                    have hv19 : Agree 5055264 x1 v19 := by
                      unfold v19
                      refine Agree.foldl (fun a20 b21 h22 => ?_) ?_
                      · unfold v18
                        refine bump_agree.after rfl ?_
                        assumption
                      · assumption
                    clear_value v19
                    extract_lets +onlyGivenNames v23
                    clear_value v23
                    extract_lets +onlyGivenNames v24
                    clear_value v24
                    split
                    extract_lets +onlyGivenNames v25
                    have hv25 : Agree 5055264 x1 v25 := by
                      unfold v25
                      refine bump_agree.after rfl ?_
                      refine bump_agree.after rfl ?_
                      refine Agree.ofPair (by assumption) ?_
                      refine writeSet_agree.after rfl ?_
                      assumption
                    clear_value v25
                    show Agree 5055264 x1 _
                    refine bump_agree.after rfl ?_
                    assumption

theorem mapSlots_wf {t : Tbl SlotSt} {g : Nat × SlotSt → Nat × SlotSt} (h : TblWf SlotSt.empty t) (hk : ∀ e, (g e).1 = e.1)
    (hg : ∀ e, e.2 ≠ SlotSt.empty → (g e).2 ≠ SlotSt.empty) : TblWf SlotSt.empty (t.map g) := by
  refine ⟨List.pairwise_map.2 (h.1.imp (fun {a b} hab => ?_)), fun e he => ?_⟩
  · rw [hk, hk]; exact hab
  · obtain ⟨x, hx, rfl⟩ := List.mem_map.1 he
    exact hg x (h.2 x hx)

theorem finishSlots_agree {s f n} : Agree 8192 s (finishSlots s f n) := by
  unfold finishSlots
  refine modFrond_agree (fun _ x h => mapSlots_wf h (fun e => ?_) (fun e he => ?_))
  · split
    · split <;> rfl
    · rfl
  · split
    · split
      · split <;> exact fun h => nomatch congrArg SlotSt.state h
      · exact he
    · exact he

theorem execMatmul_agree {x0 x1 x2 t} (h : @execMatmul x0 x1 x2 = .next t) : Agree 6127392 x2 t := by
  unfold execMatmul at h
  cases h
  refine runEntry_agree rfl (fun s0 e1 => ?_)
  refine keep_agree rfl ?_
  refine matmulBody_agree.vafter rfl ?_
  exact Agree.refl _ _

theorem execStoreTiles_agree {x0 x1 x2 x3 t} (h : @execStoreTiles x0 x1 x2 x3 = .next t) : Agree 6127392 x3 t := by
  unfold execStoreTiles at h
  cases h
  refine runEntry_agree rfl (fun s0 e1 => ?_)
  refine keep_agree rfl ?_
  refine storeBody_agree.vafter rfl ?_
  exact Agree.refl _ _

theorem execGatherAddFold_agree {x0 x1 x2 t} (h : @execGatherAddFold x0 x1 x2 = .next t) : Agree 6127392 x2 t := by
  unfold execGatherAddFold at h
  cases h
  refine runEntry_agree rfl (fun s0 e1 => ?_)
  refine keep_agree rfl ?_
  refine foldBody_agree.vafter rfl ?_
  exact Agree.refl _ _

theorem execGatherAddSum_agree {x0 x1 x2 t} (h : @execGatherAddSum x0 x1 x2 = .next t) : Agree 6127392 x2 t := by
  unfold execGatherAddSum at h
  cases h
  refine runEntry_agree rfl (fun s0 e1 => ?_)
  refine keep_agree rfl ?_
  refine sumBody_agree.vafter rfl ?_
  exact Agree.refl _ _

end Sys2Proof.Laws
end

