-- ==== Sys2Proof/Laws/AgreeLane.lean ====
section
/-! SUPPORT. What the operations of Machine/Lane.lean leave alone: for each, the areas it may change, as the bits of a mask in
the numbering of `Area.idx`. -/

namespace Sys2Proof.Laws

open Sys2Proof Sys2Proof.Machine Sys2Proof.Safety Sys2Proof.Frame

theorem stepBundle_agree {f x i} : Agree 5055008 x.1 (stepBundle f x i).1 := by
  obtain ⟨s, r⟩ := x
  unfold stepBundle
  dsimp -zeta only
  extract_lets +onlyGivenNames res fam
  clear_value fam
  generalize newReads r i.slot _ = y
  obtain ⟨r1, rsvd, bad⟩ := y
  dsimp -zeta only
  extract_lets +onlyGivenNames s1 chunksIn s2 s3 s4
  exact bump_agree.after rfl (bump_agree.after rfl (bump_agree.after rfl (bump_agree.after rfl (bump_agree.after rfl
    (readUnits_agree.mono rfl)))))

theorem runBundles_agree {f k x} : Agree 5055008 x.1 (runBundles f k x).1 := by
  induction k generalizing x with
  | zero => exact Agree.refl _ _
  | succ k ih =>
    unfold runBundles
    split
    · exact Agree.refl _ _
    · extract_lets y
      have hy : Agree 5055008 x.1 y.1 :=
        Agree.foldlFst (fun a b h => stepBundle_agree.after rfl h) (Agree.refl _ _)
      exact Agree.trans hy (ih (x := (y.1, nextBundle y.2)))

theorem runWhole_agree {f s r} : Agree 5055008 s (runWhole f s r).1 :=
  (runBundles_agree (x := (s, nextBundle r)))

theorem recordFault_agree {x0 x1 x2} : Agree 32 x0 (@recordFault x0 x1 x2) := by
  unfold recordFault
  extract_lets +onlyGivenNames v0
  clear_value v0
  refine Agree.ite ?_ ?_
  · refine setF_agree.after rfl ?_
    exact Agree.refl _ _
  · refine setReg_agree.after rfl ?_
    exact Agree.refl _ _

end Sys2Proof.Laws
end

