-- ==== Sys2Proof/Laws/AgreeVector.lean ====
section
/-! SUPPORT. What the operations of Machine/Vector.lean leave alone: for each, the areas it may change, as the bits of a mask in
the numbering of `Area.idx`. -/

namespace Sys2Proof.Laws

open Sys2Proof Sys2Proof.Machine Sys2Proof.Safety Sys2Proof.Frame

theorem settleRun_agree {x0 x1 x2 x3} : Agree 4096 x0 (@settleRun x0 x1 x2 x3) := by
  unfold settleRun
  refine modQ_agree.after rfl ?_
  exact Agree.refl _ _

theorem bumpRows_agree {x0 x1 x2} : Agree 32 x0 (@bumpRows x0 x1 x2) := by
  unfold bumpRows
  refine bump_agree.after rfl ?_
  refine bump_agree.after rfl ?_
  refine bump_agree.after rfl ?_
  exact Agree.refl _ _

theorem storeOutput_agree {x0 x1 x2 x3 x4} : Agree 5071648 x0 (@storeOutput x0 x1 x2 x3 x4) := by
  unfold storeOutput
  extract_lets +onlyGivenNames v0
  clear_value v0
  refine Agree.ite ?_ ?_
  · split
    refine commitWrites_agree.after rfl ?_
    refine Agree.ofPair (by assumption) ?_
    refine quantLines_agree.after rfl ?_
    exact Agree.refl _ _
  · refine commitWrites_agree.after rfl ?_
    exact Agree.refl _ _

theorem finishRun_agree {x0 x1 x2} : Agree 5071648 x0 (@finishRun x0 x1 x2).1 := by
  unfold finishRun
  extract_lets +onlyGivenNames v0
  clear_value v0
  extract_lets +onlyGivenNames v1
  extract_lets +onlyGivenNames v2
  have hv2 : Agree 5071648 x0 v2 := by
    unfold v2
    unfold v1
    split
    · refine storeOutput_agree.after rfl ?_
      split
      · refine storeOutput_agree.after rfl ?_
        exact Agree.refl _ _
      · exact Agree.refl _ _
    · split
      · refine storeOutput_agree.after rfl ?_
        exact Agree.refl _ _
      · exact Agree.refl _ _
  clear_value v2
  extract_lets +onlyGivenNames v3
  clear_value v3
  split
  · dsimp only
    refine recordFault_agree.after rfl ?_
    assumption
  · assumption

theorem vectorBody_agree {c whole s e} : VAgree 5071649 s (vectorBody c whole s e) := by
  unfold vectorBody
  extract_lets +onlyGivenNames hs ds named uses
  split
  · trivial
  · split
    · refine VAgree.ite trivial (VAgree.ite (show Agree _ _ _ from Agree.refl _ _) (VAgree.ite trivial (VAgree.ite trivial
        (VAgree.ite trivial (VAgree.ite trivial (VAgree.ite trivial ?_))))))
      extract_lets +onlyGivenNames r s0
      have h0 : Agree 5071649 s s0 :=
        Agree.updMk (Agree.refl _ _) (Nat.le_succ _) (flashUp_refl _) rfl rfl rfl ⟨rfl, rfl, rfl, rfl, rfl⟩
          (fun a h => by cases a <;> first | exact absurd h (by decide) | exact rfl | exact ⟨rfl, rfl⟩)
      clear_value s0 r
      refine VAgree.ite ?_ (show Agree 5071649 s _ from
        Agree.after (modFrond_agree (fun _ _ h => h)) rfl h0)
      have h1 : Agree 5071649 s (runWhole c.f s0 r).1 := runWhole_agree.after rfl h0
      generalize runWhole c.f s0 r = y at h1
      obtain ⟨s1, r1⟩ := y
      dsimp only at h1
      dsimp only
      have h2 : Agree 5071649 s (finishRun s1 c r1).1 := finishRun_agree.after rfl h1
      generalize finishRun s1 c r1 = z at h2
      obtain ⟨s2, st, bad⟩ := z
      exact h2
    · trivial

theorem countReads_agree {x0 x1 x2 x3} : Agree 32 x0 (@countReads x0 x1 x2 x3).1 := by
  unfold countReads
  extract_lets +onlyGivenNames v0
  clear_value v0
  extract_lets +onlyGivenNames v1
  clear_value v1
  extract_lets +onlyGivenNames v2
  have hv2 : Agree 32 x0 v2 := by
    unfold v2
    refine bump_agree.after rfl ?_
    exact Agree.refl _ _
  clear_value v2
  dsimp only
  refine bump_agree.after rfl ?_
  assumption

theorem softmaxBody_agree {x0 x1 x2} : VAgree 5071648 x1 (@softmaxBody x0 x1 x2) := by
  unfold softmaxBody
  extract_lets +onlyGivenNames v0
  clear_value v0
  extract_lets +onlyGivenNames v1
  clear_value v1
  extract_lets +onlyGivenNames v2
  clear_value v2
  extract_lets +onlyGivenNames v3
  clear_value v3
  extract_lets +onlyGivenNames v4
  clear_value v4
  extract_lets +onlyGivenNames v5
  clear_value v5
  extract_lets +onlyGivenNames v6
  clear_value v6
  extract_lets +onlyGivenNames v7
  clear_value v7
  extract_lets +onlyGivenNames v8
  clear_value v8
  extract_lets +onlyGivenNames v9
  clear_value v9
  extract_lets +onlyGivenNames v10
  clear_value v10
  extract_lets +onlyGivenNames v11
  clear_value v11
  split
  · exact True.intro
  · refine VAgree.ite ?_ ?_
    · exact True.intro
    · extract_lets +onlyGivenNames v12
      clear_value v12
      refine VAgree.ite ?_ ?_
      · exact True.intro
      · refine VAgree.ite ?_ ?_
        · exact True.intro
        · refine VAgree.ite ?_ ?_
          · exact True.intro
          · refine VAgree.ite ?_ ?_
            · show Agree 5071648 x1 _
              exact Agree.refl _ _
            · refine VAgree.ite ?_ ?_
              · exact True.intro
              · extract_lets +onlyGivenNames v13
                clear_value v13
                extract_lets +onlyGivenNames v14
                clear_value v14
                extract_lets +onlyGivenNames v15
                clear_value v15
                extract_lets +onlyGivenNames v16
                clear_value v16
                extract_lets +onlyGivenNames v17
                have hv17 : Agree 5071648 x1 v17 := by
                  unfold v17
                  refine readUnits_agree.after rfl ?_
                  exact Agree.refl _ _
                clear_value v17
                split
                extract_lets +onlyGivenNames v18
                have hv18 : Agree 5071648 x1 v18 := by
                  unfold v18
                  refine bumpRows_agree.after rfl ?_
                  refine Agree.ofPair (by assumption) ?_
                  refine countReads_agree.after rfl ?_
                  assumption
                clear_value v18
                extract_lets +onlyGivenNames v19
                clear_value v19
                extract_lets +onlyGivenNames v20
                clear_value v20
                extract_lets +onlyGivenNames v21
                have hv21 : Agree 5071648 x1 v21 := by
                  unfold v21
                  split
                  · refine Agree.ite ?_ ?_
                    · extract_lets +onlyGivenNames v22
                      clear_value v22
                      split
                      refine commitWrites_agree.after rfl ?_
                      refine Agree.ofPair (by assumption) ?_
                      refine quantLines_agree.after rfl ?_
                      assumption
                    · refine commitWrites_agree.after rfl ?_
                      assumption
                  · assumption
                clear_value v21
                extract_lets +onlyGivenNames v23
                have hv23 : Agree 5071648 x1 v23 := by
                  unfold v23
                  split
                  · refine commitWrites_agree.after rfl ?_
                    assumption
                  · assumption
                clear_value v23
                extract_lets +onlyGivenNames v24
                clear_value v24
                extract_lets +onlyGivenNames v25
                clear_value v25
                extract_lets +onlyGivenNames v26
                clear_value v26
                extract_lets +onlyGivenNames v27
                have hv27 : Agree 5071648 x1 v27 := by
                  unfold v27
                  refine Agree.ite ?_ ?_
                  · assumption
                  · refine commitWrites_agree.after rfl ?_
                    assumption
                clear_value v27
                show Agree 5071648 x1 _
                refine bump_agree.after rfl ?_
                assumption

theorem sampleBody_agree {x0 x1 x2} : VAgree 5055264 x1 (@sampleBody x0 x1 x2) := by
  unfold sampleBody
  extract_lets +onlyGivenNames v0
  clear_value v0
  extract_lets +onlyGivenNames v1
  clear_value v1
  extract_lets +onlyGivenNames v2
  clear_value v2
  extract_lets +onlyGivenNames v3
  clear_value v3
  extract_lets +onlyGivenNames v4
  clear_value v4
  extract_lets +onlyGivenNames v5
  clear_value v5
  extract_lets +onlyGivenNames v6
  clear_value v6
  split
  · exact True.intro
  · refine VAgree.ite ?_ ?_
    · exact True.intro
    · extract_lets +onlyGivenNames v7
      clear_value v7
      extract_lets +onlyGivenNames v8
      clear_value v8
      extract_lets +onlyGivenNames v9
      clear_value v9
      extract_lets +onlyGivenNames v10
      clear_value v10
      refine VAgree.ite ?_ ?_
      · exact True.intro
      · refine VAgree.ite ?_ ?_
        · show Agree 5055264 x1 _
          exact Agree.refl _ _
        · refine VAgree.ite ?_ ?_
          · exact True.intro
          · extract_lets +onlyGivenNames v11
            clear_value v11
            extract_lets +onlyGivenNames v12
            clear_value v12
            extract_lets +onlyGivenNames v13
            have hv13 : Agree 5055264 x1 v13 := by
              unfold v13
              refine readUnits_agree.after rfl ?_
              exact Agree.refl _ _
            clear_value v13
            extract_lets +onlyGivenNames v14
            clear_value v14
            extract_lets +onlyGivenNames v15
            have hv15 : Agree 5055264 x1 v15 := by
              unfold v15
              refine bumpRows_agree.after rfl ?_
              assumption
            clear_value v15
            extract_lets +onlyGivenNames v16
            have hv16 : Agree 5055264 x1 v16 := by
              unfold v16
              refine bump_agree.after rfl ?_
              refine bump_agree.after rfl ?_
              refine bump_agree.after rfl ?_
              assumption
            clear_value v16
            extract_lets +onlyGivenNames v17
            have hv17 : Agree 5055264 x1 v17 := by
              unfold v17
              refine commitWrites_agree.after rfl ?_
              assumption
            clear_value v17
            show Agree 5055264 x1 _
            assumption

theorem execVectorRun_agree {x0 x1 x2 x3 x4 t} (h : @execVectorRun x0 x1 x2 x3 x4 = .next t) : Agree 6127393 x4 t := by
  unfold execVectorRun at h
  cases h
  refine runEntry_agree rfl (fun s0 e1 => ?_)
  refine keep_agree rfl ?_
  refine vectorBody_agree.vafter rfl ?_
  exact Agree.refl _ _

theorem execFusedSoftmax_agree {x0 x1 x2 x3 t} (h : @execFusedSoftmax x0 x1 x2 x3 = .next t) : Agree 6127392 x3 t := by
  unfold execFusedSoftmax at h
  cases h
  refine runEntry_agree rfl (fun s0 e1 => ?_)
  refine keep_agree rfl ?_
  refine softmaxBody_agree.vafter rfl ?_
  exact Agree.refl _ _

theorem execSample_agree {x0 x1 x2 t} (h : @execSample x0 x1 x2 = .next t) : Agree 6127392 x2 t := by
  unfold execSample at h
  cases h
  refine runEntry_agree rfl (fun s0 e1 => ?_)
  refine keep_agree rfl ?_
  refine sampleBody_agree.vafter rfl ?_
  exact Agree.refl _ _

theorem loadBody_agree {x0 x1 x2} : VAgree 5055008 x1 (@loadBody x0 x1 x2) := by
  unfold loadBody
  extract_lets +onlyGivenNames v0
  clear_value v0
  extract_lets +onlyGivenNames v1
  clear_value v1
  refine VAgree.ite ?_ ?_
  · exact True.intro
  · refine VAgree.ite ?_ ?_
    · exact True.intro
    · extract_lets +onlyGivenNames v2
      clear_value v2
      extract_lets +onlyGivenNames v3
      clear_value v3
      refine VAgree.ite ?_ ?_
      · exact True.intro
      · split
        · exact True.intro
        · extract_lets +onlyGivenNames v4
          clear_value v4
          extract_lets +onlyGivenNames v5
          clear_value v5
          extract_lets +onlyGivenNames v6
          clear_value v6
          refine VAgree.ite ?_ ?_
          · exact True.intro
          · extract_lets +onlyGivenNames v7
            clear_value v7
            extract_lets +onlyGivenNames v8
            have hv8 : Agree 5055008 x1 v8 := by
              unfold v8
              refine readUnits_agree.after rfl ?_
              exact Agree.refl _ _
            clear_value v8
            show Agree 5055008 x1 _
            refine Agree.after (modFrond_agree (fun _ _ h => h)) rfl ?_
            assumption

theorem execLoadProgram_agree {x0 x1 x2 t} (h : @execLoadProgram x0 x1 x2 = .next t) : Agree 6127392 x2 t := by
  unfold execLoadProgram at h
  cases h
  refine runEntry_agree rfl (fun s0 e1 => ?_)
  refine loadBody_agree.vafter rfl ?_
  exact Agree.refl _ _

/-- A pinnule instruction other than END changes registers, the run and what reads mark. -/
theorem stepLane_agree {op f s} (h : op ≠ 0x3F) : Agree 5055008 s (stepResident op f s) := by
  unfold stepResident
  split
  · exact Agree.refl _ _
  · rename_i r _
    split
    · exact Agree.refl _ _
    · rename_i i _
      refine Agree.ite (Agree.refl _ _) ?_
      rw [if_neg h]
      generalize hx : stepBundle f (s, r) i = x
      obtain ⟨s1, r1⟩ := x
      exact Agree.after (modFrond_agree (fun _ _ h => h)) rfl (Agree.ofPair hx ((stepBundle_agree (x := (s, r))).mono rfl))

theorem stepResident_agree {op f s} : Agree 5075744 s (stepResident op f s) := by
  unfold stepResident
  split
  · exact Agree.refl _ _
  · split
    · exact Agree.refl _ _
    · refine Agree.ite ?_ ?_
      · exact Agree.refl _ _
      · refine Agree.ite ?_ ?_
        · extract_lets +onlyGivenNames v0
          clear_value v0
          extract_lets +onlyGivenNames v1
          clear_value v1
          refine Agree.ite ?_ ?_
          · extract_lets +onlyGivenNames v2
            clear_value v2
            split
            refine settleRun_agree.after rfl ?_
            refine countOutcome_agree.after rfl ?_
            refine Agree.after (modFrond_agree (fun _ _ h => h)) rfl ?_
            refine Agree.ofPair (by assumption) ?_
            refine finishRun_agree.after rfl ?_
            exact Agree.refl _ _
          · refine Agree.after (modFrond_agree (fun _ _ h => h)) rfl ?_
            exact Agree.refl _ _
        · split
          refine Agree.after (modFrond_agree (fun _ _ h => h)) rfl ?_
          refine Agree.ofPair (by assumption) ?_
          refine stepBundle_agree.after rfl ?_
          dsimp only
          exact Agree.refl _ _

theorem execFadd_agree {f s t} (h : execFadd f s = .next t) : Agree 5055008 s t := by
  cases h
  exact stepLane_agree (by decide)

theorem execFsub_agree {f s t} (h : execFsub f s = .next t) : Agree 5055008 s t := by
  cases h
  exact stepLane_agree (by decide)

theorem execFmul_agree {f s t} (h : execFmul f s = .next t) : Agree 5055008 s t := by
  cases h
  exact stepLane_agree (by decide)

theorem execFfma_agree {f s t} (h : execFfma f s = .next t) : Agree 5055008 s t := by
  cases h
  exact stepLane_agree (by decide)

theorem execFmin_agree {f s t} (h : execFmin f s = .next t) : Agree 5055008 s t := by
  cases h
  exact stepLane_agree (by decide)

theorem execFmax_agree {f s t} (h : execFmax f s = .next t) : Agree 5055008 s t := by
  cases h
  exact stepLane_agree (by decide)

theorem execFabs_agree {f s t} (h : execFabs f s = .next t) : Agree 5055008 s t := by
  cases h
  exact stepLane_agree (by decide)

theorem execFneg_agree {f s t} (h : execFneg f s = .next t) : Agree 5055008 s t := by
  cases h
  exact stepLane_agree (by decide)

theorem execFcmp_agree {f s t} (h : execFcmp f s = .next t) : Agree 5055008 s t := by
  cases h
  exact stepLane_agree (by decide)

theorem execSel_agree {f s t} (h : execSel f s = .next t) : Agree 5055008 s t := by
  cases h
  exact stepLane_agree (by decide)

theorem execIadd_agree {f s t} (h : execIadd f s = .next t) : Agree 5055008 s t := by
  cases h
  exact stepLane_agree (by decide)

theorem execIsub_agree {f s t} (h : execIsub f s = .next t) : Agree 5055008 s t := by
  cases h
  exact stepLane_agree (by decide)

theorem execImul_agree {f s t} (h : execImul f s = .next t) : Agree 5055008 s t := by
  cases h
  exact stepLane_agree (by decide)

theorem execAnd_agree {f s t} (h : execAnd f s = .next t) : Agree 5055008 s t := by
  cases h
  exact stepLane_agree (by decide)

theorem execOr_agree {f s t} (h : execOr f s = .next t) : Agree 5055008 s t := by
  cases h
  exact stepLane_agree (by decide)

theorem execXor_agree {f s t} (h : execXor f s = .next t) : Agree 5055008 s t := by
  cases h
  exact stepLane_agree (by decide)

theorem execShl_agree {f s t} (h : execShl f s = .next t) : Agree 5055008 s t := by
  cases h
  exact stepLane_agree (by decide)

theorem execShr_agree {f s t} (h : execShr f s = .next t) : Agree 5055008 s t := by
  cases h
  exact stepLane_agree (by decide)

theorem execSar_agree {f s t} (h : execSar f s = .next t) : Agree 5055008 s t := by
  cases h
  exact stepLane_agree (by decide)

theorem execIcmp_agree {f s t} (h : execIcmp f s = .next t) : Agree 5055008 s t := by
  cases h
  exact stepLane_agree (by decide)

theorem execCvt_agree {f s t} (h : execCvt f s = .next t) : Agree 5055008 s t := by
  cases h
  exact stepLane_agree (by decide)

theorem execExp2_agree {f s t} (h : execExp2 f s = .next t) : Agree 5055008 s t := by
  cases h
  exact stepLane_agree (by decide)

theorem execLog2_agree {f s t} (h : execLog2 f s = .next t) : Agree 5055008 s t := by
  cases h
  exact stepLane_agree (by decide)

theorem execRcp_agree {f s t} (h : execRcp f s = .next t) : Agree 5055008 s t := by
  cases h
  exact stepLane_agree (by decide)

theorem execSqrt_agree {f s t} (h : execSqrt f s = .next t) : Agree 5055008 s t := by
  cases h
  exact stepLane_agree (by decide)

theorem execRsqrt_agree {f s t} (h : execRsqrt f s = .next t) : Agree 5055008 s t := by
  cases h
  exact stepLane_agree (by decide)

theorem execSinpi_agree {f s t} (h : execSinpi f s = .next t) : Agree 5055008 s t := by
  cases h
  exact stepLane_agree (by decide)

theorem execCospi_agree {f s t} (h : execCospi f s = .next t) : Agree 5055008 s t := by
  cases h
  exact stepLane_agree (by decide)

theorem execFdiv_agree {f s t} (h : execFdiv f s = .next t) : Agree 5055008 s t := by
  cases h
  exact stepLane_agree (by decide)

theorem execLd_agree {f s t} (h : execLd f s = .next t) : Agree 5055008 s t := by
  cases h
  exact stepLane_agree (by decide)

theorem execSt_agree {f s t} (h : execSt f s = .next t) : Agree 5055008 s t := by
  cases h
  exact stepLane_agree (by decide)

theorem execBcr_agree {f s t} (h : execBcr f s = .next t) : Agree 5055008 s t := by
  cases h
  exact stepLane_agree (by decide)

theorem execBcc_agree {f s t} (h : execBcc f s = .next t) : Agree 5055008 s t := by
  cases h
  exact stepLane_agree (by decide)

theorem execPerm_agree {f s t} (h : execPerm f s = .next t) : Agree 5055008 s t := by
  cases h
  exact stepLane_agree (by decide)

theorem execRand_agree {f s t} (h : execRand f s = .next t) : Agree 5055008 s t := by
  cases h
  exact stepLane_agree (by decide)

theorem execCoord_agree {f s t} (h : execCoord f s = .next t) : Agree 5055008 s t := by
  cases h
  exact stepLane_agree (by decide)

theorem execMovi_agree {f s t} (h : execMovi f s = .next t) : Agree 5055008 s t := by
  cases h
  exact stepLane_agree (by decide)

theorem execRsum_agree {f s t} (h : execRsum f s = .next t) : Agree 5055008 s t := by
  cases h
  exact stepLane_agree (by decide)

theorem execRmax_agree {f s t} (h : execRmax f s = .next t) : Agree 5055008 s t := by
  cases h
  exact stepLane_agree (by decide)

theorem execRmin_agree {f s t} (h : execRmin f s = .next t) : Agree 5055008 s t := by
  cases h
  exact stepLane_agree (by decide)

theorem execEndChunk_agree {x0 x1 t} (h : @execEndChunk x0 x1 = .next t) : Agree 5075744 x1 t := by
  unfold execEndChunk at h
  cases h
  refine stepResident_agree.after rfl ?_
  exact Agree.refl _ _

end Sys2Proof.Laws
end

