-- ==== Sys2Proof/Laws/AgreeStream.lean ====
section
/-! SUPPORT. What the operations of Machine/Stream.lean leave alone: for each, the areas it may change, as the bits of a mask in
the numbering of `Area.idx`. -/

namespace Sys2Proof.Laws

open Sys2Proof Sys2Proof.Machine Sys2Proof.Safety Sys2Proof.Frame

theorem blockSet_agree {x0 x1 x2 x3} : Agree 5055008 x0 (@blockSet x0 x1 x2 x3).1 := by
  unfold blockSet
  extract_lets +onlyGivenNames v0
  clear_value v0
  extract_lets +onlyGivenNames v1
  clear_value v1
  extract_lets +onlyGivenNames v2
  clear_value v2
  dsimp only
  refine readUnits_agree.after rfl ?_
  exact Agree.refl _ _

theorem carryWrites_agree {x0 x1 x2} : Agree 5055264 x2.1 (@carryWrites x0 x1 x2) := by
  unfold carryWrites
  refine bump_agree.after rfl ?_
  refine commitWrites_agree.after rfl ?_
  exact Agree.refl _ _

theorem crozSet_agree {x0 x1 x2 x3 x4} : Agree 5071648 x0 (@crozSet x0 x1 x2 x3 x4).1 := by
  unfold crozSet
  extract_lets +onlyGivenNames v0
  clear_value v0
  extract_lets +onlyGivenNames v1
  clear_value v1
  extract_lets +onlyGivenNames v2
  clear_value v2
  extract_lets +onlyGivenNames v3
  clear_value v3
  extract_lets +onlyGivenNames v4
  have hv4 : Agree 5071648 x0 v4 := by
    unfold v4
    refine bump_agree.after rfl ?_
    refine readUnits_agree.after rfl ?_
    exact Agree.refl _ _
  clear_value v4
  extract_lets +onlyGivenNames v5
  clear_value v5
  refine Agree.iteFst ?_ ?_
  · extract_lets +onlyGivenNames v6
    clear_value v6
    split
    dsimp only
    refine Agree.ofPair (by assumption) ?_
    refine quantLines_agree.after rfl ?_
    assumption
  · refine Agree.iteFst ?_ ?_
    · assumption
    · extract_lets +onlyGivenNames v7
      clear_value v7
      extract_lets +onlyGivenNames v8
      clear_value v8
      extract_lets +onlyGivenNames v9
      have hv9 : Agree 5071648 x0 v9 := by
        unfold v9
        refine bump_agree.after rfl ?_
        assumption
      clear_value v9
      assumption

theorem plainSet_agree {x0 x1 x2 x3} : Agree 5055008 x0 (@plainSet x0 x1 x2 x3).1 := by
  unfold plainSet
  extract_lets +onlyGivenNames v0
  clear_value v0
  dsimp only
  refine readUnits_agree.after rfl ?_
  exact Agree.refl _ _

theorem copyMsg_agree {x0 x1 x2 x3 x4 x5} : Agree 65536 x0 (@copyMsg x0 x1 x2 x3 x4 x5).1 := by
  unfold copyMsg
  extract_lets +onlyGivenNames v0
  clear_value v0
  dsimp only
  refine sendMsg_agree.after rfl ?_
  refine Agree.updMk ?_ (Nat.le_refl _) (flashUp_refl _) rfl rfl rfl ⟨rfl, rfl, rfl, rfl, rfl⟩ (fun a h => by cases a <;> first | exact absurd h (by decide) | exact rfl | exact ⟨rfl, rfl⟩)
  exact Agree.refl _ _

theorem spreadCopy_agree {x0 x1 x2 x3 x4 x5 x6} : Agree 65536 x0 (@spreadCopy x0 x1 x2 x3 x4 x5 x6).1 := by
  unfold spreadCopy
  extract_lets +onlyGivenNames v0
  clear_value v0
  extract_lets +onlyGivenNames v1
  clear_value v1
  refine Agree.foldlFst (fun a2 b3 h4 => ?_) ?_
  · extract_lets +onlyGivenNames v5
    clear_value v5
    extract_lets +onlyGivenNames v6
    clear_value v6
    refine Agree.foldlFst (fun a7 b8 h9 => ?_) ?_
    · split
      · assumption
      · refine Agree.foldlFst (fun a10 b11 h12 => ?_) ?_
        · split
          · refine Agree.iteFst ?_ ?_
            · assumption
            · split
              dsimp only
              refine Agree.ofPair (by assumption) ?_
              refine copyMsg_agree.after rfl ?_
              assumption
          · assumption
        · assumption
    · assumption
  · dsimp only
    exact Agree.refl _ _

theorem copySpread_agree {x0 x1 x2 x3 x4} : VAgree 5071648 x0 (@copySpread x0 x1 x2 x3 x4) := by
  unfold copySpread
  extract_lets +onlyGivenNames v0
  clear_value v0
  extract_lets +onlyGivenNames v1
  clear_value v1
  split
  · exact True.intro
  · split
    split
    extract_lets +onlyGivenNames v2
    have hv2 : Agree 5071648 x0 v2 := by
      unfold v2
      refine commitWrites_agree.after rfl ?_
      refine Agree.ofPair (by assumption) ?_
      refine spreadCopy_agree.after rfl ?_
      refine Agree.ofPair (by assumption) ?_
      refine Agree.iteFst ?_ ?_
      · refine crozSet_agree.after rfl ?_
        exact Agree.refl _ _
      · split
        dsimp only
        refine Agree.ofPair (by assumption) ?_
        refine Agree.iteFst ?_ ?_
        · refine blockSet_agree.after rfl ?_
          exact Agree.refl _ _
        · refine plainSet_agree.after rfl ?_
          exact Agree.refl _ _
    clear_value v2
    extract_lets +onlyGivenNames v3
    have hv3 : Agree 5071648 x0 v3 := by
      unfold v3
      refine Agree.ite ?_ ?_
      · refine bump_agree.after rfl ?_
        assumption
      · assumption
    clear_value v3
    show Agree 5071648 x0 _
    assumption

theorem copyBlocks_agree {x0 x1 x2 x3} : Agree 5055264 x0 (@copyBlocks x0 x1 x2 x3) := by
  unfold copyBlocks
  refine carryWrites_agree.after rfl ?_
  refine blockSet_agree.after rfl ?_
  exact Agree.refl _ _

theorem copyPlain_agree {x0 x1 x2 x3} : Agree 5055264 x0 (@copyPlain x0 x1 x2 x3) := by
  unfold copyPlain
  refine carryWrites_agree.after rfl ?_
  refine plainSet_agree.after rfl ?_
  exact Agree.refl _ _

theorem copyQuant_agree {x0 x1 x2 x3} : Agree 5071648 x0 (@copyQuant x0 x1 x2 x3) := by
  unfold copyQuant
  split
  · extract_lets +onlyGivenNames v0
    have hv0 : Agree 5071648 x0 v0 := by
      unfold v0
      refine ensureReloc_agree.after rfl ?_
      exact Agree.refl _ _
    clear_value v0
    extract_lets +onlyGivenNames v1
    clear_value v1
    refine Agree.ite ?_ ?_
    · refine copyBlocks_agree.after rfl ?_
      assumption
    · refine copyPlain_agree.after rfl ?_
      assumption
  · refine copyBlocks_agree.after rfl ?_
    exact Agree.refl _ _

theorem copyCroz_agree {x0 x1 x2 x3 x4} : Agree 5071648 x0 (@copyCroz x0 x1 x2 x3 x4).1 := by
  unfold copyCroz
  split
  dsimp only
  refine commitWrites_agree.after rfl ?_
  refine Agree.ofPair (by assumption) ?_
  refine crozSet_agree.after rfl ?_
  exact Agree.refl _ _

theorem copyBody_agree {x0 x1 x2} : VAgree 5071648 x1 (@copyBody x0 x1 x2) := by
  unfold copyBody
  extract_lets +onlyGivenNames v0
  clear_value v0
  extract_lets +onlyGivenNames v1
  clear_value v1
  extract_lets +onlyGivenNames v2
  clear_value v2
  extract_lets +onlyGivenNames v3
  clear_value v3
  extract_lets +onlyGivenNames v4
  clear_value v4
  split
  · exact True.intro
  · refine VAgree.ite ?_ ?_
    · exact True.intro
    · refine VAgree.ite ?_ ?_
      · exact True.intro
      · refine VAgree.ite ?_ ?_
        · exact True.intro
        · refine VAgree.ite ?_ ?_
          · show Agree 5071648 x1 _
            exact Agree.refl _ _
          · refine VAgree.ite ?_ ?_
            · refine VAgree.ite ?_ ?_
              · exact True.intro
              · refine VAgree.ite ?_ ?_
                · exact True.intro
                · refine VAgree.ite ?_ ?_
                  · exact True.intro
                  · refine copySpread_agree.vafter rfl ?_
                    exact Agree.refl _ _
            · refine VAgree.ite ?_ ?_
              · show Agree 5071648 x1 _
                exact Agree.refl _ _
              · refine VAgree.ite ?_ ?_
                · exact True.intro
                · refine VAgree.ite ?_ ?_
                  · exact True.intro
                  · refine VAgree.ite ?_ ?_
                    · exact True.intro
                    · refine VAgree.ite ?_ ?_
                      · exact True.intro
                      · refine VAgree.ite ?_ ?_
                        · show Agree 5071648 x1 _
                          refine Agree.ite ?_ ?_
                          · refine copyQuant_agree.after rfl ?_
                            exact Agree.refl _ _
                          · refine copyPlain_agree.after rfl ?_
                            exact Agree.refl _ _
                        · split
                          show Agree 5071648 x1 _
                          refine Agree.ofPair (by assumption) ?_
                          refine copyCroz_agree.after rfl ?_
                          exact Agree.refl _ _

theorem execStreamCopy_agree {x0 x1 x2 x3 t} (h : @execStreamCopy x0 x1 x2 x3 = .next t) : Agree 6127392 x3 t := by
  unfold execStreamCopy at h
  cases h
  refine runEntry_agree rfl (fun s0 e1 => ?_)
  refine keep_agree rfl ?_
  refine copyBody_agree.vafter rfl ?_
  exact Agree.refl _ _

theorem gatherRows_agree {x0 x1 x2 x3 x4 x5} : Agree 5055264 x0 (@gatherRows x0 x1 x2 x3 x4 x5).1 := by
  unfold gatherRows
  extract_lets +onlyGivenNames v0
  clear_value v0
  extract_lets +onlyGivenNames v1
  clear_value v1
  extract_lets +onlyGivenNames v2
  clear_value v2
  extract_lets +onlyGivenNames v3
  have hv3 : Agree 5055264 x0 v3 := by
    unfold v3
    refine readUnits_agree.after rfl ?_
    exact Agree.refl _ _
  clear_value v3
  extract_lets +onlyGivenNames v4
  clear_value v4
  extract_lets +onlyGivenNames v5
  have hv5 : Agree 5055264 x0 v5 := by
    unfold v5
    refine bump_agree.after rfl ?_
    assumption
  clear_value v5
  extract_lets +onlyGivenNames v6
  have hv6 : Agree 5055264 x0 v6 := by
    unfold v6
    refine bump_agree.after rfl ?_
    assumption
  clear_value v6
  dsimp only
  refine bump_agree.after rfl ?_
  refine commitWrites_agree.after rfl ?_
  assumption

end Sys2Proof.Laws
end

