-- ==== Sys2Proof/Laws/AgreeEmit.lean ====
section
/-! SUPPORT. What the operations of Machine/Emit.lean leave alone: for each, the areas it may change, as the bits of a mask in
the numbering of `Area.idx`. -/

namespace Sys2Proof.Laws

open Sys2Proof Sys2Proof.Machine Sys2Proof.Safety Sys2Proof.Frame

theorem reemitCopy_agree {x0 x1 x2 x3} : Agree 5071648 x0 (@reemitCopy x0 x1 x2 x3) := by
  unfold reemitCopy
  extract_lets +onlyGivenNames v0
  clear_value v0
  split
  · refine Agree.ite ?_ ?_
    · exact Agree.refl _ _
    · split
      extract_lets +onlyGivenNames v1
      clear_value v1
      split
      split
      extract_lets +onlyGivenNames v2
      clear_value v2
      extract_lets +onlyGivenNames v3
      have hv3 : Agree 5071648 x0 v3 := by
        unfold v3
        refine readUnits_agree.after rfl ?_
        exact Agree.refl _ _
      clear_value v3
      refine Agree.ite ?_ ?_
      · extract_lets +onlyGivenNames v4
        have hv4 : Agree 5071648 x0 v4 := by
          unfold v4
          refine ensureReloc_agree.after rfl ?_
          assumption
        clear_value v4
        extract_lets +onlyGivenNames v5
        clear_value v5
        extract_lets +onlyGivenNames v6
        have hv6 : Agree 5071648 x0 v6 := by
          unfold v6
          refine bump_agree.after rfl ?_
          refine noteAmax_agree.after rfl ?_
          assumption
        clear_value v6
        extract_lets +onlyGivenNames v7
        clear_value v7
        refine commitWrites_agree.after rfl ?_
        refine noteStorm_agree.after rfl ?_
        assumption
      · split
        · exact Agree.refl _ _
        · split
          extract_lets +onlyGivenNames v8
          have hv8 : Agree 5071648 x0 v8 := by
            unfold v8
            refine ensureReloc_agree.after rfl ?_
            refine Agree.ite ?_ ?_
            · refine readUnits_agree.after rfl ?_
              assumption
            · assumption
          clear_value v8
          extract_lets +onlyGivenNames v9
          clear_value v9
          extract_lets +onlyGivenNames v10
          clear_value v10
          extract_lets +onlyGivenNames v11
          clear_value v11
          extract_lets +onlyGivenNames v12
          clear_value v12
          extract_lets +onlyGivenNames v13
          clear_value v13
          extract_lets +onlyGivenNames v14
          clear_value v14
          extract_lets +onlyGivenNames v15
          have hv15 : Agree 5071648 x0 v15 := by
            unfold v15
            refine Agree.ite ?_ ?_
            · refine recordJit_agree.after rfl ?_
              assumption
            · assumption
          clear_value v15
          extract_lets +onlyGivenNames v16
          have hv16 : Agree 5071648 x0 v16 := by
            unfold v16
            refine noteStorm_agree.after rfl ?_
            refine noteAmax_agree.after rfl ?_
            refine bumpQuant_agree.after rfl ?_
            assumption
          clear_value v16
          refine commitWrites_agree.after rfl ?_
          assumption
  · exact Agree.refl _ _

theorem reemitLayer_agree {x0 x1 x2 x3} : Agree 5071648 x0 (@reemitLayer x0 x1 x2 x3) := by
  unfold reemitLayer
  refine Agree.foldl (fun a0 b1 h2 => ?_) ?_
  · refine reemitCopy_agree.after rfl ?_
    assumption
  · exact Agree.refl _ _

theorem emitBlocks_agree {x0 x1 x2 x3 x4 x5 x6 x7 x8 x9 x10} : Agree 5071648 x0 (@emitBlocks x0 x1 x2 x3 x4 x5 x6 x7 x8 x9 x10) := by
  unfold emitBlocks
  split
  extract_lets +onlyGivenNames v0
  clear_value v0
  extract_lets +onlyGivenNames v1
  clear_value v1
  extract_lets +onlyGivenNames v2
  clear_value v2
  extract_lets +onlyGivenNames v3
  clear_value v3
  extract_lets +onlyGivenNames v4
  clear_value v4
  extract_lets +onlyGivenNames v5
  clear_value v5
  extract_lets +onlyGivenNames v6
  clear_value v6
  extract_lets +onlyGivenNames v7
  clear_value v7
  extract_lets +onlyGivenNames v8
  clear_value v8
  extract_lets +onlyGivenNames v9
  clear_value v9
  extract_lets +onlyGivenNames v10
  clear_value v10
  extract_lets +onlyGivenNames v11
  clear_value v11
  extract_lets +onlyGivenNames v12
  clear_value v12
  extract_lets +onlyGivenNames v13
  clear_value v13
  extract_lets +onlyGivenNames v14
  clear_value v14
  extract_lets +onlyGivenNames v15
  clear_value v15
  extract_lets +onlyGivenNames v16
  clear_value v16
  extract_lets +onlyGivenNames v17
  clear_value v17
  extract_lets +onlyGivenNames v18
  clear_value v18
  extract_lets +onlyGivenNames v19
  clear_value v19
  extract_lets +onlyGivenNames v20
  clear_value v20
  extract_lets +onlyGivenNames v21
  clear_value v21
  extract_lets +onlyGivenNames v22
  clear_value v22
  extract_lets +onlyGivenNames v23
  clear_value v23
  extract_lets +onlyGivenNames v24
  clear_value v24
  extract_lets +onlyGivenNames v25
  clear_value v25
  extract_lets +onlyGivenNames v26
  have hv26 : Agree 5071648 x0 v26 := by
    unfold v26
    refine bumpQuant_agree.after rfl ?_
    exact Agree.refl _ _
  clear_value v26
  extract_lets +onlyGivenNames v27
  have hv27 : Agree 5071648 x0 v27 := by
    unfold v27
    refine bump_agree.after rfl ?_
    refine bump_agree.after rfl ?_
    refine bump_agree.after rfl ?_
    assumption
  clear_value v27
  extract_lets +onlyGivenNames v28
  have hv28 : Agree 5071648 x0 v28 := by
    unfold v28
    refine bump_agree.after rfl ?_
    assumption
  clear_value v28
  extract_lets +onlyGivenNames v29
  have hv29 : Agree 5071648 x0 v29 := by
    unfold v29
    refine modPart_agree.after rfl ?_
    assumption
  clear_value v29
  refine commitWrites_agree.after rfl ?_
  assumption

theorem emitCopy_agree {x0 x1 x2 x3 x4 x5 x6} : Agree 5071648 x0 (@emitCopy x0 x1 x2 x3 x4 x5 x6) := by
  unfold emitCopy
  extract_lets +onlyGivenNames v0
  clear_value v0
  extract_lets +onlyGivenNames v1
  clear_value v1
  split
  · refine Agree.ite ?_ ?_
    · extract_lets +onlyGivenNames v2
      clear_value v2
      extract_lets +onlyGivenNames v3
      clear_value v3
      refine commitWrites_agree.after rfl ?_
      exact Agree.refl _ _
    · split
      · refine Agree.ite ?_ ?_
        · exact Agree.refl _ _
        · refine Agree.ite ?_ ?_
          · refine emitBlocks_agree.after rfl ?_
            refine readUnits_agree.after rfl ?_
            refine readUnits_agree.after rfl ?_
            exact Agree.refl _ _
          · refine emitBlocks_agree.after rfl ?_
            exact Agree.refl _ _
      · exact Agree.refl _ _
  · exact Agree.refl _ _

end Sys2Proof.Laws
end

