-- ==== Sys2Proof/Laws/AgreeLadder.lean ====
section
/-! SUPPORT. What the operations of Machine/Ladder.lean leave alone: for each, the areas it may change, as the bits of a mask in
the numbering of `Area.idx`. -/

namespace Sys2Proof.Laws

open Sys2Proof Sys2Proof.Machine Sys2Proof.Safety Sys2Proof.Frame

theorem fbLog_agree {x0 x1 x2 x3 x4 x5 x6 x7 x8 x9 x10} : Agree 5046304 x0 (@fbLog x0 x1 x2 x3 x4 x5 x6 x7 x8 x9 x10) := by
  unfold fbLog
  refine logEvent_agree.after rfl ?_
  exact Agree.refl _ _

theorem reemitStorm_agree {x0 x1 x2 x3} : Agree 5071648 x0 (@reemitStorm x0 x1 x2 x3) := by
  unfold reemitStorm
  refine Agree.foldl (fun a0 b1 h2 => ?_) ?_
  · refine Agree.foldl (fun a3 b4 h5 => ?_) ?_
    · extract_lets +onlyGivenNames v6
      clear_value v6
      extract_lets +onlyGivenNames v7
      clear_value v7
      refine Agree.ite ?_ ?_
      · refine reemitCopy_agree.after rfl ?_
        assumption
      · assumption
    · assumption
  · exact Agree.refl _ _

theorem rerunCmd_agree {x0 x1 x2} : Agree 5072673 x1 (@rerunCmd x0 x1 x2) := by
  unfold rerunCmd
  extract_lets +onlyGivenNames v0
  clear_value v0
  extract_lets +onlyGivenNames v1
  clear_value v1
  extract_lets +onlyGivenNames v2
  have hv2 : Agree 5072673 x1 v2 := by
    unfold v2
    refine Agree.ite ?_ ?_
    · refine Agree.foldl (fun a3 b4 h5 => ?_) ?_
      · refine setSlot_agree.after rfl ?_
        assumption
      · exact Agree.refl _ _
    · exact Agree.refl _ _
  clear_value v2
  extract_lets +onlyGivenNames v6
  have hv6 : VAgree 5072673 x1 v6 := by
    unfold v6
    split
    · refine matmulBody_agree.vafter rfl ?_
      assumption
    · refine storeBody_agree.vafter rfl ?_
      assumption
    · refine VAgree.ite ?_ ?_
      · refine foldBody_agree.vafter rfl ?_
        assumption
      · refine sumBody_agree.vafter rfl ?_
        assumption
    · refine vectorBody_agree.vafter rfl ?_
      assumption
    · refine softmaxBody_agree.vafter rfl ?_
      assumption
    · refine sampleBody_agree.vafter rfl ?_
      assumption
    · refine copyBody_agree.vafter rfl ?_
      assumption
    · exact True.intro
  clear_value v6
  split
  · split
    · refine Agree.ite ?_ ?_
      · refine bump_agree.after rfl ?_
        assumption
      · assumption
    · refine finishSlots_agree.after rfl ?_
      assumption
  · assumption

theorem runRepeats_agree {p outs l s} : Agree 5072673 s (runRepeats p outs l s).1 := by
  induction l generalizing s with
  | nil => exact Agree.refl _ _
  | cons r rs ih =>
    unfold runRepeats
    split
    · exact Agree.refl _ _
    · exact Agree.trans (rerunCmd_agree.mono rfl) ih

theorem goOn_agree {s p x} : Agree 5072673 s (goOn s p x) := by
  unfold goOn
  have h : Agree 5072673 s (runRepeats p x.outs x.cmds s).1 := runRepeats_agree.mono rfl
  generalize runRepeats p x.outs x.cmds s = y at h
  obtain ⟨s1, rest⟩ := y
  dsimp only at h
  dsimp only
  split
  · refine modPart_agree.after rfl (Agree.foldl (fun a b h0 => ?_) h)
    exact Agree.ite (setSlot_agree.after rfl h0) h0
  · exact modPart_agree.after rfl h

theorem emptyOutputs_agree {s p outs} : Agree 8192 s (emptyOutputs s p outs) := by
  unfold emptyOutputs
  refine Agree.updTab (Agree.refl _ _) (Nat.le_refl _) (flashUp_refl _) rfl rfl rfl
    (fun m => ⟨m.regs, m.resets, m.queues, mapFilter_wf m.fronds (fun e => by split <;> rfl), fun e he => ?_, m.parts, m.ports⟩)
    (fun a h => by cases a <;> first | exact absurd h (by decide) | exact rfl | exact ⟨rfl, rfl⟩)
  obtain ⟨x, hx, rfl⟩ := List.mem_map.1 (List.mem_filter.1 he).1
  split
  · exact filter_wf (m.slots x hx)
  · exact m.slots x hx

theorem startRepeats_agree {x0 x1 x2 x3} : Agree 5072673 x0 (@startRepeats x0 x1 x2 x3) := by
  unfold startRepeats
  extract_lets +onlyGivenNames v0
  clear_value v0
  extract_lets +onlyGivenNames v1
  clear_value v1
  extract_lets +onlyGivenNames v2
  clear_value v2
  refine goOn_agree.after rfl ?_
  refine emptyOutputs_agree.after rfl ?_
  exact Agree.refl _ _

theorem setFbState_agree {x0 x1} : Agree 32 x0 (@setFbState x0 x1) := by
  unfold setFbState
  extract_lets +onlyGivenNames v0
  clear_value v0
  extract_lets +onlyGivenNames v1
  clear_value v1
  extract_lets +onlyGivenNames v2
  clear_value v2
  extract_lets +onlyGivenNames v3
  have hv3 : Agree 32 x0 v3 := by
    unfold v3
    refine setF_agree.after rfl ?_
    exact Agree.refl _ _
  clear_value v3
  refine setF_agree.after rfl ?_
  refine setF_agree.after rfl ?_
  assumption

theorem fallBack_agree {s c lc pass j st} : Agree 5072673 s (fallBack s c lc pass j st) := by
  unfold fallBack
  extract_lets +onlyGivenNames p x r cmds order pc foot need fell layersHit full storm reason mine later rep st1 s1 s2 s3 s4 c' s5
  have h1 : Agree 5072673 s s1 := modPart_agree.mono rfl
  clear_value s1
  have h3 : Agree 5072673 s s3 := fbLog_agree.after rfl (bump_agree.after rfl h1)
  clear_value s3
  have h4 : Agree 5072673 s s4 := by
    unfold s4
    exact Agree.ite (fbLog_agree.after rfl (raiseCause_agree.after rfl (bump_agree.after rfl h3))) h3
  clear_value s4
  have h5 : Agree 5072673 s s5 := by
    unfold s5
    exact Agree.ite (reemitStorm_agree.after rfl h4) (reemitLayer_agree.after rfl h4)
  clear_value s5
  exact startRepeats_agree.after rfl (setFbState_agree.after rfl h5)

theorem checkBody_agree {c s e} : VAgree 5072673 s (checkBody c s e) := by
  unfold checkBody
  extract_lets layer pass j
  split
  · trivial
  · refine VAgree.ite trivial ?_
    extract_lets st x trips
    refine VAgree.ite trivial (VAgree.ite ?_ (show Agree 5072673 s _ from modPart_agree.mono rfl))
    show Agree 5072673 s _
    exact fallBack_agree.mono rfl

theorem writeTrace_agree {x0 x1 x2} : Agree 5071648 x0 (@writeTrace x0 x1 x2) := by
  unfold writeTrace
  extract_lets +onlyGivenNames v0
  clear_value v0
  split
  · refine Agree.ite ?_ ?_
    · exact Agree.refl _ _
    · extract_lets +onlyGivenNames v1
      have hv1 : Agree 5071648 x0 v1 := by
        unfold v1
        refine writeBytes_agree.after rfl ?_
        exact Agree.refl _ _
      clear_value v1
      refine modPart_agree.after rfl ?_
      assumption
  · exact Agree.refl _ _

theorem spillFullStart_agree {x0 x1} : Agree 5071648 x0 (@spillFullStart x0 x1) := by
  unfold spillFullStart
  refine Agree.foldl (fun a0 b1 h2 => ?_) ?_
  · refine Agree.foldl (fun a3 b4 h5 => ?_) ?_
    · extract_lets +onlyGivenNames v6
      clear_value v6
      extract_lets +onlyGivenNames v7
      clear_value v7
      split
      · assumption
      · split
        · assumption
        · extract_lets +onlyGivenNames v8
          clear_value v8
          refine Agree.ite ?_ ?_
          · assumption
          · extract_lets +onlyGivenNames v9
            clear_value v9
            extract_lets +onlyGivenNames v10
            clear_value v10
            split
            extract_lets +onlyGivenNames v11
            have hv11 : Agree 5071648 x0 v11 := by
              unfold v11
              refine modPart_agree.after rfl ?_
              assumption
            clear_value v11
            extract_lets +onlyGivenNames v12
            have hv12 : Agree 5071648 x0 v12 := by
              unfold v12
              refine fbLog_agree.after rfl ?_
              refine bump_agree.after rfl ?_
              assumption
            clear_value v12
            refine reemitLayer_agree.after rfl ?_
            refine setFbState_agree.after rfl ?_
            assumption
    · assumption
  · exact Agree.refl _ _

theorem execLayerCheck_agree {x0 x1 x2 t} (h : @execLayerCheck x0 x1 x2 = .next t) : Agree 6127393 x2 t := by
  unfold execLayerCheck at h
  cases h
  refine runEntry_agree rfl (fun s0 e1 => ?_)
  refine checkBody_agree.vafter rfl ?_
  exact Agree.refl _ _

end Sys2Proof.Laws
end

