-- ==== Sys2Proof/Laws/AgreeReduction.lean ====
section
/-! SUPPORT. What the operations of Machine/Reduction.lean leave alone: for each, the areas it may change, as the bits of a mask in
the numbering of `Area.idx`. -/

namespace Sys2Proof.Laws

open Sys2Proof Sys2Proof.Machine Sys2Proof.Safety Sys2Proof.Frame

theorem abandonUpdates_agree {x0 x1 x2} : Agree 20480 x0 (@abandonUpdates x0 x1 x2) := by
  unfold abandonUpdates
  extract_lets +onlyGivenNames v0
  clear_value v0
  extract_lets +onlyGivenNames v1
  have hv1 : Agree 20480 x0 v1 := by
    unfold v1
    refine Agree.foldl (fun a2 b3 h4 => ?_) ?_
    · refine modQ_agree.after rfl ?_
      assumption
    · exact Agree.refl _ _
  clear_value v1
  refine modPart_agree.after rfl ?_
  assumption

theorem modEpoch_agree {x0 x1 x2 x3} : Agree 16384 x0 (@modEpoch x0 x1 x2 x3) := by
  unfold modEpoch
  refine modPart_agree.after rfl ?_
  exact Agree.refl _ _

theorem redSend_agree {x0 x1 x2 x3 x4 x5} : Agree 65536 x0 (@redSend x0 x1 x2 x3 x4 x5) := by
  unfold redSend
  refine Agree.ite ?_ ?_
  · refine Agree.updMk ?_ (Nat.le_refl _) (flashUp_refl _) rfl rfl rfl ⟨rfl, rfl, rfl, rfl, rfl⟩ (fun a h => by cases a <;> first | exact absurd h (by decide) | exact rfl | exact ⟨rfl, rfl⟩)
    exact Agree.refl _ _
  · refine sendMsg_agree.after rfl ?_
    exact Agree.refl _ _

theorem sendCheck_agree {x0 x1 x2 x3 x4 x5} : Agree 65536 x0 (@sendCheck x0 x1 x2 x3 x4 x5) := by
  unfold sendCheck
  refine redSend_agree.after rfl ?_
  exact Agree.refl _ _

theorem redFail_agree {x0 x1 x2 x3 x4 x5} : Agree 81920 x0 (@redFail x0 x1 x2 x3 x4 x5) := by
  unfold redFail
  split
  · exact Agree.refl _ _
  · split
    · exact Agree.refl _ _
    · extract_lets +onlyGivenNames v0
      clear_value v0
      extract_lets +onlyGivenNames v1
      have hv1 : Agree 81920 x0 v1 := by
        unfold v1
        refine modEpoch_agree.after rfl ?_
        exact Agree.refl _ _
      clear_value v1
      refine sendCheck_agree.after rfl ?_
      assumption

theorem modTensor_agree {x0 x1 x2 x3 x4} : Agree 16384 x0 (@modTensor x0 x1 x2 x3 x4) := by
  unfold modTensor
  refine modEpoch_agree.after rfl ?_
  exact Agree.refl _ _

theorem sendBlock_agree {x0 x1 x2 x3 x4 x5 x6 x7} : Agree 65536 x0 (@sendBlock x0 x1 x2 x3 x4 x5 x6 x7) := by
  unfold sendBlock
  refine redSend_agree.after rfl ?_
  exact Agree.refl _ _

theorem publish_agree {x0 x1 x2 x3 x4} : Agree 65536 x0 (@publish x0 x1 x2 x3 x4) := by
  unfold publish
  extract_lets +onlyGivenNames v0
  clear_value v0
  extract_lets +onlyGivenNames v1
  clear_value v1
  extract_lets +onlyGivenNames v2
  clear_value v2
  extract_lets +onlyGivenNames v3
  clear_value v3
  extract_lets +onlyGivenNames v4
  extract_lets +onlyGivenNames v5
  refine Agree.ite ?_ ?_
  · extract_lets +onlyGivenNames v6
    have hv6 : Agree 65536 x0 v6 := by
      unfold v6
      refine Agree.foldl (fun a7 b8 h9 => ?_) ?_
      · unfold v4
        refine sendBlock_agree.after rfl ?_
        assumption
      · exact Agree.refl _ _
    clear_value v6
    refine Agree.foldl (fun a10 b11 h12 => ?_) ?_
    · unfold v5
      extract_lets +onlyGivenNames v13
      have hv13 : Agree 65536 x0 v13 := by
        unfold v13
        unfold v4
        refine sendBlock_agree.after rfl ?_
        assumption
      clear_value v13
      split
      · unfold v4
        refine sendBlock_agree.after rfl ?_
        assumption
      · assumption
    · assumption
  · split
    · unfold v5
      extract_lets +onlyGivenNames v14
      have hv14 : Agree 65536 x0 v14 := by
        unfold v14
        unfold v4
        refine sendBlock_agree.after rfl ?_
        exact Agree.refl _ _
      clear_value v14
      split
      · unfold v4
        refine sendBlock_agree.after rfl ?_
        assumption
      · assumption
    · exact Agree.refl _ _

theorem blockDone_agree {x0 x1 x2 x3 x4 x5} : Agree 81952 x0 (@blockDone x0 x1 x2 x3 x4 x5) := by
  unfold blockDone
  split
  · exact Agree.refl _ _
  · refine Agree.ite ?_ ?_
    · refine publish_agree.after rfl ?_
      exact Agree.refl _ _
    · extract_lets +onlyGivenNames v0
      clear_value v0
      split
      · refine modEpoch_agree.after rfl ?_
        exact Agree.refl _ _
      · refine Agree.ite ?_ ?_
        · refine publish_agree.after rfl ?_
          exact Agree.refl _ _
        · refine redFail_agree.after rfl ?_
          refine bump_agree.after rfl ?_
          exact Agree.refl _ _

theorem chainOn_agree {x0 x1 x2 x3 x4 x5 x6} : Agree 81952 x0 (@chainOn x0 x1 x2 x3 x4 x5 x6) := by
  unfold chainOn
  split
  · exact Agree.refl _ _
  · split
    · exact Agree.refl _ _
    · extract_lets +onlyGivenNames v0
      clear_value v0
      extract_lets +onlyGivenNames v1
      clear_value v1
      extract_lets +onlyGivenNames v2
      clear_value v2
      extract_lets +onlyGivenNames v3
      clear_value v3
      split
      · exact Agree.refl _ _
      · extract_lets +onlyGivenNames v4
        clear_value v4
        refine Agree.ite ?_ ?_
        · refine blockDone_agree.after rfl ?_
          exact Agree.refl _ _
        · extract_lets +onlyGivenNames v5
          clear_value v5
          refine sendBlock_agree.after rfl ?_
          exact Agree.refl _ _

theorem atRoot_agree {x0 x1 x2 x3 x4 x5 x6 x7} : Agree 81952 x0 (@atRoot x0 x1 x2 x3 x4 x5 x6 x7) := by
  unfold atRoot
  split
  · exact Agree.refl _ _
  · split
    · exact Agree.refl _ _
    · extract_lets +onlyGivenNames v0
      clear_value v0
      split
      · refine Agree.ite ?_ ?_
        · refine bump_agree.after rfl ?_
          exact Agree.refl _ _
        · refine Agree.ite ?_ ?_
          · refine redFail_agree.after rfl ?_
            exact Agree.refl _ _
          · extract_lets +onlyGivenNames v1
            have hv1 : Agree 81952 x0 v1 := by
              unfold v1
              refine modEpoch_agree.after rfl ?_
              exact Agree.refl _ _
            clear_value v1
            refine Agree.ite ?_ ?_
            · refine bump_agree.after rfl ?_
              assumption
            · refine Agree.ite ?_ ?_
              · assumption
              · refine redFail_agree.after rfl ?_
                refine bump_agree.after rfl ?_
                assumption
      · extract_lets +onlyGivenNames v2
        have hv2 : Agree 81952 x0 v2 := by
          unfold v2
          refine modEpoch_agree.after rfl ?_
          exact Agree.refl _ _
        clear_value v2
        extract_lets +onlyGivenNames v3
        have hv3 : Agree 81952 x0 v3 := by
          unfold v3
          refine Agree.ite ?_ ?_
          · refine bump_agree.after rfl ?_
            assumption
          · assumption
        clear_value v3
        extract_lets +onlyGivenNames v4
        clear_value v4
        extract_lets +onlyGivenNames v5
        have hv5 : Agree 81952 x0 v5 := by
          unfold v5
          refine modTensor_agree.after rfl ?_
          assumption
        clear_value v5
        refine chainOn_agree.after rfl ?_
        assumption

theorem blockIn_agree {x0 x1 x2 x3 x4 x5 x6} : Agree 81952 x0 (@blockIn x0 x1 x2 x3 x4 x5 x6) := by
  unfold blockIn
  split
  · exact Agree.refl _ _
  · split
    · exact Agree.refl _ _
    · extract_lets +onlyGivenNames v0
      clear_value v0
      extract_lets +onlyGivenNames v1
      clear_value v1
      refine Agree.ite ?_ ?_
      · refine redFail_agree.after rfl ?_
        exact Agree.refl _ _
      · refine Agree.ite ?_ ?_
        · refine redFail_agree.after rfl ?_
          refine bump_agree.after rfl ?_
          exact Agree.refl _ _
        · refine Agree.ite ?_ ?_
          · exact Agree.refl _ _
          · refine Agree.ite ?_ ?_
            · extract_lets +onlyGivenNames v2
              clear_value v2
              extract_lets +onlyGivenNames v3
              clear_value v3
              split
              · refine atRoot_agree.after rfl ?_
                exact Agree.refl _ _
              · exact Agree.refl _ _
            · split
              · exact Agree.refl _ _
              · refine Agree.ite ?_ ?_
                · refine atRoot_agree.after rfl ?_
                  exact Agree.refl _ _
                · refine Agree.ite ?_ ?_
                  · refine redFail_agree.after rfl ?_
                    exact Agree.refl _ _
                  · refine chainOn_agree.after rfl ?_
                    refine modEpoch_agree.after rfl ?_
                    exact Agree.refl _ _

theorem releaseEpoch_agree {x0 x1 x2 x3 x4 x5} : Agree 4096 x0 (@releaseEpoch x0 x1 x2 x3 x4 x5) := by
  unfold releaseEpoch
  extract_lets +onlyGivenNames v0
  clear_value v0
  refine Agree.foldl (fun a1 b2 h3 => ?_) ?_
  · refine modQ_agree.after rfl ?_
    assumption
  · exact Agree.refl _ _

theorem setRedRegs_agree {x0 x1} : Agree 32 x0 (@setRedRegs x0 x1) := by
  unfold setRedRegs
  extract_lets +onlyGivenNames v0
  clear_value v0
  extract_lets +onlyGivenNames v1
  clear_value v1
  extract_lets +onlyGivenNames v2
  have hv2 : Agree 32 x0 v2 := by
    unfold v2
    refine setF_agree.after rfl ?_
    exact Agree.refl _ _
  clear_value v2
  extract_lets +onlyGivenNames v3
  have hv3 : Agree 32 x0 v3 := by
    unfold v3
    refine setF_agree.after rfl ?_
    assumption
  clear_value v3
  extract_lets +onlyGivenNames v4
  have hv4 : Agree 32 x0 v4 := by
    unfold v4
    refine setF_agree.after rfl ?_
    assumption
  clear_value v4
  extract_lets +onlyGivenNames v5
  have hv5 : Agree 32 x0 v5 := by
    unfold v5
    refine setF_agree.after rfl ?_
    assumption
  clear_value v5
  refine setF_agree.after rfl ?_
  assumption

theorem confirmEpoch_agree {x0 x1 x2} : Agree 20512 x0 (@confirmEpoch x0 x1 x2) := by
  unfold confirmEpoch
  split
  · exact Agree.refl _ _
  · extract_lets +onlyGivenNames v0
    clear_value v0
    extract_lets +onlyGivenNames v1
    have hv1 : Agree 20512 x0 v1 := by
      unfold v1
      refine releaseEpoch_agree.after rfl ?_
      exact Agree.refl _ _
    clear_value v1
    refine setRedRegs_agree.after rfl ?_
    refine modPart_agree.after rfl ?_
    assumption

theorem endAgain_agree {x0 x1 x2 x3} : Agree 4096 x0 (@endAgain x0 x1 x2 x3) := by
  unfold endAgain
  refine Agree.foldl (fun a0 b1 h2 => ?_) ?_
  · refine modQ_agree.after rfl ?_
    assumption
  · exact Agree.refl _ _

theorem endEpochCommands_agree {x0 x1 x2 x3} : Agree 5059360 x0 (@endEpochCommands x0 x1 x2 x3) := by
  unfold endEpochCommands
  refine Agree.foldl (fun a0 b1 h2 => ?_) ?_
  · extract_lets +onlyGivenNames v3
    clear_value v3
    refine Agree.foldl (fun a4 b5 h6 => ?_) ?_
    · refine finishEntry_agree.after rfl ?_
      assumption
    · assumption
  · exact Agree.refl _ _

theorem failEpoch_agree {x0 x1 x2 x3} : Agree 5075744 x0 (@failEpoch x0 x1 x2 x3) := by
  unfold failEpoch
  extract_lets +onlyGivenNames v0
  have hv0 : Agree 5075744 x0 v0 := by
    unfold v0
    refine Agree.ite ?_ ?_
    · refine enterFaulted_agree.after rfl ?_
      refine endEpochCommands_agree.after rfl ?_
      exact Agree.refl _ _
    · refine endAgain_agree.after rfl ?_
      refine releaseEpoch_agree.after rfl ?_
      exact Agree.refl _ _
  clear_value v0
  refine setRedRegs_agree.after rfl ?_
  refine modPart_agree.after rfl ?_
  assumption

theorem epochLocalFail_agree {x0 x1 x2 x3} : Agree 5075760 x3 (@epochLocalFail x0 x1 x2 x3) := by
  unfold epochLocalFail
  extract_lets +onlyGivenNames v0
  have hv0 : Agree 5075760 x3 v0 := by
    unfold v0
    refine advance_agree.after rfl ?_
    exact Agree.refl _ _
  clear_value v0
  split
  · refine Agree.ite ?_ ?_
    · refine failEpoch_agree.after rfl ?_
      assumption
    · assumption
  · assumption

theorem startBlock_agree {x0 x1 x2 x3 x4 x5} : Agree 81952 x0 (@startBlock x0 x1 x2 x3 x4 x5) := by
  unfold startBlock
  split
  · exact Agree.refl _ _
  · split
    · exact Agree.refl _ _
    · refine Agree.ite ?_ ?_
      · exact Agree.refl _ _
      · split
        · exact Agree.refl _ _
        · extract_lets +onlyGivenNames v0
          clear_value v0
          refine Agree.ite ?_ ?_
          · extract_lets +onlyGivenNames v1
            clear_value v1
            extract_lets +onlyGivenNames v2
            have hv2 : Agree 81952 x0 v2 := by
              unfold v2
              refine modTensor_agree.after rfl ?_
              exact Agree.refl _ _
            clear_value v2
            refine Agree.foldl (fun a3 b4 h5 => ?_) ?_
            · extract_lets +onlyGivenNames v6
              have hv6 : Agree 81952 x0 v6 := by
                unfold v6
                refine sendBlock_agree.after rfl ?_
                assumption
              clear_value v6
              refine Agree.ite ?_ ?_
              · refine sendBlock_agree.after rfl ?_
                assumption
              · assumption
            · assumption
          · refine Agree.ite ?_ ?_
            · exact Agree.refl _ _
            · extract_lets +onlyGivenNames v7
              have hv7 : Agree 81952 x0 v7 := by
                unfold v7
                refine modTensor_agree.after rfl ?_
                exact Agree.refl _ _
              clear_value v7
              extract_lets +onlyGivenNames v8
              clear_value v8
              refine Agree.ite ?_ ?_
              · extract_lets +onlyGivenNames v9
                have hv9 : Agree 81952 x0 v9 := by
                  unfold v9
                  refine atRoot_agree.after rfl ?_
                  assumption
                clear_value v9
                refine Agree.ite ?_ ?_
                · refine atRoot_agree.after rfl ?_
                  assumption
                · assumption
              · extract_lets +onlyGivenNames v10
                have hv10 : Agree 81952 x0 v10 := by
                  unfold v10
                  refine sendBlock_agree.after rfl ?_
                  assumption
                clear_value v10
                refine Agree.ite ?_ ?_
                · refine sendBlock_agree.after rfl ?_
                  assumption
                · assumption

theorem maybeOk_agree {x0 x1 x2} : Agree 81920 x0 (@maybeOk x0 x1 x2) := by
  unfold maybeOk
  split
  · exact Agree.refl _ _
  · split
    · refine Agree.ite ?_ ?_
      · exact Agree.refl _ _
      · extract_lets +onlyGivenNames v0
        clear_value v0
        extract_lets +onlyGivenNames v1
        have hv1 : Agree 81920 x0 v1 := by
          unfold v1
          refine modEpoch_agree.after rfl ?_
          exact Agree.refl _ _
        clear_value v1
        refine sendCheck_agree.after rfl ?_
        assumption
    · exact Agree.refl _ _

theorem maybeNorm_agree {x0 x1 x2 x3} : Agree 81920 x0 (@maybeNorm x0 x1 x2 x3) := by
  unfold maybeNorm
  split
  · exact Agree.refl _ _
  · split
    · exact Agree.refl _ _
    · refine Agree.ite ?_ ?_
      · exact Agree.refl _ _
      · extract_lets +onlyGivenNames v0
        clear_value v0
        extract_lets +onlyGivenNames v1
        have hv1 : Agree 81920 x0 v1 := by
          unfold v1
          refine modTensor_agree.after rfl ?_
          exact Agree.refl _ _
        clear_value v1
        refine Agree.ite ?_ ?_
        · assumption
        · extract_lets +onlyGivenNames v2
          clear_value v2
          refine Agree.foldl (fun a3 b4 h5 => ?_) ?_
          · refine redSend_agree.after rfl ?_
            assumption
          · assumption

theorem writeResult_agree {x0 x1 x2 x3 x4} : Agree 5071648 x0 (@writeResult x0 x1 x2 x3 x4) := by
  unfold writeResult
  extract_lets +onlyGivenNames v0
  clear_value v0
  extract_lets +onlyGivenNames v1
  clear_value v1
  extract_lets +onlyGivenNames v2
  clear_value v2
  split
  extract_lets +onlyGivenNames v3
  clear_value v3
  refine modTensor_agree.after rfl ?_
  refine Agree.ofPair (by assumption) ?_
  refine writeSet_agree.after rfl ?_
  exact Agree.refl _ _

theorem resultIn_agree {x0 x1 x2 x3 x4 x5 x6} : Agree 5071648 x0 (@resultIn x0 x1 x2 x3 x4 x5 x6) := by
  unfold resultIn
  split
  · exact Agree.refl _ _
  · split
    · exact Agree.refl _ _
    · extract_lets +onlyGivenNames v0
      clear_value v0
      refine Agree.ite ?_ ?_
      · refine redFail_agree.after rfl ?_
        exact Agree.refl _ _
      · refine Agree.ite ?_ ?_
        · refine redFail_agree.after rfl ?_
          refine bump_agree.after rfl ?_
          exact Agree.refl _ _
        · extract_lets +onlyGivenNames v1
          have hv1 : Agree 5071648 x0 v1 := by
            unfold v1
            refine Agree.ite ?_ ?_
            · refine Agree.foldl (fun a2 b3 h4 => ?_) ?_
              · extract_lets +onlyGivenNames v5
                have hv5 : Agree 5071648 x0 v5 := by
                  unfold v5
                  refine Agree.ite ?_ ?_
                  · assumption
                  · refine sendBlock_agree.after rfl ?_
                    assumption
                clear_value v5
                split
                · refine sendBlock_agree.after rfl ?_
                  assumption
                · assumption
              · exact Agree.refl _ _
            · exact Agree.refl _ _
          clear_value v1
          extract_lets +onlyGivenNames v6
          clear_value v6
          refine Agree.ite ?_ ?_
          · refine redFail_agree.after rfl ?_
            assumption
          · extract_lets +onlyGivenNames v7
            have hv7 : Agree 5071648 x0 v7 := by
              unfold v7
              refine bump_agree.after rfl ?_
              refine bump_agree.after rfl ?_
              assumption
            clear_value v7
            refine Agree.ite ?_ ?_
            · refine Agree.ite ?_ ?_
              · refine startBlock_agree.after rfl ?_
                refine modTensor_agree.after rfl ?_
                assumption
              · refine redFail_agree.after rfl ?_
                assumption
            · refine Agree.ite ?_ ?_
              · assumption
              · refine Agree.ite ?_ ?_
                · refine redFail_agree.after rfl ?_
                  assumption
                · extract_lets +onlyGivenNames v8
                  have hv8 : Agree 5071648 x0 v8 := by
                    unfold v8
                    refine bump_agree.after rfl ?_
                    assumption
                  clear_value v8
                  refine maybeOk_agree.after rfl ?_
                  refine maybeNorm_agree.after rfl ?_
                  refine writeResult_agree.after rfl ?_
                  assumption

theorem leaderRetract_agree {x0 x1 x2 x3 x4 x5 x6} : Agree 81920 x0 (@leaderRetract x0 x1 x2 x3 x4 x5 x6) := by
  unfold leaderRetract
  split
  · exact Agree.refl _ _
  · split
    · exact Agree.refl _ _
    · refine Agree.ite ?_ ?_
      · exact Agree.refl _ _
      · extract_lets +onlyGivenNames v0
        clear_value v0
        extract_lets +onlyGivenNames v1
        clear_value v1
        extract_lets +onlyGivenNames v2
        have hv2 : Agree 81920 x0 v2 := by
          unfold v2
          refine modEpoch_agree.after rfl ?_
          exact Agree.refl _ _
        clear_value v2
        refine Agree.foldl (fun a3 b4 h5 => ?_) ?_
        · refine sendCheck_agree.after rfl ?_
          assumption
        · assumption

theorem leaderOk_agree {x0 x1 x2 x3 x4 x5} : Agree 81920 x0 (@leaderOk x0 x1 x2 x3 x4 x5) := by
  unfold leaderOk
  split
  · exact Agree.refl _ _
  · split
    · exact Agree.refl _ _
    · extract_lets +onlyGivenNames v0
      clear_value v0
      refine Agree.ite ?_ ?_
      · exact Agree.refl _ _
      · extract_lets +onlyGivenNames v1
        clear_value v1
        extract_lets +onlyGivenNames v2
        have hv2 : Agree 81920 x0 v2 := by
          unfold v2
          refine modEpoch_agree.after rfl ?_
          exact Agree.refl _ _
        clear_value v2
        refine Agree.ite ?_ ?_
        · assumption
        · refine Agree.ite ?_ ?_
          · refine leaderRetract_agree.after rfl ?_
            assumption
          · extract_lets +onlyGivenNames v3
            have hv3 : Agree 81920 x0 v3 := by
              unfold v3
              refine modEpoch_agree.after rfl ?_
              assumption
            clear_value v3
            refine Agree.foldl (fun a4 b5 h6 => ?_) ?_
            · refine sendCheck_agree.after rfl ?_
              assumption
            · assumption

theorem retractEpoch_agree {x0 x1 x2 x3} : Agree 86048 x0 (@retractEpoch x0 x1 x2 x3) := by
  unfold retractEpoch
  split
  · exact Agree.refl _ _
  · extract_lets +onlyGivenNames v0
    have hv0 : Agree 86048 x0 v0 := by
      unfold v0
      refine bump_agree.after rfl ?_
      exact Agree.refl _ _
    clear_value v0
    extract_lets +onlyGivenNames v1
    have hv1 : Agree 86048 x0 v1 := by
      unfold v1
      refine modEpoch_agree.after rfl ?_
      assumption
    clear_value v1
    extract_lets +onlyGivenNames v2
    have hv2 : Agree 86048 x0 v2 := by
      unfold v2
      refine setRedRegs_agree.after rfl ?_
      refine abandonUpdates_agree.after rfl ?_
      assumption
    clear_value v2
    refine Agree.foldl (fun a3 b4 h5 => ?_) ?_
    · refine maybeOk_agree.after rfl ?_
      refine maybeNorm_agree.after rfl ?_
      refine Agree.foldl (fun a6 b7 h8 => ?_) ?_
      · refine startBlock_agree.after rfl ?_
        assumption
      · assumption
    · assumption

theorem redMessage_agree {x0 x1 x2} : Agree 5075744 x0 (@redMessage x0 x1 x2) := by
  unfold redMessage
  extract_lets +onlyGivenNames v0
  clear_value v0
  extract_lets +onlyGivenNames v1
  clear_value v1
  extract_lets +onlyGivenNames v2
  clear_value v2
  extract_lets +onlyGivenNames v3
  clear_value v3
  split
  · extract_lets +onlyGivenNames v4
    clear_value v4
    refine Agree.ite ?_ ?_
    · refine bump_agree.after rfl ?_
      exact Agree.refl _ _
    · refine modPart_agree.after rfl ?_
      exact Agree.refl _ _
  · extract_lets +onlyGivenNames v5
    clear_value v5
    refine Agree.ite ?_ ?_
    · refine bump_agree.after rfl ?_
      exact Agree.refl _ _
    · refine Agree.ite ?_ ?_
      · refine modPart_agree.after rfl ?_
        exact Agree.refl _ _
      · split
        · refine Agree.foldl (fun a6 b7 h8 => ?_) ?_
          · refine blockIn_agree.after rfl ?_
            assumption
          · exact Agree.refl _ _
        · refine Agree.foldl (fun a9 b10 h11 => ?_) ?_
          · refine resultIn_agree.after rfl ?_
            assumption
          · exact Agree.refl _ _
        · split
          · refine maybeOk_agree.after rfl ?_
            refine modTensor_agree.after rfl ?_
            exact Agree.refl _ _
          · exact Agree.refl _ _
        · refine Agree.foldl (fun a12 b13 h14 => ?_) ?_
          · extract_lets +onlyGivenNames v15
            clear_value v15
            refine startBlock_agree.after rfl ?_
            refine modTensor_agree.after rfl ?_
            assumption
          · exact Agree.refl _ _
        · split
          · refine leaderOk_agree.after rfl ?_
            exact Agree.refl _ _
          · exact Agree.refl _ _
        · split
          · refine Agree.ite ?_ ?_
            · refine leaderRetract_agree.after rfl ?_
              exact Agree.refl _ _
            · exact Agree.refl _ _
          · exact Agree.refl _ _
        · refine confirmEpoch_agree.after rfl ?_
          exact Agree.refl _ _
        · refine Agree.ite ?_ ?_
          · refine failEpoch_agree.after rfl ?_
            exact Agree.refl _ _
          · refine retractEpoch_agree.after rfl ?_
            exact Agree.refl _ _
        · exact Agree.refl _ _

theorem redPump_agree {k s} : Agree 5075744 s (redPump k s) := by
  induction k generalizing s with
  | zero => exact Agree.refl _ _
  | succ k ih =>
    unfold redPump
    split
    · exact Agree.refl _ _
    · refine Agree.trans (redMessage_agree.after rfl ?_) ih
      exact Agree.updMk (Agree.refl _ _) (Nat.le_refl _) (flashUp_refl _) rfl rfl rfl ⟨rfl, rfl, rfl, rfl, rfl⟩
        (fun a h => by cases a <;> first | exact absurd h (by decide) | exact rfl | exact ⟨rfl, rfl⟩)

theorem redSettle_agree {x0} : Agree 5075744 x0 (@redSettle x0) := by
  unfold redSettle
  refine redPump_agree.after rfl ?_
  exact Agree.refl _ _

theorem openEpoch_agree {x0 x1 x2} : Agree 16384 x0 (@openEpoch x0 x1 x2) := by
  unfold openEpoch
  refine Agree.ite ?_ ?_
  · exact Agree.refl _ _
  · refine modPart_agree.after rfl ?_
    exact Agree.refl _ _

theorem redTensorBody_agree {x0 x1 x2} : VAgree 81952 x1 (@redTensorBody x0 x1 x2) := by
  unfold redTensorBody
  extract_lets +onlyGivenNames v0
  clear_value v0
  extract_lets +onlyGivenNames v1
  clear_value v1
  extract_lets +onlyGivenNames v2
  clear_value v2
  extract_lets +onlyGivenNames v3
  clear_value v3
  refine VAgree.ite ?_ ?_
  · exact True.intro
  · split
    · exact True.intro
    · extract_lets +onlyGivenNames v4
      clear_value v4
      refine VAgree.ite ?_ ?_
      · exact True.intro
      · refine VAgree.ite ?_ ?_
        · exact True.intro
        · split
          · exact True.intro
          · extract_lets +onlyGivenNames v5
            clear_value v5
            extract_lets +onlyGivenNames v6
            clear_value v6
            split
            · exact True.intro
            · extract_lets +onlyGivenNames v7
              clear_value v7
              extract_lets +onlyGivenNames v8
              clear_value v8
              refine VAgree.ite ?_ ?_
              · exact True.intro
              · extract_lets +onlyGivenNames v9
                have hv9 : Agree 81952 x1 v9 := by
                  unfold v9
                  refine modEpoch_agree.after rfl ?_
                  refine openEpoch_agree.after rfl ?_
                  exact Agree.refl _ _
                clear_value v9
                extract_lets +onlyGivenNames v10
                clear_value v10
                extract_lets +onlyGivenNames v11
                clear_value v11
                extract_lets +onlyGivenNames v12
                clear_value v12
                extract_lets +onlyGivenNames v13
                have hv13 : Agree 81952 x1 v13 := by
                  unfold v13
                  refine modPart_agree.after rfl ?_
                  assumption
                clear_value v13
                extract_lets +onlyGivenNames v14
                clear_value v14
                extract_lets +onlyGivenNames v15
                have hv15 : Agree 81952 x1 v15 := by
                  unfold v15
                  refine Agree.updMk ?_ (Nat.le_refl _) (flashUp_refl _) rfl rfl rfl ⟨rfl, rfl, rfl, rfl, rfl⟩ (fun a h => by cases a <;> first | exact absurd h (by decide) | exact rfl | exact ⟨rfl, rfl⟩)
                  assumption
                clear_value v15
                show Agree 81952 x1 _
                refine maybeNorm_agree.after rfl ?_
                refine setRedRegs_agree.after rfl ?_
                assumption

theorem execRedTensor_agree {x0 x1 x2 t} (h : @execRedTensor x0 x1 x2 = .next t) : Agree 6127392 x2 t := by
  unfold execRedTensor at h
  cases h
  unfold runRed
  refine redSettle_agree.after rfl ?_
  refine runEntry_agree rfl (fun s0 e1 => ?_)
  refine redTensorBody_agree.vafter rfl ?_
  exact Agree.refl _ _

theorem redContribBody_agree {x0 x1 x2} : VAgree 5071392 x1 (@redContribBody x0 x1 x2) := by
  unfold redContribBody
  extract_lets +onlyGivenNames v0
  clear_value v0
  extract_lets +onlyGivenNames v1
  clear_value v1
  extract_lets +onlyGivenNames v2
  clear_value v2
  extract_lets +onlyGivenNames v3
  clear_value v3
  extract_lets +onlyGivenNames v4
  clear_value v4
  split
  · refine VAgree.ite ?_ ?_
    · exact True.intro
    · exact True.intro
  · refine VAgree.ite ?_ ?_
    · exact True.intro
    · split
      · exact True.intro
      · refine VAgree.ite ?_ ?_
        · exact True.intro
        · split
          · exact True.intro
          · extract_lets +onlyGivenNames v5
            clear_value v5
            extract_lets +onlyGivenNames v6
            clear_value v6
            extract_lets +onlyGivenNames v7
            clear_value v7
            extract_lets +onlyGivenNames v8
            clear_value v8
            extract_lets +onlyGivenNames v9
            clear_value v9
            extract_lets +onlyGivenNames v10
            clear_value v10
            refine VAgree.ite ?_ ?_
            · exact True.intro
            · refine VAgree.ite ?_ ?_
              · exact True.intro
              · refine VAgree.ite ?_ ?_
                · exact True.intro
                · extract_lets +onlyGivenNames v11
                  clear_value v11
                  extract_lets +onlyGivenNames v12
                  clear_value v12
                  extract_lets +onlyGivenNames v13
                  clear_value v13
                  extract_lets +onlyGivenNames v14
                  have hv14 : Agree 5071392 x1 v14 := by
                    unfold v14
                    refine readUnits_agree.after rfl ?_
                    exact Agree.refl _ _
                  clear_value v14
                  extract_lets +onlyGivenNames v15
                  have hv15 : Agree 5071392 x1 v15 := by
                    unfold v15
                    refine bump_agree.after rfl ?_
                    assumption
                  clear_value v15
                  extract_lets +onlyGivenNames v16
                  have hv16 : Agree 5071392 x1 v16 := by
                    unfold v16
                    refine modEpoch_agree.after rfl ?_
                    assumption
                  clear_value v16
                  extract_lets +onlyGivenNames v17
                  have hv17 : Agree 5071392 x1 v17 := by
                    unfold v17
                    refine Agree.foldl (fun a18 b19 h20 => ?_) ?_
                    · refine startBlock_agree.after rfl ?_
                      assumption
                    · refine setRedRegs_agree.after rfl ?_
                      assumption
                  clear_value v17
                  show Agree 5071392 x1 _
                  assumption

theorem execRedContrib_agree {x0 x1 x2 t} (h : @execRedContrib x0 x1 x2 = .next t) : Agree 6127392 x2 t := by
  unfold execRedContrib at h
  cases h
  unfold runRed
  refine redSettle_agree.after rfl ?_
  refine runEntry_agree rfl (fun s0 e1 => ?_)
  refine redContribBody_agree.vafter rfl ?_
  exact Agree.refl _ _

theorem redCloseBody_agree {x0 x1 x2} : VAgree 81952 x1 (@redCloseBody x0 x1 x2) := by
  unfold redCloseBody
  extract_lets +onlyGivenNames v0
  clear_value v0
  extract_lets +onlyGivenNames v1
  clear_value v1
  refine VAgree.ite ?_ ?_
  · exact True.intro
  · refine VAgree.ite ?_ ?_
    · exact True.intro
    · refine VAgree.ite ?_ ?_
      · exact True.intro
      · extract_lets +onlyGivenNames v2
        have hv2 : Agree 81952 x1 v2 := by
          unfold v2
          refine modEpoch_agree.after rfl ?_
          refine openEpoch_agree.after rfl ?_
          exact Agree.refl _ _
        clear_value v2
        show Agree 81952 x1 _
        refine maybeOk_agree.after rfl ?_
        refine setRedRegs_agree.after rfl ?_
        assumption

theorem execRedClose_agree {x0 x1 x2 t} (h : @execRedClose x0 x1 x2 = .next t) : Agree 6127392 x2 t := by
  unfold execRedClose at h
  cases h
  unfold runRed
  refine redSettle_agree.after rfl ?_
  refine runEntry_agree rfl (fun s0 e1 => ?_)
  refine redCloseBody_agree.vafter rfl ?_
  exact Agree.refl _ _

theorem redDeadline_agree {x0 x1 x2 x3 x4 x5} : Agree 81968 x5 (@redDeadline x0 x1 x2 x3 x4 x5) := by
  unfold redDeadline
  extract_lets +onlyGivenNames v0
  have hv0 : Agree 81968 x5 v0 := by
    unfold v0
    refine advance_agree.after rfl ?_
    exact Agree.refl _ _
  clear_value v0
  split
  · assumption
  · extract_lets +onlyGivenNames v1
    clear_value v1
    extract_lets +onlyGivenNames v2
    clear_value v2
    extract_lets +onlyGivenNames v3
    have hv3 : Agree 81968 x5 v3 := by
      unfold v3
      refine bump_agree.after rfl ?_
      assumption
    clear_value v3
    extract_lets +onlyGivenNames v4
    have hv4 : Agree 81968 x5 v4 := by
      unfold v4
      refine modTensor_agree.after rfl ?_
      assumption
    clear_value v4
    split
    · assumption
    · refine Agree.foldl (fun a5 b6 h7 => ?_) ?_
      · refine redSend_agree.after rfl ?_
        assumption
      · assumption

theorem execRedDeadline_agree {x0 x1 x2 x3 x4 x5 t} (h : @execRedDeadline x0 x1 x2 x3 x4 x5 = .next t) : Agree 5075760 x5 t := by
  unfold execRedDeadline at h
  cases h
  refine redSettle_agree.after rfl ?_
  refine redDeadline_agree.after rfl ?_
  exact Agree.refl _ _

theorem redGiveup_agree {x0 x1 x2 x3} : Agree 81936 x3 (@redGiveup x0 x1 x2 x3) := by
  unfold redGiveup
  extract_lets +onlyGivenNames v0
  have hv0 : Agree 81936 x3 v0 := by
    unfold v0
    refine advance_agree.after rfl ?_
    exact Agree.refl _ _
  clear_value v0
  split
  · refine Agree.ite ?_ ?_
    · refine redFail_agree.after rfl ?_
      refine modEpoch_agree.after rfl ?_
      assumption
    · assumption
  · assumption

theorem execRedGiveup_agree {x0 x1 x2 x3 t} (h : @execRedGiveup x0 x1 x2 x3 = .next t) : Agree 5075760 x3 t := by
  unfold execRedGiveup at h
  cases h
  refine redSettle_agree.after rfl ?_
  refine redGiveup_agree.after rfl ?_
  exact Agree.refl _ _

theorem execEpochLocalFail_agree {x0 x1 x2 x3 t} (h : @execEpochLocalFail x0 x1 x2 x3 = .next t) : Agree 5075760 x3 t := by
  unfold execEpochLocalFail at h
  cases h
  refine redSettle_agree.after rfl ?_
  refine epochLocalFail_agree.after rfl ?_
  exact Agree.refl _ _

end Sys2Proof.Laws
end

