-- ==== Sys2Proof/Laws/AgreeDrain.lean ====
section
/-! SUPPORT. What the operations of Machine/Drain.lean leave alone: for each, the areas it may change, as the bits of a mask in
the numbering of `Area.idx`. -/

namespace Sys2Proof.Laws

open Sys2Proof Sys2Proof.Machine Sys2Proof.Safety Sys2Proof.Frame

theorem setDrainRegs_agree {x0 x1} : Agree 32 x0 (@setDrainRegs x0 x1) := by
  unfold setDrainRegs
  split
  · exact Agree.refl _ _
  · extract_lets +onlyGivenNames v0
    clear_value v0
    extract_lets +onlyGivenNames v1
    clear_value v1
    extract_lets +onlyGivenNames v2
    have hv2 : Agree 32 x0 v2 := by
      unfold v2
      refine setF_agree.after rfl ?_
      refine setF_agree.after rfl ?_
      exact Agree.refl _ _
    clear_value v2
    extract_lets +onlyGivenNames v3
    have hv3 : Agree 32 x0 v3 := by
      unfold v3
      refine setF_agree.after rfl ?_
      refine setF_agree.after rfl ?_
      assumption
    clear_value v3
    refine setF_agree.after rfl ?_
    refine setF_agree.after rfl ?_
    assumption

theorem setDest_agree {x0 x1 x2 x3 x4} : Agree 16416 x0 (@setDest x0 x1 x2 x3 x4) := by
  unfold setDest
  refine setDrainRegs_agree.after rfl ?_
  refine modPart_agree.after rfl ?_
  exact Agree.refl _ _

theorem abandonDest_agree {x0 x1 x2 x3} : Agree 5062688 x0 (@abandonDest x0 x1 x2 x3) := by
  unfold abandonDest
  extract_lets +onlyGivenNames v0
  clear_value v0
  extract_lets +onlyGivenNames v1
  have hv1 : Agree 5062688 x0 v1 := by
    unfold v1
    refine setDest_agree.after rfl ?_
    exact Agree.refl _ _
  clear_value v1
  extract_lets +onlyGivenNames v2
  have hv2 : Agree 5062688 x0 v2 := by
    unfold v2
    refine bump_agree.after rfl ?_
    refine logEvent_agree.after rfl ?_
    assumption
  clear_value v2
  refine Agree.ite ?_ ?_
  · assumption
  · refine raiseCause_agree.after rfl ?_
    assumption

theorem readRuns_agree {x0 x1} : Agree 5055008 x0 (@readRuns x0 x1) := by
  unfold readRuns
  refine readUnits_agree.after rfl ?_
  exact Agree.refl _ _

theorem drainMsg_agree {x0 x1 x2 x3 x4 x5} : Agree 65536 x0 (@drainMsg x0 x1 x2 x3 x4 x5) := by
  unfold drainMsg
  extract_lets +onlyGivenNames v0
  clear_value v0
  extract_lets +onlyGivenNames v1
  clear_value v1
  extract_lets +onlyGivenNames v2
  have hv2 : Agree 65536 x0 v2 := by
    unfold v2
    refine Agree.updMk ?_ (Nat.le_refl _) (flashUp_refl _) rfl rfl rfl ⟨rfl, rfl, rfl, rfl, rfl⟩ (fun a h => by cases a <;> first | exact absurd h (by decide) | exact rfl | exact ⟨rfl, rfl⟩)
    exact Agree.refl _ _
  clear_value v2
  refine sendMsg_agree.after rfl ?_
  assumption

theorem mcastReject_agree {x0} : Agree 32 x0 (@mcastReject x0) := by
  unfold mcastReject
  refine bump_agree.after rfl ?_
  exact Agree.refl _ _

theorem putMcastRx_agree {x0 x1} : Agree 65536 x0 (@putMcastRx x0 x1) := by
  unfold putMcastRx
  refine Agree.updMk ?_ (Nat.le_refl _) (flashUp_refl _) rfl rfl rfl ⟨rfl, rfl, rfl, rfl, rfl⟩ (fun a h => by cases a <;> first | exact absurd h (by decide) | exact rfl | exact ⟨rfl, rfl⟩)
  exact Agree.refl _ _

theorem stageBytes_agree {x0 x1 x2 x3 x4} : Agree 65568 x0 (@stageBytes x0 x1 x2 x3 x4) := by
  unfold stageBytes
  refine Agree.ite ?_ ?_
  · refine mcastReject_agree.after rfl ?_
    exact Agree.refl _ _
  · extract_lets +onlyGivenNames v0
    clear_value v0
    refine putMcastRx_agree.after rfl ?_
    exact Agree.refl _ _

theorem sendStream_agree {x0 x1 x2 x3 x4 x5} : Agree 65568 x0 (@sendStream x0 x1 x2 x3 x4 x5) := by
  unfold sendStream
  split
  · split
    · refine Agree.foldl (fun a0 b1 h2 => ?_) ?_
      · refine drainMsg_agree.after rfl ?_
        assumption
      · exact Agree.refl _ _
    · exact Agree.refl _ _
  · refine Agree.foldl (fun a3 b4 h5 => ?_) ?_
    · refine drainMsg_agree.after rfl ?_
      assumption
    · exact Agree.refl _ _
  · split
    · exact Agree.refl _ _
    · refine Agree.foldl (fun a6 b7 h8 => ?_) ?_
      · extract_lets +onlyGivenNames v9
        clear_value v9
        extract_lets +onlyGivenNames v10
        clear_value v10
        extract_lets +onlyGivenNames v11
        have hv11 : Agree 65568 x0 v11 := by
          unfold v11
          refine sendMsg_agree.after rfl ?_
          assumption
        clear_value v11
        refine Agree.ite ?_ ?_
        · refine stageBytes_agree.after rfl ?_
          assumption
        · assumption
      · exact Agree.refl _ _

theorem sendHead_agree {x0 x1 x2 x3 x4} : Agree 5071392 x0 (@sendHead x0 x1 x2 x3 x4).1 := by
  unfold sendHead
  split
  · dsimp only
    exact Agree.refl _ _
  · split
    · dsimp only
      exact Agree.refl _ _
    · extract_lets +onlyGivenNames v0
      clear_value v0
      split
      · extract_lets +onlyGivenNames v1
        clear_value v1
        extract_lets +onlyGivenNames v2
        have hv2 : Agree 5071392 x0 v2 := by
          unfold v2
          refine readRuns_agree.after rfl ?_
          exact Agree.refl _ _
        clear_value v2
        extract_lets +onlyGivenNames v3
        clear_value v3
        extract_lets +onlyGivenNames v4
        have hv4 : Agree 5071392 x0 v4 := by
          unfold v4
          refine sendStream_agree.after rfl ?_
          assumption
        clear_value v4
        split
        · extract_lets +onlyGivenNames v5
          clear_value v5
          extract_lets +onlyGivenNames v6
          have hv6 : Agree 5071392 x0 v6 := by
            unfold v6
            refine sendStream_agree.after rfl ?_
            assumption
          clear_value v6
          extract_lets +onlyGivenNames v7
          clear_value v7
          dsimp only
          refine sendMsg_agree.after rfl ?_
          assumption
        · assumption
      · extract_lets +onlyGivenNames v8
        have hv8 : Agree 5071392 x0 v8 := by
          unfold v8
          refine readRuns_agree.after rfl ?_
          exact Agree.refl _ _
        clear_value v8
        extract_lets +onlyGivenNames v9
        clear_value v9
        extract_lets +onlyGivenNames v10
        clear_value v10
        extract_lets +onlyGivenNames v11
        clear_value v11
        extract_lets +onlyGivenNames v12
        clear_value v12
        extract_lets +onlyGivenNames v13
        clear_value v13
        extract_lets +onlyGivenNames v14
        have hv14 : Agree 5071392 x0 v14 := by
          unfold v14
          refine Agree.ite ?_ ?_
          · split
            · refine drainMsg_agree.after rfl ?_
              assumption
            · assumption
          · assumption
        clear_value v14
        extract_lets +onlyGivenNames v15
        have hv15 : Agree 5071392 x0 v15 := by
          unfold v15
          refine sendStream_agree.after rfl ?_
          assumption
        clear_value v15
        extract_lets +onlyGivenNames v16
        clear_value v16
        extract_lets +onlyGivenNames v17
        have hv17 : Agree 5071392 x0 v17 := by
          unfold v17
          refine Agree.ite ?_ ?_
          · refine modPart_agree.after rfl ?_
            assumption
          · assumption
        clear_value v17
        assumption

theorem startDrain_agree {x0 x1 x2 x3 x4} : Agree 5071392 x0 (@startDrain x0 x1 x2 x3 x4) := by
  unfold startDrain
  split
  · exact Agree.refl _ _
  · extract_lets +onlyGivenNames v0
    clear_value v0
    extract_lets +onlyGivenNames v1
    clear_value v1
    extract_lets +onlyGivenNames v2
    clear_value v2
    extract_lets +onlyGivenNames v3
    clear_value v3
    extract_lets +onlyGivenNames v4
    clear_value v4
    extract_lets +onlyGivenNames v5
    clear_value v5
    extract_lets +onlyGivenNames v6
    clear_value v6
    extract_lets +onlyGivenNames v7
    clear_value v7
    extract_lets +onlyGivenNames v8
    have hv8 : Agree 5071392 x0 v8 := by
      unfold v8
      refine modPart_agree.after rfl ?_
      exact Agree.refl _ _
    clear_value v8
    split
    refine setDrainRegs_agree.after rfl ?_
    refine modPart_agree.after rfl ?_
    refine Agree.ofPair (by assumption) ?_
    refine Agree.foldlFst (fun a9 b10 h11 => ?_) ?_
    · split
      dsimp only
      refine Agree.ofPair (by assumption) ?_
      refine sendHead_agree.after rfl ?_
      assumption
    · assumption

theorem incomingCopy_agree {x0 x1 x2 x3 x4} : Agree 5062688 x0 (@incomingCopy x0 x1 x2 x3 x4) := by
  unfold incomingCopy
  extract_lets +onlyGivenNames v0
  clear_value v0
  extract_lets +onlyGivenNames v1
  extract_lets +onlyGivenNames v2
  clear_value v2
  split
  · unfold v1
    refine logEvent_agree.after rfl ?_
    exact Agree.refl _ _
  · refine Agree.ite ?_ ?_
    · unfold v1
      refine logEvent_agree.after rfl ?_
      exact Agree.refl _ _
    · extract_lets +onlyGivenNames v3
      clear_value v3
      unfold v1
      refine logEvent_agree.after rfl ?_
      refine setPart_agree.after rfl ?_
      exact Agree.refl _ _
  · extract_lets +onlyGivenNames v4
    clear_value v4
    refine setPart_agree.after rfl ?_
    exact Agree.refl _ _

theorem endCopy_agree {x0 x1 x2 x3} : Agree 5062688 x0 (@endCopy x0 x1 x2 x3) := by
  unfold endCopy
  extract_lets +onlyGivenNames v0
  clear_value v0
  extract_lets +onlyGivenNames v1
  have hv1 : Agree 5062688 x0 v1 := by
    unfold v1
    refine putMcastRx_agree.after rfl ?_
    exact Agree.refl _ _
  clear_value v1
  refine Agree.ite ?_ ?_
  · refine incomingCopy_agree.after rfl ?_
    assumption
  · assumption

theorem drainComplete_agree {x0 x1 x2 x3} : Agree 5071392 x0 (@drainComplete x0 x1 x2 x3) := by
  unfold drainComplete
  split
  · split
    · exact Agree.refl _ _
    · refine Agree.ite ?_ ?_
      · exact Agree.refl _ _
      · split
        extract_lets +onlyGivenNames v0
        have hv0 : Agree 5071392 x0 v0 := by
          unfold v0
          refine setDest_agree.after rfl ?_
          refine Agree.ofPair (by assumption) ?_
          refine sendHead_agree.after rfl ?_
          exact Agree.refl _ _
        clear_value v0
        split
        · split
          · refine Agree.ite ?_ ?_
            · refine endCopy_agree.after rfl ?_
              assumption
            · assumption
          · assumption
        · assumption
  · exact Agree.refl _ _

theorem drainGiveup_agree {x0 x1 x2 x3} : Agree 5062704 x3 (@drainGiveup x0 x1 x2 x3) := by
  unfold drainGiveup
  extract_lets +onlyGivenNames v0
  have hv0 : Agree 5062704 x3 v0 := by
    unfold v0
    refine advance_agree.after rfl ?_
    exact Agree.refl _ _
  clear_value v0
  split
  · split
    · assumption
    · refine Agree.ite ?_ ?_
      · assumption
      · refine abandonDest_agree.after rfl ?_
        assumption
  · assumption

theorem execDrainGiveup_agree {x0 x1 x2 x3 t} (h : @execDrainGiveup x0 x1 x2 x3 = .next t) : Agree 5062704 x3 t := by
  unfold execDrainGiveup at h
  cases h
  refine drainGiveup_agree.after rfl ?_
  exact Agree.refl _ _

theorem execDrainComplete_agree {x0 x1 x2 x3 t} (h : @execDrainComplete x0 x1 x2 x3 = .next t) : Agree 5071392 x3 t := by
  unfold execDrainComplete at h
  cases h
  refine drainComplete_agree.after rfl ?_
  exact Agree.refl _ _

end Sys2Proof.Laws
end

