-- ==== Sys2Proof/Laws/AgreeUpdate.lean ====
section
/-! SUPPORT. What the operations of Machine/Update.lean leave alone: for each, the areas it may change, as the bits of a mask in
the numbering of `Area.idx`. -/

namespace Sys2Proof.Laws

open Sys2Proof Sys2Proof.Machine Sys2Proof.Safety Sys2Proof.Frame

theorem moveBytes_agree {x0 x1 x2 x3} : Agree 5055264 x0 (@moveBytes x0 x1 x2 x3) := by
  unfold moveBytes
  refine writeSet_agree.after rfl ?_
  refine readUnits_agree.after rfl ?_
  exact Agree.refl _ _

theorem copySet_agree {x0 x1 x2} : Agree 5055264 x0 (@copySet x0 x1 x2) := by
  unfold copySet
  extract_lets +onlyGivenNames v0
  clear_value v0
  extract_lets +onlyGivenNames v1
  clear_value v1
  refine Agree.foldl (fun a2 b3 h4 => ?_) ?_
  · refine moveBytes_agree.after rfl ?_
    assumption
  · exact Agree.refl _ _

theorem stormReset_agree {x0 x1 x2} : Agree 16384 x0 (@stormReset x0 x1 x2) := by
  unfold stormReset
  refine modPart_agree.after rfl ?_
  exact Agree.refl _ _

theorem appendAll_agree {x0 x1 x2} : Agree 16384 x0 (@appendAll x0 x1 x2) := by
  unfold appendAll
  refine Agree.ite ?_ ?_
  · exact Agree.refl _ _
  · refine modPart_agree.after rfl ?_
    exact Agree.refl _ _

theorem acceptStep_agree {x0 x1 x2 x3} : Agree 5071648 x0 (@acceptStep x0 x1 x2 x3) := by
  unfold acceptStep
  extract_lets +onlyGivenNames v0
  clear_value v0
  extract_lets +onlyGivenNames v1
  clear_value v1
  extract_lets +onlyGivenNames v2
  have hv2 : Agree 5071648 x0 v2 := by
    unfold v2
    refine Agree.foldl (fun a3 b4 h5 => ?_) ?_
    · refine Agree.ite ?_ ?_
      · refine copySet_agree.after rfl ?_
        assumption
      · assumption
    · exact Agree.refl _ _
  clear_value v2
  extract_lets +onlyGivenNames v6
  have hv6 : Agree 5071648 x0 v6 := by
    unfold v6
    refine bump_agree.after rfl ?_
    assumption
  clear_value v6
  extract_lets +onlyGivenNames v7
  clear_value v7
  extract_lets +onlyGivenNames v8
  clear_value v8
  extract_lets +onlyGivenNames v9
  clear_value v9
  extract_lets +onlyGivenNames v10
  have hv10 : Agree 5071648 x0 v10 := by
    unfold v10
    refine stormReset_agree.after rfl ?_
    refine appendAll_agree.after rfl ?_
    assumption
  clear_value v10
  extract_lets +onlyGivenNames v11
  clear_value v11
  refine modPart_agree.after rfl ?_
  assumption

theorem logWarm_agree {x0 x1 x2 x3} : Agree 5046304 x0 (@logWarm x0 x1 x2 x3) := by
  unfold logWarm
  extract_lets +onlyGivenNames v0
  clear_value v0
  refine Agree.ite ?_ ?_
  · refine logEvent_agree.after rfl ?_
    exact Agree.refl _ _
  · refine Agree.ite ?_ ?_
    · refine logEvent_agree.after rfl ?_
      exact Agree.refl _ _
    · exact Agree.refl _ _

theorem skipStep_agree {x0 x1 x2} : Agree 16416 x0 (@skipStep x0 x1 x2) := by
  unfold skipStep
  extract_lets +onlyGivenNames v0
  clear_value v0
  refine modPart_agree.after rfl ?_
  refine stormReset_agree.after rfl ?_
  refine bump_agree.after rfl ?_
  exact Agree.refl _ _

theorem writeNorms_agree {x0 x1 x2 x3} : Agree 5071648 x0 (@writeNorms x0 x1 x2 x3).1 := by
  unfold writeNorms
  extract_lets +onlyGivenNames v0
  clear_value v0
  extract_lets +onlyGivenNames v1
  clear_value v1
  extract_lets +onlyGivenNames v2
  clear_value v2
  split
  · dsimp only
    exact Agree.refl _ _
  · extract_lets +onlyGivenNames v3
    clear_value v3
    extract_lets +onlyGivenNames v4
    clear_value v4
    extract_lets +onlyGivenNames v5
    have hv5 : Agree 5071648 x0 v5 := by
      unfold v5
      refine Agree.ite ?_ ?_
      · exact Agree.refl _ _
      · refine writeBytes_agree.after rfl ?_
        exact Agree.refl _ _
    clear_value v5
    dsimp only
    refine modPart_agree.after rfl ?_
    assumption

theorem commitBody_agree {x0 x1 x2} : VAgree 5071648 x1 (@commitBody x0 x1 x2) := by
  unfold commitBody
  extract_lets +onlyGivenNames v0
  clear_value v0
  extract_lets +onlyGivenNames v1
  clear_value v1
  refine VAgree.ite ?_ ?_
  · exact True.intro
  · refine VAgree.ite ?_ ?_
    · exact True.intro
    · extract_lets +onlyGivenNames v2
      clear_value v2
      extract_lets +onlyGivenNames v3
      clear_value v3
      extract_lets +onlyGivenNames v4
      clear_value v4
      extract_lets +onlyGivenNames v5
      clear_value v5
      extract_lets +onlyGivenNames v6
      have hv6 : Agree 5071648 x1 v6 := by
        unfold v6
        refine Agree.ite ?_ ?_
        · refine skipStep_agree.after rfl ?_
          exact Agree.refl _ _
        · refine acceptStep_agree.after rfl ?_
          exact Agree.refl _ _
      clear_value v6
      extract_lets +onlyGivenNames v7
      have hv7 : Agree 5071648 x1 v7 := by
        unfold v7
        refine logWarm_agree.after rfl ?_
        assumption
      clear_value v7
      extract_lets +onlyGivenNames v8
      have hv8 : Agree 5071648 x1 v8 := by
        unfold v8
        refine writeTrace_agree.after rfl ?_
        assumption
      clear_value v8
      split
      extract_lets +onlyGivenNames v9
      have hv9 : Agree 5071648 x1 v9 := by
        unfold v9
        refine setF_agree.after rfl ?_
        refine Agree.ofPair (by assumption) ?_
        refine writeNorms_agree.after rfl ?_
        assumption
      clear_value v9
      extract_lets +onlyGivenNames v10
      clear_value v10
      extract_lets +onlyGivenNames v11
      have hv11 : Agree 5071648 x1 v11 := by
        unfold v11
        refine modPart_agree.after rfl ?_
        assumption
      clear_value v11
      extract_lets +onlyGivenNames v12
      have hv12 : Agree 5071648 x1 v12 := by
        unfold v12
        refine Agree.ite ?_ ?_
        · assumption
        · refine startDrain_agree.after rfl ?_
          assumption
      clear_value v12
      extract_lets +onlyGivenNames v13
      have hv13 : Agree 5071648 x1 v13 := by
        unfold v13
        refine setFbState_agree.after rfl ?_
        refine spillFullStart_agree.after rfl ?_
        assumption
      clear_value v13
      show Agree 5071648 x1 _
      assumption

theorem emitBody_agree {x0 x1 x2} : VAgree 5071648 x1 (@emitBody x0 x1 x2) := by
  unfold emitBody
  extract_lets +onlyGivenNames v0
  clear_value v0
  split
  · exact True.intro
  · refine VAgree.ite ?_ ?_
    · exact True.intro
    · extract_lets +onlyGivenNames v1
      have hv1 : Agree 5071648 x1 v1 := by
        unfold v1
        refine Agree.ite ?_ ?_
        · refine reemitCopy_agree.after rfl ?_
          exact Agree.refl _ _
        · exact Agree.refl _ _
      clear_value v1
      extract_lets +onlyGivenNames v2
      have hv2 : Agree 5071648 x1 v2 := by
        unfold v2
        refine Agree.ite ?_ ?_
        · refine reemitCopy_agree.after rfl ?_
          assumption
        · assumption
      clear_value v2
      extract_lets +onlyGivenNames v3
      clear_value v3
      show Agree 5071648 x1 _
      assumption

theorem updFinish_agree {s0 s c t mask r act alt emit g gn clip} :
    Agree 5071648 s (updFinish s0 s c t mask r act alt emit g gn clip) := by
  unfold updFinish
  extract_lets +onlyGivenNames v0
  clear_value v0
  extract_lets +onlyGivenNames v1
  clear_value v1
  extract_lets +onlyGivenNames v2
  clear_value v2
  extract_lets +onlyGivenNames v3
  clear_value v3
  extract_lets +onlyGivenNames v4
  clear_value v4
  extract_lets +onlyGivenNames v5
  have hv5 : Agree 5071648 s v5 := by
    unfold v5
    refine commitWrites_agree.after rfl ?_
    exact Agree.refl _ _
  clear_value v5
  extract_lets +onlyGivenNames v6
  clear_value v6
  extract_lets +onlyGivenNames v7
  clear_value v7
  extract_lets +onlyGivenNames v8
  clear_value v8
  extract_lets +onlyGivenNames v9
  clear_value v9
  extract_lets +onlyGivenNames v10
  clear_value v10
  extract_lets +onlyGivenNames v11
  clear_value v11
  extract_lets +onlyGivenNames v12
  clear_value v12
  extract_lets +onlyGivenNames v13
  clear_value v13
  extract_lets +onlyGivenNames v14
  have hv14 : Agree 5071648 s v14 := by
    unfold v14
    refine Agree.ite ?_ ?_
    · refine emitCopy_agree.after rfl ?_
      assumption
    · assumption
  clear_value v14
  extract_lets +onlyGivenNames v15
  have hv15 : Agree 5071648 s v15 := by
    unfold v15
    refine Agree.ite ?_ ?_
    · refine emitCopy_agree.after rfl ?_
      assumption
    · assumption
  clear_value v15
  extract_lets +onlyGivenNames v16
  have hv16 : Agree 5071648 s v16 := by
    unfold v16
    refine bump_agree.after rfl ?_
    refine bump_agree.after rfl ?_
    assumption
  clear_value v16
  refine modPart_agree.after rfl ?_
  assumption

theorem updateBody_agree {c s e} : VAgree 5071649 s (updateBody c s e) := by
  unfold updateBody
  extract_lets +onlyGivenNames emit hGrad hMask ep uses refuse
  have hr : ∀ x, VAgree 5071649 s (refuse x) := fun _ => trivial
  clear_value refuse
  split
  · exact hr _
  · extract_lets +onlyGivenNames uses2
    clear_value uses2
    refine VAgree.ite (hr _) ?_
    split
    · refine VAgree.ite trivial ?_
      split
      · trivial
      · trivial
      · extract_lets +onlyGivenNames grad act alt
        refine VAgree.ite trivial (VAgree.ite trivial ?_)
        extract_lets +onlyGivenNames clip mask sMask s0
        have hm : Agree 5071649 s sMask := readUnits_agree.mono rfl
        clear_value sMask
        have h0 : Agree 5071649 s s0 :=
          Agree.updMk hm (Nat.le_succ _) (flashUp_refl _) rfl rfl rfl ⟨rfl, rfl, rfl, rfl, rfl⟩
            (fun a h => by cases a <;> first | exact absurd h (by decide) | exact rfl | exact ⟨rfl, rfl⟩)
        clear_value s0 clip mask
        have h1 : ∀ r, Agree 5071649 s (runWhole c.f s0 r).1 := fun _ => runWhole_agree.after rfl h0
        revert h1
        generalize hx : updStart _ _ _ _ _ _ _ _ = x
        intro h1
        replace h1 := h1 x
        generalize runWhole c.f s0 x = y at h1
        obtain ⟨s1, r⟩ := y
        dsimp only at h1
        dsimp only
        split
        · exact recordFault_agree.after rfl h1
        · refine VAgree.ite ?_ ?_
          · exact updFinish_agree.after rfl h1
          · exact updFinish_agree.after rfl h1
    · trivial

theorem execUpdate_agree {x0 x1 x2 t} (h : @execUpdate x0 x1 x2 = .next t) : Agree 6127393 x2 t := by
  unfold execUpdate at h
  cases h
  refine Agree.ite ?_ ?_
  · exact Agree.refl _ _
  · refine runEntry_agree rfl (fun s0 e1 => ?_)
    refine updateBody_agree.vafter rfl ?_
    exact Agree.refl _ _

theorem execEmitOnly_agree {x0 x1 x2 t} (h : @execEmitOnly x0 x1 x2 = .next t) : Agree 6127392 x2 t := by
  unfold execEmitOnly at h
  cases h
  refine Agree.ite ?_ ?_
  · refine runEntry_agree rfl (fun s0 e1 => ?_)
    refine emitBody_agree.vafter rfl ?_
    exact Agree.refl _ _
  · exact Agree.refl _ _

theorem execStepCommit_agree {x0 x1 x2 t} (h : @execStepCommit x0 x1 x2 = .next t) : Agree 6127392 x2 t := by
  unfold execStepCommit at h
  cases h
  refine runEntry_agree rfl (fun s0 e1 => ?_)
  refine commitBody_agree.vafter rfl ?_
  exact Agree.refl _ _

end Sys2Proof.Laws
end

