-- ==== Sys2Proof/Laws/AgreeRoute.lean ====
section
/-! SUPPORT. What the operations of Machine/Route.lean leave alone: for each, the areas it may change, as the bits of a mask in
the numbering of `Area.idx`. -/

namespace Sys2Proof.Laws

open Sys2Proof Sys2Proof.Machine Sys2Proof.Safety Sys2Proof.Frame

theorem checkSeq_agree {x0 x1} : Agree 65568 x0 (@checkSeq x0 x1) := by
  unfold checkSeq
  refine Agree.ite ?_ ?_
  · extract_lets +onlyGivenNames v0
    clear_value v0
    extract_lets +onlyGivenNames v1
    clear_value v1
    refine bump_agree.after rfl ?_
    refine Agree.updMk ?_ (Nat.le_refl _) (flashUp_refl _) rfl rfl rfl ⟨rfl, rfl, rfl, rfl, rfl⟩ (fun a h => by cases a <;> first | exact absurd h (by decide) | exact rfl | exact ⟨rfl, rfl⟩)
    exact Agree.refl _ _
  · exact Agree.refl _ _

theorem decideVia_agree {x0 x1} : Agree 1 x0 (@decideVia x0 x1).1 := by
  unfold decideVia
  split
  · extract_lets +onlyGivenNames v0
    clear_value v0
    extract_lets +onlyGivenNames v1
    clear_value v1
    extract_lets +onlyGivenNames v2
    have hv2 : Agree 1 x0 v2 := by
      unfold v2
      refine Agree.updMk ?_ (Nat.le_succ _) (flashUp_refl _) rfl rfl rfl ⟨rfl, rfl, rfl, rfl, rfl⟩ (fun a h => by cases a <;> first | exact absurd h (by decide) | exact rfl | exact ⟨rfl, rfl⟩)
      exact Agree.refl _ _
    clear_value v2
    split
    · refine Agree.iteFst ?_ ?_
      · assumption
      · assumption
    · assumption
  · dsimp only
    exact Agree.refl _ _

theorem takeMsg_agree {x0 x1} : Agree 98304 x0 (@takeMsg x0 x1) := by
  unfold takeMsg
  refine Agree.ite ?_ ?_
  · refine Agree.updMk ?_ (Nat.le_refl _) (flashUp_refl _) rfl rfl rfl ⟨rfl, rfl, rfl, rfl, rfl⟩ (fun a h => by cases a <;> first | exact absurd h (by decide) | exact rfl | exact ⟨rfl, rfl⟩)
    exact Agree.refl _ _
  · refine modPort_agree.after rfl ?_
    exact Agree.refl _ _

theorem queueOn_agree {x0 x1 x2} : Agree 32768 x0 (@queueOn x0 x1 x2) := by
  unfold queueOn
  refine modPort_agree.after rfl ?_
  exact Agree.refl _ _

theorem takeHop_agree {x0 x1 x2 x3} : Agree 32800 x0 (@takeHop x0 x1 x2 x3) := by
  unfold takeHop
  split
  · refine bump_agree.after rfl ?_
    refine queueOn_agree.after rfl ?_
    exact Agree.refl _ _
  · refine bump_agree.after rfl ?_
    exact Agree.refl _ _

theorem forwardMsg_agree {x0 x1} : Agree 32800 x0 (@forwardMsg x0 x1) := by
  unfold forwardMsg
  refine Agree.ite ?_ ?_
  · refine bump_agree.after rfl ?_
    exact Agree.refl _ _
  · extract_lets +onlyGivenNames v0
    clear_value v0
    extract_lets +onlyGivenNames v1
    clear_value v1
    refine takeHop_agree.after rfl ?_
    exact Agree.refl _ _

theorem forwardRow_agree {x0 x1} : Agree 98336 x1 (@forwardRow x0 x1) := by
  unfold forwardRow
  extract_lets +onlyGivenNames v0
  have hv0 : Agree 98336 x1 v0 := by
    unfold v0
    refine takeMsg_agree.after rfl ?_
    exact Agree.refl _ _
  clear_value v0
  refine Agree.ite ?_ ?_
  · refine bump_agree.after rfl ?_
    assumption
  · refine Agree.ite ?_ ?_
    · exact Agree.refl _ _
    · refine Agree.ite ?_ ?_
      · assumption
      · refine forwardMsg_agree.after rfl ?_
        assumption

theorem execForward_agree {x0 x1 t} (h : @execForward x0 x1 = .next t) : Agree 98336 x1 t := by
  unfold execForward at h
  cases h
  refine forwardRow_agree.after rfl ?_
  exact Agree.refl _ _

theorem sampleShared_agree {x0 x1} : Agree 32 x0 (@sampleShared x0 x1) := by
  unfold sampleShared
  refine bump_agree.after rfl ?_
  exact Agree.refl _ _

theorem sampleHop_agree {x0 x1} : Agree 32800 x0 (@sampleHop x0 x1) := by
  unfold sampleHop
  split
  · extract_lets +onlyGivenNames v0
    clear_value v0
    refine Agree.ite ?_ ?_
    · refine queueOn_agree.after rfl ?_
      exact Agree.refl _ _
    · refine takeHop_agree.after rfl ?_
      refine sampleShared_agree.after rfl ?_
      exact Agree.refl _ _
  · split
    · refine queueOn_agree.after rfl ?_
      exact Agree.refl _ _
    · refine takeHop_agree.after rfl ?_
      refine sampleShared_agree.after rfl ?_
      exact Agree.refl _ _
  · refine takeHop_agree.after rfl ?_
    exact Agree.refl _ _

theorem routeOne_agree {x0 x1} : Agree 98337 x0 (@routeOne x0 x1) := by
  unfold routeOne
  extract_lets +onlyGivenNames v0
  clear_value v0
  extract_lets +onlyGivenNames v1
  have hv1 : Agree 98337 x0 v1 := by
    unfold v1
    refine Agree.updMk ?_ (Nat.le_refl _) (flashUp_refl _) rfl rfl rfl ⟨rfl, rfl, rfl, rfl, rfl⟩ (fun a h => by cases a <;> first | exact absurd h (by decide) | exact rfl | exact ⟨rfl, rfl⟩)
    exact Agree.refl _ _
  clear_value v1
  refine Agree.ite ?_ ?_
  · refine Agree.ite ?_ ?_
    · refine Agree.foldl (fun a2 b3 h4 => ?_) ?_
      · refine queueOn_agree.after rfl ?_
        assumption
      · exact Agree.refl _ _
    · assumption
  · refine Agree.ite ?_ ?_
    · assumption
    · refine Agree.ite ?_ ?_
      · refine sampleHop_agree.after rfl ?_
        exact Agree.refl _ _
      · refine Agree.ite ?_ ?_
        · refine takeHop_agree.after rfl ?_
          exact Agree.refl _ _
        · split
          refine takeHop_agree.after rfl ?_
          refine Agree.ofPair (by assumption) ?_
          refine decideVia_agree.after rfl ?_
          exact Agree.refl _ _

theorem routeAll_agree {x0} : Agree 98337 x0 (@routeAll x0) := by
  unfold routeAll
  refine Agree.foldl (fun a0 b1 h2 => ?_) ?_
  · refine routeOne_agree.after rfl ?_
    assumption
  · refine Agree.updMk ?_ (Nat.le_refl _) (flashUp_refl _) rfl rfl rfl ⟨rfl, rfl, rfl, rfl, rfl⟩ (fun a h => by cases a <;> first | exact absurd h (by decide) | exact rfl | exact ⟨rfl, rfl⟩)
    exact Agree.refl _ _

end Sys2Proof.Laws
end

