-- ==== Sys2Proof/Laws/AgreeLink.lean ====
section
/-! SUPPORT. What the operations of Machine/Link.lean leave alone: for each, the areas it may change, as the bits of a mask in
the numbering of `Area.idx`. -/

namespace Sys2Proof.Laws

open Sys2Proof Sys2Proof.Machine Sys2Proof.Safety Sys2Proof.Frame

theorem setPortState_agree {x0 x1 x2} : Agree 32800 x0 (@setPortState x0 x1 x2) := by
  unfold setPortState
  refine setF_agree.after rfl ?_
  refine modPort_agree.after rfl ?_
  exact Agree.refl _ _

theorem enterTrain_agree {x0 x1} : Agree 32800 x0 (@enterTrain x0 x1) := by
  unfold enterTrain
  refine setPortState_agree.after rfl ?_
  refine modPort_agree.after rfl ?_
  exact Agree.refl _ _

theorem buildRoutes_agree {x0} : Agree 32 x0 (@buildRoutes x0) := by
  unfold buildRoutes
  split
  · exact Agree.refl _ _
  · refine Agree.foldl (fun a0 b1 h2 => ?_) ?_
    · refine Agree.ite ?_ ?_
      · assumption
      · refine setReg_agree.after rfl ?_
        assumption
    · exact Agree.refl _ _

theorem downSlots_agree {x0 x1} : Agree 32 x0 (@downSlots x0 x1) := by
  unfold downSlots
  split
  · exact Agree.refl _ _
  · refine Agree.foldl (fun a0 b1 h2 => ?_) ?_
    · extract_lets +onlyGivenNames v3
      clear_value v3
      refine Agree.ite ?_ ?_
      · refine setReg_agree.after rfl ?_
        assumption
      · assumption
    · exact Agree.refl _ _

theorem setGossip_agree {x0 x1} : Agree 65568 x0 (@setGossip x0 x1) := by
  unfold setGossip
  extract_lets +onlyGivenNames v0
  clear_value v0
  extract_lets +onlyGivenNames v1
  have hv1 : Agree 65568 x0 v1 := by
    unfold v1
    refine Agree.updMk ?_ (Nat.le_refl _) (flashUp_refl _) rfl rfl rfl ⟨rfl, rfl, rfl, rfl, rfl⟩ (fun a h => by cases a <;> first | exact absurd h (by decide) | exact rfl | exact ⟨rfl, rfl⟩)
    exact Agree.refl _ _
  clear_value v1
  refine setF_agree.after rfl ?_
  refine setF_agree.after rfl ?_
  assumption

theorem wantGossip_agree {x0} : Agree 65568 x0 (@wantGossip x0) := by
  unfold wantGossip
  refine Agree.ite ?_ ?_
  · refine setGossip_agree.after rfl ?_
    exact Agree.refl _ _
  · exact Agree.refl _ _

theorem leaveUp_agree {x0 x1 x2} : Agree 5079072 x0 (@leaveUp x0 x1 x2) := by
  unfold leaveUp
  extract_lets +onlyGivenNames v0
  clear_value v0
  extract_lets +onlyGivenNames v1
  have hv1 : Agree 5079072 x0 v1 := by
    unfold v1
    refine downSlots_agree.after rfl ?_
    refine modPort_agree.after rfl ?_
    exact Agree.refl _ _
  clear_value v1
  extract_lets +onlyGivenNames v2
  have hv2 : Agree 5079072 x0 v2 := by
    unfold v2
    refine logEvent_agree.after rfl ?_
    refine raiseCause_agree.after rfl ?_
    assumption
  clear_value v2
  extract_lets +onlyGivenNames v3
  clear_value v3
  extract_lets +onlyGivenNames v4
  clear_value v4
  extract_lets +onlyGivenNames v5
  have hv5 : Agree 5079072 x0 v5 := by
    unfold v5
    refine Agree.updMk ?_ (Nat.le_refl _) (flashUp_refl _) rfl rfl rfl ⟨rfl, rfl, rfl, rfl, rfl⟩ (fun a h => by cases a <;> first | exact absurd h (by decide) | exact rfl | exact ⟨rfl, rfl⟩)
    assumption
  clear_value v5
  refine wantGossip_agree.after rfl ?_
  refine setReg_agree.after rfl ?_
  assumption

theorem upToTrain_agree {x0 x1 x2} : Agree 5079072 x0 (@upToTrain x0 x1 x2) := by
  unfold upToTrain
  refine bump_agree.after rfl ?_
  refine enterTrain_agree.after rfl ?_
  refine leaveUp_agree.after rfl ?_
  exact Agree.refl _ _

theorem enterReplay_agree {x0 x1 x2} : Agree 5079072 x0 (@enterReplay x0 x1 x2) := by
  unfold enterReplay
  extract_lets +onlyGivenNames v0
  clear_value v0
  extract_lets +onlyGivenNames v1
  clear_value v1
  extract_lets +onlyGivenNames v2
  have hv2 : Agree 5079072 x0 v2 := by
    unfold v2
    refine bump_agree.after rfl ?_
    refine modPort_agree.after rfl ?_
    exact Agree.refl _ _
  clear_value v2
  refine Agree.ite ?_ ?_
  · refine Agree.ite ?_ ?_
    · refine upToTrain_agree.after rfl ?_
      assumption
    · refine enterTrain_agree.after rfl ?_
      assumption
  · assumption

theorem takeFields_agree {x0 x1 x2} : Agree 5079072 x0 (@takeFields x0 x1 x2) := by
  unfold takeFields
  extract_lets +onlyGivenNames v0
  clear_value v0
  extract_lets +onlyGivenNames v1
  clear_value v1
  extract_lets +onlyGivenNames v2
  clear_value v2
  extract_lets +onlyGivenNames v3
  clear_value v3
  extract_lets +onlyGivenNames v4
  clear_value v4
  extract_lets +onlyGivenNames v5
  clear_value v5
  extract_lets +onlyGivenNames v6
  clear_value v6
  extract_lets +onlyGivenNames v7
  have hv7 : Agree 5079072 x0 v7 := by
    unfold v7
    refine modPort_agree.after rfl ?_
    exact Agree.refl _ _
  clear_value v7
  refine Agree.ite ?_ ?_
  · extract_lets +onlyGivenNames v8
    clear_value v8
    refine Agree.ite ?_ ?_
    · split
      · refine enterReplay_agree.after rfl ?_
        assumption
      · refine Agree.ite ?_ ?_
        · refine modPort_agree.after rfl ?_
          assumption
        · assumption
    · assumption
  · assumption

theorem markEvent_agree {x0 x1} : Agree 524288 x0 (@markEvent x0 x1) := by
  unfold markEvent
  refine Agree.updMk ?_ (Nat.le_refl _) (flashUp_refl _) rfl rfl rfl ⟨rfl, rfl, rfl, rfl, rfl⟩ (fun a h => by cases a <;> first | exact absurd h (by decide) | exact rfl | exact ⟨rfl, rfl⟩)
  exact Agree.refl _ _

theorem enterUp_agree {x0 x1} : Agree 622625 x0 (@enterUp x0 x1) := by
  unfold enterUp
  extract_lets +onlyGivenNames v0
  clear_value v0
  extract_lets +onlyGivenNames v1
  clear_value v1
  extract_lets +onlyGivenNames v2
  have hv2 : Agree 622625 x0 v2 := by
    unfold v2
    refine setPortState_agree.after rfl ?_
    refine Agree.updMk ?_ (Nat.le_succ _) (flashUp_refl _) rfl rfl rfl ⟨rfl, rfl, rfl, rfl, rfl⟩ (fun a h => by cases a <;> first | exact absurd h (by decide) | exact rfl | exact ⟨rfl, rfl⟩)
    exact Agree.refl _ _
  clear_value v2
  extract_lets +onlyGivenNames v3
  clear_value v3
  extract_lets +onlyGivenNames v4
  have hv4 : Agree 622625 x0 v4 := by
    unfold v4
    refine modPort_agree.after rfl ?_
    assumption
  clear_value v4
  extract_lets +onlyGivenNames v5
  have hv5 : Agree 622625 x0 v5 := by
    unfold v5
    refine setF_agree.after rfl ?_
    assumption
  clear_value v5
  extract_lets +onlyGivenNames v6
  have hv6 : Agree 622625 x0 v6 := by
    unfold v6
    refine Agree.ite ?_ ?_
    · refine markEvent_agree.after rfl ?_
      assumption
    · assumption
  clear_value v6
  refine wantGossip_agree.after rfl ?_
  refine sendOnPort_agree.after rfl ?_
  assumption

theorem maybeUp_agree {x0 x1} : Agree 622625 x0 (@maybeUp x0 x1) := by
  unfold maybeUp
  extract_lets +onlyGivenNames v0
  clear_value v0
  refine Agree.ite ?_ ?_
  · refine enterUp_agree.after rfl ?_
    exact Agree.refl _ _
  · exact Agree.refl _ _

theorem takeIdent_agree {x0 x1 x2} : Agree 5079073 x0 (@takeIdent x0 x1 x2) := by
  unfold takeIdent
  refine Agree.ite ?_ ?_
  · exact Agree.refl _ _
  · extract_lets +onlyGivenNames v0
    clear_value v0
    extract_lets +onlyGivenNames v1
    clear_value v1
    extract_lets +onlyGivenNames v2
    clear_value v2
    extract_lets +onlyGivenNames v3
    clear_value v3
    extract_lets +onlyGivenNames v4
    clear_value v4
    extract_lets +onlyGivenNames v5
    have hv5 : Agree 5079073 x0 v5 := by
      unfold v5
      refine modPort_agree.after rfl ?_
      exact Agree.refl _ _
    clear_value v5
    extract_lets +onlyGivenNames v6
    have hv6 : Agree 5079073 x0 v6 := by
      unfold v6
      refine setF_agree.after rfl ?_
      refine setF_agree.after rfl ?_
      refine setF_agree.after rfl ?_
      assumption
    clear_value v6
    refine Agree.ite ?_ ?_
    · refine Agree.ite ?_ ?_
      · refine logEvent_agree.after rfl ?_
        assumption
      · assumption
    · refine maybeUp_agree.after rfl ?_
      assumption

theorem arrive_agree {x0 x1 x2 x3} : Agree 5079073 x0 (@arrive x0 x1 x2 x3) := by
  unfold arrive
  extract_lets +onlyGivenNames v0
  clear_value v0
  refine Agree.ite ?_ ?_
  · exact Agree.refl _ _
  · extract_lets +onlyGivenNames v1
    have hv1 : Agree 5079073 x0 v1 := by
      unfold v1
      refine bump_agree.after rfl ?_
      refine bump_agree.after rfl ?_
      exact Agree.refl _ _
    clear_value v1
    extract_lets +onlyGivenNames v2
    clear_value v2
    extract_lets +onlyGivenNames v3
    clear_value v3
    refine Agree.ite ?_ ?_
    · refine modPort_agree.after rfl ?_
      refine bump_agree.after rfl ?_
      assumption
    · refine Agree.ite ?_ ?_
      · exact Agree.refl _ _
      · extract_lets +onlyGivenNames v4
        have hv4 : Agree 5079073 x0 v4 := by
          unfold v4
          refine takeFields_agree.after rfl ?_
          assumption
        clear_value v4
        extract_lets +onlyGivenNames v5
        clear_value v5
        refine Agree.ite ?_ ?_
        · assumption
        · refine Agree.ite ?_ ?_
          · refine Agree.ite ?_ ?_
            · refine modPort_agree.after rfl ?_
              assumption
            · assumption
          · refine Agree.ite ?_ ?_
            · refine Agree.ite ?_ ?_
              · assumption
              · refine modPort_agree.after rfl ?_
                assumption
            · extract_lets +onlyGivenNames v6
              have hv6 : Agree 5079073 x0 v6 := by
                unfold v6
                refine modPort_agree.after rfl ?_
                assumption
              clear_value v6
              refine Agree.ite ?_ ?_
              · refine modPort_agree.after rfl ?_
                assumption
              · refine takeIdent_agree.after rfl ?_
                assumption

theorem enterIdent_agree {x0 x1} : Agree 32800 x0 (@enterIdent x0 x1) := by
  unfold enterIdent
  refine setPortState_agree.after rfl ?_
  refine modPort_agree.after rfl ?_
  exact Agree.refl _ _

theorem resetPort_agree {x0 x1} : Agree 5079072 x1 (@resetPort x0 x1) := by
  unfold resetPort
  refine Agree.ite ?_ ?_
  · exact Agree.refl _ _
  · extract_lets +onlyGivenNames v0
    have hv0 : Agree 5079072 x1 v0 := by
      unfold v0
      refine Agree.ite ?_ ?_
      · refine bump_agree.after rfl ?_
        refine leaveUp_agree.after rfl ?_
        exact Agree.refl _ _
      · exact Agree.refl _ _
    clear_value v0
    refine modPort_agree.after rfl ?_
    refine enterTrain_agree.after rfl ?_
    assumption

theorem execDataFlit_agree {x0 x1 x2 t} (h : @execDataFlit x0 x1 x2 = .next t) : Agree 5079073 x2 t := by
  unfold execDataFlit at h
  cases h
  refine arrive_agree.after rfl ?_
  exact Agree.refl _ _

theorem execControlFlit_agree {x0 x1 x2 t} (h : @execControlFlit x0 x1 x2 = .next t) : Agree 5079073 x2 t := by
  unfold execControlFlit at h
  cases h
  refine arrive_agree.after rfl ?_
  exact Agree.refl _ _

theorem execNullFlit_agree {x0 x1 x2 t} (h : @execNullFlit x0 x1 x2 = .next t) : Agree 5079073 x2 t := by
  unfold execNullFlit at h
  cases h
  refine arrive_agree.after rfl ?_
  exact Agree.refl _ _

theorem replayTimeout_agree {x0 x1} : Agree 5079072 x1 (@replayTimeout x0 x1) := by
  unfold replayTimeout
  extract_lets +onlyGivenNames v0
  clear_value v0
  split
  · refine Agree.ite ?_ ?_
    · refine enterReplay_agree.after rfl ?_
      refine bump_agree.after rfl ?_
      exact Agree.refl _ _
    · exact Agree.refl _ _
  · exact Agree.refl _ _

theorem execReplayTimeout_agree {x0 x1 t} (h : @execReplayTimeout x0 x1 = .next t) : Agree 5079072 x1 t := by
  unfold execReplayTimeout at h
  cases h
  refine replayTimeout_agree.after rfl ?_
  exact Agree.refl _ _

theorem execIdent_agree {x0 x1 x2 t} (h : @execIdent x0 x1 x2 = .next t) : Agree 5079073 x2 t := by
  unfold execIdent at h
  cases h
  refine Agree.ite ?_ ?_
  · refine arrive_agree.after rfl ?_
    exact Agree.refl _ _
  · exact Agree.refl _ _

theorem trainFailed_agree {x0 x1} : Agree 32800 x0 (@trainFailed x0 x1) := by
  unfold trainFailed
  extract_lets +onlyGivenNames v0
  clear_value v0
  extract_lets +onlyGivenNames v1
  have hv1 : Agree 32800 x0 v1 := by
    unfold v1
    refine modPort_agree.after rfl ?_
    refine enterTrain_agree.after rfl ?_
    exact Agree.refl _ _
  clear_value v1
  refine Agree.ite ?_ ?_
  · refine setPortState_agree.after rfl ?_
    assumption
  · assumption

theorem identTimeout_agree {x0 x1 x2} : Agree 32816 x2 (@identTimeout x0 x1 x2) := by
  unfold identTimeout
  extract_lets +onlyGivenNames v0
  have hv0 : Agree 32816 x2 v0 := by
    unfold v0
    refine advance_agree.after rfl ?_
    exact Agree.refl _ _
  clear_value v0
  extract_lets +onlyGivenNames v1
  clear_value v1
  refine Agree.ite ?_ ?_
  · refine trainFailed_agree.after rfl ?_
    assumption
  · assumption

theorem execIdentTimeout_agree {x0 x1 x2 t} (h : @execIdentTimeout x0 x1 x2 = .next t) : Agree 32816 x2 t := by
  unfold execIdentTimeout at h
  cases h
  refine identTimeout_agree.after rfl ?_
  exact Agree.refl _ _

theorem execTrainAttemptEnd_agree {x0 x1 x2 t} (h : @execTrainAttemptEnd x0 x1 x2 = .next t) : Agree 32800 x2 t := by
  unfold execTrainAttemptEnd at h
  cases h
  refine Agree.ite ?_ ?_
  · exact Agree.refl _ _
  · refine Agree.ite ?_ ?_
    · refine enterIdent_agree.after rfl ?_
      exact Agree.refl _ _
    · refine trainFailed_agree.after rfl ?_
      exact Agree.refl _ _

theorem execLinkLoss_agree {x0 x1 x2 t} (h : @execLinkLoss x0 x1 x2 = .next t) : Agree 5079072 x2 t := by
  unfold execLinkLoss at h
  cases h
  refine Agree.ite ?_ ?_
  · refine upToTrain_agree.after rfl ?_
    exact Agree.refl _ _
  · exact Agree.refl _ _

theorem flitTime_agree {x0 x1} : Agree 622625 x1 (@flitTime x0 x1) := by
  unfold flitTime
  extract_lets +onlyGivenNames v0
  have hv0 : Agree 622625 x1 v0 := by
    unfold v0
    refine routeAll_agree.after rfl ?_
    exact Agree.refl _ _
  clear_value v0
  extract_lets +onlyGivenNames v1
  clear_value v1
  refine Agree.ite ?_ ?_
  · assumption
  · split
    · refine setPort_agree.after rfl ?_
      assumption
    · refine Agree.ite ?_ ?_
      · refine setPort_agree.after rfl ?_
        assumption
      · refine Agree.ite ?_ ?_
        · refine maybeUp_agree.after rfl ?_
          refine setPort_agree.after rfl ?_
          assumption
        · split
          · refine bump_agree.after rfl ?_
            refine setPort_agree.after rfl ?_
            assumption
          · refine setPort_agree.after rfl ?_
            assumption

theorem execFlitTime_agree {x0 x1 t} (h : @execFlitTime x0 x1 = .next t) : Agree 622625 x1 t := by
  unfold execFlitTime at h
  cases h
  refine flitTime_agree.after rfl ?_
  exact Agree.refl _ _

end Sys2Proof.Laws
end

