-- ==== Sys2Proof/Laws/AgreeCheck.lean ====
section
/-! SUPPORT. What the operations of Machine/Check.lean leave alone: for each, the areas it may change, as the bits of a mask in
the numbering of `Area.idx`. -/

namespace Sys2Proof.Laws

open Sys2Proof Sys2Proof.Machine Sys2Proof.Safety Sys2Proof.Frame

theorem withCfg_agree {x0 x1} : Agree 131072 x0 (@withCfg x0 x1) := by
  unfold withCfg
  refine Agree.updMk ?_ (Nat.le_refl _) (flashUp_refl _) rfl rfl rfl ⟨rfl, rfl, rfl, rfl, rfl⟩ (fun a h => by cases a <;> first | exact absurd h (by decide) | exact rfl | exact ⟨rfl, rfl⟩)
  exact Agree.refl _ _

end Sys2Proof.Laws
end

