-- ==== Sys2Proof/Laws/AgreeCommit.lean ====
section
/-! SUPPORT. What the operations of Machine/Commit.lean leave alone: for each, the areas it may change, as the bits of a mask in
the numbering of `Area.idx`. -/

namespace Sys2Proof.Laws

open Sys2Proof Sys2Proof.Machine Sys2Proof.Safety Sys2Proof.Frame

theorem commitWaits_agree {x0 x1 x2} : Agree 32 x0 (@commitWaits x0 x1 x2) := by
  unfold commitWaits
  refine setF_agree.after rfl ?_
  refine setF_agree.after rfl ?_
  exact Agree.refl _ _

theorem failCommit_agree {x0 x1 x2} : Agree 4128 x0 (@failCommit x0 x1 x2) := by
  unfold failCommit
  refine bump_agree.after rfl ?_
  refine settleRun_agree.after rfl ?_
  refine commitWaits_agree.after rfl ?_
  exact Agree.refl _ _

theorem changeRotations_agree {x0 x1 x2} : Agree 5062688 x0 (@changeRotations x0 x1 x2) := by
  unfold changeRotations
  extract_lets +onlyGivenNames v0
  clear_value v0
  extract_lets +onlyGivenNames v1
  clear_value v1
  extract_lets +onlyGivenNames v2
  have hv2 : Agree 5062688 x0 v2 := by
    unfold v2
    refine Agree.foldl (fun a3 b4 h5 => ?_) ?_
    · split
      · assumption
      · extract_lets +onlyGivenNames v6
        clear_value v6
        extract_lets +onlyGivenNames v7
        clear_value v7
        split
        · assumption
        · extract_lets +onlyGivenNames v8
          clear_value v8
          extract_lets +onlyGivenNames v9
          clear_value v9
          extract_lets +onlyGivenNames v10
          have hv10 : Agree 5062688 x0 v10 := by
            unfold v10
            refine modPart_agree.after rfl ?_
            assumption
          clear_value v10
          extract_lets +onlyGivenNames v11
          clear_value v11
          refine logEvent_agree.after rfl ?_
          assumption
    · exact Agree.refl _ _
  clear_value v2
  refine logWarm_agree.after rfl ?_
  assumption

theorem resetOwner_agree {s c} : Agree 4128 s (resetOwner s c) := by
  unfold resetOwner
  extract_lets +onlyGivenNames s1
  have h : Agree 4128 s s1 := resetRegs_agree.mono rfl
  clear_value s1
  exact Agree.updTab h (Nat.le_refl _) (flashUp_refl _) rfl rfl rfl
    (fun m => ⟨m.regs, m.resets, filter_wf m.queues, m.fronds, m.slots, m.parts, m.ports⟩)
    (fun a h => by cases a <;> first | exact absurd h (by decide) | exact rfl | exact ⟨rfl, rfl⟩)

theorem resetPartRegs_agree {s p} : Agree 4128 s (resetPartRegs s p) := by
  unfold resetPartRegs
  extract_lets +onlyGivenNames s1
  have h : Agree 4128 s s1 := resetRegs_agree.mono rfl
  clear_value s1
  exact Agree.updTab h (Nat.le_refl _) (flashUp_refl _) rfl rfl rfl
    (fun m => ⟨m.regs, m.resets, filter_wf m.queues, m.fronds, m.slots, m.parts, m.ports⟩)
    (fun a h => by cases a <;> first | exact absurd h (by decide) | exact rfl | exact ⟨rfl, rfl⟩)

theorem movePart_agree {x0 x1 x2 x3 x4 x5} : Agree 552992 x0 (@movePart x0 x1 x2 x3 x4 x5) := by
  unfold movePart
  extract_lets +onlyGivenNames v0
  clear_value v0
  extract_lets +onlyGivenNames v1
  clear_value v1
  extract_lets +onlyGivenNames v2
  clear_value v2
  extract_lets +onlyGivenNames v3
  clear_value v3
  extract_lets +onlyGivenNames v4
  clear_value v4
  extract_lets +onlyGivenNames v5
  clear_value v5
  extract_lets +onlyGivenNames v6
  clear_value v6
  extract_lets +onlyGivenNames v7
  have hv7 : Agree 552992 x0 v7 := by
    unfold v7
    refine Agree.foldl (fun a8 b9 h10 => ?_) ?_
    · refine Agree.foldl (fun a11 b12 h13 => ?_) ?_
      · refine Agree.after (modFrond_agree (fun _ _ _ => nil_wf)) rfl ?_
        assumption
      · refine resetOwner_agree.after rfl ?_
        assumption
    · exact Agree.refl _ _
  clear_value v7
  extract_lets +onlyGivenNames v14
  clear_value v14
  extract_lets +onlyGivenNames v15
  clear_value v15
  extract_lets +onlyGivenNames v16
  have hv16 : Agree 552992 x0 v16 := by
    unfold v16
    refine Agree.ite ?_ ?_
    · assumption
    · refine Agree.updMk ?_ (Nat.le_refl _) (flashUp_refl _) rfl rfl rfl ⟨rfl, rfl, rfl, rfl, rfl⟩ (fun a h => by cases a <;> first | exact absurd h (by decide) | exact rfl | exact ⟨rfl, rfl⟩)
      assumption
  clear_value v16
  extract_lets +onlyGivenNames v17
  clear_value v17
  extract_lets +onlyGivenNames v18
  clear_value v18
  extract_lets +onlyGivenNames v19
  have hv19 : Agree 552992 x0 v19 := by
    unfold v19
    refine Agree.ite ?_ ?_
    · refine setPart_agree.after rfl ?_
      refine resetPartRegs_agree.after rfl ?_
      assumption
    · refine Agree.ite ?_ ?_
      · refine setPart_agree.after rfl ?_
        assumption
      · assumption
  clear_value v19
  extract_lets +onlyGivenNames v20
  clear_value v20
  extract_lets +onlyGivenNames v21
  clear_value v21
  extract_lets +onlyGivenNames v22
  clear_value v22
  refine Agree.ite ?_ ?_
  · assumption
  · refine setF_agree.after rfl ?_
    refine setF_agree.after rfl ?_
    assumption

theorem showFeed_agree {x0 x1} : Agree 32 x0 (@showFeed x0 x1) := by
  unfold showFeed
  extract_lets +onlyGivenNames v0
  clear_value v0
  refine Agree.ite ?_ ?_
  · refine setF_agree.after rfl ?_
    refine setF_agree.after rfl ?_
    exact Agree.refl _ _
  · refine Agree.ite ?_ ?_
    · refine setF_agree.after rfl ?_
      refine setF_agree.after rfl ?_
      exact Agree.refl _ _
    · exact Agree.refl _ _

theorem applyImage_agree {x0 x1 x2 x3} : Agree 7335968 x0 (@applyImage x0 x1 x2 x3) := by
  unfold applyImage
  extract_lets +onlyGivenNames v0
  clear_value v0
  extract_lets +onlyGivenNames v1
  clear_value v1
  extract_lets +onlyGivenNames v2
  clear_value v2
  extract_lets +onlyGivenNames v3
  have hv3 : Agree 7335968 x0 v3 := by
    unfold v3
    refine Agree.ite ?_ ?_
    · exact Agree.refl _ _
    · refine Agree.foldl (fun a4 b5 h6 => ?_) ?_
      · refine changeRotations_agree.after rfl ?_
        assumption
      · exact Agree.refl _ _
  clear_value v3
  extract_lets +onlyGivenNames v7
  clear_value v7
  extract_lets +onlyGivenNames v8
  have hv8 : Agree 7335968 x0 v8 := by
    unfold v8
    refine Agree.updMk ?_ (Nat.le_refl _) (flashUp_refl _) rfl rfl rfl ⟨rfl, rfl, rfl, rfl, rfl⟩ (fun a h => by cases a <;> first | exact absurd h (by decide) | exact rfl | exact ⟨rfl, rfl⟩)
    assumption
  clear_value v8
  extract_lets +onlyGivenNames v9
  have hv9 : Agree 7335968 x0 v9 := by
    unfold v9
    refine noteDies_agree.after rfl ?_
    refine Agree.foldl (fun a10 b11 h12 => ?_) ?_
    · refine movePart_agree.after rfl ?_
      assumption
    · assumption
  clear_value v9
  extract_lets +onlyGivenNames v13
  have hv13 : Agree 7335968 x0 v13 := by
    unfold v13
    refine raiseCounter_agree.after rfl ?_
    assumption
  clear_value v13
  extract_lets +onlyGivenNames v14
  have hv14 : Agree 7335968 x0 v14 := by
    unfold v14
    refine setF_agree.after rfl ?_
    refine setF_agree.after rfl ?_
    assumption
  clear_value v14
  extract_lets +onlyGivenNames v15
  have hv15 : Agree 7335968 x0 v15 := by
    unfold v15
    refine Agree.foldl (fun a16 b17 h18 => ?_) ?_
    · refine Agree.ite ?_ ?_
      · refine modPort_agree.after rfl ?_
        refine enterTrain_agree.after rfl ?_
        assumption
      · assumption
    · refine showFeed_agree.after rfl ?_
      assumption
  clear_value v15
  refine Agree.ite ?_ ?_
  · refine buildRoutes_agree.after rfl ?_
    assumption
  · assumption

theorem persistImage_agree {x0} : Agree 262144 x0 (@persistImage x0) := by
  unfold persistImage
  refine Agree.updMk ?_ (Nat.le_refl _) (flashUp_refl _) rfl rfl rfl ⟨rfl, rfl, rfl, rfl, rfl⟩ (fun a h => by cases a <;> first | exact absurd h (by decide) | exact rfl | exact ⟨rfl, rfl⟩)
  exact Agree.refl _ _

theorem applyCommit_agree {x0 x1} : Agree 7335968 x0 (@applyCommit x0 x1) := by
  unfold applyCommit
  split
  · refine failCommit_agree.after rfl ?_
    exact Agree.refl _ _
  · split
    extract_lets +onlyGivenNames v0
    have hv0 : Agree 7335968 x0 v0 := by
      unfold v0
      refine Agree.ite ?_ ?_
      · exact Agree.refl _ _
      · refine applyImage_agree.after rfl ?_
        exact Agree.refl _ _
    clear_value v0
    extract_lets +onlyGivenNames v1
    clear_value v1
    extract_lets +onlyGivenNames v2
    have hv2 : Agree 7335968 x0 v2 := by
      unfold v2
      refine Agree.ite ?_ ?_
      · refine setF_agree.after rfl ?_
        refine Agree.updMk ?_ (Nat.le_refl _) (flashUp_refl _) rfl rfl rfl ⟨rfl, rfl, rfl, rfl, rfl⟩ (fun a h => by cases a <;> first | exact absurd h (by decide) | exact rfl | exact ⟨rfl, rfl⟩)
        assumption
      · assumption
    clear_value v2
    extract_lets +onlyGivenNames v3
    have hv3 : Agree 7335968 x0 v3 := by
      unfold v3
      refine Agree.ite ?_ ?_
      · refine persistImage_agree.after rfl ?_
        assumption
      · assumption
    clear_value v3
    refine bump_agree.after rfl ?_
    refine settleRun_agree.after rfl ?_
    refine commitWaits_agree.after rfl ?_
    assumption

theorem checkImageBody_agree {x0 x1 x2} : VAgree 5186337 x1 (@checkImageBody x0 x1 x2) := by
  unfold checkImageBody
  extract_lets +onlyGivenNames v0
  clear_value v0
  extract_lets +onlyGivenNames v1
  clear_value v1
  extract_lets +onlyGivenNames v2
  clear_value v2
  extract_lets +onlyGivenNames v3
  clear_value v3
  refine VAgree.ite ?_ ?_
  · exact True.intro
  · refine VAgree.ite ?_ ?_
    · exact True.intro
    · extract_lets +onlyGivenNames v4
      have hv4 : Agree 5186337 x1 v4 := by
        unfold v4
        refine readUnits_agree.after rfl ?_
        exact Agree.refl _ _
      clear_value v4
      extract_lets +onlyGivenNames v5
      clear_value v5
      split
      extract_lets +onlyGivenNames v6
      have hv6 : Agree 5186337 x1 v6 := by
        unfold v6
        refine Agree.ite ?_ ?_
        · refine sigFail_agree.after rfl ?_
          assumption
        · assumption
      clear_value v6
      extract_lets +onlyGivenNames v7
      clear_value v7
      extract_lets +onlyGivenNames v8
      clear_value v8
      extract_lets +onlyGivenNames v9
      have hv9 : Agree 5186337 x1 v9 := by
        unfold v9
        refine writeBytes_agree.after rfl ?_
        refine Agree.updMk ?_ (Nat.le_add_right _ _) (flashUp_refl _) rfl rfl rfl ⟨rfl, rfl, rfl, rfl, rfl⟩ (fun a h => by cases a <;> first | exact absurd h (by decide) | exact rfl | exact ⟨rfl, rfl⟩)
        assumption
      clear_value v9
      extract_lets +onlyGivenNames v10
      clear_value v10
      extract_lets +onlyGivenNames v11
      clear_value v11
      extract_lets +onlyGivenNames v12
      have hv12 : Agree 5186337 x1 v12 := by
        unfold v12
        refine Agree.updMk ?_ (Nat.le_refl _) (flashUp_refl _) rfl rfl rfl ⟨rfl, rfl, rfl, rfl, rfl⟩ (fun a h => by cases a <;> first | exact absurd h (by decide) | exact rfl | exact ⟨rfl, rfl⟩)
        assumption
      clear_value v12
      extract_lets +onlyGivenNames v13
      have hv13 : Agree 5186337 x1 v13 := by
        unfold v13
        refine setF_agree.after rfl ?_
        refine setF_agree.after rfl ?_
        assumption
      clear_value v13
      extract_lets +onlyGivenNames v14
      have hv14 : Agree 5186337 x1 v14 := by
        unfold v14
        refine bump_agree.after rfl ?_
        refine bump_agree.after rfl ?_
        assumption
      clear_value v14
      show Agree 5186337 x1 _
      assumption

theorem showFloor_agree {x0} : Agree 32 x0 (@showFloor x0) := by
  unfold showFloor
  extract_lets +onlyGivenNames v0
  clear_value v0
  extract_lets +onlyGivenNames v1
  clear_value v1
  extract_lets +onlyGivenNames v2
  have hv2 : Agree 32 x0 v2 := by
    unfold v2
    refine setF_agree.after rfl ?_
    exact Agree.refl _ _
  clear_value v2
  extract_lets +onlyGivenNames v3
  have hv3 : Agree 32 x0 v3 := by
    unfold v3
    refine setF_agree.after rfl ?_
    refine setF_agree.after rfl ?_
    refine setF_agree.after rfl ?_
    assumption
  clear_value v3
  refine setF_agree.after rfl ?_
  assumption

theorem writeFloor_agree {s fp} : Agree 393248 s (writeFloor s fp) := by
  unfold writeFloor
  extract_lets +onlyGivenNames fp1 __src fl
  have hl : FlashUp s.flash fl := by
    unfold fl
    split <;> exact flashUp_refl _
  refine showFloor_agree.after rfl (Agree.updMk (Agree.refl _ _) (Nat.le_refl _) ?_ rfl rfl rfl ⟨rfl, rfl, rfl, rfl, rfl⟩
    (fun a h => by cases a <;> first | exact absurd h (by decide) | exact rfl | exact ⟨rfl, rfl⟩))
  exact ⟨hl.1, hl.2.1, Nat.le_trans hl.2.2.1 (Nat.le_max_left _ _), hl.2.2.2⟩

theorem execCheck_agree {x0 x1 x2 x3 t} (h : @execCheck x0 x1 x2 x3 = .next t) : Agree 6258465 x3 t := by
  unfold execCheck at h
  cases h
  refine runEntry_agree rfl (fun s0 e1 => ?_)
  refine checkImageBody_agree.vafter rfl ?_
  exact Agree.refl _ _

theorem resetFrondRegs_agree {s f} : Agree 4128 s (resetFrondRegs s f) := by
  unfold resetFrondRegs
  extract_lets +onlyGivenNames s1
  have h : Agree 4128 s s1 := Agree.updTab (Agree.refl _ _) (Nat.le_refl _) (flashUp_refl _) rfl rfl rfl
    (fun m => ⟨m.regs, m.resets, filter_wf m.queues, m.fronds, m.slots, m.parts, m.ports⟩)
    (fun a h => by cases a <;> first | exact absurd h (by decide) | exact rfl | exact ⟨rfl, rfl⟩)
  clear_value s1
  exact resetRegs_agree.after rfl h

theorem loseCushion_agree {x0 x1} : Agree 8960 x0 (@loseCushion x0 x1) := by
  unfold loseCushion
  refine Agree.foldl (fun a0 b1 h2 => ?_) ?_
  · extract_lets +onlyGivenNames v3
    clear_value v3
    refine Agree.after (modFrond_agree (fun _ _ _ => nil_wf)) rfl ?_
    refine zeroRange_agree.after rfl ?_
    assumption
  · exact Agree.refl _ _

theorem retireFrond_agree {x0 x1} : Agree 5190433 x0 (@retireFrond x0 x1) := by
  unfold retireFrond
  extract_lets +onlyGivenNames v0
  clear_value v0
  extract_lets +onlyGivenNames v1
  clear_value v1
  extract_lets +onlyGivenNames v2
  clear_value v2
  extract_lets +onlyGivenNames v3
  clear_value v3
  extract_lets +onlyGivenNames v4
  extract_lets +onlyGivenNames v5
  clear_value v5
  extract_lets +onlyGivenNames v6
  have hv6 : Agree 5190433 x0 v6 := by
    unfold v6
    refine Agree.updMk ?_ (Nat.le_refl _) (flashUp_refl _) rfl rfl rfl ⟨rfl, rfl, rfl, rfl, rfl⟩ (fun a h => by cases a <;> first | exact absurd h (by decide) | exact rfl | exact ⟨rfl, rfl⟩)
    exact Agree.refl _ _
  clear_value v6
  refine Agree.ite ?_ ?_
  · extract_lets +onlyGivenNames v7
    clear_value v7
    extract_lets +onlyGivenNames v8
    have hv8 : Agree 5190433 x0 v8 := by
      unfold v8
      unfold v4
      refine Agree.updMk ?_ (Nat.le_refl _) (flashUp_refl _) rfl rfl rfl ⟨rfl, rfl, rfl, rfl, rfl⟩ (fun a h => by cases a <;> first | exact absurd h (by decide) | exact rfl | exact ⟨rfl, rfl⟩)
      assumption
    clear_value v8
    extract_lets +onlyGivenNames v9
    have hv9 : Agree 5190433 x0 v9 := by
      unfold v9
      refine bump_agree.after rfl ?_
      refine resetFrondRegs_agree.after rfl ?_
      refine loseCushion_agree.after rfl ?_
      assumption
    clear_value v9
    refine raiseCause_agree.after rfl ?_
    refine logEvent_agree.after rfl ?_
    assumption
  · extract_lets +onlyGivenNames v10
    have hv10 : Agree 5190433 x0 v10 := by
      unfold v10
      unfold v4
      refine Agree.updMk ?_ (Nat.le_refl _) (flashUp_refl _) rfl rfl rfl ⟨rfl, rfl, rfl, rfl, rfl⟩ (fun a h => by cases a <;> first | exact absurd h (by decide) | exact rfl | exact ⟨rfl, rfl⟩)
      refine loseCushion_agree.after rfl ?_
      refine Agree.updMk ?_ (Nat.le_succ _) (flashUp_refl _) rfl rfl rfl ⟨rfl, rfl, rfl, rfl, rfl⟩ (fun a h => by cases a <;> first | exact absurd h (by decide) | exact rfl | exact ⟨rfl, rfl⟩)
      assumption
    clear_value v10
    refine raiseCause_agree.after rfl ?_
    refine logEvent_agree.after rfl ?_
    assumption

theorem withdrawCushion_agree {x0 x1} : Agree 140032 x0 (@withdrawCushion x0 x1) := by
  unfold withdrawCushion
  extract_lets +onlyGivenNames v0
  have hv0 : Agree 140032 x0 v0 := by
    unfold v0
    refine loseCushion_agree.after rfl ?_
    exact Agree.refl _ _
  clear_value v0
  refine Agree.updMk ?_ (Nat.le_refl _) (flashUp_refl _) rfl rfl rfl ⟨rfl, rfl, rfl, rfl, rfl⟩ (fun a h => by cases a <;> first | exact absurd h (by decide) | exact rfl | exact ⟨rfl, rfl⟩)
  assumption

theorem updateFloor_agree {x0} : Agree 5190433 x0 (@updateFloor x0) := by
  unfold updateFloor
  extract_lets +onlyGivenNames v0
  clear_value v0
  extract_lets +onlyGivenNames v1
  clear_value v1
  extract_lets +onlyGivenNames v2
  clear_value v2
  refine Agree.ite ?_ ?_
  · exact Agree.refl _ _
  · extract_lets +onlyGivenNames v3
    have hv3 : Agree 5190433 x0 v3 := by
      unfold v3
      refine Agree.foldl (fun a4 b5 h6 => ?_) ?_
      · refine Agree.ite ?_ ?_
        · refine retireFrond_agree.after rfl ?_
          assumption
        · assumption
      · exact Agree.refl _ _
    clear_value v3
    extract_lets +onlyGivenNames v7
    clear_value v7
    extract_lets +onlyGivenNames v8
    have hv8 : Agree 5190433 x0 v8 := by
      unfold v8
      refine Agree.foldl (fun a9 b10 h11 => ?_) ?_
      · refine withdrawCushion_agree.after rfl ?_
        assumption
      · refine Agree.updMk ?_ (Nat.le_refl _) (flashUp_refl _) rfl rfl rfl ⟨rfl, rfl, rfl, rfl, rfl⟩ (fun a h => by cases a <;> first | exact absurd h (by decide) | exact rfl | exact ⟨rfl, rfl⟩)
        assumption
    clear_value v8
    extract_lets +onlyGivenNames v12
    have hv12 : Agree 5190433 x0 v12 := by
      unfold v12
      refine Agree.foldl (fun a13 b14 h15 => ?_) ?_
      · refine raiseCause_agree.after rfl ?_
        refine logEvent_agree.after rfl ?_
        refine Agree.updMk ?_ (Nat.le_refl _) (flashUp_refl _) rfl rfl rfl ⟨rfl, rfl, rfl, rfl, rfl⟩ (fun a h => by cases a <;> first | exact absurd h (by decide) | exact rfl | exact ⟨rfl, rfl⟩)
        assumption
      · assumption
    clear_value v12
    refine writeFloor_agree.after rfl ?_
    assumption

end Sys2Proof.Laws
end

