-- ==== Sys2Proof/Laws/AgreeBarrier.lean ====
section
/-! SUPPORT. What the operations of Machine/Barrier.lean leave alone: for each, the areas it may change, as the bits of a mask in
the numbering of `Area.idx`. -/

namespace Sys2Proof.Laws

open Sys2Proof Sys2Proof.Machine Sys2Proof.Safety Sys2Proof.Frame

theorem dropBarrier_agree {x0 x1} : Agree 65536 x0 (@dropBarrier x0 x1) := by
  unfold dropBarrier
  refine Agree.updMk ?_ (Nat.le_refl _) (flashUp_refl _) rfl rfl rfl ⟨rfl, rfl, rfl, rfl, rfl⟩ (fun a h => by cases a <;> first | exact absurd h (by decide) | exact rfl | exact ⟨rfl, rfl⟩)
  exact Agree.refl _ _

theorem showBarrier_agree {x0 x1 x2} : Agree 32 x0 (@showBarrier x0 x1 x2) := by
  unfold showBarrier
  refine setF_agree.after rfl ?_
  refine setF_agree.after rfl ?_
  refine setF_agree.after rfl ?_
  exact Agree.refl _ _

theorem putBarrier_agree {x0 x1} : Agree 65536 x0 (@putBarrier x0 x1) := by
  unfold putBarrier
  refine Agree.updMk ?_ (Nat.le_refl _) (flashUp_refl _) rfl rfl rfl ⟨rfl, rfl, rfl, rfl, rfl⟩ (fun a h => by cases a <;> first | exact absurd h (by decide) | exact rfl | exact ⟨rfl, rfl⟩)
  exact Agree.refl _ _

theorem sendBarrier_agree {x0 x1 x2 x3} : Agree 65536 x0 (@sendBarrier x0 x1 x2 x3) := by
  unfold sendBarrier
  refine sendMsg_agree.after rfl ?_
  exact Agree.refl _ _

theorem verifyParts_agree {x0 x1} : Agree 524320 x0 (@verifyParts x0 x1) := by
  unfold verifyParts
  refine Agree.foldl (fun a0 b1 h2 => ?_) ?_
  · extract_lets +onlyGivenNames v3
    clear_value v3
    refine Agree.ite ?_ ?_
    · refine setF_agree.after rfl ?_
      assumption
    · refine setF_agree.after rfl ?_
      refine Agree.updMk ?_ (Nat.le_refl _) (flashUp_refl _) rfl rfl rfl ⟨rfl, rfl, rfl, rfl, rfl⟩ (fun a h => by cases a <;> first | exact absurd h (by decide) | exact rfl | exact ⟨rfl, rfl⟩)
      assumption
  · exact Agree.refl _ _

theorem fabricReady_agree {x0 x1 x2} : Agree 4784160 x0 (@fabricReady x0 x1 x2) := by
  unfold fabricReady
  extract_lets +onlyGivenNames v0
  have hv0 : Agree 4784160 x0 v0 := by
    unfold v0
    refine setF_agree.after rfl ?_
    refine setF_agree.after rfl ?_
    refine setF_agree.after rfl ?_
    exact Agree.refl _ _
  clear_value v0
  refine verifyParts_agree.after rfl ?_
  refine Agree.ite ?_ ?_
  · refine raiseCause_agree.after rfl ?_
    assumption
  · assumption

theorem completeBarrier_agree {x0 x1 x2 x3} : Agree 7335968 x0 (@completeBarrier x0 x1 x2 x3) := by
  unfold completeBarrier
  extract_lets +onlyGivenNames v0
  have hv0 : Agree 7335968 x0 v0 := by
    unfold v0
    refine dropBarrier_agree.after rfl ?_
    refine showBarrier_agree.after rfl ?_
    exact Agree.refl _ _
  clear_value v0
  refine Agree.ite ?_ ?_
  · refine fabricReady_agree.after rfl ?_
    assumption
  · split
    · refine Agree.ite ?_ ?_
      · refine Agree.ite ?_ ?_
        · refine applyCommit_agree.after rfl ?_
          assumption
        · refine failCommit_agree.after rfl ?_
          assumption
      · assumption
    · assumption

theorem releaseHere_agree {x0 x1 x2 x3 x4} : Agree 7335968 x0 (@releaseHere x0 x1 x2 x3 x4) := by
  unfold releaseHere
  extract_lets +onlyGivenNames v0
  clear_value v0
  extract_lets +onlyGivenNames v1
  have hv1 : Agree 7335968 x0 v1 := by
    unfold v1
    refine Agree.ite ?_ ?_
    · refine Agree.foldl (fun a2 b3 h4 => ?_) ?_
      · refine sendBarrier_agree.after rfl ?_
        assumption
      · exact Agree.refl _ _
    · exact Agree.refl _ _
  clear_value v1
  refine completeBarrier_agree.after rfl ?_
  assumption

theorem evalBarrier_agree {x0 x1 x2} : Agree 7335968 x0 (@evalBarrier x0 x1 x2) := by
  unfold evalBarrier
  split
  · extract_lets +onlyGivenNames v0
    clear_value v0
    extract_lets +onlyGivenNames v1
    clear_value v1
    extract_lets +onlyGivenNames v2
    clear_value v2
    refine Agree.ite ?_ ?_
    · exact Agree.refl _ _
    · refine Agree.ite ?_ ?_
      · refine Agree.ite ?_ ?_
        · extract_lets +onlyGivenNames v3
          clear_value v3
          extract_lets +onlyGivenNames v4
          clear_value v4
          refine releaseHere_agree.after rfl ?_
          refine Agree.foldl (fun a5 b6 h7 => ?_) ?_
          · refine sendBarrier_agree.after rfl ?_
            assumption
          · exact Agree.refl _ _
        · exact Agree.refl _ _
      · refine Agree.ite ?_ ?_
        · exact Agree.refl _ _
        · refine sendBarrier_agree.after rfl ?_
          refine putBarrier_agree.after rfl ?_
          exact Agree.refl _ _
  · exact Agree.refl _ _

theorem barrierJoin_agree {x0 x1 x2} : Agree 7335968 x2 (@barrierJoin x0 x1 x2) := by
  unfold barrierJoin
  extract_lets +onlyGivenNames v0
  clear_value v0
  extract_lets +onlyGivenNames v1
  clear_value v1
  extract_lets +onlyGivenNames v2
  clear_value v2
  extract_lets +onlyGivenNames v3
  clear_value v3
  extract_lets +onlyGivenNames v4
  have hv4 : Agree 7335968 x2 v4 := by
    unfold v4
    refine putBarrier_agree.after rfl ?_
    exact Agree.refl _ _
  clear_value v4
  refine evalBarrier_agree.after rfl ?_
  refine Agree.ite ?_ ?_
  · refine showBarrier_agree.after rfl ?_
    assumption
  · assumption

theorem barrierRelease_agree {x0 x1 x2} : Agree 7335968 x2 (@barrierRelease x0 x1 x2) := by
  unfold barrierRelease
  split
  · refine Agree.ite ?_ ?_
    · refine releaseHere_agree.after rfl ?_
      exact Agree.refl _ _
    · exact Agree.refl _ _
  · exact Agree.refl _ _

theorem joinBarrier_agree {x0 x1 x2 x3 x4 x5} : Agree 7335968 x0 (@joinBarrier x0 x1 x2 x3 x4 x5) := by
  unfold joinBarrier
  extract_lets +onlyGivenNames v0
  clear_value v0
  extract_lets +onlyGivenNames v1
  clear_value v1
  extract_lets +onlyGivenNames v2
  have hv2 : Agree 7335968 x0 v2 := by
    unfold v2
    refine showBarrier_agree.after rfl ?_
    refine putBarrier_agree.after rfl ?_
    exact Agree.refl _ _
  clear_value v2
  split
  · extract_lets +onlyGivenNames v3
    have hv3 : Agree 7335968 x0 v3 := by
      unfold v3
      refine Agree.ite ?_ ?_
      · assumption
      · refine sendBarrier_agree.after rfl ?_
        assumption
    clear_value v3
    refine evalBarrier_agree.after rfl ?_
    assumption
  · assumption

theorem maybeFabricBarrier_agree {x0 x1} : Agree 7335968 x0 (@maybeFabricBarrier x0 x1) := by
  unfold maybeFabricBarrier
  refine Agree.ite ?_ ?_
  · refine joinBarrier_agree.after rfl ?_
    exact Agree.refl _ _
  · exact Agree.refl _ _

theorem bootGiveup_agree {x0 x1 x2} : Agree 4784176 x2 (@bootGiveup x0 x1 x2) := by
  unfold bootGiveup
  extract_lets +onlyGivenNames v0
  have hv0 : Agree 4784176 x2 v0 := by
    unfold v0
    refine advance_agree.after rfl ?_
    exact Agree.refl _ _
  clear_value v0
  split
  · refine Agree.ite ?_ ?_
    · refine fabricReady_agree.after rfl ?_
      refine dropBarrier_agree.after rfl ?_
      refine showBarrier_agree.after rfl ?_
      assumption
    · assumption
  · assumption

theorem commitGiveup_agree {x0 x1} : Agree 69680 x1 (@commitGiveup x0 x1) := by
  unfold commitGiveup
  extract_lets +onlyGivenNames v0
  have hv0 : Agree 69680 x1 v0 := by
    unfold v0
    refine advance_agree.after rfl ?_
    exact Agree.refl _ _
  clear_value v0
  split
  · split
    · split
      · refine Agree.ite ?_ ?_
        · refine failCommit_agree.after rfl ?_
          refine dropBarrier_agree.after rfl ?_
          refine showBarrier_agree.after rfl ?_
          assumption
        · assumption
      · assumption
    · assumption
  · assumption

theorem commitImageBody_agree {x0 x1} : VAgree 0 x0 (@commitImageBody x0 x1) := by
  unfold commitImageBody
  extract_lets +onlyGivenNames v0
  clear_value v0
  extract_lets +onlyGivenNames v1
  clear_value v1
  extract_lets +onlyGivenNames v2
  refine VAgree.ite ?_ ?_
  · unfold v2
    exact True.intro
  · split
    · unfold v2
      exact True.intro
    · refine VAgree.ite ?_ ?_
      · unfold v2
        exact True.intro
      · refine VAgree.ite ?_ ?_
        · unfold v2
          exact True.intro
        · refine VAgree.ite ?_ ?_
          · unfold v2
            exact True.intro
          · show Agree 0 x0 _
            exact Agree.refl _ _

theorem commitIssue_agree {x0 x1 x2} : Agree 6127392 x2 (@commitIssue x0 x1 x2) := by
  unfold commitIssue
  extract_lets +onlyGivenNames v0
  have hv0 : Agree 6127392 x2 v0 := by
    unfold v0
    refine runEntry_agree rfl (fun s1 e2 => ?_)
    refine commitImageBody_agree.vafter rfl ?_
    exact Agree.refl _ _
  clear_value v0
  refine Agree.ite ?_ ?_
  · refine bump_agree.after rfl ?_
    assumption
  · assumption

theorem tryCommit_agree {x0 x1} : Agree 7336737 x1 (@tryCommit x0 x1) := by
  unfold tryCommit
  split
  · refine Agree.ite ?_ ?_
    · exact Agree.refl _ _
    · refine Agree.ite ?_ ?_
      · refine commitWaits_agree.after rfl ?_
        exact Agree.refl _ _
      · refine Agree.ite ?_ ?_
        · refine Agree.foldl (fun a0 b1 h2 => ?_) ?_
          · refine startTest_agree.after rfl ?_
            assumption
          · exact Agree.refl _ _
        · refine Agree.ite ?_ ?_
          · refine failCommit_agree.after rfl ?_
            exact Agree.refl _ _
          · extract_lets +onlyGivenNames v3
            have hv3 : Agree 7336737 x1 v3 := by
              unfold v3
              refine updateFloor_agree.after rfl ?_
              exact Agree.refl _ _
            clear_value v3
            extract_lets +onlyGivenNames v4
            clear_value v4
            split
            refine Agree.ite ?_ ?_
            · refine failCommit_agree.after rfl ?_
              assumption
            · refine Agree.ite ?_ ?_
              · refine applyCommit_agree.after rfl ?_
                assumption
              · extract_lets +onlyGivenNames v5
                have hv5 : Agree 7336737 x1 v5 := by
                  unfold v5
                  refine modQ_agree.after rfl ?_
                  refine commitWaits_agree.after rfl ?_
                  assumption
                clear_value v5
                refine joinBarrier_agree.after rfl ?_
                assumption
  · exact Agree.refl _ _

theorem execCommit_agree {x0 x1 x2 x3 t} (h : @execCommit x0 x1 x2 x3 = .next t) : Agree 8388385 x3 t := by
  unfold execCommit at h
  cases h
  split
  · refine Agree.ite ?_ ?_
    · refine tryCommit_agree.after rfl ?_
      exact Agree.refl _ _
    · exact Agree.refl _ _
  · refine tryCommit_agree.after rfl ?_
    refine commitIssue_agree.after rfl ?_
    exact Agree.refl _ _

theorem execBarrierJoin_agree {x0 x1 x2 t} (h : @execBarrierJoin x0 x1 x2 = .next t) : Agree 7335968 x2 t := by
  unfold execBarrierJoin at h
  cases h
  unfold recv
  refine Agree.ite ?_ ?_
  · exact Agree.refl _ _
  · extract_lets +onlyGivenNames v0
    have hv0 : Agree 7335968 x2 v0 := by
      unfold v0
      refine takeMsg_agree.after rfl ?_
      exact Agree.refl _ _
    clear_value v0
    extract_lets +onlyGivenNames v1
    clear_value v1
    extract_lets +onlyGivenNames v2
    refine Agree.ite ?_ ?_
    · refine bump_agree.after rfl ?_
      assumption
    · refine Agree.ite ?_ ?_
      · unfold v2
        refine barrierJoin_agree.after rfl ?_
        refine Agree.ite ?_ ?_
        · refine wakeLichen_agree.after rfl ?_
          assumption
        · assumption
      · refine Agree.ite ?_ ?_
        · assumption
        · refine Agree.ite ?_ ?_
          · unfold v2
            refine barrierJoin_agree.after rfl ?_
            refine Agree.ite ?_ ?_
            · refine wakeLichen_agree.after rfl ?_
              refine checkSeq_agree.after rfl ?_
              assumption
            · refine checkSeq_agree.after rfl ?_
              assumption
          · refine Agree.ite ?_ ?_
            · refine forwardMsg_agree.after rfl ?_
              assumption
            · unfold v2
              refine barrierJoin_agree.after rfl ?_
              refine Agree.ite ?_ ?_
              · refine wakeLichen_agree.after rfl ?_
                refine checkSeq_agree.after rfl ?_
                assumption
              · refine checkSeq_agree.after rfl ?_
                assumption

theorem execBarrierRelease_agree {x0 x1 x2 t} (h : @execBarrierRelease x0 x1 x2 = .next t) : Agree 7335968 x2 t := by
  unfold execBarrierRelease at h
  cases h
  unfold recv
  refine Agree.ite ?_ ?_
  · exact Agree.refl _ _
  · extract_lets +onlyGivenNames v0
    have hv0 : Agree 7335968 x2 v0 := by
      unfold v0
      refine takeMsg_agree.after rfl ?_
      exact Agree.refl _ _
    clear_value v0
    extract_lets +onlyGivenNames v1
    clear_value v1
    extract_lets +onlyGivenNames v2
    refine Agree.ite ?_ ?_
    · refine bump_agree.after rfl ?_
      assumption
    · refine Agree.ite ?_ ?_
      · unfold v2
        refine barrierRelease_agree.after rfl ?_
        refine Agree.ite ?_ ?_
        · refine wakeLichen_agree.after rfl ?_
          assumption
        · assumption
      · refine Agree.ite ?_ ?_
        · assumption
        · refine Agree.ite ?_ ?_
          · unfold v2
            refine barrierRelease_agree.after rfl ?_
            refine Agree.ite ?_ ?_
            · refine wakeLichen_agree.after rfl ?_
              refine checkSeq_agree.after rfl ?_
              assumption
            · refine checkSeq_agree.after rfl ?_
              assumption
          · refine Agree.ite ?_ ?_
            · refine forwardMsg_agree.after rfl ?_
              assumption
            · unfold v2
              refine barrierRelease_agree.after rfl ?_
              refine Agree.ite ?_ ?_
              · refine wakeLichen_agree.after rfl ?_
                refine checkSeq_agree.after rfl ?_
                assumption
              · refine checkSeq_agree.after rfl ?_
                assumption

theorem execBootGiveup_agree {x0 x1 x2 t} (h : @execBootGiveup x0 x1 x2 = .next t) : Agree 4784176 x2 t := by
  unfold execBootGiveup at h
  cases h
  refine bootGiveup_agree.after rfl ?_
  exact Agree.refl _ _

theorem execCommitGiveup_agree {x0 x1 t} (h : @execCommitGiveup x0 x1 = .next t) : Agree 69680 x1 t := by
  unfold execCommitGiveup at h
  cases h
  refine commitGiveup_agree.after rfl ?_
  exact Agree.refl _ _

end Sys2Proof.Laws
end

