-- ==== Sys2Proof/Laws/AgreeDiscovery.lean ====
section
/-! SUPPORT. What the operations of Machine/Discovery.lean leave alone: for each, the areas it may change, as the bits of a mask in
the numbering of `Area.idx`. -/

namespace Sys2Proof.Laws

open Sys2Proof Sys2Proof.Machine Sys2Proof.Safety Sys2Proof.Frame

theorem sendAnnounce_agree {x0 x1} : Agree 32768 x0 (@sendAnnounce x0 x1) := by
  unfold sendAnnounce
  split
  · refine sendOnPort_agree.after rfl ?_
    exact Agree.refl _ _
  · exact Agree.refl _ _

theorem admitPort_agree {x0 x1} : Agree 32768 x0 (@admitPort x0 x1) := by
  unfold admitPort
  extract_lets +onlyGivenNames v0
  clear_value v0
  refine sendAnnounce_agree.after rfl ?_
  refine modPort_agree.after rfl ?_
  exact Agree.refl _ _

theorem attestAnswer_agree {x0 x1} : Agree 32768 x1 (@attestAnswer x0 x1) := by
  unfold attestAnswer
  refine Agree.foldl (fun a0 b1 h2 => ?_) ?_
  · split
    refine sendOnPort_agree.after rfl ?_
    assumption
  · exact Agree.refl _ _

theorem judgeReport_agree {x0 x1 x2 x3} : Agree 5079072 x0 (@judgeReport x0 x1 x2 x3) := by
  unfold judgeReport
  extract_lets +onlyGivenNames v0
  clear_value v0
  extract_lets +onlyGivenNames v1
  clear_value v1
  refine Agree.ite ?_ ?_
  · refine admitPort_agree.after rfl ?_
    refine setF_agree.after rfl ?_
    exact Agree.refl _ _
  · extract_lets +onlyGivenNames v2
    clear_value v2
    extract_lets +onlyGivenNames v3
    have hv3 : Agree 5079072 x0 v3 := by
      unfold v3
      refine logEvent_agree.after rfl ?_
      refine setF_agree.after rfl ?_
      exact Agree.refl _ _
    clear_value v3
    refine Agree.ite ?_ ?_
    · refine admitPort_agree.after rfl ?_
      assumption
    · refine raiseCause_agree.after rfl ?_
      assumption

theorem attestFragment_agree {x0 x1 x2} : Agree 5079072 x2 (@attestFragment x0 x1 x2) := by
  unfold attestFragment
  extract_lets +onlyGivenNames v0
  clear_value v0
  refine Agree.ite ?_ ?_
  · exact Agree.refl _ _
  · extract_lets +onlyGivenNames v1
    clear_value v1
    refine Agree.ite ?_ ?_
    · refine setPort_agree.after rfl ?_
      exact Agree.refl _ _
    · refine judgeReport_agree.after rfl ?_
      refine setPort_agree.after rfl ?_
      exact Agree.refl _ _

theorem checkAnnounce_agree {x0 x1} : Agree 5079073 x0 (@checkAnnounce x0 x1) := by
  unfold checkAnnounce
  split
  · exact Agree.refl _ _
  · extract_lets +onlyGivenNames v0
    clear_value v0
    extract_lets +onlyGivenNames v1
    clear_value v1
    extract_lets +onlyGivenNames v2
    clear_value v2
    extract_lets +onlyGivenNames v3
    clear_value v3
    refine Agree.ite ?_ ?_
    · exact Agree.refl _ _
    · refine Agree.ite ?_ ?_
      · refine Agree.ite ?_ ?_
        · extract_lets +onlyGivenNames v4
          have hv4 : Agree 5079073 x0 v4 := by
            unfold v4
            refine modPort_agree.after rfl ?_
            refine setF_agree.after rfl ?_
            exact Agree.refl _ _
          clear_value v4
          refine raiseCause_agree.after rfl ?_
          refine logEvent_agree.after rfl ?_
          assumption
        · exact Agree.refl _ _
      · refine Agree.ite ?_ ?_
        · extract_lets +onlyGivenNames v5
          clear_value v5
          extract_lets +onlyGivenNames v6
          have hv6 : Agree 5079073 x0 v6 := by
            unfold v6
            refine leaveUp_agree.after rfl ?_
            refine Agree.updMk ?_ (Nat.le_succ _) (flashUp_refl _) rfl rfl rfl ⟨rfl, rfl, rfl, rfl, rfl⟩ (fun a h => by cases a <;> first | exact absurd h (by decide) | exact rfl | exact ⟨rfl, rfl⟩)
            exact Agree.refl _ _
          clear_value v6
          refine logEvent_agree.after rfl ?_
          refine enterIdent_agree.after rfl ?_
          assumption
        · refine modPort_agree.after rfl ?_
          refine Agree.updMk ?_ (Nat.le_refl _) (flashUp_refl _) rfl rfl rfl ⟨rfl, rfl, rfl, rfl, rfl⟩ (fun a h => by cases a <;> first | exact absurd h (by decide) | exact rfl | exact ⟨rfl, rfl⟩)
          exact Agree.refl _ _

theorem checkColony_agree {x0} : Agree 589856 x0 (@checkColony x0) := by
  unfold checkColony
  refine Agree.ite ?_ ?_
  · refine wantGossip_agree.after rfl ?_
    refine markEvent_agree.after rfl ?_
    refine setF_agree.after rfl ?_
    exact Agree.refl _ _
  · exact Agree.refl _ _

theorem takeAddress_agree {x0 x1 x2} : Agree 5079073 x0 (@takeAddress x0 x1 x2) := by
  unfold takeAddress
  extract_lets +onlyGivenNames v0
  clear_value v0
  extract_lets +onlyGivenNames v1
  have hv1 : Agree 5079073 x0 v1 := by
    unfold v1
    refine Agree.updMk ?_ (Nat.le_refl _) (flashUp_refl _) rfl rfl rfl ⟨rfl, rfl, rfl, rfl, rfl⟩ (fun a h => by cases a <;> first | exact absurd h (by decide) | exact rfl | exact ⟨rfl, rfl⟩)
    exact Agree.refl _ _
  clear_value v1
  extract_lets +onlyGivenNames v2
  have hv2 : Agree 5079073 x0 v2 := by
    unfold v2
    refine setF_agree.after rfl ?_
    refine setF_agree.after rfl ?_
    refine setF_agree.after rfl ?_
    refine setF_agree.after rfl ?_
    assumption
  clear_value v2
  extract_lets +onlyGivenNames v3
  have hv3 : Agree 5079073 x0 v3 := by
    unfold v3
    refine Agree.foldl (fun a4 b5 h6 => ?_) ?_
    · refine sendAnnounce_agree.after rfl ?_
      assumption
    · assumption
  clear_value v3
  refine checkColony_agree.after rfl ?_
  refine Agree.foldl (fun a7 b8 h9 => ?_) ?_
  · refine checkAnnounce_agree.after rfl ?_
    assumption
  · assumption

theorem fabAssign_agree {x0 x1 x2} : Agree 5079073 x2 (@fabAssign x0 x1 x2) := by
  unfold fabAssign
  refine Agree.ite ?_ ?_
  · refine accessError_agree.after rfl ?_
    exact Agree.refl _ _
  · extract_lets +onlyGivenNames v0
    have hv0 : Agree 5079073 x2 v0 := by
      unfold v0
      refine writeFields_agree.after rfl ?_
      exact Agree.refl _ _
    clear_value v0
    refine Agree.ite ?_ ?_
    · refine takeAddress_agree.after rfl ?_
      refine markEvent_agree.after rfl ?_
      assumption
    · assumption

theorem finishGossip_agree {x0 x1} : Agree 7335968 x0 (@finishGossip x0 x1) := by
  unfold finishGossip
  extract_lets +onlyGivenNames v0
  clear_value v0
  extract_lets +onlyGivenNames v1
  have hv1 : Agree 7335968 x0 v1 := by
    unfold v1
    refine setGossip_agree.after rfl ?_
    exact Agree.refl _ _
  clear_value v1
  extract_lets +onlyGivenNames v2
  have hv2 : Agree 7335968 x0 v2 := by
    unfold v2
    refine Agree.ite ?_ ?_
    · refine markEvent_agree.after rfl ?_
      assumption
    · assumption
  clear_value v2
  refine maybeFabricBarrier_agree.after rfl ?_
  refine buildRoutes_agree.after rfl ?_
  refine setF_agree.after rfl ?_
  assumption

theorem sendRound_agree {x0 x1} : Agree 32768 x0 (@sendRound x0 x1) := by
  unfold sendRound
  split
  · exact Agree.refl _ _
  · extract_lets +onlyGivenNames v0
    clear_value v0
    extract_lets +onlyGivenNames v1
    clear_value v1
    refine Agree.foldl (fun a2 b3 h4 => ?_) ?_
    · split
      extract_lets +onlyGivenNames v5
      clear_value v5
      refine sendOnPort_agree.after rfl ?_
      assumption
    · exact Agree.refl _ _

theorem startRound_agree {x0 x1} : Agree 98336 x0 (@startRound x0 x1) := by
  unfold startRound
  extract_lets +onlyGivenNames v0
  clear_value v0
  extract_lets +onlyGivenNames v1
  clear_value v1
  extract_lets +onlyGivenNames v2
  have hv2 : Agree 98336 x0 v2 := by
    unfold v2
    refine setGossip_agree.after rfl ?_
    exact Agree.refl _ _
  clear_value v2
  refine Agree.foldl (fun a3 b4 h5 => ?_) ?_
  · refine sendRound_agree.after rfl ?_
    assumption
  · assumption

theorem endRounds_agree {k s feeds} : Agree 7335968 s (endRounds k s feeds) := by
  induction k generalizing s with
  | zero => exact Agree.refl _ _
  | succ k ih =>
    unfold endRounds
    extract_lets g
    split
    · exact Agree.refl _ _
    · split
      · exact finishGossip_agree.mono rfl
      · exact Agree.trans (startRound_agree.mono rfl) ih

theorem execAttestReq_agree {x0 x1 t} (h : @execAttestReq x0 x1 = .next t) : Agree 622624 x1 t := by
  unfold execAttestReq at h
  cases h
  unfold recv
  refine Agree.ite ?_ ?_
  · exact Agree.refl _ _
  · extract_lets +onlyGivenNames v0
    have hv0 : Agree 622624 x1 v0 := by
      unfold v0
      refine takeMsg_agree.after rfl ?_
      exact Agree.refl _ _
    clear_value v0
    extract_lets +onlyGivenNames v1
    clear_value v1
    extract_lets +onlyGivenNames v2
    refine Agree.ite ?_ ?_
    · refine bump_agree.after rfl ?_
      assumption
    · refine Agree.ite ?_ ?_
      · unfold v2
        refine attestAnswer_agree.after rfl ?_
        refine Agree.ite ?_ ?_
        · refine wakeLichen_agree.after rfl ?_
          assumption
        · assumption
      · refine Agree.ite ?_ ?_
        · assumption
        · refine Agree.ite ?_ ?_
          · unfold v2
            refine attestAnswer_agree.after rfl ?_
            refine Agree.ite ?_ ?_
            · refine wakeLichen_agree.after rfl ?_
              refine checkSeq_agree.after rfl ?_
              assumption
            · refine checkSeq_agree.after rfl ?_
              assumption
          · refine Agree.ite ?_ ?_
            · refine forwardMsg_agree.after rfl ?_
              assumption
            · unfold v2
              refine attestAnswer_agree.after rfl ?_
              refine Agree.ite ?_ ?_
              · refine wakeLichen_agree.after rfl ?_
                refine checkSeq_agree.after rfl ?_
                assumption
              · refine checkSeq_agree.after rfl ?_
                assumption

theorem execAttestResp_agree {x0 x1 x2 t} (h : @execAttestResp x0 x1 x2 = .next t) : Agree 5079072 x2 t := by
  unfold execAttestResp at h
  cases h
  unfold recv
  refine Agree.ite ?_ ?_
  · exact Agree.refl _ _
  · extract_lets +onlyGivenNames v0
    have hv0 : Agree 5079072 x2 v0 := by
      unfold v0
      refine takeMsg_agree.after rfl ?_
      exact Agree.refl _ _
    clear_value v0
    extract_lets +onlyGivenNames v1
    clear_value v1
    extract_lets +onlyGivenNames v2
    refine Agree.ite ?_ ?_
    · refine bump_agree.after rfl ?_
      assumption
    · refine Agree.ite ?_ ?_
      · unfold v2
        refine attestFragment_agree.after rfl ?_
        refine Agree.ite ?_ ?_
        · refine wakeLichen_agree.after rfl ?_
          assumption
        · assumption
      · refine Agree.ite ?_ ?_
        · assumption
        · refine Agree.ite ?_ ?_
          · unfold v2
            refine attestFragment_agree.after rfl ?_
            refine Agree.ite ?_ ?_
            · refine wakeLichen_agree.after rfl ?_
              refine checkSeq_agree.after rfl ?_
              assumption
            · refine checkSeq_agree.after rfl ?_
              assumption
          · refine Agree.ite ?_ ?_
            · refine forwardMsg_agree.after rfl ?_
              assumption
            · unfold v2
              refine attestFragment_agree.after rfl ?_
              refine Agree.ite ?_ ?_
              · refine wakeLichen_agree.after rfl ?_
                refine checkSeq_agree.after rfl ?_
                assumption
              · refine checkSeq_agree.after rfl ?_
                assumption

theorem takeAnnounce_agree {x0 x1} : Agree 5079073 x1 (@takeAnnounce x0 x1) := by
  unfold takeAnnounce
  extract_lets +onlyGivenNames v0
  clear_value v0
  extract_lets +onlyGivenNames v1
  clear_value v1
  extract_lets +onlyGivenNames v2
  clear_value v2
  extract_lets +onlyGivenNames v3
  clear_value v3
  extract_lets +onlyGivenNames v4
  have hv4 : Agree 5079073 x1 v4 := by
    unfold v4
    refine setF_agree.after rfl ?_
    refine modPort_agree.after rfl ?_
    exact Agree.refl _ _
  clear_value v4
  split
  · extract_lets +onlyGivenNames v5
    have hv5 : Agree 5079073 x1 v5 := by
      unfold v5
      refine checkColony_agree.after rfl ?_
      refine checkAnnounce_agree.after rfl ?_
      assumption
    clear_value v5
    refine Agree.ite ?_ ?_
    · refine wantGossip_agree.after rfl ?_
      assumption
    · assumption
  · refine Agree.ite ?_ ?_
    · refine takeAddress_agree.after rfl ?_
      refine markEvent_agree.after rfl ?_
      assumption
    · assumption

theorem execAnnounce_agree {x0 x1 t} (h : @execAnnounce x0 x1 = .next t) : Agree 5079073 x1 t := by
  unfold execAnnounce at h
  cases h
  unfold recv
  refine Agree.ite ?_ ?_
  · exact Agree.refl _ _
  · extract_lets +onlyGivenNames v0
    have hv0 : Agree 5079073 x1 v0 := by
      unfold v0
      refine takeMsg_agree.after rfl ?_
      exact Agree.refl _ _
    clear_value v0
    extract_lets +onlyGivenNames v1
    clear_value v1
    extract_lets +onlyGivenNames v2
    refine Agree.ite ?_ ?_
    · refine bump_agree.after rfl ?_
      assumption
    · refine Agree.ite ?_ ?_
      · unfold v2
        refine takeAnnounce_agree.after rfl ?_
        refine Agree.ite ?_ ?_
        · refine wakeLichen_agree.after rfl ?_
          assumption
        · assumption
      · refine Agree.ite ?_ ?_
        · assumption
        · refine Agree.ite ?_ ?_
          · unfold v2
            refine takeAnnounce_agree.after rfl ?_
            refine Agree.ite ?_ ?_
            · refine wakeLichen_agree.after rfl ?_
              refine checkSeq_agree.after rfl ?_
              assumption
            · refine checkSeq_agree.after rfl ?_
              assumption
          · refine Agree.ite ?_ ?_
            · refine forwardMsg_agree.after rfl ?_
              assumption
            · unfold v2
              refine takeAnnounce_agree.after rfl ?_
              refine Agree.ite ?_ ?_
              · refine wakeLichen_agree.after rfl ?_
                refine checkSeq_agree.after rfl ?_
                assumption
              · refine checkSeq_agree.after rfl ?_
                assumption

theorem startRun_agree {x0 x1 x2} : Agree 7335968 x0 (@startRun x0 x1 x2) := by
  unfold startRun
  split
  · exact Agree.refl _ _
  · extract_lets +onlyGivenNames v0
    clear_value v0
    extract_lets +onlyGivenNames v1
    clear_value v1
    extract_lets +onlyGivenNames v2
    have hv2 : Agree 7335968 x0 v2 := by
      unfold v2
      refine Agree.updMk ?_ (Nat.le_refl _) (flashUp_refl _) rfl rfl rfl ⟨rfl, rfl, rfl, rfl, rfl⟩ (fun a h => by cases a <;> first | exact absurd h (by decide) | exact rfl | exact ⟨rfl, rfl⟩)
      exact Agree.refl _ _
    clear_value v2
    refine endRounds_agree.after rfl ?_
    refine startRound_agree.after rfl ?_
    refine bump_agree.after rfl ?_
    assumption

theorem mergeFragment_agree {x0 x1 x2} : Agree 65536 x0 (@mergeFragment x0 x1 x2) := by
  unfold mergeFragment
  extract_lets +onlyGivenNames v0
  clear_value v0
  extract_lets +onlyGivenNames v1
  clear_value v1
  extract_lets +onlyGivenNames v2
  clear_value v2
  extract_lets +onlyGivenNames v3
  have hv3 : Agree 65536 x0 v3 := by
    unfold v3
    refine Agree.foldl (fun a4 b5 h6 => ?_) ?_
    · extract_lets +onlyGivenNames v7
      clear_value v7
      extract_lets +onlyGivenNames v8
      clear_value v8
      refine Agree.ite ?_ ?_
      · assumption
      · extract_lets +onlyGivenNames v9
        clear_value v9
        refine Agree.updMk ?_ (Nat.le_refl _) (flashUp_refl _) rfl rfl rfl ⟨rfl, rfl, rfl, rfl, rfl⟩ (fun a h => by cases a <;> first | exact absurd h (by decide) | exact rfl | exact ⟨rfl, rfl⟩)
        assumption
    · exact Agree.refl _ _
  clear_value v3
  refine Agree.foldl (fun a10 b11 h12 => ?_) ?_
  · extract_lets +onlyGivenNames v13
    clear_value v13
    extract_lets +onlyGivenNames v14
    clear_value v14
    refine Agree.updMk ?_ (Nat.le_refl _) (flashUp_refl _) rfl rfl rfl ⟨rfl, rfl, rfl, rfl, rfl⟩ (fun a h => by cases a <;> first | exact absurd h (by decide) | exact rfl | exact ⟨rfl, rfl⟩)
    assumption
  · assumption

theorem takeGossip_agree {x0 x1 x2} : Agree 7335968 x2 (@takeGossip x0 x1 x2) := by
  unfold takeGossip
  extract_lets +onlyGivenNames v0
  clear_value v0
  extract_lets +onlyGivenNames v1
  clear_value v1
  extract_lets +onlyGivenNames v2
  clear_value v2
  extract_lets +onlyGivenNames v3
  clear_value v3
  extract_lets +onlyGivenNames v4
  have hv4 : Agree 7335968 x2 v4 := by
    unfold v4
    refine Agree.updMk ?_ (Nat.le_refl _) (flashUp_refl _) rfl rfl rfl ⟨rfl, rfl, rfl, rfl, rfl⟩ (fun a h => by cases a <;> first | exact absurd h (by decide) | exact rfl | exact ⟨rfl, rfl⟩)
    exact Agree.refl _ _
  clear_value v4
  split
  · assumption
  · refine Agree.ite ?_ ?_
    · assumption
    · extract_lets +onlyGivenNames v5
      have hv5 : Agree 7335968 x2 v5 := by
        unfold v5
        refine Agree.ite ?_ ?_
        · refine startRun_agree.after rfl ?_
          assumption
        · assumption
      clear_value v5
      extract_lets +onlyGivenNames v6
      clear_value v6
      refine Agree.ite ?_ ?_
      · assumption
      · extract_lets +onlyGivenNames v7
        clear_value v7
        extract_lets +onlyGivenNames v8
        have hv8 : Agree 7335968 x2 v8 := by
          unfold v8
          refine Agree.updMk ?_ (Nat.le_refl _) (flashUp_refl _) rfl rfl rfl ⟨rfl, rfl, rfl, rfl, rfl⟩ (fun a h => by cases a <;> first | exact absurd h (by decide) | exact rfl | exact ⟨rfl, rfl⟩)
          assumption
        clear_value v8
        refine endRounds_agree.after rfl ?_
        refine mergeFragment_agree.after rfl ?_
        assumption

theorem execRouteGossip_agree {x0 x1 x2 t} (h : @execRouteGossip x0 x1 x2 = .next t) : Agree 7335968 x2 t := by
  unfold execRouteGossip at h
  cases h
  unfold recv
  refine Agree.ite ?_ ?_
  · exact Agree.refl _ _
  · extract_lets +onlyGivenNames v0
    have hv0 : Agree 7335968 x2 v0 := by
      unfold v0
      refine takeMsg_agree.after rfl ?_
      exact Agree.refl _ _
    clear_value v0
    extract_lets +onlyGivenNames v1
    clear_value v1
    extract_lets +onlyGivenNames v2
    refine Agree.ite ?_ ?_
    · refine bump_agree.after rfl ?_
      assumption
    · refine Agree.ite ?_ ?_
      · unfold v2
        refine takeGossip_agree.after rfl ?_
        refine Agree.ite ?_ ?_
        · refine wakeLichen_agree.after rfl ?_
          assumption
        · assumption
      · refine Agree.ite ?_ ?_
        · assumption
        · refine Agree.ite ?_ ?_
          · unfold v2
            refine takeGossip_agree.after rfl ?_
            refine Agree.ite ?_ ?_
            · refine wakeLichen_agree.after rfl ?_
              refine checkSeq_agree.after rfl ?_
              assumption
            · refine checkSeq_agree.after rfl ?_
              assumption
          · refine Agree.ite ?_ ?_
            · refine forwardMsg_agree.after rfl ?_
              assumption
            · unfold v2
              refine takeGossip_agree.after rfl ?_
              refine Agree.ite ?_ ?_
              · refine wakeLichen_agree.after rfl ?_
                refine checkSeq_agree.after rfl ?_
                assumption
              · refine checkSeq_agree.after rfl ?_
                assumption

theorem gossipRunStart_agree {x0 x1} : Agree 7335968 x1 (@gossipRunStart x0 x1) := by
  unfold gossipRunStart
  refine Agree.ite ?_ ?_
  · refine startRun_agree.after rfl ?_
    refine Agree.updMk ?_ (Nat.le_refl _) (flashUp_refl _) rfl rfl rfl ⟨rfl, rfl, rfl, rfl, rfl⟩ (fun a h => by cases a <;> first | exact absurd h (by decide) | exact rfl | exact ⟨rfl, rfl⟩)
    exact Agree.refl _ _
  · exact Agree.refl _ _

theorem execGossipRunStart_agree {x0 x1 t} (h : @execGossipRunStart x0 x1 = .next t) : Agree 7335968 x1 t := by
  unfold execGossipRunStart at h
  cases h
  refine gossipRunStart_agree.after rfl ?_
  exact Agree.refl _ _

theorem roundGiveup_agree {x0 x1 x2} : Agree 7335984 x2 (@roundGiveup x0 x1 x2) := by
  unfold roundGiveup
  extract_lets +onlyGivenNames v0
  have hv0 : Agree 7335984 x2 v0 := by
    unfold v0
    refine advance_agree.after rfl ?_
    exact Agree.refl _ _
  clear_value v0
  extract_lets +onlyGivenNames v1
  clear_value v1
  refine Agree.ite ?_ ?_
  · refine endRounds_agree.after rfl ?_
    refine setGossip_agree.after rfl ?_
    refine bump_agree.after rfl ?_
    assumption
  · assumption

theorem execRoundGiveup_agree {x0 x1 x2 t} (h : @execRoundGiveup x0 x1 x2 = .next t) : Agree 7335984 x2 t := by
  unfold execRoundGiveup at h
  cases h
  refine roundGiveup_agree.after rfl ?_
  exact Agree.refl _ _

theorem startupLate_agree {x0 x1 x2} : Agree 5046320 x2 (@startupLate x0 x1 x2) := by
  unfold startupLate
  extract_lets +onlyGivenNames v0
  have hv0 : Agree 5046320 x2 v0 := by
    unfold v0
    refine advance_agree.after rfl ?_
    exact Agree.refl _ _
  clear_value v0
  extract_lets +onlyGivenNames v1
  clear_value v1
  split
  · refine Agree.ite ?_ ?_
    · refine raiseCause_agree.after rfl ?_
      refine logEvent_agree.after rfl ?_
      refine setF_agree.after rfl ?_
      assumption
    · assumption
  · assumption

theorem execStartupLate_agree {x0 x1 x2 t} (h : @execStartupLate x0 x1 x2 = .next t) : Agree 5046320 x2 t := by
  unfold execStartupLate at h
  cases h
  split
  refine startupLate_agree.after rfl ?_
  exact Agree.refl _ _

theorem execFabAssign_agree {x0 x1 x2 t} (h : @execFabAssign x0 x1 x2 = .next t) : Agree 5079201 x2 t := by
  unfold execFabAssign at h
  cases h
  unfold touch
  unfold touchAt
  refine Agree.ite ?_ ?_
  · exact Agree.refl _ _
  · extract_lets +onlyGivenNames v0
    have hv0 : Agree 5079201 x2 v0 := by
      unfold v0
      refine dropShadow_agree.after rfl ?_
      exact Agree.refl _ _
    clear_value v0
    refine Agree.ite ?_ ?_
    · refine accessError_agree.after rfl ?_
      assumption
    · refine Agree.ite ?_ ?_
      · refine accessError_agree.after rfl ?_
        assumption
      · refine fabAssign_agree.after rfl ?_
        assumption

end Sys2Proof.Laws
end

