-- ==== Sys2Proof/Laws/AgreeRestore.lean ====
section
/-! SUPPORT. What the operations of Machine/Restore.lean leave alone: for each, the areas it may change, as the bits of a mask in
the numbering of `Area.idx`. -/

namespace Sys2Proof.Laws

open Sys2Proof Sys2Proof.Machine Sys2Proof.Safety Sys2Proof.Frame

theorem undefineSet0_agree {x0 x1} : Agree 5055265 x0 (@undefineSet0 x0 x1) := by
  unfold undefineSet0
  refine Agree.foldl (fun a0 b1 h2 => ?_) ?_
  · refine Agree.foldl (fun a3 b4 h5 => ?_) ?_
    · refine writeBytes_agree.after rfl ?_
      refine Agree.updMk ?_ (Nat.le_add_right _ _) (flashUp_refl _) rfl rfl rfl ⟨rfl, rfl, rfl, rfl, rfl⟩ (fun a h => by cases a <;> first | exact absurd h (by decide) | exact rfl | exact ⟨rfl, rfl⟩)
      assumption
    · assumption
  · exact Agree.refl _ _

theorem restoreDone_agree {x0 x1} : Agree 32 x0 (@restoreDone x0 x1) := by
  unfold restoreDone
  refine setF_agree.after rfl ?_
  refine setF_agree.after rfl ?_
  exact Agree.refl _ _

theorem failRestore_agree {x0 x1} : Agree 5055265 x0 (@failRestore x0 x1) := by
  unfold failRestore
  split
  · exact Agree.refl _ _
  · extract_lets +onlyGivenNames v0
    have hv0 : Agree 5055265 x0 v0 := by
      unfold v0
      refine undefineSet0_agree.after rfl ?_
      exact Agree.refl _ _
    clear_value v0
    extract_lets +onlyGivenNames v1
    clear_value v1
    extract_lets +onlyGivenNames v2
    have hv2 : Agree 5055265 x0 v2 := by
      unfold v2
      refine Agree.updMk ?_ (Nat.le_refl _) (flashUp_refl _) rfl rfl rfl ⟨rfl, rfl, rfl, rfl, rfl⟩ (fun a h => by cases a <;> first | exact absurd h (by decide) | exact rfl | exact ⟨rfl, rfl⟩)
      assumption
    clear_value v2
    refine restoreDone_agree.after rfl ?_
    refine setF_agree.after rfl ?_
    refine setF_agree.after rfl ?_
    assumption

theorem readOn_agree {x0 x1} : Agree 65536 x0 (@readOn x0 x1) := by
  unfold readOn
  refine Agree.ite ?_ ?_
  · exact Agree.refl _ _
  · extract_lets +onlyGivenNames v0
    clear_value v0
    extract_lets +onlyGivenNames v1
    clear_value v1
    extract_lets +onlyGivenNames v2
    clear_value v2
    extract_lets +onlyGivenNames v3
    clear_value v3
    extract_lets +onlyGivenNames v4
    have hv4 : Agree 65536 x0 v4 := by
      unfold v4
      refine Agree.updMk ?_ (Nat.le_refl _) (flashUp_refl _) rfl rfl rfl ⟨rfl, rfl, rfl, rfl, rfl⟩ (fun a h => by cases a <;> first | exact absurd h (by decide) | exact rfl | exact ⟨rfl, rfl⟩)
      exact Agree.refl _ _
    clear_value v4
    refine sendMsg_agree.after rfl ?_
    assumption

theorem restoreBytes_agree {x0 x1 x2} : Agree 589824 x0 (@restoreBytes x0 x1 x2) := by
  unfold restoreBytes
  split
  · exact Agree.refl _ _
  · extract_lets +onlyGivenNames v0
    clear_value v0
    refine readOn_agree.after rfl ?_
    refine Agree.updMk ?_ (Nat.le_refl _) (flashUp_refl _) rfl rfl rfl ⟨rfl, rfl, rfl, rfl, rfl⟩ (fun a h => by cases a <;> first | exact absurd h (by decide) | exact rfl | exact ⟨rfl, rfl⟩)
    exact Agree.refl _ _

theorem restoreWrite_agree {x0 x1 x2} : Agree 4784160 x2 (@restoreWrite x0 x1 x2) := by
  unfold restoreWrite
  extract_lets +onlyGivenNames v0
  have hv0 : Agree 4784160 x2 v0 := by
    unfold v0
    refine writeFields_agree.after rfl ?_
    exact Agree.refl _ _
  clear_value v0
  refine Agree.ite ?_ ?_
  · assumption
  · refine Agree.ite ?_ ?_
    · refine accessError_agree.after rfl ?_
      assumption
    · extract_lets +onlyGivenNames v1
      clear_value v1
      refine Agree.ite ?_ ?_
      · refine restoreDone_agree.after rfl ?_
        assumption
      · extract_lets +onlyGivenNames v2
        clear_value v2
        extract_lets +onlyGivenNames v3
        have hv3 : Agree 4784160 x2 v3 := by
          unfold v3
          refine wakeLichen_agree.after rfl ?_
          refine setF_agree.after rfl ?_
          assumption
        clear_value v3
        refine readOn_agree.after rfl ?_
        refine Agree.updMk ?_ (Nat.le_refl _) (flashUp_refl _) rfl rfl rfl ⟨rfl, rfl, rfl, rfl, rfl⟩ (fun a h => by cases a <;> first | exact absurd h (by decide) | exact rfl | exact ⟨rfl, rfl⟩)
        assumption

theorem execRestore_agree {x0 x1 x2 t} (h : @execRestore x0 x1 x2 = .next t) : Agree 4784288 x2 t := by
  unfold execRestore at h
  cases h
  unfold touch
  unfold touchAt
  refine Agree.ite ?_ ?_
  · exact Agree.refl _ _
  · extract_lets +onlyGivenNames v0
    have hv0 : Agree 4784288 x2 v0 := by
      unfold v0
      refine dropShadow_agree.after rfl ?_
      exact Agree.refl _ _
    clear_value v0
    refine Agree.ite ?_ ?_
    · refine accessError_agree.after rfl ?_
      assumption
    · refine Agree.ite ?_ ?_
      · refine accessError_agree.after rfl ?_
        assumption
      · refine restoreWrite_agree.after rfl ?_
        assumption

theorem readStream_agree {x0 x1 x2} : Agree 5055008 x0 (@readStream x0 x1 x2) := by
  unfold readStream
  refine Agree.ite ?_ ?_
  · exact Agree.refl _ _
  · refine readUnits_agree.after rfl ?_
    exact Agree.refl _ _

theorem putRuns_agree {s l o b} : Agree 5055264 s (putRuns s l o b) := writeSet_agree.mono rfl

theorem restoreCopy_agree {x0 x1 x2 x3 x4} : Agree 5071648 x0 (@restoreCopy x0 x1 x2 x3 x4) := by
  unfold restoreCopy
  extract_lets +onlyGivenNames v0
  clear_value v0
  extract_lets +onlyGivenNames v1
  clear_value v1
  extract_lets +onlyGivenNames v2
  clear_value v2
  extract_lets +onlyGivenNames v3
  clear_value v3
  refine Agree.ite ?_ ?_
  · exact Agree.refl _ _
  · extract_lets +onlyGivenNames v4
    clear_value v4
    extract_lets +onlyGivenNames v5
    clear_value v5
    extract_lets +onlyGivenNames v6
    clear_value v6
    extract_lets +onlyGivenNames v7
    have hv7 : Agree 5071648 x0 v7 := by
      unfold v7
      refine Agree.ite ?_ ?_
      · refine modPart_agree.after rfl ?_
        exact Agree.refl _ _
      · exact Agree.refl _ _
    clear_value v7
    extract_lets +onlyGivenNames v8
    have hv8 : Agree 5071648 x0 v8 := by
      unfold v8
      refine Agree.ite ?_ ?_
      · refine Agree.foldl (fun a9 b10 h11 => ?_) ?_
        · refine writeBytes_agree.after rfl ?_
          assumption
        · assumption
      · assumption
    clear_value v8
    refine Agree.ite ?_ ?_
    · refine logEvent_agree.after rfl ?_
      assumption
    · assumption

theorem restoreTables_agree {x0 x1 x2 x3} : Agree 5071648 x0 (@restoreTables x0 x1 x2 x3) := by
  unfold restoreTables
  extract_lets +onlyGivenNames v0
  clear_value v0
  extract_lets +onlyGivenNames v1
  clear_value v1
  extract_lets +onlyGivenNames v2
  clear_value v2
  extract_lets +onlyGivenNames v3
  clear_value v3
  extract_lets +onlyGivenNames v4
  clear_value v4
  extract_lets +onlyGivenNames v5
  clear_value v5
  extract_lets +onlyGivenNames v6
  clear_value v6
  extract_lets +onlyGivenNames v7
  have hv7 : Agree 5071648 x0 v7 := by
    unfold v7
    refine modPart_agree.after rfl ?_
    exact Agree.refl _ _
  clear_value v7
  extract_lets +onlyGivenNames v8
  have hv8 : Agree 5071648 x0 v8 := by
    unfold v8
    refine logWarm_agree.after rfl ?_
    assumption
  clear_value v8
  extract_lets +onlyGivenNames v9
  clear_value v9
  extract_lets +onlyGivenNames v10
  have hv10 : Agree 5071648 x0 v10 := by
    unfold v10
    split
    · refine Agree.ite ?_ ?_
      · assumption
      · refine Agree.foldl (fun a11 b12 h13 => ?_) ?_
        · refine modPart_agree.after rfl ?_
          refine writeBytes_agree.after rfl ?_
          assumption
        · assumption
    · assumption
  clear_value v10
  extract_lets +onlyGivenNames v14
  clear_value v14
  refine modPart_agree.after rfl ?_
  assumption

theorem finishRestore_agree {x0 x1 x2} : Agree 5071648 x0 (@finishRestore x0 x1 x2) := by
  unfold finishRestore
  extract_lets +onlyGivenNames v0
  have hv0 : Agree 5071648 x0 v0 := by
    unfold v0
    exact Agree.refl _ _
  clear_value v0
  extract_lets +onlyGivenNames v1
  clear_value v1
  extract_lets +onlyGivenNames v2
  clear_value v2
  extract_lets +onlyGivenNames v3
  clear_value v3
  extract_lets +onlyGivenNames v4
  have hv4 : Agree 5071648 x0 v4 := by
    unfold v4
    refine Agree.foldl (fun a5 b6 h7 => ?_) ?_
    · split
      · refine putRuns_agree.after rfl ?_
        assumption
      · assumption
    · assumption
  clear_value v4
  extract_lets +onlyGivenNames v8
  clear_value v8
  extract_lets +onlyGivenNames v9
  have hv9 : Agree 5071648 x0 v9 := by
    unfold v9
    refine Agree.foldl (fun a10 b11 h12 => ?_) ?_
    · refine restoreCopy_agree.after rfl ?_
      refine restoreCopy_agree.after rfl ?_
      assumption
    · assumption
  clear_value v9
  extract_lets +onlyGivenNames v13
  have hv13 : Agree 5071648 x0 v13 := by
    unfold v13
    refine modPart_agree.after rfl ?_
    assumption
  clear_value v13
  extract_lets +onlyGivenNames v14
  have hv14 : Agree 5071648 x0 v14 := by
    unfold v14
    refine restoreTables_agree.after rfl ?_
    refine setF_agree.after rfl ?_
    assumption
  clear_value v14
  extract_lets +onlyGivenNames v15
  have hv15 : Agree 5071648 x0 v15 := by
    unfold v15
    refine setReg_agree.after rfl ?_
    assumption
  clear_value v15
  extract_lets +onlyGivenNames v16
  clear_value v16
  extract_lets +onlyGivenNames v17
  clear_value v17
  extract_lets +onlyGivenNames v18
  clear_value v18
  extract_lets +onlyGivenNames v19
  have hv19 : Agree 5071648 x0 v19 := by
    unfold v19
    refine Agree.updMk ?_ (Nat.le_refl _) (flashUp_refl _) rfl rfl rfl ⟨rfl, rfl, rfl, rfl, rfl⟩ (fun a h => by cases a <;> first | exact absurd h (by decide) | exact rfl | exact ⟨rfl, rfl⟩)
    assumption
  clear_value v19
  refine restoreDone_agree.after rfl ?_
  refine setF_agree.after rfl ?_
  refine setF_agree.after rfl ?_
  assumption

theorem restoreEnd_agree {x0 x1} : Agree 5071649 x1 (@restoreEnd x0 x1) := by
  unfold restoreEnd
  split
  · exact Agree.refl _ _
  · refine Agree.ite ?_ ?_
    · exact Agree.refl _ _
    · extract_lets +onlyGivenNames v0
      clear_value v0
      extract_lets +onlyGivenNames v1
      clear_value v1
      extract_lets +onlyGivenNames v2
      have hv2 : Agree 5071649 x1 v2 := by
        unfold v2
        refine readStream_agree.after rfl ?_
        exact Agree.refl _ _
      clear_value v2
      refine Agree.ite ?_ ?_
      · refine finishRestore_agree.after rfl ?_
        assumption
      · refine failRestore_agree.after rfl ?_
        assumption

theorem execRestoreEnd_agree {x0 x1 t} (h : @execRestoreEnd x0 x1 = .next t) : Agree 5071649 x1 t := by
  unfold execRestoreEnd at h
  cases h
  refine restoreEnd_agree.after rfl ?_
  exact Agree.refl _ _

end Sys2Proof.Laws
end

