-- ==== Sys2Proof/Laws/AgreeControl.lean ====
section
/-! SUPPORT. What the operations of Machine/Control.lean leave alone: for each, the areas it may change, as the bits of a mask in
the numbering of `Area.idx`. -/

namespace Sys2Proof.Laws

open Sys2Proof Sys2Proof.Machine Sys2Proof.Safety Sys2Proof.Frame

theorem clearRc_agree {x0 x1 x2} : Agree 32 x0 (@clearRc x0 x1 x2) := by
  unfold clearRc
  split
  · refine setReg_agree.after rfl ?_
    exact Agree.refl _ _
  · exact Agree.refl _ _

theorem tpFinish_agree {x0 x1} : Agree 917536 x0 (@tpFinish x0 x1) := by
  unfold tpFinish
  split
  refine Agree.ite ?_ ?_
  · extract_lets +onlyGivenNames v0
    have hv0 : Agree 917536 x0 v0 := by
      unfold v0
      refine setF_agree.after rfl ?_
      refine setF_agree.after rfl ?_
      exact Agree.refl _ _
    clear_value v0
    split
    · extract_lets +onlyGivenNames v1
      clear_value v1
      extract_lets +onlyGivenNames v2
      have hv2 : Agree 917536 x0 v2 := by
        unfold v2
        refine Agree.updMk ?_ (Nat.le_refl _) (flashUp_refl _) rfl rfl rfl ⟨rfl, rfl, rfl, rfl, rfl⟩ (fun a h => by cases a <;> first | exact absurd h (by decide) | exact rfl | exact ⟨rfl, rfl⟩)
        assumption
      extract_lets +onlyGivenNames v3
      refine Agree.ite ?_ ?_
      · refine writeFloor_agree.after rfl ?_
        assumption
      · assumption
    · assumption
  · exact Agree.refl _ _

theorem tpDataShift_agree {x0 x1} : Agree 917537 x1 (@tpDataShift x0 x1) := by
  unfold tpDataShift
  refine Agree.ite ?_ ?_
  · split
    extract_lets +onlyGivenNames v0
    have hv0 : Agree 917537 x1 v0 := by
      unfold v0
      refine setReg_agree.after rfl ?_
      refine Agree.updMk ?_ (Nat.le_succ _) (flashUp_refl _) rfl rfl rfl ⟨rfl, rfl, rfl, rfl, rfl⟩ (fun a h => by cases a <;> first | exact absurd h (by decide) | exact rfl | exact ⟨rfl, rfl⟩)
      exact Agree.refl _ _
    clear_value v0
    refine tpFinish_agree.after rfl ?_
    refine Agree.updMk ?_ (Nat.le_refl _) (flashUp_refl _) rfl rfl rfl ⟨rfl, rfl, rfl, rfl, rfl⟩ (fun a h => by cases a <;> first | exact absurd h (by decide) | exact rfl | exact ⟨rfl, rfl⟩)
    assumption
  · exact Agree.refl _ _

theorem regRead_agree {x0 x1 x2 x3} : Agree 917729 x3 (@regRead x0 x1 x2 x3) := by
  unfold regRead
  extract_lets +onlyGivenNames v0
  clear_value v0
  extract_lets +onlyGivenNames v1
  have hv1 : Agree 917729 x3 v1 := by
    unfold v1
    refine Agree.ite ?_ ?_
    · refine tpDataShift_agree.after rfl ?_
      exact Agree.refl _ _
    · exact Agree.refl _ _
  clear_value v1
  extract_lets +onlyGivenNames v2
  clear_value v2
  extract_lets +onlyGivenNames v3
  have hv3 : Agree 917729 x3 v3 := by
    unfold v3
    refine Agree.ite ?_ ?_
    · assumption
    · refine Agree.updMk ?_ (Nat.le_succ _) (flashUp_refl _) rfl rfl rfl ⟨rfl, rfl, rfl, rfl, rfl⟩ (fun a h => by cases a <;> first | exact absurd h (by decide) | exact rfl | exact ⟨rfl, rfl⟩)
      assumption
  clear_value v3
  split
  · extract_lets +onlyGivenNames v4
    have hv4 : Agree 917729 x3 v4 := by
      unfold v4
      refine clearRc_agree.after rfl ?_
      assumption
    clear_value v4
    refine Agree.updMk ?_ (Nat.le_refl _) (flashUp_refl _) rfl rfl rfl ⟨rfl, rfl, rfl, rfl, rfl⟩ (fun a h => by cases a <;> first | exact absurd h (by decide) | exact rfl | exact ⟨rfl, rfl⟩)
    assumption
  · extract_lets +onlyGivenNames v5
    have hv5 : Agree 917729 x3 v5 := by
      unfold v5
      refine clearRc_agree.after rfl ?_
      assumption
    clear_value v5
    refine Agree.updMk ?_ (Nat.le_refl _) (flashUp_refl _) rfl rfl rfl ⟨rfl, rfl, rfl, rfl, rfl⟩ (fun a h => by cases a <;> first | exact absurd h (by decide) | exact rfl | exact ⟨rfl, rfl⟩)
    assumption
  · refine Agree.updMk ?_ (Nat.le_refl _) (flashUp_refl _) rfl rfl rfl ⟨rfl, rfl, rfl, rfl, rfl⟩ (fun a h => by cases a <;> first | exact absurd h (by decide) | exact rfl | exact ⟨rfl, rfl⟩)
    assumption
  · extract_lets +onlyGivenNames v6
    have hv6 : Agree 917729 x3 v6 := by
      unfold v6
      refine clearRc_agree.after rfl ?_
      assumption
    clear_value v6
    refine Agree.updMk ?_ (Nat.le_refl _) (flashUp_refl _) rfl rfl rfl ⟨rfl, rfl, rfl, rfl, rfl⟩ (fun a h => by cases a <;> first | exact absurd h (by decide) | exact rfl | exact ⟨rfl, rfl⟩)
    assumption

theorem ctlReadAt_agree {x0 x1 x2} : Agree 5177569 x2 (@ctlReadAt x0 x1 x2) := by
  unfold ctlReadAt
  extract_lets +onlyGivenNames v0
  clear_value v0
  unfold access
  extract_lets +onlyGivenNames v1
  clear_value v1
  extract_lets +onlyGivenNames v2
  split
  · unfold v2
    refine Agree.ite ?_ ?_
    · refine accessError_agree.after rfl ?_
      refine dropShadow_agree.after rfl ?_
      refine Agree.updMk ?_ (Nat.le_refl _) (flashUp_refl _) rfl rfl rfl ⟨rfl, rfl, rfl, rfl, rfl⟩ (fun a h => by cases a <;> first | exact absurd h (by decide) | exact rfl | exact ⟨rfl, rfl⟩)
      exact Agree.refl _ _
    · refine Agree.updMk ?_ (Nat.le_refl _) (flashUp_refl _) rfl rfl rfl ⟨rfl, rfl, rfl, rfl, rfl⟩ (fun a h => by cases a <;> first | exact absurd h (by decide) | exact rfl | exact ⟨rfl, rfl⟩)
      exact Agree.refl _ _
  · refine Agree.ite ?_ ?_
    · unfold v2
      refine Agree.ite ?_ ?_
      · refine accessError_agree.after rfl ?_
        refine dropShadow_agree.after rfl ?_
        refine Agree.updMk ?_ (Nat.le_refl _) (flashUp_refl _) rfl rfl rfl ⟨rfl, rfl, rfl, rfl, rfl⟩ (fun a h => by cases a <;> first | exact absurd h (by decide) | exact rfl | exact ⟨rfl, rfl⟩)
        exact Agree.refl _ _
      · refine Agree.updMk ?_ (Nat.le_refl _) (flashUp_refl _) rfl rfl rfl ⟨rfl, rfl, rfl, rfl, rfl⟩ (fun a h => by cases a <;> first | exact absurd h (by decide) | exact rfl | exact ⟨rfl, rfl⟩)
        exact Agree.refl _ _
    · unfold touchAt
      refine Agree.ite ?_ ?_
      · refine Agree.updMk ?_ (Nat.le_refl _) (flashUp_refl _) rfl rfl rfl ⟨rfl, rfl, rfl, rfl, rfl⟩ (fun a h => by cases a <;> first | exact absurd h (by decide) | exact rfl | exact ⟨rfl, rfl⟩)
        exact Agree.refl _ _
      · extract_lets +onlyGivenNames v3
        have hv3 : Agree 5177569 x2 v3 := by
          unfold v3
          refine dropShadow_agree.after rfl ?_
          refine Agree.updMk ?_ (Nat.le_refl _) (flashUp_refl _) rfl rfl rfl ⟨rfl, rfl, rfl, rfl, rfl⟩ (fun a h => by cases a <;> first | exact absurd h (by decide) | exact rfl | exact ⟨rfl, rfl⟩)
          exact Agree.refl _ _
        clear_value v3
        refine Agree.ite ?_ ?_
        · refine accessError_agree.after rfl ?_
          assumption
        · refine Agree.ite ?_ ?_
          · refine accessError_agree.after rfl ?_
            assumption
          · refine regRead_agree.after rfl ?_
            assumption
  · refine Agree.ite ?_ ?_
    · unfold v2
      refine Agree.ite ?_ ?_
      · refine accessError_agree.after rfl ?_
        refine dropShadow_agree.after rfl ?_
        refine Agree.updMk ?_ (Nat.le_refl _) (flashUp_refl _) rfl rfl rfl ⟨rfl, rfl, rfl, rfl, rfl⟩ (fun a h => by cases a <;> first | exact absurd h (by decide) | exact rfl | exact ⟨rfl, rfl⟩)
        exact Agree.refl _ _
      · refine Agree.updMk ?_ (Nat.le_refl _) (flashUp_refl _) rfl rfl rfl ⟨rfl, rfl, rfl, rfl, rfl⟩ (fun a h => by cases a <;> first | exact absurd h (by decide) | exact rfl | exact ⟨rfl, rfl⟩)
        exact Agree.refl _ _
    · unfold touchAt
      refine Agree.ite ?_ ?_
      · refine Agree.updMk ?_ (Nat.le_refl _) (flashUp_refl _) rfl rfl rfl ⟨rfl, rfl, rfl, rfl, rfl⟩ (fun a h => by cases a <;> first | exact absurd h (by decide) | exact rfl | exact ⟨rfl, rfl⟩)
        exact Agree.refl _ _
      · extract_lets +onlyGivenNames v4
        have hv4 : Agree 5177569 x2 v4 := by
          unfold v4
          refine dropShadow_agree.after rfl ?_
          refine Agree.updMk ?_ (Nat.le_refl _) (flashUp_refl _) rfl rfl rfl ⟨rfl, rfl, rfl, rfl, rfl⟩ (fun a h => by cases a <;> first | exact absurd h (by decide) | exact rfl | exact ⟨rfl, rfl⟩)
          exact Agree.refl _ _
        clear_value v4
        refine Agree.ite ?_ ?_
        · refine accessError_agree.after rfl ?_
          assumption
        · refine Agree.ite ?_ ?_
          · refine accessError_agree.after rfl ?_
            assumption
          · refine regRead_agree.after rfl ?_
            assumption

theorem queueWrite_agree {x0 x1 x2 x3 x4} : Agree 5059360 x0 (@queueWrite x0 x1 x2 x3 x4) := by
  unfold queueWrite
  refine Agree.ite ?_ ?_
  · extract_lets +onlyGivenNames v0
    have hv0 : Agree 5059360 x0 v0 := by
      unfold v0
      refine writeFields_agree.after rfl ?_
      exact Agree.refl _ _
    clear_value v0
    refine Agree.ite ?_ ?_
    · assumption
    · refine accessError_agree.after rfl ?_
      exact Agree.refl _ _
  · refine Agree.ite ?_ ?_
    · refine Agree.ite ?_ ?_
      · refine writeTail_agree.after rfl ?_
        exact Agree.refl _ _
      · exact Agree.refl _ _
    · refine Agree.ite ?_ ?_
      · split
        · refine resumeQueue_agree.after rfl ?_
          exact Agree.refl _ _
        · refine skipQueue_agree.after rfl ?_
          exact Agree.refl _ _
        · exact Agree.refl _ _
      · exact Agree.refl _ _

theorem fwResult_agree {x0 x1 x2} : Agree 4259872 x0 (@fwResult x0 x1 x2) := by
  unfold fwResult
  extract_lets +onlyGivenNames v0
  have hv0 : Agree 4259872 x0 v0 := by
    unfold v0
    refine setF_agree.after rfl ?_
    refine setF_agree.after rfl ?_
    refine setF_agree.after rfl ?_
    exact Agree.refl _ _
  clear_value v0
  refine raiseCause_agree.after rfl ?_
  refine setF_agree.after rfl ?_
  assumption

theorem fwWrite_agree {x0 x1 x2} : Agree 4784160 x2 (@fwWrite x0 x1 x2) := by
  unfold fwWrite
  extract_lets +onlyGivenNames v0
  have hv0 : Agree 4784160 x2 v0 := by
    unfold v0
    refine writeFields_agree.after rfl ?_
    exact Agree.refl _ _
  clear_value v0
  refine Agree.ite ?_ ?_
  · assumption
  · refine Agree.ite ?_ ?_
    · refine accessError_agree.after rfl ?_
      assumption
    · extract_lets +onlyGivenNames v1
      clear_value v1
      refine Agree.ite ?_ ?_
      · extract_lets +onlyGivenNames v2
        have hv2 : Agree 4784160 x2 v2 := by
          unfold v2
          refine wakeLichen_agree.after rfl ?_
          refine setF_agree.after rfl ?_
          assumption
        clear_value v2
        refine Agree.updMk ?_ (Nat.le_refl _) (flashUp_refl _) rfl rfl rfl ⟨rfl, rfl, rfl, rfl, rfl⟩ (fun a h => by cases a <;> first | exact absurd h (by decide) | exact rfl | exact ⟨rfl, rfl⟩)
        assumption
      · refine fwResult_agree.after rfl ?_
        assumption

theorem logSelWrite_agree {x0 x1} : Agree 32 x1 (@logSelWrite x0 x1) := by
  unfold logSelWrite
  extract_lets +onlyGivenNames v0
  have hv0 : Agree 32 x1 v0 := by
    unfold v0
    refine writeFields_agree.after rfl ?_
    exact Agree.refl _ _
  clear_value v0
  extract_lets +onlyGivenNames v1
  clear_value v1
  extract_lets +onlyGivenNames v2
  clear_value v2
  extract_lets +onlyGivenNames v3
  clear_value v3
  extract_lets +onlyGivenNames v4
  have hv4 : Agree 32 x1 v4 := by
    unfold v4
    refine setF_agree.after rfl ?_
    refine setF_agree.after rfl ?_
    assumption
  clear_value v4
  refine Agree.foldl (fun a5 b6 h7 => ?_) ?_
  · refine setReg_agree.after rfl ?_
    assumption
  · assumption

theorem mbxCtrlWrite_agree {x0 x1 x2 x3} : Agree 4784160 x3 (@mbxCtrlWrite x0 x1 x2 x3) := by
  unfold mbxCtrlWrite
  extract_lets +onlyGivenNames v0
  clear_value v0
  refine Agree.ite ?_ ?_
  · refine accessError_agree.after rfl ?_
    exact Agree.refl _ _
  · extract_lets +onlyGivenNames v1
    have hv1 : Agree 4784160 x3 v1 := by
      unfold v1
      refine Agree.ite ?_ ?_
      · refine setReg_agree.after rfl ?_
        exact Agree.refl _ _
      · exact Agree.refl _ _
    clear_value v1
    refine Agree.ite ?_ ?_
    · assumption
    · refine Agree.ite ?_ ?_
      · refine accessError_agree.after rfl ?_
        assumption
      · refine postRequest_agree.after rfl ?_
        assumption

theorem mbxDataWrite_agree {x0 x1 x2 x3 x4} : Agree 4259872 x4 (@mbxDataWrite x0 x1 x2 x3 x4) := by
  unfold mbxDataWrite
  refine Agree.ite ?_ ?_
  · refine accessError_agree.after rfl ?_
    exact Agree.refl _ _
  · refine writeFields_agree.after rfl ?_
    exact Agree.refl _ _

theorem releaseAcks_agree {x0} : Agree 65536 x0 (@releaseAcks x0) := by
  unfold releaseAcks
  refine Agree.foldl (fun a0 b1 h2 => ?_) ?_
  · refine Agree.ite ?_ ?_
    · refine sendMsg_agree.after rfl ?_
      refine Agree.updMk ?_ (Nat.le_refl _) (flashUp_refl _) rfl rfl rfl ⟨rfl, rfl, rfl, rfl, rfl⟩ (fun a h => by cases a <;> first | exact absurd h (by decide) | exact rfl | exact ⟨rfl, rfl⟩)
      assumption
    · assumption
  · exact Agree.refl _ _

theorem hdmaPtrWrite_agree {x0 x1 x2 x3} : Agree 4259872 x3 (@hdmaPtrWrite x0 x1 x2 x3) := by
  unfold hdmaPtrWrite
  extract_lets +onlyGivenNames v0
  clear_value v0
  refine Agree.ite ?_ ?_
  · refine accessError_agree.after rfl ?_
    exact Agree.refl _ _
  · refine releaseAcks_agree.after rfl ?_
    refine writeFields_agree.after rfl ?_
    exact Agree.refl _ _

theorem tpCtrlWrite_agree {x0 x1 x2 x3} : Agree 5177376 x3 (@tpCtrlWrite x0 x1 x2 x3) := by
  unfold tpCtrlWrite
  extract_lets +onlyGivenNames v0
  clear_value v0
  extract_lets +onlyGivenNames v1
  have hv1 : Agree 5177376 x3 v1 := by
    unfold v1
    refine writeFields_agree.after rfl ?_
    exact Agree.refl _ _
  clear_value v1
  refine Agree.ite ?_ ?_
  · assumption
  · refine Agree.ite ?_ ?_
    · refine accessError_agree.after rfl ?_
      refine setF_agree.after rfl ?_
      assumption
    · extract_lets +onlyGivenNames v2
      have hv2 : Agree 5177376 x3 v2 := by
        unfold v2
        refine wakeLichen_agree.after rfl ?_
        refine setF_agree.after rfl ?_
        assumption
      clear_value v2
      refine tpFinish_agree.after rfl ?_
      refine Agree.updMk ?_ (Nat.le_refl _) (flashUp_refl _) rfl rfl rfl ⟨rfl, rfl, rfl, rfl, rfl⟩ (fun a h => by cases a <;> first | exact absurd h (by decide) | exact rfl | exact ⟨rfl, rfl⟩)
      assumption

theorem tpDataWrite_agree {x0 x1 x2 x3} : Agree 5177376 x3 (@tpDataWrite x0 x1 x2 x3) := by
  unfold tpDataWrite
  extract_lets +onlyGivenNames v0
  clear_value v0
  refine Agree.ite ?_ ?_
  · refine accessError_agree.after rfl ?_
    exact Agree.refl _ _
  · refine Agree.ite ?_ ?_
    · extract_lets +onlyGivenNames v1
      have hv1 : Agree 5177376 x3 v1 := by
        unfold v1
        refine writeFields_agree.after rfl ?_
        exact Agree.refl _ _
      clear_value v1
      split
      refine tpFinish_agree.after rfl ?_
      refine Agree.updMk ?_ (Nat.le_refl _) (flashUp_refl _) rfl rfl rfl ⟨rfl, rfl, rfl, rfl, rfl⟩ (fun a h => by cases a <;> first | exact absurd h (by decide) | exact rfl | exact ⟨rfl, rfl⟩)
      assumption
    · refine writeFields_agree.after rfl ?_
      exact Agree.refl _ _

theorem regWrite_agree {x0 x1 x2 x3} : Agree 5223201 x3 (@regWrite x0 x1 x2 x3) := by
  unfold regWrite
  split
  · refine queueWrite_agree.after rfl ?_
    exact Agree.refl _ _
  · refine Agree.ite ?_ ?_
    · refine Agree.ite ?_ ?_
      · refine writeFields_agree.after rfl ?_
        exact Agree.refl _ _
      · refine accessError_agree.after rfl ?_
        exact Agree.refl _ _
    · refine Agree.ite ?_ ?_
      · refine restoreWrite_agree.after rfl ?_
        exact Agree.refl _ _
      · refine Agree.ite ?_ ?_
        · refine notifyInt_agree.after rfl ?_
          refine writeFields_agree.after rfl ?_
          exact Agree.refl _ _
        · refine Agree.ite ?_ ?_
          · refine notifyInt_agree.after rfl ?_
            refine writeFields_agree.after rfl ?_
            exact Agree.refl _ _
          · refine Agree.ite ?_ ?_
            · refine fwWrite_agree.after rfl ?_
              exact Agree.refl _ _
            · refine Agree.ite ?_ ?_
              · refine logSelWrite_agree.after rfl ?_
                exact Agree.refl _ _
              · refine Agree.ite ?_ ?_
                · extract_lets +onlyGivenNames v0
                  clear_value v0
                  refine Agree.ite ?_ ?_
                  · refine mbxCtrlWrite_agree.after rfl ?_
                    exact Agree.refl _ _
                  · refine mbxDataWrite_agree.after rfl ?_
                    exact Agree.refl _ _
                · refine Agree.ite ?_ ?_
                  · refine fabAssign_agree.after rfl ?_
                    exact Agree.refl _ _
                  · refine Agree.ite ?_ ?_
                    · refine Agree.ite ?_ ?_
                      · refine writeFields_agree.after rfl ?_
                        exact Agree.refl _ _
                      · refine accessError_agree.after rfl ?_
                        exact Agree.refl _ _
                    · refine Agree.ite ?_ ?_
                      · refine hdmaPtrWrite_agree.after rfl ?_
                        exact Agree.refl _ _
                      · refine Agree.ite ?_ ?_
                        · refine Agree.ite ?_ ?_
                          · refine resetPort_agree.after rfl ?_
                            exact Agree.refl _ _
                          · exact Agree.refl _ _
                        · refine Agree.ite ?_ ?_
                          · extract_lets +onlyGivenNames v1
                            clear_value v1
                            refine Agree.ite ?_ ?_
                            · refine Agree.ite ?_ ?_
                              · refine setReg_agree.after rfl ?_
                                exact Agree.refl _ _
                              · exact Agree.refl _ _
                            · refine Agree.ite ?_ ?_
                              · refine tpCtrlWrite_agree.after rfl ?_
                                exact Agree.refl _ _
                              · refine Agree.ite ?_ ?_
                                · refine tpDataWrite_agree.after rfl ?_
                                  exact Agree.refl _ _
                                · refine writeFields_agree.after rfl ?_
                                  exact Agree.refl _ _
                          · refine Agree.ite ?_ ?_
                            · refine Agree.ite ?_ ?_
                              · refine setReg_agree.after rfl ?_
                                exact Agree.refl _ _
                              · exact Agree.refl _ _
                            · refine writeFields_agree.after rfl ?_
                              exact Agree.refl _ _

theorem ctlWriteAt_agree {x0 x1 x2} : Agree 5223329 x2 (@ctlWriteAt x0 x1 x2) := by
  unfold ctlWriteAt
  unfold access
  extract_lets +onlyGivenNames v0
  clear_value v0
  extract_lets +onlyGivenNames v1
  split
  · unfold v1
    refine Agree.ite ?_ ?_
    · refine accessError_agree.after rfl ?_
      refine dropShadow_agree.after rfl ?_
      exact Agree.refl _ _
    · exact Agree.refl _ _
  · refine Agree.ite ?_ ?_
    · unfold v1
      refine Agree.ite ?_ ?_
      · refine accessError_agree.after rfl ?_
        refine dropShadow_agree.after rfl ?_
        exact Agree.refl _ _
      · exact Agree.refl _ _
    · unfold touchAt
      refine Agree.ite ?_ ?_
      · exact Agree.refl _ _
      · extract_lets +onlyGivenNames v2
        have hv2 : Agree 5223329 x2 v2 := by
          unfold v2
          refine dropShadow_agree.after rfl ?_
          exact Agree.refl _ _
        clear_value v2
        refine Agree.ite ?_ ?_
        · refine accessError_agree.after rfl ?_
          assumption
        · refine Agree.ite ?_ ?_
          · refine accessError_agree.after rfl ?_
            assumption
          · refine regWrite_agree.after rfl ?_
            assumption
  · refine Agree.ite ?_ ?_
    · unfold v1
      refine Agree.ite ?_ ?_
      · refine accessError_agree.after rfl ?_
        refine dropShadow_agree.after rfl ?_
        exact Agree.refl _ _
      · exact Agree.refl _ _
    · unfold touchAt
      refine Agree.ite ?_ ?_
      · exact Agree.refl _ _
      · extract_lets +onlyGivenNames v3
        have hv3 : Agree 5223329 x2 v3 := by
          unfold v3
          refine dropShadow_agree.after rfl ?_
          exact Agree.refl _ _
        clear_value v3
        refine Agree.ite ?_ ?_
        · refine accessError_agree.after rfl ?_
          assumption
        · refine Agree.ite ?_ ?_
          · refine accessError_agree.after rfl ?_
            assumption
          · refine regWrite_agree.after rfl ?_
            assumption

theorem execPortReset_agree {x0 x1 x2 t} (h : @execPortReset x0 x1 x2 = .next t) : Agree 5079200 x2 t := by
  unfold execPortReset at h
  cases h
  unfold touch
  unfold touchAt
  refine Agree.ite ?_ ?_
  · exact Agree.refl _ _
  · extract_lets +onlyGivenNames v0
    have hv0 : Agree 5079200 x2 v0 := by
      unfold v0
      refine dropShadow_agree.after rfl ?_
      exact Agree.refl _ _
    clear_value v0
    refine Agree.ite ?_ ?_
    · refine accessError_agree.after rfl ?_
      assumption
    · refine Agree.ite ?_ ?_
      · refine accessError_agree.after rfl ?_
        assumption
      · refine resetPort_agree.after rfl ?_
        assumption

theorem execHdmaPtrRd_agree {x0 x1 x2 x3 t} (h : @execHdmaPtrRd x0 x1 x2 x3 = .next t) : Agree 4260000 x3 t := by
  unfold execHdmaPtrRd at h
  cases h
  unfold touch
  unfold touchAt
  refine Agree.ite ?_ ?_
  · exact Agree.refl _ _
  · extract_lets +onlyGivenNames v0
    have hv0 : Agree 4260000 x3 v0 := by
      unfold v0
      refine dropShadow_agree.after rfl ?_
      exact Agree.refl _ _
    clear_value v0
    refine Agree.ite ?_ ?_
    · refine accessError_agree.after rfl ?_
      assumption
    · refine Agree.ite ?_ ?_
      · refine accessError_agree.after rfl ?_
        assumption
      · refine hdmaPtrWrite_agree.after rfl ?_
        assumption

theorem execFwUpdate_agree {x0 x1 x2 t} (h : @execFwUpdate x0 x1 x2 = .next t) : Agree 4784288 x2 t := by
  unfold execFwUpdate at h
  cases h
  unfold touch
  unfold touchAt
  refine Agree.ite ?_ ?_
  · exact Agree.refl _ _
  · extract_lets +onlyGivenNames v0
    have hv0 : Agree 4784288 x2 v0 := by
      unfold v0
      refine dropShadow_agree.after rfl ?_
      exact Agree.refl _ _
    clear_value v0
    refine Agree.ite ?_ ?_
    · refine accessError_agree.after rfl ?_
      assumption
    · refine Agree.ite ?_ ?_
      · refine accessError_agree.after rfl ?_
        assumption
      · refine fwWrite_agree.after rfl ?_
        assumption

theorem execLogSel_agree {x0 x1 x2 t} (h : @execLogSel x0 x1 x2 = .next t) : Agree 4260000 x2 t := by
  unfold execLogSel at h
  cases h
  unfold touch
  unfold touchAt
  refine Agree.ite ?_ ?_
  · exact Agree.refl _ _
  · extract_lets +onlyGivenNames v0
    have hv0 : Agree 4260000 x2 v0 := by
      unfold v0
      refine dropShadow_agree.after rfl ?_
      exact Agree.refl _ _
    clear_value v0
    refine Agree.ite ?_ ?_
    · refine accessError_agree.after rfl ?_
      assumption
    · refine Agree.ite ?_ ?_
      · refine accessError_agree.after rfl ?_
        assumption
      · refine logSelWrite_agree.after rfl ?_
        assumption

theorem execHbmTpGo_agree {x0 x1 x2 x3 t} (h : @execHbmTpGo x0 x1 x2 x3 = .next t) : Agree 5177504 x3 t := by
  unfold execHbmTpGo at h
  cases h
  unfold touch
  unfold touchAt
  refine Agree.ite ?_ ?_
  · exact Agree.refl _ _
  · extract_lets +onlyGivenNames v0
    have hv0 : Agree 5177504 x3 v0 := by
      unfold v0
      refine dropShadow_agree.after rfl ?_
      exact Agree.refl _ _
    clear_value v0
    refine Agree.ite ?_ ?_
    · refine accessError_agree.after rfl ?_
      assumption
    · refine Agree.ite ?_ ?_
      · refine accessError_agree.after rfl ?_
        assumption
      · refine tpCtrlWrite_agree.after rfl ?_
        assumption

theorem execHbmTpDataWrite_agree {x0 x1 x2 x3 t} (h : @execHbmTpDataWrite x0 x1 x2 x3 = .next t) : Agree 5177504 x3 t := by
  unfold execHbmTpDataWrite at h
  cases h
  unfold touch
  unfold touchAt
  refine Agree.ite ?_ ?_
  · exact Agree.refl _ _
  · extract_lets +onlyGivenNames v0
    have hv0 : Agree 5177504 x3 v0 := by
      unfold v0
      refine dropShadow_agree.after rfl ?_
      exact Agree.refl _ _
    clear_value v0
    refine Agree.ite ?_ ?_
    · refine accessError_agree.after rfl ?_
      assumption
    · refine Agree.ite ?_ ?_
      · refine accessError_agree.after rfl ?_
        assumption
      · refine tpDataWrite_agree.after rfl ?_
        assumption

theorem execHbmTpDataRead_agree {x0 x1 x2 t} (h : @execHbmTpDataRead x0 x1 x2 = .next t) : Agree 5177569 x2 t := by
  unfold execHbmTpDataRead at h
  cases h
  refine ctlReadAt_agree.after rfl ?_
  exact Agree.refl _ _

theorem execClearingRead_agree {x0 x1 x2 t} (h : @execClearingRead x0 x1 x2 = .next t) : Agree 5177569 x2 t := by
  unfold execClearingRead at h
  cases h
  refine ctlReadAt_agree.after rfl ?_
  exact Agree.refl _ _

theorem execRegisterWrite_agree {x0 x1 x2 t} (h : @execRegisterWrite x0 x1 x2 = .next t) : Agree 5223329 x2 t := by
  unfold execRegisterWrite at h
  cases h
  refine ctlWriteAt_agree.after rfl ?_
  exact Agree.refl _ _

theorem execMailboxGo_agree {x0 x1 x2 x3 t} (h : @execMailboxGo x0 x1 x2 x3 = .next t) : Agree 4784288 x3 t := by
  unfold execMailboxGo at h
  cases h
  unfold touch
  unfold touchAt
  refine Agree.ite ?_ ?_
  · exact Agree.refl _ _
  · extract_lets +onlyGivenNames v0
    have hv0 : Agree 4784288 x3 v0 := by
      unfold v0
      refine dropShadow_agree.after rfl ?_
      exact Agree.refl _ _
    clear_value v0
    refine Agree.ite ?_ ?_
    · refine accessError_agree.after rfl ?_
      assumption
    · refine Agree.ite ?_ ?_
      · refine accessError_agree.after rfl ?_
        assumption
      · refine mbxCtrlWrite_agree.after rfl ?_
        assumption

end Sys2Proof.Laws
end

