-- ==== Sys2Proof/Laws/AgreeRemote.lean ====
section
/-! SUPPORT. What the operations of Machine/Remote.lean leave alone: for each, the areas it may change, as the bits of a mask in
the numbering of `Area.idx`. -/

namespace Sys2Proof.Laws

open Sys2Proof Sys2Proof.Machine Sys2Proof.Safety Sys2Proof.Frame

theorem copyReply_agree {x0 x1 x2} : Agree 4096 x0 (@copyReply x0 x1 x2) := by
  unfold copyReply
  refine Agree.foldl (fun a0 b1 h2 => ?_) ?_
  · refine modQ_agree.after rfl ?_
    assumption
  · exact Agree.refl _ _

theorem respond_agree {x0 x1 x2 x3 x4 x5 x6} : Agree 65536 x0 (@respond x0 x1 x2 x3 x4 x5 x6) := by
  unfold respond
  refine sendMsg_agree.after rfl ?_
  exact Agree.refl _ _

theorem ctlReadMsg_agree {x0 x1 x2} : Agree 5177569 x2 (@ctlReadMsg x0 x1 x2) := by
  unfold ctlReadMsg
  extract_lets +onlyGivenNames v0
  clear_value v0
  extract_lets +onlyGivenNames v1
  clear_value v1
  refine Agree.ite ?_ ?_
  · extract_lets +onlyGivenNames v2
    have hv2 : Agree 5177569 x2 v2 := by
      unfold v2
      refine ctlReadAt_agree.after rfl ?_
      exact Agree.refl _ _
    clear_value v2
    refine respond_agree.after rfl ?_
    assumption
  · refine respond_agree.after rfl ?_
    exact Agree.refl _ _

theorem lateResp_agree {x0} : Agree 32 x0 (@lateResp x0) := by
  unfold lateResp
  refine bump_agree.after rfl ?_
  exact Agree.refl _ _

theorem pumpHost_agree {x0} : Agree 65536 x0 (@pumpHost x0) := by
  unfold pumpHost
  refine Agree.foldl (fun a0 b1 h2 => ?_) ?_
  · refine Agree.ite ?_ ?_
    · refine Agree.updMk ?_ (Nat.le_refl _) (flashUp_refl _) rfl rfl rfl ⟨rfl, rfl, rfl, rfl, rfl⟩ (fun a h => by cases a <;> first | exact absurd h (by decide) | exact rfl | exact ⟨rfl, rfl⟩)
      assumption
    · refine sendMsg_agree.after rfl ?_
      refine Agree.updMk ?_ (Nat.le_refl _) (flashUp_refl _) rfl rfl rfl ⟨rfl, rfl, rfl, rfl, rfl⟩ (fun a h => by cases a <;> first | exact absurd h (by decide) | exact rfl | exact ⟨rfl, rfl⟩)
      assumption
  · refine Agree.updMk ?_ (Nat.le_refl _) (flashUp_refl _) rfl rfl rfl ⟨rfl, rfl, rfl, rfl, rfl⟩ (fun a h => by cases a <;> first | exact absurd h (by decide) | exact rfl | exact ⟨rfl, rfl⟩)
    exact Agree.refl _ _

theorem hostAnswer_agree {x0 x1 x2 x3} : Agree 65536 x0 (@hostAnswer x0 x1 x2 x3) := by
  unfold hostAnswer
  refine Agree.updMk ?_ (Nat.le_refl _) (flashUp_refl _) rfl rfl rfl ⟨rfl, rfl, rfl, rfl, rfl⟩ (fun a h => by cases a <;> first | exact absurd h (by decide) | exact rfl | exact ⟨rfl, rfl⟩)
  exact Agree.refl _ _

theorem hostReply_agree {x0 x1 x2 x3 x4} : Agree 5046304 x0 (@hostReply x0 x1 x2 x3 x4) := by
  unfold hostReply
  split
  · refine pumpHost_agree.after rfl ?_
    exact Agree.refl _ _
  · extract_lets +onlyGivenNames v0
    clear_value v0
    extract_lets +onlyGivenNames v1
    clear_value v1
    extract_lets +onlyGivenNames v2
    have hv2 : Agree 5046304 x0 v2 := by
      unfold v2
      refine Agree.ite ?_ ?_
      · refine logEvent_agree.after rfl ?_
        exact Agree.refl _ _
      · exact Agree.refl _ _
    clear_value v2
    extract_lets +onlyGivenNames v3
    clear_value v3
    refine Agree.ite ?_ ?_
    · extract_lets +onlyGivenNames v4
      clear_value v4
      extract_lets +onlyGivenNames v5
      have hv5 : Agree 5046304 x0 v5 := by
        unfold v5
        refine Agree.updMk ?_ (Nat.le_refl _) (flashUp_refl _) rfl rfl rfl ⟨rfl, rfl, rfl, rfl, rfl⟩ (fun a h => by cases a <;> first | exact absurd h (by decide) | exact rfl | exact ⟨rfl, rfl⟩)
        assumption
      clear_value v5
      refine pumpHost_agree.after rfl ?_
      refine Agree.ite ?_ ?_
      · assumption
      · refine Agree.ite ?_ ?_
        · refine hostAnswer_agree.after rfl ?_
          assumption
        · refine hostAnswer_agree.after rfl ?_
          assumption
    · refine pumpHost_agree.after rfl ?_
      refine Agree.updMk ?_ (Nat.le_refl _) (flashUp_refl _) rfl rfl rfl ⟨rfl, rfl, rfl, rfl, rfl⟩ (fun a h => by cases a <;> first | exact absurd h (by decide) | exact rfl | exact ⟨rfl, rfl⟩)
      assumption

theorem dropTxn_agree {x0 x1} : Agree 65536 x0 (@dropTxn x0 x1) := by
  unfold dropTxn
  refine Agree.updMk ?_ (Nat.le_refl _) (flashUp_refl _) rfl rfl rfl ⟨rfl, rfl, rfl, rfl, rfl⟩ (fun a h => by cases a <;> first | exact absurd h (by decide) | exact rfl | exact ⟨rfl, rfl⟩)
  exact Agree.refl _ _

theorem ctlResp_agree {x0 x1} : Agree 5046304 x1 (@ctlResp x0 x1) := by
  unfold ctlResp
  extract_lets +onlyGivenNames v0
  clear_value v0
  split
  · refine lateResp_agree.after rfl ?_
    exact Agree.refl _ _
  · refine hostReply_agree.after rfl ?_
    refine dropTxn_agree.after rfl ?_
    exact Agree.refl _ _

theorem ctlTimeout_agree {x0 x1 x2} : Agree 5046320 x2 (@ctlTimeout x0 x1 x2) := by
  unfold ctlTimeout
  extract_lets +onlyGivenNames v0
  have hv0 : Agree 5046320 x2 v0 := by
    unfold v0
    refine advance_agree.after rfl ?_
    exact Agree.refl _ _
  clear_value v0
  split
  · refine Agree.ite ?_ ?_
    · refine Agree.ite ?_ ?_
      · refine restoreBytes_agree.after rfl ?_
        refine dropTxn_agree.after rfl ?_
        assumption
      · refine hostReply_agree.after rfl ?_
        refine dropTxn_agree.after rfl ?_
        assumption
    · assumption
  · assumption

theorem ctlWriteMsg_agree {x0 x1} : Agree 5223329 x1 (@ctlWriteMsg x0 x1) := by
  unfold ctlWriteMsg
  extract_lets +onlyGivenNames v0
  clear_value v0
  extract_lets +onlyGivenNames v1
  clear_value v1
  extract_lets +onlyGivenNames v2
  have hv2 : Agree 5223329 x1 v2 := by
    unfold v2
    refine Agree.ite ?_ ?_
    · refine ctlWriteAt_agree.after rfl ?_
      exact Agree.refl _ _
    · exact Agree.refl _ _
  clear_value v2
  refine respond_agree.after rfl ?_
  assumption

theorem drainReply_agree {x0 x1 x2} : Agree 5062688 x0 (@drainReply x0 x1 x2) := by
  unfold drainReply
  split
  · exact Agree.refl _ _
  · extract_lets +onlyGivenNames v0
    clear_value v0
    split
    · exact Agree.refl _ _
    · refine Agree.ite ?_ ?_
      · exact Agree.refl _ _
      · refine Agree.ite ?_ ?_
        · refine abandonDest_agree.after rfl ?_
          exact Agree.refl _ _
        · refine setDest_agree.after rfl ?_
          exact Agree.refl _ _

theorem remoteWrite_agree {x0 x1} : Agree 5055264 x1 (@remoteWrite x0 x1) := by
  unfold remoteWrite
  extract_lets +onlyGivenNames v0
  clear_value v0
  extract_lets +onlyGivenNames v1
  clear_value v1
  extract_lets +onlyGivenNames v2
  have hv2 : Agree 5055264 x1 v2 := by
    unfold v2
    refine Agree.ite ?_ ?_
    · refine writeBytes_agree.after rfl ?_
      exact Agree.refl _ _
    · exact Agree.refl _ _
  clear_value v2
  refine respond_agree.after rfl ?_
  assumption

theorem execWrite_agree {x0 x1 t} (h : @execWrite x0 x1 = .next t) : Agree 5088032 x1 t := by
  unfold execWrite at h
  cases h
  refine Agree.ite ?_ ?_
  · exact Agree.refl _ _
  · unfold recv
    refine Agree.ite ?_ ?_
    · exact Agree.refl _ _
    · extract_lets +onlyGivenNames v0
      have hv0 : Agree 5088032 x1 v0 := by
        unfold v0
        refine takeMsg_agree.after rfl ?_
        exact Agree.refl _ _
      clear_value v0
      extract_lets +onlyGivenNames v1
      clear_value v1
      extract_lets +onlyGivenNames v2
      refine Agree.ite ?_ ?_
      · refine bump_agree.after rfl ?_
        assumption
      · refine Agree.ite ?_ ?_
        · unfold v2
          refine remoteWrite_agree.after rfl ?_
          refine Agree.ite ?_ ?_
          · refine wakeLichen_agree.after rfl ?_
            assumption
          · assumption
        · refine Agree.ite ?_ ?_
          · assumption
          · refine Agree.ite ?_ ?_
            · unfold v2
              refine remoteWrite_agree.after rfl ?_
              refine Agree.ite ?_ ?_
              · refine wakeLichen_agree.after rfl ?_
                refine checkSeq_agree.after rfl ?_
                assumption
              · refine checkSeq_agree.after rfl ?_
                assumption
            · refine Agree.ite ?_ ?_
              · refine forwardMsg_agree.after rfl ?_
                assumption
              · unfold v2
                refine remoteWrite_agree.after rfl ?_
                refine Agree.ite ?_ ?_
                · refine wakeLichen_agree.after rfl ?_
                  refine checkSeq_agree.after rfl ?_
                  assumption
                · refine checkSeq_agree.after rfl ?_
                  assumption

theorem writeAck_agree {x0 x1} : Agree 5066784 x1 (@writeAck x0 x1) := by
  unfold writeAck
  split
  · refine lateResp_agree.after rfl ?_
    exact Agree.refl _ _
  · refine Agree.ite ?_ ?_
    · refine copyReply_agree.after rfl ?_
      refine dropTxn_agree.after rfl ?_
      exact Agree.refl _ _
    · refine Agree.ite ?_ ?_
      · refine hostReply_agree.after rfl ?_
        refine dropTxn_agree.after rfl ?_
        exact Agree.refl _ _
      · refine drainReply_agree.after rfl ?_
        refine dropTxn_agree.after rfl ?_
        exact Agree.refl _ _

theorem execWriteAck_agree {x0 x1 t} (h : @execWriteAck x0 x1 = .next t) : Agree 5099552 x1 t := by
  unfold execWriteAck at h
  cases h
  unfold recv
  refine Agree.ite ?_ ?_
  · exact Agree.refl _ _
  · extract_lets +onlyGivenNames v0
    have hv0 : Agree 5099552 x1 v0 := by
      unfold v0
      refine takeMsg_agree.after rfl ?_
      exact Agree.refl _ _
    clear_value v0
    extract_lets +onlyGivenNames v1
    clear_value v1
    extract_lets +onlyGivenNames v2
    refine Agree.ite ?_ ?_
    · refine bump_agree.after rfl ?_
      assumption
    · refine Agree.ite ?_ ?_
      · unfold v2
        refine writeAck_agree.after rfl ?_
        refine Agree.ite ?_ ?_
        · refine wakeLichen_agree.after rfl ?_
          assumption
        · assumption
      · refine Agree.ite ?_ ?_
        · assumption
        · refine Agree.ite ?_ ?_
          · unfold v2
            refine writeAck_agree.after rfl ?_
            refine Agree.ite ?_ ?_
            · refine wakeLichen_agree.after rfl ?_
              refine checkSeq_agree.after rfl ?_
              assumption
            · refine checkSeq_agree.after rfl ?_
              assumption
          · refine Agree.ite ?_ ?_
            · refine forwardMsg_agree.after rfl ?_
              assumption
            · unfold v2
              refine writeAck_agree.after rfl ?_
              refine Agree.ite ?_ ?_
              · refine wakeLichen_agree.after rfl ?_
                refine checkSeq_agree.after rfl ?_
                assumption
              · refine checkSeq_agree.after rfl ?_
                assumption

theorem remoteRead_agree {x0 x1} : Agree 5055008 x1 (@remoteRead x0 x1) := by
  unfold remoteRead
  extract_lets +onlyGivenNames v0
  clear_value v0
  extract_lets +onlyGivenNames v1
  clear_value v1
  extract_lets +onlyGivenNames v2
  clear_value v2
  extract_lets +onlyGivenNames v3
  clear_value v3
  refine Agree.ite ?_ ?_
  · extract_lets +onlyGivenNames v4
    have hv4 : Agree 5055008 x1 v4 := by
      unfold v4
      refine readUnits_agree.after rfl ?_
      exact Agree.refl _ _
    clear_value v4
    refine respond_agree.after rfl ?_
    assumption
  · refine respond_agree.after rfl ?_
    exact Agree.refl _ _

theorem execReadReq_agree {x0 x1 t} (h : @execReadReq x0 x1 = .next t) : Agree 5087776 x1 t := by
  unfold execReadReq at h
  cases h
  refine Agree.ite ?_ ?_
  · exact Agree.refl _ _
  · unfold recv
    refine Agree.ite ?_ ?_
    · exact Agree.refl _ _
    · extract_lets +onlyGivenNames v0
      have hv0 : Agree 5087776 x1 v0 := by
        unfold v0
        refine takeMsg_agree.after rfl ?_
        exact Agree.refl _ _
      clear_value v0
      extract_lets +onlyGivenNames v1
      clear_value v1
      extract_lets +onlyGivenNames v2
      refine Agree.ite ?_ ?_
      · refine bump_agree.after rfl ?_
        assumption
      · refine Agree.ite ?_ ?_
        · unfold v2
          refine remoteRead_agree.after rfl ?_
          refine Agree.ite ?_ ?_
          · refine wakeLichen_agree.after rfl ?_
            assumption
          · assumption
        · refine Agree.ite ?_ ?_
          · assumption
          · refine Agree.ite ?_ ?_
            · unfold v2
              refine remoteRead_agree.after rfl ?_
              refine Agree.ite ?_ ?_
              · refine wakeLichen_agree.after rfl ?_
                refine checkSeq_agree.after rfl ?_
                assumption
              · refine checkSeq_agree.after rfl ?_
                assumption
            · refine Agree.ite ?_ ?_
              · refine forwardMsg_agree.after rfl ?_
                assumption
              · unfold v2
                refine remoteRead_agree.after rfl ?_
                refine Agree.ite ?_ ?_
                · refine wakeLichen_agree.after rfl ?_
                  refine checkSeq_agree.after rfl ?_
                  assumption
                · refine checkSeq_agree.after rfl ?_
                  assumption

theorem readResp_agree {x0 x1} : Agree 5046304 x1 (@readResp x0 x1) := by
  unfold readResp
  extract_lets +onlyGivenNames v0
  clear_value v0
  split
  · refine lateResp_agree.after rfl ?_
    exact Agree.refl _ _
  · refine Agree.ite ?_ ?_
    · refine hostReply_agree.after rfl ?_
      refine dropTxn_agree.after rfl ?_
      exact Agree.refl _ _
    · refine restoreBytes_agree.after rfl ?_
      refine dropTxn_agree.after rfl ?_
      exact Agree.refl _ _

theorem execReadResp_agree {x0 x1 t} (h : @execReadResp x0 x1 = .next t) : Agree 5079072 x1 t := by
  unfold execReadResp at h
  cases h
  unfold recv
  refine Agree.ite ?_ ?_
  · exact Agree.refl _ _
  · extract_lets +onlyGivenNames v0
    have hv0 : Agree 5079072 x1 v0 := by
      unfold v0
      refine takeMsg_agree.after rfl ?_
      exact Agree.refl _ _
    clear_value v0
    extract_lets +onlyGivenNames v1
    clear_value v1
    extract_lets +onlyGivenNames v2
    refine Agree.ite ?_ ?_
    · refine bump_agree.after rfl ?_
      assumption
    · refine Agree.ite ?_ ?_
      · unfold v2
        refine readResp_agree.after rfl ?_
        refine Agree.ite ?_ ?_
        · refine wakeLichen_agree.after rfl ?_
          assumption
        · assumption
      · refine Agree.ite ?_ ?_
        · assumption
        · refine Agree.ite ?_ ?_
          · unfold v2
            refine readResp_agree.after rfl ?_
            refine Agree.ite ?_ ?_
            · refine wakeLichen_agree.after rfl ?_
              refine checkSeq_agree.after rfl ?_
              assumption
            · refine checkSeq_agree.after rfl ?_
              assumption
          · refine Agree.ite ?_ ?_
            · refine forwardMsg_agree.after rfl ?_
              assumption
            · unfold v2
              refine readResp_agree.after rfl ?_
              refine Agree.ite ?_ ?_
              · refine wakeLichen_agree.after rfl ?_
                refine checkSeq_agree.after rfl ?_
                assumption
              · refine checkSeq_agree.after rfl ?_
                assumption

theorem execCtlWrite_agree {x0 x1 t} (h : @execCtlWrite x0 x1 = .next t) : Agree 5223329 x1 t := by
  unfold execCtlWrite at h
  cases h
  unfold recv
  refine Agree.ite ?_ ?_
  · exact Agree.refl _ _
  · extract_lets +onlyGivenNames v0
    have hv0 : Agree 5223329 x1 v0 := by
      unfold v0
      refine takeMsg_agree.after rfl ?_
      exact Agree.refl _ _
    clear_value v0
    extract_lets +onlyGivenNames v1
    clear_value v1
    extract_lets +onlyGivenNames v2
    refine Agree.ite ?_ ?_
    · refine bump_agree.after rfl ?_
      assumption
    · refine Agree.ite ?_ ?_
      · unfold v2
        refine ctlWriteMsg_agree.after rfl ?_
        refine Agree.ite ?_ ?_
        · refine wakeLichen_agree.after rfl ?_
          assumption
        · assumption
      · refine Agree.ite ?_ ?_
        · assumption
        · refine Agree.ite ?_ ?_
          · unfold v2
            refine ctlWriteMsg_agree.after rfl ?_
            refine Agree.ite ?_ ?_
            · refine wakeLichen_agree.after rfl ?_
              refine checkSeq_agree.after rfl ?_
              assumption
            · refine checkSeq_agree.after rfl ?_
              assumption
          · refine Agree.ite ?_ ?_
            · refine forwardMsg_agree.after rfl ?_
              assumption
            · unfold v2
              refine ctlWriteMsg_agree.after rfl ?_
              refine Agree.ite ?_ ?_
              · refine wakeLichen_agree.after rfl ?_
                refine checkSeq_agree.after rfl ?_
                assumption
              · refine checkSeq_agree.after rfl ?_
                assumption

theorem execCtlRead_agree {x0 x1 x2 t} (h : @execCtlRead x0 x1 x2 = .next t) : Agree 5210337 x2 t := by
  unfold execCtlRead at h
  cases h
  unfold recv
  refine Agree.ite ?_ ?_
  · exact Agree.refl _ _
  · extract_lets +onlyGivenNames v0
    have hv0 : Agree 5210337 x2 v0 := by
      unfold v0
      refine takeMsg_agree.after rfl ?_
      exact Agree.refl _ _
    clear_value v0
    extract_lets +onlyGivenNames v1
    clear_value v1
    extract_lets +onlyGivenNames v2
    refine Agree.ite ?_ ?_
    · refine bump_agree.after rfl ?_
      assumption
    · refine Agree.ite ?_ ?_
      · unfold v2
        refine ctlReadMsg_agree.after rfl ?_
        refine Agree.ite ?_ ?_
        · refine wakeLichen_agree.after rfl ?_
          assumption
        · assumption
      · refine Agree.ite ?_ ?_
        · assumption
        · refine Agree.ite ?_ ?_
          · unfold v2
            refine ctlReadMsg_agree.after rfl ?_
            refine Agree.ite ?_ ?_
            · refine wakeLichen_agree.after rfl ?_
              refine checkSeq_agree.after rfl ?_
              assumption
            · refine checkSeq_agree.after rfl ?_
              assumption
          · refine Agree.ite ?_ ?_
            · refine forwardMsg_agree.after rfl ?_
              assumption
            · unfold v2
              refine ctlReadMsg_agree.after rfl ?_
              refine Agree.ite ?_ ?_
              · refine wakeLichen_agree.after rfl ?_
                refine checkSeq_agree.after rfl ?_
                assumption
              · refine checkSeq_agree.after rfl ?_
                assumption

theorem execCtlResp_agree {x0 x1 t} (h : @execCtlResp x0 x1 = .next t) : Agree 5079072 x1 t := by
  unfold execCtlResp at h
  cases h
  unfold recv
  refine Agree.ite ?_ ?_
  · exact Agree.refl _ _
  · extract_lets +onlyGivenNames v0
    have hv0 : Agree 5079072 x1 v0 := by
      unfold v0
      refine takeMsg_agree.after rfl ?_
      exact Agree.refl _ _
    clear_value v0
    extract_lets +onlyGivenNames v1
    clear_value v1
    extract_lets +onlyGivenNames v2
    refine Agree.ite ?_ ?_
    · refine bump_agree.after rfl ?_
      assumption
    · refine Agree.ite ?_ ?_
      · unfold v2
        refine ctlResp_agree.after rfl ?_
        refine Agree.ite ?_ ?_
        · refine wakeLichen_agree.after rfl ?_
          assumption
        · assumption
      · refine Agree.ite ?_ ?_
        · assumption
        · refine Agree.ite ?_ ?_
          · unfold v2
            refine ctlResp_agree.after rfl ?_
            refine Agree.ite ?_ ?_
            · refine wakeLichen_agree.after rfl ?_
              refine checkSeq_agree.after rfl ?_
              assumption
            · refine checkSeq_agree.after rfl ?_
              assumption
          · refine Agree.ite ?_ ?_
            · refine forwardMsg_agree.after rfl ?_
              assumption
            · unfold v2
              refine ctlResp_agree.after rfl ?_
              refine Agree.ite ?_ ?_
              · refine wakeLichen_agree.after rfl ?_
                refine checkSeq_agree.after rfl ?_
                assumption
              · refine checkSeq_agree.after rfl ?_
                assumption

theorem landWrite_agree {x0 x1} : Agree 65568 x1 (@landWrite x0 x1) := by
  unfold landWrite
  extract_lets +onlyGivenNames v0
  clear_value v0
  extract_lets +onlyGivenNames v1
  clear_value v1
  refine Agree.ite ?_ ?_
  · refine respond_agree.after rfl ?_
    exact Agree.refl _ _
  · refine Agree.ite ?_ ?_
    · refine respond_agree.after rfl ?_
      exact Agree.refl _ _
    · refine Agree.ite ?_ ?_
      · refine respond_agree.after rfl ?_
        exact Agree.refl _ _
      · extract_lets +onlyGivenNames v2
        clear_value v2
        extract_lets +onlyGivenNames v3
        clear_value v3
        extract_lets +onlyGivenNames v4
        clear_value v4
        extract_lets +onlyGivenNames v5
        clear_value v5
        extract_lets +onlyGivenNames v6
        have hv6 : Agree 65568 x1 v6 := by
          unfold v6
          refine setF_agree.after rfl ?_
          refine Agree.updMk ?_ (Nat.le_refl _) (flashUp_refl _) rfl rfl rfl ⟨rfl, rfl, rfl, rfl, rfl⟩ (fun a h => by cases a <;> first | exact absurd h (by decide) | exact rfl | exact ⟨rfl, rfl⟩)
          exact Agree.refl _ _
        clear_value v6
        extract_lets +onlyGivenNames v7
        clear_value v7
        refine releaseAcks_agree.after rfl ?_
        refine Agree.updMk ?_ (Nat.le_refl _) (flashUp_refl _) rfl rfl rfl ⟨rfl, rfl, rfl, rfl, rfl⟩ (fun a h => by cases a <;> first | exact absurd h (by decide) | exact rfl | exact ⟨rfl, rfl⟩)
        assumption

theorem execLandWrite_agree {x0 x1 t} (h : @execLandWrite x0 x1 = .next t) : Agree 622624 x1 t := by
  unfold execLandWrite at h
  cases h
  unfold recv
  refine Agree.ite ?_ ?_
  · exact Agree.refl _ _
  · extract_lets +onlyGivenNames v0
    have hv0 : Agree 622624 x1 v0 := by
      unfold v0
      refine takeMsg_agree.after rfl ?_
      exact Agree.refl _ _
    clear_value v0
    extract_lets +onlyGivenNames v1
    clear_value v1
    extract_lets +onlyGivenNames v2
    refine Agree.ite ?_ ?_
    · refine bump_agree.after rfl ?_
      assumption
    · refine Agree.ite ?_ ?_
      · unfold v2
        refine landWrite_agree.after rfl ?_
        refine Agree.ite ?_ ?_
        · refine wakeLichen_agree.after rfl ?_
          assumption
        · assumption
      · refine Agree.ite ?_ ?_
        · assumption
        · refine Agree.ite ?_ ?_
          · unfold v2
            refine landWrite_agree.after rfl ?_
            refine Agree.ite ?_ ?_
            · refine wakeLichen_agree.after rfl ?_
              refine checkSeq_agree.after rfl ?_
              assumption
            · refine checkSeq_agree.after rfl ?_
              assumption
          · refine Agree.ite ?_ ?_
            · refine forwardMsg_agree.after rfl ?_
              assumption
            · unfold v2
              refine landWrite_agree.after rfl ?_
              refine Agree.ite ?_ ?_
              · refine wakeLichen_agree.after rfl ?_
                refine checkSeq_agree.after rfl ?_
                assumption
              · refine checkSeq_agree.after rfl ?_
                assumption

theorem mcastOn_agree {x0 x1} : Agree 32800 x1 (@mcastOn x0 x1) := by
  unfold mcastOn
  extract_lets +onlyGivenNames v0
  clear_value v0
  refine Agree.ite ?_ ?_
  · exact Agree.refl _ _
  · refine Agree.ite ?_ ?_
    · refine bump_agree.after rfl ?_
      exact Agree.refl _ _
    · refine Agree.foldl (fun a1 b2 h3 => ?_) ?_
      · refine queueOn_agree.after rfl ?_
        assumption
      · exact Agree.refl _ _

theorem mcastWrite_agree {x0 x1} : Agree 98336 x1 (@mcastWrite x0 x1) := by
  unfold mcastWrite
  extract_lets +onlyGivenNames v0
  have hv0 : Agree 98336 x1 v0 := by
    unfold v0
    refine mcastOn_agree.after rfl ?_
    exact Agree.refl _ _
  clear_value v0
  extract_lets +onlyGivenNames v1
  clear_value v1
  split
  · refine mcastReject_agree.after rfl ?_
    assumption
  · refine Agree.ite ?_ ?_
    · refine mcastReject_agree.after rfl ?_
      assumption
    · refine Agree.ite ?_ ?_
      · assumption
      · refine stageBytes_agree.after rfl ?_
        assumption

theorem execMcastWrite_agree {x0 x1 t} (h : @execMcastWrite x0 x1 = .next t) : Agree 622624 x1 t := by
  unfold execMcastWrite at h
  cases h
  unfold recvTree
  refine Agree.ite ?_ ?_
  · unfold recv
    refine Agree.ite ?_ ?_
    · exact Agree.refl _ _
    · extract_lets +onlyGivenNames v0
      have hv0 : Agree 622624 x1 v0 := by
        unfold v0
        refine takeMsg_agree.after rfl ?_
        exact Agree.refl _ _
      clear_value v0
      extract_lets +onlyGivenNames v1
      clear_value v1
      extract_lets +onlyGivenNames v2
      refine Agree.ite ?_ ?_
      · refine bump_agree.after rfl ?_
        assumption
      · refine Agree.ite ?_ ?_
        · unfold v2
          refine mcastWrite_agree.after rfl ?_
          refine Agree.ite ?_ ?_
          · refine wakeLichen_agree.after rfl ?_
            assumption
          · assumption
        · refine Agree.ite ?_ ?_
          · assumption
          · refine Agree.ite ?_ ?_
            · unfold v2
              refine mcastWrite_agree.after rfl ?_
              refine Agree.ite ?_ ?_
              · refine wakeLichen_agree.after rfl ?_
                refine checkSeq_agree.after rfl ?_
                assumption
              · refine checkSeq_agree.after rfl ?_
                assumption
            · refine Agree.ite ?_ ?_
              · refine forwardMsg_agree.after rfl ?_
                assumption
              · unfold v2
                refine mcastWrite_agree.after rfl ?_
                refine Agree.ite ?_ ?_
                · refine wakeLichen_agree.after rfl ?_
                  refine checkSeq_agree.after rfl ?_
                  assumption
                · refine checkSeq_agree.after rfl ?_
                  assumption
  · exact Agree.refl _ _

theorem mcastFence_agree {x0 x1} : Agree 5095456 x1 (@mcastFence x0 x1) := by
  unfold mcastFence
  extract_lets +onlyGivenNames v0
  have hv0 : Agree 5095456 x1 v0 := by
    unfold v0
    refine mcastOn_agree.after rfl ?_
    exact Agree.refl _ _
  clear_value v0
  extract_lets +onlyGivenNames v1
  clear_value v1
  split
  · refine mcastReject_agree.after rfl ?_
    assumption
  · refine Agree.ite ?_ ?_
    · refine mcastReject_agree.after rfl ?_
      assumption
    · refine Agree.ite ?_ ?_
      · assumption
      · extract_lets +onlyGivenNames v2
        clear_value v2
        extract_lets +onlyGivenNames v3
        clear_value v3
        extract_lets +onlyGivenNames v4
        clear_value v4
        refine sendMsg_agree.after rfl ?_
        refine endCopy_agree.after rfl ?_
        assumption

theorem execMcastFence_agree {x0 x1 t} (h : @execMcastFence x0 x1 = .next t) : Agree 5095456 x1 t := by
  unfold execMcastFence at h
  cases h
  unfold recvTree
  refine Agree.ite ?_ ?_
  · unfold recv
    refine Agree.ite ?_ ?_
    · exact Agree.refl _ _
    · extract_lets +onlyGivenNames v0
      have hv0 : Agree 5095456 x1 v0 := by
        unfold v0
        refine takeMsg_agree.after rfl ?_
        exact Agree.refl _ _
      clear_value v0
      extract_lets +onlyGivenNames v1
      clear_value v1
      extract_lets +onlyGivenNames v2
      refine Agree.ite ?_ ?_
      · refine bump_agree.after rfl ?_
        assumption
      · refine Agree.ite ?_ ?_
        · unfold v2
          refine mcastFence_agree.after rfl ?_
          refine Agree.ite ?_ ?_
          · refine wakeLichen_agree.after rfl ?_
            assumption
          · assumption
        · refine Agree.ite ?_ ?_
          · assumption
          · refine Agree.ite ?_ ?_
            · unfold v2
              refine mcastFence_agree.after rfl ?_
              refine Agree.ite ?_ ?_
              · refine wakeLichen_agree.after rfl ?_
                refine checkSeq_agree.after rfl ?_
                assumption
              · refine checkSeq_agree.after rfl ?_
                assumption
            · refine Agree.ite ?_ ?_
              · refine forwardMsg_agree.after rfl ?_
                assumption
              · unfold v2
                refine mcastFence_agree.after rfl ?_
                refine Agree.ite ?_ ?_
                · refine wakeLichen_agree.after rfl ?_
                  refine checkSeq_agree.after rfl ?_
                  assumption
                · refine checkSeq_agree.after rfl ?_
                  assumption
  · exact Agree.refl _ _

theorem mcastDone_agree {x0 x1} : Agree 16416 x1 (@mcastDone x0 x1) := by
  unfold mcastDone
  extract_lets +onlyGivenNames v0
  clear_value v0
  split
  · refine lateResp_agree.after rfl ?_
    exact Agree.refl _ _
  · split
    · refine setDest_agree.after rfl ?_
      exact Agree.refl _ _
    · exact Agree.refl _ _

theorem execMcastDone_agree {x0 x1 t} (h : @execMcastDone x0 x1 = .next t) : Agree 639008 x1 t := by
  unfold execMcastDone at h
  cases h
  unfold recv
  refine Agree.ite ?_ ?_
  · exact Agree.refl _ _
  · extract_lets +onlyGivenNames v0
    have hv0 : Agree 639008 x1 v0 := by
      unfold v0
      refine takeMsg_agree.after rfl ?_
      exact Agree.refl _ _
    clear_value v0
    extract_lets +onlyGivenNames v1
    clear_value v1
    extract_lets +onlyGivenNames v2
    refine Agree.ite ?_ ?_
    · refine bump_agree.after rfl ?_
      assumption
    · refine Agree.ite ?_ ?_
      · unfold v2
        refine mcastDone_agree.after rfl ?_
        refine Agree.ite ?_ ?_
        · refine wakeLichen_agree.after rfl ?_
          assumption
        · assumption
      · refine Agree.ite ?_ ?_
        · assumption
        · refine Agree.ite ?_ ?_
          · unfold v2
            refine mcastDone_agree.after rfl ?_
            refine Agree.ite ?_ ?_
            · refine wakeLichen_agree.after rfl ?_
              refine checkSeq_agree.after rfl ?_
              assumption
            · refine checkSeq_agree.after rfl ?_
              assumption
          · refine Agree.ite ?_ ?_
            · refine forwardMsg_agree.after rfl ?_
              assumption
            · unfold v2
              refine mcastDone_agree.after rfl ?_
              refine Agree.ite ?_ ?_
              · refine wakeLichen_agree.after rfl ?_
                refine checkSeq_agree.after rfl ?_
                assumption
              · refine checkSeq_agree.after rfl ?_
                assumption

theorem remoteTimeout_agree {x0 x1 x2} : Agree 5066800 x2 (@remoteTimeout x0 x1 x2) := by
  unfold remoteTimeout
  extract_lets +onlyGivenNames v0
  have hv0 : Agree 5066800 x2 v0 := by
    unfold v0
    refine advance_agree.after rfl ?_
    exact Agree.refl _ _
  clear_value v0
  split
  · refine Agree.ite ?_ ?_
    · refine Agree.ite ?_ ?_
      · refine copyReply_agree.after rfl ?_
        refine dropTxn_agree.after rfl ?_
        assumption
      · refine drainReply_agree.after rfl ?_
        refine dropTxn_agree.after rfl ?_
        assumption
    · assumption
  · assumption

theorem execRemoteTimeout_agree {x0 x1 x2 t} (h : @execRemoteTimeout x0 x1 x2 = .next t) : Agree 5066800 x2 t := by
  unfold execRemoteTimeout at h
  cases h
  refine remoteTimeout_agree.after rfl ?_
  exact Agree.refl _ _

theorem execCtlTimeout_agree {x0 x1 x2 t} (h : @execCtlTimeout x0 x1 x2 = .next t) : Agree 5046320 x2 t := by
  unfold execCtlTimeout at h
  cases h
  refine ctlTimeout_agree.after rfl ?_
  exact Agree.refl _ _

theorem hostOwnControl_agree {x0 x1 x2} : Agree 5223393 x0 (@hostOwnControl x0 x1 x2) := by
  unfold hostOwnControl
  extract_lets +onlyGivenNames v0
  clear_value v0
  extract_lets +onlyGivenNames v1
  clear_value v1
  refine Agree.ite ?_ ?_
  · refine Agree.foldl (fun a2 b3 h4 => ?_) ?_
    · refine ctlWriteAt_agree.after rfl ?_
      assumption
    · exact Agree.refl _ _
  · split
    refine hostAnswer_agree.after rfl ?_
    refine Agree.ofPair (by assumption) ?_
    refine Agree.foldlFst (fun a5 b6 h7 => ?_) ?_
    · extract_lets +onlyGivenNames v8
      have hv8 : Agree 5223393 x0 v8 := by
        unfold v8
        refine ctlReadAt_agree.after rfl ?_
        assumption
      clear_value v8
      assumption
    · dsimp only
      exact Agree.refl _ _

theorem hostUnsupported_agree {x0 x1} : Agree 65536 x0 (@hostUnsupported x0 x1) := by
  unfold hostUnsupported
  refine Agree.ite ?_ ?_
  · exact Agree.refl _ _
  · refine hostAnswer_agree.after rfl ?_
    exact Agree.refl _ _

theorem hostMessages_agree {x0 x1 x2 x3} : Agree 65536 x0 (@hostMessages x0 x1 x2 x3) := by
  unfold hostMessages
  extract_lets +onlyGivenNames v0
  clear_value v0
  extract_lets +onlyGivenNames v1
  clear_value v1
  extract_lets +onlyGivenNames v2
  clear_value v2
  refine pumpHost_agree.after rfl ?_
  refine Agree.updMk ?_ (Nat.le_refl _) (flashUp_refl _) rfl rfl rfl ⟨rfl, rfl, rfl, rfl, rfl⟩ (fun a h => by cases a <;> first | exact absurd h (by decide) | exact rfl | exact ⟨rfl, rfl⟩)
  exact Agree.refl _ _

theorem hostControl_agree {x0 x1 x2 x3} : Agree 4259872 x0 (@hostControl x0 x1 x2 x3) := by
  unfold hostControl
  extract_lets +onlyGivenNames v0
  clear_value v0
  extract_lets +onlyGivenNames v1
  split
  · unfold v1
    extract_lets +onlyGivenNames v2
    have hv2 : Agree 4259872 x0 v2 := by
      unfold v2
      refine accessError_agree.after rfl ?_
      exact Agree.refl _ _
    clear_value v2
    refine Agree.ite ?_ ?_
    · assumption
    · refine hostAnswer_agree.after rfl ?_
      assumption
  · refine Agree.ite ?_ ?_
    · unfold v1
      extract_lets +onlyGivenNames v3
      have hv3 : Agree 4259872 x0 v3 := by
        unfold v3
        refine accessError_agree.after rfl ?_
        exact Agree.refl _ _
      clear_value v3
      refine Agree.ite ?_ ?_
      · assumption
      · refine hostAnswer_agree.after rfl ?_
        assumption
    · refine hostMessages_agree.after rfl ?_
      exact Agree.refl _ _

theorem hostOwnMemory_agree {x0 x1 x2} : Agree 5055264 x0 (@hostOwnMemory x0 x1 x2) := by
  unfold hostOwnMemory
  refine Agree.ite ?_ ?_
  · refine Agree.ite ?_ ?_
    · refine logEvent_agree.after rfl ?_
      exact Agree.refl _ _
    · refine hostAnswer_agree.after rfl ?_
      exact Agree.refl _ _
  · refine Agree.ite ?_ ?_
    · refine Agree.foldl (fun a0 b1 h2 => ?_) ?_
      · refine writeBytes_agree.after rfl ?_
        assumption
      · exact Agree.refl _ _
    · extract_lets +onlyGivenNames v3
      have hv3 : Agree 5055264 x0 v3 := by
        unfold v3
        refine readUnits_agree.after rfl ?_
        exact Agree.refl _ _
      clear_value v3
      refine hostAnswer_agree.after rfl ?_
      assumption

theorem hostMemory_agree {x0 x1 x2 x3} : Agree 65536 x0 (@hostMemory x0 x1 x2 x3) := by
  unfold hostMemory
  refine hostMessages_agree.after rfl ?_
  exact Agree.refl _ _

theorem hostRequest_agree {x0 x1} : Agree 5223393 x1 (@hostRequest x0 x1) := by
  unfold hostRequest
  refine Agree.ite ?_ ?_
  · exact Agree.refl _ _
  · refine Agree.ite ?_ ?_
    · refine Agree.ite ?_ ?_
      · refine hostOwnControl_agree.after rfl ?_
        exact Agree.refl _ _
      · refine hostUnsupported_agree.after rfl ?_
        exact Agree.refl _ _
    · split
      · refine hostUnsupported_agree.after rfl ?_
        exact Agree.refl _ _
      · refine Agree.ite ?_ ?_
        · refine hostOwnControl_agree.after rfl ?_
          exact Agree.refl _ _
        · refine hostControl_agree.after rfl ?_
          exact Agree.refl _ _
      · refine Agree.ite ?_ ?_
        · refine hostOwnMemory_agree.after rfl ?_
          exact Agree.refl _ _
        · refine hostMemory_agree.after rfl ?_
          exact Agree.refl _ _

theorem execHostRequest_agree {x0 x1 t} (h : @execHostRequest x0 x1 = .next t) : Agree 5223393 x1 t := by
  unfold execHostRequest at h
  cases h
  refine hostRequest_agree.after rfl ?_
  exact Agree.refl _ _

theorem redArrive_agree {x0 x1} : Agree 5075744 x1 (@redArrive x0 x1) := by
  unfold redArrive
  split
  · refine redSettle_agree.after rfl ?_
    refine redMessage_agree.after rfl ?_
    exact Agree.refl _ _
  · exact Agree.refl _ _

theorem execRedBlocks_agree {x0 x1 t} (h : @execRedBlocks x0 x1 = .next t) : Agree 5108512 x1 t := by
  unfold execRedBlocks at h
  cases h
  unfold recv
  refine Agree.ite ?_ ?_
  · exact Agree.refl _ _
  · extract_lets +onlyGivenNames v0
    have hv0 : Agree 5108512 x1 v0 := by
      unfold v0
      refine takeMsg_agree.after rfl ?_
      exact Agree.refl _ _
    clear_value v0
    extract_lets +onlyGivenNames v1
    clear_value v1
    extract_lets +onlyGivenNames v2
    refine Agree.ite ?_ ?_
    · refine bump_agree.after rfl ?_
      assumption
    · refine Agree.ite ?_ ?_
      · unfold v2
        refine redArrive_agree.after rfl ?_
        refine Agree.ite ?_ ?_
        · refine wakeLichen_agree.after rfl ?_
          assumption
        · assumption
      · refine Agree.ite ?_ ?_
        · assumption
        · refine Agree.ite ?_ ?_
          · unfold v2
            refine redArrive_agree.after rfl ?_
            refine Agree.ite ?_ ?_
            · refine wakeLichen_agree.after rfl ?_
              refine checkSeq_agree.after rfl ?_
              assumption
            · refine checkSeq_agree.after rfl ?_
              assumption
          · refine Agree.ite ?_ ?_
            · refine forwardMsg_agree.after rfl ?_
              assumption
            · unfold v2
              refine redArrive_agree.after rfl ?_
              refine Agree.ite ?_ ?_
              · refine wakeLichen_agree.after rfl ?_
                refine checkSeq_agree.after rfl ?_
                assumption
              · refine checkSeq_agree.after rfl ?_
                assumption

theorem execRedResult_agree {x0 x1 t} (h : @execRedResult x0 x1 = .next t) : Agree 5108512 x1 t := by
  unfold execRedResult at h
  cases h
  unfold recv
  refine Agree.ite ?_ ?_
  · exact Agree.refl _ _
  · extract_lets +onlyGivenNames v0
    have hv0 : Agree 5108512 x1 v0 := by
      unfold v0
      refine takeMsg_agree.after rfl ?_
      exact Agree.refl _ _
    clear_value v0
    extract_lets +onlyGivenNames v1
    clear_value v1
    extract_lets +onlyGivenNames v2
    refine Agree.ite ?_ ?_
    · refine bump_agree.after rfl ?_
      assumption
    · refine Agree.ite ?_ ?_
      · unfold v2
        refine redArrive_agree.after rfl ?_
        refine Agree.ite ?_ ?_
        · refine wakeLichen_agree.after rfl ?_
          assumption
        · assumption
      · refine Agree.ite ?_ ?_
        · assumption
        · refine Agree.ite ?_ ?_
          · unfold v2
            refine redArrive_agree.after rfl ?_
            refine Agree.ite ?_ ?_
            · refine wakeLichen_agree.after rfl ?_
              refine checkSeq_agree.after rfl ?_
              assumption
            · refine checkSeq_agree.after rfl ?_
              assumption
          · refine Agree.ite ?_ ?_
            · refine forwardMsg_agree.after rfl ?_
              assumption
            · unfold v2
              refine redArrive_agree.after rfl ?_
              refine Agree.ite ?_ ?_
              · refine wakeLichen_agree.after rfl ?_
                refine checkSeq_agree.after rfl ?_
                assumption
              · refine checkSeq_agree.after rfl ?_
                assumption

theorem execRedNorm_agree {x0 x1 t} (h : @execRedNorm x0 x1 = .next t) : Agree 5108512 x1 t := by
  unfold execRedNorm at h
  cases h
  unfold recv
  refine Agree.ite ?_ ?_
  · exact Agree.refl _ _
  · extract_lets +onlyGivenNames v0
    have hv0 : Agree 5108512 x1 v0 := by
      unfold v0
      refine takeMsg_agree.after rfl ?_
      exact Agree.refl _ _
    clear_value v0
    extract_lets +onlyGivenNames v1
    clear_value v1
    extract_lets +onlyGivenNames v2
    refine Agree.ite ?_ ?_
    · refine bump_agree.after rfl ?_
      assumption
    · refine Agree.ite ?_ ?_
      · unfold v2
        refine redArrive_agree.after rfl ?_
        refine Agree.ite ?_ ?_
        · refine wakeLichen_agree.after rfl ?_
          assumption
        · assumption
      · refine Agree.ite ?_ ?_
        · assumption
        · refine Agree.ite ?_ ?_
          · unfold v2
            refine redArrive_agree.after rfl ?_
            refine Agree.ite ?_ ?_
            · refine wakeLichen_agree.after rfl ?_
              refine checkSeq_agree.after rfl ?_
              assumption
            · refine checkSeq_agree.after rfl ?_
              assumption
          · refine Agree.ite ?_ ?_
            · refine forwardMsg_agree.after rfl ?_
              assumption
            · unfold v2
              refine redArrive_agree.after rfl ?_
              refine Agree.ite ?_ ?_
              · refine wakeLichen_agree.after rfl ?_
                refine checkSeq_agree.after rfl ?_
                assumption
              · refine checkSeq_agree.after rfl ?_
                assumption

theorem execBackupReq_agree {x0 x1 t} (h : @execBackupReq x0 x1 = .next t) : Agree 5108512 x1 t := by
  unfold execBackupReq at h
  cases h
  unfold recv
  refine Agree.ite ?_ ?_
  · exact Agree.refl _ _
  · extract_lets +onlyGivenNames v0
    have hv0 : Agree 5108512 x1 v0 := by
      unfold v0
      refine takeMsg_agree.after rfl ?_
      exact Agree.refl _ _
    clear_value v0
    extract_lets +onlyGivenNames v1
    clear_value v1
    extract_lets +onlyGivenNames v2
    refine Agree.ite ?_ ?_
    · refine bump_agree.after rfl ?_
      assumption
    · refine Agree.ite ?_ ?_
      · unfold v2
        refine redArrive_agree.after rfl ?_
        refine Agree.ite ?_ ?_
        · refine wakeLichen_agree.after rfl ?_
          assumption
        · assumption
      · refine Agree.ite ?_ ?_
        · assumption
        · refine Agree.ite ?_ ?_
          · unfold v2
            refine redArrive_agree.after rfl ?_
            refine Agree.ite ?_ ?_
            · refine wakeLichen_agree.after rfl ?_
              refine checkSeq_agree.after rfl ?_
              assumption
            · refine checkSeq_agree.after rfl ?_
              assumption
          · refine Agree.ite ?_ ?_
            · refine forwardMsg_agree.after rfl ?_
              assumption
            · unfold v2
              refine redArrive_agree.after rfl ?_
              refine Agree.ite ?_ ?_
              · refine wakeLichen_agree.after rfl ?_
                refine checkSeq_agree.after rfl ?_
                assumption
              · refine checkSeq_agree.after rfl ?_
                assumption

theorem execCheckOk_agree {x0 x1 t} (h : @execCheckOk x0 x1 = .next t) : Agree 5108512 x1 t := by
  unfold execCheckOk at h
  cases h
  unfold recv
  refine Agree.ite ?_ ?_
  · exact Agree.refl _ _
  · extract_lets +onlyGivenNames v0
    have hv0 : Agree 5108512 x1 v0 := by
      unfold v0
      refine takeMsg_agree.after rfl ?_
      exact Agree.refl _ _
    clear_value v0
    extract_lets +onlyGivenNames v1
    clear_value v1
    extract_lets +onlyGivenNames v2
    refine Agree.ite ?_ ?_
    · refine bump_agree.after rfl ?_
      assumption
    · refine Agree.ite ?_ ?_
      · unfold v2
        refine redArrive_agree.after rfl ?_
        refine Agree.ite ?_ ?_
        · refine wakeLichen_agree.after rfl ?_
          assumption
        · assumption
      · refine Agree.ite ?_ ?_
        · assumption
        · refine Agree.ite ?_ ?_
          · unfold v2
            refine redArrive_agree.after rfl ?_
            refine Agree.ite ?_ ?_
            · refine wakeLichen_agree.after rfl ?_
              refine checkSeq_agree.after rfl ?_
              assumption
            · refine checkSeq_agree.after rfl ?_
              assumption
          · refine Agree.ite ?_ ?_
            · refine forwardMsg_agree.after rfl ?_
              assumption
            · unfold v2
              refine redArrive_agree.after rfl ?_
              refine Agree.ite ?_ ?_
              · refine wakeLichen_agree.after rfl ?_
                refine checkSeq_agree.after rfl ?_
                assumption
              · refine checkSeq_agree.after rfl ?_
                assumption

theorem execRetractReq_agree {x0 x1 t} (h : @execRetractReq x0 x1 = .next t) : Agree 5108512 x1 t := by
  unfold execRetractReq at h
  cases h
  unfold recv
  refine Agree.ite ?_ ?_
  · exact Agree.refl _ _
  · extract_lets +onlyGivenNames v0
    have hv0 : Agree 5108512 x1 v0 := by
      unfold v0
      refine takeMsg_agree.after rfl ?_
      exact Agree.refl _ _
    clear_value v0
    extract_lets +onlyGivenNames v1
    clear_value v1
    extract_lets +onlyGivenNames v2
    refine Agree.ite ?_ ?_
    · refine bump_agree.after rfl ?_
      assumption
    · refine Agree.ite ?_ ?_
      · unfold v2
        refine redArrive_agree.after rfl ?_
        refine Agree.ite ?_ ?_
        · refine wakeLichen_agree.after rfl ?_
          assumption
        · assumption
      · refine Agree.ite ?_ ?_
        · assumption
        · refine Agree.ite ?_ ?_
          · unfold v2
            refine redArrive_agree.after rfl ?_
            refine Agree.ite ?_ ?_
            · refine wakeLichen_agree.after rfl ?_
              refine checkSeq_agree.after rfl ?_
              assumption
            · refine checkSeq_agree.after rfl ?_
              assumption
          · refine Agree.ite ?_ ?_
            · refine forwardMsg_agree.after rfl ?_
              assumption
            · unfold v2
              refine redArrive_agree.after rfl ?_
              refine Agree.ite ?_ ?_
              · refine wakeLichen_agree.after rfl ?_
                refine checkSeq_agree.after rfl ?_
                assumption
              · refine checkSeq_agree.after rfl ?_
                assumption

theorem execConfirm_agree {x0 x1 t} (h : @execConfirm x0 x1 = .next t) : Agree 5108512 x1 t := by
  unfold execConfirm at h
  cases h
  unfold recv
  refine Agree.ite ?_ ?_
  · exact Agree.refl _ _
  · extract_lets +onlyGivenNames v0
    have hv0 : Agree 5108512 x1 v0 := by
      unfold v0
      refine takeMsg_agree.after rfl ?_
      exact Agree.refl _ _
    clear_value v0
    extract_lets +onlyGivenNames v1
    clear_value v1
    extract_lets +onlyGivenNames v2
    refine Agree.ite ?_ ?_
    · refine bump_agree.after rfl ?_
      assumption
    · refine Agree.ite ?_ ?_
      · unfold v2
        refine redArrive_agree.after rfl ?_
        refine Agree.ite ?_ ?_
        · refine wakeLichen_agree.after rfl ?_
          assumption
        · assumption
      · refine Agree.ite ?_ ?_
        · assumption
        · refine Agree.ite ?_ ?_
          · unfold v2
            refine redArrive_agree.after rfl ?_
            refine Agree.ite ?_ ?_
            · refine wakeLichen_agree.after rfl ?_
              refine checkSeq_agree.after rfl ?_
              assumption
            · refine checkSeq_agree.after rfl ?_
              assumption
          · refine Agree.ite ?_ ?_
            · refine forwardMsg_agree.after rfl ?_
              assumption
            · unfold v2
              refine redArrive_agree.after rfl ?_
              refine Agree.ite ?_ ?_
              · refine wakeLichen_agree.after rfl ?_
                refine checkSeq_agree.after rfl ?_
                assumption
              · refine checkSeq_agree.after rfl ?_
                assumption

theorem execRetract_agree {x0 x1 t} (h : @execRetract x0 x1 = .next t) : Agree 5108512 x1 t := by
  unfold execRetract at h
  cases h
  unfold recv
  refine Agree.ite ?_ ?_
  · exact Agree.refl _ _
  · extract_lets +onlyGivenNames v0
    have hv0 : Agree 5108512 x1 v0 := by
      unfold v0
      refine takeMsg_agree.after rfl ?_
      exact Agree.refl _ _
    clear_value v0
    extract_lets +onlyGivenNames v1
    clear_value v1
    extract_lets +onlyGivenNames v2
    refine Agree.ite ?_ ?_
    · refine bump_agree.after rfl ?_
      assumption
    · refine Agree.ite ?_ ?_
      · unfold v2
        refine redArrive_agree.after rfl ?_
        refine Agree.ite ?_ ?_
        · refine wakeLichen_agree.after rfl ?_
          assumption
        · assumption
      · refine Agree.ite ?_ ?_
        · assumption
        · refine Agree.ite ?_ ?_
          · unfold v2
            refine redArrive_agree.after rfl ?_
            refine Agree.ite ?_ ?_
            · refine wakeLichen_agree.after rfl ?_
              refine checkSeq_agree.after rfl ?_
              assumption
            · refine checkSeq_agree.after rfl ?_
              assumption
          · refine Agree.ite ?_ ?_
            · refine forwardMsg_agree.after rfl ?_
              assumption
            · unfold v2
              refine redArrive_agree.after rfl ?_
              refine Agree.ite ?_ ?_
              · refine wakeLichen_agree.after rfl ?_
                refine checkSeq_agree.after rfl ?_
                assumption
              · refine checkSeq_agree.after rfl ?_
                assumption

end Sys2Proof.Laws
end

