-- ==== Sys2Proof/Laws/AgreeStartup.lean ====
section
/-! SUPPORT. What the operations of Machine/Startup.lean leave alone: for each, the areas it may change, as the bits of a mask in
the numbering of `Area.idx`. -/

namespace Sys2Proof.Laws

open Sys2Proof Sys2Proof.Machine Sys2Proof.Safety Sys2Proof.Frame

theorem abortHost_agree {x0} : Agree 65536 x0 (@abortHost x0) := by
  unfold abortHost
  refine Agree.updMk ?_ (Nat.le_refl _) (flashUp_refl _) rfl rfl rfl ⟨rfl, rfl, rfl, rfl, rfl⟩ (fun a h => by cases a <;> first | exact absurd h (by decide) | exact rfl | exact ⟨rfl, rfl⟩)
  exact Agree.refl _ _

theorem setFw_agree {s k x} : Agree 262144 s (setFw s k x) := by
  unfold setFw
  refine Agree.updMk (Agree.refl _ _) (Nat.le_refl _) ?_ rfl rfl rfl ⟨rfl, rfl, rfl, rfl, rfl⟩
    (fun a h => by cases a <;> first | exact absurd h (by decide) | exact rfl | exact ⟨rfl, rfl⟩)
  split <;> exact flashUp_refl _

theorem showFw_agree {x0} : Agree 32 x0 (@showFw x0) := by
  unfold showFw
  extract_lets +onlyGivenNames v0
  clear_value v0
  extract_lets +onlyGivenNames v1
  clear_value v1
  extract_lets +onlyGivenNames v2
  have hv2 : Agree 32 x0 v2 := by
    unfold v2
    refine setF_agree.after rfl ?_
    refine setF_agree.after rfl ?_
    refine setF_agree.after rfl ?_
    exact Agree.refl _ _
  clear_value v2
  refine setF_agree.after rfl ?_
  refine setF_agree.after rfl ?_
  refine setF_agree.after rfl ?_
  assumption

theorem acceptTrial_agree {x0} : Agree 5046304 x0 (@acceptTrial x0) := by
  unfold acceptTrial
  extract_lets +onlyGivenNames v0
  clear_value v0
  extract_lets +onlyGivenNames v1
  clear_value v1
  refine Agree.ite ?_ ?_
  · extract_lets +onlyGivenNames v2
    clear_value v2
    extract_lets +onlyGivenNames v3
    have hv3 : Agree 5046304 x0 v3 := by
      unfold v3
      refine setFw_agree.after rfl ?_
      refine setFw_agree.after rfl ?_
      exact Agree.refl _ _
    clear_value v3
    refine raiseCounter_agree.after rfl ?_
    refine logEvent_agree.after rfl ?_
    refine showFw_agree.after rfl ?_
    assumption
  · exact Agree.refl _ _

theorem dropWork_agree {s} : Agree 130208 s (dropWork s) := by
  unfold dropWork
  extract_lets +onlyGivenNames t
  have h : Agree 130208 s t := abortHost_agree.mono rfl
  clear_value t
  refine Agree.updTab h (Nat.le_refl _) (flashUp_refl _) rfl rfl rfl
    (fun m => ⟨m.regs.filter _, fun e he => m.resets e (List.mem_filter.1 he).1, nil_wf, mapFilter_wf m.fronds (fun _ => rfl),
      fun e he => ?_, nil_wf, nil_wf⟩)
    (fun a h => by cases a <;> first | exact absurd h (by decide) | exact rfl | exact ⟨rfl, rfl⟩)
  obtain ⟨x, hx, rfl⟩ := List.mem_map.1 (List.mem_filter.1 he).1
  exact nil_wf

theorem forgetBad_agree {x0 x1} : Agree 524288 x0 (@forgetBad x0 x1) := by
  unfold forgetBad
  refine Agree.updMk ?_ (Nat.le_refl _) (flashUp_refl _) rfl rfl rfl ⟨rfl, rfl, rfl, rfl, rfl⟩ (fun a h => by cases a <;> first | exact absurd h (by decide) | exact rfl | exact ⟨rfl, rfl⟩)
  exact Agree.refl _ _

theorem zeroStack_agree {x0 x1} : Agree 525056 x0 (@zeroStack x0 x1) := by
  unfold zeroStack
  refine forgetBad_agree.after rfl ?_
  refine zeroRange_agree.after rfl ?_
  exact Agree.refl _ _

theorem logRepairs_agree {x0} : Agree 5047072 x0 (@logRepairs x0) := by
  unfold logRepairs
  extract_lets +onlyGivenNames v0
  have hv0 : Agree 5047072 x0 v0 := by
    unfold v0
    refine Agree.foldl (fun a1 b2 h3 => ?_) ?_
    · refine logEvent_agree.after rfl ?_
      assumption
    · exact Agree.refl _ _
  clear_value v0
  extract_lets +onlyGivenNames v4
  have hv4 : Agree 5047072 x0 v4 := by
    unfold v4
    refine Agree.foldl (fun a5 b6 h7 => ?_) ?_
    · refine zeroStack_agree.after rfl ?_
      assumption
    · assumption
  clear_value v4
  refine Agree.updMk ?_ (Nat.le_refl _) (flashUp_refl _) rfl rfl rfl ⟨rfl, rfl, rfl, rfl, rfl⟩ (fun a h => by cases a <;> first | exact absurd h (by decide) | exact rfl | exact ⟨rfl, rfl⟩)
  assumption

theorem enterStandby_agree {s} : Agree 5111714 s (enterStandby s) := by
  unfold enterStandby
  extract_lets +onlyGivenNames t
  have h : Agree 5111714 s t := dropWork_agree.after rfl (logRepairs_agree.mono rfl)
  clear_value t
  refine Agree.trans h ⟨rfl, Nat.le_refl _, flashUp_refl _, fun _ => ⟨nil_wf, nil_wf, nil_wf⟩,
    fun m => ⟨m.regs, m.resets, m.queues, nil_wf, (fun _ h => nomatch h), m.parts, m.ports⟩, fun a h => by cases a <;> first | exact absurd h (by decide) | exact rfl⟩

theorem aux33Loss_agree {x0} : Agree 5111726 x0 (@aux33Loss x0) := by
  unfold aux33Loss
  extract_lets +onlyGivenNames v0
  have hv0 : Agree 5111726 x0 v0 := by
    unfold v0
    refine enterStandby_agree.after rfl ?_
    exact Agree.refl _ _
  clear_value v0
  refine Agree.updMk ?_ (Nat.le_refl _) (flashUp_refl _) rfl rfl rfl ⟨rfl, rfl, rfl, rfl, rfl⟩ (fun a h => by cases a <;> first | exact absurd h (by decide) | exact rfl | exact ⟨rfl, rfl⟩)
  assumption

theorem aux33On_agree {x0} : Agree 62 x0 (@aux33On x0) := by
  unfold aux33On
  refine Agree.ite ?_ ?_
  · extract_lets +onlyGivenNames v0
    have hv0 : Agree 62 x0 v0 := by
      unfold v0
      refine resetRegs_agree.after rfl ?_
      exact Agree.refl _ _
    clear_value v0
    refine Agree.updMk ?_ (Nat.le_refl _) (flashUp_refl _) rfl rfl rfl ⟨rfl, rfl, rfl, rfl, rfl⟩ (fun a h => by cases a <;> first | exact absurd h (by decide) | exact rfl | exact ⟨rfl, rfl⟩)
    assumption
  · exact Agree.refl _ _

theorem logFinding_agree {x0 x1} : Agree 5046305 x0 (@logFinding x0 x1) := by
  unfold logFinding
  refine logEvent_agree.after rfl ?_
  refine Agree.updMk ?_ (Nat.le_succ _) (flashUp_refl _) rfl rfl rfl ⟨rfl, rfl, rfl, rfl, rfl⟩ (fun a h => by cases a <;> first | exact absurd h (by decide) | exact rfl | exact ⟨rfl, rfl⟩)
  exact Agree.refl _ _

theorem bootCommit_agree {x0 x1} : Agree 7335971 x1 (@bootCommit x0 x1) := by
  unfold bootCommit
  split
  · exact Agree.refl _ _
  · refine Agree.ite ?_ ?_
    · exact Agree.refl _ _
    · extract_lets +onlyGivenNames v0
      clear_value v0
      extract_lets +onlyGivenNames v1
      have hv1 : Agree 7335971 x1 v1 := by
        unfold v1
        refine Agree.foldl (fun a2 b3 h4 => ?_) ?_
        · refine logFinding_agree.after rfl ?_
          assumption
        · exact Agree.refl _ _
      clear_value v1
      extract_lets +onlyGivenNames v5
      have hv5 : Agree 7335971 x1 v5 := by
        unfold v5
        refine applyImage_agree.after rfl ?_
        assumption
      clear_value v5
      extract_lets +onlyGivenNames v6
      have hv6 : Agree 7335971 x1 v6 := by
        unfold v6
        refine Agree.updMk ?_ (Nat.le_refl _) (flashUp_refl _) rfl rfl rfl ⟨rfl, rfl, rfl, rfl, rfl⟩ (fun a h => by cases a <;> first | exact absurd h (by decide) | exact rfl | exact ⟨rfl, rfl⟩)
        assumption
      clear_value v6
      extract_lets +onlyGivenNames v7
      clear_value v7
      extract_lets +onlyGivenNames v8
      have hv8 : Agree 7335971 x1 v8 := by
        unfold v8
        refine Agree.updMk ?_ (Nat.le_refl _) (flashUp_refl _) rfl rfl rfl ⟨rfl, rfl, rfl, rfl, rfl⟩ (fun a h => by cases a <;> first | exact absurd h (by decide) | exact rfl | exact ⟨rfl, rfl⟩)
        assumption
      clear_value v8
      extract_lets +onlyGivenNames v9
      have hv9 : Agree 7335971 x1 v9 := by
        unfold v9
        refine setF_agree.after rfl ?_
        refine setF_agree.after rfl ?_
        assumption
      clear_value v9
      refine maybeFabricBarrier_agree.after rfl ?_
      refine acceptTrial_agree.after rfl ?_
      assumption

theorem bootError_agree {x0 x1} : Agree 4259872 x0 (@bootError x0 x1) := by
  unfold bootError
  refine raiseCause_agree.after rfl ?_
  refine setF_agree.after rfl ?_
  exact Agree.refl _ _

theorem endTrial_agree {x0 x1} : Agree 5046304 x0 (@endTrial x0 x1) := by
  unfold endTrial
  extract_lets +onlyGivenNames v0
  clear_value v0
  refine Agree.ite ?_ ?_
  · refine logEvent_agree.after rfl ?_
    refine setFw_agree.after rfl ?_
    exact Agree.refl _ _
  · exact Agree.refl _ _

theorem showPgood_agree {x0} : Agree 32 x0 (@showPgood x0) := by
  unfold showPgood
  refine setF_agree.after rfl ?_
  exact Agree.refl _ _

theorem enterBoot_agree {x0} : Agree 12582050 x0 (@enterBoot x0) := by
  unfold enterBoot
  extract_lets +onlyGivenNames v0
  have hv0 : Agree 12582050 x0 v0 := by
    unfold v0
    refine resetRegs_agree.after rfl ?_
    refine dropWork_agree.after rfl ?_
    exact Agree.refl _ _
  clear_value v0
  refine showPgood_agree.after rfl ?_
  refine noteDies_agree.after rfl ?_
  refine Agree.updMk ?_ (Nat.le_refl _) ⟨Nat.le_refl _, Nat.le_refl _, Nat.le_refl _, Nat.le_succ _, Nat.le_refl _, Nat.le_refl _, Nat.le_refl _⟩ rfl rfl rfl ⟨rfl, rfl, rfl, rfl, rfl⟩ (fun a h => by cases a <;> first | exact absurd h (by decide) | exact rfl | exact ⟨rfl, rfl⟩)
  assumption

theorem execAux33On_agree {x0 t} (h : @execAux33On x0 = .next t) : Agree 62 x0 t := by
  unfold execAux33On at h
  cases h
  refine aux33On_agree.after rfl ?_
  exact Agree.refl _ _

theorem execAux33Loss_agree {x0 t} (h : @execAux33Loss x0 = .next t) : Agree 5111726 x0 t := by
  unfold execAux33Loss at h
  cases h
  refine aux33Loss_agree.after rfl ?_
  exact Agree.refl _ _

theorem tryBoot_agree {x0} : Agree 12582050 x0 (@tryBoot x0) := by
  unfold tryBoot
  refine Agree.ite ?_ ?_
  · refine markEvent_agree.after rfl ?_
    refine enterBoot_agree.after rfl ?_
    exact Agree.refl _ _
  · exact Agree.refl _ _

theorem islandRelease_agree {x0} : Agree 12582074 x0 (@islandRelease x0) := by
  unfold islandRelease
  refine Agree.ite ?_ ?_
  · refine tryBoot_agree.after rfl ?_
    refine Agree.updMk ?_ (Nat.le_refl _) (flashUp_refl _) rfl rfl rfl ⟨rfl, rfl, rfl, rfl, rfl⟩ (fun a h => by cases a <;> first | exact absurd h (by decide) | exact rfl | exact ⟨rfl, rfl⟩)
    exact Agree.refl _ _
  · exact Agree.refl _ _

theorem execIslandResetRelease_agree {x0 t} (h : @execIslandResetRelease x0 = .next t) : Agree 12582074 x0 t := by
  unfold execIslandResetRelease at h
  cases h
  refine islandRelease_agree.after rfl ?_
  exact Agree.refl _ _

theorem powerGood_agree {x0 x1} : Agree 12582054 x1 (@powerGood x0 x1) := by
  unfold powerGood
  refine Agree.ite ?_ ?_
  · exact Agree.refl _ _
  · refine tryBoot_agree.after rfl ?_
    refine showPgood_agree.after rfl ?_
    refine Agree.updMk ?_ (Nat.le_refl _) (flashUp_refl _) rfl rfl rfl ⟨rfl, rfl, rfl, rfl, rfl⟩ (fun a h => by cases a <;> first | exact absurd h (by decide) | exact rfl | exact ⟨rfl, rfl⟩)
    exact Agree.refl _ _

theorem execPowerGood_agree {x0 x1 t} (h : @execPowerGood x0 x1 = .next t) : Agree 12582054 x1 t := by
  unfold execPowerGood at h
  cases h
  refine powerGood_agree.after rfl ?_
  exact Agree.refl _ _

theorem loseWork_agree {x0} : Agree 5111714 x0 (@loseWork x0) := by
  unfold loseWork
  refine Agree.ite ?_ ?_
  · refine enterStandby_agree.after rfl ?_
    exact Agree.refl _ _
  · exact Agree.refl _ _

theorem powerLoss_agree {x0} : Agree 5111718 x0 (@powerLoss x0) := by
  unfold powerLoss
  refine showPgood_agree.after rfl ?_
  refine loseWork_agree.after rfl ?_
  refine Agree.updMk ?_ (Nat.le_refl _) (flashUp_refl _) rfl rfl rfl ⟨rfl, rfl, rfl, rfl, rfl⟩ (fun a h => by cases a <;> first | exact absurd h (by decide) | exact rfl | exact ⟨rfl, rfl⟩)
  exact Agree.refl _ _

theorem execPowerGoodLoss_agree {x0 t} (h : @execPowerGoodLoss x0 = .next t) : Agree 5111718 x0 t := by
  unfold execPowerGoodLoss at h
  cases h
  refine powerLoss_agree.after rfl ?_
  exact Agree.refl _ _

theorem resetN_agree {x0 x1} : Agree 16777126 x1 (@resetN x0 x1) := by
  unfold resetN
  extract_lets +onlyGivenNames v0
  clear_value v0
  extract_lets +onlyGivenNames v1
  have hv1 : Agree 16777126 x1 v1 := by
    unfold v1
    refine Agree.updMk ?_ (Nat.le_refl _) (flashUp_refl _) rfl rfl rfl ⟨rfl, rfl, rfl, rfl, rfl⟩ (fun a h => by cases a <;> first | exact absurd h (by decide) | exact rfl | exact ⟨rfl, rfl⟩)
    exact Agree.refl _ _
  clear_value v1
  refine Agree.ite ?_ ?_
  · refine tryBoot_agree.after rfl ?_
    assumption
  · refine loseWork_agree.after rfl ?_
    assumption

theorem execResetN_agree {x0 x1 t} (h : @execResetN x0 x1 = .next t) : Agree 16777126 x1 t := by
  unfold execResetN at h
  cases h
  refine resetN_agree.after rfl ?_
  exact Agree.refl _ _

theorem perstN_agree {x0 x1} : Agree 65540 x1 (@perstN x0 x1) := by
  unfold perstN
  extract_lets +onlyGivenNames v0
  clear_value v0
  extract_lets +onlyGivenNames v1
  have hv1 : Agree 65540 x1 v1 := by
    unfold v1
    refine Agree.updMk ?_ (Nat.le_refl _) (flashUp_refl _) rfl rfl rfl ⟨rfl, rfl, rfl, rfl, rfl⟩ (fun a h => by cases a <;> first | exact absurd h (by decide) | exact rfl | exact ⟨rfl, rfl⟩)
    exact Agree.refl _ _
  clear_value v1
  refine Agree.ite ?_ ?_
  · refine abortHost_agree.after rfl ?_
    assumption
  · assumption

theorem execPerstN_agree {x0 x1 t} (h : @execPerstN x0 x1 = .next t) : Agree 65540 x1 t := by
  unfold execPerstN at h
  cases h
  refine perstN_agree.after rfl ?_
  exact Agree.refl _ _

theorem pufReconstruct_agree {x0 x1} : Agree 5046304 x1 (@pufReconstruct x0 x1) := by
  unfold pufReconstruct
  refine Agree.ite ?_ ?_
  · exact Agree.refl _ _
  · extract_lets +onlyGivenNames v0
    have hv0 : Agree 5046304 x1 v0 := by
      unfold v0
      refine showSecurity_agree.after rfl ?_
      refine setF_agree.after rfl ?_
      exact Agree.refl _ _
    clear_value v0
    refine Agree.ite ?_ ?_
    · assumption
    · refine raiseCause_agree.after rfl ?_
      refine logEvent_agree.after rfl ?_
      assumption

theorem execPufReconstruct_agree {x0 x1 t} (h : @execPufReconstruct x0 x1 = .next t) : Agree 5046304 x1 t := by
  unfold execPufReconstruct at h
  cases h
  refine pufReconstruct_agree.after rfl ?_
  exact Agree.refl _ _

theorem tryFw_agree {ok l s} : Agree 5046304 s (tryFw ok l s).1 := by
  induction l generalizing s with
  | nil => exact Agree.refl _ _
  | cons k t ih =>
    unfold tryFw
    extract_lets x
    split
    · dsimp only
      split
      · exact setFw_agree.mono rfl
      · split
        · exact setFw_agree.mono rfl
        · exact Agree.refl _ _
    · exact Agree.trans (sigFail_agree.after rfl (setFw_agree.mono rfl)) ih

theorem pickFloor_agree {x0 x1 x2} : Agree 5046304 x0 (@pickFloor x0 x1 x2).1 := by
  unfold pickFloor
  extract_lets +onlyGivenNames v0
  clear_value v0
  extract_lets +onlyGivenNames v1
  clear_value v1
  extract_lets +onlyGivenNames v2
  have hv2 : Agree 5046304 x0 v2 := by
    unfold v2
    refine Agree.ite ?_ ?_
    · refine sigFail_agree.after rfl ?_
      exact Agree.refl _ _
    · exact Agree.refl _ _
  clear_value v2
  refine Agree.iteFst ?_ ?_
  · assumption
  · refine Agree.iteFst ?_ ?_
    · assumption
    · assumption

theorem selectImage_agree {x0 x1} : Agree 163872 x0 (@selectImage x0 x1) := by
  unfold selectImage
  extract_lets +onlyGivenNames v0
  clear_value v0
  extract_lets +onlyGivenNames v1
  clear_value v1
  extract_lets +onlyGivenNames v2
  clear_value v2
  extract_lets +onlyGivenNames v3
  have hv3 : Agree 163872 x0 v3 := by
    unfold v3
    refine setF_agree.after rfl ?_
    refine Agree.updMk ?_ (Nat.le_refl _) (flashUp_refl _) rfl rfl rfl ⟨rfl, rfl, rfl, rfl, rfl⟩ (fun a h => by cases a <;> first | exact absurd h (by decide) | exact rfl | exact ⟨rfl, rfl⟩)
    exact Agree.refl _ _
  clear_value v3
  refine Agree.foldl (fun a4 b5 h6 => ?_) ?_
  · refine enterTrain_agree.after rfl ?_
    assumption
  · assumption

theorem lichenBoot_agree {x0 x1 x2 x3 x4 x5} : Agree 5210144 x5 (@lichenBoot x0 x1 x2 x3 x4 x5) := by
  unfold lichenBoot
  refine Agree.ite ?_ ?_
  · exact Agree.refl _ _
  · extract_lets +onlyGivenNames v0
    have hv0 : Agree 5210144 x5 v0 := by
      unfold v0
      refine endTrial_agree.after rfl ?_
      refine endTrial_agree.after rfl ?_
      exact Agree.refl _ _
    clear_value v0
    split
    · refine bootError_agree.after rfl ?_
      refine showFw_agree.after rfl ?_
      refine Agree.ofPair (by assumption) ?_
      refine tryFw_agree.after rfl ?_
      assumption
    · extract_lets +onlyGivenNames v1
      have hv1 : Agree 5210144 x5 v1 := by
        unfold v1
        refine setLogRegs_agree.after rfl ?_
        refine setF_agree.after rfl ?_
        refine showFw_agree.after rfl ?_
        refine Agree.ofPair (by assumption) ?_
        refine tryFw_agree.after rfl ?_
        assumption
      clear_value v1
      extract_lets +onlyGivenNames v2
      clear_value v2
      extract_lets +onlyGivenNames v3
      have hv3 : Agree 5210144 x5 v3 := by
        unfold v3
        refine Agree.updMk ?_ (Nat.le_refl _) (flashUp_refl _) rfl rfl rfl ⟨rfl, rfl, rfl, rfl, rfl⟩ (fun a h => by cases a <;> first | exact absurd h (by decide) | exact rfl | exact ⟨rfl, rfl⟩)
        assumption
      clear_value v3
      split
      · refine bootError_agree.after rfl ?_
        refine Agree.ofPair (by assumption) ?_
        refine pickFloor_agree.after rfl ?_
        assumption
      · extract_lets +onlyGivenNames v4
        clear_value v4
        extract_lets +onlyGivenNames v5
        have hv5 : Agree 5210144 x5 v5 := by
          unfold v5
          refine showFloor_agree.after rfl ?_
          refine setF_agree.after rfl ?_
          refine Agree.updMk ?_ (Nat.le_refl _) (flashUp_refl _) rfl rfl rfl ⟨rfl, rfl, rfl, rfl, rfl⟩ (fun a h => by cases a <;> first | exact absurd h (by decide) | exact rfl | exact ⟨rfl, rfl⟩)
          refine Agree.ofPair (by assumption) ?_
          refine pickFloor_agree.after rfl ?_
          assumption
        clear_value v5
        split
        · refine selectImage_agree.after rfl ?_
          assumption
        · extract_lets +onlyGivenNames v6
          have hv6 : Agree 5210144 x5 v6 := by
            unfold v6
            refine Agree.ite ?_ ?_
            · refine sigFail_agree.after rfl ?_
              assumption
            · assumption
          clear_value v6
          refine selectImage_agree.after rfl ?_
          refine bootError_agree.after rfl ?_
          refine logEvent_agree.after rfl ?_
          assumption

theorem execLichenBoot_agree {x0 x1 x2 x3 x4 x5 t} (h : @execLichenBoot x0 x1 x2 x3 x4 x5 = .next t) : Agree 5210144 x5 t := by
  unfold execLichenBoot at h
  cases h
  refine lichenBoot_agree.after rfl ?_
  exact Agree.refl _ _

theorem hbmTrainingEnd_agree {x0 x1 x2} : Agree 5047072 x2 (@hbmTrainingEnd x0 x1 x2) := by
  unfold hbmTrainingEnd
  refine Agree.ite ?_ ?_
  · exact Agree.refl _ _
  · refine Agree.ite ?_ ?_
    · refine zeroStack_agree.after rfl ?_
      refine setF_agree.after rfl ?_
      exact Agree.refl _ _
    · extract_lets +onlyGivenNames v0
      clear_value v0
      extract_lets +onlyGivenNames v1
      clear_value v1
      extract_lets +onlyGivenNames v2
      have hv2 : Agree 5047072 x2 v2 := by
        unfold v2
        refine Agree.updMk ?_ (Nat.le_refl _) (flashUp_refl _) rfl rfl rfl ⟨rfl, rfl, rfl, rfl, rfl⟩ (fun a h => by cases a <;> first | exact absurd h (by decide) | exact rfl | exact ⟨rfl, rfl⟩)
        exact Agree.refl _ _
      clear_value v2
      refine Agree.ite ?_ ?_
      · refine bootError_agree.after rfl ?_
        refine logEvent_agree.after rfl ?_
        assumption
      · assumption

theorem execHbmTrainingEnd_agree {x0 x1 x2 t} (h : @execHbmTrainingEnd x0 x1 x2 = .next t) : Agree 5047072 x2 t := by
  unfold execHbmTrainingEnd at h
  cases h
  refine hbmTrainingEnd_agree.after rfl ?_
  exact Agree.refl _ _

theorem execBootCommit_agree {x0 x1 t} (h : @execBootCommit x0 x1 = .next t) : Agree 7335971 x1 t := by
  unfold execBootCommit at h
  cases h
  refine bootCommit_agree.after rfl ?_
  exact Agree.refl _ _

theorem granuleZeroed_agree {x0 x1} : Agree 525056 x1 (@granuleZeroed x0 x1) := by
  unfold granuleZeroed
  refine Agree.ite ?_ ?_
  · refine forgetBad_agree.after rfl ?_
    extract_lets +onlyGivenNames v0
    have hv0 : Agree 525056 x1 v0 := by
      unfold v0
      refine zeroRange_agree.after rfl ?_
      exact Agree.refl _ _
    clear_value v0
    refine Agree.updMk ?_ (Nat.le_refl _) (flashUp_refl _) rfl rfl rfl ⟨rfl, rfl, rfl, rfl, rfl⟩ (fun a h => by cases a <;> first | exact absurd h (by decide) | exact rfl | exact ⟨rfl, rfl⟩)
    assumption
  · exact Agree.refl _ _

theorem execGranuleZeroed_agree {x0 x1 t} (h : @execGranuleZeroed x0 x1 = .next t) : Agree 525056 x1 t := by
  unfold execGranuleZeroed at h
  cases h
  refine granuleZeroed_agree.after rfl ?_
  exact Agree.refl _ _

end Sys2Proof.Laws
end

