-- ==== Sys2Proof/Laws/AgreePartition.lean ====
section
/-! SUPPORT. What the operations of Machine/Partition.lean leave alone: for each, the areas it may change, as the bits of a mask in
the numbering of `Area.idx`. -/

namespace Sys2Proof.Laws

open Sys2Proof Sys2Proof.Machine Sys2Proof.Safety Sys2Proof.Frame

theorem abortPart_agree {x0 x1} : Agree 5075744 x0 (@abortPart x0 x1) := by
  unfold abortPart
  extract_lets +onlyGivenNames v0
  have hv0 : Agree 5075744 x0 v0 := by
    unfold v0
    refine resetQueues_agree.after rfl ?_
    refine abortIssued_agree.after rfl ?_
    exact Agree.refl _ _
  clear_value v0
  refine setPartState_agree.after rfl ?_
  refine modPart_agree.after rfl ?_
  assumption

theorem drainedToIdle_agree {x0 x1} : Agree 24608 x1 (@drainedToIdle x0 x1) := by
  unfold drainedToIdle
  refine Agree.ite ?_ ?_
  · refine setPartState_agree.after rfl ?_
    exact Agree.refl _ _
  · exact Agree.refl _ _

theorem startWarm_agree {x0 x1} : Agree 16384 x0 (@startWarm x0 x1) := by
  unfold startWarm
  refine Agree.ite ?_ ?_
  · exact Agree.refl _ _
  · refine modPart_agree.after rfl ?_
    exact Agree.refl _ _

theorem startPart_agree {x0 x1} : VAgree 5071648 x0 (@startPart x0 x1) := by
  unfold startPart
  refine VAgree.ite ?_ ?_
  · exact True.intro
  · refine VAgree.ite ?_ ?_
    · exact True.intro
    · extract_lets +onlyGivenNames v0
      have hv0 : Agree 5071648 x0 v0 := by
        unfold v0
        refine setPartState_agree.after rfl ?_
        refine logWarm_agree.after rfl ?_
        refine startWarm_agree.after rfl ?_
        exact Agree.refl _ _
      clear_value v0
      show Agree 5071648 x0 _
      refine setFbState_agree.after rfl ?_
      refine spillFullStart_agree.after rfl ?_
      assumption

theorem execPartStart_agree {x0 x1 x2 t} (h : @execPartStart x0 x1 x2 = .next t) : Agree 6127392 x2 t := by
  unfold execPartStart at h
  cases h
  refine runEntry_agree rfl (fun s0 e1 => ?_)
  unfold partBody
  extract_lets +onlyGivenNames v2
  clear_value v2
  refine VAgree.ite ?_ ?_
  · exact True.intro
  · refine VAgree.ite ?_ ?_
    · refine startPart_agree.vafter rfl ?_
      exact Agree.refl _ _
    · exact True.intro

theorem execPartDrain_agree {x0 x1 x2 t} (h : @execPartDrain x0 x1 x2 = .next t) : Agree 6127392 x2 t := by
  unfold execPartDrain at h
  cases h
  refine runEntry_agree rfl (fun s0 e1 => ?_)
  unfold partBody
  extract_lets +onlyGivenNames v2
  clear_value v2
  refine VAgree.ite ?_ ?_
  · exact True.intro
  · refine VAgree.ite ?_ ?_
    · dsimp -zeta only
      show Agree 6127392 s0 _
      refine setPartState_agree.after rfl ?_
      exact Agree.refl _ _
    · exact True.intro

theorem execPartAbort_agree {x0 x1 x2 t} (h : @execPartAbort x0 x1 x2 = .next t) : Agree 6127392 x2 t := by
  unfold execPartAbort at h
  cases h
  refine runEntry_agree rfl (fun s0 e1 => ?_)
  unfold partBody
  extract_lets +onlyGivenNames v2
  clear_value v2
  refine VAgree.ite ?_ ?_
  · exact True.intro
  · refine VAgree.ite ?_ ?_
    · dsimp -zeta only
      show Agree 6127392 s0 _
      refine abortPart_agree.after rfl ?_
      exact Agree.refl _ _
    · exact True.intro

theorem testPart_agree {x0 x1} : VAgree 2646816 x0 (@testPart x0 x1) := by
  unfold testPart
  extract_lets +onlyGivenNames v0
  clear_value v0
  refine VAgree.ite ?_ ?_
  · show Agree 2646816 x0 _
    exact Agree.refl _ _
  · show Agree 2646816 x0 _
    refine Agree.foldl (fun a1 b2 h3 => ?_) ?_
    · refine startTest_agree.after rfl ?_
      assumption
    · refine setPartState_agree.after rfl ?_
      exact Agree.refl _ _

theorem execPartTest_agree {x0 x1 x2 t} (h : @execPartTest x0 x1 x2 = .next t) : Agree 8224544 x2 t := by
  unfold execPartTest at h
  cases h
  refine runEntry_agree rfl (fun s0 e1 => ?_)
  unfold partBody
  extract_lets +onlyGivenNames v2
  clear_value v2
  refine VAgree.ite ?_ ?_
  · exact True.intro
  · refine VAgree.ite ?_ ?_
    · refine testPart_agree.vafter rfl ?_
      exact Agree.refl _ _
    · exact True.intro

theorem execPartClear_agree {x0 x1 x2 t} (h : @execPartClear x0 x1 x2 = .next t) : Agree 6127392 x2 t := by
  unfold execPartClear at h
  cases h
  refine runEntry_agree rfl (fun s0 e1 => ?_)
  unfold partBody
  extract_lets +onlyGivenNames v2
  clear_value v2
  refine VAgree.ite ?_ ?_
  · exact True.intro
  · refine VAgree.ite ?_ ?_
    · dsimp -zeta only
      show Agree 6127392 s0 _
      refine setPartState_agree.after rfl ?_
      refine resetQueues_agree.after rfl ?_
      exact Agree.refl _ _
    · exact True.intro

theorem svcTestBody_agree {x0 x1} : VAgree 2630434 x0 (@svcTestBody x0 x1) := by
  unfold svcTestBody
  refine VAgree.ite ?_ ?_
  · show Agree 2630434 x0 _
    refine Agree.foldl (fun a0 b1 h2 => ?_) ?_
    · refine startTest_agree.after rfl ?_
      assumption
    · refine Agree.updMk ?_ (Nat.le_refl _) (flashUp_refl _) rfl rfl rfl ⟨rfl, rfl, rfl, rfl, rfl⟩ (fun a h => by cases a <;> first | exact absurd h (by decide) | exact rfl | exact ⟨rfl, rfl⟩)
      exact Agree.refl _ _
  · exact True.intro

theorem execSvcTest_agree {x0 x1 x2 t} (h : @execSvcTest x0 x1 x2 = .next t) : Agree 8224546 x2 t := by
  unfold execSvcTest at h
  cases h
  refine runEntry_agree rfl (fun s0 e1 => ?_)
  refine svcTestBody_agree.vafter rfl ?_
  exact Agree.refl _ _

theorem svcExit_agree {x0 x1 x2} : Agree 16777122 x2 (@svcExit x0 x1 x2) := by
  unfold svcExit
  extract_lets +onlyGivenNames v0
  clear_value v0
  extract_lets +onlyGivenNames v1
  have hv1 : Agree 16777122 x2 v1 := by
    unfold v1
    refine runEntry_agree rfl (fun s2 e3 => ?_)
    show Agree 16777122 s2 _
    exact Agree.refl _ _
  clear_value v1
  refine Agree.ite ?_ ?_
  · refine enterBoot_agree.after rfl ?_
    refine logRepairs_agree.after rfl ?_
    assumption
  · assumption

theorem execSvcExit_agree {x0 x1 x2 t} (h : @execSvcExit x0 x1 x2 = .next t) : Agree 16777122 x2 t := by
  unfold execSvcExit at h
  cases h
  refine svcExit_agree.after rfl ?_
  exact Agree.refl _ _

theorem execDrainedToIdle_agree {x0 x1 t} (h : @execDrainedToIdle x0 x1 = .next t) : Agree 24608 x1 t := by
  unfold execDrainedToIdle at h
  cases h
  refine drainedToIdle_agree.after rfl ?_
  exact Agree.refl _ _

end Sys2Proof.Laws
end

