-- ==== Sys2Proof/Laws/AgreeComplete.lean ====
section
/-! SUPPORT. What the operations of Machine/Complete.lean leave alone: for each, the areas it may change, as the bits of a mask in
the numbering of `Area.idx`. -/

namespace Sys2Proof.Laws

open Sys2Proof Sys2Proof.Machine Sys2Proof.Safety Sys2Proof.Frame

theorem resumeRepeats_agree {x0 x1 x2} : Agree 5072673 x0 (@resumeRepeats x0 x1 x2) := by
  unfold resumeRepeats
  split
  · refine Agree.ite ?_ ?_
    · refine goOn_agree.after rfl ?_
      exact Agree.refl _ _
    · exact Agree.refl _ _
  · exact Agree.refl _ _

theorem completionEffects_agree {x0 x1 x2} : Agree 5071648 x0 (@completionEffects x0 x1 x2) := by
  unfold completionEffects
  refine Agree.ite ?_ ?_
  · split
    · refine fenceActions_agree.after rfl ?_
      exact Agree.refl _ _
    · exact Agree.refl _ _
  · split
    · refine Agree.ite ?_ ?_
      · refine finishSlots_agree.after rfl ?_
        exact Agree.refl _ _
      · exact Agree.refl _ _
    · refine Agree.ite ?_ ?_
      · refine bump_agree.after rfl ?_
        exact Agree.refl _ _
      · exact Agree.refl _ _
    · exact Agree.refl _ _

theorem commandComplete_agree {x0 x1 x2} : Agree 5076769 x2 (@commandComplete x0 x1 x2) := by
  unfold commandComplete
  extract_lets +onlyGivenNames v0
  have hv0 : Agree 5076769 x2 v0 := by
    unfold v0
    refine resumeRepeats_agree.after rfl ?_
    exact Agree.refl _ _
  clear_value v0
  split
  · refine Agree.ite ?_ ?_
    · refine concludeEntry_agree.after rfl ?_
      refine completionEffects_agree.after rfl ?_
      assumption
    · assumption
  · assumption

theorem execCommandComplete_agree {x0 x1 x2 t} (h : @execCommandComplete x0 x1 x2 = .next t) : Agree 5076769 x2 t := by
  unfold execCommandComplete at h
  cases h
  refine commandComplete_agree.after rfl ?_
  exact Agree.refl _ _

end Sys2Proof.Laws
end

