-- ==== Sys2Proof/Laws/AgreeMgmt.lean ====
section
/-! SUPPORT. What the operations of Machine/Mgmt.lean leave alone: for each, the areas it may change, as the bits of a mask in
the numbering of `Area.idx`. -/

namespace Sys2Proof.Laws

open Sys2Proof Sys2Proof.Machine Sys2Proof.Safety Sys2Proof.Frame

theorem abortCheck_agree {x0} : Agree 135200 x0 (@abortCheck x0) := by
  unfold abortCheck
  split
  · exact Agree.refl _ _
  · extract_lets +onlyGivenNames v0
    have hv0 : Agree 135200 x0 v0 := by
      unfold v0
      refine settleRun_agree.after rfl ?_
      exact Agree.refl _ _
    clear_value v0
    extract_lets +onlyGivenNames v1
    clear_value v1
    extract_lets +onlyGivenNames v2
    have hv2 : Agree 135200 x0 v2 := by
      unfold v2
      refine Agree.updMk ?_ (Nat.le_refl _) (flashUp_refl _) rfl rfl rfl ⟨rfl, rfl, rfl, rfl, rfl⟩ (fun a h => by cases a <;> first | exact absurd h (by decide) | exact rfl | exact ⟨rfl, rfl⟩)
      assumption
    clear_value v2
    refine bump_agree.after rfl ?_
    refine setF_agree.after rfl ?_
    refine setF_agree.after rfl ?_
    assumption

theorem abortLichenWork_agree {x0} : Agree 5059361 x0 (@abortLichenWork x0) := by
  unfold abortLichenWork
  extract_lets +onlyGivenNames v0
  have hv0 : Agree 5059361 x0 v0 := by
    unfold v0
    split
    · split
      · refine failCommit_agree.after rfl ?_
        split
        · refine dropBarrier_agree.after rfl ?_
          refine showBarrier_agree.after rfl ?_
          exact Agree.refl _ _
        · exact Agree.refl _ _
      · refine failCommit_agree.after rfl ?_
        exact Agree.refl _ _
      · exact Agree.refl _ _
    · exact Agree.refl _ _
  clear_value v0
  refine failRestore_agree.after rfl ?_
  assumption

theorem worked_agree {x0} : Agree 524288 x0 (@worked x0) := by
  unfold worked
  refine Agree.updMk ?_ (Nat.le_refl _) (flashUp_refl _) rfl rfl rfl ⟨rfl, rfl, rfl, rfl, rfl⟩ (fun a h => by cases a <;> first | exact absurd h (by decide) | exact rfl | exact ⟨rfl, rfl⟩)
  exact Agree.refl _ _

theorem finishReply_agree {x0 x1 x2 x3} : Agree 4784160 x0 (@finishReply x0 x1 x2 x3) := by
  unfold finishReply
  extract_lets +onlyGivenNames v0
  clear_value v0
  extract_lets +onlyGivenNames v1
  have hv1 : Agree 4784160 x0 v1 := by
    unfold v1
    refine Agree.foldl (fun a2 b3 h4 => ?_) ?_
    · split
      refine setReg_agree.after rfl ?_
      assumption
    · exact Agree.refl _ _
  clear_value v1
  extract_lets +onlyGivenNames v5
  clear_value v5
  extract_lets +onlyGivenNames v6
  have hv6 : Agree 4784160 x0 v6 := by
    unfold v6
    refine setReg_agree.after rfl ?_
    assumption
  clear_value v6
  extract_lets +onlyGivenNames v7
  clear_value v7
  extract_lets +onlyGivenNames v8
  have hv8 : Agree 4784160 x0 v8 := by
    unfold v8
    refine worked_agree.after rfl ?_
    refine Agree.updMk ?_ (Nat.le_refl _) (flashUp_refl _) rfl rfl rfl ⟨rfl, rfl, rfl, rfl, rfl⟩ (fun a h => by cases a <;> first | exact absurd h (by decide) | exact rfl | exact ⟨rfl, rfl⟩)
    assumption
  clear_value v8
  refine Agree.ite ?_ ?_
  · refine raiseCause_agree.after rfl ?_
    assumption
  · refine Agree.ite ?_ ?_
    · refine sendMsg_agree.after rfl ?_
      assumption
    · assumption

theorem reply_agree {x0 x1 x2 x3} : Agree 4784161 x0 (@reply x0 x1 x2 x3) := by
  unfold reply
  extract_lets +onlyGivenNames v0
  clear_value v0
  refine finishReply_agree.after rfl ?_
  refine Agree.updMk ?_ (Nat.le_succ _) (flashUp_refl _) rfl rfl rfl ⟨rfl, rfl, rfl, rfl, rfl⟩ (fun a h => by cases a <;> first | exact absurd h (by decide) | exact rfl | exact ⟨rfl, rfl⟩)
  exact Agree.refl _ _

theorem attestService_agree {x0 x1} : Agree 5055265 x1 (@attestService x0 x1) := by
  unfold attestService
  extract_lets +onlyGivenNames v0
  clear_value v0
  extract_lets +onlyGivenNames v1
  clear_value v1
  split
  · refine reply_agree.after rfl ?_
    exact Agree.refl _ _
  · refine reply_agree.after rfl ?_
    refine writeBytes_agree.after rfl ?_
    exact Agree.refl _ _

theorem mbxPost_agree {x0 x1} : Agree 589857 x1 (@mbxPost x0 x1) := by
  unfold mbxPost
  extract_lets +onlyGivenNames v0
  clear_value v0
  extract_lets +onlyGivenNames v1
  clear_value v1
  extract_lets +onlyGivenNames v2
  clear_value v2
  extract_lets +onlyGivenNames v3
  clear_value v3
  refine Agree.ite ?_ ?_
  · extract_lets +onlyGivenNames v4
    clear_value v4
    extract_lets +onlyGivenNames v5
    have hv5 : Agree 589857 x1 v5 := by
      unfold v5
      refine sendMsg_agree.after rfl ?_
      refine Agree.updMk ?_ (Nat.le_succ _) (flashUp_refl _) rfl rfl rfl ⟨rfl, rfl, rfl, rfl, rfl⟩ (fun a h => by cases a <;> first | exact absurd h (by decide) | exact rfl | exact ⟨rfl, rfl⟩)
      exact Agree.refl _ _
    clear_value v5
    refine bump_agree.after rfl ?_
    assumption
  · extract_lets +onlyGivenNames v6
    have hv6 : Agree 589857 x1 v6 := by
      unfold v6
      refine Agree.foldl (fun a7 b8 h9 => ?_) ?_
      · refine setReg_agree.after rfl ?_
        assumption
      · exact Agree.refl _ _
    clear_value v6
    refine postRequest_agree.after rfl ?_
    assumption

theorem execMbxPost_agree {x0 x1 t} (h : @execMbxPost x0 x1 = .next t) : Agree 622625 x1 t := by
  unfold execMbxPost at h
  cases h
  unfold recv
  refine Agree.ite ?_ ?_
  · exact Agree.refl _ _
  · extract_lets +onlyGivenNames v0
    have hv0 : Agree 622625 x1 v0 := by
      unfold v0
      refine takeMsg_agree.after rfl ?_
      exact Agree.refl _ _
    clear_value v0
    extract_lets +onlyGivenNames v1
    clear_value v1
    extract_lets +onlyGivenNames v2
    refine Agree.ite ?_ ?_
    · refine bump_agree.after rfl ?_
      assumption
    · refine Agree.ite ?_ ?_
      · unfold v2
        refine mbxPost_agree.after rfl ?_
        refine Agree.ite ?_ ?_
        · refine wakeLichen_agree.after rfl ?_
          assumption
        · assumption
      · refine Agree.ite ?_ ?_
        · assumption
        · refine Agree.ite ?_ ?_
          · unfold v2
            refine mbxPost_agree.after rfl ?_
            refine Agree.ite ?_ ?_
            · refine wakeLichen_agree.after rfl ?_
              refine checkSeq_agree.after rfl ?_
              assumption
            · refine checkSeq_agree.after rfl ?_
              assumption
          · refine Agree.ite ?_ ?_
            · refine forwardMsg_agree.after rfl ?_
              assumption
            · unfold v2
              refine mbxPost_agree.after rfl ?_
              refine Agree.ite ?_ ?_
              · refine wakeLichen_agree.after rfl ?_
                refine checkSeq_agree.after rfl ?_
                assumption
              · refine checkSeq_agree.after rfl ?_
                assumption

theorem execMbxReply_agree {x0 x1 t} (h : @execMbxReply x0 x1 = .next t) : Agree 622624 x1 t := by
  unfold execMbxReply at h
  cases h
  unfold recv
  refine Agree.ite ?_ ?_
  · exact Agree.refl _ _
  · extract_lets +onlyGivenNames v0
    have hv0 : Agree 622624 x1 v0 := by
      unfold v0
      refine takeMsg_agree.after rfl ?_
      exact Agree.refl _ _
    clear_value v0
    extract_lets +onlyGivenNames v1
    clear_value v1
    extract_lets +onlyGivenNames v2
    refine Agree.ite ?_ ?_
    · refine bump_agree.after rfl ?_
      assumption
    · refine Agree.ite ?_ ?_
      · unfold v2
        unfold id
        refine Agree.ite ?_ ?_
        · refine wakeLichen_agree.after rfl ?_
          assumption
        · assumption
      · refine Agree.ite ?_ ?_
        · assumption
        · refine Agree.ite ?_ ?_
          · unfold v2
            unfold id
            refine Agree.ite ?_ ?_
            · refine wakeLichen_agree.after rfl ?_
              refine checkSeq_agree.after rfl ?_
              assumption
            · refine checkSeq_agree.after rfl ?_
              assumption
          · refine Agree.ite ?_ ?_
            · refine forwardMsg_agree.after rfl ?_
              assumption
            · unfold v2
              unfold id
              refine Agree.ite ?_ ?_
              · refine wakeLichen_agree.after rfl ?_
                refine checkSeq_agree.after rfl ?_
                assumption
              · refine checkSeq_agree.after rfl ?_
                assumption

theorem intNotify_agree {x0 x1} : Agree 4259872 x1 (@intNotify x0 x1) := by
  unfold intNotify
  refine Agree.ite ?_ ?_
  · refine raiseCause_agree.after rfl ?_
    exact Agree.refl _ _
  · exact Agree.refl _ _

theorem execIntNotify_agree {x0 x1 t} (h : @execIntNotify x0 x1 = .next t) : Agree 4816928 x1 t := by
  unfold execIntNotify at h
  cases h
  unfold recv
  refine Agree.ite ?_ ?_
  · exact Agree.refl _ _
  · extract_lets +onlyGivenNames v0
    have hv0 : Agree 4816928 x1 v0 := by
      unfold v0
      refine takeMsg_agree.after rfl ?_
      exact Agree.refl _ _
    clear_value v0
    extract_lets +onlyGivenNames v1
    clear_value v1
    extract_lets +onlyGivenNames v2
    refine Agree.ite ?_ ?_
    · refine bump_agree.after rfl ?_
      assumption
    · refine Agree.ite ?_ ?_
      · unfold v2
        refine intNotify_agree.after rfl ?_
        refine Agree.ite ?_ ?_
        · refine wakeLichen_agree.after rfl ?_
          assumption
        · assumption
      · refine Agree.ite ?_ ?_
        · assumption
        · refine Agree.ite ?_ ?_
          · unfold v2
            refine intNotify_agree.after rfl ?_
            refine Agree.ite ?_ ?_
            · refine wakeLichen_agree.after rfl ?_
              refine checkSeq_agree.after rfl ?_
              assumption
            · refine checkSeq_agree.after rfl ?_
              assumption
          · refine Agree.ite ?_ ?_
            · refine forwardMsg_agree.after rfl ?_
              assumption
            · unfold v2
              refine intNotify_agree.after rfl ?_
              refine Agree.ite ?_ ?_
              · refine wakeLichen_agree.after rfl ?_
                refine checkSeq_agree.after rfl ?_
                assumption
              · refine checkSeq_agree.after rfl ?_
                assumption

theorem fwDone_agree {x0 x1} : Agree 5055008 x1 (@fwDone x0 x1) := by
  unfold fwDone
  split
  · exact Agree.refl _ _
  · refine Agree.ite ?_ ?_
    · exact Agree.refl _ _
    · extract_lets +onlyGivenNames v0
      clear_value v0
      extract_lets +onlyGivenNames v1
      have hv1 : Agree 5055008 x1 v1 := by
        unfold v1
        refine readUnits_agree.after rfl ?_
        exact Agree.refl _ _
      clear_value v1
      extract_lets +onlyGivenNames v2
      clear_value v2
      extract_lets +onlyGivenNames v3
      clear_value v3
      extract_lets +onlyGivenNames v4
      clear_value v4
      extract_lets +onlyGivenNames v5
      have hv5 : Agree 5055008 x1 v5 := by
        unfold v5
        refine worked_agree.after rfl ?_
        refine Agree.updMk ?_ (Nat.le_refl _) (flashUp_refl _) rfl rfl rfl ⟨rfl, rfl, rfl, rfl, rfl⟩ (fun a h => by cases a <;> first | exact absurd h (by decide) | exact rfl | exact ⟨rfl, rfl⟩)
        assumption
      clear_value v5
      extract_lets +onlyGivenNames v6
      have hv6 : Agree 5055008 x1 v6 := by
        unfold v6
        refine Agree.ite ?_ ?_
        · refine sigFail_agree.after rfl ?_
          assumption
        · assumption
      clear_value v6
      extract_lets +onlyGivenNames v7
      clear_value v7
      extract_lets +onlyGivenNames v8
      have hv8 : Agree 5055008 x1 v8 := by
        unfold v8
        refine logEvent_agree.after rfl ?_
        refine showFw_agree.after rfl ?_
        refine setFw_agree.after rfl ?_
        assumption
      clear_value v8
      refine fwResult_agree.after rfl ?_
      assumption

theorem execFwDone_agree {x0 x1 t} (h : @execFwDone x0 x1 = .next t) : Agree 5055008 x1 t := by
  unfold execFwDone at h
  cases h
  refine fwDone_agree.after rfl ?_
  exact Agree.refl _ _

theorem execEcho_agree {x0 x1 t} (h : @execEcho x0 x1 = .next t) : Agree 4784160 x1 t := by
  unfold execEcho at h
  cases h
  unfold serve
  refine Agree.ite ?_ ?_
  · dsimp -zeta only
    refine finishReply_agree.after rfl ?_
    exact Agree.refl _ _
  · exact Agree.refl _ _

theorem logCopy_agree {x0 x1} : Agree 5055265 x1 (@logCopy x0 x1) := by
  unfold logCopy
  extract_lets +onlyGivenNames v0
  clear_value v0
  extract_lets +onlyGivenNames v1
  clear_value v1
  extract_lets +onlyGivenNames v2
  clear_value v2
  refine Agree.ite ?_ ?_
  · refine reply_agree.after rfl ?_
    exact Agree.refl _ _
  · extract_lets +onlyGivenNames v3
    clear_value v3
    split
    · refine reply_agree.after rfl ?_
      exact Agree.refl _ _
    · refine reply_agree.after rfl ?_
      refine writeBytes_agree.after rfl ?_
      exact Agree.refl _ _

theorem execLogCopy_agree {x0 x1 t} (h : @execLogCopy x0 x1 = .next t) : Agree 5055265 x1 t := by
  unfold execLogCopy at h
  cases h
  unfold serve
  refine Agree.ite ?_ ?_
  · refine logCopy_agree.after rfl ?_
    exact Agree.refl _ _
  · exact Agree.refl _ _

theorem writeFrame_agree {x0} : Agree 5055264 x0 (@writeFrame x0) := by
  unfold writeFrame
  extract_lets +onlyGivenNames v0
  clear_value v0
  split
  · exact Agree.refl _ _
  · extract_lets +onlyGivenNames v1
    clear_value v1
    extract_lets +onlyGivenNames v2
    have hv2 : Agree 5055264 x0 v2 := by
      unfold v2
      refine writeBytes_agree.after rfl ?_
      exact Agree.refl _ _
    clear_value v2
    refine setF_agree.after rfl ?_
    refine Agree.updMk ?_ (Nat.le_refl _) (flashUp_refl _) rfl rfl rfl ⟨rfl, rfl, rfl, rfl, rfl⟩ (fun a h => by cases a <;> first | exact absurd h (by decide) | exact rfl | exact ⟨rfl, rfl⟩)
    assumption

theorem telemNow_agree {x0 x1} : Agree 5055265 x1 (@telemNow x0 x1) := by
  unfold telemNow
  refine Agree.ite ?_ ?_
  · refine reply_agree.after rfl ?_
    exact Agree.refl _ _
  · extract_lets +onlyGivenNames v0
    have hv0 : Agree 5055265 x1 v0 := by
      unfold v0
      refine writeFrame_agree.after rfl ?_
      exact Agree.refl _ _
    clear_value v0
    refine reply_agree.after rfl ?_
    assumption

theorem execTelemNow_agree {x0 x1 t} (h : @execTelemNow x0 x1 = .next t) : Agree 5055265 x1 t := by
  unfold execTelemNow at h
  cases h
  unfold serve
  refine Agree.ite ?_ ?_
  · refine telemNow_agree.after rfl ?_
    exact Agree.refl _ _
  · exact Agree.refl _ _

theorem execAttest_agree {x0 x1 t} (h : @execAttest x0 x1 = .next t) : Agree 5055265 x1 t := by
  unfold execAttest at h
  cases h
  unfold serve
  refine Agree.ite ?_ ?_
  · refine attestService_agree.after rfl ?_
    exact Agree.refl _ _
  · exact Agree.refl _ _

theorem sequencerRecord_agree {x0 x1} : Agree 5054496 x1 (@sequencerRecord x0 x1) := by
  unfold sequencerRecord
  refine Agree.ite ?_ ?_
  · exact Agree.refl _ _
  · extract_lets +onlyGivenNames v0
    clear_value v0
    extract_lets +onlyGivenNames v1
    clear_value v1
    refine Agree.ite ?_ ?_
    · refine Agree.ite ?_ ?_
      · extract_lets +onlyGivenNames v2
        clear_value v2
        extract_lets +onlyGivenNames v3
        have hv3 : Agree 5054496 x1 v3 := by
          unfold v3
          refine logEnter_agree.after rfl ?_
          refine Agree.after (modFrond_agree (fun _ _ h => h)) rfl ?_
          exact Agree.refl _ _
        clear_value v3
        refine finishReply_agree.after rfl ?_
        assumption
      · exact Agree.refl _ _
    · split
      · refine seqPost_agree.after rfl ?_
        exact Agree.refl _ _
      · exact Agree.refl _ _

theorem execSequencerLogRecord_agree {x0 x1 t} (h : @execSequencerLogRecord x0 x1 = .next t) : Agree 5054496 x1 t := by
  unfold execSequencerLogRecord at h
  cases h
  refine sequencerRecord_agree.after rfl ?_
  exact Agree.refl _ _

theorem lichenReply_agree {x0 x1 x2 x3} : Agree 4784160 x3 (@lichenReply x0 x1 x2 x3) := by
  unfold lichenReply
  refine Agree.ite ?_ ?_
  · exact Agree.refl _ _
  · unfold serve
    refine Agree.ite ?_ ?_
    · dsimp -zeta only
      refine finishReply_agree.after rfl ?_
      exact Agree.refl _ _
    · exact Agree.refl _ _

theorem execLichenReply_agree {x0 x1 x2 x3 t} (h : @execLichenReply x0 x1 x2 x3 = .next t) : Agree 4784160 x3 t := by
  unfold execLichenReply at h
  cases h
  refine lichenReply_agree.after rfl ?_
  exact Agree.refl _ _

theorem resetChannel_agree {x0 x1} : Agree 4784160 x0 (@resetChannel x0 x1) := by
  unfold resetChannel
  extract_lets +onlyGivenNames v0
  clear_value v0
  extract_lets +onlyGivenNames v1
  have hv1 : Agree 4784160 x0 v1 := by
    unfold v1
    refine Agree.foldl (fun a2 b3 h4 => ?_) ?_
    · refine setReg_agree.after rfl ?_
      assumption
    · exact Agree.refl _ _
  clear_value v1
  extract_lets +onlyGivenNames v5
  have hv5 : Agree 4784160 x0 v5 := by
    unfold v5
    refine setReg_agree.after rfl ?_
    assumption
  clear_value v5
  extract_lets +onlyGivenNames v6
  clear_value v6
  extract_lets +onlyGivenNames v7
  have hv7 : Agree 4784160 x0 v7 := by
    unfold v7
    refine Agree.updMk ?_ (Nat.le_refl _) (flashUp_refl _) rfl rfl rfl ⟨rfl, rfl, rfl, rfl, rfl⟩ (fun a h => by cases a <;> first | exact absurd h (by decide) | exact rfl | exact ⟨rfl, rfl⟩)
    assumption
  clear_value v7
  refine Agree.ite ?_ ?_
  · refine raiseCause_agree.after rfl ?_
    assumption
  · refine Agree.ite ?_ ?_
    · refine sendMsg_agree.after rfl ?_
      assumption
    · assumption

theorem mailboxReset_agree {x0 x1 x2} : Agree 4784160 x2 (@mailboxReset x0 x1 x2) := by
  unfold mailboxReset
  refine Agree.ite ?_ ?_
  · refine resetChannel_agree.after rfl ?_
    exact Agree.refl _ _
  · exact Agree.refl _ _

theorem execMailboxReset_agree {x0 x1 x2 t} (h : @execMailboxReset x0 x1 x2 = .next t) : Agree 4784160 x2 t := by
  unfold execMailboxReset at h
  cases h
  refine mailboxReset_agree.after rfl ?_
  exact Agree.refl _ _

theorem lichenSleep_agree {x0 x1} : Agree 524304 x1 (@lichenSleep x0 x1) := by
  unfold lichenSleep
  extract_lets +onlyGivenNames v0
  have hv0 : Agree 524304 x1 v0 := by
    unfold v0
    refine advance_agree.after rfl ?_
    exact Agree.refl _ _
  clear_value v0
  refine Agree.ite ?_ ?_
  · refine Agree.updMk ?_ (Nat.le_refl _) (flashUp_refl _) rfl rfl rfl ⟨rfl, rfl, rfl, rfl, rfl⟩ (fun a h => by cases a <;> first | exact absurd h (by decide) | exact rfl | exact ⟨rfl, rfl⟩)
    assumption
  · assumption

theorem execLichenSleep_agree {x0 x1 t} (h : @execLichenSleep x0 x1 = .next t) : Agree 524304 x1 t := by
  unfold execLichenSleep at h
  cases h
  refine lichenSleep_agree.after rfl ?_
  exact Agree.refl _ _

theorem lichenWake_agree {x0} : Agree 524320 x0 (@lichenWake x0) := by
  unfold lichenWake
  extract_lets +onlyGivenNames v0
  split
  · refine Agree.ite ?_ ?_
    · unfold v0
      refine worked_agree.after rfl ?_
      refine Agree.updMk ?_ (Nat.le_refl _) (flashUp_refl _) rfl rfl rfl ⟨rfl, rfl, rfl, rfl, rfl⟩ (fun a h => by cases a <;> first | exact absurd h (by decide) | exact rfl | exact ⟨rfl, rfl⟩)
      refine bump_agree.after rfl ?_
      exact Agree.refl _ _
    · exact Agree.refl _ _
  · unfold v0
    refine worked_agree.after rfl ?_
    refine Agree.updMk ?_ (Nat.le_refl _) (flashUp_refl _) rfl rfl rfl ⟨rfl, rfl, rfl, rfl, rfl⟩ (fun a h => by cases a <;> first | exact absurd h (by decide) | exact rfl | exact ⟨rfl, rfl⟩)
    exact Agree.refl _ _
  · exact Agree.refl _ _

theorem execLichenWake_agree {x0 x1 t} (h : @execLichenWake x0 x1 = .next t) : Agree 524320 x1 t := by
  unfold execLichenWake at h
  cases h
  refine lichenWake_agree.after rfl ?_
  exact Agree.refl _ _

theorem lichenReset_agree {x0 x1} : Agree 5190433 x0 (@lichenReset x0 x1) := by
  unfold lichenReset
  extract_lets +onlyGivenNames v0
  have hv0 : Agree 5190433 x0 v0 := by
    unfold v0
    refine abortLichenWork_agree.after rfl ?_
    refine abortCheck_agree.after rfl ?_
    refine Agree.foldl (fun a1 b2 h3 => ?_) ?_
    · refine resetChannel_agree.after rfl ?_
      assumption
    · exact Agree.refl _ _
  clear_value v0
  extract_lets +onlyGivenNames v4
  clear_value v4
  extract_lets +onlyGivenNames v5
  have hv5 : Agree 5190433 x0 v5 := by
    unfold v5
    refine Agree.ite ?_ ?_
    · refine setF_agree.after rfl ?_
      refine setF_agree.after rfl ?_
      refine Agree.updMk ?_ (Nat.le_refl _) (flashUp_refl _) rfl rfl rfl ⟨rfl, rfl, rfl, rfl, rfl⟩ (fun a h => by cases a <;> first | exact absurd h (by decide) | exact rfl | exact ⟨rfl, rfl⟩)
      assumption
    · refine Agree.updMk ?_ (Nat.le_refl _) (flashUp_refl _) rfl rfl rfl ⟨rfl, rfl, rfl, rfl, rfl⟩ (fun a h => by cases a <;> first | exact absurd h (by decide) | exact rfl | exact ⟨rfl, rfl⟩)
      assumption
  clear_value v5
  extract_lets +onlyGivenNames v6
  have hv6 : Agree 5190433 x0 v6 := by
    unfold v6
    refine logEvent_agree.after rfl ?_
    refine bump_agree.after rfl ?_
    refine Agree.updMk ?_ (Nat.le_succ _) (flashUp_refl _) rfl rfl rfl ⟨rfl, rfl, rfl, rfl, rfl⟩ (fun a h => by cases a <;> first | exact absurd h (by decide) | exact rfl | exact ⟨rfl, rfl⟩)
    assumption
  clear_value v6
  refine raiseCause_agree.after rfl ?_
  assumption

theorem watchdog_agree {x0 x1 x2} : Agree 5190449 x2 (@watchdog x0 x1 x2) := by
  unfold watchdog
  extract_lets +onlyGivenNames v0
  have hv0 : Agree 5190449 x2 v0 := by
    unfold v0
    refine advance_agree.after rfl ?_
    exact Agree.refl _ _
  clear_value v0
  refine Agree.ite ?_ ?_
  · refine Agree.ite ?_ ?_
    · refine lichenReset_agree.after rfl ?_
      assumption
    · refine Agree.ite ?_ ?_
      · refine lichenReset_agree.after rfl ?_
        assumption
      · assumption
  · assumption

theorem execWatchdog_agree {x0 x1 x2 t} (h : @execWatchdog x0 x1 x2 = .next t) : Agree 5190449 x2 t := by
  unfold execWatchdog at h
  cases h
  refine watchdog_agree.after rfl ?_
  exact Agree.refl _ _

theorem flushOne_agree {x0} : Agree 786464 x0 (@flushOne x0) := by
  unfold flushOne
  split
  · exact Agree.refl _ _
  · extract_lets +onlyGivenNames v0
    clear_value v0
    refine Agree.ite ?_ ?_
    · refine bump_agree.after rfl ?_
      refine Agree.updMk ?_ (Nat.le_refl _) (flashUp_refl _) rfl rfl rfl ⟨rfl, rfl, rfl, rfl, rfl⟩ (fun a h => by cases a <;> first | exact absurd h (by decide) | exact rfl | exact ⟨rfl, rfl⟩)
      exact Agree.refl _ _
    · exact Agree.refl _ _

theorem logFlush_agree {x0} : Agree 786464 x0 (@logFlush x0) := by
  unfold logFlush
  refine Agree.ite ?_ ?_
  · refine worked_agree.after rfl ?_
    refine setLogRegs_agree.after rfl ?_
    refine Agree.foldl (fun a0 b1 h2 => ?_) ?_
    · refine flushOne_agree.after rfl ?_
      assumption
    · exact Agree.refl _ _
  · exact Agree.refl _ _

theorem execLogFlush_agree {x0 t} (h : @execLogFlush x0 = .next t) : Agree 786464 x0 t := by
  unfold execLogFlush at h
  cases h
  refine logFlush_agree.after rfl ?_
  exact Agree.refl _ _

theorem logErase_agree {x0} : Agree 262176 x0 (@logErase x0) := by
  unfold logErase
  extract_lets +onlyGivenNames v0
  clear_value v0
  refine Agree.ite ?_ ?_
  · refine setLogRegs_agree.after rfl ?_
    refine Agree.updMk ?_ (Nat.le_refl _) ⟨Nat.le_refl _, Nat.le_refl _, Nat.le_refl _, Nat.le_refl _, Nat.le_refl _, Nat.le_succ _, Nat.le_refl _⟩ rfl rfl rfl ⟨rfl, rfl, rfl, rfl, rfl⟩ (fun a h => by cases a <;> first | exact absurd h (by decide) | exact rfl | exact ⟨rfl, rfl⟩)
    exact Agree.refl _ _
  · exact Agree.refl _ _

theorem execLogErase_agree {x0 t} (h : @execLogErase x0 = .next t) : Agree 262176 x0 t := by
  unfold execLogErase at h
  cases h
  refine logErase_agree.after rfl ?_
  exact Agree.refl _ _

theorem telemetryFrame_agree {x0} : Agree 5055264 x0 (@telemetryFrame x0) := by
  unfold telemetryFrame
  refine Agree.ite ?_ ?_
  · refine writeFrame_agree.after rfl ?_
    refine wakeLichen_agree.after rfl ?_
    exact Agree.refl _ _
  · exact Agree.refl _ _

theorem execTelemetryFrame_agree {x0 t} (h : @execTelemetryFrame x0 = .next t) : Agree 5055264 x0 t := by
  unfold execTelemetryFrame at h
  cases h
  refine telemetryFrame_agree.after rfl ?_
  exact Agree.refl _ _

theorem sensorCalibration_agree {x0} : Agree 524320 x0 (@sensorCalibration x0) := by
  unfold sensorCalibration
  refine Agree.ite ?_ ?_
  · refine wakeLichen_agree.after rfl ?_
    refine Agree.updMk ?_ (Nat.le_refl _) (flashUp_refl _) rfl rfl rfl ⟨rfl, rfl, rfl, rfl, rfl⟩ (fun a h => by cases a <;> first | exact absurd h (by decide) | exact rfl | exact ⟨rfl, rfl⟩)
    exact Agree.refl _ _
  · exact Agree.refl _ _

theorem execSensorCalibration_agree {x0 t} (h : @execSensorCalibration x0 = .next t) : Agree 524320 x0 t := by
  unfold execSensorCalibration at h
  cases h
  refine sensorCalibration_agree.after rfl ?_
  exact Agree.refl _ _

theorem serdesCalibration_agree {x0} : Agree 524320 x0 (@serdesCalibration x0) := by
  unfold serdesCalibration
  extract_lets +onlyGivenNames v0
  clear_value v0
  split
  · refine Agree.ite ?_ ?_
    · refine wakeLichen_agree.after rfl ?_
      refine Agree.updMk ?_ (Nat.le_refl _) (flashUp_refl _) rfl rfl rfl ⟨rfl, rfl, rfl, rfl, rfl⟩ (fun a h => by cases a <;> first | exact absurd h (by decide) | exact rfl | exact ⟨rfl, rfl⟩)
      exact Agree.refl _ _
    · exact Agree.refl _ _
  · exact Agree.refl _ _

theorem execSerdesCalibration_agree {x0 t} (h : @execSerdesCalibration x0 = .next t) : Agree 524320 x0 t := by
  unfold execSerdesCalibration at h
  cases h
  refine serdesCalibration_agree.after rfl ?_
  exact Agree.refl _ _

end Sys2Proof.Laws
end

