-- ==== Sys2Proof/Laws/AgreeSecurity.lean ====
section
/-! SUPPORT. What the operations of Machine/Security.lean leave alone: for each, the areas it may change, as the bits of a mask in
the numbering of `Area.idx`. -/

namespace Sys2Proof.Laws

open Sys2Proof Sys2Proof.Machine Sys2Proof.Safety Sys2Proof.Frame

theorem setDebug_agree {x0 x1} : Agree 1048576 x0 (@setDebug x0 x1) := by
  unfold setDebug
  refine Agree.updMk ?_ (Nat.le_refl _) (flashUp_refl _) rfl rfl rfl ⟨rfl, rfl, rfl, rfl, rfl⟩ (fun a h => by cases a <;> first | exact absurd h (by decide) | exact rfl | exact ⟨rfl, rfl⟩)
  exact Agree.refl _ _

theorem boundaryScan_agree {x0 x1} : Agree 1048577 x1 (@boundaryScan x0 x1) := by
  unfold boundaryScan
  refine setDebug_agree.after rfl ?_
  refine Agree.updMk ?_ (Nat.le_succ _) (flashUp_refl _) rfl rfl rfl ⟨rfl, rfl, rfl, rfl, rfl⟩ (fun a h => by cases a <;> first | exact absurd h (by decide) | exact rfl | exact ⟨rfl, rfl⟩)
  exact Agree.refl _ _

theorem bypassScan_agree {x0 x1} : Agree 1048576 x1 (@bypassScan x0 x1) := by
  unfold bypassScan
  refine setDebug_agree.after rfl ?_
  exact Agree.refl _ _

theorem dbgChallenge_agree {x0} : Agree 1048577 x0 (@dbgChallenge x0) := by
  unfold dbgChallenge
  refine Agree.ite ?_ ?_
  · extract_lets +onlyGivenNames v0
    clear_value v0
    refine setDebug_agree.after rfl ?_
    refine Agree.updMk ?_ (Nat.le_succ _) (flashUp_refl _) rfl rfl rfl ⟨rfl, rfl, rfl, rfl, rfl⟩ (fun a h => by cases a <;> first | exact absurd h (by decide) | exact rfl | exact ⟨rfl, rfl⟩)
    exact Agree.refl _ _
  · exact Agree.refl _ _

theorem dbgDone_agree {x0 x1} : Agree 1048576 x1 (@dbgDone x0 x1) := by
  unfold dbgDone
  refine setDebug_agree.after rfl ?_
  exact Agree.refl _ _

theorem dbgResult_agree {x0 x1} : Agree 1048576 x1 (@dbgResult x0 x1) := by
  unfold dbgResult
  refine dbgDone_agree.after rfl ?_
  refine setDebug_agree.after rfl ?_
  exact Agree.refl _ _

theorem dbgReadAt_agree {x0 x1 x2} : Agree 6234849 x2 (@dbgReadAt x0 x1 x2) := by
  unfold dbgReadAt
  split
  · extract_lets +onlyGivenNames v0
    have hv0 : Agree 6234849 x2 v0 := by
      unfold v0
      refine ctlReadAt_agree.after rfl ?_
      exact Agree.refl _ _
    clear_value v0
    refine dbgResult_agree.after rfl ?_
    assumption
  · extract_lets +onlyGivenNames v1
    clear_value v1
    refine Agree.ite ?_ ?_
    · extract_lets +onlyGivenNames v2
      have hv2 : Agree 6234849 x2 v2 := by
        unfold v2
        refine readUnits_agree.after rfl ?_
        exact Agree.refl _ _
      clear_value v2
      refine dbgResult_agree.after rfl ?_
      assumption
    · refine dbgDone_agree.after rfl ?_
      exact Agree.refl _ _
  · refine dbgResult_agree.after rfl ?_
    exact Agree.refl _ _

theorem renewIdentity_agree {x0} : Agree 262176 x0 (@renewIdentity x0) := by
  unfold renewIdentity
  refine setF_agree.after rfl ?_
  refine Agree.updMk ?_ (Nat.le_refl _) ⟨Nat.le_refl _, Nat.le_refl _, Nat.le_refl _, Nat.le_refl _, Nat.le_refl _, Nat.le_refl _, Nat.le_succ _⟩ rfl rfl rfl ⟨rfl, rfl, rfl, rfl, rfl⟩ (fun a h => by cases a <;> first | exact absurd h (by decide) | exact rfl | exact ⟨rfl, rfl⟩)
  exact Agree.refl _ _

theorem openStates_agree {x0} : Agree 5075747 x0 (@openStates x0) := by
  unfold openStates
  extract_lets +onlyGivenNames v0
  have hv0 : Agree 5075747 x0 v0 := by
    unfold v0
    refine abortLichenWork_agree.after rfl ?_
    exact Agree.refl _ _
  clear_value v0
  refine Agree.ite ?_ ?_
  · refine Agree.foldl (fun a1 b2 h3 => ?_) ?_
    · refine Agree.ite ?_ ?_
      · refine enterFaulted_agree.after rfl ?_
        assumption
      · assumption
    · refine Agree.updMk ?_ (Nat.le_refl _) (flashUp_refl _) rfl rfl rfl ⟨rfl, rfl, rfl, rfl, rfl⟩ (fun a h => by cases a <;> first | exact absurd h (by decide) | exact rfl | exact ⟨rfl, rfl⟩)
      assumption
  · assumption

theorem openPort_agree {x0} : Agree 6124323 x0 (@openPort x0) := by
  unfold openPort
  extract_lets +onlyGivenNames v0
  clear_value v0
  extract_lets +onlyGivenNames v1
  have hv1 : Agree 6124323 x0 v1 := by
    unfold v1
    refine renewIdentity_agree.after rfl ?_
    refine openStates_agree.after rfl ?_
    exact Agree.refl _ _
  clear_value v1
  extract_lets +onlyGivenNames v2
  extract_lets +onlyGivenNames v3
  have hv3 : Agree 6124323 x0 v3 := by
    unfold v3
    refine showSecurity_agree.after rfl ?_
    refine setDebug_agree.after rfl ?_
    refine Agree.updMk ?_ (Nat.le_refl _) (flashUp_refl _) rfl rfl rfl ⟨rfl, rfl, rfl, rfl, rfl⟩ (fun a h => by cases a <;> first | exact absurd h (by decide) | exact rfl | exact ⟨rfl, rfl⟩)
    assumption
  clear_value v3
  refine raiseCause_agree.after rfl ?_
  refine logEvent_agree.after rfl ?_
  refine setF_agree.after rfl ?_
  assumption

theorem rejectToken_agree {x0} : Agree 5046304 x0 (@rejectToken x0) := by
  unfold rejectToken
  extract_lets +onlyGivenNames v0
  clear_value v0
  extract_lets +onlyGivenNames v1
  have hv1 : Agree 5046304 x0 v1 := by
    unfold v1
    refine setF_agree.after rfl ?_
    exact Agree.refl _ _
  clear_value v1
  extract_lets +onlyGivenNames v2
  have hv2 : Agree 5046304 x0 v2 := by
    unfold v2
    refine Agree.ite ?_ ?_
    · refine setF_agree.after rfl ?_
      assumption
    · assumption
  clear_value v2
  refine raiseCause_agree.after rfl ?_
  refine raiseCause_agree.after rfl ?_
  refine logEvent_agree.after rfl ?_
  assumption

theorem dbgUnlock_agree {x0 x1 x2} : Agree 6124323 x2 (@dbgUnlock x0 x1 x2) := by
  unfold dbgUnlock
  refine Agree.ite ?_ ?_
  · exact Agree.refl _ _
  · extract_lets +onlyGivenNames v0
    clear_value v0
    extract_lets +onlyGivenNames v1
    have hv1 : Agree 6124323 x2 v1 := by
      unfold v1
      refine setDebug_agree.after rfl ?_
      exact Agree.refl _ _
    clear_value v1
    refine Agree.ite ?_ ?_
    · refine openPort_agree.after rfl ?_
      assumption
    · refine rejectToken_agree.after rfl ?_
      assumption

theorem dbgWriteAt_agree {x0 x1 x2} : Agree 6271905 x2 (@dbgWriteAt x0 x1 x2) := by
  unfold dbgWriteAt
  extract_lets +onlyGivenNames v0
  clear_value v0
  split
  · refine dbgDone_agree.after rfl ?_
    refine ctlWriteAt_agree.after rfl ?_
    exact Agree.refl _ _
  · extract_lets +onlyGivenNames v1
    clear_value v1
    refine Agree.ite ?_ ?_
    · refine dbgDone_agree.after rfl ?_
      refine writeBytes_agree.after rfl ?_
      exact Agree.refl _ _
    · refine dbgDone_agree.after rfl ?_
      exact Agree.refl _ _
  · refine dbgDone_agree.after rfl ?_
    refine setDebug_agree.after rfl ?_
    exact Agree.refl _ _

theorem provisioned_agree {x0} : Agree 5046304 x0 (@provisioned x0) := by
  unfold provisioned
  refine raiseCause_agree.after rfl ?_
  refine logEvent_agree.after rfl ?_
  refine showSecurity_agree.after rfl ?_
  exact Agree.refl _ _

theorem provision_agree {x0 x1 x2} : Agree 5055009 x2 (@provision x0 x1 x2) := by
  unfold provision
  extract_lets +onlyGivenNames v0
  clear_value v0
  split
  · refine reply_agree.after rfl ?_
    exact Agree.refl _ _
  · extract_lets +onlyGivenNames v1
    clear_value v1
    extract_lets +onlyGivenNames v2
    have hv2 : Agree 5055009 x2 v2 := by
      unfold v2
      refine readUnits_agree.after rfl ?_
      exact Agree.refl _ _
    clear_value v2
    refine Agree.ite ?_ ?_
    · refine reply_agree.after rfl ?_
      refine provisioned_agree.after rfl ?_
      refine Agree.updMk ?_ (Nat.le_refl _) (flashUp_refl _) rfl rfl rfl ⟨rfl, rfl, rfl, rfl, rfl⟩ (fun a h => by cases a <;> first | exact absurd h (by decide) | exact rfl | exact ⟨rfl, rfl⟩)
      assumption
    · refine reply_agree.after rfl ?_
      refine sigFail_agree.after rfl ?_
      assumption

theorem execProvision_agree {x0 x1 x2 t} (h : @execProvision x0 x1 x2 = .next t) : Agree 5055009 x2 t := by
  unfold execProvision at h
  cases h
  unfold hostService
  unfold serve
  refine Agree.ite ?_ ?_
  · dsimp -zeta only
    refine Agree.ite ?_ ?_
    · refine provision_agree.after rfl ?_
      exact Agree.refl _ _
    · refine reply_agree.after rfl ?_
      exact Agree.refl _ _
  · exact Agree.refl _ _

theorem ownerKeyService_agree {x0 x1 x2} : Agree 5055009 x2 (@ownerKeyService x0 x1 x2) := by
  unfold ownerKeyService
  extract_lets +onlyGivenNames v0
  clear_value v0
  extract_lets +onlyGivenNames v1
  clear_value v1
  split
  · refine reply_agree.after rfl ?_
    exact Agree.refl _ _
  · extract_lets +onlyGivenNames v2
    have hv2 : Agree 5055009 x2 v2 := by
      unfold v2
      refine readUnits_agree.after rfl ?_
      exact Agree.refl _ _
    clear_value v2
    refine Agree.ite ?_ ?_
    · refine reply_agree.after rfl ?_
      refine provisioned_agree.after rfl ?_
      refine Agree.updMk ?_ (Nat.le_refl _) (flashUp_refl _) rfl rfl rfl ⟨rfl, rfl, rfl, rfl, rfl⟩ (fun a h => by cases a <;> first | exact absurd h (by decide) | exact rfl | exact ⟨rfl, rfl⟩)
      assumption
    · refine reply_agree.after rfl ?_
      refine sigFail_agree.after rfl ?_
      assumption

theorem execOwnerKey_agree {x0 x1 x2 t} (h : @execOwnerKey x0 x1 x2 = .next t) : Agree 5055009 x2 t := by
  unfold execOwnerKey at h
  cases h
  unfold hostService
  unfold serve
  refine Agree.ite ?_ ?_
  · dsimp -zeta only
    refine Agree.ite ?_ ?_
    · refine ownerKeyService_agree.after rfl ?_
      exact Agree.refl _ _
    · refine reply_agree.after rfl ?_
      exact Agree.refl _ _
  · exact Agree.refl _ _

theorem sealService_agree {x0 x1} : Agree 5046305 x1 (@sealService x0 x1) := by
  unfold sealService
  extract_lets +onlyGivenNames v0
  clear_value v0
  refine Agree.ite ?_ ?_
  · refine reply_agree.after rfl ?_
    exact Agree.refl _ _
  · refine Agree.ite ?_ ?_
    · refine reply_agree.after rfl ?_
      exact Agree.refl _ _
    · extract_lets +onlyGivenNames v1
      clear_value v1
      extract_lets +onlyGivenNames v2
      clear_value v2
      extract_lets +onlyGivenNames v3
      extract_lets +onlyGivenNames v4
      have hv4 : Agree 5046305 x1 v4 := by
        unfold v4
        refine Agree.updMk ?_ (Nat.le_refl _) (flashUp_refl _) rfl rfl rfl ⟨rfl, rfl, rfl, rfl, rfl⟩ (fun a h => by cases a <;> first | exact absurd h (by decide) | exact rfl | exact ⟨rfl, rfl⟩)
        exact Agree.refl _ _
      clear_value v4
      refine reply_agree.after rfl ?_
      refine showSecurity_agree.after rfl ?_
      assumption

theorem execSealSecret_agree {x0 x1 t} (h : @execSealSecret x0 x1 = .next t) : Agree 5046305 x1 t := by
  unfold execSealSecret at h
  cases h
  unfold hostService
  unfold serve
  refine Agree.ite ?_ ?_
  · dsimp -zeta only
    refine Agree.ite ?_ ?_
    · refine sealService_agree.after rfl ?_
      exact Agree.refl _ _
    · refine reply_agree.after rfl ?_
      exact Agree.refl _ _
  · exact Agree.refl _ _

theorem unsealService_agree {x0 x1} : Agree 5055265 x1 (@unsealService x0 x1) := by
  unfold unsealService
  extract_lets +onlyGivenNames v0
  clear_value v0
  refine Agree.ite ?_ ?_
  · refine reply_agree.after rfl ?_
    exact Agree.refl _ _
  · split
    · refine reply_agree.after rfl ?_
      exact Agree.refl _ _
    · split
      · refine reply_agree.after rfl ?_
        exact Agree.refl _ _
      · refine Agree.ite ?_ ?_
        · refine reply_agree.after rfl ?_
          refine writeBytes_agree.after rfl ?_
          exact Agree.refl _ _
        · refine reply_agree.after rfl ?_
          exact Agree.refl _ _

theorem execUnsealSecret_agree {x0 x1 t} (h : @execUnsealSecret x0 x1 = .next t) : Agree 5055265 x1 t := by
  unfold execUnsealSecret at h
  cases h
  unfold hostService
  unfold serve
  refine Agree.ite ?_ ?_
  · dsimp -zeta only
    refine Agree.ite ?_ ?_
    · refine unsealService_agree.after rfl ?_
      exact Agree.refl _ _
    · refine reply_agree.after rfl ?_
      exact Agree.refl _ _
  · exact Agree.refl _ _

theorem execDbgChallenge_agree {x0 t} (h : @execDbgChallenge x0 = .next t) : Agree 1048577 x0 t := by
  unfold execDbgChallenge at h
  cases h
  refine dbgChallenge_agree.after rfl ?_
  exact Agree.refl _ _

theorem execDbgUnlock_agree {x0 x1 x2 t} (h : @execDbgUnlock x0 x1 x2 = .next t) : Agree 6124323 x2 t := by
  unfold execDbgUnlock at h
  cases h
  refine dbgUnlock_agree.after rfl ?_
  exact Agree.refl _ _

theorem execDbgSel_agree {x0 x1 t} (h : @execDbgSel x0 x1 = .next t) : Agree 1048576 x1 t := by
  unfold execDbgSel at h
  cases h
  unfold openScan
  refine Agree.ite ?_ ?_
  · exact Agree.refl _ _
  · refine Agree.ite ?_ ?_
    · dsimp -zeta only
      refine setDebug_agree.after rfl ?_
      exact Agree.refl _ _
    · refine bypassScan_agree.after rfl ?_
      exact Agree.refl _ _

theorem execDbgData_agree {x0 x1 x2 t} (h : @execDbgData x0 x1 x2 = .next t) : Agree 1048576 x2 t := by
  unfold execDbgData at h
  cases h
  unfold openScan
  refine Agree.ite ?_ ?_
  · exact Agree.refl _ _
  · refine Agree.ite ?_ ?_
    · dsimp -zeta only
      refine setDebug_agree.after rfl ?_
      exact Agree.refl _ _
    · refine bypassScan_agree.after rfl ?_
      exact Agree.refl _ _

theorem setLichenHalt_agree {x0 x1} : Agree 524288 x1 (@setLichenHalt x0 x1) := by
  unfold setLichenHalt
  refine Agree.updMk ?_ (Nat.le_refl _) (flashUp_refl _) rfl rfl rfl ⟨rfl, rfl, rfl, rfl, rfl⟩ (fun a h => by cases a <;> first | exact absurd h (by decide) | exact rfl | exact ⟨rfl, rfl⟩)
  exact Agree.refl _ _

theorem execHalt_agree {x0 t} (h : @execHalt x0 = .next t) : Agree 1572864 x0 t := by
  unfold execHalt at h
  cases h
  unfold dbgCmd
  unfold openScan
  refine Agree.ite ?_ ?_
  · exact Agree.refl _ _
  · refine Agree.ite ?_ ?_
    · dsimp -zeta only
      refine Agree.ite ?_ ?_
      · refine dbgDone_agree.after rfl ?_
        refine setLichenHalt_agree.after rfl ?_
        exact Agree.refl _ _
      · refine Agree.ite ?_ ?_
        · refine dbgDone_agree.after rfl ?_
          refine setDebug_agree.after rfl ?_
          exact Agree.refl _ _
        · refine dbgDone_agree.after rfl ?_
          exact Agree.refl _ _
    · refine bypassScan_agree.after rfl ?_
      exact Agree.refl _ _

theorem execRun_agree {x0 t} (h : @execRun x0 = .next t) : Agree 1572864 x0 t := by
  unfold execRun at h
  cases h
  unfold dbgCmd
  unfold openScan
  refine Agree.ite ?_ ?_
  · exact Agree.refl _ _
  · refine Agree.ite ?_ ?_
    · dsimp -zeta only
      refine Agree.ite ?_ ?_
      · refine dbgDone_agree.after rfl ?_
        refine setLichenHalt_agree.after rfl ?_
        exact Agree.refl _ _
      · refine Agree.ite ?_ ?_
        · refine dbgDone_agree.after rfl ?_
          refine setDebug_agree.after rfl ?_
          exact Agree.refl _ _
        · refine dbgDone_agree.after rfl ?_
          exact Agree.refl _ _
    · refine bypassScan_agree.after rfl ?_
      exact Agree.refl _ _

theorem execStep_agree {x0 t} (h : @execStep x0 = .next t) : Agree 1048576 x0 t := by
  unfold execStep at h
  cases h
  unfold dbgCmd
  unfold openScan
  refine Agree.ite ?_ ?_
  · exact Agree.refl _ _
  · refine Agree.ite ?_ ?_
    · dsimp -zeta only
      refine Agree.ite ?_ ?_
      · refine dbgDone_agree.after rfl ?_
        exact Agree.refl _ _
      · refine Agree.ite ?_ ?_
        · refine dbgDone_agree.after rfl ?_
          refine setDebug_agree.after rfl ?_
          exact Agree.refl _ _
        · refine dbgDone_agree.after rfl ?_
          exact Agree.refl _ _
    · refine bypassScan_agree.after rfl ?_
      exact Agree.refl _ _

theorem execBpSet_agree {x0 x1 x2 t} (h : @execBpSet x0 x1 x2 = .next t) : Agree 1048576 x2 t := by
  unfold execBpSet at h
  cases h
  unfold dbgCmd
  unfold openScan
  refine Agree.ite ?_ ?_
  · exact Agree.refl _ _
  · refine Agree.ite ?_ ?_
    · dsimp -zeta only
      refine Agree.ite ?_ ?_
      · refine dbgDone_agree.after rfl ?_
        refine setDebug_agree.after rfl ?_
        exact Agree.refl _ _
      · refine Agree.ite ?_ ?_
        · refine Agree.ite ?_ ?_
          · refine dbgDone_agree.after rfl ?_
            exact Agree.refl _ _
          · refine dbgDone_agree.after rfl ?_
            refine setDebug_agree.after rfl ?_
            exact Agree.refl _ _
        · refine dbgDone_agree.after rfl ?_
          exact Agree.refl _ _
    · refine bypassScan_agree.after rfl ?_
      exact Agree.refl _ _

theorem execBpClr_agree {x0 x1 t} (h : @execBpClr x0 x1 = .next t) : Agree 1048576 x1 t := by
  unfold execBpClr at h
  cases h
  unfold dbgCmd
  unfold openScan
  refine Agree.ite ?_ ?_
  · exact Agree.refl _ _
  · refine Agree.ite ?_ ?_
    · dsimp -zeta only
      refine Agree.ite ?_ ?_
      · refine dbgDone_agree.after rfl ?_
        refine setDebug_agree.after rfl ?_
        exact Agree.refl _ _
      · refine Agree.ite ?_ ?_
        · refine dbgDone_agree.after rfl ?_
          refine setDebug_agree.after rfl ?_
          exact Agree.refl _ _
        · refine dbgDone_agree.after rfl ?_
          exact Agree.refl _ _
    · refine bypassScan_agree.after rfl ?_
      exact Agree.refl _ _

theorem execDbgRead_agree {x0 x1 x2 t} (h : @execDbgRead x0 x1 x2 = .next t) : Agree 6234849 x2 t := by
  unfold execDbgRead at h
  cases h
  unfold dbgCmd
  unfold openScan
  refine Agree.ite ?_ ?_
  · exact Agree.refl _ _
  · refine Agree.ite ?_ ?_
    · dsimp -zeta only
      refine Agree.ite ?_ ?_
      · refine dbgReadAt_agree.after rfl ?_
        exact Agree.refl _ _
      · refine Agree.ite ?_ ?_
        · refine dbgReadAt_agree.after rfl ?_
          exact Agree.refl _ _
        · refine dbgDone_agree.after rfl ?_
          exact Agree.refl _ _
    · refine bypassScan_agree.after rfl ?_
      exact Agree.refl _ _

theorem execDbgWrite_agree {x0 x1 x2 t} (h : @execDbgWrite x0 x1 x2 = .next t) : Agree 6271905 x2 t := by
  unfold execDbgWrite at h
  cases h
  unfold dbgCmd
  unfold openScan
  refine Agree.ite ?_ ?_
  · exact Agree.refl _ _
  · refine Agree.ite ?_ ?_
    · dsimp -zeta only
      refine Agree.ite ?_ ?_
      · refine dbgWriteAt_agree.after rfl ?_
        exact Agree.refl _ _
      · refine Agree.ite ?_ ?_
        · refine dbgWriteAt_agree.after rfl ?_
          exact Agree.refl _ _
        · refine dbgDone_agree.after rfl ?_
          exact Agree.refl _ _
    · refine bypassScan_agree.after rfl ?_
      exact Agree.refl _ _

theorem execExtest_agree {x0 x1 t} (h : @execExtest x0 x1 = .next t) : Agree 1048577 x1 t := by
  unfold execExtest at h
  cases h
  unfold openScan
  refine Agree.ite ?_ ?_
  · exact Agree.refl _ _
  · refine Agree.ite ?_ ?_
    · dsimp -zeta only
      refine setDebug_agree.after rfl ?_
      refine boundaryScan_agree.after rfl ?_
      exact Agree.refl _ _
    · refine bypassScan_agree.after rfl ?_
      exact Agree.refl _ _

theorem execSamplePreload_agree {x0 x1 t} (h : @execSamplePreload x0 x1 = .next t) : Agree 1048577 x1 t := by
  unfold execSamplePreload at h
  cases h
  refine Agree.ite ?_ ?_
  · refine boundaryScan_agree.after rfl ?_
    exact Agree.refl _ _
  · exact Agree.refl _ _

theorem execIdcode_agree {x0 t} (h : @execIdcode x0 = .next t) : Agree 1048576 x0 t := by
  unfold execIdcode at h
  cases h
  refine Agree.ite ?_ ?_
  · refine setDebug_agree.after rfl ?_
    exact Agree.refl _ _
  · exact Agree.refl _ _

theorem execBypass_agree {x0 x1 t} (h : @execBypass x0 x1 = .next t) : Agree 1048576 x1 t := by
  unfold execBypass at h
  cases h
  refine Agree.ite ?_ ?_
  · refine bypassScan_agree.after rfl ?_
    exact Agree.refl _ _
  · exact Agree.refl _ _

end Sys2Proof.Laws
end

