-- ==== Sys2Proof/Laws/AgreePower.lean ====
section
/-! SUPPORT. What the operations of Machine/Power.lean leave alone: for each, the areas it may change, as the bits of a mask in
the numbering of `Area.idx`. -/

namespace Sys2Proof.Laws

open Sys2Proof Sys2Proof.Machine Sys2Proof.Safety Sys2Proof.Frame

theorem clockGate_agree {x0 x1} : Agree 8192 x1 (@clockGate x0 x1) := by
  unfold clockGate
  refine Agree.ite ?_ ?_
  · refine Agree.after (modFrond_agree (fun _ _ h => h)) rfl ?_
    exact Agree.refl _ _
  · exact Agree.refl _ _

theorem validSample_agree {x0 x1} : Agree 524288 x1 (@validSample x0 x1) := by
  unfold validSample
  refine Agree.updMk ?_ (Nat.le_refl _) (flashUp_refl _) rfl rfl rfl ⟨rfl, rfl, rfl, rfl, rfl⟩ (fun a h => by cases a <;> first | exact absurd h (by decide) | exact rfl | exact ⟨rfl, rfl⟩)
  exact Agree.refl _ _

theorem setPower_agree {x0 x1} : Agree 2097152 x0 (@setPower x0 x1) := by
  unfold setPower
  refine Agree.updMk ?_ (Nat.le_refl _) (flashUp_refl _) rfl rfl rfl ⟨rfl, rfl, rfl, rfl, rfl⟩ (fun a h => by cases a <;> first | exact absurd h (by decide) | exact rfl | exact ⟨rfl, rfl⟩)
  exact Agree.refl _ _

theorem coolantSample_agree {x0 x1 x2 x3} : Agree 7143456 x3 (@coolantSample x0 x1 x2 x3) := by
  unfold coolantSample
  refine Agree.ite ?_ ?_
  · exact Agree.refl _ _
  · extract_lets +onlyGivenNames v0
    clear_value v0
    extract_lets +onlyGivenNames v1
    clear_value v1
    extract_lets +onlyGivenNames v2
    clear_value v2
    extract_lets +onlyGivenNames v3
    have hv3 : Agree 7143456 x3 v3 := by
      unfold v3
      refine validSample_agree.after rfl ?_
      refine validSample_agree.after rfl ?_
      refine validSample_agree.after rfl ?_
      exact Agree.refl _ _
    clear_value v3
    extract_lets +onlyGivenNames v4
    have hv4 : Agree 7143456 x3 v4 := by
      unfold v4
      refine setF_agree.after rfl ?_
      refine setF_agree.after rfl ?_
      refine setF_agree.after rfl ?_
      refine setF_agree.after rfl ?_
      assumption
    clear_value v4
    extract_lets +onlyGivenNames v5
    have hv5 : Agree 7143456 x3 v5 := by
      unfold v5
      refine setPower_agree.after rfl ?_
      assumption
    clear_value v5
    refine Agree.ite ?_ ?_
    · extract_lets +onlyGivenNames v6
      have hv6 : Agree 7143456 x3 v6 := by
        unfold v6
        refine setF_agree.after rfl ?_
        refine setPower_agree.after rfl ?_
        assumption
      clear_value v6
      extract_lets +onlyGivenNames v7
      have hv7 : Agree 7143456 x3 v7 := by
        unfold v7
        refine setF_agree.after rfl ?_
        assumption
      clear_value v7
      refine raiseCause_agree.after rfl ?_
      refine bump_agree.after rfl ?_
      refine logEvent_agree.after rfl ?_
      assumption
    · refine Agree.ite ?_ ?_
      · refine setF_agree.after rfl ?_
        refine setPower_agree.after rfl ?_
        assumption
      · assumption

theorem countBad_agree {x0 x1 x2} : Agree 2097152 x0 (@countBad x0 x1 x2).1 := by
  unfold countBad
  extract_lets +onlyGivenNames v0
  clear_value v0
  dsimp only
  refine setPower_agree.after rfl ?_
  exact Agree.refl _ _

theorem endWarn_agree {x0} : Agree 2097184 x0 (@endWarn x0) := by
  unfold endWarn
  refine Agree.ite ?_ ?_
  · refine setF_agree.after rfl ?_
    refine setF_agree.after rfl ?_
    refine setPower_agree.after rfl ?_
    exact Agree.refl _ _
  · exact Agree.refl _ _

theorem thermRec_agree {x0 x1 x2 x3 x4} : Agree 5046304 x0 (@thermRec x0 x1 x2 x3 x4) := by
  unfold thermRec
  refine logEvent_agree.after rfl ?_
  exact Agree.refl _ _

theorem enterCrit_agree {x0 x1 x2} : Agree 7143456 x0 (@enterCrit x0 x1 x2) := by
  unfold enterCrit
  refine Agree.ite ?_ ?_
  · exact Agree.refl _ _
  · extract_lets +onlyGivenNames v0
    have hv0 : Agree 7143456 x0 v0 := by
      unfold v0
      refine setPower_agree.after rfl ?_
      exact Agree.refl _ _
    clear_value v0
    extract_lets +onlyGivenNames v1
    have hv1 : Agree 7143456 x0 v1 := by
      unfold v1
      refine setF_agree.after rfl ?_
      refine setF_agree.after rfl ?_
      assumption
    clear_value v1
    refine raiseCause_agree.after rfl ?_
    refine thermRec_agree.after rfl ?_
    refine bump_agree.after rfl ?_
    assumption

theorem enterWarn_agree {x0 x1 x2} : Agree 7143456 x0 (@enterWarn x0 x1 x2) := by
  unfold enterWarn
  refine Agree.ite ?_ ?_
  · exact Agree.refl _ _
  · extract_lets +onlyGivenNames v0
    have hv0 : Agree 7143456 x0 v0 := by
      unfold v0
      refine setPower_agree.after rfl ?_
      exact Agree.refl _ _
    clear_value v0
    refine raiseCause_agree.after rfl ?_
    refine thermRec_agree.after rfl ?_
    refine bump_agree.after rfl ?_
    refine setF_agree.after rfl ?_
    assumption

theorem storeTherm_agree {x0 x1 x2} : Agree 2621472 x2 (@storeTherm x0 x1 x2) := by
  unfold storeTherm
  extract_lets +onlyGivenNames v0
  clear_value v0
  refine setPower_agree.after rfl ?_
  refine setF_agree.after rfl ?_
  refine setF_agree.after rfl ?_
  refine setF_agree.after rfl ?_
  refine validSample_agree.after rfl ?_
  exact Agree.refl _ _

theorem shutDown_agree {x0} : Agree 5111718 x0 (@shutDown x0) := by
  unfold shutDown
  refine powerLoss_agree.after rfl ?_
  exact Agree.refl _ _

theorem thermalSample_agree {x0 x1 x2} : Agree 7208870 x2 (@thermalSample x0 x1 x2) := by
  unfold thermalSample
  refine Agree.ite ?_ ?_
  · exact Agree.refl _ _
  · extract_lets +onlyGivenNames v0
    clear_value v0
    extract_lets +onlyGivenNames v1
    have hv1 : Agree 7208870 x2 v1 := by
      unfold v1
      refine storeTherm_agree.after rfl ?_
      exact Agree.refl _ _
    clear_value v1
    refine Agree.ite ?_ ?_
    · extract_lets +onlyGivenNames v2
      have hv2 : Agree 7208870 x2 v2 := by
        unfold v2
        refine thermRec_agree.after rfl ?_
        assumption
      clear_value v2
      refine shutDown_agree.after rfl ?_
      refine Agree.ite ?_ ?_
      · refine logEvent_agree.after rfl ?_
        assumption
      · assumption
    · refine Agree.ite ?_ ?_
      · assumption
      · extract_lets +onlyGivenNames v3
        clear_value v3
        extract_lets +onlyGivenNames v4
        have hv4 : Agree 7208870 x2 v4 := by
          unfold v4
          refine setPower_agree.after rfl ?_
          assumption
        clear_value v4
        extract_lets +onlyGivenNames v5
        have hv5 : Agree 7208870 x2 v5 := by
          unfold v5
          refine Agree.ite ?_ ?_
          · refine enterWarn_agree.after rfl ?_
            assumption
          · assumption
        clear_value v5
        refine endWarn_agree.after rfl ?_
        refine Agree.ite ?_ ?_
        · refine enterCrit_agree.after rfl ?_
          assumption
        · assumption

theorem execThermalSample_agree {x0 x1 x2 t} (h : @execThermalSample x0 x1 x2 = .next t) : Agree 7208870 x2 t := by
  unfold execThermalSample at h
  cases h
  refine thermalSample_agree.after rfl ?_
  exact Agree.refl _ _

theorem thermCritTimeout_agree {x0 x1} : Agree 7143473 x1 (@thermCritTimeout x0 x1) := by
  unfold thermCritTimeout
  extract_lets +onlyGivenNames v0
  have hv0 : Agree 7143473 x1 v0 := by
    unfold v0
    refine advance_agree.after rfl ?_
    exact Agree.refl _ _
  clear_value v0
  split
  · refine Agree.ite ?_ ?_
    · unfold freeTherm
      refine enterCrit_agree.after rfl ?_
      refine Agree.updMk ?_ (Nat.le_succ _) (flashUp_refl _) rfl rfl rfl ⟨rfl, rfl, rfl, rfl, rfl⟩ (fun a h => by cases a <;> first | exact absurd h (by decide) | exact rfl | exact ⟨rfl, rfl⟩)
      assumption
    · assumption
  · assumption

theorem execThermCritTimeout_agree {x0 x1 t} (h : @execThermCritTimeout x0 x1 = .next t) : Agree 7143473 x1 t := by
  unfold execThermCritTimeout at h
  cases h
  refine thermCritTimeout_agree.after rfl ?_
  exact Agree.refl _ _

theorem stageRecord_agree {x0 x1 x2} : Agree 5046305 x0 (@stageRecord x0 x1 x2) := by
  unfold stageRecord
  refine logEvent_agree.after rfl ?_
  refine Agree.updMk ?_ (Nat.le_succ _) (flashUp_refl _) rfl rfl rfl ⟨rfl, rfl, rfl, rfl, rfl⟩ (fun a h => by cases a <;> first | exact absurd h (by decide) | exact rfl | exact ⟨rfl, rfl⟩)
  exact Agree.refl _ _

theorem railSample_agree {x0 x1 x2 x3 x4} : Agree 7208871 x4 (@railSample x0 x1 x2 x3 x4) := by
  unfold railSample
  refine Agree.ite ?_ ?_
  · exact Agree.refl _ _
  · extract_lets +onlyGivenNames v0
    clear_value v0
    extract_lets +onlyGivenNames v1
    have hv1 : Agree 7208871 x4 v1 := by
      unfold v1
      refine setF_agree.after rfl ?_
      refine setF_agree.after rfl ?_
      refine validSample_agree.after rfl ?_
      exact Agree.refl _ _
    clear_value v1
    extract_lets +onlyGivenNames v2
    have hv2 : Agree 7208871 x4 v2 := by
      unfold v2
      refine setF_agree.after rfl ?_
      refine setF_agree.after rfl ?_
      assumption
    clear_value v2
    extract_lets +onlyGivenNames v3
    clear_value v3
    split
    extract_lets +onlyGivenNames v4
    have hv4 : Agree 7208871 x4 v4 := by
      unfold v4
      refine Agree.ite ?_ ?_
      · refine raiseCause_agree.after rfl ?_
        refine bump_agree.after rfl ?_
        refine logEvent_agree.after rfl ?_
        refine Agree.ofPair (by assumption) ?_
        refine countBad_agree.after rfl ?_
        assumption
      · refine Agree.ofPair (by assumption) ?_
        refine countBad_agree.after rfl ?_
        assumption
    clear_value v4
    refine Agree.ite ?_ ?_
    · refine shutDown_agree.after rfl ?_
      refine stageRecord_agree.after rfl ?_
      assumption
    · split
      · refine Agree.ite ?_ ?_
        · split
          refine Agree.ite ?_ ?_
          · refine shutDown_agree.after rfl ?_
            refine stageRecord_agree.after rfl ?_
            refine Agree.ofPair (by assumption) ?_
            refine countBad_agree.after rfl ?_
            assumption
          · refine Agree.ofPair (by assumption) ?_
            refine countBad_agree.after rfl ?_
            assumption
        · assumption
      · assumption

theorem execRailSample_agree {x0 x1 x2 x3 x4 t} (h : @execRailSample x0 x1 x2 x3 x4 = .next t) : Agree 7208871 x4 t := by
  unfold execRailSample at h
  cases h
  refine railSample_agree.after rfl ?_
  exact Agree.refl _ _

theorem execCoolantLimit_agree {x0 x1 x2 x3 t} (h : @execCoolantLimit x0 x1 x2 x3 = .next t) : Agree 7143456 x3 t := by
  unfold execCoolantLimit at h
  cases h
  refine coolantSample_agree.after rfl ?_
  exact Agree.refl _ _

theorem sensorFault_agree {x0 x1} : Agree 5046304 x1 (@sensorFault x0 x1) := by
  unfold sensorFault
  refine Agree.ite ?_ ?_
  · exact Agree.refl _ _
  · extract_lets +onlyGivenNames v0
    clear_value v0
    extract_lets +onlyGivenNames v1
    have hv1 : Agree 5046304 x1 v1 := by
      unfold v1
      refine Agree.updMk ?_ (Nat.le_refl _) (flashUp_refl _) rfl rfl rfl ⟨rfl, rfl, rfl, rfl, rfl⟩ (fun a h => by cases a <;> first | exact absurd h (by decide) | exact rfl | exact ⟨rfl, rfl⟩)
      exact Agree.refl _ _
    clear_value v1
    extract_lets +onlyGivenNames v2
    have hv2 : Agree 5046304 x1 v2 := by
      unfold v2
      refine Agree.ite ?_ ?_
      · refine setF_agree.after rfl ?_
        assumption
      · assumption
    clear_value v2
    refine raiseCause_agree.after rfl ?_
    refine logEvent_agree.after rfl ?_
    assumption

theorem execSensorFault_agree {x0 x1 t} (h : @execSensorFault x0 x1 = .next t) : Agree 5046304 x1 t := by
  unfold execSensorFault at h
  cases h
  refine Agree.ite ?_ ?_
  · refine sensorFault_agree.after rfl ?_
    exact Agree.refl _ _
  · exact Agree.refl _ _

theorem governorWindow_agree {x0 x1 x2 x3 x4} : Agree 2097184 x4 (@governorWindow x0 x1 x2 x3 x4) := by
  unfold governorWindow
  refine Agree.ite ?_ ?_
  · exact Agree.refl _ _
  · extract_lets +onlyGivenNames v0
    clear_value v0
    extract_lets +onlyGivenNames v1
    clear_value v1
    extract_lets +onlyGivenNames v2
    clear_value v2
    extract_lets +onlyGivenNames v3
    clear_value v3
    extract_lets +onlyGivenNames v4
    clear_value v4
    extract_lets +onlyGivenNames v5
    clear_value v5
    extract_lets +onlyGivenNames v6
    clear_value v6
    extract_lets +onlyGivenNames v7
    clear_value v7
    extract_lets +onlyGivenNames v8
    have hv8 : Agree 2097184 x4 v8 := by
      unfold v8
      refine setPower_agree.after rfl ?_
      exact Agree.refl _ _
    clear_value v8
    extract_lets +onlyGivenNames v9
    have hv9 : Agree 2097184 x4 v9 := by
      unfold v9
      refine bump_agree.after rfl ?_
      refine bump_agree.after rfl ?_
      refine bump_agree.after rfl ?_
      assumption
    clear_value v9
    extract_lets +onlyGivenNames v10
    have hv10 : Agree 2097184 x4 v10 := by
      unfold v10
      refine Agree.foldl (fun a11 b12 h13 => ?_) ?_
      · refine bump_agree.after rfl ?_
        assumption
      · assumption
    clear_value v10
    extract_lets +onlyGivenNames v14
    have hv14 : Agree 2097184 x4 v14 := by
      unfold v14
      refine Agree.ite ?_ ?_
      · refine Agree.foldl (fun a15 b16 h17 => ?_) ?_
        · refine bump_agree.after rfl ?_
          assumption
        · assumption
      · assumption
    clear_value v14
    extract_lets +onlyGivenNames v18
    have hv18 : Agree 2097184 x4 v18 := by
      unfold v18
      refine setF_agree.after rfl ?_
      refine setF_agree.after rfl ?_
      assumption
    clear_value v18
    extract_lets +onlyGivenNames v19
    have hv19 : Agree 2097184 x4 v19 := by
      unfold v19
      refine setF_agree.after rfl ?_
      refine setF_agree.after rfl ?_
      refine setF_agree.after rfl ?_
      assumption
    clear_value v19
    refine setF_agree.after rfl ?_
    refine setF_agree.after rfl ?_
    assumption

theorem execGovernorWindow_agree {x0 x1 x2 x3 x4 t} (h : @execGovernorWindow x0 x1 x2 x3 x4 = .next t) : Agree 2097184 x4 t := by
  unfold execGovernorWindow at h
  cases h
  refine governorWindow_agree.after rfl ?_
  exact Agree.refl _ _

theorem flowReqUpdate_agree {x0} : Agree 33 x0 (@flowReqUpdate x0) := by
  unfold flowReqUpdate
  refine Agree.ite ?_ ?_
  · exact Agree.refl _ _
  · split
    extract_lets +onlyGivenNames v0
    clear_value v0
    extract_lets +onlyGivenNames v1
    clear_value v1
    extract_lets +onlyGivenNames v2
    clear_value v2
    extract_lets +onlyGivenNames v3
    clear_value v3
    refine setF_agree.after rfl ?_
    refine setF_agree.after rfl ?_
    refine Agree.updMk ?_ (Nat.le_succ _) (flashUp_refl _) rfl rfl rfl ⟨rfl, rfl, rfl, rfl, rfl⟩ (fun a h => by cases a <;> first | exact absurd h (by decide) | exact rfl | exact ⟨rfl, rfl⟩)
    exact Agree.refl _ _

theorem execFlowReqUpdate_agree {x0 t} (h : @execFlowReqUpdate x0 = .next t) : Agree 33 x0 t := by
  unfold execFlowReqUpdate at h
  cases h
  refine flowReqUpdate_agree.after rfl ?_
  exact Agree.refl _ _

theorem execClockGate_agree {x0 x1 t} (h : @execClockGate x0 x1 = .next t) : Agree 8192 x1 t := by
  unfold execClockGate at h
  cases h
  refine clockGate_agree.after rfl ?_
  exact Agree.refl _ _

theorem powerGate_agree {x0 x1 x2} : Agree 2105360 x2 (@powerGate x0 x1 x2) := by
  unfold powerGate
  extract_lets +onlyGivenNames v0
  have hv0 : Agree 2105360 x2 v0 := by
    unfold v0
    refine advance_agree.after rfl ?_
    exact Agree.refl _ _
  clear_value v0
  split
  · refine Agree.ite ?_ ?_
    · refine noteDies_agree.after rfl ?_
      refine Agree.after (modFrond_agree (fun _ _ h => h)) rfl ?_
      assumption
    · assumption
  · assumption

theorem execPowerGate_agree {x0 x1 x2 t} (h : @execPowerGate x0 x1 x2 = .next t) : Agree 2105360 x2 t := by
  unfold execPowerGate at h
  cases h
  refine powerGate_agree.after rfl ?_
  exact Agree.refl _ _

theorem pllStop_agree {x0 x1 x2} : Agree 2097168 x2 (@pllStop x0 x1 x2) := by
  unfold pllStop
  extract_lets +onlyGivenNames v0
  have hv0 : Agree 2097168 x2 v0 := by
    unfold v0
    refine advance_agree.after rfl ?_
    exact Agree.refl _ _
  clear_value v0
  refine Agree.ite ?_ ?_
  · refine setPower_agree.after rfl ?_
    assumption
  · assumption

theorem execPllStop_agree {x0 x1 x2 t} (h : @execPllStop x0 x1 x2 = .next t) : Agree 2097168 x2 t := by
  unfold execPllStop at h
  cases h
  refine pllStop_agree.after rfl ?_
  exact Agree.refl _ _

theorem frondWake_agree {x0 x1 x2} : Agree 2105376 x2 (@frondWake x0 x1 x2) := by
  unfold frondWake
  refine Agree.ite ?_ ?_
  · split
    · exact Agree.refl _ _
    · refine Agree.after (modFrond_agree (fun _ _ h => h)) rfl ?_
      exact Agree.refl _ _
    · refine Agree.ite ?_ ?_
      · exact Agree.refl _ _
      · refine wakeFrond_agree.after rfl ?_
        exact Agree.refl _ _
  · exact Agree.refl _ _

theorem execFrondWake_agree {x0 x1 x2 t} (h : @execFrondWake x0 x1 x2 = .next t) : Agree 2105376 x2 t := by
  unfold execFrondWake at h
  cases h
  refine frondWake_agree.after rfl ?_
  exact Agree.refl _ _

theorem hbmTempReadout_agree {x0 x1 x2} : Agree 7143457 x2 (@hbmTempReadout x0 x1 x2) := by
  unfold hbmTempReadout
  refine Agree.ite ?_ ?_
  · exact Agree.refl _ _
  · extract_lets +onlyGivenNames v0
    clear_value v0
    extract_lets +onlyGivenNames v1
    have hv1 : Agree 7143457 x2 v1 := by
      unfold v1
      refine setF_agree.after rfl ?_
      refine setF_agree.after rfl ?_
      exact Agree.refl _ _
    clear_value v1
    extract_lets +onlyGivenNames v2
    have hv2 : Agree 7143457 x2 v2 := by
      unfold v2
      refine Agree.ite ?_ ?_
      · unfold freeTherm
        refine enterWarn_agree.after rfl ?_
        refine Agree.updMk ?_ (Nat.le_succ _) (flashUp_refl _) rfl rfl rfl ⟨rfl, rfl, rfl, rfl, rfl⟩ (fun a h => by cases a <;> first | exact absurd h (by decide) | exact rfl | exact ⟨rfl, rfl⟩)
        assumption
      · assumption
    clear_value v2
    refine endWarn_agree.after rfl ?_
    refine Agree.ite ?_ ?_
    · unfold freeTherm
      refine enterCrit_agree.after rfl ?_
      refine Agree.updMk ?_ (Nat.le_succ _) (flashUp_refl _) rfl rfl rfl ⟨rfl, rfl, rfl, rfl, rfl⟩ (fun a h => by cases a <;> first | exact absurd h (by decide) | exact rfl | exact ⟨rfl, rfl⟩)
      assumption
    · assumption

theorem execHbmTempReadout_agree {x0 x1 x2 t} (h : @execHbmTempReadout x0 x1 x2 = .next t) : Agree 7143457 x2 t := by
  unfold execHbmTempReadout at h
  cases h
  refine hbmTempReadout_agree.after rfl ?_
  exact Agree.refl _ _

end Sys2Proof.Laws
end

