-- ==== Sys2Proof/Laws/AgreeReliability.lean ====
section
/-! SUPPORT. What the operations of Machine/Reliability.lean leave alone: for each, the areas it may change, as the bits of a mask in
the numbering of `Area.idx`. -/

namespace Sys2Proof.Laws

open Sys2Proof Sys2Proof.Machine Sys2Proof.Safety Sys2Proof.Frame

theorem feedIdPoll_agree {x0 x1 x2} : Agree 5046304 x2 (@feedIdPoll x0 x1 x2) := by
  unfold feedIdPoll
  split
  · exact Agree.refl _ _
  · refine Agree.ite ?_ ?_
    · exact Agree.refl _ _
    · extract_lets +onlyGivenNames v0
      clear_value v0
      extract_lets +onlyGivenNames v1
      clear_value v1
      extract_lets +onlyGivenNames v2
      clear_value v2
      extract_lets +onlyGivenNames v3
      have hv3 : Agree 5046304 x2 v3 := by
        unfold v3
        refine setF_agree.after rfl ?_
        refine setF_agree.after rfl ?_
        exact Agree.refl _ _
      clear_value v3
      refine Agree.ite ?_ ?_
      · extract_lets +onlyGivenNames v4
        clear_value v4
        extract_lets +onlyGivenNames v5
        have hv5 : Agree 5046304 x2 v5 := by
          unfold v5
          refine logEvent_agree.after rfl ?_
          assumption
        clear_value v5
        refine Agree.ite ?_ ?_
        · refine raiseCause_agree.after rfl ?_
          assumption
        · assumption
      · assumption

theorem execFeedIdPoll_agree {x0 x1 x2 t} (h : @execFeedIdPoll x0 x1 x2 = .next t) : Agree 5046304 x2 t := by
  unfold execFeedIdPoll at h
  cases h
  refine feedIdPoll_agree.after rfl ?_
  exact Agree.refl _ _

theorem patrolScrub_agree {k up now s} : Agree 5046832 s (patrolScrub k up now s) := by
  unfold patrolScrub
  extract_lets +onlyGivenNames s0
  have h0 : Agree 5046832 s s0 := advance_agree.mono rfl
  clear_value s0
  split
  · exact h0
  · extract_lets +onlyGivenNames i u w x reads s1 s2 j __src s3
    have h1 : Agree 5046832 s s1 := bump_agree.after rfl (Agree.trans h0 (clearUpset_agree.mono rfl))
    clear_value s1
    have h2 : Agree 5046832 s s2 := by
      unfold s2
      split
      · exact hbmPoisoned_agree.after rfl (bump_agree.after rfl (poisonUnit_agree.after rfl h1))
      · split
        · exact bump_agree.after rfl h1
        · exact h1
    clear_value s2
    have h3 : Agree 5046832 s s3 := setF_agree.after rfl (Agree.updMk h2 (Nat.le_refl _) (flashUp_refl _) rfl rfl rfl ⟨rfl, rfl, rfl, rfl, rfl⟩
      (fun a h => by cases a <;> first | exact absurd h (by decide) | exact rfl | exact ⟨rfl, rfl⟩))
    clear_value s3
    split
    · exact bump_agree.after rfl h3
    · exact h3

theorem execPatrolScrub_agree {x0 x1 x2 t} (h : @execPatrolScrub x0 x1 x2 = .next t) : Agree 5046832 x2 t := by
  unfold execPatrolScrub at h
  cases h
  refine patrolScrub_agree.after rfl ?_
  exact Agree.refl _ _

theorem writeLedger_agree {s} : Agree 786432 s (writeLedger s) :=
  Agree.updMk (Agree.refl _ _) (Nat.le_refl _)
    ⟨Nat.le_refl _, Nat.le_refl _, Nat.le_refl _, Nat.le_refl _, Nat.le_refl _, Nat.le_refl _, Nat.le_refl _⟩ rfl rfl rfl ⟨rfl, rfl, rfl, rfl, rfl⟩
    (fun a h => by cases a <;> first | exact absurd h (by decide) | exact rfl | exact ⟨rfl, rfl⟩)

theorem testLedger_agree {x0 x1} : Agree 786480 x1 (@testLedger x0 x1) := by
  unfold testLedger
  extract_lets +onlyGivenNames v0
  have hv0 : Agree 786480 x1 v0 := by
    unfold v0
    refine advance_agree.after rfl ?_
    exact Agree.refl _ _
  clear_value v0
  refine Agree.ite ?_ ?_
  · refine wakeLichen_agree.after rfl ?_
    refine writeLedger_agree.after rfl ?_
    assumption
  · assumption

theorem execTestLedger_agree {x0 x1 t} (h : @execTestLedger x0 x1 = .next t) : Agree 786480 x1 t := by
  unfold execTestLedger at h
  cases h
  refine testLedger_agree.after rfl ?_
  exact Agree.refl _ _

theorem testDue_agree {x0 x1} : Agree 524320 x1 (@testDue x0 x1) := by
  unfold testDue
  refine Agree.ite ?_ ?_
  · exact Agree.refl _ _
  · extract_lets +onlyGivenNames v0
    clear_value v0
    extract_lets +onlyGivenNames v1
    have hv1 : Agree 524320 x1 v1 := by
      unfold v1
      refine Agree.updMk ?_ (Nat.le_refl _) (flashUp_refl _) rfl rfl rfl ⟨rfl, rfl, rfl, rfl, rfl⟩ (fun a h => by cases a <;> first | exact absurd h (by decide) | exact rfl | exact ⟨rfl, rfl⟩)
      exact Agree.refl _ _
    clear_value v1
    split
    · refine Agree.ite ?_ ?_
      · refine setF_agree.after rfl ?_
        assumption
      · assumption
    · assumption

theorem execTestDue_agree {x0 x1 t} (h : @execTestDue x0 x1 = .next t) : Agree 524320 x1 t := by
  unfold execTestDue at h
  cases h
  refine testDue_agree.after rfl ?_
  exact Agree.refl _ _

theorem testOverdue_agree {x0 x1} : Agree 5046304 x1 (@testOverdue x0 x1) := by
  unfold testOverdue
  split
  · refine Agree.ite ?_ ?_
    · extract_lets +onlyGivenNames v0
      clear_value v0
      extract_lets +onlyGivenNames v1
      have hv1 : Agree 5046304 x1 v1 := by
        unfold v1
        refine Agree.updMk ?_ (Nat.le_refl _) (flashUp_refl _) rfl rfl rfl ⟨rfl, rfl, rfl, rfl, rfl⟩ (fun a h => by cases a <;> first | exact absurd h (by decide) | exact rfl | exact ⟨rfl, rfl⟩)
        exact Agree.refl _ _
      clear_value v1
      refine raiseCause_agree.after rfl ?_
      refine logEvent_agree.after rfl ?_
      assumption
    · exact Agree.refl _ _
  · exact Agree.refl _ _

theorem execTestOverdue_agree {x0 x1 t} (h : @execTestOverdue x0 x1 = .next t) : Agree 5046304 x1 t := by
  unfold execTestOverdue at h
  cases h
  refine Agree.ite ?_ ?_
  · refine testOverdue_agree.after rfl ?_
    exact Agree.refl _ _
  · exact Agree.refl _ _

theorem understoryTest_agree {x0 x1 x2} : Agree 2630432 x2 (@understoryTest x0 x1 x2) := by
  unfold understoryTest
  extract_lets +onlyGivenNames v0
  clear_value v0
  refine Agree.ite ?_ ?_
  · refine startTest_agree.after rfl ?_
    refine Agree.updMk ?_ (Nat.le_refl _) (flashUp_refl _) rfl rfl rfl ⟨rfl, rfl, rfl, rfl, rfl⟩ (fun a h => by cases a <;> first | exact absurd h (by decide) | exact rfl | exact ⟨rfl, rfl⟩)
    exact Agree.refl _ _
  · exact Agree.refl _ _

theorem execUnderstoryTest_agree {x0 x1 t} (h : @execUnderstoryTest x0 x1 = .next t) : Agree 2630432 x1 t := by
  unfold execUnderstoryTest at h
  cases h
  refine understoryTest_agree.after rfl ?_
  exact Agree.refl _ _

theorem testGate_agree {x0 x1} : Agree 2105344 x0 (@testGate x0 x1) := by
  unfold testGate
  split
  · refine noteDies_agree.after rfl ?_
    refine Agree.after (modFrond_agree (fun _ _ h => h)) rfl ?_
    exact Agree.refl _ _
  · refine noteDies_agree.after rfl ?_
    exact Agree.refl _ _

theorem judgePair_agree {x0 x1 x2} : Agree 524320 x0 (@judgePair x0 x1 x2) := by
  unfold judgePair
  refine Agree.ite ?_ ?_
  · exact Agree.refl _ _
  · extract_lets +onlyGivenNames v0
    clear_value v0
    extract_lets +onlyGivenNames v1
    have hv1 : Agree 524320 x0 v1 := by
      unfold v1
      refine Agree.updMk ?_ (Nat.le_refl _) (flashUp_refl _) rfl rfl rfl ⟨rfl, rfl, rfl, rfl, rfl⟩ (fun a h => by cases a <;> first | exact absurd h (by decide) | exact rfl | exact ⟨rfl, rfl⟩)
      exact Agree.refl _ _
    clear_value v1
    split
    · extract_lets +onlyGivenNames v2
      clear_value v2
      refine Agree.ite ?_ ?_
      · refine bump_agree.after rfl ?_
        assumption
      · assumption
    · assumption

theorem frondPassed_agree {x0 x1} : Agree 786464 x0 (@frondPassed x0 x1) := by
  unfold frondPassed
  extract_lets +onlyGivenNames v0
  extract_lets +onlyGivenNames v1
  clear_value v1
  extract_lets +onlyGivenNames v2
  have hv2 : Agree 786464 x0 v2 := by
    unfold v2
    refine Agree.updMk ?_ (Nat.le_refl _) (flashUp_refl _) rfl rfl rfl ⟨rfl, rfl, rfl, rfl, rfl⟩ (fun a h => by cases a <;> first | exact absurd h (by decide) | exact rfl | exact ⟨rfl, rfl⟩)
    exact Agree.refl _ _
  clear_value v2
  split
  · refine setF_agree.after rfl ?_
    assumption
  · assumption

theorem frondFailed_agree {x0 x1} : Agree 655392 x0 (@frondFailed x0 x1) := by
  unfold frondFailed
  extract_lets +onlyGivenNames v0
  clear_value v0
  refine Agree.ite ?_ ?_
  · refine showFloor_agree.after rfl ?_
    refine Agree.updMk ?_ (Nat.le_refl _) (flashUp_refl _) rfl rfl rfl ⟨rfl, rfl, rfl, rfl, rfl⟩ (fun a h => by cases a <;> first | exact absurd h (by decide) | exact rfl | exact ⟨rfl, rfl⟩)
    exact Agree.refl _ _
  · refine Agree.updMk ?_ (Nat.le_refl _) (flashUp_refl _) rfl rfl rfl ⟨rfl, rfl, rfl, rfl, rfl⟩ (fun a h => by cases a <;> first | exact absurd h (by decide) | exact rfl | exact ⟨rfl, rfl⟩)
    exact Agree.refl _ _

theorem settleDevice_agree {x0} : Agree 4096 x0 (@settleDevice x0) := by
  unfold settleDevice
  refine Agree.ite ?_ ?_
  · refine modQ_agree.after rfl ?_
    exact Agree.refl _ _
  · exact Agree.refl _ _

theorem settlePart_agree {x0 x1} : Agree 5075744 x0 (@settlePart x0 x1) := by
  unfold settlePart
  refine Agree.ite ?_ ?_
  · extract_lets +onlyGivenNames v0
    clear_value v0
    extract_lets +onlyGivenNames v1
    clear_value v1
    extract_lets +onlyGivenNames v2
    have hv2 : Agree 5075744 x0 v2 := by
      unfold v2
      refine Agree.updMk ?_ (Nat.le_refl _) (flashUp_refl _) rfl rfl rfl ⟨rfl, rfl, rfl, rfl, rfl⟩ (fun a h => by cases a <;> first | exact absurd h (by decide) | exact rfl | exact ⟨rfl, rfl⟩)
      exact Agree.refl _ _
    clear_value v2
    extract_lets +onlyGivenNames v3
    have hv3 : Agree 5075744 x0 v3 := by
      unfold v3
      refine Agree.ite ?_ ?_
      · refine enterFaulted_agree.after rfl ?_
        assumption
      · refine setPartState_agree.after rfl ?_
        assumption
    clear_value v3
    refine modQ_agree.after rfl ?_
    assumption
  · exact Agree.refl _ _

theorem testComplete_agree {x0 x1 x2} : Agree 7303968 x2 (@testComplete x0 x1 x2) := by
  unfold testComplete
  refine Agree.ite ?_ ?_
  · exact Agree.refl _ _
  · extract_lets +onlyGivenNames v0
    clear_value v0
    extract_lets +onlyGivenNames v1
    have hv1 : Agree 7303968 x2 v1 := by
      unfold v1
      refine testGate_agree.after rfl ?_
      refine Agree.updMk ?_ (Nat.le_refl _) (flashUp_refl _) rfl rfl rfl ⟨rfl, rfl, rfl, rfl, rfl⟩ (fun a h => by cases a <;> first | exact absurd h (by decide) | exact rfl | exact ⟨rfl, rfl⟩)
      exact Agree.refl _ _
    clear_value v1
    extract_lets +onlyGivenNames v2
    clear_value v2
    extract_lets +onlyGivenNames v3
    clear_value v3
    extract_lets +onlyGivenNames v4
    have hv4 : Agree 7303968 x2 v4 := by
      unfold v4
      refine Agree.updMk ?_ (Nat.le_refl _) (flashUp_refl _) rfl rfl rfl ⟨rfl, rfl, rfl, rfl, rfl⟩ (fun a h => by cases a <;> first | exact absurd h (by decide) | exact rfl | exact ⟨rfl, rfl⟩)
      assumption
    clear_value v4
    extract_lets +onlyGivenNames v5
    have hv5 : Agree 7303968 x2 v5 := by
      unfold v5
      refine writeLedger_agree.after rfl ?_
      assumption
    clear_value v5
    extract_lets +onlyGivenNames v6
    extract_lets +onlyGivenNames v7
    have hv7 : Agree 7303968 x2 v7 := by
      unfold v7
      refine bump_agree.after rfl ?_
      refine Agree.updMk ?_ (Nat.le_refl _) (flashUp_refl _) rfl rfl rfl ⟨rfl, rfl, rfl, rfl, rfl⟩ (fun a h => by cases a <;> first | exact absurd h (by decide) | exact rfl | exact ⟨rfl, rfl⟩)
      assumption
    clear_value v7
    extract_lets +onlyGivenNames v8
    have hv8 : Agree 7303968 x2 v8 := by
      unfold v8
      refine judgePair_agree.after rfl ?_
      refine Agree.ite ?_ ?_
      · refine frondPassed_agree.after rfl ?_
        assumption
      · refine frondFailed_agree.after rfl ?_
        assumption
    clear_value v8
    extract_lets +onlyGivenNames v9
    clear_value v9
    extract_lets +onlyGivenNames v10
    clear_value v10
    extract_lets +onlyGivenNames v11
    have hv11 : Agree 7303968 x2 v11 := by
      unfold v11
      refine Agree.ite ?_ ?_
      · refine Agree.ite ?_ ?_
        · refine Agree.updMk ?_ (Nat.le_refl _) (flashUp_refl _) rfl rfl rfl ⟨rfl, rfl, rfl, rfl, rfl⟩ (fun a h => by cases a <;> first | exact absurd h (by decide) | exact rfl | exact ⟨rfl, rfl⟩)
          assumption
        · assumption
      · refine Agree.ite ?_ ?_
        · assumption
        · refine Agree.updMk ?_ (Nat.le_refl _) (flashUp_refl _) rfl rfl rfl ⟨rfl, rfl, rfl, rfl, rfl⟩ (fun a h => by cases a <;> first | exact absurd h (by decide) | exact rfl | exact ⟨rfl, rfl⟩)
          assumption
    clear_value v11
    refine settleDevice_agree.after rfl ?_
    split
    · refine settlePart_agree.after rfl ?_
      assumption
    · assumption

theorem execTestComplete_agree {x0 x1 x2 t} (h : @execTestComplete x0 x1 x2 = .next t) : Agree 7303968 x2 t := by
  unfold execTestComplete at h
  cases h
  refine testComplete_agree.after rfl ?_
  exact Agree.refl _ _

theorem lockstepMismatch_agree {x0 x1 x2 x3} : Agree 8192 x3 (@lockstepMismatch x0 x1 x2 x3) := by
  unfold lockstepMismatch
  refine Agree.ite ?_ ?_
  · refine Agree.after (modFrond_agree (fun _ _ h => h)) rfl ?_
    exact Agree.refl _ _
  · exact Agree.refl _ _

theorem execLockstepMismatch_agree {x0 x1 x2 x3 t} (h : @execLockstepMismatch x0 x1 x2 x3 = .next t) : Agree 8192 x3 t := by
  unfold execLockstepMismatch at h
  cases h
  refine lockstepMismatch_agree.after rfl ?_
  exact Agree.refl _ _

theorem mismatchRecord_agree {x0 x1 x2 x3 x4} : Agree 4792352 x0 (@mismatchRecord x0 x1 x2 x3 x4) := by
  unfold mismatchRecord
  refine seqLogEvent_agree.after rfl ?_
  exact Agree.refl _ _

theorem lockstepRetry_agree {x0 x1 x2} : Agree 5075744 x2 (@lockstepRetry x0 x1 x2) := by
  unfold lockstepRetry
  split
  · exact Agree.refl _ _
  · extract_lets +onlyGivenNames v0
    have hv0 : Agree 5075744 x2 v0 := by
      unfold v0
      refine Agree.after (modFrond_agree (fun _ _ h => h)) rfl ?_
      exact Agree.refl _ _
    clear_value v0
    extract_lets +onlyGivenNames v1
    clear_value v1
    split
    · assumption
    · extract_lets +onlyGivenNames v2
      have hv2 : Agree 5075744 x2 v2 := by
        unfold v2
        refine mismatchRecord_agree.after rfl ?_
        assumption
      clear_value v2
      refine Agree.ite ?_ ?_
      · extract_lets +onlyGivenNames v3
        have hv3 : Agree 5075744 x2 v3 := by
          unfold v3
          refine bump_agree.after rfl ?_
          assumption
        clear_value v3
        refine modQ_agree.after rfl ?_
        assumption
      · extract_lets +onlyGivenNames v4
        clear_value v4
        extract_lets +onlyGivenNames v5
        clear_value v5
        extract_lets +onlyGivenNames v6
        have hv6 : Agree 5075744 x2 v6 := by
          unfold v6
          refine bump_agree.after rfl ?_
          refine Agree.updMk ?_ (Nat.le_refl _) (flashUp_refl _) rfl rfl rfl ⟨rfl, rfl, rfl, rfl, rfl⟩ (fun a h => by cases a <;> first | exact absurd h (by decide) | exact rfl | exact ⟨rfl, rfl⟩)
          assumption
        clear_value v6
        refine concludeEntry_agree.after rfl ?_
        assumption

theorem execLockstepRetry_agree {x0 x1 x2 t} (h : @execLockstepRetry x0 x1 x2 = .next t) : Agree 5075744 x2 t := by
  unfold execLockstepRetry at h
  cases h
  refine lockstepRetry_agree.after rfl ?_
  exact Agree.refl _ _

end Sys2Proof.Laws
end

