-- ==== Sys2Proof/Laws/AgreeStep.lean ====
section
/-! SUPPORT. What the operations of Machine/Step.lean leave alone: for each, the areas it may change, as the bits of a mask in
the numbering of `Area.idx`. -/

namespace Sys2Proof.Laws

open Sys2Proof Sys2Proof.Machine Sys2Proof.Safety Sys2Proof.Frame

theorem tick_agree {x0} : Agree 16 x0 (@tick x0) := by
  unfold tick
  refine Agree.ite ?_ ?_
  · refine Agree.updMk ?_ (Nat.le_refl _) (flashUp_refl _) rfl rfl rfl ⟨rfl, rfl, rfl, rfl, rfl⟩ (fun a h => by cases a <;> first | exact absurd h (by decide) | exact rfl | exact ⟨rfl, rfl⟩)
    exact Agree.refl _ _
  · exact Agree.refl _ _

end Sys2Proof.Laws
end

