-- ==== Sys2Proof/Laws/Table.lean ====
section
/-! SUPPORT. What a table holds after a key is set. -/

namespace Sys2Proof.Laws

open Sys2Proof Sys2Proof.Machine

theorem tblFind_none {α : Type} {t : Tbl α} {k : Nat} (h : ∀ e ∈ t, k < e.1) : tblFind t k = none := by
  cases t with
  | nil => rfl
  | cons e t =>
    have h1 := h e (List.mem_cons_self ..)
    unfold tblFind
    rw [if_neg (by omega), if_pos h1]

theorem tblFind_tblPut_same {α : Type} {t : Tbl α} {k : Nat} {v : Option α} (h : t.Pairwise (fun a b => a.1 < b.1)) :
    tblFind (tblPut t k v) k = v := by
  induction t with
  | nil => cases v <;> simp [tblPut, tblFind]
  | cons x t ih =>
    obtain ⟨j, w⟩ := x
    obtain ⟨h1, h2⟩ := List.pairwise_cons.1 h
    unfold tblPut
    split
    · rename_i e
      cases v with
      | none => exact tblFind_none (fun y hy => e ▸ h1 y hy)
      | some a => simp [tblFind]
    · rename_i hne
      split
      · rename_i hlt
        cases v with
        | none =>
          refine tblFind_none (fun y hy => ?_)
          rcases List.mem_cons.1 hy with rfl | hy
          · exact hlt
          · exact Nat.lt_trans hlt (h1 y hy)
        | some a => simp [tblFind]
      · rename_i hlt
        unfold tblFind
        rw [if_neg hne, if_neg hlt]
        exact ih h2

theorem tblFind_tblPut_ne {α : Type} {t : Tbl α} {k j : Nat} {v : Option α} (h : t.Pairwise (fun a b => a.1 < b.1))
    (hj : j ≠ k) : tblFind (tblPut t k v) j = tblFind t j := by
  induction t with
  | nil =>
    cases v with
    | none => rfl
    | some a =>
      show (if k = j then some a else if j < k then none else none) = none
      rw [if_neg (fun h => hj h.symm)]
      split <;> rfl
  | cons x t ih =>
    obtain ⟨i, w⟩ := x
    obtain ⟨h1, h2⟩ := List.pairwise_cons.1 h
    unfold tblPut
    split
    · rename_i e
      subst e
      have hij : ¬ i = j := fun h => hj h.symm
      cases v with
      | none =>
        show tblFind t j = if i = j then some w else if j < i then none else tblFind t j
        rw [if_neg hij]
        by_cases hlt : j < i
        · rw [if_pos hlt]
          exact tblFind_none (fun y hy => Nat.lt_trans hlt (h1 y hy))
        · rw [if_neg hlt]
      | some a =>
        show (if i = j then some a else if j < i then none else tblFind t j) =
          if i = j then some w else if j < i then none else tblFind t j
        rw [if_neg hij, if_neg hij]
    · rename_i hne
      split
      · rename_i hlt
        cases v with
        | none => rfl
        | some a =>
          conv => lhs; unfold tblFind
          rw [if_neg (fun h => hj h.symm)]
          split
          · rename_i hjk
            refine (tblFind_none (fun y hy => ?_)).symm
            rcases List.mem_cons.1 hy with rfl | hy
            · show j < i; omega
            · have := h1 y hy
              show j < y.1
              have h3 : i < y.1 := this
              omega
          · rfl
      · conv => lhs; unfold tblFind
        conv => rhs; unfold tblFind
        rw [ih h2]

/-- A key that was set holds what was put there. -/
theorem tblGet_tblSet_same {α : Type} [DecidableEq α] {d : α} {t : Tbl α} {k : Nat} {v : α}
    (h : t.Pairwise (fun a b => a.1 < b.1)) : tblGet d (tblSet d t k v) k = v := by
  unfold tblGet tblSet
  rw [tblFind_tblPut_same h]
  split
  · rename_i e; exact e.symm
  · rfl

/-- Every other key holds what it held. -/
theorem tblGet_tblSet_ne {α : Type} [DecidableEq α] {d : α} {t : Tbl α} {k j : Nat} {v : α}
    (h : t.Pairwise (fun a b => a.1 < b.1)) (hj : j ≠ k) : tblGet d (tblSet d t k v) j = tblGet d t j := by
  unfold tblGet tblSet
  rw [tblFind_tblPut_ne h hj]

end Sys2Proof.Laws
end

