-- ==== Sys2Proof/Laws/State.lean ====
section
/-! SUPPORT. One lemma for each field and each named update of the state, and what the named readers find after an update. -/

namespace Sys2Proof.Laws

open Sys2Proof Sys2Proof.Machine Sys2Proof.Safety

/-! ### setReg -/

@[simp] theorem setReg_pending (s : State) (o : Nat) (v : W64) : (setReg s o v).pending = s.pending := rfl
@[simp] theorem setReg_free (s : State) (o : Nat) (v : W64) : (setReg s o v).free = s.free := rfl
@[simp] theorem setReg_dev (s : State) (o : Nat) (v : W64) : (setReg s o v).dev = s.dev := rfl
@[simp] theorem setReg_pins (s : State) (o : Nat) (v : W64) : (setReg s o v).pins = s.pins := rfl
@[simp] theorem setReg_island (s : State) (o : Nat) (v : W64) : (setReg s o v).island = s.island := rfl
@[simp] theorem setReg_counter (s : State) (o : Nat) (v : W64) : (setReg s o v).counter = s.counter := rfl
@[simp] theorem setReg_lastRead (s : State) (o : Nat) (v : W64) : (setReg s o v).lastRead = s.lastRead := rfl
@[simp] theorem setReg_shadows (s : State) (o : Nat) (v : W64) : (setReg s o v).shadows = s.shadows := rfl
@[simp] theorem setReg_mem (s : State) (o : Nat) (v : W64) : (setReg s o v).mem = s.mem := rfl
@[simp] theorem setReg_units (s : State) (o : Nat) (v : W64) : (setReg s o v).units = s.units := rfl
@[simp] theorem setReg_upsets (s : State) (o : Nat) (v : W64) : (setReg s o v).upsets = s.upsets := rfl
@[simp] theorem setReg_rhzUps (s : State) (o : Nat) (v : W64) : (setReg s o v).rhzUps = s.rhzUps := rfl
@[simp] theorem setReg_seqUps (s : State) (o : Nat) (v : W64) : (setReg s o v).seqUps = s.seqUps := rfl
@[simp] theorem setReg_queues (s : State) (o : Nat) (v : W64) : (setReg s o v).queues = s.queues := rfl
@[simp] theorem setReg_fronds (s : State) (o : Nat) (v : W64) : (setReg s o v).fronds = s.fronds := rfl
@[simp] theorem setReg_parts (s : State) (o : Nat) (v : W64) : (setReg s o v).parts = s.parts := rfl
@[simp] theorem setReg_ports (s : State) (o : Nat) (v : W64) : (setReg s o v).ports = s.ports := rfl
@[simp] theorem setReg_fabric (s : State) (o : Nat) (v : W64) : (setReg s o v).fabric = s.fabric := rfl
@[simp] theorem setReg_cfg (s : State) (o : Nat) (v : W64) : (setReg s o v).cfg = s.cfg := rfl
@[simp] theorem setReg_flash (s : State) (o : Nat) (v : W64) : (setReg s o v).flash = s.flash := rfl
@[simp] theorem setReg_mgmt (s : State) (o : Nat) (v : W64) : (setReg s o v).mgmt = s.mgmt := rfl
@[simp] theorem setReg_dbgPort (s : State) (o : Nat) (v : W64) : (setReg s o v).dbgPort = s.dbgPort := rfl
@[simp] theorem setReg_power (s : State) (o : Nat) (v : W64) : (setReg s o v).power = s.power := rfl
@[simp] theorem setReg_msix (s : State) (o : Nat) (v : W64) : (setReg s o v).msix = s.msix := rfl
@[simp] theorem setReg_stipe (s : State) (o : Nat) (v : W64) : (setReg s o v).stipe = s.stipe := rfl

/-! ### setF -/

@[simp] theorem setF_pending (s : State) (f : Fld) (i v : Nat) : (setF s f i v).pending = s.pending := rfl
@[simp] theorem setF_free (s : State) (f : Fld) (i v : Nat) : (setF s f i v).free = s.free := rfl
@[simp] theorem setF_dev (s : State) (f : Fld) (i v : Nat) : (setF s f i v).dev = s.dev := rfl
@[simp] theorem setF_pins (s : State) (f : Fld) (i v : Nat) : (setF s f i v).pins = s.pins := rfl
@[simp] theorem setF_island (s : State) (f : Fld) (i v : Nat) : (setF s f i v).island = s.island := rfl
@[simp] theorem setF_counter (s : State) (f : Fld) (i v : Nat) : (setF s f i v).counter = s.counter := rfl
@[simp] theorem setF_lastRead (s : State) (f : Fld) (i v : Nat) : (setF s f i v).lastRead = s.lastRead := rfl
@[simp] theorem setF_shadows (s : State) (f : Fld) (i v : Nat) : (setF s f i v).shadows = s.shadows := rfl
@[simp] theorem setF_mem (s : State) (f : Fld) (i v : Nat) : (setF s f i v).mem = s.mem := rfl
@[simp] theorem setF_units (s : State) (f : Fld) (i v : Nat) : (setF s f i v).units = s.units := rfl
@[simp] theorem setF_upsets (s : State) (f : Fld) (i v : Nat) : (setF s f i v).upsets = s.upsets := rfl
@[simp] theorem setF_rhzUps (s : State) (f : Fld) (i v : Nat) : (setF s f i v).rhzUps = s.rhzUps := rfl
@[simp] theorem setF_seqUps (s : State) (f : Fld) (i v : Nat) : (setF s f i v).seqUps = s.seqUps := rfl
@[simp] theorem setF_queues (s : State) (f : Fld) (i v : Nat) : (setF s f i v).queues = s.queues := rfl
@[simp] theorem setF_fronds (s : State) (f : Fld) (i v : Nat) : (setF s f i v).fronds = s.fronds := rfl
@[simp] theorem setF_parts (s : State) (f : Fld) (i v : Nat) : (setF s f i v).parts = s.parts := rfl
@[simp] theorem setF_ports (s : State) (f : Fld) (i v : Nat) : (setF s f i v).ports = s.ports := rfl
@[simp] theorem setF_fabric (s : State) (f : Fld) (i v : Nat) : (setF s f i v).fabric = s.fabric := rfl
@[simp] theorem setF_cfg (s : State) (f : Fld) (i v : Nat) : (setF s f i v).cfg = s.cfg := rfl
@[simp] theorem setF_flash (s : State) (f : Fld) (i v : Nat) : (setF s f i v).flash = s.flash := rfl
@[simp] theorem setF_mgmt (s : State) (f : Fld) (i v : Nat) : (setF s f i v).mgmt = s.mgmt := rfl
@[simp] theorem setF_dbgPort (s : State) (f : Fld) (i v : Nat) : (setF s f i v).dbgPort = s.dbgPort := rfl
@[simp] theorem setF_power (s : State) (f : Fld) (i v : Nat) : (setF s f i v).power = s.power := rfl
@[simp] theorem setF_msix (s : State) (f : Fld) (i v : Nat) : (setF s f i v).msix = s.msix := rfl
@[simp] theorem setF_stipe (s : State) (f : Fld) (i v : Nat) : (setF s f i v).stipe = s.stipe := rfl

/-! ### setPart -/

@[simp] theorem setPart_pending (s : State) (p : Nat) (v : PartSt) : (setPart s p v).pending = s.pending := rfl
@[simp] theorem setPart_free (s : State) (p : Nat) (v : PartSt) : (setPart s p v).free = s.free := rfl
@[simp] theorem setPart_dev (s : State) (p : Nat) (v : PartSt) : (setPart s p v).dev = s.dev := rfl
@[simp] theorem setPart_pins (s : State) (p : Nat) (v : PartSt) : (setPart s p v).pins = s.pins := rfl
@[simp] theorem setPart_island (s : State) (p : Nat) (v : PartSt) : (setPart s p v).island = s.island := rfl
@[simp] theorem setPart_counter (s : State) (p : Nat) (v : PartSt) : (setPart s p v).counter = s.counter := rfl
@[simp] theorem setPart_regs (s : State) (p : Nat) (v : PartSt) : (setPart s p v).regs = s.regs := rfl
@[simp] theorem setPart_lastRead (s : State) (p : Nat) (v : PartSt) : (setPart s p v).lastRead = s.lastRead := rfl
@[simp] theorem setPart_shadows (s : State) (p : Nat) (v : PartSt) : (setPart s p v).shadows = s.shadows := rfl
@[simp] theorem setPart_mem (s : State) (p : Nat) (v : PartSt) : (setPart s p v).mem = s.mem := rfl
@[simp] theorem setPart_units (s : State) (p : Nat) (v : PartSt) : (setPart s p v).units = s.units := rfl
@[simp] theorem setPart_upsets (s : State) (p : Nat) (v : PartSt) : (setPart s p v).upsets = s.upsets := rfl
@[simp] theorem setPart_rhzUps (s : State) (p : Nat) (v : PartSt) : (setPart s p v).rhzUps = s.rhzUps := rfl
@[simp] theorem setPart_seqUps (s : State) (p : Nat) (v : PartSt) : (setPart s p v).seqUps = s.seqUps := rfl
@[simp] theorem setPart_queues (s : State) (p : Nat) (v : PartSt) : (setPart s p v).queues = s.queues := rfl
@[simp] theorem setPart_fronds (s : State) (p : Nat) (v : PartSt) : (setPart s p v).fronds = s.fronds := rfl
@[simp] theorem setPart_parts (s : State) (p : Nat) (v : PartSt) : (setPart s p v).parts = tblSet PartSt.idle s.parts p v := rfl
@[simp] theorem setPart_ports (s : State) (p : Nat) (v : PartSt) : (setPart s p v).ports = s.ports := rfl
@[simp] theorem setPart_fabric (s : State) (p : Nat) (v : PartSt) : (setPart s p v).fabric = s.fabric := rfl
@[simp] theorem setPart_cfg (s : State) (p : Nat) (v : PartSt) : (setPart s p v).cfg = s.cfg := rfl
@[simp] theorem setPart_flash (s : State) (p : Nat) (v : PartSt) : (setPart s p v).flash = s.flash := rfl
@[simp] theorem setPart_mgmt (s : State) (p : Nat) (v : PartSt) : (setPart s p v).mgmt = s.mgmt := rfl
@[simp] theorem setPart_dbgPort (s : State) (p : Nat) (v : PartSt) : (setPart s p v).dbgPort = s.dbgPort := rfl
@[simp] theorem setPart_power (s : State) (p : Nat) (v : PartSt) : (setPart s p v).power = s.power := rfl
@[simp] theorem setPart_msix (s : State) (p : Nat) (v : PartSt) : (setPart s p v).msix = s.msix := rfl
@[simp] theorem setPart_stipe (s : State) (p : Nat) (v : PartSt) : (setPart s p v).stipe = s.stipe := rfl

/-! ### modPart -/

@[simp] theorem modPart_pending (s : State) (p : Nat) (g : PartSt → PartSt) : (modPart s p g).pending = s.pending := rfl
@[simp] theorem modPart_free (s : State) (p : Nat) (g : PartSt → PartSt) : (modPart s p g).free = s.free := rfl
@[simp] theorem modPart_dev (s : State) (p : Nat) (g : PartSt → PartSt) : (modPart s p g).dev = s.dev := rfl
@[simp] theorem modPart_pins (s : State) (p : Nat) (g : PartSt → PartSt) : (modPart s p g).pins = s.pins := rfl
@[simp] theorem modPart_island (s : State) (p : Nat) (g : PartSt → PartSt) : (modPart s p g).island = s.island := rfl
@[simp] theorem modPart_counter (s : State) (p : Nat) (g : PartSt → PartSt) : (modPart s p g).counter = s.counter := rfl
@[simp] theorem modPart_regs (s : State) (p : Nat) (g : PartSt → PartSt) : (modPart s p g).regs = s.regs := rfl
@[simp] theorem modPart_lastRead (s : State) (p : Nat) (g : PartSt → PartSt) : (modPart s p g).lastRead = s.lastRead := rfl
@[simp] theorem modPart_shadows (s : State) (p : Nat) (g : PartSt → PartSt) : (modPart s p g).shadows = s.shadows := rfl
@[simp] theorem modPart_mem (s : State) (p : Nat) (g : PartSt → PartSt) : (modPart s p g).mem = s.mem := rfl
@[simp] theorem modPart_units (s : State) (p : Nat) (g : PartSt → PartSt) : (modPart s p g).units = s.units := rfl
@[simp] theorem modPart_upsets (s : State) (p : Nat) (g : PartSt → PartSt) : (modPart s p g).upsets = s.upsets := rfl
@[simp] theorem modPart_rhzUps (s : State) (p : Nat) (g : PartSt → PartSt) : (modPart s p g).rhzUps = s.rhzUps := rfl
@[simp] theorem modPart_seqUps (s : State) (p : Nat) (g : PartSt → PartSt) : (modPart s p g).seqUps = s.seqUps := rfl
@[simp] theorem modPart_queues (s : State) (p : Nat) (g : PartSt → PartSt) : (modPart s p g).queues = s.queues := rfl
@[simp] theorem modPart_fronds (s : State) (p : Nat) (g : PartSt → PartSt) : (modPart s p g).fronds = s.fronds := rfl
@[simp] theorem modPart_parts (s : State) (p : Nat) (g : PartSt → PartSt) : (modPart s p g).parts = tblSet PartSt.idle s.parts p (g (getPart s p)) := rfl
@[simp] theorem modPart_ports (s : State) (p : Nat) (g : PartSt → PartSt) : (modPart s p g).ports = s.ports := rfl
@[simp] theorem modPart_fabric (s : State) (p : Nat) (g : PartSt → PartSt) : (modPart s p g).fabric = s.fabric := rfl
@[simp] theorem modPart_cfg (s : State) (p : Nat) (g : PartSt → PartSt) : (modPart s p g).cfg = s.cfg := rfl
@[simp] theorem modPart_flash (s : State) (p : Nat) (g : PartSt → PartSt) : (modPart s p g).flash = s.flash := rfl
@[simp] theorem modPart_mgmt (s : State) (p : Nat) (g : PartSt → PartSt) : (modPart s p g).mgmt = s.mgmt := rfl
@[simp] theorem modPart_dbgPort (s : State) (p : Nat) (g : PartSt → PartSt) : (modPart s p g).dbgPort = s.dbgPort := rfl
@[simp] theorem modPart_power (s : State) (p : Nat) (g : PartSt → PartSt) : (modPart s p g).power = s.power := rfl
@[simp] theorem modPart_msix (s : State) (p : Nat) (g : PartSt → PartSt) : (modPart s p g).msix = s.msix := rfl
@[simp] theorem modPart_stipe (s : State) (p : Nat) (g : PartSt → PartSt) : (modPart s p g).stipe = s.stipe := rfl

/-! ### setFrond -/

@[simp] theorem setFrond_pending (s : State) (f : Nat) (v : FrondSt) : (setFrond s f v).pending = s.pending := rfl
@[simp] theorem setFrond_free (s : State) (f : Nat) (v : FrondSt) : (setFrond s f v).free = s.free := rfl
@[simp] theorem setFrond_dev (s : State) (f : Nat) (v : FrondSt) : (setFrond s f v).dev = s.dev := rfl
@[simp] theorem setFrond_pins (s : State) (f : Nat) (v : FrondSt) : (setFrond s f v).pins = s.pins := rfl
@[simp] theorem setFrond_island (s : State) (f : Nat) (v : FrondSt) : (setFrond s f v).island = s.island := rfl
@[simp] theorem setFrond_counter (s : State) (f : Nat) (v : FrondSt) : (setFrond s f v).counter = s.counter := rfl
@[simp] theorem setFrond_regs (s : State) (f : Nat) (v : FrondSt) : (setFrond s f v).regs = s.regs := rfl
@[simp] theorem setFrond_lastRead (s : State) (f : Nat) (v : FrondSt) : (setFrond s f v).lastRead = s.lastRead := rfl
@[simp] theorem setFrond_shadows (s : State) (f : Nat) (v : FrondSt) : (setFrond s f v).shadows = s.shadows := rfl
@[simp] theorem setFrond_mem (s : State) (f : Nat) (v : FrondSt) : (setFrond s f v).mem = s.mem := rfl
@[simp] theorem setFrond_units (s : State) (f : Nat) (v : FrondSt) : (setFrond s f v).units = s.units := rfl
@[simp] theorem setFrond_upsets (s : State) (f : Nat) (v : FrondSt) : (setFrond s f v).upsets = s.upsets := rfl
@[simp] theorem setFrond_rhzUps (s : State) (f : Nat) (v : FrondSt) : (setFrond s f v).rhzUps = s.rhzUps := rfl
@[simp] theorem setFrond_seqUps (s : State) (f : Nat) (v : FrondSt) : (setFrond s f v).seqUps = s.seqUps := rfl
@[simp] theorem setFrond_queues (s : State) (f : Nat) (v : FrondSt) : (setFrond s f v).queues = s.queues := rfl
@[simp] theorem setFrond_fronds (s : State) (f : Nat) (v : FrondSt) : (setFrond s f v).fronds = tblSet FrondSt.empty s.fronds f v := rfl
@[simp] theorem setFrond_parts (s : State) (f : Nat) (v : FrondSt) : (setFrond s f v).parts = s.parts := rfl
@[simp] theorem setFrond_ports (s : State) (f : Nat) (v : FrondSt) : (setFrond s f v).ports = s.ports := rfl
@[simp] theorem setFrond_fabric (s : State) (f : Nat) (v : FrondSt) : (setFrond s f v).fabric = s.fabric := rfl
@[simp] theorem setFrond_cfg (s : State) (f : Nat) (v : FrondSt) : (setFrond s f v).cfg = s.cfg := rfl
@[simp] theorem setFrond_flash (s : State) (f : Nat) (v : FrondSt) : (setFrond s f v).flash = s.flash := rfl
@[simp] theorem setFrond_mgmt (s : State) (f : Nat) (v : FrondSt) : (setFrond s f v).mgmt = s.mgmt := rfl
@[simp] theorem setFrond_dbgPort (s : State) (f : Nat) (v : FrondSt) : (setFrond s f v).dbgPort = s.dbgPort := rfl
@[simp] theorem setFrond_power (s : State) (f : Nat) (v : FrondSt) : (setFrond s f v).power = s.power := rfl
@[simp] theorem setFrond_msix (s : State) (f : Nat) (v : FrondSt) : (setFrond s f v).msix = s.msix := rfl
@[simp] theorem setFrond_stipe (s : State) (f : Nat) (v : FrondSt) : (setFrond s f v).stipe = s.stipe := rfl

/-! ### modFrond -/

@[simp] theorem modFrond_pending (s : State) (f : Nat) (g : FrondSt → FrondSt) : (modFrond s f g).pending = s.pending := rfl
@[simp] theorem modFrond_free (s : State) (f : Nat) (g : FrondSt → FrondSt) : (modFrond s f g).free = s.free := rfl
@[simp] theorem modFrond_dev (s : State) (f : Nat) (g : FrondSt → FrondSt) : (modFrond s f g).dev = s.dev := rfl
@[simp] theorem modFrond_pins (s : State) (f : Nat) (g : FrondSt → FrondSt) : (modFrond s f g).pins = s.pins := rfl
@[simp] theorem modFrond_island (s : State) (f : Nat) (g : FrondSt → FrondSt) : (modFrond s f g).island = s.island := rfl
@[simp] theorem modFrond_counter (s : State) (f : Nat) (g : FrondSt → FrondSt) : (modFrond s f g).counter = s.counter := rfl
@[simp] theorem modFrond_regs (s : State) (f : Nat) (g : FrondSt → FrondSt) : (modFrond s f g).regs = s.regs := rfl
@[simp] theorem modFrond_lastRead (s : State) (f : Nat) (g : FrondSt → FrondSt) : (modFrond s f g).lastRead = s.lastRead := rfl
@[simp] theorem modFrond_shadows (s : State) (f : Nat) (g : FrondSt → FrondSt) : (modFrond s f g).shadows = s.shadows := rfl
@[simp] theorem modFrond_mem (s : State) (f : Nat) (g : FrondSt → FrondSt) : (modFrond s f g).mem = s.mem := rfl
@[simp] theorem modFrond_units (s : State) (f : Nat) (g : FrondSt → FrondSt) : (modFrond s f g).units = s.units := rfl
@[simp] theorem modFrond_upsets (s : State) (f : Nat) (g : FrondSt → FrondSt) : (modFrond s f g).upsets = s.upsets := rfl
@[simp] theorem modFrond_rhzUps (s : State) (f : Nat) (g : FrondSt → FrondSt) : (modFrond s f g).rhzUps = s.rhzUps := rfl
@[simp] theorem modFrond_seqUps (s : State) (f : Nat) (g : FrondSt → FrondSt) : (modFrond s f g).seqUps = s.seqUps := rfl
@[simp] theorem modFrond_queues (s : State) (f : Nat) (g : FrondSt → FrondSt) : (modFrond s f g).queues = s.queues := rfl
@[simp] theorem modFrond_fronds (s : State) (f : Nat) (g : FrondSt → FrondSt) : (modFrond s f g).fronds = tblSet FrondSt.empty s.fronds f (g (getFrond s f)) := rfl
@[simp] theorem modFrond_parts (s : State) (f : Nat) (g : FrondSt → FrondSt) : (modFrond s f g).parts = s.parts := rfl
@[simp] theorem modFrond_ports (s : State) (f : Nat) (g : FrondSt → FrondSt) : (modFrond s f g).ports = s.ports := rfl
@[simp] theorem modFrond_fabric (s : State) (f : Nat) (g : FrondSt → FrondSt) : (modFrond s f g).fabric = s.fabric := rfl
@[simp] theorem modFrond_cfg (s : State) (f : Nat) (g : FrondSt → FrondSt) : (modFrond s f g).cfg = s.cfg := rfl
@[simp] theorem modFrond_flash (s : State) (f : Nat) (g : FrondSt → FrondSt) : (modFrond s f g).flash = s.flash := rfl
@[simp] theorem modFrond_mgmt (s : State) (f : Nat) (g : FrondSt → FrondSt) : (modFrond s f g).mgmt = s.mgmt := rfl
@[simp] theorem modFrond_dbgPort (s : State) (f : Nat) (g : FrondSt → FrondSt) : (modFrond s f g).dbgPort = s.dbgPort := rfl
@[simp] theorem modFrond_power (s : State) (f : Nat) (g : FrondSt → FrondSt) : (modFrond s f g).power = s.power := rfl
@[simp] theorem modFrond_msix (s : State) (f : Nat) (g : FrondSt → FrondSt) : (modFrond s f g).msix = s.msix := rfl
@[simp] theorem modFrond_stipe (s : State) (f : Nat) (g : FrondSt → FrondSt) : (modFrond s f g).stipe = s.stipe := rfl

/-! ### setSlot -/

@[simp] theorem setSlot_pending (s : State) (f k : Nat) (v : SlotSt) : (setSlot s f k v).pending = s.pending := rfl
@[simp] theorem setSlot_free (s : State) (f k : Nat) (v : SlotSt) : (setSlot s f k v).free = s.free := rfl
@[simp] theorem setSlot_dev (s : State) (f k : Nat) (v : SlotSt) : (setSlot s f k v).dev = s.dev := rfl
@[simp] theorem setSlot_pins (s : State) (f k : Nat) (v : SlotSt) : (setSlot s f k v).pins = s.pins := rfl
@[simp] theorem setSlot_island (s : State) (f k : Nat) (v : SlotSt) : (setSlot s f k v).island = s.island := rfl
@[simp] theorem setSlot_counter (s : State) (f k : Nat) (v : SlotSt) : (setSlot s f k v).counter = s.counter := rfl
@[simp] theorem setSlot_regs (s : State) (f k : Nat) (v : SlotSt) : (setSlot s f k v).regs = s.regs := rfl
@[simp] theorem setSlot_lastRead (s : State) (f k : Nat) (v : SlotSt) : (setSlot s f k v).lastRead = s.lastRead := rfl
@[simp] theorem setSlot_shadows (s : State) (f k : Nat) (v : SlotSt) : (setSlot s f k v).shadows = s.shadows := rfl
@[simp] theorem setSlot_mem (s : State) (f k : Nat) (v : SlotSt) : (setSlot s f k v).mem = s.mem := rfl
@[simp] theorem setSlot_units (s : State) (f k : Nat) (v : SlotSt) : (setSlot s f k v).units = s.units := rfl
@[simp] theorem setSlot_upsets (s : State) (f k : Nat) (v : SlotSt) : (setSlot s f k v).upsets = s.upsets := rfl
@[simp] theorem setSlot_rhzUps (s : State) (f k : Nat) (v : SlotSt) : (setSlot s f k v).rhzUps = s.rhzUps := rfl
@[simp] theorem setSlot_seqUps (s : State) (f k : Nat) (v : SlotSt) : (setSlot s f k v).seqUps = s.seqUps := rfl
@[simp] theorem setSlot_queues (s : State) (f k : Nat) (v : SlotSt) : (setSlot s f k v).queues = s.queues := rfl
@[simp] theorem setSlot_parts (s : State) (f k : Nat) (v : SlotSt) : (setSlot s f k v).parts = s.parts := rfl
@[simp] theorem setSlot_ports (s : State) (f k : Nat) (v : SlotSt) : (setSlot s f k v).ports = s.ports := rfl
@[simp] theorem setSlot_fabric (s : State) (f k : Nat) (v : SlotSt) : (setSlot s f k v).fabric = s.fabric := rfl
@[simp] theorem setSlot_cfg (s : State) (f k : Nat) (v : SlotSt) : (setSlot s f k v).cfg = s.cfg := rfl
@[simp] theorem setSlot_flash (s : State) (f k : Nat) (v : SlotSt) : (setSlot s f k v).flash = s.flash := rfl
@[simp] theorem setSlot_mgmt (s : State) (f k : Nat) (v : SlotSt) : (setSlot s f k v).mgmt = s.mgmt := rfl
@[simp] theorem setSlot_dbgPort (s : State) (f k : Nat) (v : SlotSt) : (setSlot s f k v).dbgPort = s.dbgPort := rfl
@[simp] theorem setSlot_power (s : State) (f k : Nat) (v : SlotSt) : (setSlot s f k v).power = s.power := rfl
@[simp] theorem setSlot_msix (s : State) (f k : Nat) (v : SlotSt) : (setSlot s f k v).msix = s.msix := rfl
@[simp] theorem setSlot_stipe (s : State) (f k : Nat) (v : SlotSt) : (setSlot s f k v).stipe = s.stipe := rfl

/-! ### setPort -/

@[simp] theorem setPort_pending (s : State) (p : Nat) (v : PortSt) : (setPort s p v).pending = s.pending := rfl
@[simp] theorem setPort_free (s : State) (p : Nat) (v : PortSt) : (setPort s p v).free = s.free := rfl
@[simp] theorem setPort_dev (s : State) (p : Nat) (v : PortSt) : (setPort s p v).dev = s.dev := rfl
@[simp] theorem setPort_pins (s : State) (p : Nat) (v : PortSt) : (setPort s p v).pins = s.pins := rfl
@[simp] theorem setPort_island (s : State) (p : Nat) (v : PortSt) : (setPort s p v).island = s.island := rfl
@[simp] theorem setPort_counter (s : State) (p : Nat) (v : PortSt) : (setPort s p v).counter = s.counter := rfl
@[simp] theorem setPort_regs (s : State) (p : Nat) (v : PortSt) : (setPort s p v).regs = s.regs := rfl
@[simp] theorem setPort_lastRead (s : State) (p : Nat) (v : PortSt) : (setPort s p v).lastRead = s.lastRead := rfl
@[simp] theorem setPort_shadows (s : State) (p : Nat) (v : PortSt) : (setPort s p v).shadows = s.shadows := rfl
@[simp] theorem setPort_mem (s : State) (p : Nat) (v : PortSt) : (setPort s p v).mem = s.mem := rfl
@[simp] theorem setPort_units (s : State) (p : Nat) (v : PortSt) : (setPort s p v).units = s.units := rfl
@[simp] theorem setPort_upsets (s : State) (p : Nat) (v : PortSt) : (setPort s p v).upsets = s.upsets := rfl
@[simp] theorem setPort_rhzUps (s : State) (p : Nat) (v : PortSt) : (setPort s p v).rhzUps = s.rhzUps := rfl
@[simp] theorem setPort_seqUps (s : State) (p : Nat) (v : PortSt) : (setPort s p v).seqUps = s.seqUps := rfl
@[simp] theorem setPort_queues (s : State) (p : Nat) (v : PortSt) : (setPort s p v).queues = s.queues := rfl
@[simp] theorem setPort_fronds (s : State) (p : Nat) (v : PortSt) : (setPort s p v).fronds = s.fronds := rfl
@[simp] theorem setPort_parts (s : State) (p : Nat) (v : PortSt) : (setPort s p v).parts = s.parts := rfl
@[simp] theorem setPort_ports (s : State) (p : Nat) (v : PortSt) : (setPort s p v).ports = tblSet PortSt.down s.ports p v := rfl
@[simp] theorem setPort_fabric (s : State) (p : Nat) (v : PortSt) : (setPort s p v).fabric = s.fabric := rfl
@[simp] theorem setPort_cfg (s : State) (p : Nat) (v : PortSt) : (setPort s p v).cfg = s.cfg := rfl
@[simp] theorem setPort_flash (s : State) (p : Nat) (v : PortSt) : (setPort s p v).flash = s.flash := rfl
@[simp] theorem setPort_mgmt (s : State) (p : Nat) (v : PortSt) : (setPort s p v).mgmt = s.mgmt := rfl
@[simp] theorem setPort_dbgPort (s : State) (p : Nat) (v : PortSt) : (setPort s p v).dbgPort = s.dbgPort := rfl
@[simp] theorem setPort_power (s : State) (p : Nat) (v : PortSt) : (setPort s p v).power = s.power := rfl
@[simp] theorem setPort_msix (s : State) (p : Nat) (v : PortSt) : (setPort s p v).msix = s.msix := rfl
@[simp] theorem setPort_stipe (s : State) (p : Nat) (v : PortSt) : (setPort s p v).stipe = s.stipe := rfl

/-! ### modPort -/

@[simp] theorem modPort_pending (s : State) (p : Nat) (g : PortSt → PortSt) : (modPort s p g).pending = s.pending := rfl
@[simp] theorem modPort_free (s : State) (p : Nat) (g : PortSt → PortSt) : (modPort s p g).free = s.free := rfl
@[simp] theorem modPort_dev (s : State) (p : Nat) (g : PortSt → PortSt) : (modPort s p g).dev = s.dev := rfl
@[simp] theorem modPort_pins (s : State) (p : Nat) (g : PortSt → PortSt) : (modPort s p g).pins = s.pins := rfl
@[simp] theorem modPort_island (s : State) (p : Nat) (g : PortSt → PortSt) : (modPort s p g).island = s.island := rfl
@[simp] theorem modPort_counter (s : State) (p : Nat) (g : PortSt → PortSt) : (modPort s p g).counter = s.counter := rfl
@[simp] theorem modPort_regs (s : State) (p : Nat) (g : PortSt → PortSt) : (modPort s p g).regs = s.regs := rfl
@[simp] theorem modPort_lastRead (s : State) (p : Nat) (g : PortSt → PortSt) : (modPort s p g).lastRead = s.lastRead := rfl
@[simp] theorem modPort_shadows (s : State) (p : Nat) (g : PortSt → PortSt) : (modPort s p g).shadows = s.shadows := rfl
@[simp] theorem modPort_mem (s : State) (p : Nat) (g : PortSt → PortSt) : (modPort s p g).mem = s.mem := rfl
@[simp] theorem modPort_units (s : State) (p : Nat) (g : PortSt → PortSt) : (modPort s p g).units = s.units := rfl
@[simp] theorem modPort_upsets (s : State) (p : Nat) (g : PortSt → PortSt) : (modPort s p g).upsets = s.upsets := rfl
@[simp] theorem modPort_rhzUps (s : State) (p : Nat) (g : PortSt → PortSt) : (modPort s p g).rhzUps = s.rhzUps := rfl
@[simp] theorem modPort_seqUps (s : State) (p : Nat) (g : PortSt → PortSt) : (modPort s p g).seqUps = s.seqUps := rfl
@[simp] theorem modPort_queues (s : State) (p : Nat) (g : PortSt → PortSt) : (modPort s p g).queues = s.queues := rfl
@[simp] theorem modPort_fronds (s : State) (p : Nat) (g : PortSt → PortSt) : (modPort s p g).fronds = s.fronds := rfl
@[simp] theorem modPort_parts (s : State) (p : Nat) (g : PortSt → PortSt) : (modPort s p g).parts = s.parts := rfl
@[simp] theorem modPort_ports (s : State) (p : Nat) (g : PortSt → PortSt) : (modPort s p g).ports = tblSet PortSt.down s.ports p (g (getPort s p)) := rfl
@[simp] theorem modPort_fabric (s : State) (p : Nat) (g : PortSt → PortSt) : (modPort s p g).fabric = s.fabric := rfl
@[simp] theorem modPort_cfg (s : State) (p : Nat) (g : PortSt → PortSt) : (modPort s p g).cfg = s.cfg := rfl
@[simp] theorem modPort_flash (s : State) (p : Nat) (g : PortSt → PortSt) : (modPort s p g).flash = s.flash := rfl
@[simp] theorem modPort_mgmt (s : State) (p : Nat) (g : PortSt → PortSt) : (modPort s p g).mgmt = s.mgmt := rfl
@[simp] theorem modPort_dbgPort (s : State) (p : Nat) (g : PortSt → PortSt) : (modPort s p g).dbgPort = s.dbgPort := rfl
@[simp] theorem modPort_power (s : State) (p : Nat) (g : PortSt → PortSt) : (modPort s p g).power = s.power := rfl
@[simp] theorem modPort_msix (s : State) (p : Nat) (g : PortSt → PortSt) : (modPort s p g).msix = s.msix := rfl
@[simp] theorem modPort_stipe (s : State) (p : Nat) (g : PortSt → PortSt) : (modPort s p g).stipe = s.stipe := rfl

/-! ### setQ -/

@[simp] theorem setQ_pending (s : State) (q : QueueId) (v : QueueSt) : (setQ s q v).pending = s.pending := rfl
@[simp] theorem setQ_free (s : State) (q : QueueId) (v : QueueSt) : (setQ s q v).free = s.free := rfl
@[simp] theorem setQ_dev (s : State) (q : QueueId) (v : QueueSt) : (setQ s q v).dev = s.dev := rfl
@[simp] theorem setQ_pins (s : State) (q : QueueId) (v : QueueSt) : (setQ s q v).pins = s.pins := rfl
@[simp] theorem setQ_island (s : State) (q : QueueId) (v : QueueSt) : (setQ s q v).island = s.island := rfl
@[simp] theorem setQ_counter (s : State) (q : QueueId) (v : QueueSt) : (setQ s q v).counter = s.counter := rfl
@[simp] theorem setQ_regs (s : State) (q : QueueId) (v : QueueSt) : (setQ s q v).regs = s.regs := rfl
@[simp] theorem setQ_lastRead (s : State) (q : QueueId) (v : QueueSt) : (setQ s q v).lastRead = s.lastRead := rfl
@[simp] theorem setQ_shadows (s : State) (q : QueueId) (v : QueueSt) : (setQ s q v).shadows = s.shadows := rfl
@[simp] theorem setQ_mem (s : State) (q : QueueId) (v : QueueSt) : (setQ s q v).mem = s.mem := rfl
@[simp] theorem setQ_units (s : State) (q : QueueId) (v : QueueSt) : (setQ s q v).units = s.units := rfl
@[simp] theorem setQ_upsets (s : State) (q : QueueId) (v : QueueSt) : (setQ s q v).upsets = s.upsets := rfl
@[simp] theorem setQ_rhzUps (s : State) (q : QueueId) (v : QueueSt) : (setQ s q v).rhzUps = s.rhzUps := rfl
@[simp] theorem setQ_seqUps (s : State) (q : QueueId) (v : QueueSt) : (setQ s q v).seqUps = s.seqUps := rfl
@[simp] theorem setQ_queues (s : State) (q : QueueId) (v : QueueSt) : (setQ s q v).queues = tblSet QueueSt.empty s.queues (qNum q) v := rfl
@[simp] theorem setQ_fronds (s : State) (q : QueueId) (v : QueueSt) : (setQ s q v).fronds = s.fronds := rfl
@[simp] theorem setQ_parts (s : State) (q : QueueId) (v : QueueSt) : (setQ s q v).parts = s.parts := rfl
@[simp] theorem setQ_ports (s : State) (q : QueueId) (v : QueueSt) : (setQ s q v).ports = s.ports := rfl
@[simp] theorem setQ_fabric (s : State) (q : QueueId) (v : QueueSt) : (setQ s q v).fabric = s.fabric := rfl
@[simp] theorem setQ_cfg (s : State) (q : QueueId) (v : QueueSt) : (setQ s q v).cfg = s.cfg := rfl
@[simp] theorem setQ_flash (s : State) (q : QueueId) (v : QueueSt) : (setQ s q v).flash = s.flash := rfl
@[simp] theorem setQ_mgmt (s : State) (q : QueueId) (v : QueueSt) : (setQ s q v).mgmt = s.mgmt := rfl
@[simp] theorem setQ_dbgPort (s : State) (q : QueueId) (v : QueueSt) : (setQ s q v).dbgPort = s.dbgPort := rfl
@[simp] theorem setQ_power (s : State) (q : QueueId) (v : QueueSt) : (setQ s q v).power = s.power := rfl
@[simp] theorem setQ_msix (s : State) (q : QueueId) (v : QueueSt) : (setQ s q v).msix = s.msix := rfl
@[simp] theorem setQ_stipe (s : State) (q : QueueId) (v : QueueSt) : (setQ s q v).stipe = s.stipe := rfl

/-! ### modQ -/

@[simp] theorem modQ_pending (s : State) (q : QueueId) (g : QueueSt → QueueSt) : (modQ s q g).pending = s.pending := rfl
@[simp] theorem modQ_free (s : State) (q : QueueId) (g : QueueSt → QueueSt) : (modQ s q g).free = s.free := rfl
@[simp] theorem modQ_dev (s : State) (q : QueueId) (g : QueueSt → QueueSt) : (modQ s q g).dev = s.dev := rfl
@[simp] theorem modQ_pins (s : State) (q : QueueId) (g : QueueSt → QueueSt) : (modQ s q g).pins = s.pins := rfl
@[simp] theorem modQ_island (s : State) (q : QueueId) (g : QueueSt → QueueSt) : (modQ s q g).island = s.island := rfl
@[simp] theorem modQ_counter (s : State) (q : QueueId) (g : QueueSt → QueueSt) : (modQ s q g).counter = s.counter := rfl
@[simp] theorem modQ_regs (s : State) (q : QueueId) (g : QueueSt → QueueSt) : (modQ s q g).regs = s.regs := rfl
@[simp] theorem modQ_lastRead (s : State) (q : QueueId) (g : QueueSt → QueueSt) : (modQ s q g).lastRead = s.lastRead := rfl
@[simp] theorem modQ_shadows (s : State) (q : QueueId) (g : QueueSt → QueueSt) : (modQ s q g).shadows = s.shadows := rfl
@[simp] theorem modQ_mem (s : State) (q : QueueId) (g : QueueSt → QueueSt) : (modQ s q g).mem = s.mem := rfl
@[simp] theorem modQ_units (s : State) (q : QueueId) (g : QueueSt → QueueSt) : (modQ s q g).units = s.units := rfl
@[simp] theorem modQ_upsets (s : State) (q : QueueId) (g : QueueSt → QueueSt) : (modQ s q g).upsets = s.upsets := rfl
@[simp] theorem modQ_rhzUps (s : State) (q : QueueId) (g : QueueSt → QueueSt) : (modQ s q g).rhzUps = s.rhzUps := rfl
@[simp] theorem modQ_seqUps (s : State) (q : QueueId) (g : QueueSt → QueueSt) : (modQ s q g).seqUps = s.seqUps := rfl
@[simp] theorem modQ_queues (s : State) (q : QueueId) (g : QueueSt → QueueSt) : (modQ s q g).queues = tblSet QueueSt.empty s.queues (qNum q) (g (getQ s q)) := rfl
@[simp] theorem modQ_fronds (s : State) (q : QueueId) (g : QueueSt → QueueSt) : (modQ s q g).fronds = s.fronds := rfl
@[simp] theorem modQ_parts (s : State) (q : QueueId) (g : QueueSt → QueueSt) : (modQ s q g).parts = s.parts := rfl
@[simp] theorem modQ_ports (s : State) (q : QueueId) (g : QueueSt → QueueSt) : (modQ s q g).ports = s.ports := rfl
@[simp] theorem modQ_fabric (s : State) (q : QueueId) (g : QueueSt → QueueSt) : (modQ s q g).fabric = s.fabric := rfl
@[simp] theorem modQ_cfg (s : State) (q : QueueId) (g : QueueSt → QueueSt) : (modQ s q g).cfg = s.cfg := rfl
@[simp] theorem modQ_flash (s : State) (q : QueueId) (g : QueueSt → QueueSt) : (modQ s q g).flash = s.flash := rfl
@[simp] theorem modQ_mgmt (s : State) (q : QueueId) (g : QueueSt → QueueSt) : (modQ s q g).mgmt = s.mgmt := rfl
@[simp] theorem modQ_dbgPort (s : State) (q : QueueId) (g : QueueSt → QueueSt) : (modQ s q g).dbgPort = s.dbgPort := rfl
@[simp] theorem modQ_power (s : State) (q : QueueId) (g : QueueSt → QueueSt) : (modQ s q g).power = s.power := rfl
@[simp] theorem modQ_msix (s : State) (q : QueueId) (g : QueueSt → QueueSt) : (modQ s q g).msix = s.msix := rfl
@[simp] theorem modQ_stipe (s : State) (q : QueueId) (g : QueueSt → QueueSt) : (modQ s q g).stipe = s.stipe := rfl

/-! ### poisonUnit -/

@[simp] theorem poisonUnit_pending (s : State) (u : Nat) : (poisonUnit s u).pending = s.pending := rfl
@[simp] theorem poisonUnit_free (s : State) (u : Nat) : (poisonUnit s u).free = s.free := rfl
@[simp] theorem poisonUnit_dev (s : State) (u : Nat) : (poisonUnit s u).dev = s.dev := rfl
@[simp] theorem poisonUnit_pins (s : State) (u : Nat) : (poisonUnit s u).pins = s.pins := rfl
@[simp] theorem poisonUnit_island (s : State) (u : Nat) : (poisonUnit s u).island = s.island := rfl
@[simp] theorem poisonUnit_counter (s : State) (u : Nat) : (poisonUnit s u).counter = s.counter := rfl
@[simp] theorem poisonUnit_regs (s : State) (u : Nat) : (poisonUnit s u).regs = s.regs := rfl
@[simp] theorem poisonUnit_lastRead (s : State) (u : Nat) : (poisonUnit s u).lastRead = s.lastRead := rfl
@[simp] theorem poisonUnit_shadows (s : State) (u : Nat) : (poisonUnit s u).shadows = s.shadows := rfl
@[simp] theorem poisonUnit_mem (s : State) (u : Nat) : (poisonUnit s u).mem = s.mem := rfl
@[simp] theorem poisonUnit_upsets (s : State) (u : Nat) : (poisonUnit s u).upsets = s.upsets := rfl
@[simp] theorem poisonUnit_rhzUps (s : State) (u : Nat) : (poisonUnit s u).rhzUps = s.rhzUps := rfl
@[simp] theorem poisonUnit_seqUps (s : State) (u : Nat) : (poisonUnit s u).seqUps = s.seqUps := rfl
@[simp] theorem poisonUnit_queues (s : State) (u : Nat) : (poisonUnit s u).queues = s.queues := rfl
@[simp] theorem poisonUnit_fronds (s : State) (u : Nat) : (poisonUnit s u).fronds = s.fronds := rfl
@[simp] theorem poisonUnit_parts (s : State) (u : Nat) : (poisonUnit s u).parts = s.parts := rfl
@[simp] theorem poisonUnit_ports (s : State) (u : Nat) : (poisonUnit s u).ports = s.ports := rfl
@[simp] theorem poisonUnit_fabric (s : State) (u : Nat) : (poisonUnit s u).fabric = s.fabric := rfl
@[simp] theorem poisonUnit_cfg (s : State) (u : Nat) : (poisonUnit s u).cfg = s.cfg := rfl
@[simp] theorem poisonUnit_flash (s : State) (u : Nat) : (poisonUnit s u).flash = s.flash := rfl
@[simp] theorem poisonUnit_mgmt (s : State) (u : Nat) : (poisonUnit s u).mgmt = s.mgmt := rfl
@[simp] theorem poisonUnit_dbgPort (s : State) (u : Nat) : (poisonUnit s u).dbgPort = s.dbgPort := rfl
@[simp] theorem poisonUnit_power (s : State) (u : Nat) : (poisonUnit s u).power = s.power := rfl
@[simp] theorem poisonUnit_msix (s : State) (u : Nat) : (poisonUnit s u).msix = s.msix := rfl
@[simp] theorem poisonUnit_stipe (s : State) (u : Nat) : (poisonUnit s u).stipe = s.stipe := rfl

/-! ### Readers after an update -/

theorem getReg_setReg_same {s : State} {o : Nat} {v : W64} (h : TablesOk s) : getReg (setReg s o v) o = v := by
  unfold getReg setReg
  simp only
  rw [tblFind_tblPut_same h.regs]
  split
  · rename_i e; exact e.symm
  · rfl

theorem getReg_setReg_ne {s : State} {o j : Nat} {v : W64} (h : TablesOk s) (hj : j ≠ o) :
    getReg (setReg s o v) j = getReg s j := by
  unfold getReg setReg
  simp only
  rw [tblFind_tblPut_ne h.regs hj]

theorem getPart_setPart_same {s : State} {p : Nat} {v : PartSt} (h : TablesOk s) : getPart (setPart s p v) p = v :=
  tblGet_tblSet_same h.parts.1

theorem getPart_setPart_ne {s : State} {p j : Nat} {v : PartSt} (h : TablesOk s) (hj : j ≠ p) :
    getPart (setPart s p v) j = getPart s j :=
  tblGet_tblSet_ne h.parts.1 hj

theorem getFrond_setFrond_same {s : State} {f : Nat} {v : FrondSt} (h : TablesOk s) : getFrond (setFrond s f v) f = v :=
  tblGet_tblSet_same h.fronds.1

theorem getFrond_setFrond_ne {s : State} {f j : Nat} {v : FrondSt} (h : TablesOk s) (hj : j ≠ f) :
    getFrond (setFrond s f v) j = getFrond s j :=
  tblGet_tblSet_ne h.fronds.1 hj

theorem getPort_setPort_same {s : State} {p : Nat} {v : PortSt} (h : TablesOk s) : getPort (setPort s p v) p = v :=
  tblGet_tblSet_same h.ports.1

theorem getPort_setPort_ne {s : State} {p j : Nat} {v : PortSt} (h : TablesOk s) (hj : j ≠ p) :
    getPort (setPort s p v) j = getPort s j :=
  tblGet_tblSet_ne h.ports.1 hj

theorem getQ_setQ_same {s : State} {q : QueueId} {v : QueueSt} (h : TablesOk s) : getQ (setQ s q v) q = v :=
  tblGet_tblSet_same h.queues.1

theorem getQ_setQ_ne {s : State} {q r : QueueId} {v : QueueSt} (h : TablesOk s) (hq : qNum r ≠ qNum q) :
    getQ (setQ s q v) r = getQ s r :=
  tblGet_tblSet_ne h.queues.1 hq

end Sys2Proof.Laws
end

