-- ==== Sys2Proof/Machine/Lands.lean ====
section
/-! DEFINITION. The lands of the package (R548 to R550) and what the low-speed outputs show (R559). -/

namespace Sys2Proof.Machine

/-- A land: its row from the north edge and its column from the west edge. -/
abbrev Land := Nat × Nat

/-- The land of a pair's half (R549): port, lane, RX or TX, N or P. -/
def portLand (p lane : Nat) (rx neg : Bool) : Land :=
  let row := [1, 9, 81, 89].getD (p / 9) 0
  let u := (if lane < 2 then 2 else 4) + (if rx then 4 else 0)
  let v := (if lane % 2 = 0 then 2 else 6) + (if neg then 1 else 0)
  (row + u - 1, 13 + 8 * (p % 9) + v - 1)

/-- The port and the lane that carry a host lane (R550). -/
def hostLane (h : Nat) : Nat × Nat := (32 + h / 4, h % 4)

/-- The low-speed block (R549). -/
def lowSpeedLands : List (String × Land) :=
  [("REFCLK_P", 3, 2), ("REFCLK_N", 3, 3), ("HOST_REFCLK_P", 3, 6), ("HOST_REFCLK_N", 3, 7), ("TCK", 7, 2), ("TMS", 7, 4),
   ("TDI", 7, 6), ("TDO", 7, 8), ("TRST_N", 7, 10), ("RESET_N", 10, 2), ("PERST_N", 10, 4)] ++
  [("PGOOD", 10, 6), ("INT_N", 10, 8), ("HOST_SEL", 10, 10), ("PMB_SCL", 13, 2), ("PMB_SDA", 13, 4), ("FLOW_REQ", 13, 6),
   ("FLOW_TACH", 13, 8), ("TIN_A", 15, 2), ("TIN_B", 15, 4), ("TOUT_A", 15, 6), ("TOUT_B", 15, 8)]

/-- The group of a land (R548). -/
inductive LandGroup where
  | port (p : Nat) | lowSpeed | aux33 | in48 | rsvd | gnd
  deriving DecidableEq, Repr

/-- The groups of R548: a port's block with its shields, and the groups beside the ports. -/
def landGroup (l : Land) : LandGroup :=
  let (r, c) := l
  let band : Option Nat :=
    if 1 ≤ r ∧ r ≤ 16 then some ((r - 1) / 8) else if 81 ≤ r ∧ r ≤ 96 then some (2 + (r - 81) / 8) else none
  let beside : LandGroup :=
    if lowSpeedLands.any (fun x => x.2 == l) then .lowSpeed
    else if r = 17 ∧ 1 ≤ c ∧ c ≤ 4 then .aux33
    else if 41 ≤ r ∧ r ≤ 56 ∧ (1 ≤ c ∧ c ≤ 4 ∨ 93 ≤ c ∧ c ≤ 96) then .in48
    else if 81 ≤ r ∧ r ≤ 96 ∧ 1 ≤ c ∧ c ≤ 4 then .rsvd
    else .gnd
  match band with
  | some b => if 13 ≤ c ∧ c ≤ 84 then .port (9 * b + (c - 13) / 8) else beside
  | none => beside

/-- What an open-drain output does; none where the land is not driven. -/
inductive OpenDrain where
  | low | released
  deriving DecidableEq, Repr

/-- PGOOD (R559); it follows IN48 alone (R553). -/
def pgoodLand (s : State) : Option OpenDrain :=
  match s.dev with
  | .off => none
  | .standby => some .low
  | _ => some (if s.pins.in48 then .released else .low)

/-- INT_N (R491, R559). -/
def intNLand (s : State) : Option OpenDrain :=
  match s.dev with
  | .off => none
  | .standby => some .released
  | _ => some (if intLow s then .low else .released)

/-- PMB_SCL and PMB_SDA between two polls (R533, R559). -/
def pmbusLands (s : State) : Option OpenDrain := if s.dev = .off then none else some .released

end Sys2Proof.Machine
end

