-- ==== Sys2Proof/Tests/Slice0.lean ====
section
/-! SUPPORT. The model's own tests: the commands that are not well formed, values that the spec states, and for every statement
with hypotheses a state and operands that meet them. -/

namespace Sys2Proof.Tests

set_option Elab.async false

open Sys2Proof Sys2Proof.Machine Sys2Proof.Claims Sys2Proof.Safety Sys2Proof.Frame Sys2Proof.Laws

/-! ### Helpers -/

/-- TablesOk as a test. -/
def tablesB (s : State) : Bool :=
  decide (s.regs.Pairwise (fun a b => a.1 < b.1)) && s.regs.all (fun e => decide (e.2 ≠ BitVec.ofNat 64 (regReset e.1)))
  && decide (TblWf QueueSt.empty s.queues) && decide (TblWf FrondSt.empty s.fronds)
  && s.fronds.all (fun e => decide (TblWf SlotSt.empty e.2.slots)) && decide (TblWf PartSt.idle s.parts)
  && decide (TblWf PortSt.down s.ports)

theorem tables_of {s : State} (h : tablesB s = true) : TablesOk s := by
  simp only [tablesB, Bool.and_eq_true, List.all_eq_true, decide_eq_true_eq] at h
  obtain ⟨⟨⟨⟨⟨⟨h1, h2⟩, h3⟩, h4⟩, h5⟩, h6⟩, h7⟩ := h
  exact ⟨h1, h2, h3, h4, h5, h6, h7⟩

/-- MemOk as a test. -/
def memB (s : State) : Bool :=
  decide (Memory.wf s.mem) && decide (TblWf UnitMeta.zero s.units) && decide (TblWf Upset.zero s.upsets)

theorem mem_of {s : State} (h : memB s = true) : MemOk s := by
  simp only [memB, Bool.and_eq_true, decide_eq_true_eq] at h
  exact ⟨h.1.1, h.1.2, h.2⟩

/-- Accepts as a test. -/
def effB : Verdict → Bool
  | .effect .. => true
  | _ => false

theorem accepts_of {v : Verdict} (h : effB v = true) : Accepts v := by
  cases v with
  | wait => exact absurd h (by simp [effB])
  | reject => exact absurd h (by simp [effB])
  | effect s st d k w => exact ⟨s, st, d, k, w, rfl⟩

/-- FreeToIssue as a test. -/
def freeB (s : State) (q : QueueId) (n : W32) (op : Nat) (used : List (Nat × Nat)) : Bool :=
  decide (entOp (entryBytes s q n) = op) && canIssue s q n && !bpHit s q n && s.seqUps.all (fun x => x.queue != qNum q)
  && (commonChecks (fetchEntry s q n) q n (entryBytes s q n) used).isNone

theorem free_of {s : State} {q : QueueId} {n : W32} {op : Nat} {used : List (Nat × Nat)} (h : freeB s q n op used = true) :
    FreeToIssue s q n op used := by
  simp only [freeB, Bool.and_eq_true, decide_eq_true_eq, List.all_eq_true, Bool.not_eq_true', bne_iff_ne, ne_eq,
    Option.isNone_iff_eq_none] at h
  obtain ⟨⟨⟨⟨h1, h2⟩, h3⟩, h4⟩, h5⟩ := h
  exact ⟨h1, h2, h3, h4, h5⟩

/-- Numbers at byte offsets: (offset, bytes, value), by ascending offset. -/
abbrev Fields := List (Nat × Nat × Nat)

/-- The bytes of fields, in `n` bytes. -/
def packed (n : Nat) (l : Fields) : List Byte :=
  l.foldl (fun b x => spliceB b x.1 (leBytes x.2.1 x.2.2)) (List.replicate n 0#8)

/-- Memory that holds fields at ascending addresses. -/
def laid (l : List (Nat × Fields)) : List Host.Cell :=
  l.flatMap (fun x => x.2.flatMap (fun f => ((leBytes f.2.1 f.2.2).zipIdx).filterMap (fun b =>
    if b.1 = 0 then none else some (x.1 + f.1 + b.2, b.1))))

/-- An entry with its opcode and parameters; its marks are none. -/
def entry (op : Nat) (l : Fields) : Fields := [(0, 1, op), (8, 6, 0xFFFFFFFFFFFF)] ++ l

/-- A descriptor: family, width, extents, strides, address of the elements and the metas; it names no shard. -/
def descOf (fam width : Nat) (ext str : List Nat) (base metas slot : Nat) (blk : Nat := 0) : Fields :=
  [(0, 8, fam + 8 * (width - 1) + 64 * (ext.length - 1) + 512 * blk + 4096)] ++
    ((List.range 6).map (fun d => (8 + 4 * d, 4, ext.getD d 1))) ++ ((str.zipIdx).map (fun x => (32 + 6 * x.2, 6, x.1))) ++
    [(72, 8, base), (80, 8, metas), (104, 4, slot), (120, 8, 0xFFFF)]

/-- Partition 0: cushion 0, granule 0 of stack 0, port 0, sixteen descriptors at 0x1000. -/
def part0 : PartCfg :=
  { cushions := 1, granules := 3, ports := 1, descBase := 0x1000, descCount := 16, rungRing := 0x10000, rungDepth := 4,
    normRing := 0x11000, normDepth := 4, retainBase := 0x100000, retainGiB := 1, jitBase := 0x12000, stagingBase := 0x13000,
    stagingGiB := 1, reserveBase := 0x20000, reserve64ths := 4, stormFootprint := none, ckptInterval := 100,
    troubleSteps := 4, stormLog2 := 3, clipNorm := one32, skipTensor := false, rolloutEvery := 100, drainGiveup := 10,
    partWeight := 1, remoteTimeoutUs := 100, rescaleMax := 4, redGiveup := 10, retractLimit := 4, paired := false,
    buddy := none, pgateIdleUs := 100 }

def gemm0 : GemmCfg := ⟨0, 0, 0, 32, false⟩
def layer0 : LayerCfg := ⟨0, 1, gemm0, gemm0, gemm0, 4, false, false⟩

def image0 : ImageCfg := { parts := [(0, part0)], layers := [layer0] }

def stored (c : ImageCfg) : StoredImage := { StoredImage.builtIn with cfg := c }

/-- The device in READY under an image, with memory. -/
def ready (c : ImageCfg) (m : List (Nat × Fields)) : State :=
  { State.reset with dev := .ready, cfg := { CfgSt.reset with committed := stored c, floorOk := true }, mem := laid m }

/-- Partition 0 in a state. -/
def inState (p : PartState) (s : State) : State := { s with parts := [(0, { PartSt.idle with state := p })] }

/-- Queue `q` with TAIL at 1: entry 0 is exposed. -/
def exposing (q : QueueId) (s : State) : State := setQ s q { QueueSt.empty with tail := 1 }

/-- Partition 0 runs, and entry 0 of queue `q` is exposed, at address 0, with descriptors and other memory. -/
def runningC (c : ImageCfg) (q : QueueId) (e : Fields) (m : List (Nat × Fields)) : State :=
  exposing q (inState .running (ready c ((0, e) :: m)))
def running (q : QueueId) (e : Fields) (m : List (Nat × Fields)) : State := runningC image0 q e m

/-! ### Commands that are not well formed -/

def msg0 : Msg := {}
def arr (mtype vc : Nat) : Arrival := ⟨0, vc, 0, { mtype := mtype, dst := 5, src := 6 }⟩
def zeroFlit : FlitIn := ⟨List.replicate 256 0#8, false, 0, 0⟩
def badFeed : FeedRead := ⟨8, 0, false⟩

theorem test_ill_queue : (Instr.nop (.frond 288) 0).wellFormed = false ∧ (Instr.fence (.cushion 24) 0).wellFormed = false ∧
    (Instr.stepCommit (.anchor 8) 0).wellFormed = false ∧ (Instr.drainedToIdle 8).wellFormed = false := by decide +kernel
theorem test_ill_frond : (Instr.fadd 288).wellFormed = false ∧ (Instr.endChunk 288).wellFormed = false ∧
    (Instr.clockGate 288).wellFormed = false ∧ (Instr.lockstepRetry 288 true).wellFormed = false := by decide +kernel
theorem test_ill_requester : (Instr.resume .device (.host 4096)).wellFormed = false ∧
    (Instr.tail .device (.peer 4096) .w64 0).wellFormed = false ∧
    (Instr.fwUpdate (.sequencer 288) 0).wellFormed = false := by decide +kernel
theorem test_ill_access : (Instr.registerWrite ⟨.lichen, 2 ^ 30, .w64⟩ 0).wellFormed = false ∧
    (Instr.clearingRead ⟨.host 4096, 0, .w64⟩ 0).wellFormed = false := by decide +kernel
theorem test_ill_port : (Instr.flitTime 36).wellFormed = false ∧ (Instr.portReset 36 .lichen).wellFormed = false ∧
    (Instr.dataFlit 36 zeroFlit).wellFormed = false := by decide +kernel
theorem test_ill_flit : (Instr.nullFlit 0 ⟨List.replicate 255 0#8, false, 0, 0⟩).wellFormed = false := by decide +kernel
theorem test_ill_arrival : (Instr.write ⟨36, 0, 0, msg0⟩).wellFormed = false ∧ (Instr.write ⟨0, 16, 0, msg0⟩).wellFormed = false ∧
    (Instr.write ⟨0, 0, 3, msg0⟩).wellFormed = false := by decide +kernel
theorem test_ill_message :
    (∀ m ∈ ([{ dst := 4096 }, { src := 4096 }, { part := 16 }, { mtype := 256 }, { flags := 256 }, { hops := 16 }, { tag := 65536 },
      { status := 256 }, { seqno := 2 ^ 32 }, { addr := 2 ^ 64 }, { payload := List.replicate 257 0#8 }] : List Msg),
      (Instr.forward ⟨0, 0, 0, m⟩).wellFormed = false) := by decide +kernel
theorem test_ill_host : (Instr.hostRequest ⟨false, 0, 0, 0, [], [], false, 0, 0⟩).wellFormed = false ∧
    (Instr.hostRequest ⟨false, 0, 0, 4097, [], [], false, 0, 0⟩).wellFormed = false ∧
    (Instr.hostRequest ⟨true, 0, 0, 2, [0#8], [], false, 0, 0⟩).wellFormed = false := by decide +kernel
theorem test_ill_feeds : (Instr.bootCommit [badFeed]).wellFormed = false ∧ (Instr.commit .device 0 [badFeed]).wellFormed = false ∧
    (Instr.gossipRunStart [⟨0, 2 ^ 32, false⟩]).wellFormed = false ∧ (Instr.routeGossip ⟨0, 0, 0, msg0⟩ [badFeed]).wellFormed = false := by
  decide +kernel
theorem test_ill_numbers : (Instr.remoteTimeout 65536 0).wellFormed = false ∧ (Instr.hdmaPtrRd 16 .lichen 0).wellFormed = false ∧
    (Instr.redGiveup 8 0 0).wellFormed = false ∧ (Instr.drainGiveup 0 258 0).wellFormed = false ∧
    (Instr.startupLate (.stage 5) 0).wellFormed = false ∧ (Instr.granuleZeroed 768).wellFormed = false ∧
    (Instr.hbmTrainingEnd 12 true).wellFormed = false ∧ (Instr.hbmTempReadout 0 256).wellFormed = false := by decide +kernel
theorem test_ill_channels : (Instr.mailboxGo 320 .lichen 0).wellFormed = false ∧ (Instr.echo 32).wellFormed = false ∧
    (Instr.sequencerLogRecord 31).wellFormed = false ∧ (Instr.lichenReply 32 0 []).wellFormed = false := by decide +kernel
theorem test_ill_sensors : (Instr.thermalSample 240 0).wellFormed = false ∧ (Instr.railSample 10 0 0 0).wellFormed = false ∧
    (Instr.coolantLimit 65536 0 0).wellFormed = false ∧ (Instr.sensorFault 253).wellFormed = false ∧
    (Instr.governorWindow 65536 false [] []).wellFormed = false ∧ (Instr.pllStop 2 0).wellFormed = false := by decide +kernel
theorem test_ill_tests : (Instr.testDue 312).wellFormed = false ∧ (Instr.understoryTest ⟨336, false⟩).wellFormed = false ∧
    (Instr.testComplete 336 true).wellFormed = false := by decide +kernel
theorem test_ill_port_scans : (Instr.dbgUnlock [] true).wellFormed = false ∧ (Instr.dbgSel 65536).wellFormed = false ∧
    (Instr.bpSet 4 0).wellFormed = false ∧ (Instr.bpSet 0 (2 ^ 48)).wellFormed = false ∧ (Instr.bpClr 4).wellFormed = false ∧
    (Instr.dbgRead 4 0).wellFormed = false ∧ (Instr.dbgWrite 0 (2 ^ 48)).wellFormed = false := by decide +kernel
theorem test_well_formed : (Instr.nop (.frond 287) 0).wellFormed = true ∧ (Instr.fadd 287).wellFormed = true ∧
    (Instr.write (arr 0 0)).wellFormed = true ∧ (Instr.drainGiveup 7 2 0).wellFormed = true ∧
    (Instr.dbgSel 65535).wellFormed = true := by decide +kernel

/-! ### Witnesses: the machine -/

theorem test_witness_StepRunsFront : { State.reset with pending := [.idcode] }.pending = .idcode :: [] := rfl
theorem test_witness_EmptyQueueTicks : (State.reset.pending = [] ∧ State.reset.island = true) ∧
    ({ State.reset with island := false }.pending = [] ∧ { State.reset with island := false }.island = false) :=
  ⟨⟨rfl, rfl⟩, rfl, rfl⟩
theorem test_witness_StepKeeps : MemOk { State.reset with pending := [.idcode] } ∧
    TablesOk { State.reset with pending := [.idcode] } ∧ ∃ t, step { State.reset with pending := [.idcode] } = .next t :=
  ⟨mem_of (by decide +kernel), tables_of (by decide +kernel), _, rfl⟩
theorem test_witness_Frame : (∃ t, exec .idcode State.reset = .next t) ∧ Area.mem ∉ touches .idcode ∧ Area.regs ∉ touches .idcode :=
  ⟨⟨_, rfl⟩, by decide, by decide⟩
theorem test_witness_CountersNeverDecrease : ∃ t, step { State.reset with pending := [.pufReconstruct true] } = .next t := ⟨_, rfl⟩

/-! ### Witnesses: the vector engine's instructions -/

/-- A lane of row 0 whose predicate K0 is `p`. -/
def laneOf (k : Nat) (p : Nat) : Lane := ⟨0, k, k, 0, k, [0x3F800000#32, 0x40000000#32, 2#32, 0#32], p, false⟩

/-- One wide descriptor of 4 elements at 0x8000. -/
def d4 : Fields := descOf 6 1 [4] [1] 0x8000 0 0

/-- A run whose program is one instruction of operation `op` (DST 3, A 0, B 1, C 2) and END, with four lanes, three of which take
part; a second row would follow only where `rows` is more than 1. -/
def runOf (op : Nat) (rows : Nat) : VRun where
  q := .frond 0
  n := 0
  mb := 0
  entry := packed 128 (entry 0x20 [(34, 8, 0xFFFFFFFFFFFFFFFF), (44, 2, 0xFFFF)])
  cfg := { prog := ⟨1, false, [BitVec.ofNat 64 (op + 3 * 2 ^ 8 + 2 ^ 20 + 2 * 2 ^ 26), 0x3F#64]⟩
           ins := [some (parseDesc (packed 128 d4), one32)], have_ := [true, false], quant := [false, false]
           vrows := [some (parseDesc (packed 128 d4))], vcols := [some (parseDesc (packed 128 d4))], scalars := [], seed := 7, clip := one32
           ext := [4, rows, 1, 1, 1, 1], outs := [some (parseDesc (packed 128 d4))], panel := 0 }
  draw := 0
  next := 1
  lanes := [laneOf 0 1, laneOf 1 1, laneOf 2 0, laneOf 3 1]
  pc := 0
  stores := []
  faults := []
  poisoned := []
  blocks := []
  groups := []

def withRun (r : VRun) : State :=
  { inState .running (ready image0 [(0x1000, d4)]) with fronds := [(0, { FrondSt.empty with vrun := some r })] }
def laneState (op : Nat) : State := withRun (runOf op 1)
def laneIns (op : Nat) : PIns := decodeIns (BitVec.ofNat 64 (op + 3 * 2 ^ 8 + 2 ^ 20 + 2 * 2 ^ 26))

theorem withRun_vrun (r : VRun) : (getFrond (withRun r) 0).vrun = some r := by
  simp only [getFrond, withRun, tblGet, tblFind]; rfl

theorem at_lane {op : Nat} (h : frondWorks (laneState op) 0 = true) : AtInstr (laneState op) 0 (runOf op 1) (laneIns op) :=
  ⟨withRun_vrun _, h, by simp [runOf, laneIns]⟩

/-- Every operation code of a table of instructions has its witness. -/
def lanesB (ops : List Nat) : Bool :=
  ops.all (fun op => tablesB (laneState op) && frondWorks (laneState op) 0 && decide ((laneIns op).op = op))

theorem lanes_of {ops : List Nat} (h : lanesB ops = true) : ∀ op ∈ ops, TablesOk (laneState op) ∧
    AtInstr (laneState op) 0 (runOf op 1) (laneIns op) ∧ (laneIns op).op = op := by
  intro op ho
  have h1 := List.all_eq_true.1 h op ho
  simp only [Bool.and_eq_true, decide_eq_true_eq] at h1
  exact ⟨tables_of h1.1.1, at_lane h1.1.2, h1.2⟩

theorem test_witness_LaneOperations :
    (∀ op ∈ aluRows.map (·.op), TablesOk (laneState op) ∧ AtInstr (laneState op) 0 (runOf op 1) (laneIns op) ∧ (laneIns op).op = op) ∧
    (∀ op ∈ predRows.map (·.op), TablesOk (laneState op) ∧ AtInstr (laneState op) 0 (runOf op 1) (laneIns op) ∧ (laneIns op).op = op) :=
  ⟨lanes_of (by decide +kernel), lanes_of (by decide +kernel)⟩
theorem test_witness_LaneReductions :
    ∀ op ∈ redRows.map (·.op), TablesOk (laneState op) ∧ AtInstr (laneState op) 0 (runOf op 1) (laneIns op) ∧ (laneIns op).op = op :=
  lanes_of (by decide +kernel)
theorem test_witness_LaneLoadsAndStores :
    (∀ op ∈ loadRows.map (·.2), TablesOk (laneState op) ∧ AtInstr (laneState op) 0 (runOf op 1) (laneIns op) ∧ (laneIns op).op = op) ∧
    (TablesOk (laneState 0x31) ∧ AtInstr (laneState 0x31) 0 (runOf 0x31 1) (laneIns 0x31) ∧ (laneIns 0x31).op = 0x31) :=
  ⟨lanes_of (by decide +kernel), lanes_of (ops := [0x31]) (by decide +kernel) _ (List.mem_singleton.2 rfl)⟩

/-- A run that stands at END: with one row it ends, with more the next bundle follows. -/
def endRun (rows : Nat) : VRun := { runOf 0x3F rows with pc := 0 }
theorem test_witness_EndOfBundle :
    (∃ i, AtInstr (withRun (endRun 1)) 0 (endRun 1) i ∧ i.op = 0x3F ∧ ownerOfFrond (withRun (endRun 1)) 0 = some 0 ∧
      (nextBundle (endRun 1)).lanes = []) ∧
    (∃ i, AtInstr (withRun (endRun 2)) 0 (endRun 2) i ∧ i.op = 0x3F ∧ ownerOfFrond (withRun (endRun 2)) 0 = some 0 ∧
      (nextBundle (endRun 2)).lanes ≠ []) :=
  ⟨⟨laneIns 0x3F, ⟨withRun_vrun _, by decide +kernel, by simp [endRun, runOf, laneIns]⟩, by decide +kernel, by decide +kernel, by decide +kernel⟩,
   ⟨laneIns 0x3F, ⟨withRun_vrun _, by decide +kernel, by simp [endRun, runOf, laneIns]⟩, by decide +kernel, by decide +kernel, by decide +kernel⟩⟩

theorem test_fadd_lane : (match exec (.fadd 0) (laneState 0x01) with
    | .next t => (getFrond t 0).vrun.map (fun r => r.lanes.map (fun x => x.regs.getD 3 0))
    | _ => none) = some [0x40400000#32, 0x40400000#32, 0#32, 0x40400000#32] := by decide +kernel
theorem test_iadd_imul : (match exec (.iadd 0) (laneState 0x10), exec (.imul 0) (laneState 0x12) with
    | .next t, .next u => ((getFrond t 0).vrun.map (fun r => r.lanes.map (fun x => x.regs.getD 3 0)),
        (getFrond u 0).vrun.map (fun r => (r.lanes.map (fun x => x.regs.getD 3 0)).head?))
    | _, _ => (none, none)) = (some [0x7F800000#32, 0x7F800000#32, 0#32, 0x7F800000#32], some (some 0#32)) := by decide +kernel

/-! ### Witnesses: queues -/

def nopS (st : Nat) : State := running (.anchor 0) (entry 0x00 [(32, 1, st)]) []
def fenceS (fl : Nat) : State := running (.anchor 0) (entry 0x01 [(32, 1, fl)]) []

theorem test_witness_NopAndFence :
    (∀ st ∈ [0, 0x80, 0xFF], FreeToIssue (nopS st) (.anchor 0) 0 0x00 [(32, 1)] ∧
      (p8 (entryBytes (nopS st) (.anchor 0) 0) 32 = 0 ∨ 0x80 ≤ p8 (entryBytes (nopS st) (.anchor 0) 0) 32)) ∧
    (∀ st ∈ [1, 0x7F], FreeToIssue (nopS st) (.anchor 0) 0 0x00 [(32, 1)] ∧
      0 < p8 (entryBytes (nopS st) (.anchor 0) 0) 32 ∧ p8 (entryBytes (nopS st) (.anchor 0) 0) 32 < 0x80) ∧
    (∀ fl ∈ [0, 7], FreeToIssue (fenceS fl) (.anchor 0) 0 0x01 [(32, 1)] ∧ p8 (entryBytes (fenceS fl) (.anchor 0) 0) 32 < 8) ∧
    (∀ fl ∈ [8, 255], FreeToIssue (fenceS fl) (.anchor 0) 0 0x01 [(32, 1)] ∧ 8 ≤ p8 (entryBytes (fenceS fl) (.anchor 0) 0) 32) := by
  refine ⟨?_, ?_, ?_, ?_⟩ <;> intro x hx <;> refine ⟨free_of ?_, ?_⟩ <;> revert x <;> decide +kernel

theorem test_witness_IssuedEntryIsLive : TablesOk (nopS 0) := tables_of (by decide +kernel)

/-- Entry 0 of an anchor queue, live with a status and flags. -/
def issuedOf (op st fl par : Nat) : Issued := ⟨0, op, fl, 0xFFFF, 5, par, st, 0, false, .done⟩
def liveS (i : Issued) : State :=
  setQ (inState .running (ready image0 [])) (.anchor 0) { QueueSt.empty with tail := 1, issued := ⟨1, []⟩, live := [i] }
def haltedS (p : PartState) (i : Issued) : State :=
  setQ (inState p (ready image0 [])) (.anchor 0) { QueueSt.empty with tail := 1, issued := ⟨1, []⟩, record := ⟨1, []⟩, halted := [i] }

theorem noRepeat_live (i : Issued) : NoRepeat (liveS i) (.anchor 0) 0 := by
  intro p x hp
  have h0 : queueOwner (liveS i) (.anchor 0) = some 0 := rfl
  rw [h0] at hp
  cases hp
  intro h
  exact absurd h (by simp [liveS, inState, ready, getPart, setQ, tblGet, tblFind, PartSt.idle])

theorem test_witness_CompletionWritesRecord : ∀ st ∈ [stOK, stBounds], ∃ i, MemOk (liveS (issuedOf 0 st 0 0)) ∧
    TablesOk (liveS (issuedOf 0 st 0 0)) ∧ (getQ (liveS (issuedOf 0 st 0 0)) (.anchor 0)).live.find? (fun x => x.n == 0) = some i ∧
    i.waits = .done ∧ NoRepeat (liveS (issuedOf 0 st 0 0)) (.anchor 0) 0 ∧
    ringReach (liveS (issuedOf 0 st 0 0)) (.anchor 0) (cqBase (liveS (issuedOf 0 st 0 0)) (.anchor 0)) 16 = true ∧ heldFence (liveS (issuedOf 0 st 0 0)) (.anchor 0) i = false ∧
    mismatched (liveS (issuedOf 0 st 0 0)) (.anchor 0) 0 = false ∧ i.status ≠ stCheckFail ∧ i.opcode ≠ 0x01 ∧
    halting i.status = decide (st = stBounds) := by
  intro st h
  refine ⟨issuedOf 0 st 0 0, mem_of ?_, tables_of ?_, ?_, rfl, noRepeat_live _, ?_, ?_, ?_, ?_, ?_, ?_⟩ <;> revert st <;>
    decide +kernel

theorem test_witness_TailResumeSkip :
    (∀ w ∈ [AccWidth.w32, .w64], w ≠ .narrow ∧ Reached (ready image0 []) (.host 0) (qBase (.anchor 0) + 0x10) ∧
      ∀ v ∈ [0, 1024], ((BitVec.ofNat 64 v).setWidth 32 - (getQ (ready image0 []) (.anchor 0)).record.count).toNat ≤
          2 ^ ringLog2 (ready image0 []) (.anchor 0)) ∧
    2 ^ ringLog2 (ready image0 []) (.anchor 0) <
      ((1025#64).setWidth 32 - (getQ (ready image0 []) (.anchor 0)).record.count).toNat ∧
    (haltPos (getQ (haltedS .running (issuedOf 0 stBounds 8 0)) (.anchor 0)) = some (issuedOf 0 stBounds 8 0) ∧
      ctrlOpen (haltedS .running (issuedOf 0 stBounds 8 0)) (.anchor 0) = true ∧
      Reached (haltedS .running (issuedOf 0 stBounds 8 0)) (.host 0) (qBase (.anchor 0) + 0x20)) ∧
    (haltPos (getQ (ready image0 []) (.anchor 0)) = none ∧ Reached (ready image0 []) (.host 0) (qBase (.anchor 0) + 0x20)) ∧
    (ctrlOpen (haltedS .loaded (issuedOf 0 stBounds 0 0)) (.anchor 0) = false ∧
      Reached (haltedS .loaded (issuedOf 0 stBounds 0 0)) (.host 0) (qBase (.anchor 0) + 0x20)) := by
  unfold Reached; decide +kernel

def copyOf (v : Nat) (whole : Bool) : CopySt := ⟨v, whole, [], []⟩
def copyS (a c : Option CopySt) : State :=
  { liveS (issuedOf 1 0 0 4) with parts := [(0, { PartSt.idle with state := .running, active := a, incoming := c })] }

theorem test_witness_FenceActsAtCompletion :
    ((getQ (liveS (issuedOf 1 0 0 1)) (.anchor 0)).live.find? (fun x => x.n == 0) = some (issuedOf 1 0 0 1) ∧
      NoRepeat (liveS (issuedOf 1 0 0 1)) (.anchor 0) 0 ∧
      heldFence (liveS (issuedOf 1 0 0 1)) (.anchor 0) (issuedOf 1 0 0 1) = false ∧
      mismatched (liveS (issuedOf 1 0 0 1)) (.anchor 0) 0 = false ∧ queueOwner (liveS (issuedOf 1 0 0 1)) (.anchor 0) = some 0) ∧
    (∃ s c, (getPart s 0).incoming = some c ∧ c.complete = true ∧ (∀ a, (getPart s 0).active = some a → a.version < c.version)) ∧
    (∃ s c a, (getPart s 0).incoming = some c ∧ (getPart s 0).active = some a ∧ c.complete = true ∧ c.version ≤ a.version) ∧
    (∃ s c a, (getPart s 0).incoming = some c ∧ (getPart s 0).active = some a ∧ c.complete = false) :=
  ⟨⟨by decide +kernel, noRepeat_live _, by decide +kernel⟩, ⟨copyS (some (copyOf 1 true)) (some (copyOf 2 true)), copyOf 2 true, rfl, rfl, fun a h => by cases h; decide⟩,
   ⟨copyS (some (copyOf 2 true)) (some (copyOf 2 true)), copyOf 2 true, copyOf 2 true, rfl, rfl, rfl, by decide⟩,
   ⟨copyS (some (copyOf 2 true)) (some (copyOf 3 false)), copyOf 3 false, copyOf 2 true, rfl, rfl, rfl⟩⟩

/-! ### Witnesses: the commands of fronds and cushions -/

/-- Entry 0 of a queue is free to issue, its own rule accepts it, and the tables are in form; as a test. -/
def bodyB (s : State) (q : QueueId) (op : Nat) (used : List (Nat × Nat)) (v : Verdict) : Bool :=
  tablesB s && freeB s q 0 op used && effB v

theorem body_of {s : State} {q : QueueId} {op : Nat} {used : List (Nat × Nat)} {v : Verdict} (h : bodyB s q op used v = true) :
    TablesOk s ∧ FreeToIssue s q 0 op used ∧ Accepts v := by
  simp only [bodyB, Bool.and_eq_true] at h
  exact ⟨tables_of h.1.1, free_of h.1.2, accepts_of h.2⟩

theorem issue_of {s : State} {q : QueueId} {op : Nat} {used : List (Nat × Nat)} (h : (tablesB s && freeB s q 0 op used) = true) :
    TablesOk s ∧ FreeToIssue s q 0 op used := by
  simp only [Bool.and_eq_true] at h
  exact ⟨tables_of h.1, free_of h.2⟩

/-- The entry, and the context and state of its own rule. -/
def ent (s : State) (q : QueueId) : List Byte := entryBytes s q 0
def ctx (s : State) (q : QueueId) : Ctx := ctxOf s q 0 0

/-- A layer whose GEMMs have blocked operands, with one slot. -/
def gemmB : GemmCfg := ⟨0, 0, 8, 0, true⟩
def layerB : LayerCfg := ⟨0, 1, gemmB, gemmB, gemmB, 4, false, false⟩
def slotB : SlotCfg :=
  { part := 0, slot := 5, layer := 1, gemm := .fwd, side := .left, family := 0, width := 4, mode := .fixed, fixed := one32,
    depth := 1, headroom := 0, crush := 0, weight := false, budget := 0, shift := 0 }
def imageB : ImageCfg := { image0 with layers := [layerB], slots := [slotB] }

def matE : Fields := entry 0x10 [(34, 2, 0), (36, 2, 1), (52, 1, 1), (53, 1, 1)]
def matS : State := runningC imageB (.frond 0) matE
  [(0x1000, descOf 5 1 [16, 1] [1, 16] 0x8000 0 0xFFFFFFFF), (0x1080, descOf 5 1 [1, 16] [1, 1] 0x8100 0 0xFFFFFFFF)]

/-- The same with CONT = 1, into a slot that holds what it continues. -/
def contS : State :=
  { runningC imageB (.frond 0) (matE ++ [(55, 1, 1), (58, 2, 1)])
      [(0x1000, descOf 5 1 [16, 1] [1, 16] 0x8000 0 0xFFFFFFFF), (0x1080, descOf 5 1 [1, 16] [1, 1] 0x8100 0 0xFFFFFFFF)] with
    fronds := [(0, { FrondSt.empty with slots := [(0, ⟨.held, ⟨noSlot, 0, 1, 1⟩, 0, 0, 0, 0, one32, one32, 0, false,
      List.replicate 1024 one32⟩)] })] }

theorem test_witness_MatmulFillsSlots : ∀ s ∈ [matS, contS], (TablesOk s ∧ FreeToIssue s (.frond 0) 0 0x10 matmulUsed) ∧
    MatmulRuns (ctx s (.frond 0)) (atBody s (.frond 0) 0) (ent s (.frond 0)) := by
  intro s hs
  rcases List.mem_cons.1 hs with rfl | hs
  · exact ⟨issue_of (by decide +kernel), by unfold MatmulRuns; decide +kernel⟩
  · rcases List.mem_singleton.1 hs with rfl
    exact ⟨issue_of (by decide +kernel), by unfold MatmulRuns; decide +kernel⟩

/-- A DONE slot of one tile. -/
def doneSlot (seg : Nat) : SlotSt := ⟨.done, ⟨1, 0, 32, 32⟩, 0, 0, seg, seg, one32, one32, 0, false, List.replicate 1024 one32⟩
def storeS (retain : Nat) : State :=
  { running (.frond 0) (entry 0x11 [(33, 1, 1), (34, 1, 1), (38, 2, 0xFFFF), (46, 2, 0xFFFF), (48, 1, retain)])
      [(0x1000, descOf 6 1 [32, 32] [1, 32] 0x8000 0 0)] with
    fronds := [(0, { FrondSt.empty with slots := [(0, doneSlot 0)] })] }

theorem test_witness_StoreTilesStores : ∀ r ∈ [0, 1], (TablesOk (storeS r) ∧ FreeToIssue (storeS r) (.frond 0) 0 0x11 storeUsed ∧
      Accepts (storeBody (ctx (storeS r) (.frond 0)) (atBody (storeS r) (.frond 0) 0) (ent (storeS r) (.frond 0)))) ∧
    (parseStore (ent (storeS r) (.frond 0))).retain = r ∧ (parseStore (ent (storeS r) (.frond 0))).mode = 0 ∧
    (parseStore (ent (storeS r) (.frond 0))).db = 0xFFFF ∧ (parseStore (ent (storeS r) (.frond 0))).mask = 0xFFFF ∧
    ((readDesc (atBody (storeS r) (.frond 0) 0) 0 0).localize (atBody (storeS r) (.frond 0) 0) 0).count ≠ 0 := by
  intro r hr
  refine ⟨body_of ?_, ?_, ?_, ?_, ?_, ?_⟩ <;> revert r <;> decide +kernel

def foldS : State :=
  { running (.cushion 0) (entry 0x18 [(33, 1, 2), (34, 1, 1), (36, 2, 0xFFFF), (48, 4, 1)]) [] with
    fronds := [(0, { FrondSt.empty with slots := [(0, doneSlot 0)] }), (1, { FrondSt.empty with slots := [(0, doneSlot 1)] })] }
def sumS : State := running (.cushion 0)
  (entry 0x18 [(32, 1, 1), (33, 1, 2), (34, 1, 1), (36, 2, 0xFFFF), (40, 4, 0x800000), (44, 4, 0x800001), (48, 4, 0x800002)])
  [(0x1000, descOf 6 1 [4, 1] [1, 4] 0x8000 0 0), (0x1080, descOf 6 1 [4, 1] [1, 4] 0x8100 0 0),
    (0x1100, descOf 6 1 [4, 1] [1, 4] 0x8200 0 0)]

theorem test_witness_GatherAddFoldsAndSums :
    ((TablesOk foldS ∧ FreeToIssue foldS (.cushion 0) 0 0x18 (gatherUsed (ent foldS (.cushion 0)))) ∧
      FoldRuns (ctx foldS (.cushion 0)) (atBody foldS (.cushion 0) 0) (ent foldS (.cushion 0))) ∧
    (parseGather (ent foldS (.cushion 0))).tiles = 1 ∧
    ((TablesOk sumS ∧ FreeToIssue sumS (.cushion 0) 0 0x18 (gatherUsed (ent sumS (.cushion 0)))) ∧
      SumRuns (ctx sumS (.cushion 0)) (atBody sumS (.cushion 0) 0) (ent sumS (.cushion 0))) := by
  refine ⟨⟨issue_of (by decide +kernel), by unfold FoldRuns; decide +kernel⟩, by decide +kernel, issue_of (by decide +kernel), ?_⟩
  unfold SumRuns
  exact ⟨by decide +kernel, by decide +kernel, by decide +kernel, ⟨0, by decide +kernel⟩, by decide +kernel, by decide +kernel,
    by decide +kernel, by decide +kernel⟩

theorem test_witness_CommitWritesFrame : MemOk State.reset ∧ ∀ e ∈ wputs [] 5 [7#8], e.1 ≠ 6 :=
  ⟨mem_of (by decide +kernel), by decide +kernel⟩

/-- LAYER_CHECK of layer 1, with counts of slot 5. -/
def checkS (q t : Nat) : State :=
  let s := runningC imageB (.frond 0) (entry 0x12 [(32, 4, 1)]) []
  { s with parts := [(0, { PartSt.idle with state := .running, counts := [⟨5, 0, q, t, 0, 0⟩] })] }
theorem test_witness_LayerCheckCounts : ∀ t ∈ [0, 50],
    FreeToIssue (checkS 100 t) (.frond 0) 0 0x12 [(32, 5), (40, 4)] ∧ queueOwner (checkS 100 t) (.frond 0) = some 0 ∧
    (ladderLayers (checkS 100 t) 0).find? (fun l => l.layer == p32 (ent (checkS 100 t) (.frond 0)) 32) = some layerB ∧
    recompute (ent (checkS 100 t) (.frond 0)) = false ∧
    ((countUp (checkS 100 t) 0 1 0 0).q < (countUp (checkS 100 t) 0 1 0 0).t * 2 ^ layerB.thrLog2 ↔ t = 50) ∧
    (getPart (atBody (checkS 100 t) (.frond 0) 0) 0).repeats = none ∧
    earlierCheck (atBody (checkS 100 t) (.frond 0) 0) (ctx (checkS 100 t) (.frond 0)) = false ∧
    (getPart (checkS 100 t) 0).storm = none ∧ isRollout (checkS 100 t) 0 = false ∧ layerRung (checkS 100 t) 0 1 0 < 3 := by
  intro t ht
  refine ⟨free_of ?_, ?_, ?_, ?_, ?_, ?_, ?_, ?_, ?_, ?_⟩ <;> revert t <;> decide +kernel
/-- The one layer of the ladder falls: more than an eighth of the layers, so the step storms (R153). -/
theorem test_layer_falls : (getPart (fallBack (atBody (checkS 100 50) (.frond 0) 0) (ctx (checkS 100 50) (.frond 0)) layerB 0 0
    (countUp (atBody (checkS 100 50) (.frond 0) 0) 0 1 0 0)) 0).storm.isSome = true := by decide +kernel

/-- A program of END alone, with four registers: its header and its bytes. -/
def endProg : Prog := ⟨4, false, [0x3F#64]⟩
def loadS : State := running (.frond 0) (entry 0x23 [(40, 8, 0x9000)]) [(0x9000, [(0, 8, 132), (8, 8, 0x3F)])]
def vrunS : State :=
  { running (.frond 0) (entry 0x20 [(34, 8, 0xFFFFFFFFFFFFFFFF), (44, 2, 0xFFFF), (48, 8, 0xFFFFFFFFFFFFFFFF)]) [(0x1000, d4)] with
    fronds := [(0, { FrondSt.empty with progs := [⟨0, 0xFFFFFFFF#32, endProg⟩] })] }
theorem test_witness_ProgramsLoadAndRun :
    (TablesOk loadS ∧ FreeToIssue loadS (.frond 0) 0 0x23 [(32, 1), (40, 8)] ∧
      Accepts (loadBody (ctx loadS (.frond 0)) (atBody loadS (.frond 0) 0) (ent loadS (.frond 0)))) ∧
    (∀ w ∈ [false, true], TablesOk vrunS ∧ FreeToIssue vrunS (.frond 0) 0 0x20 vrunUsed ∧
      Accepts (vectorBody (ctx vrunS (.frond 0)) w (atBody vrunS (.frond 0) 0) (ent vrunS (.frond 0)))) ∧
    (((vrunHandles (ent vrunS (.frond 0))).map (vrunDesc (atBody vrunS (.frond 0) 0) (ctx vrunS (.frond 0)))).getD 4 none).map
      (·.count) = some 4 := by
  refine ⟨body_of (by decide +kernel), fun w hw => body_of ?_, by decide +kernel⟩
  revert w; decide +kernel

def smxS : State := running (.frond 0)
  (entry 0x21 [(34, 2, 0xFFFF), (44, 4, 0x3F800000), (48, 2, 1), (50, 4, 0xFFFFFFFF)])
  [(0x1000, d4), (0x1080, descOf 6 1 [4] [1] 0x8100 0 0)]
def smpS : State := running (.frond 0)
  (entry 0x22 [(34, 2, 1), (48, 4, 0x3F800000), (56, 4, 0x3F800000), (62, 2, 2)])
  [(0x1000, d4), (0x1080, descOf 6 1 [4] [1] 0x8100 0 0), (0x1100, descOf 6 1 [8] [1] 0x8200 0 0)]
theorem test_witness_SoftmaxAndSample :
    (TablesOk smxS ∧ FreeToIssue smxS (.frond 0) 0 0x21 softmaxUsed ∧
      Accepts (softmaxBody (ctx smxS (.frond 0)) (atBody smxS (.frond 0) 0) (ent smxS (.frond 0)))) ∧
    (readDesc (atBody smxS (.frond 0) 0) 0 0).count = 4 ∧ (readDesc (atBody smxS (.frond 0) 0) 0 1).blocked = false ∧
    (TablesOk smpS ∧ FreeToIssue smpS (.frond 0) 0 0x22 sampleUsed ∧
      Accepts (sampleBody (ctx smpS (.frond 0)) (atBody smpS (.frond 0) 0) (ent smpS (.frond 0)))) ∧
    (readDesc (atBody smpS (.frond 0) 0) 0 0).count ≠ 0 :=
  ⟨body_of (by decide +kernel), by decide +kernel, by decide +kernel, body_of (by decide +kernel), by decide +kernel⟩

/-! ### Witnesses: copies, updates and commits -/

def copyS2 : State := running (.frond 0) (entry 0x28 [(34, 2, 1)]) [(0x1000, d4), (0x1080, descOf 6 1 [4] [1] 0x8100 0 0)]
theorem test_witness_StreamCopyStores :
    ((TablesOk copyS2 ∧ FreeToIssue copyS2 (.frond 0) 0 0x28 copyUsed) ∧
      CopyRuns (ctx copyS2 (.frond 0)) (atBody copyS2 (.frond 0) 0) (ent copyS2 (.frond 0))) ∧
    (readDesc (atBody copyS2 (.frond 0) 0) 0 1).count = 4 ∧ (parseCopy (ent copyS2 (.frond 0))).croz = 0 ∧
    (readDesc (atBody copyS2 (.frond 0) 0) 0 1).blocked = false :=
  ⟨⟨issue_of (by decide +kernel), by unfold CopyRuns; decide +kernel⟩, by decide +kernel, by decide +kernel, by decide +kernel⟩

def copy0 : CopyAddr := ⟨0, 0, 0, 0, 0, 0, 0⟩
/-- Tensor 7 of layer 1: one row of four weights, without state slots. -/
def tensor7 : TensorCfg :=
  { part := 0, tensor := 7, layer := 1, rows := 1, cols := 4, updatable := true, slots := 0, slotBf16 := [], fwdSlot := 0xFFFFFFFF,
    bwdSlot := 0xFFFFFFFF, groupCode := 0, groupTable := 0, spill64ths := 0, clipMode := 1, clipNorm := one32, redHeadroom := 0,
    redInitLog2 := 0, shardGroup := 0xFFFF, set0 := ⟨0x8000, 0, 0, copy0, copy0, 0⟩, set1 := ⟨0x8100, 0, 0, copy0, copy0, 0⟩ }
def imageT : ImageCfg := { image0 with tensors := [tensor7] }
def g2Of : G2Rec := ⟨3, 7, 0x4000000000000000#64, 0x4000000000000000#64, 0, 1, false, false⟩
def updS (mode : Nat) : State :=
  { runningC imageT (.frond 0) (entry 0x30 [(32, 2, 7), (34, 1, mode), (40, 8, 3), (50, 2, 0xFFFF)])
      [(0x1000, descOf 6 1 [4, 1] [1, 4] 0x8200 0 0)] with
    parts := [(0, { PartSt.idle with state := .running, g2s := [g2Of] })]
    fronds := [(0, { FrondSt.empty with progs := [⟨0, 0xFFFFFFFF#32, endProg⟩] })] }
theorem test_witness_UpdateAndEmitOnly :
    ((TablesOk (updS 0) ∧ FreeToIssue (updS 0) (.frond 0) 0 0x30 updateUsed) ∧
      UpdateRuns (ctx (updS 0) (.frond 0)) (atBody (updS 0) (.frond 0) 0) (ent (updS 0) (.frond 0)) tensor7 endProg) ∧
    (finalG2 (atBody (updS 0) (.frond 0) 0) 0 3 7 = some g2Of ∧
      clipG (atBody (updS 0) (.frond 0) 0) 0 3 tensor7 = some 0x4000000000000000#64) ∧
    ((TablesOk (updS 1) ∧ FreeToIssue (updS 1) (.frond 0) 0 0x30 updateUsed) ∧
      EmitRuns (ctx (updS 1) (.frond 0)) (atBody (updS 1) (.frond 0) 0) (ent (updS 1) (.frond 0)) tensor7) ∧
    emitCalled (atBody (updS 1) (.frond 0) 0) (ctx (updS 1) (.frond 0)) tensor7 true = false :=
  ⟨⟨issue_of (by decide +kernel), by unfold UpdateRuns; decide +kernel⟩, by decide +kernel,
    ⟨issue_of (by decide +kernel), by unfold EmitRuns; decide +kernel⟩, by decide +kernel⟩

def commitS (step : Nat) : State := running (.anchor 0) (entry 0x31 [(32, 8, step)]) []
theorem test_witness_StepCommitEndsStep : ∀ k ∈ [1, 5], TablesOk (commitS k) ∧
    FreeToIssue (commitS k) (.anchor 0) 0 0x31 [(32, 8)] ∧
    (p64 (ent (commitS k) (.anchor 0)) 32 = getF (atBody (commitS k) (.anchor 0) 0) ANC_STEP_COUNT_STEP 0 + 1 ↔ k = 1) ∧
    updatesDone (atBody (commitS k) (.anchor 0) 0) 0 = true ∧ drainDone (atBody (commitS k) (.anchor 0) 0) 0 = true := by
  intro k hk
  refine ⟨tables_of ?_, free_of ?_, ?_, ?_, ?_⟩ <;> revert k <;> decide +kernel

/-! ### Witnesses: reductions and drains -/

def group1 (backup : Option (Nat × Nat)) : GroupCfg := ⟨1, [⟨5, 0, none⟩, ⟨6, 0, backup⟩], [2], 0, [], 1024, true, 0⟩
def imageG (backup : Option (Nat × Nat)) : ImageCfg := { image0 with groups := [group1 backup] }

/-- A device with address 5 whose port 0 is UP. -/
def linked (s : State) : State :=
  { s with fabric := { s.fabric with addr := some 5 }, ports := [(0, { PortSt.down with state := .up, usable := true })] }

/-- Tensor 7 of group 1 as declared: four FP32 values, whole on both members. -/
def red7 : RedTensor :=
  { tensor := 7, group := 1, axis := 0, scatter := false, desc := parseDesc (packed 128 d4), contribs := 1, me := 0, backup := false,
    exp0 := 100, passes := [], started := [], written := [], g2 := NormAcc.zero, norms := [], armed := [⟨1, 0, 0, 0⟩], asks := [] }
def epoch3 : EpochSt := { EpochSt.opened 3 0 with tensors := [red7] }

/-- Epoch 3 is open at partition 0. -/
def withEpoch (x : EpochSt) (s : State) : State :=
  { linked s with parts := [(0, { PartSt.idle with state := .running, epochs := [x] })] }
def redS (x : EpochSt) : State := withEpoch x (ready (imageG none) [(0x1000, d4)])

/-- A reduction message from member 1 for tensor 7 of epoch `e`, in an attempt. -/
def redMsg (mtype vc e attempt : Nat) (pl : List Byte) : Arrival :=
  ⟨0, vc, 0, { mtype := mtype, dst := 5, src := 6, part := 0, addr := redAddrField e 7 0 attempt false false, payload := pl }⟩
/-- A block of zeros with the agreed exponent and a count of members. -/
def blockPl (count : Nat) : List Byte := packed 74 [(64, 1, 100), (72, 2, count)]

theorem test_witness_ReductionCommands :
    (let s := linked (runningC (imageG none) (.anchor 0) (entry 0x38 [(32, 8, 3), (40, 2, 7), (42, 2, 1), (48, 2, 1)]) [(0x1000, d4)])
     TablesOk s ∧ FreeToIssue s (.anchor 0) 0 0x38 [(32, 18)] ∧
      Accepts (redTensorBody (ctx s (.anchor 0)) (atBody s (.anchor 0) 0) (ent s (.anchor 0)))) ∧
    (let s := withEpoch epoch3 (runningC (imageG none) (.frond 0)
        (entry 0x39 [(32, 8, 3), (40, 2, 7), (44, 6, 0xFFFFFFFFFFFF)]) [(0x1000, d4)])
     TablesOk s ∧ FreeToIssue s (.frond 0) 0 0x39 [(32, 19)] ∧
      Accepts (redContribBody (ctx s (.frond 0)) (atBody s (.frond 0) 0) (ent s (.frond 0)))) ∧
    (let s := withEpoch epoch3 (runningC (imageG none) (.anchor 0) (entry 0x3A [(32, 8, 3), (40, 2, 1)]) [])
     TablesOk s ∧ FreeToIssue s (.anchor 0) 0 0x3A [(32, 10)] ∧
      Accepts (redCloseBody (ctx s (.anchor 0)) (atBody s (.anchor 0) 0) (ent s (.anchor 0)))) :=
  ⟨body_of (by decide +kernel), body_of (by decide +kernel), body_of (by decide +kernel)⟩

theorem test_witness_ReductionBlocks :
    (TablesOk (redS epoch3) ∧ ∀ row ∈ [(0x40, 0), (0x41, 0), (0x42, 9), (0x43, 9)],
      Delivered (redS epoch3) (redMsg row.1 row.2 3 0 (blockPl 1)) row.1 ∧
      NamesTensor (received (redS epoch3) (redMsg row.1 row.2 3 0 (blockPl 1))) (redMsg row.1 row.2 3 0 (blockPl 1)) 0 epoch3 red7) ∧
    (let a := redMsg 0x40 0 3 0 (blockPl 1)
     let r := received (redS epoch3) a
     let k := teamOf r red7
     let b := parseBfx (blockPl 1)
     BlockGood r a red7 b ∧
     k.isRoot red7.me b.block = true ∧ b.flag bfBackup = false ∧
     (indexIn k.g (6, 0)).filter (fun j => k.sub.contains j) = some 1 ∧ memberColony k.g 1 = k.col ∧
     boxOf epoch3 7 b.block b.pass (b.flag bfSample) false = []) ∧
    (let a := redMsg 0x41 0 3 0 (blockPl 2)
     let r := received (redS epoch3) a
     let b := parseBfx (blockPl 2)
     b.flag bfRescale = false ∧ b.count = (teamOf r red7).sub.length ∧ holdsBlock r red7 red7.me b.block = true ∧
     b.block ∉ red7.written ∧ BlockGood r a red7 b) ∧
    (teamOf (received (redS epoch3) (redMsg 0x42 9 3 0 (packed 24 [(10, 2, 1)]))) red7).sub[leAt (packed 24 [(10, 2, 1)]) 10 2]? = some 1 ∧
    leAt (packed 24 [(16, 4, 1)]) 16 4 = 1 := by
  refine ⟨⟨tables_of (by decide +kernel), ?_⟩, ?_⟩
  · unfold Delivered NamesTensor; decide +kernel
  · unfold BlockGood; decide +kernel

/-- Epoch 3 with a CHECK_OK of member 0 held. -/
def oksEpoch : EpochSt := { epoch3 with oks := [(0, 1, 1)] }
def okPl : List Byte := packed 32 [(12, 4, 1), (16, 8, 1)]
theorem test_witness_EpochAgreement :
    (∀ x ∈ [epoch3, oksEpoch], TablesOk (redS x)) ∧
    (∀ row ∈ [0x44, 0x45, 0x46, 0x47], ∀ x ∈ [epoch3, oksEpoch],
      let a := redMsg row 9 3 0 okPl
      let r := received (redS x) a
      Delivered (redS x) a row ∧ redPartition r a.msg = some 0 ∧ epochByLow r 0 (bitsOf a.msg.addr 0 32) = some x ∧
      bitsOf a.msg.addr 51 3 = x.attempt ∧ leadTensor x = some red7 ∧ (teamOf r red7).leader = red7.me ∧ x.answered = false ∧
      indexIn (teamOf r red7).g (a.msg.src, a.msg.part) = some 1) ∧
    (let r := received (redS epoch3) (redMsg 0x44 9 3 0 okPl)
     (∃ i ∈ (teamOf r red7).sub, ∀ o ∈ [(1, leAt okPl 12 4, leAt okPl 16 8)], o.1 ≠ i) ∧
     (∀ i ∈ (teamOf r red7).sub, ∃ o ∈ [(0, 1, 1), (1, leAt okPl 12 4, leAt okPl 16 8)], o.1 = i) ∧
     (∀ o ∈ [(0, 1, 1), (1, leAt okPl 12 4, leAt okPl 16 8)], o.2 = (leAt okPl 12 4, leAt okPl 16 8))) ∧
    (bitOf (leAt (packed 32 [(10, 1, 1), (9, 1, rsnResidue)]) 10 1) 0 = true ∧
      leAt (packed 32 [(10, 1, 1), (9, 1, rsnResidue)]) 9 1 ≠ rsnTimeout ∧ bitOf (leAt (packed 32 [(8, 1, 1)]) 10 1) 0 = false) := by
  refine ⟨fun x hx => tables_of ?_, ?_, ?_⟩
  · revert x; decide +kernel
  · unfold Delivered; decide +kernel
  · decide +kernel

theorem test_witness_StaleReductionMessages :
    ∀ row ∈ [(0x40, 0), (0x41, 0), (0x42, 9), (0x43, 9), (0x44, 9), (0x45, 9), (0x46, 9), (0x47, 9)],
      (let a := redMsg row.1 row.2 3 1 []
       Delivered (redS epoch3) a row.1 ∧ redPartition (received (redS epoch3) a) a.msg = some 0 ∧
       (redS epoch3).fabric.selfq = [] ∧ epochByLow (received (redS epoch3) a) 0 3 = some epoch3 ∧
       bitsOf a.msg.addr 51 3 ≠ epoch3.attempt) ∧
      (let a := redMsg row.1 row.2 4 0 []
       epochByLow (received (redS epoch3) a) 0 (bitsOf a.msg.addr 0 32) = none ∧
       (getPart (received (redS epoch3) a) 0).lastConf = none) ∧
      (let s := { redS epoch3 with parts := [(0, { PartSt.idle with state := .running, lastConf := some 4 })] }
       let a := redMsg row.1 row.2 4 0 []
       redPartition (received s a) a.msg = some 0 ∧ epochByLow (received s a) 0 (bitsOf a.msg.addr 0 32) = none ∧
       (getPart (received s a) 0).lastConf = some 4 ∧
       (BitVec.ofNat 32 (bitsOf a.msg.addr 0 32) - BitVec.ofNat 32 4 : W32).toInt ≤ 0) := by
  unfold Delivered; decide +kernel

theorem test_witness_ReductionTimeLimits :
    (TablesOk (redS epoch3) ∧ epochOf (advance (redS epoch3) 2000) 0 3 = some epoch3 ∧ epoch3.tensorOf 7 = some red7 ∧
      memberBackup (teamOf (advance (redS epoch3) 2000) red7).g 1 = none ∧
      memberBackup (teamOf (withEpoch epoch3 (ready (imageG (some (7, 0))) [])) red7).g 1 = some (7, 0)) ∧
    (let x := { epoch3 with closed := some 1 }
     TablesOk (redS x) ∧ epochOf (redS x) 0 3 = some x ∧ x.closed.isSome = true ∧ x.asked = false ∧
     giveupOver (advance (redS x) 32768) 0 x.since = true) ∧
    (let x := { epoch3 with asked := true }
     TablesOk (redS x) ∧ epochOf (redS x) 0 3 = some x ∧ x.asked = true ∧ giveupOver (advance (redS x) 32768) 0 x.since = true) :=
  ⟨⟨tables_of (by decide +kernel), by decide +kernel⟩, ⟨tables_of (by decide +kernel), by decide +kernel⟩,
    tables_of (by decide +kernel), by decide +kernel⟩

def destOf7 (k : DrainDest) (w : List Nat) : DestSt := ⟨k, w, [], 0, false, false, 0, 0⟩
def drainS (p : PartState) (l : List DestSt) : State :=
  { ready imageT [] with parts := [(0, { PartSt.idle with state := p, drain := if l.isEmpty then none else some ⟨1, false, [7], l⟩ })] }
theorem test_witness_DrainEnds :
    (∀ row ∈ [(0, DrainDest.buddy, [7]), (3, .rollout 1, [7, 8]), (1, .checkpoint, [7])],
      let s := drainS .running [destOf7 row.2.1 row.2.2]
      TablesOk s ∧ (getPart s 0).drain = some ⟨1, false, [7], [destOf7 row.2.1 row.2.2]⟩ ∧ destOf row.1 = some row.2.1 ∧
      [destOf7 row.2.1 row.2.2].find? (fun z => z.dest == row.2.1) = some (destOf7 row.2.1 row.2.2) ∧
      elapsed (advance s 32768) 0 (((partCfg s 0).map (·.drainGiveup)).getD 20) 10 = true ∧ drainPending s 0 row.2.1 = false ∧
      (destOf7 row.2.1 row.2.2).waiting.head? = some 7 ∧ (row.2.1.isRollout = true → (destOf7 row.2.1 row.2.2).waiting.drop 1 ≠ [])) ∧
    (TablesOk (drainS .draining []) ∧ (getPart (drainS .draining []) 0).state = .draining ∧
      (∀ q ∈ queuesOf (drainS .draining []) 0, (getQ (drainS .draining []) q).live = [] ∧ (getQ (drainS .draining []) q).again = []) ∧
      drainDone (drainS .draining []) 0 = true) ∧
    (getPart (drainS .running []) 0).state ≠ .draining := by
  refine ⟨fun row hr => ⟨tables_of ?_, ?_⟩, ⟨tables_of (by decide +kernel), by decide +kernel⟩, by decide +kernel⟩ <;>
    revert row <;> decide +kernel

/-! ### Witnesses: images, partitions and service -/

def devS (op : Nat) (l : Fields) (s : State) : State :=
  exposing .device { s with mem := laid [(0, entry op l)] }
def noSections : Sections := ⟨none, none, none, none, none, none, none, none, none, none, none⟩
def checkP (img len rep cap : Nat) : State :=
  devS 0x40 [(32, 8, img), (40, 4, len), (48, 8, rep), (56, 4, cap)] (ready image0 [])
theorem test_witness_CheckReports :
    (TablesOk (checkP 0x40000 128 0x80000 64) ∧ FreeToIssue (checkP 0x40000 128 0x80000 64) .device 0 0x40 [(32, 12), (48, 12)] ∧
      Accepts (checkImageBody ⟨true, noSections, []⟩ (atBody (checkP 0x40000 128 0x80000 64) .device 0)
        (ent (checkP 0x40000 128 0x80000 64) .device))) ∧
    (∀ r ∈ [(0x40020, 128, 0x80000, 64), (0x40000, 128, 0x80020, 64), (0x40000, 127, 0x80000, 64),
        (0x40000, 2 ^ 24 + 1, 0x80000, 64), (0x40000, 128, 0x80000, 63), (0x40000, 128, 0x80000, 2 ^ 20 + 16),
        (0x40000, 128, 0x80000, 72)],
      FreeToIssue (checkP r.1 r.2.1 r.2.2.1 r.2.2.2) .device 0 0x40 [(32, 12), (48, 12)] ∧
      (let e := ent (checkP r.1 r.2.1 r.2.2.1 r.2.2.2) .device
       p64 e 32 % 64 ≠ 0 ∨ p64 e 48 % 64 ≠ 0 ∨ p32 e 40 < 128 ∨ 2 ^ 24 < p32 e 40 ∨ p32 e 56 < 64 ∨ 2 ^ 20 < p32 e 56 ∨
         p32 e 56 % 16 ≠ 0)) := by
  refine ⟨body_of (by decide +kernel), fun r hr => ⟨free_of ?_, ?_⟩⟩ <;> revert r <;> decide +kernel

/-- A staged image: other settings for partition 0, with or without a buddy that no answer comes from. -/
def imageN (buddy : Option BuddyCfg) : ImageCfg := { image0 with parts := [(0, { part0 with ckptInterval := 7, buddy := buddy })] }
def withStaged (c : ImageCfg) (p : PartState) (l : Fields) : State :=
  let s := devS 0x41 ([(32, 1, 0)] ++ l) (inState p (ready image0 []))
  { s with cfg := { s.cfg with staged := some (stored c), floor := Floorplan.made } }
def commitI : Issued := ⟨0, 0x41, 0, 0xFFFF, 0, 0, stOK, 0, false, .settle⟩
def committing (c : ImageCfg) (p : PartState) (l : Fields) : State :=
  setQ (withStaged c p l) .device { QueueSt.empty with tail := 1, issued := ⟨1, []⟩, live := [commitI] }
theorem test_witness_CommitTakesEffect :
    (let s := withStaged (imageN none) .loaded [(48, 2, 0xFFFF)]
     TablesOk s ∧ FreeToIssue s .device 0 0x41 [(32, 1), (40, 8), (48, 3)] ∧
      Accepts (commitImageBody (atBody s .device 0) (ent s .device))) ∧
    liveCommit (withStaged (imageN none) .loaded [(48, 2, 0xFFFF)]) = none ∧
    (∀ s ∈ [committing (imageN none) .running [], committing (imageN none) .loaded [(50, 1, 1)],
        committing (imageN (some ⟨9, 0, []⟩)) .loaded []],
      TablesOk s ∧ liveCommit s = some commitI) ∧
    (commitSettled (committing (imageN none) .running []) (stored (imageN none)) = false) ∧
    (let s := committing (imageN none) .loaded [(50, 1, 1)]
     commitSettled s (stored (imageN none)) = true ∧ pairsToTest s = [] ∧ floorDue s = false ∧ lateStages s (imageN none) [] = [] ∧
     (commitParams s commitI).1 = 0 ∧ (commitParams s commitI).2.2.2 = 1) ∧
    (let s := committing (imageN (some ⟨9, 0, []⟩)) .loaded []
     commitSettled s (stored (imageN (some ⟨9, 0, []⟩))) = true ∧ pairsToTest s = [] ∧ floorDue s = false ∧
     lateStages s (imageN (some ⟨9, 0, []⟩)) [] ≠ []) := by
  refine ⟨body_of (by decide +kernel), by decide +kernel, fun s hs => ?_, by decide +kernel⟩
  rcases List.mem_cons.1 hs with rfl | hs
  · exact ⟨tables_of (by decide +kernel), by decide +kernel⟩
  · rcases List.mem_cons.1 hs with rfl | hs
    · exact ⟨tables_of (by decide +kernel), by decide +kernel⟩
    · obtain rfl := List.mem_singleton.1 hs
      exact ⟨tables_of (by decide +kernel), by decide +kernel⟩

def partS (op p : Nat) (st : PartState) : State := devS op [(32, 1, p)] (inState st (ready image0 []))
/-- Partition 0 is verified, as at the end of the start-up. -/
def verifiedS : State := setF (partS 0x48 0 .loaded) ANC_BOOT_STATUS_VERIFIED 0 1
theorem test_witness_PartitionCommands :
    (TablesOk verifiedS ∧ FreeToIssue verifiedS .device 0 0x48 [(32, 1)] ∧ p8 (ent verifiedS .device) 32 = 0 ∧
      (getPart verifiedS 0).state = .loaded ∧ bitOf (getF verifiedS ANC_BOOT_STATUS_VERIFY_FAIL) 0 = false ∧
      bitOf (getF verifiedS ANC_BOOT_STATUS_VERIFIED) 0 = true) ∧
    (∀ row ∈ [(0x49, PartState.running), (0x4A, .running), (0x4A, .draining), (0x4B, .loaded), (0x4C, .faulted)],
      TablesOk (partS row.1 0 row.2) ∧ FreeToIssue (partS row.1 0 row.2) .device 0 row.1 [(32, 1)] ∧
      (getPart (partS row.1 0 row.2) 0).state = row.2) ∧
    partUnits (partS 0x4B 0 .loaded) 0 ≠ [] ∧
    (∀ row ∈ [(0x48, PartState.running), (0x49, .loaded), (0x4A, .idle), (0x4B, .test), (0x4C, .loaded)],
      FreeToIssue (partS row.1 0 row.2) .device 0 row.1 [(32, 1)] ∧ FreeToIssue (partS row.1 8 row.2) .device 0 row.1 [(32, 1)] ∧
      (getPart (partS row.1 0 row.2) 0).state = row.2 ∧ 7 < p8 (ent (partS row.1 8 row.2) .device) 32) := by
  refine ⟨⟨tables_of (by decide +kernel), free_of (by decide +kernel), by decide +kernel⟩, fun row h => ⟨tables_of ?_, free_of ?_, ?_⟩,
    by decide +kernel, fun row h => ⟨free_of ?_, free_of ?_, ?_⟩⟩ <;> revert row <;> decide +kernel

theorem test_witness_ServiceCommands :
    (let s := devS 0x4D [] (inState .loaded (ready image0 []))
     TablesOk s ∧ FreeToIssue s .device 0 0x4D [] ∧ ∀ p, p < 8 → (getPart s p).state = .idle ∨ (getPart s p).state = .loaded) ∧
    (let s := devS 0x4E [] { ready image0 [] with dev := .service }
     TablesOk s ∧ FreeToIssue s .device 0 0x4E [] ∧ ∀ i ∈ (getQ s .device).live, i.opcode ≠ 0x4E) :=
  ⟨⟨tables_of (by decide +kernel), free_of (by decide +kernel), by decide +kernel⟩,
    tables_of (by decide +kernel), free_of (by decide +kernel), by decide +kernel⟩

/-! ### Witnesses: links -/

/-- A flit with a header word and fields, its CRC right. -/
def flitOf (w : Nat) (l : Fields) : FlitIn :=
  let b := packed 252 ([(0, 8, w)] ++ l)
  ⟨b ++ leBytes 4 (crc32c b), false, 0, 0⟩
/-- Port 0 in a state. -/
def portS (x : PortSt) : State := { ready image0 [] with fabric := { FabricSt.empty with addr := some 5 }, ports := [(0, x)] }
def upPort : PortSt := { PortSt.down with state := .up, usable := true, hbmFree := true }
def identPort : PortSt := { PortSt.down with state := .ident, seenTx := true }
def badFlit : FlitIn := ⟨List.replicate 256 0#8, true, 0, 0⟩

theorem test_witness_FlitsArrive :
    (TablesOk (portS upPort) ∧ (getPort (portS upPort) 0).state = .up ∧ badFlit.fecBad = true) ∧
    ((flitOf 0 []).bytes.length = 256 ∧ leAt zeroFlit.bytes 252 4 ≠ crc32c (sliceB zeroFlit.bytes 0 252)) ∧
    (∀ k ∈ [0, 2], GoodFlit (portS upPort) 0 (flitOf (k * 2 ^ 26) []) (parseHead (k * 2 ^ 26)) ∧ (parseHead (k * 2 ^ 26)).kind = k ∧
      (parseHead (k * 2 ^ 26)).seq = (getPort (portS upPort) 0).expect) ∧
    (∀ k ∈ [0, 1, 2], ∀ n ∈ [1, 4094], GoodFlit (portS upPort) 0 (flitOf (n + k * 2 ^ 26) []) (parseHead (n + k * 2 ^ 26)) ∧
      (parseHead (n + k * 2 ^ 26)).kind = k ∧ (parseHead (n + k * 2 ^ 26)).seq ≠ (getPort (portS upPort) 0).expect ∧
      (seqBefore (((getPort (portS upPort) 0).expect + 4095) % 4096) (parseHead (n + k * 2 ^ 26)).seq = true ↔ n = 1)) ∧
    (GoodFlit (portS upPort) 0 (flitOf (2 ^ 26) []) (parseHead (2 ^ 26)) ∧
      GoodFlit (portS identPort) 0 (flitOf (2 ^ 26) []) (parseHead (2 ^ 26)) ∧ leAt (flitOf (2 ^ 26) []).bytes 8 1 ≠ 1) ∧
    (let s := { portS identPort with ports := [(15, identPort)] }
     let fl := flitOf (2 ^ 26) [(8, 1, 1), (9, 1, 9), (14, 2, 6), (128, 1, 1)]
     TablesOk s ∧ GoodFlit s 15 fl (parseHead (2 ^ 26)) ∧ (getPort s 15).state = .ident ∧ leAt fl.bytes 128 1 = 1 ∧
     bitOf (leAt fl.bytes 9 1) 3 = true ∧ s.fabric.addr.map (· / 16) = some (leAt fl.bytes 14 2 % 4096 / 16)) ∧
    (TablesOk (portS identPort) ∧ ∀ w ∈ [0, 1], GoodFlit (portS identPort) 0 (flitOf (2 ^ 26) [(8, 1, 1), (9, 1, w), (128, 1, 1)])
        (parseHead (2 ^ 26)) ∧ (parseHead (2 ^ 26)).kind = 1 ∧ (getPort (portS identPort) 0).state = .ident ∧
      leAt (flitOf (2 ^ 26) [(8, 1, 1), (9, 1, w), (128, 1, 1)]).bytes 8 1 = 1 ∧
      leAt (flitOf (2 ^ 26) [(8, 1, 1), (9, 1, w), (128, 1, 1)]).bytes 128 1 = 1) ∧
    (∀ k ∈ [0, 255], let x := { upPort with replay := [⟨9, []⟩], replays := k }
     TablesOk (portS x) ∧ (getPort (portS x) 0).replay = [⟨9, []⟩] ∧ (getPort (portS x) 0).resend = none ∧
     ((getPort (portS x) 0).replays + 1 ≤ (cfgOf (portS x)).routing.replayLimit ↔ k = 0)) := by
  refine ⟨⟨tables_of (by decide +kernel), by decide +kernel⟩, by decide +kernel, ?_, ?_, ?_, ⟨tables_of (by decide +kernel), ?_⟩,
    ⟨tables_of (by decide +kernel), ?_⟩, fun k hk => ⟨tables_of ?_, ?_⟩⟩
  · unfold GoodFlit; decide +kernel
  · unfold GoodFlit; decide +kernel
  · unfold GoodFlit; decide +kernel
  · unfold GoodFlit; decide +kernel
  · unfold GoodFlit; decide +kernel
  · revert k; decide +kernel
  · revert k; decide +kernel

theorem test_witness_PortStates :
    (∀ x ∈ [{ PortSt.down with state := .train }, { PortSt.down with state := .train, fails := 2 }], TablesOk (portS x) ∧
      (getPort (portS x) 0).state = .train) ∧
    ((cfgOf (portS upPort)).routing.trainLimit = 3) ∧
    (TablesOk (portS identPort) ∧ elapsed (advance (portS identPort) 328) (getPort (portS identPort) 0).since 10 1000 = true) ∧
    hostPort (portS upPort) 0 = false ∧ Reached (portS upPort) (.host 0) (FAB_PORT_CTRL_RESET.at 0) := by
  refine ⟨fun x hx => ⟨tables_of ?_, ?_⟩, by decide +kernel, ⟨tables_of (by decide +kernel), by decide +kernel⟩, by decide +kernel, ?_⟩
  · revert x; decide +kernel
  · revert x; decide +kernel
  · unfold Reached; decide +kernel

/-- A message for member 6, and one for a colony without a route. -/
def passing (dst hops : Nat) : Arrival := ⟨1, 12, 0, { mtype := 0x01, dst := dst, src := 7, hops := hops }⟩
def passS : State := { portS upPort with ports := [(0, upPort), (1, upPort)] }
def sendPort : PortSt := { upPort with txBytes := [(0, [(1#8, false, true)])], credits := [(0, 1)] }
theorem test_witness_ForwardAndFlitTime :
    (TablesOk passS ∧ ∀ d ∈ [(6, 0), (6, 6), (6, 7), (0x30, 0)], vcAllowed 0x01 12 = true ∧ linkLocal (passing d.1 d.2).msg = false ∧
      isMcast (passing d.1 d.2).msg = false ∧ passS.fabric.addr ≠ some d.1 ∧ portOk passS 1 = true) ∧
    (∀ h ∈ [0, 6], nextHop (takeMsg passS (passing 6 h)) 12 (arrivalClass (passing 6 h)) { (passing 6 h).msg with hops := h + 1 } =
      .via 0 0 false) ∧
    nextHop (takeMsg passS (passing 0x30 0)) 12 (arrivalClass (passing 0x30 0)) { (passing 0x30 0).msg with hops := 1 } = .stuck ∧
    (∀ x ∈ [upPort, sendPort, { upPort with replay := [⟨9, []⟩], resend := some 9 }], TablesOk (portS x)) ∧
    (getPort (routeAll (portS upPort)) 0 = upPort ∧ chooseStream (routeAll (portS upPort)) upPort = none) ∧
    (getPort (routeAll (portS sendPort)) 0 = sendPort ∧ (chooseStream (routeAll (portS sendPort)) sendPort).isSome = true) ∧
    (getPort (routeAll (portS { upPort with replay := [⟨9, []⟩], resend := some 9 })) 0).resend = some 9 := by
  refine ⟨⟨tables_of (by decide +kernel), by decide +kernel⟩, by decide +kernel, by decide +kernel, fun x hx => tables_of ?_,
    by decide +kernel⟩
  revert x; decide +kernel

/-! ### Witnesses: messages -/

/-- A message from device 6 to device 5 on port 0. -/
def fromSix (mtype vc part addr : Nat) (pl : List Byte) (flags tag : Nat := 0) (dst : Nat := 5) : Arrival :=
  ⟨0, vc, 0, { mtype := mtype, dst := dst, src := 6, part := part, addr := addr, payload := pl, flags := flags, tag := tag }⟩
def linkS : State := linked (ready image0 [])
/-- The same while granule 0 is being zeroed. -/
def zeroS : State := { linkS with mgmt := { linkS.mgmt with zeroing := [0] } }
/-- A stipe device whose landing buffer is enabled. -/
def landS : State := { setF linkS FAB_HDMA_CTRL_ENABLE 0 1 with stipe := true }

theorem test_witness_RemoteRequests :
    (∀ s ∈ [linkS, zeroS], ∀ x ∈ [(0x8000, 1), (0, 2 ^ 30), (2 ^ 30 - 1, 2)],
      (zeroingHit s x.1 x.2 = true ↔ s.mgmt.zeroing = [0]) ∧ zeroingHit s (2 ^ 30) 1 = false) ∧
    (∀ row ∈ [(0x01, 0), (0x01, 12), (0x03, 12), (0x05, 11), (0x06, 11), (0x08, 14)],
      Delivered linkS (fromSix row.1 row.2 15 0x8000 [7#8]) row.1) ∧
    (grantStatus (received linkS (fromSix 0x01 0 15 0x8000 [7#8])) (fromSix 0x01 0 15 0x8000 [7#8]).msg 0x8000 1 true = stOK ∧
      grantStatus (received linkS (fromSix 0x01 0 1 0x8000 [7#8])) (fromSix 0x01 0 1 0x8000 [7#8]).msg 0x8000 1 true = stBounds ∧
      grantStatus (received linkS (fromSix 0x03 12 15 0x8000 [])) (fromSix 0x03 12 15 0x8000 []).msg 0x8000 1 false = stOK ∧
      ctlStatus (received linkS (fromSix 0x05 11 15 0x14008 [])) (fromSix 0x05 11 15 0x14008 []).msg = stOK ∧
      ctlStatus (received linkS (fromSix 0x06 11 0 0x14008 [])) (fromSix 0x06 11 0 0x14008 []).msg = stBounds) ∧
    (TablesOk linkS ∧ landGranted (received linkS (fromSix 0x08 14 1 0 [])) (fromSix 0x08 14 1 0 []).msg = false) ∧
    (TablesOk landS ∧ Delivered landS (fromSix 0x08 14 15 0 [7#8]) 0x08 ∧
      (let r := received landS (fromSix 0x08 14 15 0 [7#8])
       landGranted r (fromSix 0x08 14 15 0 [7#8]).msg = true ∧ devOpen r = true ∧ isStipe landS = true ∧
       getF r FAB_HDMA_CTRL_ENABLE = 1)) := by
  refine ⟨by decide +kernel, ?_, by decide +kernel, ⟨tables_of (by decide +kernel), by decide +kernel⟩, tables_of (by decide +kernel),
    ?_, by decide +kernel⟩
  · unfold Delivered; decide +kernel
  · unfold Delivered; decide +kernel

def txn (kind : Nat) : Txn := ⟨3, 6, 12, 0, kind, 0, 0, 8⟩
def hostOp (tag : Nat) : HostOp := ⟨1, false, [tag], [(tag, [])], false, false⟩
def txnS (kind : Nat) : State :=
  { linkS with fabric := { linkS.fabric with txns := [txn kind], hostOps := [hostOp 3] } }
/-- A running partition whose buddy copy and checkpoint wait for device 7. -/
def drainingP : PartSt :=
  { PartSt.idle with state := .running, drain := some ⟨1, false, [7], [destOf7 .buddy [7], destOf7 .checkpoint [7]]⟩ }
def drainTxnS (kind : Nat) : State :=
  { txnS kind with parts := [(0, drainingP)] }
/-- A STREAM_COPY that waits for the write of tag 3, and perhaps for another. -/
def copyI (tags : List Nat) : Issued := ⟨0, 0x28, 0, 0xFFFF, 0, 0, stOK, 0, false, .remote tags⟩
def copyTxnS (tags : List Nat) : State :=
  setQ (inState .running (txnS 7)) (.frond 0) { QueueSt.empty with tail := 1, issued := ⟨1, []⟩, live := [copyI tags] }
theorem test_witness_copy_writes : ∀ l ∈ [[3], [3, 4]],
    (txn 7).kind = 7 ∧ QueueId.frond 0 ∈ queuesOf (copyTxnS l) (txn 7).part ∧ copyI l ∈ (getQ (copyTxnS l) (.frond 0)).live ∧
    (copyI l).waits = .remote l ∧ (txn 7).tag ∈ l ∧ l.Nodup ∧
    findTxn (received (copyTxnS l) (fromSix 0x02 13 15 0 [] 0 3)) (fromSix 0x02 13 15 0 [] 0 3).msg [0, 4, 5, 7] = some (txn 7) ∧
    (copyTxnS l).fabric.txns.find? (fun y => y.tag == (txn 7).tag && (y.kind == 4 || y.kind == 5 || y.kind == 7)) = some (txn 7) ∧
    elapsed (advance (copyTxnS l) 32768) (txn 7).since (((partCfg (copyTxnS l) 0).map (·.remoteTimeoutUs)).getD 200) 1000000 = true := by
  decide +kernel

theorem test_witness_Responses :
    (∀ row ∈ [(0x02, 13, [0, 4, 5, 7]), (0x04, 13, [1, 6]), (0x07, 11, [2, 3])],
      Delivered linkS (fromSix row.1 row.2.1 15 0 [] 0 3) row.1 ∧
      findTxn (received linkS (fromSix row.1 row.2.1 15 0 [] 0 3)) (fromSix row.1 row.2.1 15 0 [] 0 3).msg row.2.2 = none) ∧
    (∀ k ∈ [4, 5, 7], Delivered (txnS k) (fromSix 0x02 13 15 0 [] 0 3) 0x02 ∧
      findTxn (received (txnS k) (fromSix 0x02 13 15 0 [] 0 3)) (fromSix 0x02 13 15 0 [] 0 3).msg [0, 4, 5, 7] = some (txn k) ∧
      (txn k).kind ≠ 0) ∧
    (Delivered (txnS 1) (fromSix 0x04 13 15 0 [] 0 3) 0x04 ∧
      findTxn (received (txnS 1) (fromSix 0x04 13 15 0 [] 0 3)) (fromSix 0x04 13 15 0 [] 0 3).msg [1, 6] = some (txn 1) ∧
      (txnS 1).fabric.hostOps.find? (fun o => o.left.contains 3) = some (hostOp 3)) ∧
    (∀ k ∈ [2, 3], Delivered (txnS k) (fromSix 0x07 11 15 0 [] 0 3) 0x07 ∧
      findTxn (received (txnS k) (fromSix 0x07 11 15 0 [] 0 3)) (fromSix 0x07 11 15 0 [] 0 3).msg [2, 3] = some (txn k) ∧
      (txn k).key < 2 ^ 40) ∧
    (∀ k ∈ [4, 5], TablesOk (drainTxnS k) ∧
      (drainTxnS k).fabric.txns.find? (fun x => x.tag == 3 && (x.kind == 4 || x.kind == 5 || x.kind == 7)) = some (txn k) ∧
      elapsed (advance (drainTxnS k) 32768) 0 (((partCfg (drainTxnS k) 0).map (·.remoteTimeoutUs)).getD 200) 1000000 = true ∧
      (getPart (drainTxnS k) 0).drain = some ⟨1, false, [7], [destOf7 .buddy [7], destOf7 .checkpoint [7]]⟩) ∧
    ((txnS 1).fabric.txns.find? (fun x => x.tag == 3 && x.kind != 4 && x.kind != 5 && x.kind != 7) = some (txn 1) ∧
      elapsed (advance (txnS 1) 32768) (txn 1).since (ctlTimeoutUs (txnS 1)) 1000000 = true) := by
  refine ⟨?_, ?_, ?_, ?_, fun k hk => ⟨tables_of ?_, ?_⟩, by decide +kernel⟩
  · unfold Delivered; decide +kernel
  · unfold Delivered; decide +kernel
  · unfold Delivered; decide +kernel
  · unfold Delivered; decide +kernel
  · revert k; decide +kernel
  · revert k; decide +kernel

/-- This device is a receiver of multicast group 0x21, whose root is `root`. -/
def mcastOf (root : Nat) (rx : Bool := true) : McastCfg := ⟨0x21, root, 0, 0, rx, 0, 0x8000, 256, [], []⟩
def treeS (root : Nat) (rx : Bool := true) : State := linked (ready { image0 with mcast := [mcastOf root rx] } [])
def tree (mtype : Nat) (pl : List Byte) : Arrival := fromSix mtype 15 0 0 pl 1 0 0x21
theorem test_witness_Multicast :
    (∀ m ∈ [0x09, 0x0A], DeliveredTree linkS (tree m []) m ∧ mcastEntry linkS 0x21 = none ∧ DeliveredTree (treeS 7) (tree m []) m ∧
      mcastEntry (treeS 7) 0x21 = some (mcastOf 7) ∧ (tree m []).msg.src ≠ 7 ∧ DeliveredTree (treeS 6 false) (tree m []) m ∧
      mcastEntry (treeS 6 false) 0x21 = some (mcastOf 6 false) ∧ (tree m []).msg.src = 6) ∧
    (∀ n ∈ [256, 257], DeliveredTree (treeS 6) (tree 0x09 (List.replicate n 0#8)) 0x09 ∧
      mcastEntry (treeS 6) 0x21 = some (mcastOf 6) ∧
      ((tree 0x09 (List.replicate n 0#8)).msg.addr + (tree 0x09 (List.replicate n 0#8)).msg.payload.length ≤ 256 ↔ n = 256)) ∧
    (∀ n ∈ [0, 1], TablesOk (treeS 6) ∧ DeliveredTree (treeS 6) (tree 0x0A (packed 16 [(0, 1, 1), (8, 1, n)])) 0x0A ∧
      ((mcastRx (treeS 6) 0x21).bytes = leAt (packed 16 [(0, 1, 1), (8, 1, n)]) 8 8 ↔ n = 0) ∧
      (getPart (treeS 6) 0).active = none ∧ (getPart (treeS 6) 0).incoming = none) ∧
    (let y : DestSt := { destOf7 (.rollout 0) [] with await := [6] }
     let s : State := { linkS with parts := [(0, { PartSt.idle with state := .running, drain := some ⟨1, false, [7], [y]⟩ })] }
     TablesOk s ∧ Delivered s (fromSix 0x0B 13 0 0 (packed 16 [(0, 1, 1)])) 0x0B ∧
     (getPart s 0).drain = some ⟨1, false, [7], [y]⟩ ∧ leAt (packed 16 [(0, 1, 1)]) 0 8 = 1) := by
  refine ⟨?_, ?_, fun n hn => ⟨tables_of (by decide +kernel), ?_⟩, tables_of (by decide +kernel), ?_⟩
  · unfold DeliveredTree; decide +kernel
  · unfold DeliveredTree; decide +kernel
  · revert n; unfold DeliveredTree; decide +kernel
  · unfold Delivered; decide +kernel

/-- A stipe device with two windows: its own HBM, and that of device 6. -/
def winS : State :=
  setF (setF (setF (setF { linkS with stipe := true } FAB_HWIN_VALID 0 1) FAB_HWIN_TARGET 0 5) FAB_HWIN_VALID 1 1) FAB_HWIN_TARGET 1 6
def hreq (wr : Bool) (bar addr : Nat) : HostReq := ⟨wr, bar, addr, 8, if wr then List.replicate 8 1#8 else [], [], false, 4, 0⟩
theorem test_witness_HostRequests :
    (isStipe winS = true ∧ hostTrained winS = true ∧ winS.dev = .ready) ∧
    (∀ w ∈ [false, true], hostTarget winS (hreq w 0 0x14008) = .control 5 0x14008 ∧ winS.fabric.addr.getD 0 = 5 ∧
      allEnabled (hreq w 0 0x14008) = true ∧
      hostTarget winS (hreq w 4 0x9000) = .memory 5 0x9000 ∧ hbmRange 0x9000 8 = true ∧
      hostTarget winS (hreq w 4 (2 ^ 34 + 0x9000)) = .memory 6 0x9000 ∧
      hostTarget winS (hreq w 4 (2 ^ 35)) = .unsupported ∧ hostTarget winS (hreq w 0 (2 ^ 30)) = .unsupported) ∧
    (∀ m ∈ [0, 15], Reached winS (.host 5) (FAB_HDMA_PTR_WR.at m)) ∧ TablesOk winS := by
  refine ⟨by decide +kernel, by decide +kernel, ?_, tables_of (by decide +kernel)⟩
  unfold Reached; decide +kernel

/-! ### Witnesses: mailboxes and services -/

/-- A running lichen core, with registers given by offset. -/
def runningCore (r : List (Nat × W64)) (order : List Nat) : State :=
  { linkS with regs := r, mgmt := { MgmtSt.reset with lichen := .running, mbxOrder := order } }
theorem test_witness_MailboxRequests :
    (∀ row ∈ [(0, Requester.host 5), (15, .host 5), (32, .sequencer 0), (319, .sequencer 287)],
      sendsOn linkS row.2 row.1 = true ∧ Reached linkS row.2 (mbxCtrl row.1) ∧ goBit linkS row.1 = false ∧ doneBit linkS row.1 = false ∧
      TablesOk linkS) ∧
    (bitOf (1#64).toNat 0 = true ∧ bitOf (2#64).toNat 0 = false ∧ bitOf (2#64).toNat 1 = true) ∧
    (sendsOn linkS .lichen 0 = false ∧ Reached linkS .lichen (mbxCtrl 0)) ∧
    (let s := runningCore [(mbxCtrl 0, 2)] []
     TablesOk s ∧ lichenRuns s = true ∧ sendsOn s (.host 5) 0 = true ∧ goBit s 0 = false ∧ doneBit s 0 = true ∧
     Reached s (.host 5) (mbxCtrl 0)) ∧
    (∀ row ∈ [(0x18, 10), (0x19, 10), (0x1A, 10)], Delivered linkS (fromSix row.1 row.2 15 0 [1#8]) row.1) ∧
    (goBit linkS 22 = false ∧ doneBit linkS 22 = false) ∧
    (let s := runningCore [(mbxCtrl 22, 2)] []
     TablesOk s ∧ Delivered s (fromSix 0x18 10 15 0 []) 0x18 ∧ doneBit s 22 = true) ∧
    (TablesOk winS ∧ Delivered winS (fromSix 0x1A 10 15 0 [1#8]) 0x1A ∧ isStipe winS = true ∧ leAt [1#8] 0 8 ≠ 0) := by
  unfold Reached Delivered
  refine ⟨fun row h => ?_, by decide +kernel, by decide +kernel, ⟨tables_of (by decide +kernel), by decide +kernel⟩, by decide +kernel,
    by decide +kernel, ⟨tables_of (by decide +kernel), by decide +kernel⟩, tables_of (by decide +kernel), by decide +kernel⟩
  exact and_assoc.1 (and_assoc.1 (and_assoc.1 ⟨by revert row; decide +kernel, tables_of (by decide +kernel)⟩))

/-- Channel 0 asks for a service, with words after the code. -/
def asksFor (code : Nat) (w : List (Nat × W64)) : State :=
  runningCore ((if code = 0 then [] else [(mbxData 0 0, BitVec.ofNat 64 code)]) ++ w.map (fun x => (mbxData 0 x.1, x.2)) ++ [(mbxCtrl 0, 1)]) [0]
def telemImage : ImageCfg := { image0 with understory := { telemPeriod := 100, telemBase := some 0x8000 } }
def rec1 : LogRec := ⟨0x0201, 0, 0, 1, none, 2, false, 0, []⟩
theorem test_witness_ManagementServices :
    (∀ c ∈ [0, 1, 2, 3], TablesOk (asksFor c []) ∧ serves (asksFor c []) 0 c = true) ∧
    (mbxWord (asksFor 1 []) 0 2 = 0 ∧ mbxWord (asksFor 1 [(2, 65537#64)]) 0 2 = 65537 ∧
      serves (asksFor 1 [(2, 65537#64)]) 0 1 = true) ∧
    (∀ n ∈ [1, 65536], TablesOk (asksFor 1 [(2, BitVec.ofNat 64 n)]) ∧ serves (asksFor 1 [(2, BitVec.ofNat 64 n)]) 0 1 = true ∧
      mbxWord (asksFor 1 [(2, BitVec.ofNat 64 n)]) 0 2 = n ∧ hbmTarget (mbxWord (asksFor 1 [(2, BitVec.ofNat 64 n)]) 0 3) 0 64 = none) ∧
    ((cfgOf (asksFor 2 [])).understory.telemPeriod = 0 ∧
      (let s := { asksFor 2 [] with cfg := { CfgSt.reset with committed := stored telemImage } }
       TablesOk s ∧ serves s 0 2 = true ∧ (cfgOf s).understory.telemPeriod ≠ 0 ∧ (cfgOf s).understory.telemBase = some 0x8000)) ∧
    (hbmTarget (mbxWord (asksFor 3 []) 0 5) 4738 1 = none ∧
      serves (asksFor 3 [(5, 0xC000000000#64)]) 0 3 = true ∧
      hbmTarget (mbxWord (asksFor 3 [(5, 0xC000000000#64)]) 0 5) 4738 1 = some stBounds) ∧
    (∀ c ∈ [4, 0x0F, 0x14, 0xFFFF], TablesOk (asksFor c []) ∧ knownCode c = false ∧ mbxCode (asksFor c []) 0 = c ∧
      serves (asksFor c []) 0 c = true) ∧
    (∀ f ∈ [0, 287], goBit linkS (32 + f) = false ∧
      (getFrond { linkS with fronds := [(f, { FrondSt.empty with seqLog := [rec1] })] } f).seqLog = [rec1]) ∧
    (∀ f ∈ [0, 287], TablesOk (runningCore [(mbxCtrl (32 + f), 1)] [32 + f]) ∧
      goBit (runningCore [(mbxCtrl (32 + f), 1)] [32 + f]) (32 + f) = true ∧
      lichenRuns (runningCore [(mbxCtrl (32 + f), 1)] [32 + f]) = true) := by
  refine ⟨fun c h => ⟨tables_of ?_, ?_⟩, by decide +kernel, fun n h => ⟨tables_of ?_, ?_⟩,
    ⟨by decide +kernel, tables_of (by decide +kernel), by decide +kernel⟩, by decide +kernel, fun c h => ⟨tables_of ?_, ?_⟩,
    by decide +kernel, fun f h => ⟨tables_of ?_, ?_⟩⟩
  · revert c; decide +kernel
  · revert c; decide +kernel
  · revert n; decide +kernel
  · revert n; decide +kernel
  · revert c; decide +kernel
  · revert c; decide +kernel
  · revert f; decide +kernel
  · revert f; decide +kernel

def sealedS (bound : List Byte) (least puf : Nat) : State :=
  let s := asksFor 0x13 [(2, 0x8000#64)]
  let s1 := { s with flash := { s.flash with sealedAt := [(0, (List.replicate 32 7#8, bound, least))] } }
  if puf = 1 then setF s1 SEC_STATUS_PUF_FAIL 0 1 else s1
theorem test_witness_SecurityServices :
    (∀ c ∈ [0x10, 0x11, 0x12, 0x13], TablesOk (asksFor c []) ∧ serves (asksFor c []) 0 c = true ∧ pufFailed (asksFor c []) = false) ∧
    (hbmTarget (mbxWord (asksFor 0x10 []) 0 1) 1282 1 = none ∧
      blockOk (readBytes (asksFor 0x10 []) (mbxWord (asksFor 0x10 []) 0 1) 1282) true = true ∧
      blockOk (readBytes (asksFor 0x10 []) (mbxWord (asksFor 0x10 []) 0 1) 1282) false = false) ∧
    ((asksFor 0x11 []).flash.ownerKey.isSome = false ∧ hbmTarget (mbxWord (asksFor 0x11 []) 0 1) (1793 + 1282) 1 = none ∧
      (let s := asksFor 0x11 []
       let t := { s with flash := { s.flash with ownerKey := some [] } }
       TablesOk t ∧ serves t 0 0x11 = true ∧ blockOk (readBytes t (mbxWord t 0 1 + 1793) 1282) false = false)) ∧
    (let s := setF (asksFor 0x12 []) SEC_STATUS_PUF_FAIL 0 1
     TablesOk s ∧ serves s 0 0x12 = true ∧ pufFailed s = true) ∧
    (serves (asksFor 0x12 [(1, 63#64)]) 0 0x12 = true ∧ mbxWord (asksFor 0x12 [(1, 63#64)]) 0 1 = 63) ∧
    (TablesOk (sealedS [] 0 1) ∧ serves (sealedS [] 0 1) 0 0x13 = true ∧ pufFailed (sealedS [] 0 1) = true) ∧
    (∀ k ∈ [0, 1], TablesOk (sealedS [] k 0) ∧ serves (sealedS [] k 0) 0 0x13 = true ∧ pufFailed (sealedS [] k 0) = false ∧
      tblFind (sealedS [] k 0).flash.sealedAt (mbxWord (sealedS [] k 0) 0 1) = some (List.replicate 32 7#8, [], k) ∧
      hbmTarget (mbxWord (sealedS [] k 0) 0 2) 32 64 = none ∧ (k ≤ (sealedS [] k 0).flash.fwCtr ↔ k = 0)) ∧
    ([1#8] ≠ [] ∧ [1#8] ≠ sliceB (sealedS [1#8] 0 0).cfg.committed.digest 0 8) := by
  refine ⟨fun c h => ⟨tables_of ?_, ?_⟩, by decide +kernel, ⟨by decide +kernel, by decide +kernel, tables_of (by decide +kernel),
    by decide +kernel⟩, ⟨tables_of (by decide +kernel), by decide +kernel⟩, by decide +kernel,
    ⟨tables_of (by decide +kernel), by decide +kernel⟩, fun k h => ⟨tables_of ?_, ?_⟩, by decide +kernel⟩
  · revert c; decide +kernel
  · revert c; decide +kernel
  · revert k; decide +kernel
  · revert k; decide +kernel

/-! ### Witnesses: start-up -/

/-- Port `p` in a state, and this device's address. -/
def portAt (ad : Option Nat) (p : Nat) (x : PortSt) : State :=
  { ready image0 [] with fabric := { FabricSt.empty with addr := ad }, ports := [(p, x)] }
def onLink (p mtype : Nat) (pl : List Byte) (addr : Nat := 0) : Arrival :=
  ⟨p, 8, 0, { mtype := mtype, dst := 0, src := 0, payload := pl, addr := addr }⟩
/-- Port 0 waits for a report over a nonce of zeros, of which `n` bytes are held. -/
def attesting (n : Nat) (lax : Bool) : State :=
  let s := setF (portAt (some 5) 0 { upPort with nonce := List.replicate 32 0#8, report := (reportA).take n, usable := false })
    FAB_PORT_ATTEST_STATE 0 1
  { s with cfg := { s.cfg with committed := stored { image0 with routing := { image0.routing with attestLog := lax } } } }
where reportA : List Byte := packed 4738 [(0, 4, 0x41545347), (4, 2, 1), (8, 4, 4738)]
def respOf (n : Nat) : Arrival := onLink 0 0x11 (sliceB attesting.reportA n 256) n
/-- An ANNOUNCE on port `p` from a member of a colony, which sent it on its own port `q`. -/
def announcing (p c m q : Nat) : Arrival := onLink p 0x12 (packed 24 [(0, 1, c), (1, 1, m), (2, 1, q), (4, 8, 77)])
theorem test_witness_NeighboursAndAddresses :
    (TablesOk (portAt (some 5) 0 upPort) ∧ LinkMsg (onLink 0 0x10 (List.replicate 32 0#8)) 0x10) ∧
    (∀ n ∈ [0, 4482, 4481], TablesOk (attesting n true) ∧ TablesOk (attesting n false) ∧ LinkMsg (respOf n) 0x11 ∧
      getF (attesting n true) FAB_PORT_ATTEST_STATE 0 = 1 ∧ getF (attesting n false) FAB_PORT_ATTEST_STATE 0 = 1 ∧
      (respOf n).msg.addr = (getPort (attesting n false) 0).report.length ∧
      (respOf n).msg.addr = (getPort (attesting n true) 0).report.length) ∧
    (let b := (getPort (attesting 4482 false) 0).report ++ (respOf 4482).msg.payload
     b.length = 4738 ∧ reportFits (getPort (attesting 4482 false) 0) b = true ∧ bitOf (leAt b 6 2) 0 = false ∧
     (cfgOf (attesting 4482 false)).routing.attestLog = false ∧ (cfgOf (attesting 4482 true)).routing.attestLog = true) ∧
    (∀ ad ∈ [none, some 5], ∀ p ∈ [0, 14, 15, 35], TablesOk (portAt ad p upPort)) ∧
    (∀ p ∈ [0, 14], LinkMsg (announcing p 0 1 0) 0x12 ∧ isStipe (portAt none p upPort) = false ∧
      (portAt none p upPort).fabric.addr = none) ∧
    (∀ x ∈ [(0, 9, 6, 14), (0, 0, 7, 14), (14, 0, 4, 1)],
      leAt (announcing x.1 x.2.1 x.2.2.1 x.2.2.2).msg.payload 0 1 ≠ 5 / 16 ∨
      leAt (announcing x.1 x.2.1 x.2.2.1 x.2.2.2).msg.payload 1 1 ≠ (5 % 16 + x.1 + 1) % 16 ∨
      leAt (announcing x.1 x.2.1 x.2.2.1 x.2.2.2).msg.payload 2 1 + x.1 ≠ 14) ∧
    (∀ p ∈ [15, 35], leAt (announcing p 9 0 15).msg.payload 0 1 ≠ 5 / 16 ∧ leAt (announcing p 0 0 15).msg.payload 0 1 = 5 / 16) ∧
    (∀ s ∈ [portAt none 0 upPort, portAt (some 5) 0 upPort, { portAt none 0 upPort with stipe := true }],
      TablesOk s ∧ Reached s (.host 0) FAB_ASSIGN_COLONY.off) ∧
    (isStipe { portAt none 0 upPort with stipe := true } = true ∧ bitOf (0x8000000000000002#64).toNat 63 = true) := by
  unfold LinkMsg Reached
  refine ⟨⟨tables_of (by decide +kernel), by decide +kernel⟩, fun n h => ⟨tables_of ?_, tables_of ?_, ?_⟩, by decide +kernel,
    fun d hd p hp => tables_of ?_, by decide +kernel, by decide +kernel, by decide +kernel, fun s hs => ⟨tables_of ?_, ?_⟩,
    by decide +kernel⟩
  · revert n; decide +kernel
  · revert n; decide +kernel
  · revert n; decide +kernel
  · revert d p; decide +kernel
  · revert s; decide +kernel
  · revert s; decide +kernel

def withGossip (ad : Option Nat) (g : GossipSt) (colonyOk : Nat) : State :=
  setF { ready image0 [] with
    fabric := { FabricSt.empty with addr := ad, gossip := g }
    ports := [(0, { upPort with announce := [1#8] })] } ANC_BOOT_STATUS_COLONY_OK 0 colonyOk
/-- A run of gossip at a round on some ports, and what has arrived. -/
def runAt (round : Nat) (ports : List Nat) (got : List (Nat × Nat × Nat × Nat)) (want : Bool := false) : GossipSt :=
  ⟨3, round, 0, [], [], ports, got, false, want, 3⟩
/-- The first of `n` fragments of a run and round. -/
def fragment (run round n : Nat) : Arrival := onLink 0 0x13 (packed 8 [(0, 2, run), (2, 1, round), (3, 1, n * 16)])
theorem test_witness_GossipRuns :
    (∀ s ∈ [withGossip none (runAt 0 [] []) 1, withGossip (some 5) (runAt 0 [] []) 0, withGossip (some 5) (runAt 1 [0] []) 1,
        withGossip (some 5) (runAt 6 [0] []) 1, withGossip (some 5) (runAt 0 [] [] true) 1, withGossip (some 5) (runAt 5 [0] []) 1,
        { withGossip (some 5) (runAt 6 [0] []) 1 with dev := .boot }], TablesOk s) ∧
    (∀ row ∈ [(1, 2), (6, 1)], let s := withGossip (some 5) (runAt row.1 [0] []) 1
      LinkMsg (fragment 3 row.1 row.2) 0x13 ∧ LinkMsg (fragment 2 row.1 row.2) 0x13 ∧ s.fabric.addr = some 5 ∧
      getF s ANC_BOOT_STATUS_COLONY_OK ≠ 0 ∧ s.fabric.gossip.run = leAt (fragment 3 row.1 row.2).msg.payload 0 2 ∧
      leAt (fragment 2 row.1 row.2).msg.payload 0 2 < s.fabric.gossip.run ∧
      (let b := (fragment 3 row.1 row.2).msg.payload
       let r := atLink s (fragment 3 row.1 row.2)
       let m := mergeFragment { r with fabric := { r.fabric with gossip := { runAt row.1 [0] [] with
         seen := 3, got := [(0, 3, leAt b 2 1, leAt b 3 1)] } } } 5 b
       m.fabric.gossip.ports.any (fun p => !roundHeard m.fabric.gossip p) = decide (row.1 = 1))) ∧
    (let s := withGossip (some 5) (runAt 0 [] [] true) 1
     s.fabric.gossip.want = true ∧ gossipPorts s ≠ [] ∧ s.fabric.gossip.got.all (fun x => x.2.1 != s.fabric.gossip.seen + 1) = true) ∧
    (∀ r ∈ [5, 6], let s := withGossip (some 5) (runAt r [0] []) 1
      s.fabric.gossip.round ≠ 0 ∧ elapsed (advance s 65536) 0 (cfgOf s).routing.roundGiveup 10 = true ∧ gossipPorts s ≠ [] ∧
      heardOf s.fabric.gossip 3 (r + 1) = []) ∧
    (∀ n ∈ [0, 1, 2, 3, 4], let s := { ready image0 [] with
        dev := (if n = 0 then .boot else .ready), mgmt := { MgmtSt.reset with marks := [(0, 0), (1, 0), (2, 0), (3, 0), (4, 0)] } }
      TablesOk s ∧ bitOf (getF s ANC_BOOT_STATUS_LATE) n = false ∧
      intervalSince (advance s (intervalBound n * 32768 + 1)) n = some 0 ∧ intervalSince (advance s (intervalBound n * 32768)) n = some 0 ∧
      (advance s (intervalBound n * 32768 + 1)).counter - 0 > intervalBound n * 32768 ∧
      (advance s (intervalBound n * 32768)).counter - 0 ≤ intervalBound n * 32768) := by
  unfold LinkMsg
  refine ⟨fun s h => tables_of ?_, by decide +kernel, by decide +kernel, by decide +kernel, fun n h => ⟨tables_of ?_, ?_⟩⟩
  · revert s; decide +kernel
  · revert n; decide +kernel
  · revert n; decide +kernel

/-! ### Witnesses: barriers -/

/-- A barrier that device 5 has joined, of an epoch and with participants. -/
def barrierOf (e : Nat) (members : List Nat) : BarrierSt := ⟨e, true, 2, members, 0, [], false, 0⟩
def barS (b : BarrierSt) : State := { linkS with fabric := { linkS.fabric with barriers := [b] } }
/-- A COMMIT waits for the barrier of epoch 9. -/
def barCommit : State :=
  setQ (barS (barrierOf 9 [4, 5])) .device { QueueSt.empty with tail := 1, issued := ⟨1, []⟩, live := [{ commitI with waits := .barrier 9 }] }
def joinFrom6 (e : Nat) : Arrival := fromSix 0x14 8 0 0 (packed 24 [(0, 8, e), (16, 2, 2), (18, 2, 1)])
def releaseOf (e : Nat) : Arrival := fromSix 0x15 8 0 0 (packed 24 [(0, 8, e)])
theorem test_witness_Barriers :
    (∀ e ∈ [0, 9], Delivered linkS (joinFrom6 e) 0x14 ∧ getBarrier linkS e = none) ∧
    (let b := barrierOf 9 [0x21, 5, 6]
     let b1 := withJoin b (joinFrom6 9).msg
     Delivered (barS b) (joinFrom6 9) 0x14 ∧ getBarrier (barS b) (leAt (joinFrom6 9).msg.payload 0 8) = some b ∧ b.joined = true ∧
     headOf b 0 = 5 ∧ b.members.headD 0 ≠ 5 ∧ colonyWhole b1 5 ∧ b.sentUp = false) ∧
    (let b := barrierOf 0 [5, 6]
     let b1 := withJoin b (joinFrom6 0).msg
     TablesOk (barS b) ∧ Delivered (barS b) (joinFrom6 0) 0x14 ∧ leAt (joinFrom6 0).msg.payload 0 8 = 0 ∧
     getBarrier (barS b) 0 = some b ∧ headOf b 0 = 5 ∧ b.members.headD 0 = 5 ∧ colonyWhole b1 5 ∧ b.members.length ≤ covered b1) ∧
    (let b := barrierOf 0 [4, 5]
     Delivered (barS b) (releaseOf 0) 0x15 ∧ getBarrier (barS b) (leAt (releaseOf 0).msg.payload 0 8) = some b ∧ b.joined = true ∧
     headOf b 0 ≠ 5) ∧
    (let b := barrierOf 9 [4, 5]
     Delivered barCommit (releaseOf 9) 0x15 ∧ getBarrier barCommit (leAt (releaseOf 9).msg.payload 0 8) = some b ∧ headOf b 0 ≠ 5 ∧
     liveCommit barCommit = some { commitI with waits := .barrier 9 }) ∧
    (let b := barrierOf 0 [5, 6]
     Delivered (barS b) (releaseOf 0) 0x15 ∧ headOf b (5 / 16) = 5 ∧ 6 ∈ inBarrierColony b (5 / 16) ∧ getBarrier (barS b) 0 = some b) ∧
    (elapsed (advance (barS (barrierOf 0 [5, 6])) (60 * 32768)) (barrierOf 0 [5, 6]).since
      (cfgOf (barS (barrierOf 0 [5, 6]))).routing.bootGiveup 1 = true) ∧
    (getBarrier barCommit 9 = some (barrierOf 9 [4, 5]) ∧
      elapsed (advance barCommit (60 * 32768)) (barrierOf 9 [4, 5]).since (cfgOf barCommit).routing.commitGiveup 1 = true) := by
  unfold Delivered colonyWhole
  refine ⟨by decide +kernel, by decide +kernel, ⟨tables_of (by decide +kernel), by decide +kernel⟩, by decide +kernel,
    by decide +kernel, by decide +kernel, by decide +kernel, by decide +kernel⟩

/-! ### Witnesses: power, resets and the stages of start-up -/

def devState (d : DevState) (island in48 resetN : Bool) : State :=
  { State.reset with dev := d, island := island, pins := { State.reset.pins with in48 := in48, resetN := resetN } }
theorem test_witness_PowerAndReset :
    (devState .off false false false).dev = .off ∧
    (∀ r ∈ [(true, true), (false, true), (true, false)],
      (devState .standby false r.1 r.2).dev = .standby ∧ (devState .standby false r.1 r.2).island = false) ∧
    (∀ s ∈ [devState .standby true false true, devState .standby true false false, devState .off false false true],
      TablesOk s ∧ s.pins.in48 = false) ∧
    (∀ d ∈ [DevState.boot, .ready, .service], TablesOk (devState d true true true)) ∧
    ((devState .standby true true false).island = true ∧ (devState .standby true true false).pins.in48 = true) ∧
    (isStipe { linkS with stipe := true, fabric := { linkS.fabric with hostOps := [hostOp 3] } } = true ∧ isStipe linkS = false) := by
  refine ⟨by decide +kernel, by decide +kernel, fun s h => ⟨tables_of ?_, ?_⟩, fun d h => tables_of ?_, by decide +kernel,
    by decide +kernel⟩
  · revert s; decide +kernel
  · revert s; decide +kernel
  · revert d; decide +kernel

/-- BOOT with some stages behind it: firmware runs, and stacks are settled. -/
def bootS (fw : Nat) : State := setF (devState .boot true true true) ANC_BOOT_STATUS_FW_OK 0 fw
def stacksDone : State :=
  (List.range 12).foldl (fun s k => setF s HBM_STATUS_TRAINED k 1) { bootS 1 with cfg := { CfgSt.reset with staged := some StoredImage.builtIn } }
theorem test_witness_StartUpStages :
    (TablesOk (bootS 0) ∧ MemOk (bootS 0) ∧ (bootS 0).dev = .boot ∧ getF (bootS 0) ANC_BOOT_STATUS_FW_OK = 0) ∧
    ((bootS 0).flash.slotA.state = 4 ∧ (bootS 0).flash.slotB.state < 2 ∧
      (bootS 0).flash.fwCtr ≤ (bootS 0).flash.slotA.sec ∧ (bootS 0).flash.fpA.sequence = (bootS 0).flash.fpCounter ∧
      (bootS 0).flash.image = none) ∧
    (TablesOk (bootS 1) ∧ MemOk (bootS 1) ∧ getF (bootS 1) ANC_BOOT_STATUS_FW_OK = 1 ∧ stackSettled (bootS 1) 0 = false ∧
      stackSettled (bootS 1) 11 = false) ∧
    (let s := { bootS 1 with mgmt := { (bootS 1).mgmt with trained := [(11, 2)] } }
     TablesOk s ∧ stackSettled s 11 = false ∧ tblGet 0 s.mgmt.trained 11 = 2) ∧
    (TablesOk stacksDone ∧ stacksDone.cfg.staged = some StoredImage.builtIn ∧ stacksDone.dev = .boot ∧
      (List.range 12).all (stackSettled stacksDone) = true) ∧
    (∀ g ∈ [0, 767], let s := { ready image0 [(g * 2 ^ 30, [(0, 1, 7)])] with mgmt := { MgmtSt.reset with zeroing := [g] } }
      MemOk s ∧ g ∈ s.mgmt.zeroing) := by
  refine ⟨⟨tables_of (by decide +kernel), mem_of (by decide +kernel), by decide +kernel⟩, by decide +kernel,
    ⟨tables_of (by decide +kernel), mem_of (by decide +kernel), by decide +kernel⟩, ⟨tables_of (by decide +kernel), by decide +kernel⟩,
    ⟨tables_of (by decide +kernel), by decide +kernel⟩, fun g h => ⟨mem_of ?_, ?_⟩⟩
  · revert g; decide +kernel
  · revert g; decide +kernel

/-! ### Witnesses: registers, restores and firmware -/

theorem test_witness_BadAccessNotPerformed :
    TablesOk linkS ∧ ∀ a ∈ [(⟨.host 5, 0x14008, .narrow⟩ : Access), ⟨.host 5, 0x1400A, .w32⟩, ⟨.host 5, 0x1400C, .w64⟩,
      ⟨.host 5, 0x3FFFFF8, .w64⟩], BadAccess linkS a ∧ admits linkS a.req (a.off / 8 * 8) = true := by
  refine ⟨tables_of (by decide +kernel), ?_⟩
  unfold BadAccess; decide +kernel

def tpS (d : DevState) (shift : Tbl (Nat × List W64)) : State :=
  let s := setF (setF { linkS with dev := d } HBM_TP_CTRL_LEN 11 128) HBM_TP_STATUS_BUSY 11 (if shift.isEmpty then 0 else 1)
  { s with mgmt := { s.mgmt with tpShift := shift } }
theorem test_witness_RegisterAccess :
    (∀ off ∈ [0, MGT_LOG_SEL_SEQ.off, FAB_PORT_CTRL_RESET.at 0], off % 8 = 0 ∧ Reached linkS (.host 5) off ∧
      ∀ k < 12, off ≠ HBM_TP_DATA_DATA.at k) ∧
    (TablesOk linkS ∧ ∀ off ∈ [0, causeOff 8, INT_COUNT0_COUNT.at 8], (regAt off).map (fun x => x.1.fields.isEmpty) = some false) ∧
    (findRecord linkS 1 = none ∧ Reached linkS (.host 5) MGT_LOG_SEL_SEQ.off ∧
      findRecord { linkS with mgmt := { linkS.mgmt with queue := [rec1] }, flash := { linkS.flash with logNext := 2 } } 1 = some rec1) ∧
    (∀ s ∈ [tpS .ready [], tpS .service [], tpS .service [(11, (0, []))], tpS .service [(11, (64, []))]], TablesOk s ∧
      Reached s (.host 5) (HBM_TP_CTRL_INSTR.at 11) ∧ Reached s (.host 5) (HBM_TP_DATA_DATA.at 11)) ∧
    (bitOf (0x8000000000008000#64).toNat 63 = true ∧ 0 < bitsOf (0x8000000000008000#64).toNat 8 16) ∧
    (∀ n ∈ [0, 64], getF (tpS .service [(11, (n, []))]) HBM_TP_STATUS_BUSY 11 = 1 ∧
      tblFind (tpS .service [(11, (n, []))]).mgmt.tpShift 11 = some (n, []) ∧
      (n + 64 < getF (tpS .service [(11, (n, []))]) HBM_TP_CTRL_LEN 11 ↔ n = 0)) := by
  unfold Reached
  refine ⟨by decide +kernel, ⟨tables_of (by decide +kernel), by decide +kernel⟩, by decide +kernel, fun s h => ⟨tables_of ?_, ?_⟩,
    by decide +kernel, by decide +kernel⟩
  · revert s; decide +kernel
  · revert s; decide +kernel

/-- Writes that a requester's reach ends, or a follower's queue. -/
theorem test_witness_write_out_of_reach :
    (let s := { linkS with cfg := { CfgSt.reset with committed := stored { image0 with parts := [(0, { part0 with paired := true })] } } }
     TablesOk s ∧ admits s (.host 5) 0x1014B8 = true ∧ assigned s 0x1014B8 = true ∧ followerQueue s 0x1014B8 = true) ∧
    (admits linkS (.sequencer 0) 0x1014B8 = true ∧ assigned linkS 0x1014B8 = true ∧ reaches (.sequencer 0) 0x1014B8 = false) :=
  ⟨⟨tables_of (by decide +kernel), by decide +kernel⟩, by decide +kernel⟩

def restoring (p : PartState) (r : Option RestoreSt) : State :=
  let s := { inState p linkS with mem := laid [(0x8000, [])], mgmt := { linkS.mgmt with restore := r } }
  setF s ANC_RESTORE_SRC_ADDR 0 0x8000
def restore0 : RestoreSt := ⟨0, 0x8000, true, 6, [], true, []⟩
/-- A stream read whole from device 6: STATE, MANIFEST and END, with nothing in them. -/
def recOf (type records : Nat) : List Byte :=
  let h := packed 44 [(0, 2, type), (32, 4, crc32c []), (40, 4, records)]
  h ++ leBytes 4 (crc32c h)
def restore1 : RestoreSt := ⟨0, 0x8000, true, 6, recOf 1 0 ++ recOf 2 0 ++ recOf 0xFF 3, false, []⟩
/-- A header that is not of an image, and one that is: 64 bytes at 0x8000, no signature. -/
def fwHead (ok : Bool) : Fields :=
  (if ok then [(0, 4, 0x48574C50), (4, 2, 1), (8, 4, 9), (12, 4, 1), (16, 4, 64)] else []) ++ [(24, 2, 0x0768), (26, 1, 0xC0)]
def updating (d : DevState) (busy : Option (Nat × Nat)) (ok : Bool) : State :=
  { linkS with dev := d, mem := laid [(0x8000, fwHead ok)], mgmt := { linkS.mgmt with fwBusy := busy, lichen := .running } }
theorem test_witness_RestoreAndFirmware :
    (∀ s ∈ [restoring .running none, restoring .loaded none, restoring .loaded (some restore0)], TablesOk s ∧
      Reached s (.host 5) ANC_RESTORE_CTRL_SRC_DEV.off) ∧
    (bitOf (0x8000000000001006#64).toNat 63 = true ∧ bitOf (0x8000000000001006#64).toNat 12 = true ∧
      (getPart (restoring .loaded none) 0).state = .loaded ∧ (getPart (restoring .running none) 0).state ≠ .loaded ∧
      bitsOf (0x8000000000001006#64).toNat 13 3 = 0) ∧
    ((restoring .loaded (some restore0)).mgmt.restore = some restore0 ∧ restore0.part = 0 ∧ streamRead restore0 = true ∧
      restoreStatus (restoring .loaded (some restore0)) restore0 (streamRecs (restoring .loaded (some restore0)) restore0) ≠ stOK ∧
      zeroingFor (restoring .loaded (some restore0)) (.anchor 0) = false ∧
      zeroingFor (restoring .loaded (some restore1)) (.anchor 0) = false) ∧
    (TablesOk (restoring .loaded (some restore1)) ∧ streamRead restore1 = true ∧
      restoreStatus (restoring .loaded (some restore1)) restore1 (streamRecs (restoring .loaded (some restore1)) restore1) = stOK) ∧
    (∀ d ∈ [DevState.boot, .ready, .service], TablesOk (updating d none true) ∧
      Reached (updating d none true) .lichen MGT_FW_CTRL_ADDR.off) ∧
    (∀ ok ∈ [true, false], let s := updating .ready (some (1, 0x8000)) ok
      TablesOk s ∧ s.mgmt.fwBusy = some (1, 0x8000) ∧ lichenRuns s = true ∧ fwHeaderOk 0x8000 (readBytes s 0x8000 128) = ok ∧
      s.flash.fwCtr ≤ leAt (readBytes s 0x8000 128) 12 4) := by
  unfold Reached
  refine ⟨fun s h => ⟨tables_of ?_, ?_⟩, by decide +kernel, by decide +kernel, ⟨tables_of (by decide +kernel), by decide +kernel⟩,
    fun d h => ⟨tables_of ?_, ?_⟩, fun k h => ⟨tables_of ?_, ?_⟩⟩
  · revert s; decide +kernel
  · revert s; decide +kernel
  · revert d; decide +kernel
  · revert d; decide +kernel
  · revert k; decide +kernel
  · revert k; decide +kernel

/-- A running core with work of a kind. -/
def coreS (m : MgmtSt) (n : Nat) : State :=
  let s := setF { linkS with mgmt := m } ANC_BOOT_STATUS_FW_OK 0 1
  { s with flash := { s.flash with logNext := n } }
theorem test_witness_LichenCore :
    (let s := coreS { MgmtSt.reset with lichen := .running } 1
     TablesOk s ∧ lichenRuns s = true ∧ lichenIdle s = true ∧
     elapsed (advance s 32768) s.mgmt.workAt (cfgOf s).understory.lichenIdle 10000 = true ∧ 32768 ≤ (advance s 32768).counter - s.mgmt.fedAt ∧
     (advance s 32767).counter - s.mgmt.fedAt < 32768 ∧ s.mgmt.halted = false ∧ (getPort s (s.mgmt.serdesNext % 36)).state = .up ∧
     getF s ANC_BOOT_STATUS_FW_OK = 1) ∧
    (∀ l ∈ [LichenState.asleep, .waking], TablesOk (coreS { MgmtSt.reset with lichen := l } 1) ∧
      (coreS { MgmtSt.reset with lichen := l } 1).mgmt.lichen = l) ∧
    (let s := coreS { MgmtSt.reset with lichen := .running, queue := [rec1] } 2
     lichenRuns s = true ∧ s.mgmt.queue ≠ [] ∧ s.mgmt.queue.length < s.flash.logNext ∧ eraseBlock (s.flash.logNext - 1) < blocksWritable s) ∧
    (let s := coreS { MgmtSt.reset with lichen := .running } (255 * 4096 + 1)
     lichenRuns s = true ∧ blocksWritable s ≤ eraseBlock (queueFirstSeq s) + 1 ∧ s.flash.erased < 100000 * 256) ∧
    (let s := { coreS { MgmtSt.reset with lichen := .running } 1 with cfg := { CfgSt.reset with committed := stored telemImage } }
     (cfgOf s).understory.telemPeriod ≠ 0 ∧ getF s ANC_BOOT_STATUS_FW_OK = 1 ∧ s.mgmt.halted = false ∧
     (cfgOf s).understory.telemBase.isSome = true ∧ lichenUp s = true) := by
  refine ⟨⟨tables_of (by decide +kernel), by decide +kernel⟩, fun l h => ⟨tables_of ?_, ?_⟩, by decide +kernel, by decide +kernel,
    by decide +kernel⟩ <;> revert l <;> decide +kernel

/-! ### Witnesses: sensors, power and gating -/

def withPower (p : PowerSt) : State := { linkS with power := p }
def pw0 : PowerSt := PowerSt.reset
theorem test_witness_SensorsAndLimits :
    (TablesOk linkS ∧ MemOk linkS ∧ devOn linkS = true ∧ ∀ n ∈ [0, 239, 252], linkS.mgmt.faulted.contains n = false) ∧
    (125 * 16 ≤ tempOf 2000 ∧ tempOf 1999 < 125 * 16 ∧ tempOf 0xFFFF < 125 * 16 ∧
      Int.ofNat (powerCfg linkS).thermWarn * 16 ≤ tempOf 1760 ∧ 110 * 16 ≤ tempOf 1760 ∧ (powerCfg linkS).thermWarn ≤ 110 ∧
      linkS.power.warn = none) ∧
    (∀ n ∈ [0, 233], let s := withPower { pw0 with hot := [(n, 2)] }
      TablesOk s ∧ tblGet 0 s.power.hot n = 2 ∧ s.power.critHold = false) ∧
    (let s := withPower { pw0 with warn := some (6000, 9), lowSince := some 0 }
     TablesOk s ∧ s.power.lowSince = some 0 ∧ s.power.warn.isSome = true ∧ s.power.critHold = false ∧
     elapsed (advance s 32768) 0 1 1 = true) ∧
    (offBy 1 0 10 = true ∧ offBy 1 3300 10 = false ∧ groupOfRail 1 = none ∧
      tblGet 0 (withPower { pw0 with railBad := [(0, 99)] }).power.railBad 0 = 99 ∧ TablesOk (withPower { pw0 with railBad := [(0, 99)] })) ∧
    (∀ p ∈ [{ pw0 with inletBad := 9 }, { pw0 with flowBad := 9 }, { pw0 with capped := true, coolGood := 9 }],
      TablesOk (withPower p)) ∧
    (Int.ofNat (powerCfg linkS).inletMax * 16 < tempOf 0x7FFF ∧ ¬ Int.ofNat (powerCfg linkS).inletMax * 16 < tempOf 0 ∧
      0 < (powerCfg linkS).flowMin * 10 ∧ ¬ 65535 < (powerCfg linkS).flowMin * 10) ∧
    ((cfgOf linkS).redundancy.feedImage = false) ∧
    (let s := { linkS with mgmt := { linkS.mgmt with scrubSince := [(0, 1)] } }
     scrubDue (advance s 1) 0 = false) ∧
    (∀ i ∈ [0, 2 ^ 28 - 1], ∀ r ∈ [0, 2, 3], let s0 := setF linkS HBM_STATUS_TRAINED 11 1
     let s := { s0 with mgmt := { s0.mgmt with scrubAt := tblSet 0 [] 11 i },
                        upsets := tblSet Upset.zero [] (11 * 2 ^ 28 + i) ⟨r, false⟩ }
     TablesOk s ∧ MemOk s ∧ devOn s = true ∧ getF s HBM_STATUS_TRAINED 11 = 1 ∧ tblGet 0 s.mgmt.scrubAt 11 = i ∧ i < blocksPerStack ∧
     scrubDue (advance s 0) 11 = true ∧ (tblGet Upset.zero s.upsets (11 * 2 ^ 28 + i)).reads = r) := by
  refine ⟨⟨tables_of (by decide +kernel), mem_of (by decide +kernel), by decide +kernel⟩, by decide +kernel,
    fun n h => ⟨tables_of ?_, ?_⟩, ⟨tables_of (by decide +kernel), by decide +kernel⟩, ⟨by decide +kernel, by decide +kernel,
    by decide +kernel, by decide +kernel, tables_of (by decide +kernel)⟩, fun p h => tables_of ?_, by decide +kernel, by decide +kernel, by decide +kernel,
    fun i h r hr => ⟨tables_of ?_, mem_of ?_, ?_⟩⟩
  · revert n; decide +kernel
  · revert n; decide +kernel
  · revert p; decide +kernel
  · revert i r; decide +kernel
  · revert i r; decide +kernel
  · revert i r; decide +kernel

theorem test_witness_GovernorAndGating :
    (∀ p ∈ [pw0, { pw0 with warn := some (30000, 3) }, { pw0 with capped := true }, { pw0 with critHold := true }],
      TablesOk (withPower p) ∧ devOn (withPower p) = true) ∧
    (fullFlow (withPower { pw0 with capped := true }) = true ∧ TablesOk (setF linkS FAB_HWIN_VALID 0 1) ∧
      getF (setF linkS PWR_FLOW_OVERRIDE_ENABLE 0 1) PWR_FLOW_OVERRIDE_ENABLE = 1) ∧
    (∀ f ∈ [0, 287], frondEnabled linkS f = true ∧ (getFrond linkS f).gate = .awake ∧ frondIdle linkS f = true) ∧
    (let s := inState .loaded linkS
     TablesOk s ∧ ownerOfFrond s 0 = some 0 ∧ partCfg s 0 = some part0 ∧ frondEnabled s 0 = true ∧ (getFrond s 0).gate ≠ .power ∧
     frondIdle s 0 = true ∧ (s.power.ballast && ballastable s 0) = false ∧
     elapsed (advance s 32768) (getFrond s 0).idleAt part0.pgateIdleUs 1000000 = true) ∧
    (let s := ready {} []
     devOn s = true ∧ s.power.pllOff.contains 1 = false ∧ dieGated s 1 = true ∧
     elapsed (advance s (2 ^ 30)) (tblGet 0 s.power.dieIdleAt 1) (powerCfg s).pllIdle 1000 = true) ∧
    (∀ g ∈ [Gate.clock, .power], let s := { running (.frond 0) (entry 0 []) [] with fronds := [(0, { FrondSt.empty with gate := g })] }
      TablesOk s ∧ frondEnabled s 0 = true ∧ readyEntry s 0 = true ∧ (getFrond s 0).gate = g) := by
  refine ⟨fun p h => ⟨tables_of ?_, ?_⟩, ⟨by decide +kernel, tables_of (by decide +kernel), by decide +kernel⟩, by decide +kernel,
    ⟨tables_of (by decide +kernel), by decide +kernel⟩, by decide +kernel, fun g h => ⟨tables_of ?_, ?_⟩⟩
  · revert p; decide +kernel
  · revert p; decide +kernel
  · revert g; decide +kernel
  · revert g; decide +kernel

/-- Power gating of a die's last frond starts the die's idle time. -/
def lastFrond : State := { inState .loaded (withPower { pw0 with dieIdleAt := [] }) with
  fronds := (List.range' 1 11).map (fun f => (f, { FrondSt.empty with gate := .power })) }
theorem test_die_gated :
    tblFind lastFrond.power.dieIdleAt 0 = none ∧ (match exec (.powerGate 0 32768) lastFrond with
      | .next t => dieGated t 0 && tblFind t.power.dieIdleAt 0 == some 32768
      | _ => false) = true := by decide +kernel

/-! ### Witnesses: tests, mismatches and the debug port -/

/-- Firmware runs, and units have ages. -/
def agedS (p : PartState) (ages : Tbl Nat) (due testing : List Nat) : State :=
  let s := setF (inState p linkS) ANC_BOOT_STATUS_FW_OK 0 1
  { s with flash := { s.flash with ages := ages }, mgmt := { s.mgmt with due := due, testing := testing } }
/-- Partition 0 runs, in pairs or not, with a live entry in frond 0's queue and a held mismatch. -/
def mismatchS (paired : Bool) (held : Option (W32 × Bool)) : State :=
  let c : ImageCfg := { image0 with parts := [(0, { part0 with paired := paired })] }
  let s := inState .running (ready c [(0, entry 0 [])])
  setQ { s with fronds := if held.isNone then [] else [(0, { FrondSt.empty with lockstep := held })] } (.frond 0)
    { QueueSt.empty with tail := 1, issued := ⟨1, []⟩, live := [{ commitI with opcode := 0 }] }
theorem test_witness_TestsAndMismatches :
    (let s := agedS .running [] [] []
     TblWf 0 s.flash.ages ∧ getF s ANC_BOOT_STATUS_FW_OK = 1 ∧ s.mgmt.halted = false ∧
     elapsed (advance s (3600 * 32768)) s.mgmt.ledgerAt 3600 1 = true) ∧
    (let s := setF (agedS .running [(0, 10 ^ 9)] [] []) FRD_REL_STATE_TEST_OVERDUE 0 1
     TablesOk s ∧ s.cfg.floorOk = true ∧ testPeriod s ≤ testAge s 0 ∧ 2 * testPeriod s ≤ testAge s 0 ∧ cushionPresent s (unitCushion 0) = true ∧
     frondAt s 0 = some 0 ∧ unitOwner s 0 = some 0 ∧ (getPart s 0).state = .running ∧ getF s FRD_REL_STATE_TEST_OVERDUE 0 = 1 ∧
     s.mgmt.late.contains 0 = false) ∧
    (∀ u ∈ [12, 311, 335], let s := agedS .running [] [u] []
      s.mgmt.due.contains u = true ∧ s.mgmt.testing.contains u = false ∧ understoryUnit s u = true ∧
      (u < 312 ∨ ∀ v ∈ s.mgmt.testing, v < 312 → unitCushion v ≠ unitCushion u)) ∧
    (∀ off ∈ [[], [1]], let s0 := agedS .running [] [311] []
      let s := { s0 with power := { s0.power with pllOff := off } }
      testWakes s 311 = true) ∧
    (∀ u ∈ [0, 12, 335], let s := agedS .running [] [u] [u]
      TablesOk s ∧ TblWf 0 s.flash.ages ∧ s.mgmt.testing.contains u = true ∧ (u = 0 → spareAt s (unitCushion u) ≠ some u)) ∧
    (∀ paired ∈ [true, false], let s := mismatchS paired none
      frondEnabled s 0 = true ∧ (getFrond s 0).lockstep = none ∧ (paired = true → pairedFrond s 0 = true ∧ isFollower s 0 = false) ∧
      (getQ s (.frond (leaderOf s 0))).live = [{ commitI with opcode := 0 }]) ∧
    (let s := mismatchS false (some (0, false))
     TablesOk s ∧ (getFrond s 0).lockstep = some (0, false) ∧
     (getQ s (.frond (leaderOf s 0))).live.find? (fun i => i.n == 0) = some { commitI with opcode := 0 } ∧
     ownerOfFrond s (leaderOf s 0) = some 0) := by
  refine ⟨by decide +kernel, ⟨tables_of (by decide +kernel), by decide +kernel⟩, by decide +kernel, by decide +kernel,
    fun u h => ⟨tables_of ?_, ?_⟩, by decide +kernel, tables_of (by decide +kernel), by decide +kernel⟩
  · revert u; decide +kernel
  · revert u; decide +kernel

def debugS (opened : Bool) (target : Nat) : State := { linkS with dbgPort := { DebugSt.reset with opened := opened, target := target } }
def challenged (fails locked : Nat) : State :=
  setF (setF { linkS with dbgPort := { DebugSt.reset with nonce := some [] } } SEC_STATUS_UNLOCK_FAILS 0 fails) SEC_STATUS_LOCKED 0 locked
theorem test_witness_DebugPort :
    devOn linkS = true ∧
    (∀ r ∈ [(0, 0), (7, 0), (8, 1)], TablesOk (challenged r.1 r.2) ∧ devOn (challenged r.1 r.2) = true ∧
      getF (challenged r.1 r.2) SEC_STATUS_LOCKED = r.2 ∧ getF (challenged r.1 r.2) SEC_STATUS_UNLOCK_FAILS = r.1 ∧
      (challenged r.1 r.2).dbgPort.nonce.isSome = true) ∧
    (blockOk [] true = true ∧ blockOk [] false = false) ∧
    (portPowered (debugS false 0) = true ∧ (debugS false 0).dbgPort.opened = false) ∧
    (∀ n ∈ [0, 1, 320, 321], DebugOpen (debugS true n) n) ∧
    (∀ q ∈ [0, 319], q ∈ ({ debugS true (q + 1) with dbgPort := { (debugS true (q + 1)).dbgPort with halted := [q] } } : State).dbgPort.halted) ∧
    (hbmRange 0x8000 8 = true ∧ hbmRange (2 ^ 47) 8 = false ∧ 2 ^ 32 ≤ 2 ^ 47 % 2 ^ 48) := by
  unfold DebugOpen
  refine ⟨by decide +kernel, fun r h => ⟨tables_of ?_, ?_⟩, by decide +kernel⟩ <;> revert r <;> decide +kernel

/-! ### Values that the spec states -/

/-- 00_scope, R2 and R3: ANC_DEVICE_ID before and after the floorplan record is verified. -/
theorem test_device_id : readValue State.reset 0 = 0x000000C007684D47#64 ∧ readValue (showFloor linkS) 0 = 0x000120C007684D47#64 := by decide +kernel

/-- 19_security_debug: the IDCODE that the port shifts out. -/
theorem test_idcode : (match exec .idcode State.reset with | .next t => t.dbgPort.tdo | _ => []) = bitsLsb 32 0xC076809B := by
  decide +kernel

/-- 02_number_formats, the worked example: values in hundredths, their codes and integers, and two dequantised elements. -/
def yRow : List Int := [30, -70, 120, 250, -300, 500, 590, -25, 0, 175, -440, 80, -125, 360, -600, 50]
theorem test_e2m1_block :
    packCodes 4 (yRow.map (fun y => convertElem e2m1 .none y 100)) = leBytes 8 0x1F6A2E40076D4291 ∧
    (yRow.map (fun y => convertElem e2m1 .none y 100)).map (elemInt e2m1 .none) =
      [1, -1, 2, 4, -6, 8, 12, 0, 0, 4, -8, 2, -2, 8, -12, 1].map some ∧
    dequantElem e2m1 .none 0x6C 0x7 0x40000000#32 = 0x40900000#32 ∧
    dequantElem e2m1 .none 0x6C 0xF 0x40000000#32 = 0xC0900000#32 := by decide +kernel

/-- 03_block_scaling, the worked example's blocks A and B: elements in parts of 256, and the scale of both slots. -/
def blockA : QBlock := quantiseBlock e2m1 .none ⟨0x38000000#32, false, 4, 0, 2⟩ 0
  (([72, -24, 6, 0, -36, 15, 48, -3, 18, -60, 1, 32, -12, 0, -2, 42] : List Int).map (fun n => fp32OfRat n 256))
def blockB : QBlock := quantiseBlock e2m1 .none ⟨0x38000000#32, true, 4, 0, 2⟩ 0
  (([225, -60, 140, 10] : List Int).map (fun n => fp32OfRat n 100) ++ List.replicate 12 pzero32)
theorem test_block_a : packCodes 4 blockA.codes = leBytes 8 0x600A50E3062D01C7 ∧ metaBytes 4 blockA = leBytes 2 0x03CC := by
  decide +kernel
theorem test_block_b : packCodes 4 blockB.codes = leBytes 8 0x17C7 ∧ metaBytes 4 blockB = leBytes 2 0x23E0 ∧ blockB.ev.troubled = true := by
  decide +kernel

/-- 04_crozier_epiphyte, the worked example's block with budget 0 and 1. -/
def rowX : List W32 := [0, 1, 1, 32, 1, 0, 0, 0, 1, 0, 0, 0, 0, 0, 0, 0].map (fun n => fp32OfRat n 4)
theorem test_epiphyte_block :
    (let b := quantiseBlock e2m1 .none ⟨one32, false, 4, 0, 2⟩ 0 rowX
     packCodes 4 b.codes = leBytes 8 0x7000 ∧ metaBytes 4 b = leBytes 2 0x837B) ∧
    (let b := quantiseBlock e2m1 .none ⟨one32, false, 4, 1, 2⟩ 0 rowX
     packCodes 4 b.codes = leBytes 8 0x700070770 ∧ metaBytes 4 b = leBytes 2 0x0B53 ∧ epiBytes 1 b.epis = leBytes 3 0x034100) := by
  decide +kernel

/-- 05_dot_product, the worked example: the run, the rhizome and the store. -/
def runX : List (LaneBlock × LaneBlock) :=
  [(.vals [1, -1, 2, 4, -6, 8, 12, 0, 0, 4, -8, 2, -2, 8, -12, 1] 1 13 4 4 [], .vals [1, 0, 2, -1, 1, 0, 0, 3, 0, 1, -2, 0, 1, -1, 0, 2] 1 14 0 4 []),
   (.vals [3, 0, -1, 2, 0, 6, 0, 1, -4, 0, 0, 2, 0, -3, 1, 0] 1 12 0 4 [], .vals [2, 1, 0, -2, 4, 0, 1, 1, 1, 0, 3, -1, 0, 2, 0, -1] 1 15 0 4 [(5, 0x4980#16)])]
theorem test_dot_run : (accumulate pzero32 [runX]).1 = 0x48C00002#32 ∧
    (scaleOutput 0x48C00002#32 0x3E000000#32 0x40400000#32).1 = 0x48100002#32 := by decide +kernel

/-- 10_tensor_layout, the worked example: the element's address, the write test, and the test of a stride written by mistake. -/
def keyDesc (tok : Nat) : Desc := parseDesc (packed 128 ([(0, 8, 0x2085)] ++ [(8, 4, 128), (12, 4, 40), (16, 4, 6144), (20, 4, 1), (24, 4, 1), (28, 4, 1)] ++
  [(32, 6, 1), (38, 6, 786432), (44, 6, tok), (72, 8, 0x340000000)]))
theorem test_layout : (keyDesc 128).elemKey 0 ((keyDesc 128).coordsMN 5 1000) = 0x340A805D0 ∧ (keyDesc 128).writeOk false = true ∧
    (keyDesc 120).writeOk false = false := by decide +kernel

/-- 14_reduction, the worked example: both passes of block 0, elements in parts of 2^31. -/
def rowOf (a b c : Int) : List W32 := [a, b, c].map (fun n => fp32OfRat n (2 ^ 31)) ++ List.replicate 13 pzero32
def bfA (e pass : Nat) : Bfx := bfxConvert (rowOf (21 * 2 ^ 29) (-3 * 2 ^ 28) 6) e pass 0 false
def bfB (e pass : Nat) : Bfx := bfxConvert (rowOf (2 ^ 33) (2 ^ 28) 1) e pass 0 false
theorem test_bfx_pass_0 : agreedExp (some 0x3FE2000000000000#64) 3 0 = 129 ∧ (bfA 129 0).residue = 213 ∧ (bfB 129 0).residue = 218 ∧
    (bfA 129 0).m.take 3 = [0x54000000, -100663296, 1] ∧
    (bfxAdd false (bfA 129 0) (bfB 129 0)).m.take 3 = [0x7FFFFFFF, -67108864, 1] ∧
    (bfxAdd false (bfA 129 0) (bfB 129 0)).residue = 189 ∧ (bfxAdd false (bfA 129 0) (bfB 129 0)).flag bfRescale = true := by decide +kernel
theorem test_bfx_pass_1 : (bfA 133 1).residue = 76 ∧ (bfB 133 1).residue = 45 ∧
    (let b := bfxAdd false (bfA 133 1) (bfB 133 1)
     b.residue = 121 ∧ b.count = 2 ∧ (b.m.take 3).map (bfxValue b) = [0x41140000#32, 0xBE800000#32, pzero32]) := by decide +kernel

/-- 08_vector_engine, the worked example of a softmax: the logarithm's product and the sum with the log-probability. -/
theorem test_softmax_words : fp32MulRne 0xBFB17218#32 0x3FB8AA3B#32 = 0xC0000000#32 ∧
    fp32SubRne 0xBF317218#32 0x3F317218#32 = 0xBFB17218#32 ∧ fp32MulRne 0x3F4CCCCD#32 0x40000000#32 = 0x3FCCCCCD#32 := by decide +kernel

/-- 09_training_support, the example after the norm record: F, and an element times it. -/
theorem test_norm_factor : fp64AddRne 0x4010000000000000#64 0x4002000000000000#64 = 0x4019000000000000#64 ∧
    fp32OfRat 2 5 = 0x3ECCCCCD#32 ∧ fp32MulRne 0x3FC00000#32 0x3ECCCCCD#32 = 0x3F19999A#32 := by decide +kernel

/-- 17_startup_discovery, the worked example: the neighbour's index, and slot 0 of colony 200. -/
theorem test_route_slot : (⟨11, 27, true, false, true⟩ : Slot).word = 0xA1BB ∧ (0 + 31 - 10) % 16 = 5 ∧ meshPort 5 9 = 3 := by decide +kernel

/-- 22_package, R549 and R550: the lands of lane 1 of port 34, and the port and lane of host lane 9. -/
theorem test_lands : portLand 34 1 false false = (90, 74) ∧ portLand 34 1 true true = (94, 75) ∧ hostLane 9 = (34, 1) := by decide +kernel

/-! ### Witnesses: runs of steps -/

theorem test_witness_StepKeepsMemory : MemOk linkS ∧ (match step linkS with | .next t => memB t | _ => false) = true :=
  ⟨mem_of (by decide +kernel), by decide +kernel⟩
theorem test_witness_StepKeepsTables : TablesOk linkS ∧ (match step linkS with | .next t => tablesB t | _ => false) = true :=
  ⟨tables_of (by decide +kernel), by decide +kernel⟩
end Sys2Proof.Tests
end

section
/-! SUPPORT. Accesses that R9 names: what an access error leaves, and that a bad access leaves nothing else. -/

namespace Sys2Proof.Proofs

open Sys2Proof Sys2Proof.Machine Sys2Proof.Safety Sys2Proof.Claims Sys2Proof.Laws

/-! ### Registers under the operations of the interrupt tree -/

theorem bitOf_eq_testBit (n k : Nat) : bitOf n k = n.testBit k := by
  rw [Nat.testBit_eq_decide_div_mod_eq]
  rfl

theorem getReg_of_regs_eq {s t : State} (h : t.regs = s.regs) (o : Nat) : getReg t o = getReg s o := by
  unfold getReg; rw [h]

theorem getReg_bump_ne {s : State} {f : Fld} {i k o : Nat} (h : TablesOk s) (ho : o ≠ f.at i) :
    getReg (bump s f i k) o = getReg s o := by
  unfold bump
  split
  · rfl
  · exact getReg_setReg_ne h ho

@[simp] theorem getReg_notifyInt (old again : Nat) (s : State) (o : Nat) : getReg (notifyInt old again s) o = getReg s o :=
  getReg_of_regs_eq (notifyInt_agree.area .regs rfl) o

/-- The offset of the register that counts the occurrences of cause `k` of interrupt block `b` (R492). -/
def countOff (b k : Nat) : Nat := INT_COUNT0_COUNT.at b + 8 * (k / 8)

theorem causeOff_ne_countOff (b k : Nat) : causeOff b ≠ countOff b k := by
  simp only [causeOff, countOff, Fld.at, INT_CAUSE_CAUSE, INT_COUNT0_COUNT]; omega

/-- A cause's event writes its counter after its cause bit: away from the counter's register it leaves what setting the bit leaves. -/
theorem getReg_raiseCause_ne_count {s : State} {b k o : Nat} (h : TablesOk s) (hc : o ≠ countOff b k) :
    getReg (raiseCause s b k) o =
      getReg (setReg s (causeOff b) (getReg s (causeOff b) ||| BitVec.ofNat 64 (2 ^ k))) o := by
  unfold raiseCause
  rw [getReg_notifyInt]
  refine getReg_bump_ne (setReg_agree.tabOk h) fun he => hc (he.trans ?_)
  simp only [countOff, Fld.at]; omega

theorem getReg_raiseCause_ne {s : State} {b k o : Nat} (h : TablesOk s) (ho : o ≠ causeOff b) (hc : o ≠ countOff b k) :
    getReg (raiseCause s b k) o = getReg s o := by
  rw [getReg_raiseCause_ne_count h hc, getReg_setReg_ne h ho]

theorem raiseCause_caused {s : State} {b k : Nat} (h : TablesOk s) (hk : k < 64) : Caused (raiseCause s b k) b k := by
  unfold Caused
  rw [getReg_raiseCause_ne_count h (causeOff_ne_countOff b k), getReg_setReg_same h, bitOf_eq_testBit]
  have hpow : 2 ^ k % 2 ^ 64 = 2 ^ k := Nat.mod_eq_of_lt (Nat.pow_lt_pow_right (by decide) hk)
  rw [BitVec.toNat_or, BitVec.toNat_ofNat, hpow, Nat.testBit_or, Nat.testBit_two_pow_self, Bool.or_true]

/-! ### What an access error leaves (R9) -/

theorem reqCode_lt (req : Requester) : reqCode req < 4 := by
  cases req <;> simp [reqCode]

theorem countOff_reqCode (req : Requester) : countOff 8 (reqCode req) = INT_COUNT0_COUNT.at 8 := by
  have := reqCode_lt req
  unfold countOff; omega

/-- The access log, then the cause: an access error is the event of its requester's cause on a state that differs from the one
before in the access log at most. -/
theorem accessError_eq_raiseCause {s : State} (req : Requester) (off kind : Nat) (h : TablesOk s) :
    ∃ s1, accessError s req off kind = raiseCause s1 8 (reqCode req) ∧ TablesOk s1 ∧
      ∀ o, o ≠ INT_ACCESS_LOG_VALID.off → getReg s1 o = getReg s o := by
  unfold accessError
  refine ⟨_, rfl, ?_, fun o ho => ?_⟩ <;> split
  · exact h
  · exact setReg_agree.tabOk h
  · rfl
  · exact getReg_setReg_ne h ho

theorem accessError_onlyErrored {s : State} (req : Requester) (off kind : Nat) (h : TablesOk s) :
    OnlyErrored s (accessError s req off kind) req := by
  obtain ⟨s1, he, h1, hlog⟩ := accessError_eq_raiseCause req off kind h
  have hcaused : Caused (accessError s req off kind) 8 (reqCode req) :=
    he ▸ raiseCause_caused h1 (Nat.lt_trans (reqCode_lt req) (by decide))
  have hregs (o : Nat) (ho : o ∉ errorOffs) : getReg (accessError s req off kind) o = getReg s o := by
    simp only [errorOffs, List.mem_cons, List.not_mem_nil, or_false, not_or] at ho
    obtain ⟨hcause, hcount, hvalid⟩ := ho
    rw [he, getReg_raiseCause_ne h1 hcause (countOff_reqCode req ▸ hcount), hlog o hvalid]
  have frame := accessError_agree (x0 := s) (x1 := req) (x2 := off) (x3 := kind)
  exact ⟨hcaused, hregs, frame.area .mem rfl, frame.area .queues rfl, frame.area .fronds rfl, frame.area .parts rfl,
    frame.area .ports rfl, frame.area .cfg rfl, frame.area .flash rfl, frame.area .mgmt rfl, frame.area .power rfl,
    frame.area .dbgPort rfl, frame.area .dev rfl⟩

/-! ### A bad access -/

theorem touchAt_unassigned {s : State} {req : Requester} {off : Nat} (pos : Nat) (write : Bool) (act : State → State)
    (ha : admits s req off = true) (hu : assigned s off = false) :
    touchAt s req off pos write act = accessError (dropShadow s req) req pos 2 := by
  have hdrop : (!assigned (dropShadow s req) off) = true := congrArg (!·) hu
  unfold touchAt
  rw [ha]
  exact if_pos hdrop

/-- A bad access that reaches the device is answered by the access error alone: what a performed access would do does not matter. -/
theorem access_bad {s : State} {a : Access} (write : Bool) (act : Nat → State → State) (hbad : BadAccess s a)
    (ha : admits s a.req (a.off / 8 * 8) = true) :
    ∃ kind, access a write act s = accessError (dropShadow s a.req) a.req a.off kind := by
  unfold BadAccess at hbad
  unfold access
  simp only [ha, if_true]
  cases hw : a.width with
  | narrow => exact ⟨0, rfl⟩
  | w32 =>
    by_cases hm : a.off % 4 = 0
    · have hu : assigned s (a.off / 8 * 8) = false := by simpa [hw, hm] using hbad
      exact ⟨2, (if_neg (Classical.not_not.2 hm)).trans (touchAt_unassigned _ _ _ ha hu)⟩
    · exact ⟨1, if_pos hm⟩
  | w64 =>
    by_cases hm : a.off % 8 = 0
    · have hu : assigned s (a.off / 8 * 8) = false := by simpa [hw, hm] using hbad
      exact ⟨2, (if_neg (Classical.not_not.2 hm)).trans (touchAt_unassigned _ _ _ ha hu)⟩
    · exact ⟨1, if_pos hm⟩

theorem access_bad_onlyErrored {s : State} {a : Access} (write : Bool) (act : Nat → State → State) (h : TablesOk s)
    (hbad : BadAccess s a) (ha : admits s a.req (a.off / 8 * 8) = true) :
    OnlyErrored s (access a write act s) a.req ∧ (access a write act s).lastRead = s.lastRead := by
  obtain ⟨kind, he⟩ := access_bad write act hbad ha
  rw [he]
  exact ⟨accessError_onlyErrored a.req a.off kind (dropShadow_agree.tabOk h), accessError_agree.area .lastRead rfl⟩

/-- Settles O53: a write and a read are both accesses that the access error alone answers, and a read sets its value to 0 before. -/
theorem badAccessNotPerformed : Obligations.BadAccessNotPerformed := by
  unfold Obligations.BadAccessNotPerformed
  intro a v gap s h hbad ha
  have hz : TablesOk { s with lastRead := 0 } := ⟨h.regs, h.resets, h.queues, h.fronds, h.slots, h.parts, h.ports⟩
  obtain ⟨hwrite, -⟩ := access_bad_onlyErrored true (regWrite a.req (wrOf a v)) h hbad ha
  obtain ⟨hread, hval⟩ := access_bad_onlyErrored (s := { s with lastRead := 0 }) false (regRead a _) hz hbad ha
  exact ⟨⟨_, rfl, hwrite⟩, _, rfl, hval, hread⟩

end Sys2Proof.Proofs
end

section
/-! SUPPORT. Slots of the rhizomes: what a slot holds after a slot has been set, and that reads, writes and the store path keep
every slot. -/

namespace Sys2Proof.Proofs

open Sys2Proof Sys2Proof.Machine Sys2Proof.Safety Sys2Proof.Frame Sys2Proof.Laws

/-! ### Slots under an update of a frond -/

/-- From `s` to `t` every slot of every frond is as it was, and the tables are still in canonical form. -/
structure SlotsKept (s t : State) : Prop where
  tabOk : TablesOk t
  slots : ∀ f k, getSlot t f k = getSlot s f k

theorem getSlot_of_fronds_eq {s t : State} (h : t.fronds = s.fronds) (f k : Nat) : getSlot t f k = getSlot s f k := by
  unfold getSlot getFrond; rw [h]

theorem SlotsKept.refl {s : State} (h : TablesOk s) : SlotsKept s s := ⟨h, fun _ _ => rfl⟩

theorem SlotsKept.trans {s t u : State} (h : SlotsKept s t) (k : SlotsKept t u) : SlotsKept s u :=
  ⟨k.tabOk, fun f i => (k.slots f i).trans (h.slots f i)⟩

/-- An operation that does not touch the fronds keeps the slots. -/
theorem SlotsKept.after {A : Nat} {s t u : State} (ha : Agree A t u) (hA : A.testBit Area.fronds.idx = false) (h : SlotsKept s t) :
    SlotsKept s u :=
  h.trans ⟨ha.tabOk h.tabOk, getSlot_of_fronds_eq (ha.area .fronds hA)⟩

theorem SlotsKept.foldl {s : State} {β : Type} {g : State → β → State} {l : List β} {t : State}
    (hg : ∀ t b, SlotsKept s t → SlotsKept s (g t b)) (h : SlotsKept s t) : SlotsKept s (l.foldl g t) := by
  induction l generalizing t with
  | nil => exact h
  | cons b l ih => exact ih (hg t b h)

theorem SlotsKept.foldlFst {s : State} {α β : Type} {g : State × α → β → State × α} {l : List β} {x : State × α}
    (hg : ∀ x b, SlotsKept s x.1 → SlotsKept s (g x b).1) (h : SlotsKept s x.1) : SlotsKept s (l.foldl g x).1 := by
  induction l generalizing x with
  | nil => exact h
  | cons b l ih => exact ih (hg x b h)

theorem getFrond_modFrond_same {s : State} {f : Nat} {g : FrondSt → FrondSt} (h : TablesOk s) :
    getFrond (modFrond s f g) f = g (getFrond s f) :=
  getFrond_setFrond_same h

theorem getFrond_modFrond_ne {s : State} {f j : Nat} {g : FrondSt → FrondSt} (h : TablesOk s) (hj : j ≠ f) :
    getFrond (modFrond s f g) j = getFrond s j :=
  getFrond_setFrond_ne h hj

theorem modFrond_slotsKept {s : State} {f : Nat} {g : FrondSt → FrondSt} (h : TablesOk s) (hg : ∀ x, (g x).slots = x.slots) :
    SlotsKept s (modFrond s f g) := by
  refine ⟨(modFrond_agree (fun _ x hx => (hg x).symm ▸ hx)).tabOk h, fun j k => ?_⟩
  unfold getSlot
  by_cases hj : j = f
  · rw [hj, getFrond_modFrond_same h, hg]
  · rw [getFrond_modFrond_ne h hj]

theorem getSlot_setSlot_same {s : State} {f k : Nat} {v : SlotSt} (h : TablesOk s) : getSlot (setSlot s f k v) f k = v := by
  unfold getSlot setSlot
  rw [getFrond_modFrond_same h]
  exact tblGet_tblSet_same (getFrond_slots_wf h).1

theorem getSlot_setSlot_ne {s : State} {f k j : Nat} {v : SlotSt} (h : TablesOk s) (hj : j ≠ k) :
    getSlot (setSlot s f k v) f j = getSlot s f j := by
  unfold getSlot setSlot
  rw [getFrond_modFrond_same h]
  exact tblGet_tblSet_ne (getFrond_slots_wf h).1 hj

/-! ### The store path keeps the slots -/

theorem seqLogEvent_slotsKept {s : State} (f : Nat) (r : LogRec) (h : TablesOk s) : SlotsKept s (seqLogEvent s f r) := by
  unfold seqLogEvent
  extract_lets held s1
  have h1 : SlotsKept s s1 := modFrond_slotsKept h (fun _ => rfl)
  split
  · split
    · exact h1.after seqPost_agree rfl
    · exact h1
  · refine .after raiseCause_agree rfl (.after bump_agree rfl ?_)
    exact ⟨⟨h.regs, h.resets, h.queues, h.fronds, h.slots, h.parts, h.ports⟩, fun _ _ => rfl⟩

theorem readCheck_slotsKept {s : State} (u : Nat) (h : TablesOk s) : SlotsKept s (readCheck s u) := by
  unfold readCheck
  extract_lets x k s0 sHbm f sLocal c sCache
  have h0 : SlotsKept s s0 := (SlotsKept.refl h).after clearUpset_agree rfl
  split
  · exact .refl h
  split
  · split
    · exact h0.after bump_agree rfl
    · exact ((h0.after poisonUnit_agree rfl).after bump_agree rfl).after hbmPoisoned_agree rfl
  split
  · have h1 : SlotsKept s sLocal := (h0.after poisonUnit_agree rfl).after bump_agree rfl
    split
    · exact h0.after bump_agree rfl
    · exact (h1.trans (seqLogEvent_slotsKept _ _ h1.tabOk)).after raiseCause_agree rfl
  · split
    · exact h0.after bump_agree rfl
    · exact (((h0.after poisonUnit_agree rfl).after bump_agree rfl).after logEvent_agree rfl).after raiseCause_agree rfl

theorem readUnit_slotsKept {s : State} (u : Nat) (h : TablesOk s) : SlotsKept s (readUnit s u) := by
  unfold readUnit
  split
  · exact (readCheck_slotsKept u h).after bump_agree rfl
  · exact readCheck_slotsKept u h

theorem readUnits_slotsKept {s : State} (us : List Nat) (h : TablesOk s) : SlotsKept s (readUnits s us) :=
  .foldl (fun _ u ht => ht.trans (readUnit_slotsKept u ht.tabOk)) (.refl h)

theorem writePart_slotsKept {s : State} (u : Nat) (part : WSet) (halo : Bool) (h : TablesOk s) :
    SlotsKept s (writePart s u part halo).1 := by
  unfold writePart
  extract_lets kept d st s1
  split
  · exact .refl h
  split
  · have h1 : SlotsKept s s1 := by
      unfold s1
      split
      · exact .refl h
      · exact (readUnit_slotsKept u h).after bump_agree rfl
    dsimp only
    exact (h1.after writeUnit_agree rfl).after bump_agree rfl
  · exact (SlotsKept.refl h).after writeUnit_agree rfl

theorem writeSet_slotsKept {s : State} (w : WSet) (halo : Bool) (h : TablesOk s) : SlotsKept s (writeSet s w halo).1 :=
  .foldlFst (fun _ u hx => hx.trans (writePart_slotsKept u _ _ hx.tabOk)) (.refl h)

theorem commitWrites_slotsKept {s : State} (f : Nat) (w : WSet) (halo : Bool) (h : TablesOk s) :
    SlotsKept s (commitWrites s f w halo) := by
  unfold commitWrites
  exact (writeSet_slotsKept w halo h).after bump_agree rfl

theorem queueEvent_slotsKept {s : State} (q : QueueId) (type severity : Nat) (pl : List Byte) (h : TablesOk s) :
    SlotsKept s (queueEvent s q type severity pl) := by
  cases q with
  | frond f => exact seqLogEvent_slotsKept f _ h
  | cushion c => exact (SlotsKept.refl h).after logEvent_agree rfl
  | anchor p => exact (SlotsKept.refl h).after logEvent_agree rfl
  | device => exact (SlotsKept.refl h).after logEvent_agree rfl

theorem stageJit_slotsKept {s : State} (c : Ctx) (d : Desc) (blocks : List QIn) (h : TablesOk s) :
    SlotsKept s (stageJit s c d blocks).1 := by
  unfold stageJit
  extract_lets pc key w s1
  split
  · have h1 : SlotsKept s s1 := writeSet_slotsKept w _ h
    exact h1.trans (readUnits_slotsKept _ h1.tabOk)
  · have h1 : SlotsKept s (bump (readUnits s c.reads) FRD_VEC_BUSY_ISSUE_CYCLES c.f c.cycles) :=
      (readUnits_slotsKept c.reads h).after bump_agree rfl
    exact h1.trans (queueEvent_slotsKept _ _ _ _ h1.tabOk)

theorem jitStaged_slotsKept {s : State} {jit : Bool} {c : Ctx} {d : Desc} {blocks : List QIn} (h : TablesOk s) :
    SlotsKept s (if jit then stageJit s c d blocks else (s, blocks)).1 := by
  split
  · exact stageJit_slotsKept c d blocks h
  · exact .refl h

theorem quantLines_slotsKept {s : State} (c : Ctx) (d : Desc) (w : WSet) (lines : List QLine) (h : TablesOk s) :
    SlotsKept s (quantLines s c d w lines).1 := by
  unfold quantLines
  extract_lets +onlyGivenNames k
  clear_value k
  dsimp -zeta only
  extract_lets +onlyGivenNames amax moved
  cases k with
  | none =>
    dsimp -zeta only
    split
    · exact .refl h
    · exact (SlotsKept.refl h).after bumpQuant_agree rfl
  | some sc =>
    dsimp -zeta only
    split
    · extract_lets +onlyGivenNames s1
      have h1 : SlotsKept s s1 := by
        unfold s1
        split
        · exact (SlotsKept.refl h).after ensureReloc_agree rfl
        · exact .refl h
      exact (((h1.after bump_agree rfl).after noteAmax_agree rfl).after noteCounts_agree rfl).after noteStorm_agree rfl
    split
    · exact .refl h
    extract_lets +onlyGivenNames s1 d1 biased bias qs ev t s1' s2
    have h1 : SlotsKept s s1 := by
      unfold s1
      split
      · exact (jitStaged_slotsKept h).after ensureReloc_agree rfl
      · exact (jitStaged_slotsKept h).after modPart_agree rfl
    have h1' : SlotsKept s s1' := by
      unfold s1'
      split
      · exact h1.after keepBias_agree rfl
      · exact h1
    have h2 : SlotsKept s s2 := by
      unfold s2
      split
      · exact h1'.after recordJit_agree rfl
      · exact h1'
    exact (((h2.after bumpQuant_agree rfl).after noteAmax_agree rfl).after noteCounts_agree rfl).after noteStorm_agree rfl

end Sys2Proof.Proofs
end

section
/-! SUPPORT. An entry that issues: the verdict of its command's own rule is what the command leaves. -/

namespace Sys2Proof.Proofs

open Sys2Proof Sys2Proof.Machine Sys2Proof.Safety Sys2Proof.Claims Sys2Proof.Laws

theorem wordLost_eq_false {s : State} {q : QueueId} (h : ∀ x ∈ s.seqUps, x.queue ≠ qNum q) : wordLost s q = false := by
  refine List.any_eq_false.2 fun x hx => ?_
  rw [beq_false_of_ne (h x hx)]
  exact Bool.false_ne_true

theorem repairWords_eq_self {s : State} {q : QueueId} (h : ∀ x ∈ s.seqUps, x.queue ≠ qNum q) : repairWords s q = s := by
  have hmine : s.seqUps.filter (fun x => x.queue == qNum q) = [] :=
    List.filter_eq_nil_iff.2 fun x hx => ne_true_of_eq_false (beq_false_of_ne (h x hx))
  have hothers : s.seqUps.filter (fun x => !(x.queue == qNum q)) = s.seqUps :=
    List.filter_eq_self.2 fun x hx => congrArg (!·) (beq_false_of_ne (h x hx))
  unfold repairWords
  rw [List.partition_eq_filter_filter, hmine]
  show { s with seqUps := s.seqUps.filter (fun x => !(x.queue == qNum q)) } = s
  rw [hothers]

/-- An entry that is free to issue, and whose own rule has effects with DETAIL 0, issues. -/
theorem runEntry_eq_issued {s s1 : State} {q : QueueId} {n : W32} {op : Nat} {ops : Nat → Bool} {used : List (Nat × Nat)}
    {body : State → List Byte → Verdict} {st : Nat} {k : Bool} {w : WaitFor} (hf : FreeToIssue s q n op used)
    (hops : ops op = true) (hb : body (atBody s q n) (entryBytes s q n) = .effect s1 st 0 k w) :
    runEntry q n ops used body s = issued s s1 q n st k w := by
  obtain ⟨hop, hcan, hbp, hups, hchecks⟩ := hf
  have hups' : ∀ x ∈ (fetchEntry s q n).seqUps, x.queue ≠ qNum q := by
    rw [fetchEntry_agree.area .seqUps rfl]; exact hups
  unfold atBody atIssue at hb
  unfold runEntry
  simp only [hop, hops, hcan, hbp, wordLost_eq_false hups, repairWords_eq_self hups', hchecks, hb, Bool.and_self, if_true,
    Bool.false_eq_true, if_false] <;> rfl

/-- A check that rejects or waits has not failed where a command has effects. -/
theorem else_eq_effect {p : Prop} [Decidable p] {u v : Verdict} {s1 : State} {st d : Nat} {k : Bool} {w : WaitFor}
    (h : (if p then u else v) = .effect s1 st d k w) (hu : u ≠ .effect s1 st d k w) : v = .effect s1 st d k w := by
  by_cases hp : p
  · exact absurd ((if_pos hp).symm.trans h) hu
  · exact (if_neg hp).symm.trans h

theorem poisoned_eq_effect {s s1 : State} {st st1 d : Nat} {consumed k : Bool} {w : WaitFor}
    (h : Verdict.poisoned s st consumed = .effect s1 st1 d k w) :
    s1 = s ∧ (st1 = st ∨ st1 = stPoison) ∧ d = 0 ∧ w = .done := by
  unfold Verdict.poisoned at h
  injection h with hs hst hd hk hw
  refine ⟨hs.symm, ?_, hd.symm, hw.symm⟩
  rw [← hst]
  split
  · exact .inr rfl
  · exact .inl rfl

end Sys2Proof.Proofs
end

section
/-! SUPPORT. STORE_TILES (R176 to R181): what a command that goes through leaves. -/

namespace Sys2Proof.Proofs

open Sys2Proof Sys2Proof.Machine Sys2Proof.Safety Sys2Proof.Claims Sys2Proof.Laws

/-! ### The parts of a STORE_TILES -/

/-- The numbers of the slots that a STORE_TILES names. -/
def tilesOf (a : StoreP) : List Nat := List.range' a.base (a.tm * a.tn)

/-- The slots that a STORE_TILES names, with their numbers. -/
def tileSlots (s : State) (f : Nat) (a : StoreP) : List (Nat × SlotSt) := (tilesOf a).map (fun i => (i, getSlot s f i))

/-- The destinations of a STORE_TILES (R176), with local extents. -/
def storeDests (s : State) (p : Nat) (a : StoreP) : List Desc :=
  ([a.da] ++ (if a.db = 0xFFFF then [] else [a.db])).map (fun h => (readDesc s p h).localize s p)

/-- The values of slots that a destination takes under a mask: all poisoned where a slot is (R302). -/
def tileVals (slots : List (Nat × SlotSt)) (km : Option Mask) (d : Desc) : List OutVal :=
  ((slots.flatMap (fun x => (slotValues x.2 d.rows d.cols).1)).filter (fun o => maskKeeps km o.m o.n)).map
    (fun o => { o with poison := slots.any (fun x => x.2.poison) })

/-- A destination takes its values: the state, and whether a SUM read poison so far. -/
def storeInto (c : Ctx) (a : StoreP) (slots : List (Nat × SlotSt)) (km : Option Mask) (acc : State × Bool) (d : Desc) :
    State × Bool :=
  let vs := tileVals slots km d
  if d.blocked then
    let (s1, w) := quantLines acc.1 c d [] (storeLines d (d.blk == 0) vs)
    (commitWrites s1 c.f w, acc.2)
  else
    let r := if a.mode = 1 then sumStore acc.1 c.f d a.order vs else wideStore acc.1 c.f d false vs []
    (bump (commitWrites acc.1 c.f r.w) FRD_ARRAY_EVENTS_SUM_OVF c.f r.ovf, acc.2 || r.poisoned)

/-- The slots become EMPTY, unless RETAIN is 1 (R181). -/
def releaseTiles (s : State) (f : Nat) (a : StoreP) (slots : List (Nat × SlotSt)) : State :=
  if a.retain = 1 then s else slots.foldl (fun s x => setSlot s f x.1 SlotSt.empty) s

theorem mem_tiles {a : StoreP} {i : Nat} : i ∈ tilesOf a ↔ a.base ≤ i ∧ i < a.base + a.tm * a.tn := List.mem_range'_1

theorem tileVals_unmasked (s : State) (f : Nat) (a : StoreP) (d : Desc) :
    tileVals (tileSlots s f a) none d =
      (((tilesOf a).map (getSlot s f)).flatMap (fun x => (slotValues x d.rows d.cols).1)).map
        (fun o => { o with poison := ((tilesOf a).map (getSlot s f)).any (·.poison) }) := by
  have hkeep (l : List OutVal) : l.filter (fun o => maskKeeps none o.m o.n) = l := List.filter_eq_self.2 fun _ _ => rfl
  unfold tileVals tileSlots
  rw [hkeep, List.flatMap_map, List.flatMap_map, List.any_map, List.any_map]
  rfl

/-! ### A destination -/

theorem storeInto_slotsKept {s : State} (c : Ctx) (a : StoreP) (slots : List (Nat × SlotSt)) (km : Option Mask)
    {acc : State × Bool} (d : Desc) (h : SlotsKept s acc.1) : SlotsKept s (storeInto c a slots km acc d).1 := by
  unfold storeInto
  extract_lets vs r
  split
  · have hq := h.trans (quantLines_slotsKept c d [] (storeLines d (d.blk == 0) vs) h.tabOk)
    exact hq.trans (commitWrites_slotsKept c.f _ false hq.tabOk)
  · exact (h.trans (commitWrites_slotsKept c.f r.w false h.tabOk)).after bump_agree rfl

theorem storeInto_wide_mem (c : Ctx) {a : StoreP} (slots : List (Nat × SlotSt)) (km : Option Mask) (acc : State × Bool) {d : Desc}
    (hwide : d.blocked = false) (hmode : a.mode = 0) :
    (storeInto c a slots km acc d).1.mem =
      (commitWrites acc.1 c.f (wideStore acc.1 c.f d false (tileVals slots km d) []).w).mem := by
  unfold storeInto
  rw [hwide, if_neg Bool.false_ne_true, hmode, if_neg Nat.zero_ne_one]
  exact bump_agree.area .mem rfl

/-! ### The slots afterwards -/

/-- The induction: a slot is listed still to be emptied, or is EMPTY already and stays so. -/
theorem getSlot_foldl_setSlot_empty {s : State} {f i : Nat} {slots : List (Nat × SlotSt)} (h : TablesOk s)
    (hi : i ∈ slots.map (·.1) ∨ getSlot s f i = SlotSt.empty) :
    getSlot (slots.foldl (fun s x => setSlot s f x.1 SlotSt.empty) s) f i = SlotSt.empty := by
  induction slots generalizing s with
  | nil => exact hi.resolve_left List.not_mem_nil
  | cons x slots ih =>
    refine ih (setSlot_agree.tabOk h) ?_
    by_cases hx : i = x.1
    · exact .inr (hx ▸ getSlot_setSlot_same h)
    · rw [getSlot_setSlot_ne h hx]
      exact hi.imp_left fun hm => (List.mem_cons.1 hm).resolve_left hx

theorem releaseTiles_mem (s : State) (f : Nat) (a : StoreP) (slots : List (Nat × SlotSt)) :
    (releaseTiles s f a slots).mem = s.mem := by
  unfold releaseTiles
  split
  · rfl
  · induction slots generalizing s with
    | nil => rfl
    | cons x slots ih => exact ih (setSlot s f x.1 SlotSt.empty)

/-! ### The command -/

/-- A STORE_TILES that goes through and has elements to store: its slots were DONE, its destinations have taken their values one
after the other, from a state that the reads of the mask and of a SUM have left, and its slots are released. -/
theorem storeBody_effect {c : Ctx} {s s1 : State} {e : List Byte} {st dt : Nat} {k : Bool} {w : WaitFor} (h : TablesOk s)
    (he : storeBody c s e = .effect s1 st dt k w) (hd : ∃ d ∈ storeDests s c.p (parseStore e), d.count ≠ 0) :
    let a := parseStore e
    let slots := tileSlots s c.f a
    (st = stOK ∨ st = stPoison) ∧ dt = 0 ∧ w = .done ∧ (∀ x ∈ slots, x.2.state = .done) ∧
    ∃ sRead km ovf, SlotsKept s sRead ∧ (a.mask = 0xFFFF → a.mode = 0 → sRead = s ∧ km = none) ∧
      s1 = releaseTiles (bump ((storeDests s c.p a).foldl (storeInto c a slots km) (sRead, false)).1
        FRD_DOT_EVENTS_STORE_OVF c.f ovf) c.f a slots := by
  -- Each check that rejects the entry or makes it wait leaves no effect; what remains is the branch that stores.
  unfold storeBody at he
  extract_lets +onlyGivenNames a hs ori ds dA useOf at he
  split at he
  · exact nomatch he
  have hstores : ¬ds.all (fun d => d.count == 0) = true := fun hall => by
    obtain ⟨d, hmem, hcount⟩ := hd
    exact hcount (eq_of_beq (List.all_eq_true.1 hall d hmem))
  extract_lets +onlyGivenNames n slots at he
  replace he := else_eq_effect he nofun
  replace he := else_eq_effect he nofun
  rw [if_neg hstores] at he
  replace he := else_eq_effect he nofun
  split at he
  · exact nomatch he
  next hdone =>
  extract_lets +onlyGivenNames bad vals at he
  replace he := else_eq_effect he nofun
  replace he := else_eq_effect he nofun
  replace he := else_eq_effect he nofun
  extract_lets +onlyGivenNames km sMask sRead step at he
  dsimp -zeta only at he
  extract_lets +onlyGivenNames ovf s2 s3 at he
  obtain ⟨hs1, hst, hdt, hw⟩ := poisoned_eq_effect he
  have hMask : SlotsKept s sMask := readUnits_slotsKept _ h
  have hRead : SlotsKept s sRead := by
    unfold sRead
    split
    · exact hMask.trans (readUnits_slotsKept _ hMask.tabOk)
    · exact hMask
  refine ⟨hst, hdt, hw, fun x hx => ?_, sRead, km, ovf, hRead, fun hmask hmode => ⟨?_, if_pos hmask⟩, hs1⟩
  · exact Decidable.not_not.1 fun hx' => List.find?_eq_none.1 hdone x hx (decide_eq_true hx')
  · have hno : ¬(a.mode = 1 ∧ a.order > 0) := fun hm => Nat.zero_ne_one (hmode.symm.trans hm.1)
    have hunits : maskUnits s c.p c.f a.mask dA.rows dA.cols = [] := if_pos hmask
    unfold sRead sMask
    rw [if_neg hno, hunits]
    rfl

/-- An accepted STORE_TILES leaves its slots as R181 says, and memory as the store path leaves it. -/
theorem storeBody_leaves {c : Ctx} {s s1 : State} {e : List Byte} {st dt : Nat} {k : Bool} {w : WaitFor} (h : TablesOk s)
    (he : storeBody c s e = .effect s1 st dt k w) (hd : ∃ d ∈ storeDests s c.p (parseStore e), d.count ≠ 0) :
    let a := parseStore e
    let d := (readDesc s c.p a.da).localize s c.p
    (a.retain = 0 → ∀ i ∈ tilesOf a, getSlot s1 c.f i = SlotSt.empty) ∧
    (a.retain = 1 → ∀ i ∈ tilesOf a, getSlot s1 c.f i = getSlot s c.f i ∧ (getSlot s1 c.f i).state = .done) ∧
    (d.blocked = false → a.db = 0xFFFF → a.mask = 0xFFFF → a.mode = 0 →
      s1.mem = (commitWrites s c.f (wideStore s c.f d false (tileVals (tileSlots s c.f a) none d) []).w).mem) := by
  intro a d
  obtain ⟨-, -, -, hdone, sRead, km, ovf, hRead, hplain, rfl⟩ := storeBody_effect h he hd
  have hstored : SlotsKept s (bump ((storeDests s c.p a).foldl (storeInto c a (tileSlots s c.f a) km) (sRead, false)).1
      FRD_DOT_EVENTS_STORE_OVF c.f ovf) :=
    .after bump_agree rfl (.foldlFst (fun _ d hx => storeInto_slotsKept c a _ km d hx) hRead)
  refine ⟨fun hr i hi => ?_, fun hr i hi => ?_, fun hwide hdb hmask hmode => ?_⟩
  · have hi' : i ∈ (tileSlots s c.f a).map (·.1) := List.mem_map.2 ⟨(i, getSlot s c.f i), List.mem_map.2 ⟨i, hi, rfl⟩, rfl⟩
    unfold releaseTiles
    rw [if_neg (fun h1 => Nat.zero_ne_one (hr.symm.trans h1))]
    exact getSlot_foldl_setSlot_empty hstored.tabOk (.inl hi')
  · unfold releaseTiles
    rw [if_pos hr, hstored.slots]
    exact ⟨rfl, hdone (i, getSlot s c.f i) (List.mem_map.2 ⟨i, hi, rfl⟩)⟩
  · obtain ⟨rfl, rfl⟩ := hplain hmask hmode
    have hdests : storeDests sRead c.p a = [d] := by
      unfold storeDests
      rw [if_pos hdb]
      rfl
    rw [releaseTiles_mem, bump_agree.area .mem rfl, hdests]
    exact storeInto_wide_mem c _ none (sRead, false) hwide hmode

/-- Settles O19: what an accepted STORE_TILES leaves, on the state after fetch and descriptor reads; keeping the command for repeats
changes neither slots nor memory. -/
theorem storeTilesStores : Obligations.StoreTilesStores := by
  unfold Obligations.StoreTilesStores
  intro f n mb s htab hfree c a s0 d slots vals hacc hcount
  obtain ⟨s1, st, dt, k, w, he⟩ := hacc
  have h0 : TablesOk s0 := checkSlots_agree.tabOk (issueReads_agree.tabOk (fetchEntry_agree.tabOk htab))
  have hd : ∃ d ∈ storeDests s0 c.p a, d.count ≠ 0 := by
    rcases hcount with h1 | ⟨hdb, h2⟩
    · exact ⟨d, List.mem_cons_self, h1⟩
    · have hb : a.db ∈ [a.da] ++ (if a.db = 0xFFFF then [] else [a.db]) := by
        rw [if_neg hdb]
        exact List.mem_append_right _ List.mem_cons_self
      exact ⟨_, List.mem_map.2 ⟨a.db, hb, rfl⟩, h2⟩
  obtain ⟨hst, rfl, rfl, -⟩ := storeBody_effect h0 he hd
  obtain ⟨hempty, hretain, hmem⟩ := storeBody_leaves h0 he hd
  have hslot (i : Nat) : getSlot (keepCmd s1 c.p c.q c.n c.mb c.e) f i = getSlot s1 f i :=
    getSlot_of_fronds_eq (keepCmd_agree.area .fronds rfl) f i
  refine ⟨keepCmd s1 c.p c.q c.n c.mb c.e, st, k, ?_, hst, fun hr i hlo hhi => ?_, fun hr i hlo hhi => ?_,
    fun hwide hdb hmask hmode => ?_⟩
  · refine congrArg Host.Outcome.next (runEntry_eq_issued hfree rfl ?_)
    exact congrArg (Verdict.keep c) he
  · exact (hslot i).trans (hempty hr i (mem_tiles.2 ⟨hlo, hhi⟩))
  · rw [hslot]
    exact hretain hr i (mem_tiles.2 ⟨hlo, hhi⟩)
  · rw [keepCmd_agree.area .mem rfl, hmem hwide hdb hmask hmode, tileVals_unmasked]
    rfl

end Sys2Proof.Proofs
end

section
/-! SUPPORT. Facts about lists, from core Lean's own. -/

namespace Sys2Proof.Proofs

theorem filterMap_congr_mem {α β : Type} {f g : α → Option β} {l : List α} (h : ∀ x ∈ l, f x = g x) : l.filterMap f = l.filterMap g := by
  induction l with
  | nil => rfl
  | cons a l ih =>
    rw [List.filterMap_cons, List.filterMap_cons, h a List.mem_cons_self, ih fun x hx => h x (List.mem_cons_of_mem a hx)]

/-- Induction on a list from its end. -/
theorem snoc_induction {α : Type} {motive : List α → Prop} (l : List α) (nil : motive [])
    (append_singleton : ∀ l a, motive l → motive (l ++ [a])) : motive l := by
  have hrev (r : List α) : motive r.reverse := by
    induction r with
    | nil => exact nil
    | cons a r ih =>
      rw [List.reverse_cons]
      exact append_singleton _ a ih
  rw [← List.reverse_reverse l]
  exact hrev l.reverse

theorem getD_append_of_lt {α : Type} {l l' : List α} {d : α} {n : Nat} (h : n < l.length) : (l ++ l').getD n d = l.getD n d := by
  rw [List.getD_eq_getElem?_getD, List.getD_eq_getElem?_getD, List.getElem?_append_left h]

theorem getD_append_of_le {α : Type} {l l' : List α} {d : α} {n : Nat} (h : l.length ≤ n) :
    (l ++ l').getD n d = l'.getD (n - l.length) d := by
  rw [List.getD_eq_getElem?_getD, List.getD_eq_getElem?_getD, List.getElem?_append_right h]

theorem flatMap_perm_of_mem {α β : Type} {f g : α → List β} {l : List α} (h : ∀ x ∈ l, (f x).Perm (g x)) :
    (l.flatMap f).Perm (l.flatMap g) := by
  induction l with
  | nil => exact .nil
  | cons a l ih =>
    rw [List.flatMap_cons, List.flatMap_cons]
    exact (h a List.mem_cons_self).append (ih fun x hx => h x (List.mem_cons_of_mem a hx))

end Sys2Proof.Proofs
end

section
/-! SUPPORT. A step: what each command leaves outside its areas, and the invariants that every step keeps. -/

namespace Sys2Proof.Proofs

open Sys2Proof Sys2Proof.Machine Sys2Proof.Safety Sys2Proof.Frame Sys2Proof.Laws

/-- The areas of a list as the bits of a mask, in the numbering of `Area.idx`. -/
def areaMask (l : List Area) : Nat := l.foldr (fun a m => 2 ^ a.idx ||| m) 0

theorem Area.leftInverse_idx : Function.LeftInverse Area.ofNat Area.idx := fun a => by
  cases a <;> rfl

theorem testBit_areaMask_of_notMem {a : Area} {l : List Area} (h : a ∉ l) : (areaMask l).testBit a.idx = false := by
  induction l with
  | nil => exact Nat.zero_testBit _
  | cons b l ih =>
    obtain ⟨hb, hl⟩ := not_or.1 (fun hm => h (List.mem_cons.2 hm))
    have hne : b.idx ≠ a.idx := fun he => hb (Area.leftInverse_idx.injective he.symm)
    show (2 ^ b.idx ||| areaMask l).testBit a.idx = false
    rw [Nat.testBit_or, ih hl, Nat.testBit_two_pow_of_ne hne, Bool.or_false]

/-- Every command agrees with its start outside the areas that `touches` lists for it. -/
theorem exec_agree {c : Instr} {s t : State} (h : exec c s = .next t) : Agree (areaMask (touches c)) s t := by
  cases c with
  | nop => exact execNop_agree h
  | fence => exact execFence_agree h
  | matmul => exact execMatmul_agree h
  | storeTiles => exact execStoreTiles_agree h
  | layerCheck => exact execLayerCheck_agree h
  | gatherAddFold => exact execGatherAddFold_agree h
  | gatherAddSum => exact execGatherAddSum_agree h
  | vectorRun => exact execVectorRun_agree h
  | fusedSoftmax => exact execFusedSoftmax_agree h
  | sample => exact execSample_agree h
  | loadProgram => exact execLoadProgram_agree h
  | streamCopy => exact execStreamCopy_agree h
  | update => exact execUpdate_agree h
  | emitOnly => exact execEmitOnly_agree h
  | stepCommit => exact execStepCommit_agree h
  | redTensor => exact execRedTensor_agree h
  | redContrib => exact execRedContrib_agree h
  | redClose => exact execRedClose_agree h
  | check => exact execCheck_agree h
  | commit => exact execCommit_agree h
  | partStart => exact execPartStart_agree h
  | partDrain => exact execPartDrain_agree h
  | partAbort => exact execPartAbort_agree h
  | partTest => exact execPartTest_agree h
  | partClear => exact execPartClear_agree h
  | svcTest => exact execSvcTest_agree h
  | svcExit => exact execSvcExit_agree h
  | drainedToIdle => exact execDrainedToIdle_agree h
  | commandComplete => exact execCommandComplete_agree h
  | tail => exact execTail_agree h
  | resume => exact execResume_agree h
  | skip => exact execSkip_agree h
  | fadd => exact execFadd_agree h
  | fsub => exact execFsub_agree h
  | fmul => exact execFmul_agree h
  | ffma => exact execFfma_agree h
  | fmin => exact execFmin_agree h
  | fmax => exact execFmax_agree h
  | fabs => exact execFabs_agree h
  | fneg => exact execFneg_agree h
  | fcmp => exact execFcmp_agree h
  | sel => exact execSel_agree h
  | iadd => exact execIadd_agree h
  | isub => exact execIsub_agree h
  | imul => exact execImul_agree h
  | and => exact execAnd_agree h
  | or => exact execOr_agree h
  | xor => exact execXor_agree h
  | shl => exact execShl_agree h
  | shr => exact execShr_agree h
  | sar => exact execSar_agree h
  | icmp => exact execIcmp_agree h
  | cvt => exact execCvt_agree h
  | exp2 => exact execExp2_agree h
  | log2 => exact execLog2_agree h
  | rcp => exact execRcp_agree h
  | sqrt => exact execSqrt_agree h
  | rsqrt => exact execRsqrt_agree h
  | sinpi => exact execSinpi_agree h
  | cospi => exact execCospi_agree h
  | fdiv => exact execFdiv_agree h
  | ld => exact execLd_agree h
  | st => exact execSt_agree h
  | bcr => exact execBcr_agree h
  | bcc => exact execBcc_agree h
  | perm => exact execPerm_agree h
  | rand => exact execRand_agree h
  | coord => exact execCoord_agree h
  | movi => exact execMovi_agree h
  | rsum => exact execRsum_agree h
  | rmax => exact execRmax_agree h
  | rmin => exact execRmin_agree h
  | endChunk => exact execEndChunk_agree h
  | dataFlit => exact execDataFlit_agree h
  | controlFlit => exact execControlFlit_agree h
  | nullFlit => exact execNullFlit_agree h
  | replayTimeout => exact execReplayTimeout_agree h
  | ident => exact execIdent_agree h
  | identTimeout => exact execIdentTimeout_agree h
  | trainAttemptEnd => exact execTrainAttemptEnd_agree h
  | linkLoss => exact execLinkLoss_agree h
  | portReset => exact execPortReset_agree h
  | forward => exact execForward_agree h
  | write => exact execWrite_agree h
  | writeAck => exact execWriteAck_agree h
  | readReq => exact execReadReq_agree h
  | readResp => exact execReadResp_agree h
  | ctlWrite => exact execCtlWrite_agree h
  | ctlRead => exact execCtlRead_agree h
  | ctlResp => exact execCtlResp_agree h
  | landWrite => exact execLandWrite_agree h
  | mcastWrite => exact execMcastWrite_agree h
  | mcastFence => exact execMcastFence_agree h
  | mcastDone => exact execMcastDone_agree h
  | remoteTimeout => exact execRemoteTimeout_agree h
  | ctlTimeout => exact execCtlTimeout_agree h
  | hostRequest => exact execHostRequest_agree h
  | hdmaPtrRd => exact execHdmaPtrRd_agree h
  | redBlocks => exact execRedBlocks_agree h
  | redResult => exact execRedResult_agree h
  | redNorm => exact execRedNorm_agree h
  | backupReq => exact execBackupReq_agree h
  | checkOk => exact execCheckOk_agree h
  | retractReq => exact execRetractReq_agree h
  | confirm => exact execConfirm_agree h
  | retract => exact execRetract_agree h
  | redDeadline => exact execRedDeadline_agree h
  | redGiveup => exact execRedGiveup_agree h
  | epochLocalFail => exact execEpochLocalFail_agree h
  | drainGiveup => exact execDrainGiveup_agree h
  | drainComplete => exact execDrainComplete_agree h
  | mbxPost => exact execMbxPost_agree h
  | mbxReply => exact execMbxReply_agree h
  | intNotify => exact execIntNotify_agree h
  | attestReq => exact execAttestReq_agree h
  | attestResp => exact execAttestResp_agree h
  | announce => exact execAnnounce_agree h
  | routeGossip => exact execRouteGossip_agree h
  | gossipRunStart => exact execGossipRunStart_agree h
  | roundGiveup => exact execRoundGiveup_agree h
  | barrierJoin => exact execBarrierJoin_agree h
  | barrierRelease => exact execBarrierRelease_agree h
  | bootGiveup => exact execBootGiveup_agree h
  | commitGiveup => exact execCommitGiveup_agree h
  | startupLate => exact execStartupLate_agree h
  | fabAssign => exact execFabAssign_agree h
  | aux33On => exact execAux33On_agree h
  | aux33Loss => exact execAux33Loss_agree h
  | islandResetRelease => exact execIslandResetRelease_agree h
  | powerGood => exact execPowerGood_agree h
  | powerGoodLoss => exact execPowerGoodLoss_agree h
  | resetN => exact execResetN_agree h
  | perstN => exact execPerstN_agree h
  | pufReconstruct => exact execPufReconstruct_agree h
  | lichenBoot => exact execLichenBoot_agree h
  | hbmTrainingEnd => exact execHbmTrainingEnd_agree h
  | bootCommit => exact execBootCommit_agree h
  | granuleZeroed => exact execGranuleZeroed_agree h
  | restore => exact execRestore_agree h
  | restoreEnd => exact execRestoreEnd_agree h
  | fwUpdate => exact execFwUpdate_agree h
  | fwDone => exact execFwDone_agree h
  | logSel => exact execLogSel_agree h
  | hbmTpGo => exact execHbmTpGo_agree h
  | hbmTpDataWrite => exact execHbmTpDataWrite_agree h
  | hbmTpDataRead => exact execHbmTpDataRead_agree h
  | clearingRead => exact execClearingRead_agree h
  | registerWrite => exact execRegisterWrite_agree h
  | mailboxGo => exact execMailboxGo_agree h
  | echo => exact execEcho_agree h
  | logCopy => exact execLogCopy_agree h
  | telemNow => exact execTelemNow_agree h
  | attest => exact execAttest_agree h
  | provision => exact execProvision_agree h
  | ownerKey => exact execOwnerKey_agree h
  | sealSecret => exact execSealSecret_agree h
  | unsealSecret => exact execUnsealSecret_agree h
  | sequencerLogRecord => exact execSequencerLogRecord_agree h
  | lichenReply => exact execLichenReply_agree h
  | mailboxReset => exact execMailboxReset_agree h
  | lichenSleep => exact execLichenSleep_agree h
  | lichenWake w => exact execLichenWake_agree (x0 := w) h
  | watchdog => exact execWatchdog_agree h
  | logFlush => exact execLogFlush_agree h
  | logErase => exact execLogErase_agree h
  | thermalSample => exact execThermalSample_agree h
  | thermCritTimeout => exact execThermCritTimeout_agree h
  | railSample => exact execRailSample_agree h
  | coolantLimit => exact execCoolantLimit_agree h
  | sensorFault => exact execSensorFault_agree h
  | governorWindow => exact execGovernorWindow_agree h
  | flowReqUpdate => exact execFlowReqUpdate_agree h
  | clockGate => exact execClockGate_agree h
  | powerGate => exact execPowerGate_agree h
  | pllStop => exact execPllStop_agree h
  | frondWake => exact execFrondWake_agree h
  | feedIdPoll => exact execFeedIdPoll_agree h
  | patrolScrub => exact execPatrolScrub_agree h
  | hbmTempReadout => exact execHbmTempReadout_agree h
  | telemetryFrame => exact execTelemetryFrame_agree h
  | sensorCalibration => exact execSensorCalibration_agree h
  | serdesCalibration => exact execSerdesCalibration_agree h
  | testLedger => exact execTestLedger_agree h
  | testDue => exact execTestDue_agree h
  | testOverdue => exact execTestOverdue_agree h
  | understoryTest => exact execUnderstoryTest_agree h
  | testComplete => exact execTestComplete_agree h
  | lockstepMismatch => exact execLockstepMismatch_agree h
  | lockstepRetry => exact execLockstepRetry_agree h
  | dbgChallenge => exact execDbgChallenge_agree h
  | dbgUnlock => exact execDbgUnlock_agree h
  | dbgSel => exact execDbgSel_agree h
  | dbgData => exact execDbgData_agree h
  | halt => exact execHalt_agree h
  | run => exact execRun_agree h
  | step => exact execStep_agree h
  | bpSet => exact execBpSet_agree h
  | bpClr => exact execBpClr_agree h
  | dbgRead => exact execDbgRead_agree h
  | dbgWrite => exact execDbgWrite_agree h
  | extest => exact execExtest_agree h
  | samplePreload => exact execSamplePreload_agree h
  | idcode => exact execIdcode_agree h
  | bypass => exact execBypass_agree h
  | flitTime => exact execFlitTime_agree h

/-- A step is a command's run or a tick: it agrees with its start outside some areas, the queue of waiting commands apart. -/
theorem step_agree {s t : State} (h : step s = .next t) : ∃ A s0, Agree A s0 t ∧ s0 = { s with pending := s0.pending } := by
  unfold step at h
  split at h
  · cases h
    exact ⟨_, s, tick_agree, rfl⟩
  · exact ⟨_, _, exec_agree h, rfl⟩

/-- Settles O4: a step agrees with its start, so it keeps memory in canonical form. -/
theorem stepKeepsMemory : Obligations.StepKeepsMemory := by
  unfold Obligations.StepKeepsMemory
  intro s t hs h
  obtain ⟨A, s0, hagree, he⟩ := step_agree h
  refine hagree.memOk ?_
  rw [he]
  exact hs

/-- Settles O5: a step agrees with its start, so it keeps the tables in canonical form. -/
theorem stepKeepsTables : Obligations.StepKeepsTables := by
  unfold Obligations.StepKeepsTables
  intro s t hs h
  obtain ⟨A, s0, hagree, he⟩ := step_agree h
  refine hagree.tabOk ?_
  rw [he]
  exact ⟨hs.regs, hs.resets, hs.queues, hs.fronds, hs.slots, hs.parts, hs.ports⟩

/-- Settles O6: outside its areas a command agrees with its start, and reading a byte looks at memory alone. -/
theorem frame : Obligations.Frame := by
  unfold Obligations.Frame
  refine ⟨⟨fun c s t a h ha => (exec_agree h).area a (testBit_areaMask_of_notMem ha), fun c s t h => (exec_agree h).pending⟩,
    fun c s t k h hmem => ?_⟩
  have he : t.mem = s.mem := (exec_agree h).area .mem (testBit_areaMask_of_notMem hmem)
  unfold readByte
  rw [he]

/-- Settles O7: a step agrees with its start, so the counters of flash only rise. -/
theorem countersNeverDecrease : Obligations.CountersNeverDecrease := by
  unfold Obligations.CountersNeverDecrease
  intro s t h
  obtain ⟨A, s0, hagree, he⟩ := step_agree h
  have hup := hagree.flashUp
  rw [he] at hup
  exact hup

/-- Settles O1: the definition of a step on a queue that holds a command. -/
theorem stepRunsFront : Obligations.StepRunsFront := by
  unfold Obligations.StepRunsFront
  intro c s rest h
  unfold step
  rw [h]

/-- Settles O2: the definition of a step on an empty queue. -/
theorem emptyQueueTicks : Obligations.EmptyQueueTicks := by
  unfold Obligations.EmptyQueueTicks
  intro s h
  have hs : step s = .next (tick s) := by
    unfold step
    rw [h]
  rw [hs]
  unfold tick
  exact ⟨fun hi => by rw [if_pos hi], fun hi => by rw [if_neg (ne_true_of_eq_false hi)]⟩

/-- Settles O3: nothing is listed at reset, in the register file, in memory or in any table. -/
theorem resetHolds : Obligations.ResetHolds := by
  unfold Obligations.ResetHolds
  refine ⟨⟨rfl, rfl, fun _ => rfl, fun _ => rfl, fun _ => rfl, fun _ => rfl, fun _ => rfl, rfl, rfl⟩, ⟨nil_wf, nil_wf, nil_wf⟩,
    ⟨.nil, (fun _ h => nomatch h), nil_wf, nil_wf, (fun _ h => nomatch h), nil_wf, nil_wf⟩⟩

/-- No arm of `exec` answers a fault or a refusal. -/
theorem exec_eq_next (c : Instr) (s : State) : ∃ t, exec c s = .next t := by
  cases c <;> exact ⟨_, rfl⟩

/-- Settles O8: both a command and a tick answer a next state. -/
theorem everyStepGoesOn : Obligations.EveryStepGoesOn := by
  unfold Obligations.EveryStepGoesOn Goes step
  intro s
  split
  · exact ⟨_, rfl⟩
  · exact exec_eq_next _ _

end Sys2Proof.Proofs
end

section
/-! SUPPORT. The instructions of a resident run (R198 to R209): what one instruction leaves in the lanes, the run and the state. -/

namespace Sys2Proof.Proofs

open Sys2Proof Sys2Proof.Machine Sys2Proof.Safety Sys2Proof.Frame Sys2Proof.Claims Sys2Proof.Laws

/-! ### One lane -/

theorem laneStep_of_not_guard {s : State} {f : Nat} {r : VRun} {i : PIns} {x : Lane} (hg : guardOf i x = false) :
    laneStep s f r i x = {} :=
  if_pos hg

theorem laneStep_eq_laneExec {s : State} {f : Nat} {r : VRun} {i : PIns} {x : Lane} (hg : guardOf i x = true)
    (hr : isReduction i.op = false) : laneStep s f r i x = laneExec s f r i x := by
  unfold laneStep
  rw [if_neg (ne_false_of_eq_true hg), if_neg (ne_true_of_eq_false hr)]

theorem laneExec_of_aluValue {s : State} {f : Nat} {r : VRun} {i : PIns} {x : Lane} {v : W32}
    (h : aluValue r.cfg i x (srcA i x) (srcB r.cfg i x) (srcC i x) = some v) : laneExec s f r i x = { act := .reg v } := by
  unfold srcA srcB srcC at h
  unfold laneExec
  simp only [h]

/-- The table of R199: each row is a command of its own, and its operation computes the row's value. -/
theorem aluRow_meaning {row : AluRow} (hrow : row ∈ aluRows) :
    isReduction row.op = false ∧ row.op ≠ 0x3F ∧ (∀ f s, exec (row.cmd f) s = .next (stepResident row.op f s)) ∧
      ∀ c i x, i.op = row.op → aluValue c i x (srcA i x) (srcB c i x) (srcC i x) = some (row.val c i x) := by
  unfold aluRows at hrow
  simp only [List.cons_append, List.nil_append, List.mem_cons, List.not_mem_nil, or_false] at hrow
  unfold aluValue
  rcases hrow with rfl | rfl | rfl | rfl | rfl | rfl | rfl | rfl | rfl | rfl | rfl | rfl | rfl | rfl | rfl | rfl | rfl | rfl | rfl |
    rfl | rfl | rfl | rfl | rfl | rfl | rfl | rfl | rfl | rfl | rfl <;>
  exact ⟨rfl, by decide, fun _ _ => rfl, fun c i x hop => by rw [hop]; rfl⟩

theorem laneStep_of_aluRow {row : AluRow} (hrow : row ∈ aluRows) {s : State} {f : Nat} {r : VRun} {i : PIns} {x : Lane}
    (hop : i.op = row.op) (hg : guardOf i x = true) : laneStep s f r i x = { act := .reg (row.val r.cfg i x) } := by
  obtain ⟨hred, -, -, hval⟩ := aluRow_meaning hrow
  rw [laneStep_eq_laneExec hg (hop ▸ hred), laneExec_of_aluValue (hval r.cfg i x hop)]

theorem laneStep_of_predRow {row : PredRow} (hrow : row ∈ predRows) {s : State} {f : Nat} {r : VRun} {i : PIns} {x : Lane}
    (hop : i.op = row.op) (hg : guardOf i x = true) : laneStep s f r i x = { act := .pred (row.val r.cfg i x) } := by
  unfold predRows at hrow
  simp only [List.mem_cons, List.not_mem_nil, or_false] at hrow
  rcases hrow with rfl | rfl
  all_goals
    rw [laneStep_eq_laneExec hg (hop ▸ rfl)]
    unfold laneExec aluValue
    rw [hop]
    rfl

theorem laneStep_of_redRow {row : RedRow} (hrow : row ∈ redRows) {s : State} {f : Nat} {r : VRun} {i : PIns} {x : Lane}
    (hop : i.op = row.op) (hg : guardOf i x = true) :
    laneStep s f r i x = { act := .reg ((rowReduce row.f ((r.lanes.filter (fun y => y.row == x.row && guardOf i y)).map
      (srcA i))).getD row.empty) } := by
  unfold redRows at hrow
  simp only [List.mem_cons, List.not_mem_nil, or_false] at hrow
  unfold laneStep rowValue
  rw [if_neg (ne_false_of_eq_true hg), hop]
  rcases hrow with rfl | rfl | rfl <;> rfl

theorem laneStep_of_loadRow {row : (Nat → Instr) × Nat} (hrow : row ∈ loadRows) {s : State} {f : Nat} {r : VRun} {i : PIns}
    {x : Lane} (hop : i.op = row.2) (hg : guardOf i x = true) : laneStep s f r i x = loadRes s f r i x := by
  unfold loadRows at hrow
  simp only [List.mem_cons, List.not_mem_nil, or_false] at hrow
  rcases hrow with rfl | rfl | rfl | rfl
  all_goals
    rw [laneStep_eq_laneExec hg (hop ▸ rfl)]
    unfold laneExec aluValue loadRes
    rw [hop]
    rfl

theorem laneStep_of_store {s : State} {f : Nat} {r : VRun} {i : PIns} {x : Lane} (hop : i.op = 0x31)
    (hg : guardOf i x = true) : laneStep s f r i x = { act := .store (srcA i x) } := by
  rw [laneStep_eq_laneExec hg (hop ▸ rfl)]
  unfold laneExec aluValue
  rw [hop]
  rfl

/-- A load stores nothing. -/
theorem loadRes_act_ne_store (s : State) (f : Nat) (r : VRun) (i : PIns) (x : Lane) (v : W32) :
    (loadRes s f r i x).act ≠ .store v := by
  unfold loadRes laneLd laneVec lanePerm
  dsimp only
  repeat' split
  all_goals nofun

/-! ### One instruction of a bundle -/

theorem newReads_fst (r : VRun) (slot : Nat) (l : List (Nat × Nat × Option Nat)) :
    ∃ b g, (newReads r slot l).1 = { r with blocks := b, groups := g } := by
  unfold newReads
  suffices h : ∀ acc : VRun × Nat × Nat, (∃ b g, acc.1 = { r with blocks := b, groups := g }) →
      ∃ b g, (l.foldl _ acc).1 = { r with blocks := b, groups := g } from h (r, 0, 0) ⟨_, _, rfl⟩
  induction l with
  | nil => exact fun acc h => h
  | cons x l ih =>
    rintro ⟨r0, n, m⟩ ⟨b, g, rfl⟩
    refine ih _ ?_
    dsimp only
    repeat' split
    all_goals exact ⟨_, _, rfl⟩

/-- What an instruction leaves in the run, lane by lane. -/
theorem stepBundle_run (s : State) (f : Nat) (r : VRun) (i : PIns) :
    let r' := (stepBundle f (s, r) i).2
    let res := laneStep s f r i
    r'.pc = r.pc + 1 ∧
    r'.lanes = r.lanes.map (fun x => { applyAct i x (res x).act with pad := (res x).pad.getD x.pad }) ∧
    r'.stores = r.stores ++ r.lanes.filterMap (fun x => match (res x).act with
      | .store v => some ⟨i.slot, x.elem, x.chunk, v, x.pad⟩
      | _ => none) ∧
    r'.faults = r.faults ++ r.lanes.filterMap (fun x =>
      if (res x).fault = 0 then none else some ⟨x.chunk, x.lane, r.pc, (res x).fault⟩) ∧
    r'.poisoned = dedupNat (r.poisoned ++ (r.lanes.filter (fun x => (res x).poison)).map (·.chunk)) := by
  intro r' res
  obtain ⟨b, g, hnew⟩ := newReads_fst r i.slot ((r.lanes.map (fun l => (l, laneStep s f r i l))).filterMap (fun y => y.2.block))
  unfold r' res stepBundle
  dsimp only
  rw [hnew, List.map_map, List.filterMap_map, List.filterMap_map, List.filter_map, List.map_map]
  exact ⟨rfl, rfl, rfl, rfl, rfl⟩

/-- An instruction that reads no memory touches the counters alone. -/
theorem stepBundle_agree_of_no_units {s : State} {f : Nat} {r : VRun} {i : PIns}
    (h : ∀ x ∈ r.lanes, (laneStep s f r i x).units = []) : Agree 32 s (stepBundle f (s, r) i).1 := by
  have hus : (r.lanes.map (fun l => (l, laneStep s f r i l))).flatMap (fun y => y.2.units) = [] := by
    rw [List.flatMap_map]
    exact List.flatMap_eq_nil_iff.2 h
  unfold stepBundle
  dsimp only
  rw [hus]
  exact bump_agree.after rfl (bump_agree.after rfl (bump_agree.after rfl (bump_agree.after rfl bump_agree)))

/-! ### The frond's run -/

theorem stepResident_of_atInstr {op f : Nat} {s : State} {r : VRun} {i : PIns} (hat : AtInstr s f r i) (hop : i.op = op)
    (hend : op ≠ 0x3F) :
    stepResident op f s =
      modFrond (stepBundle f (s, r) i).1 f (fun x => { x with vrun := some (stepBundle f (s, r) i).2 }) := by
  obtain ⟨hrun, hworks, hins⟩ := hat
  unfold stepResident
  simp only [hrun, hins, hworks, hop, hend, ne_eq, not_true_eq_false, Bool.true_eq_false, or_self, if_false]

theorem stepResident_leaves {op f : Nat} {s : State} {r : VRun} {i : PIns} (h : TablesOk s) (hat : AtInstr s f r i)
    (hop : i.op = op) (hend : op ≠ 0x3F) :
    (getFrond (stepResident op f s) f).vrun = some (stepBundle f (s, r) i).2 ∧ (stepResident op f s).mem = s.mem := by
  rw [stepResident_of_atInstr hat hop hend]
  refine ⟨?_, (stepBundle_agree (x := (s, r))).area .mem rfl⟩
  rw [getFrond_modFrond_same ((stepBundle_agree (x := (s, r))).tabOk h)]

/-- Where no lane reads memory, every other frond and the marks of memory are as they were. -/
theorem stepResident_quiet {op f : Nat} {s : State} {r : VRun} {i : PIns} (h : TablesOk s) (hat : AtInstr s f r i)
    (hop : i.op = op) (hend : op ≠ 0x3F) (hus : ∀ x ∈ r.lanes, (laneStep s f r i x).units = []) :
    (stepResident op f s).units = s.units ∧ ∀ g, g ≠ f → getFrond (stepResident op f s) g = getFrond s g := by
  have hagree := stepBundle_agree_of_no_units hus
  rw [stepResident_of_atInstr hat hop hend]
  refine ⟨(hagree.area .marks rfl).1, fun g hg => ?_⟩
  rw [getFrond_modFrond_ne (hagree.tabOk h) hg]
  unfold getFrond
  rw [show _ = s.fronds from hagree.area .fronds rfl]

/-- What an instruction leaves where every lane whose guard is true does `act` and nothing else. -/
theorem stepResident_of_act {op f : Nat} {s : State} {r : VRun} {i : PIns} {act : Lane → LaneAct} (h : TablesOk s)
    (hat : AtInstr s f r i) (hop : i.op = op) (hend : op ≠ 0x3F)
    (hact : ∀ x, guardOf i x = true → laneStep s f r i x = { act := act x }) (hno : ∀ x v, act x ≠ .store v) :
    ∃ r', (getFrond (stepResident op f s) f).vrun = some r' ∧ r'.pc = r.pc + 1 ∧ r'.stores = r.stores ∧
      r'.faults = r.faults ∧ r'.poisoned = dedupNat r.poisoned ∧
      r'.lanes = r.lanes.map (fun x => if guardOf i x then applyAct i x (act x) else x) ∧
      (stepResident op f s).mem = s.mem ∧ (stepResident op f s).units = s.units ∧
      ∀ g, g ≠ f → getFrond (stepResident op f s) g = getFrond s g := by
  have hres (x : Lane) : laneStep s f r i x = if guardOf i x then { act := act x } else {} := by
    split
    · exact hact x ‹_›
    · exact laneStep_of_not_guard (eq_false_of_ne_true ‹_›)
  obtain ⟨hrun, hmem⟩ := stepResident_leaves h hat hop hend
  obtain ⟨hunits, hfronds⟩ := stepResident_quiet h hat hop hend (fun x _ => by rw [hres]; split <;> rfl)
  obtain ⟨hpc, hlanes, hstores, hfaults, hpoisoned⟩ := stepBundle_run s f r i
  refine ⟨_, hrun, hpc, ?_, ?_, ?_, ?_, hmem, hunits, hfronds⟩
  · rw [hstores, List.filterMap_eq_nil_iff.2, List.append_nil]
    intro x _
    rw [hres]
    split
    · exact absurd ‹_› (by split <;> first | exact hno x _ | nofun)
    · rfl
  · rw [hfaults, List.filterMap_eq_nil_iff.2, List.append_nil]
    intro x _
    rw [hres]
    split <;> rfl
  · rw [hpoisoned, List.filter_eq_nil_iff.2, List.map_nil, List.append_nil]
    intro x _
    rw [hres]
    split <;> exact Bool.false_ne_true
  · rw [hlanes]
    refine List.map_congr_left fun x _ => ?_
    rw [hres]
    split
    · cases act x <;> rfl
    · rfl

/-- Settles O9: an operation's own value, lane by lane, through `stepResident_of_act`. -/
theorem laneOperations : Obligations.LaneOperations := by
  unfold Obligations.LaneOperations
  refine ⟨fun row hrow f s r i h hat hop => ?_, fun row hrow f s r i h hat hop => ?_⟩
  · obtain ⟨-, hend, hexec, -⟩ := aluRow_meaning hrow
    obtain ⟨r', hrun, hpc, hstores, hfaults, hpoisoned, hlanes, hrest⟩ := stepResident_of_act h hat hop hend
      (act := fun x => .reg (row.val r.cfg i x)) (fun x hg => laneStep_of_aluRow hrow hop hg) nofun
    exact ⟨_, r', hexec f s, hrun, hpc, hstores, hfaults, hpoisoned, hlanes, hrest⟩
  · have hcmd : row.op ≠ 0x3F ∧ exec (row.cmd f) s = .next (stepResident row.op f s) := by
      unfold predRows at hrow
      simp only [List.mem_cons, List.not_mem_nil, or_false] at hrow
      rcases hrow with rfl | rfl <;> exact ⟨by decide, rfl⟩
    obtain ⟨hend, hexec⟩ := hcmd
    obtain ⟨r', hrun, hpc, hstores, hfaults, -, hlanes, hrest⟩ := stepResident_of_act h hat hop hend
      (act := fun x => .pred (row.val r.cfg i x)) (fun x hg => laneStep_of_predRow hrow hop hg) nofun
    exact ⟨_, r', hexec, hrun, hpc, hstores, hfaults, hlanes, hrest⟩

/-- Settles O10: a reduction is the value of the lane's row, lane by lane. -/
theorem laneReductions : Obligations.LaneReductions := by
  unfold Obligations.LaneReductions
  intro row hrow f s r i h hat hop
  have hcmd : row.op ≠ 0x3F ∧ exec (row.cmd f) s = .next (stepResident row.op f s) := by
    unfold redRows at hrow
    simp only [List.mem_cons, List.not_mem_nil, or_false] at hrow
    rcases hrow with rfl | rfl | rfl <;> exact ⟨by decide, rfl⟩
  obtain ⟨hend, hexec⟩ := hcmd
  obtain ⟨r', hrun, hpc, hstores, hfaults, -, hlanes, hrest⟩ := stepResident_of_act h hat hop hend
    (act := fun x => .reg _) (fun x hg => laneStep_of_redRow hrow hop hg) nofun
  exact ⟨_, r', hexec, hrun, hpc, hstores, hfaults, hlanes, hrest⟩

theorem stepResident_of_loadRow {row : (Nat → Instr) × Nat} (hrow : row ∈ loadRows) {f : Nat} {s : State} {r : VRun} {i : PIns}
    (h : TablesOk s) (hat : AtInstr s f r i) (hop : i.op = row.2) (hend : row.2 ≠ 0x3F) :
    ∃ r', (getFrond (stepResident row.2 f s) f).vrun = some r' ∧ r'.pc = r.pc + 1 ∧ r'.stores = r.stores ∧
      r'.lanes = r.lanes.map (fun x => if guardOf i x then
        { applyAct i x (loadRes s f r i x).act with pad := (loadRes s f r i x).pad.getD x.pad } else x) ∧
      r'.faults = r.faults ++ (r.lanes.filter (fun x => guardOf i x && (loadRes s f r i x).fault != 0)).map
        (fun x => ⟨x.chunk, x.lane, r.pc, (loadRes s f r i x).fault⟩) ∧
      (stepResident row.2 f s).mem = s.mem := by
  have hres (x : Lane) : laneStep s f r i x = if guardOf i x then loadRes s f r i x else {} := by
    split
    · exact laneStep_of_loadRow hrow hop ‹_›
    · exact laneStep_of_not_guard (eq_false_of_ne_true ‹_›)
  obtain ⟨hrun, hmem⟩ := stepResident_leaves h hat hop hend
  obtain ⟨hpc, hlanes, hstores, hfaults, -⟩ := stepBundle_run s f r i
  refine ⟨_, hrun, hpc, ?_, ?_, ?_, hmem⟩
  · rw [hstores, List.filterMap_eq_nil_iff.2, List.append_nil]
    intro x _
    have hne (v : W32) : (laneStep s f r i x).act ≠ .store v := by
      rw [hres]
      split
      · exact loadRes_act_ne_store s f r i x v
      · nofun
    split
    · exact absurd ‹_› (hne _)
    · rfl
  · rw [hlanes]
    refine List.map_congr_left fun x _ => ?_
    rw [hres]
    split <;> rfl
  · rw [hfaults, ← List.filterMap_eq_map, ← List.filterMap_eq_filter, List.filterMap_filterMap]
    congr 1
    refine filterMap_congr_mem fun x _ => ?_
    rw [hres]
    by_cases hg : guardOf i x = true
    · by_cases hf : (loadRes s f r i x).fault = 0 <;> simp [hg, hf, Option.guard]
    · simp [hg, Option.guard]

theorem stepResident_of_store {f : Nat} {s : State} {r : VRun} {i : PIns} (h : TablesOk s) (hat : AtInstr s f r i)
    (hop : i.op = 0x31) :
    ∃ r', (getFrond (stepResident 0x31 f s) f).vrun = some r' ∧ r'.pc = r.pc + 1 ∧ r'.lanes = r.lanes ∧ r'.faults = r.faults ∧
      r'.stores = r.stores ++ (r.lanes.filter (guardOf i)).map (fun x => ⟨i.slot, x.elem, x.chunk, srcA i x, x.pad⟩) ∧
      (stepResident 0x31 f s).mem = s.mem := by
  have hres (x : Lane) : laneStep s f r i x = if guardOf i x then { act := .store (srcA i x) } else {} := by
    split
    · exact laneStep_of_store hop ‹_›
    · exact laneStep_of_not_guard (eq_false_of_ne_true ‹_›)
  obtain ⟨hrun, hmem⟩ := stepResident_leaves h hat hop (by decide)
  obtain ⟨hpc, hlanes, hstores, hfaults, -⟩ := stepBundle_run s f r i
  refine ⟨_, hrun, hpc, ?_, ?_, ?_, hmem⟩
  · rw [hlanes]
    refine (List.map_congr_left fun x _ => ?_).trans (List.map_id _)
    rw [hres]
    split <;> rfl
  · rw [hfaults, List.filterMap_eq_nil_iff.2, List.append_nil]
    intro x _
    rw [hres]
    split <;> rfl
  · rw [hstores, ← List.filterMap_eq_map, ← List.filterMap_eq_filter, List.filterMap_filterMap]
    congr 1
    refine filterMap_congr_mem fun x _ => ?_
    rw [hres]
    by_cases hg : guardOf i x = true <;> simp [hg, Option.guard]

/-- Settles O11: loads act lane by lane, and a store adds to the run's stores. -/
theorem laneLoadsAndStores : Obligations.LaneLoadsAndStores := by
  unfold Obligations.LaneLoadsAndStores
  refine ⟨fun row hrow f s r i h hat hop => ?_, fun f s r i h hat hop => ?_⟩
  · have hcmd : row.2 ≠ 0x3F ∧ exec (row.1 f) s = .next (stepResident row.2 f s) := by
      unfold loadRows at hrow
      simp only [List.mem_cons, List.not_mem_nil, or_false] at hrow
      rcases hrow with rfl | rfl | rfl | rfl <;> exact ⟨by decide, rfl⟩
    obtain ⟨r', hload⟩ := stepResident_of_loadRow hrow h hat hop hcmd.1
    exact ⟨_, r', hcmd.2, hload⟩
  · obtain ⟨r', hstore⟩ := stepResident_of_store h hat hop
    exact ⟨_, r', rfl, hstore⟩

/-- Settles O12: END with lanes of a next bundle, and without. -/
theorem endOfBundle : Obligations.EndOfBundle := by
  unfold Obligations.EndOfBundle
  intro f s r i p hat hop howner
  obtain ⟨hrun, hworks, hins⟩ := hat
  have hstep : stepResident 0x3F f s =
      if (nextBundle r).lanes.isEmpty then
        let x := finishRun s { p := p, f := f, q := r.q, n := r.n, e := r.entry, mb := r.mb, rerun := false } r
        settleRun (countOutcome (modFrond x.1 f (fun x => { x with vrun := none })) r.q false x.2.1 x.2.2) r.q r.n x.2.1
      else modFrond s f (fun x => { x with vrun := some (nextBundle r) }) := by
    unfold stepResident
    simp only [hrun, hins, hworks, hop, howner, Option.getD_some, ne_eq, not_true_eq_false, Bool.true_eq_false, or_self,
      if_false, if_true]
  refine ⟨fun hne => ?_, fun hnil => ?_⟩
  · refine congrArg Host.Outcome.next (hstep.trans (if_neg ?_))
    rwa [List.isEmpty_iff]
  · exact ⟨_, _, _, rfl, congrArg Host.Outcome.next (hstep.trans (if_pos (List.isEmpty_iff.2 hnil)))⟩

end Sys2Proof.Proofs
end

section
/-! SUPPORT. The store path (R263, R288, R292): what a byte reads after a write set has reached memory. -/

namespace Sys2Proof.Proofs

open Sys2Proof Sys2Proof.Machine Sys2Proof.Safety Sys2Proof.Frame Sys2Proof.Claims Sys2Proof.Laws

/-! ### Tables -/

theorem tblGet_tblSet {α : Type} [DecidableEq α] {d : α} {t : Tbl α} (h : t.Pairwise (fun a b => a.1 < b.1)) (k j : Nat) (v : α) :
    tblGet d (tblSet d t k v) j = if j = k then v else tblGet d t j := by
  split
  · next he => rw [he, tblGet_tblSet_same h]
  · next hne => exact tblGet_tblSet_ne h hne

theorem tblFind_filter {α : Type} {t : Tbl α} {p : Nat × α → Bool} (h : t.Pairwise (fun a b => a.1 < b.1)) (k : Nat) :
    tblFind (t.filter p) k = (tblFind t k).filter (fun v => p (k, v)) := by
  induction t with
  | nil => rfl
  | cons e t ih =>
    obtain ⟨j, v⟩ := e
    obtain ⟨hlt, ht⟩ := List.pairwise_cons.1 h
    have hrest (hle : k ≤ j) : tblFind (t.filter p) k = none :=
      tblFind_none fun e he => Nat.lt_of_le_of_lt hle (hlt e (List.mem_filter.1 he).1)
    have hcons : tblFind ((j, v) :: t) k = if j = k then some v else if k < j then none else tblFind t k := rfl
    rw [hcons, List.filter_cons]
    by_cases hjk : j = k
    · subst hjk
      by_cases hp : p (j, v) = true
      · rw [if_pos hp, if_pos rfl, Option.filter_some, if_pos hp]
        simp [tblFind]
      · rw [if_neg hp, if_pos rfl, hrest (Nat.le_refl _), Option.filter_some, if_neg hp]
    · rw [if_neg hjk]
      by_cases hkj : k < j
      · rw [if_pos hkj]
        split
        · simp [tblFind, hjk, hkj]
        · rw [hrest (Nat.le_of_lt hkj)]; rfl
      · rw [if_neg hkj, ← ih ht]
        split
        · simp [tblFind, hjk, hkj]
        · rfl

theorem tblFind_of_mem {α : Type} {t : Tbl α} (h : t.Pairwise (fun a b => a.1 < b.1)) {e : Nat × α} (he : e ∈ t) :
    tblFind t e.1 = some e.2 := by
  induction t with
  | nil => exact nomatch he
  | cons x t ih =>
    obtain ⟨hlt, ht⟩ := List.pairwise_cons.1 h
    rcases List.mem_cons.1 he with rfl | he
    · simp [tblFind]
    · have := hlt e he
      unfold tblFind
      rw [if_neg (by omega), if_neg (by omega), ih ht he]

theorem tblFind_eq_none_of_notMem {α : Type} {t : Tbl α} {k : Nat} (h : ∀ e ∈ t, e.1 ≠ k) : tblFind t k = none := by
  rcases hf : tblFind t k with _ | v
  · rfl
  · exact absurd rfl (h _ (tblFind_mem hf))

theorem mem_dedupNat {l : List Nat} {n : Nat} : n ∈ dedupNat l ↔ n ∈ l := by
  unfold dedupNat
  suffices h : ∀ acc : List Nat, n ∈ l.foldl (fun acc n => if acc.contains n then acc else acc ++ [n]) acc ↔ n ∈ acc ∨ n ∈ l by
    rw [h]; simp
  induction l with
  | nil => simp
  | cons m l ih =>
    intro acc
    rw [List.foldl_cons, ih]
    split
    · next hc =>
      have hm : m ∈ acc := List.contains_iff_mem.1 hc
      constructor
      · rintro (h | h)
        · exact .inl h
        · exact .inr (List.mem_cons_of_mem _ h)
      · rintro (h | h)
        · exact .inl h
        · rcases List.mem_cons.1 h with rfl | h
          · exact .inl hm
          · exact .inr h
    · simp [or_assoc]

/-! ### The bytes of one unit -/

theorem readByte_of_mem_eq {s t : State} (h : t.mem = s.mem) (k : Nat) : readByte t k = readByte s k := by
  unfold readByte; rw [h]

theorem writeUnit_mem (s : State) (u : Nat) (kept : WSet) :
    (writeUnit s u kept).mem = kept.foldl (fun mem x => tblSet 0 mem x.1 x.2.val) s.mem := rfl

theorem writePart_mem (s : State) (u : Nat) (part : WSet) (halo : Bool) :
    (writePart s u part halo).1.mem =
      (enabledBytes s u part halo).foldl (fun mem x => tblSet 0 mem x.1 x.2.val) s.mem := by
  unfold writePart
  extract_lets kept d st s1
  split
  · next he =>
    have hnil : enabledBytes s u part halo = [] := List.isEmpty_iff.1 he
    rw [hnil]
    rfl
  split
  · have h1 : s1.mem = s.mem := by
      unfold s1
      split
      · rfl
      · exact (bump_agree.area .mem rfl).trans (readUnit_agree.area .mem rfl)
    dsimp only
    rw [show _ = _ from bump_agree.area .mem rfl, writeUnit_mem, h1]
  · exact writeUnit_mem s u kept

/-- Keys that a list does not name hold what they held. -/
theorem tblGet_foldlSet_of_notMem {l : WSet} {m : List Host.Cell} {k : Nat} (h : Memory.wf m) (hk : ∀ e ∈ l, e.1 ≠ k) :
    tblGet 0 (l.foldl (fun mem x => tblSet 0 mem x.1 x.2.val) m) k = tblGet 0 m k := by
  induction l generalizing m with
  | nil => rfl
  | cons e l ih =>
    rw [List.foldl_cons, ih (tblSet_wf h) (fun x hx => hk x (List.mem_cons_of_mem _ hx)), tblGet_tblSet_ne h.1]
    exact fun he => hk e List.mem_cons_self he.symm

theorem tblGet_foldlSet {l : WSet} {m : List Host.Cell} (h : Memory.wf m) (hl : l.Pairwise (fun a b => a.1 < b.1)) (k : Nat) :
    tblGet 0 (l.foldl (fun mem x => tblSet 0 mem x.1 x.2.val) m) k = ((tblFind l k).map (·.val)).getD (tblGet 0 m k) := by
  induction l generalizing m with
  | nil => rfl
  | cons e l ih =>
    obtain ⟨j, b⟩ := e
    obtain ⟨hlt, hl⟩ := List.pairwise_cons.1 hl
    have hcons : tblFind ((j, b) :: l) k = if j = k then some b else if k < j then none else tblFind l k := rfl
    rw [List.foldl_cons, hcons]
    by_cases hjk : j = k
    · subst hjk
      rw [tblGet_foldlSet_of_notMem (tblSet_wf h) (fun x hx he => absurd (hlt x hx) (by rw [he]; exact Nat.lt_irrefl _)),
        tblGet_tblSet_same h.1, if_pos rfl]
      rfl
    · rw [if_neg hjk, ih (tblSet_wf h) hl, tblGet_tblSet_ne h.1 (Ne.symm hjk)]
      split
      · next hkj => rw [tblFind_none fun x hx => Nat.lt_trans hkj (hlt x hx)]
      · rfl

/-- The bytes that a write enables are among those of its write set. -/
theorem key_mem_of_mem_enabledBytes {s : State} {u : Nat} {w : WSet} {halo : Bool} {e : Nat × WByte}
    (he : e ∈ enabledBytes s u w halo) : ∃ x ∈ w, x.1 = e.1 := by
  obtain ⟨x, hx, hxe⟩ := List.mem_filterMap.1 he
  refine ⟨x, hx, ?_⟩
  split at hxe
  · rw [Option.some.inj hxe]
  · obtain ⟨v, -, rfl⟩ := Option.map_eq_some_iff.1 hxe
    rfl

theorem enabledBytes_of_no_pad {s : State} {u : Nat} {w : WSet} {halo : Bool} (hp : ∀ e ∈ w, e.2.pad = false) :
    enabledBytes s u w halo = w := by
  unfold enabledBytes
  rw [filterMap_congr_mem (g := some), List.filterMap_some]
  intro e he
  rw [hp e he]
  rfl

/-! ### A write set -/

theorem writeSet_eq_foldl (s : State) (w : WSet) (halo : Bool) :
    (writeSet s w halo).1 = (wUnits w).foldl (fun t u => (writePart t u (wUnit w u) halo).1) s := by
  unfold writeSet
  generalize wUnits w = us
  suffices h : ∀ acc : State × Nat, (us.foldl (fun (acc : State × Nat) u =>
      let r := writePart acc.1 u (wUnit w u) halo
      (r.1, acc.2 + r.2)) acc).1 = us.foldl (fun t u => (writePart t u (wUnit w u) halo).1) acc.1 from h (s, 0)
  induction us with
  | nil => exact fun _ => rfl
  | cons u us ih => exact fun acc => ih _

theorem readByte_writeSet_of_notMem {s : State} {w : WSet} {halo : Bool} {k : Nat} (h : MemOk s) (hk : ∀ e ∈ w, e.1 ≠ k) :
    readByte (writeSet s w halo).1 k = readByte s k := by
  rw [writeSet_eq_foldl]
  generalize wUnits w = us
  induction us generalizing s with
  | nil => rfl
  | cons u us ih =>
    refine (ih (writePart_agree.memOk h)).trans ?_
    unfold readByte
    rw [writePart_mem]
    refine tblGet_foldlSet_of_notMem h.1 fun e he => ?_
    obtain ⟨x, hx, hxe⟩ := key_mem_of_mem_enabledBytes he
    exact hxe ▸ hk x (List.mem_filter.1 hx).1

/-- A plain write set in canonical form: every byte that it lists reads as listed, every other byte as before. -/
theorem readByte_writeSet {s : State} {w : WSet} {halo : Bool} (h : MemOk s) (hw : w.Pairwise (fun a b => a.1 < b.1))
    (hp : ∀ e ∈ w, e.2.pad = false) (k : Nat) :
    readByte (writeSet s w halo).1 k = ((tblFind w k).map (·.val)).getD (readByte s k) := by
  rcases hfind : tblFind w k with _ | b
  · refine readByte_writeSet_of_notMem h fun e he hek => ?_
    have hfind' := tblFind_of_mem hw he
    rw [hek, hfind] at hfind'
    exact nomatch hfind'
  -- The write of its unit sets the byte, and the writes of the other units leave it.
  have hmem : k / 256 ∈ wUnits w := mem_dedupNat.2 (List.mem_map.2 ⟨(k, b), tblFind_mem hfind, rfl⟩)
  rw [writeSet_eq_foldl]
  show _ = b.val
  have hpart (t : State) (u : Nat) (ht : MemOk t) : readByte (writePart t u (wUnit w u) halo).1 k =
      if k / 256 = u then b.val else readByte t k := by
    unfold readByte
    rw [writePart_mem, enabledBytes_of_no_pad (w := wUnit w u) fun e he => hp e (List.mem_filter.1 he).1,
      tblGet_foldlSet (l := wUnit w u) ht.1 (hw.filter _)]
    unfold wUnit
    rw [tblFind_filter hw, hfind]
    by_cases hu : k / 256 = u <;> simp [hu, Option.filter_some]
  have hfold (us : List Nat) (t : State) (ht : MemOk t) (hb : readByte t k = b.val ∨ k / 256 ∈ us) :
      readByte (us.foldl (fun t u => (writePart t u (wUnit w u) halo).1) t) k = b.val := by
    induction us generalizing t with
    | nil => exact hb.resolve_right List.not_mem_nil
    | cons u us ih =>
      refine ih _ (writePart_agree.memOk ht) ?_
      rw [hpart t u ht]
      by_cases hu : k / 256 = u
      · exact .inl (if_pos hu)
      · rw [if_neg hu]
        exact hb.imp_right fun hm => (List.mem_cons.1 hm).resolve_left hu
  exact hfold _ s h (.inr hmem)

/-! ### A write of consecutive bytes -/

theorem wputs_nil (w : WSet) (k : Nat) (poison pad : Bool) : wputs w k [] poison pad = w := rfl

theorem wputs_append_singleton (w : WSet) (k : Nat) (bs : List Byte) (b : Byte) (poison pad : Bool) :
    wputs w k (bs ++ [b]) poison pad =
      wput (wputs w k bs poison pad) (k + bs.length) { val := b, poison := poison, pad := pad } := by
  unfold wputs
  rw [List.zipIdx_append, List.foldl_append, Nat.zero_add]
  rfl

theorem wputs_sorted {w : WSet} (k : Nat) (bs : List Byte) (poison pad : Bool) (h : w.Pairwise (fun a b => a.1 < b.1)) :
    (wputs w k bs poison pad).Pairwise (fun a b => a.1 < b.1) := by
  induction bs using snoc_induction with
  | nil => exact h
  | append_singleton bs b ih =>
    rw [wputs_append_singleton]
    exact tblPut_sorted ih

theorem tblFind_wputs {w : WSet} (k : Nat) (bs : List Byte) (poison : Bool) (h : w.Pairwise (fun a b => a.1 < b.1)) (j : Nat) :
    tblFind (wputs w k bs poison) j = if k ≤ j ∧ j < k + bs.length then
      some { val := bs.getD (j - k) 0, poison := poison, pad := false } else tblFind w j := by
  induction bs using snoc_induction with
  | nil =>
    rw [wputs_nil, if_neg]
    simp only [List.length_nil]
    omega
  | append_singleton bs b ih =>
    rw [wputs_append_singleton]
    show tblFind (tblPut _ _ (some ({ val := b, poison := poison, pad := false } : WByte))) j = _
    by_cases hj : j = k + bs.length
    · subst hj
      rw [tblFind_tblPut_same (wputs_sorted k bs poison false h), if_pos (by simp), Nat.add_sub_cancel_left,
        getD_append_of_le (Nat.le_refl _), Nat.sub_self]
      rfl
    · rw [tblFind_tblPut_ne (wputs_sorted k bs poison false h) hj, ih, List.length_append, List.length_singleton]
      by_cases hin : k ≤ j ∧ j < k + bs.length
      · rw [if_pos hin, if_pos (by omega), getD_append_of_lt (by omega)]
      · rw [if_neg hin, if_neg (by omega)]

theorem wputs_no_pad {w : WSet} {k : Nat} {bs : List Byte} {poison : Bool} (h : ∀ e ∈ w, e.2.pad = false) :
    ∀ e ∈ wputs w k bs poison, e.2.pad = false := by
  induction bs using snoc_induction with
  | nil => exact h
  | append_singleton bs b ih =>
    intro e he
    rw [wputs_append_singleton] at he
    rcases tblPut_mem he with he | ⟨-, he⟩
    · exact ih e he
    · rw [← Option.some.inj he]
      rfl

/-- What a byte reads after a write of consecutive bytes. -/
theorem readByte_writeBytes {s : State} (k : Nat) (bs : List Byte) (poison : Bool) (h : MemOk s) (j : Nat) :
    readByte (writeBytes s k bs poison) j = if k ≤ j ∧ j < k + bs.length then bs.getD (j - k) 0 else readByte s j := by
  unfold writeBytes
  rw [readByte_writeSet h (wputs_sorted k bs poison false .nil) (wputs_no_pad fun _ he => nomatch he),
    tblFind_wputs k bs poison .nil]
  split <;> rfl

/-- Settles O21: a key that the write set does not list is in no unit's write. -/
theorem commitWritesFrame : Obligations.CommitWritesFrame := by
  unfold Obligations.CommitWritesFrame
  intro s f w k h hk
  exact (readByte_of_mem_eq (bump_agree.area .mem rfl) k).trans (readByte_writeSet_of_notMem h hk)

end Sys2Proof.Proofs
end

section
/-! SUPPORT. Queues (R308 to R325): entries that issue or are rejected, completions, and what software does to a queue. -/

namespace Sys2Proof.Proofs

open Sys2Proof Sys2Proof.Machine Sys2Proof.Safety Sys2Proof.Frame Sys2Proof.Claims Sys2Proof.Laws

/-! ### Queues under an update -/

theorem getQ_of_queues_eq {s t : State} (h : t.queues = s.queues) (q : QueueId) : getQ t q = getQ s q := by
  unfold getQ; rw [h]

theorem getQ_modQ_same {s : State} {q : QueueId} {g : QueueSt → QueueSt} (h : TablesOk s) : getQ (modQ s q g) q = g (getQ s q) :=
  getQ_setQ_same h

theorem getQ_modQ_ne {s : State} {q r : QueueId} {g : QueueSt → QueueSt} (h : TablesOk s) (hr : qNum r ≠ qNum q) :
    getQ (modQ s q g) r = getQ s r :=
  getQ_setQ_ne h hr

/-! ### Issue -/

/-- An entry that is free to issue, and that its own rule rejects, is rejected. -/
theorem runEntry_eq_rejected {s : State} {q : QueueId} {n : W32} {op : Nat} {ops : Nat → Bool} {used : List (Nat × Nat)}
    {body : State → List Byte → Verdict} {st d : Nat} (hf : FreeToIssue s q n op used) (hops : ops op = true)
    (hb : body (atBody s q n) (entryBytes s q n) = .reject st d) : runEntry q n ops used body s = rejected s q n st d := by
  obtain ⟨hop, hcan, hbp, hups, hchecks⟩ := hf
  have hups' : ∀ x ∈ (fetchEntry s q n).seqUps, x.queue ≠ qNum q := by
    rw [fetchEntry_agree.area .seqUps rfl]; exact hups
  unfold atBody atIssue at hb
  unfold runEntry
  simp only [hop, hops, hcan, hbp, wordLost_eq_false hups, repairWords_eq_self hups', hchecks, hb, Bool.and_self, if_true,
    Bool.false_eq_true, if_false]
  rfl

/-- An entry that is free to issue, and that its own rule makes wait, changes nothing. -/
theorem runEntry_eq_self_of_wait {s : State} {q : QueueId} {n : W32} {op : Nat} {ops : Nat → Bool} {used : List (Nat × Nat)}
    {body : State → List Byte → Verdict} (hf : FreeToIssue s q n op used) (hops : ops op = true)
    (hb : body (atBody s q n) (entryBytes s q n) = .wait) : runEntry q n ops used body s = s := by
  obtain ⟨hop, hcan, hbp, hups, hchecks⟩ := hf
  have hups' : ∀ x ∈ (fetchEntry s q n).seqUps, x.queue ≠ qNum q := by
    rw [fetchEntry_agree.area .seqUps rfl]; exact hups
  unfold atBody atIssue at hb
  unfold runEntry
  simp only [hop, hops, hcan, hbp, wordLost_eq_false hups, repairWords_eq_self hups', hchecks, hb, Bool.and_self, if_true,
    Bool.false_eq_true, if_false]

/-- Settles O13: the commands' own rules decide by the STATUS byte and the flags. -/
theorem nopAndFence : Obligations.NopAndFence := by
  unfold Obligations.NopAndFence
  refine ⟨⟨fun q n s hf hst => ?_, fun q n s hf hfl => ?_⟩, fun q n s hf hst => ?_, fun q n s hf hfl => ?_⟩
  · exact congrArg Host.Outcome.next (runEntry_eq_issued hf rfl (if_pos hst))
  · exact congrArg Host.Outcome.next (runEntry_eq_issued hf rfl (if_neg (Nat.not_le.2 hfl)))
  · refine congrArg Host.Outcome.next (runEntry_eq_rejected hf rfl (if_neg ?_))
    omega
  · exact congrArg Host.Outcome.next (runEntry_eq_rejected hf rfl (if_pos hfl))

/-- Settles O14: of the steps of an issue only `markIssued` and the last one touch a queue. -/
theorem issuedEntryIsLive : Obligations.IssuedEntryIsLive := by
  unfold Obligations.IssuedEntryIsLive issued
  intro s s1 q n st k w h
  have h1 : TablesOk (markIssued s1 q n) := markIssued_agree.tabOk h
  have hmid : Agree 524320 (markIssued s1 q n) (wakeFor (countOutcome (markIssued s1 q n) q false st k) q) :=
    wakeFor_agree.after rfl (countOutcome_agree.mono rfl)
  have h2 := hmid.tabOk h1
  have hq (r : QueueId) := getQ_of_queues_eq (show _ = _ from hmid.area .queues rfl) r
  have hpair : TablesOk (pairIssued s1 q) := ⟨h.regs, h.resets, h.queues, h.fronds, h.slots, h.parts, h.ports⟩
  have hmark : getQ (markIssued s1 q n) q = { getQ s1 q with
      issued := (getQ s1 q).issued.add n
      redo := (getQ s1 q).redo.erase n
      again := (getQ s1 q).again.filter (fun i => i.n != n) } := getQ_modQ_same hpair
  refine ⟨?_, ?_, fun r hr => ?_, hmid.area .mem rfl, hmid.area .fronds rfl, hmid.area .parts rfl⟩
  · rw [getQ_modQ_same h2, hq, hmark]
  · rw [getQ_modQ_same h2, hq, hmark]
  · rw [getQ_modQ_ne h2 hr, hq]
    exact getQ_modQ_ne hpair hr

/-! ### TAIL, RESUME and SKIP -/

theorem touch_of_reached {s : State} {a : Requester} {off : Nat} {act : State → State} (h : Reached s a off) :
    touch s a off act = act (dropShadow s a) := by
  obtain ⟨hadmits, hassigned, hreaches, hfollower⟩ := h
  unfold touch touchAt
  rw [hadmits, hassigned, hreaches, hfollower]
  rfl

/-- A queue's control register without an entry to act on, or in a state that takes no control action. -/
theorem control_discarded {s : State} {q : QueueId} (a : Requester) (h : haltPos (getQ s q) = none ∨ ctrlOpen s q = false) :
    resumeQueue s q a = accessError s a (qBase q + 0x20) 3 ∧ skipQueue s q a = accessError s a (qBase q + 0x20) 3 := by
  unfold resumeQueue skipQueue
  dsimp only
  cases hpos : haltPos (getQ s q) with
  | none => exact ⟨rfl, rfl⟩
  | some i =>
    have hopen : ctrlOpen s q = false := h.resolve_left (by rw [hpos]; nofun)
    simp only [hopen, Bool.false_eq_true, if_false, and_self]

/-- Settles O16: a reached access acts on the state without the requester's shadow, and each row acts as its rule says. -/
theorem tailResumeSkip : Obligations.TailResumeSkip := by
  unfold Obligations.TailResumeSkip
  refine ⟨⟨fun q a w v s hw hr hv => ?_, fun q a s i hpos hopen hr => ?_, fun q a s i hpos hopen hr => ?_⟩,
    fun q a w v s hr hw hv => ?_, fun q a v s hr => ?_, fun q a s h hr => ?_⟩
  · refine congrArg Host.Outcome.next ((touch_of_reached hr).trans ?_)
    cases w with
    | narrow => exact absurd rfl hw
    | w32 | w64 => exact if_neg (Nat.not_lt.2 hv)
  · refine congrArg Host.Outcome.next ((touch_of_reached hr).trans ?_)
    unfold resumeQueue
    dsimp only
    rw [show haltPos (getQ (dropShadow s a) q) = some i from hpos]
    exact if_pos hopen
  · refine ⟨_, rfl, congrArg Host.Outcome.next ((touch_of_reached hr).trans ?_)⟩
    unfold skipQueue
    dsimp only
    rw [show haltPos (getQ (dropShadow s a) q) = some i from hpos]
    exact if_pos hopen
  · refine congrArg Host.Outcome.next ((touch_of_reached hr).trans ?_)
    cases w with
    | narrow => exact absurd rfl hw
    | w32 | w64 => exact if_pos hv
  · exact congrArg Host.Outcome.next (touch_of_reached hr)
  · obtain ⟨hresume, hskip⟩ := control_discarded (s := dropShadow s a) (q := q) a h
    exact ⟨congrArg Host.Outcome.next ((touch_of_reached hr).trans hresume),
      congrArg Host.Outcome.next ((touch_of_reached hr).trans hskip)⟩

/-! ### Completion -/

theorem resumeRepeats_eq_self {s : State} {q : QueueId} {n : W32} (h : NoRepeat s q n) : resumeRepeats s q n = s := by
  unfold resumeRepeats
  split
  · next p x he =>
    obtain ⟨p', hp, hx⟩ := Option.bind_eq_some_iff.1 he
    obtain ⟨x', hx', he'⟩ := Option.map_eq_some_iff.1 hx
    cases he'
    refine if_neg fun hqn => ?_
    exact (h p x hp hx').elim (fun hq => hq hqn.1) fun hn => hn hqn.2
  · rfl

theorem commandComplete_of_live {s : State} {q : QueueId} {n : W32} {i : Issued}
    (hlive : (getQ s q).live.find? (fun x => x.n == n) = some i) (hwaits : i.waits = .done) (hrep : NoRepeat s q n)
    (hheld : heldFence s q i = false) (hmis : mismatched s q n = false) :
    commandComplete q n s = concludeEntry (completionEffects s q i) q i := by
  unfold commandComplete
  simp only [resumeRepeats_eq_self hrep, hlive]
  exact if_pos ⟨.inl hwaits, hheld, hmis⟩

/-- A fence switches copies where INCOMING is complete and newer than ACTIVE, if there is one. -/
theorem switchCopy_of_newer {s : State} {q : QueueId} {p : Nat} {c : CopySt} (hin : (getPart s p).incoming = some c)
    (hcomplete : c.complete = true) (hnewer : ∀ a, (getPart s p).active = some a → a.version < c.version) :
    switchCopy s q p = setPart (writeSet s c.cells).1 p { getPart s p with
      active := some { c with cells := [] }, incoming := (getPart s p).active.map (fun a => { a with complete := false }) } := by
  unfold switchCopy
  simp only [hin, hcomplete]
  refine if_pos ?_
  rcases ha : (getPart s p).active with _ | a
  · rfl
  · exact decide_eq_true (hnewer a ha)

theorem switchCopy_of_not_newer {s : State} {q : QueueId} {p : Nat}
    (h : ∀ c, (getPart s p).incoming = some c → c.complete = false ∨ ∃ a, (getPart s p).active = some a ∧ c.version ≤ a.version) :
    switchCopy s q p = queueEvent s q 0x0101 0 (leBytes 8 (((getPart s p).active.map (·.version)).getD 0) ++
      leBytes 8 (((getPart s p).incoming.map (·.version)).getD 0)) := by
  unfold switchCopy
  dsimp only
  rcases hin : (getPart s p).incoming with _ | c
  · rfl
  · refine if_neg fun hc => ?_
    obtain ⟨hcomplete, hnew⟩ := Bool.and_eq_true_iff.1 hc
    rcases h c hin with hno | ⟨a, ha, hle⟩
    · exact Bool.false_ne_true (hno.symm.trans hcomplete)
    · rw [ha] at hnew
      exact Nat.not_lt.2 hle (of_decide_eq_true hnew)

/-- Settles O17: what a fence's flags do, one after the other. -/
theorem fenceActsAtCompletion : Obligations.FenceActsAtCompletion := by
  unfold Obligations.FenceActsAtCompletion
  refine ⟨fun q n p s i hlive hwaits hop hrep hheld hmis howner => ?_, fun q p flags s => rfl, fun q p s => rfl,
    fun q p s c hin hcomplete hnewer => switchCopy_of_newer hin hcomplete hnewer, fun q p s h => switchCopy_of_not_newer h⟩
  refine congrArg Host.Outcome.next ((commandComplete_of_live hlive hwaits hrep hheld hmis).trans ?_)
  unfold completionEffects
  rw [if_pos hop, howner]

/-! ### A completion that changes the cache

The statement takes every queue number. Local memory of frond 2^22 and above would lie past `cacheBase`, and a settings image can
give a partition cushions of any number: such a frond's completion copies what the frond "holds" to its follower (R404), which is
cache. -/

/-- A NOP that has issued and will complete with OK. -/
def farEntry : Issued := ⟨0, 0, 0, 0xFFFF, 0, 0, 0, 0, false, .done⟩

/-- A paired partition that has granule 0 and the cushion of frond 2^22. -/
def farPart : PartCfg :=
  { cushions := 2 ^ (2 ^ 22 / 12), granules := 1, ports := 0, descBase := 0, rungRing := 0, normRing := 0, retainBase := 0,
    jitBase := 0, stagingBase := 0, reserveBase := 0, partWeight := 0, paired := true }

/-- The entry is live at frond 2^22, and the first byte of the cache is 7. -/
def farState : State := { State.reset with
  mem := [(cacheBase, 7)]
  queues := [(2 ^ 22, { QueueSt.empty with live := [farEntry] })]
  cfg := { CfgSt.reset with committed := { StoredImage.builtIn with cfg := { parts := [(0, farPart)] } } } }

theorem farState_memOk : MemOk farState := by
  refine ⟨⟨List.pairwise_singleton _ _, fun e he => ?_⟩, nil_wf, nil_wf⟩
  rw [List.mem_singleton.1 he]
  decide

theorem farState_tablesOk : TablesOk farState := by
  refine ⟨.nil, (fun _ h => nomatch h), ⟨List.pairwise_singleton _ _, fun e he => ?_⟩, nil_wf, (fun _ h => nomatch h), nil_wf,
    nil_wf⟩
  rw [List.mem_singleton.1 he]
  decide

/-- The entry meets what the statement asks of it; its record goes to address 0. -/
theorem farState_completes :
    (getQ farState (.frond (2 ^ 22))).live.find? (fun x => x.n == 0) = some farEntry ∧
    heldFence farState (.frond (2 ^ 22)) farEntry = false ∧ mismatched farState (.frond (2 ^ 22)) 0 = false ∧
    cqBase farState (.frond (2 ^ 22)) + 16 * ((0 : W32).toNat % 2 ^ ringLog2 farState (.frond (2 ^ 22))) = 0 ∧
    ringReach farState (.frond (2 ^ 22)) 0 16 = true := by
  decide +kernel

theorem farState_noRepeat : NoRepeat farState (.frond (2 ^ 22)) 0 := fun _ _ _ hx => nomatch hx

/-- The byte of the cache 4 MiB on takes the first byte's value. -/
theorem farState_cache_changes : readByte (commandComplete (.frond (2 ^ 22)) 0 farState) (cacheBase + 2 ^ 22) = 7 ∧
    readByte farState (cacheBase + 2 ^ 22) = 0 := by
  decide +kernel

/-- Refutes O15: of the frond number 2^22, whose local memory would lie in the cache, a completion changes a byte of the cache. -/
theorem not_completionWritesRecord : ¬ Obligations.CompletionWritesRecord := by
  unfold Obligations.CompletionWritesRecord
  intro h
  obtain ⟨hlive, hheld, hmis, haddr, hreach⟩ := farState_completes
  obtain ⟨hnew, hold⟩ := farState_cache_changes
  obtain ⟨t, ht, -, hbytes, -⟩ := h (.frond (2 ^ 22)) 0 farState farEntry farState_memOk farState_tablesOk hlive rfl
    farState_noRepeat hheld hmis (by decide) (by decide) (by rw [haddr]; exact hreach)
  have hkept := hbytes (cacheBase + 2 ^ 22) (.inr (Nat.le_add_right _ _)) (.inr (by rw [haddr]; decide))
  rw [← Host.Outcome.next.inj ht, hnew, hold] at hkept
  exact absurd hkept (by decide)

end Sys2Proof.Proofs
end

section
/-! SUPPORT. MATMUL (R168 to R175): what a MATMUL that goes through leaves in its slots. -/

namespace Sys2Proof.Proofs

open Sys2Proof Sys2Proof.Machine Sys2Proof.Safety Sys2Proof.Frame Sys2Proof.Claims Sys2Proof.Laws

/-! ### The state on which an entry's rule acts -/

theorem atIssue_agree (s : State) (q : QueueId) (n : W32) : Agree 5055008 s (atIssue s q n) :=
  issueReads_agree.after rfl (fetchEntry_agree.mono rfl)

theorem atBody_agree (s : State) (q : QueueId) (n : W32) : Agree 5056032 s (atBody s q n) :=
  checkSlots_agree.after rfl ((atIssue_agree s q n).mono rfl)

theorem atBody_tablesOk {s : State} (q : QueueId) (n : W32) (h : TablesOk s) : TablesOk (atBody s q n) := (atBody_agree s q n).tabOk h

theorem atBody_mem (s : State) (q : QueueId) (n : W32) : (atBody s q n).mem = s.mem := (atBody_agree s q n).area .mem rfl

theorem rhzUps_agree {s : State} {x : Tbl Nat} : Agree 1024 s { s with rhzUps := x } :=
  Agree.updMk (Agree.refl _ _) (Nat.le_refl _) (flashUp_refl _) rfl rfl rfl ⟨rfl, rfl, rfl, rfl, rfl⟩
    (fun a h => by cases a <;> first | exact absurd h (by decide) | exact rfl | exact ⟨rfl, rfl⟩)

/-! ### Several slots of a frond -/

theorem getSlot_setSlot_other {s : State} {f h k j : Nat} {v : SlotSt} (hs : TablesOk s) (hh : h ≠ f) :
    getSlot (setSlot s f k v) h j = getSlot s h j := by
  unfold getSlot setSlot
  rw [getFrond_modFrond_ne hs hh]

theorem getSlot_foldl_setSlot_notMem {β : Type} {s : State} {f h i : Nat} {key : β → Nat} {val : β → SlotSt} {l : List β}
    (hs : TablesOk s) (hi : h = f → ∀ b ∈ l, key b ≠ i) :
    getSlot (l.foldl (fun s b => setSlot s f (key b) (val b)) s) h i = getSlot s h i := by
  induction l generalizing s with
  | nil => rfl
  | cons b l ih =>
    refine (ih (setSlot_agree.tabOk hs) (fun hh x hx => hi hh x (List.mem_cons_of_mem _ hx))).trans ?_
    by_cases hh : h = f
    · exact hh ▸ getSlot_setSlot_ne hs (Ne.symm (hi hh b List.mem_cons_self))
    · exact getSlot_setSlot_other hs hh

theorem getSlot_foldl_setSlot_mem {β : Type} {s : State} {f : Nat} {key : β → Nat} {val : β → SlotSt} {l : List β} {b : β}
    (hs : TablesOk s) (hl : (l.map key).Nodup) (hb : b ∈ l) :
    getSlot (l.foldl (fun s b => setSlot s f (key b) (val b)) s) f (key b) = val b := by
  induction l generalizing s with
  | nil => exact nomatch hb
  | cons x l ih =>
    obtain ⟨hx, hl⟩ := List.nodup_cons.1 hl
    rcases List.mem_cons.1 hb with rfl | hb
    · refine (getSlot_foldl_setSlot_notMem (setSlot_agree.tabOk hs) fun _ y hy he => ?_).trans (getSlot_setSlot_same hs)
      exact hx (List.mem_map.2 ⟨y, hy, he⟩)
    · exact ih (setSlot_agree.tabOk hs) hl hb

theorem setSlots_agree {β : Type} {s : State} {f : Nat} {key : β → Nat} {val : β → SlotSt} (l : List β) :
    Agree 8192 s (l.foldl (fun s b => setSlot s f (key b) (val b)) s) :=
  Agree.foldl (fun _ _ h => setSlot_agree.after rfl h) (Agree.refl _ _)

/-- The tiles of a region have slots of their own. -/
theorem regionTiles_slots_nodup (base tm tn mt nt : Nat) : ((regionTiles base tm tn mt nt).map (·.1)).Nodup := by
  unfold regionTiles
  rw [List.map_flatMap]
  simp only [List.map_map]
  refine List.pairwise_flatMap.2 ⟨fun i _ => ?_, ?_⟩
  · exact List.Pairwise.map _ (fun j k hjk h => hjk (by simpa using h)) List.nodup_range
  · refine (List.nodup_range (n := tm)).imp fun {i k} hik x hx y hy hxy => ?_
    subst hxy
    obtain ⟨j, hj, rfl⟩ := List.mem_map.1 hx
    obtain ⟨j', hj', he⟩ := List.mem_map.1 hy
    have hj := List.mem_range.1 hj
    have hj' := List.mem_range.1 hj'
    simp only [Function.comp_apply] at he
    have hmod : (i * tn + j) / tn = (k * tn + j') / tn := by congr 1; omega
    rw [Nat.mul_comm i, Nat.mul_comm k, Nat.mul_add_div (by omega), Nat.mul_add_div (by omega), Nat.div_eq_of_lt hj,
      Nat.div_eq_of_lt hj'] at hmod
    exact hik (by omega)

/-! ### The command -/

/-- The entries from which a MATMUL goes on in a slot: zeros, or with CONT those that the slot holds (R171). -/
def entriesBefore (a : MatmulP) (old : SlotSt) : List W32 := if a.cont = 0 then List.replicate 1024 pzero32 else old.vals

/-- The power of two between the operands' scales and those of the entries that a MATMUL with CONT goes on from (R174). -/
def scaleShift (a : MatmulP) (sa sb : Option W32) (old : SlotSt) : Int :=
  if a.cont = 0 then 0
  else (sa.bind pow2Exp).getD 0 + (sb.bind pow2Exp).getD 0 - (pow2Exp old.sa).getD 0 - (pow2Exp old.sb).getD 0

/-- What a MATMUL leaves in the slot of tile `t`, once its reads have left `v` of the state `s`. -/
def filledSlot (c : Ctx) (s v : State) (e : List Byte) (t : Nat × Nat × Nat) : SlotSt :=
  let a := parseMatmul e
  let dl := (readDesc s c.p a.left).localize s c.p
  let dr := (readDesc s c.p a.right).localize s c.p
  let l := readSide s c.p dl
  let r := readSide s c.p dr
  let g := gemmIntervals s c.p c.f a.gemm dl dr
  let kb := opLength l true / 16
  let k0 := if g.2.1 = 0 then 0 else a.seg * g.2.1
  let k1 := if g.2.1 = 0 then kb else min kb (k0 + g.2.1)
  let old := getSlot s c.f t.1
  let sa := readScale s c.p dl
  let sb := readScale s c.p dr
  let out := runTile v c.f l r g.1 k0 k1 t.2.1 t.2.2 (entriesBefore a old) (scaleShift a sa sb old)
  { state := .active c.n (a.hold == 1), out := ⟨gemmLayer s c.p dl dr, a.gemm, opLines l true, opLines r false⟩
    m := t.2.1, n := t.2.2, seg := a.seg, segTo := a.seg
    sa := if a.cont = 0 then sa.getD one32 else old.sa, sb := if a.cont = 0 then sb.getD one32 else old.sb, use := a.use
    poison := out.units.any (unitPoison v) || (a.cont == 1 && old.poison), vals := out.vals }

theorem filledSlot_vals {c : Ctx} {s v : State} {e : List Byte} {t : Nat × Nat × Nat} :
    let a := parseMatmul e
    let dl := (readDesc s c.p a.left).localize s c.p
    let dr := (readDesc s c.p a.right).localize s c.p
    let l := readSide s c.p dl
    let r := readSide s c.p dr
    let g := gemmIntervals s c.p c.f a.gemm dl dr
    let k0 := if g.2.1 = 0 then 0 else a.seg * g.2.1
    let k1 := if g.2.1 = 0 then opLength l true / 16 else min (opLength l true / 16) (k0 + g.2.1)
    let old := getSlot s c.f t.1
    (filledSlot c s v e t).vals = (runTile v c.f l r g.1 k0 k1 t.2.1 t.2.2 (entriesBefore a old)
      (scaleShift a (readScale s c.p dl) (readScale s c.p dr) old)).vals := by
  unfold filledSlot
  dsimp only

theorem entriesBefore_of_fresh {a : MatmulP} {old : SlotSt} (h : a.cont = 0) :
    entriesBefore a old = List.replicate 1024 pzero32 := if_pos h

theorem entriesBefore_of_cont {a : MatmulP} {old : SlotSt} (h : a.cont ≠ 0) : entriesBefore a old = old.vals := if_neg h

theorem scaleShift_of_fresh {a : MatmulP} {sa sb : Option W32} {old : SlotSt} (h : a.cont = 0) : scaleShift a sa sb old = 0 :=
  if_pos h

theorem scaleShift_of_cont {a : MatmulP} {sa sb : Option W32} {old : SlotSt} (h : a.cont ≠ 0) (ha : sa.isSome = true)
    (hb : sb.isSome = true) : scaleShift a sa sb old = (pow2Exp (sa.getD one32)).getD 0 + (pow2Exp (sb.getD one32)).getD 0 -
      (pow2Exp old.sa).getD 0 - (pow2Exp old.sb).getD 0 := by
  obtain ⟨va, rfl⟩ := Option.isSome_iff_exists.1 ha
  obtain ⟨vb, rfl⟩ := Option.isSome_iff_exists.1 hb
  exact if_neg h

theorem scales_of_matmulRuns {c : Ctx} {s : State} {e : List Byte} (h : MatmulRuns c s e) :
    (readScale s c.p ((readDesc s c.p (parseMatmul e).left).localize s c.p)).isSome = true ∧
    (readScale s c.p ((readDesc s c.p (parseMatmul e).right).localize s c.p)).isSome = true := by
  obtain ⟨-, -, -, -, -, -, ⟨-, -, -, -, hsa, hsb⟩, -⟩ := h
  exact ⟨hsa, hsb⟩

theorem matmulBody_of_runs {c : Ctx} {s : State} {e : List Byte} (h : MatmulRuns c s e) :
    ∃ us fresh s1 st k, matmulBody c s e = .effect s1 st 0 k .done ∧ (st = stOK ∨ st = stFormat ∨ st = stPoison) ∧
      Agree 1024 (readUnits s us) fresh ∧
      Agree 32 ((regionTiles (parseMatmul e).base (parseMatmul e).tm (parseMatmul e).tn (parseMatmul e).mt
        (parseMatmul e).nt).foldl (fun t x => setSlot t c.f x.1 (filledSlot c s (readUnits s us) e x)) fresh) s1 := by
  unfold MatmulRuns at h
  extract_lets a dl dr l r kb g out power slot tiles at h
  obtain ⟨hval, hkeep, hl0, hr0, ⟨hgemm, hcont, hhold, htrav, htm, htn, htiles, hbase⟩, ⟨hseg, hlen, h16, hmt, hnt⟩,
    ⟨hrot, hseed, hhdr, hprom, hsa, hsb⟩, hcontinue, ⟨hlayer, hheld⟩, hslots⟩ := h
  obtain ⟨va, hva⟩ := Option.isSome_iff_exists.1 hsa
  obtain ⟨vb, hvb⟩ := Option.isSome_iff_exists.1 hsb
  -- The checks, in the order of the command's rule.
  have hparams : ¬(a.gemm > 2 ∨ a.cont > 1 ∨ a.hold > 1 ∨ a.trav > 1 ∨ a.tm = 0 ∨ a.tn = 0 ∨ a.tm * a.tn > 128 ∨
      a.base + a.tm * a.tn > 128 ∨ a.seg ≥ (if g.2.1 = 0 then 1 else ceilDiv kb g.2.1) ∨ opLength l true ≠ opLength r false ∨
      opLength l true % 16 ≠ 0 ∨ 32 * (a.mt + a.tm - 1) ≥ opLines l true ∨ 32 * (a.nt + a.tn - 1) ≥ opLines r false) := by
    omega
  have hcontinues : ¬(a.cont = 1 ∧ (g.2.1 ≠ 0 ∨ (readScale s c.p dl).bind pow2Exp = none ∨
      (readScale s c.p dr).bind pow2Exp = none ∨ tiles.any (fun t => decide ((slot t.1).state = .held) &&
        ((pow2Exp (slot t.1).sa).isNone || (pow2Exp (slot t.1).sb).isNone)) = true)) := by
    rintro ⟨h1, hbad⟩
    obtain ⟨hk, hpa, hpb, hold⟩ := hcontinue h1
    rcases hbad with hbad | hbad | hbad | hbad
    · exact hbad hk
    · exact absurd hpa (by simp [power, hbad])
    · exact absurd hpb (by simp [power, hbad])
    · obtain ⟨t, ht, hbad⟩ := List.any_eq_true.1 hbad
      rw [Bool.and_eq_true, decide_eq_true_eq] at hbad
      have hp := hold t ht hbad.1
      simp only [power, Option.bind_some] at hp
      simp [Option.isNone_iff_eq_none, Option.isSome_iff_ne_none.1 hp.1, Option.isSome_iff_ne_none.1 hp.2] at hbad
  have hformat : ¬(dl.rot ≠ dr.rot ∨ (dl.rot ≠ 0 ∧ dl.seed ≠ dr.seed) ∨ g.2.2 = false ∨ g.1 = 0 ∨ readScale s c.p dl = none ∨
      readScale s c.p dr = none ∨ (a.cont = 1 ∧ (g.2.1 ≠ 0 ∨ (readScale s c.p dl).bind pow2Exp = none ∨
      (readScale s c.p dr).bind pow2Exp = none ∨ tiles.any (fun t => decide ((slot t.1).state = .held) &&
        ((pow2Exp (slot t.1).sa).isNone || (pow2Exp (slot t.1).sb).isNone)) = true))) := by
    rw [hva, hvb] at hcontinues ⊢
    simp only [hrot, hhdr, not_or]
    exact ⟨Classical.not_not.2 rfl, fun hx => hseed.elim (fun h0 => hx.1 (hrot ▸ h0)) hx.2, nofun, hprom, nofun, nofun, hcontinues⟩
  have hfree : ¬(layerHeld s c out.layer || tiles.any (fun t => slotActive (slot t.1) || slotHeld s c (c.f, t.1))) = true := by
    rw [hlayer, Bool.false_or, List.any_eq_true]
    rintro ⟨t, ht, hbad⟩
    rw [(hheld t ht).1, (hheld t ht).2] at hbad
    exact Bool.false_ne_true hbad
  have hfind : tiles.find? (fun t => if a.cont = 0 then !slotEmpty (slot t.1)
      else !contOk (slot t.1) out t.2.1 t.2.2 a.seg a.use) = none := by
    refine List.find?_eq_none.2 fun t ht => ?_
    obtain ⟨hempty, hok⟩ := hslots t ht
    split
    · next h0 => simp [slotEmpty, hempty h0]
    · rw [hok (by omega)]
      exact Bool.false_ne_true
  -- What is left of the body is the branch that fills the slots.
  generalize hv : matmulBody c s e = v
  unfold matmulBody at hv
  extract_lets +onlyGivenNames fmt at hv
  rw [show validate s c.p _ = none from hval, show gemmIntervals s c.p c.f a.gemm dl dr = (g.1, g.2.1, g.2.2) from rfl] at hv
  dsimp -zeta only at hv
  rw [if_neg (ne_true_of_eq_false hkeep), if_neg (not_or.2 ⟨hl0, hr0⟩)] at hv
  extract_lets +onlyGivenNames segs k0 k1 sa sb p2 at hv
  rw [if_neg hparams, if_neg hformat, if_neg hfree, hfind] at hv
  dsimp -zeta only at hv
  extract_lets lb rb sr va' vb' done put fresh s2 s3 s4 tot s5 s6 bad at hv
  subst hv
  refine ⟨dedupNat ((lb ++ rb).flatMap (·.units)), fresh, s6, _, bad, rfl, ?_, ?_, ?_⟩
  · split <;> split <;> simp
  · unfold fresh
    split
    · exact rhzUps_agree
    · exact Agree.refl _ _
  · clear hval hkeep hparams hcontinues hformat hfree hfind hslots hheld hcontinue
    have hput : s2 = tiles.foldl (fun t x => setSlot t c.f x.1 (filledSlot c s sr e x)) fresh := by
      unfold s2 done
      rw [List.foldl_map]
      congr 1
    have hcount : Agree 32 s2 s6 :=
      bump_agree.after rfl (bump_agree.after rfl (bump_agree.after rfl (bump_agree.after rfl (bumpDot_agree.after rfl
        (bumpRead_agree.after rfl bumpRead_agree)))))
    exact hput ▸ hcount

/-- Settles O18: each slot of the region takes what `filledSlot` says, and the other slots stay. -/
theorem matmulFillsSlots : Obligations.MatmulFillsSlots := by
  unfold Obligations.MatmulFillsSlots
  intro f n s htab hfree
  extract_lets e c a s0 dl dr l r kb g k0 k1 sa sb ex
  intro hruns
  obtain ⟨us, fresh, s1, st, k, hbody, hst, hfresh, hs1⟩ := matmulBody_of_runs hruns
  have h0 : TablesOk s0 := atBody_tablesOk _ _ htab
  have hmem0 : s0.mem = s.mem := atBody_mem s _ n
  have hread : SlotsKept s0 (readUnits s0 us) := readUnits_slotsKept us h0
  have hreadmem : (readUnits s0 us).mem = s.mem := (readUnits_agree.area .mem rfl).trans hmem0
  have hkept : SlotsKept s0 fresh := hread.after hfresh rfl
  have hend : Agree 16416 ((regionTiles a.base a.tm a.tn a.mt a.nt).foldl
      (fun t x => setSlot t c.f x.1 (filledSlot c s0 (readUnits s0 us) e x)) fresh) (keepCmd s1 c.p c.q c.n c.mb c.e) :=
    keepCmd_agree.after rfl (hs1.mono rfl)
  have hslot (h i : Nat) := getSlot_of_fronds_eq (show _ = _ from hend.area .fronds rfl) h i
  refine ⟨keepCmd s1 c.p c.q c.n c.mb c.e, st, k, readUnits s0 us, ?_, hst, ?_, hreadmem, fun t ht => ?_, fun h i hi => ?_⟩
  · refine congrArg Host.Outcome.next (runEntry_eq_issued hfree rfl ?_)
    exact congrArg (Verdict.keep c) hbody
  · exact (hend.area .mem rfl).trans (((setSlots_agree _).area .mem rfl).trans ((hfresh.area .mem rfl).trans hreadmem))
  · have hfilled : getSlot ((regionTiles a.base a.tm a.tn a.mt a.nt).foldl
        (fun t x => setSlot t c.f x.1 (filledSlot c s0 (readUnits s0 us) e x)) fresh) c.f t.1 =
        filledSlot c s0 (readUnits s0 us) e t :=
      getSlot_foldl_setSlot_mem hkept.tabOk (regionTiles_slots_nodup ..) ht
    rw [show getSlot (keepCmd s1 c.p c.q c.n c.mb c.e) f t.1 = _ from (hslot f t.1).trans hfilled]
    refine ⟨rfl, rfl, rfl, rfl, rfl, rfl, rfl, fun hcont => ⟨if_pos hcont, if_pos hcont, ?_⟩, fun hcont => ?_⟩
    · have hvals := filledSlot_vals (c := c) (s := s0) (v := readUnits s0 us) (e := e) (t := t)
      dsimp only at hvals
      rw [entriesBefore_of_fresh (a := parseMatmul e) hcont, scaleShift_of_fresh (a := parseMatmul e) hcont] at hvals
      exact hvals
    · have hne : a.cont ≠ 0 := fun h0 => Nat.zero_ne_one (h0.symm.trans hcont)
      have hvals := filledSlot_vals (c := c) (s := s0) (v := readUnits s0 us) (e := e) (t := t)
      obtain ⟨hva, hvb⟩ := scales_of_matmulRuns hruns
      dsimp only at hvals
      rw [entriesBefore_of_cont (a := parseMatmul e) hne, scaleShift_of_cont (a := parseMatmul e) hne hva hvb] at hvals
      exact ⟨if_neg hne, if_neg hne, hvals⟩
  · exact (hslot h i).trans ((getSlot_foldl_setSlot_notMem hkept.tabOk hi).trans (hkept.slots h i))

end Sys2Proof.Proofs
end

section
/-! SUPPORT. GATHER_ADD (R183 to R186): folds of slots, and sums of slots and tensors. -/

namespace Sys2Proof.Proofs

open Sys2Proof Sys2Proof.Machine Sys2Proof.Safety Sys2Proof.Frame Sys2Proof.Claims Sys2Proof.Laws

/-! ### Slots of several fronds -/

/-- One slot takes a value: the slot as frond and number. -/
def putSlot (s : State) (x : (Nat × Nat) × SlotSt) : State := setSlot s x.1.1 x.1.2 x.2

theorem putSlot_agree {s : State} {x : (Nat × Nat) × SlotSt} : Agree 8192 s (putSlot s x) := setSlot_agree

theorem putSlots_agree {s : State} (ws : List ((Nat × Nat) × SlotSt)) : Agree 8192 s (ws.foldl putSlot s) :=
  Agree.foldl (fun _ _ h => putSlot_agree.after rfl h) (Agree.refl _ _)

theorem putSlot_fronds {s t : State} (h : t.fronds = s.fronds) (x : (Nat × Nat) × SlotSt) :
    (putSlot t x).fronds = (putSlot s x).fronds := by
  unfold putSlot setSlot modFrond setFrond getFrond
  rw [h]

theorem putSlots_fronds {s t : State} (h : t.fronds = s.fronds) (ws : List ((Nat × Nat) × SlotSt)) :
    (ws.foldl putSlot t).fronds = (ws.foldl putSlot s).fronds := by
  induction ws generalizing s t with
  | nil => exact h
  | cons x ws ih => exact ih (putSlot_fronds h x)

theorem getSlot_putSlot_ne {s : State} {x : (Nat × Nat) × SlotSt} {k : Nat × Nat} (h : TablesOk s) (hk : k ≠ x.1) :
    getSlot (putSlot s x) k.1 k.2 = getSlot s k.1 k.2 := by
  by_cases hf : k.1 = x.1.1
  · rw [hf]
    exact getSlot_setSlot_ne h fun hs => hk (Prod.ext hf hs)
  · exact getSlot_setSlot_other h hf

theorem getSlot_putSlots_notMem {s : State} {ws : List ((Nat × Nat) × SlotSt)} {k : Nat × Nat} (h : TablesOk s)
    (hk : k ∉ ws.map (·.1)) : getSlot (ws.foldl putSlot s) k.1 k.2 = getSlot s k.1 k.2 := by
  induction ws generalizing s with
  | nil => rfl
  | cons x ws ih =>
    obtain ⟨hx, hws⟩ := not_or.1 (fun hm => hk (List.mem_cons.2 hm))
    exact (ih (putSlot_agree.tabOk h) hws).trans (getSlot_putSlot_ne h hx)

/-- Where every slot is named once, each holds what it took. -/
theorem getSlot_putSlots_mem {s : State} {ws : List ((Nat × Nat) × SlotSt)} {x : (Nat × Nat) × SlotSt} (h : TablesOk s)
    (hws : (ws.map (·.1)).Nodup) (hx : x ∈ ws) : getSlot (ws.foldl putSlot s) x.1.1 x.1.2 = x.2 := by
  induction ws generalizing s with
  | nil => exact nomatch hx
  | cons y ws ih =>
    obtain ⟨hy, hws⟩ := List.nodup_cons.1 hws
    rcases List.mem_cons.1 hx with rfl | hx
    · exact (getSlot_putSlots_notMem (putSlot_agree.tabOk h) hy).trans (getSlot_setSlot_same h)
    · exact ih (putSlot_agree.tabOk h) hws hx

theorem dedupNat_append_singleton (l : List Nat) (n : Nat) :
    dedupNat (l ++ [n]) = if n ∈ l then dedupNat l else dedupNat l ++ [n] := by
  unfold dedupNat
  rw [List.foldl_append]
  show (if (dedupNat l).contains n then dedupNat l else dedupNat l ++ [n]) = _
  by_cases h : n ∈ l
  · rw [if_pos h, if_pos (List.contains_iff_mem.2 (mem_dedupNat.2 h))]
    rfl
  · rw [if_neg h, if_neg fun hc => h (mem_dedupNat.1 (List.contains_iff_mem.1 hc))]
    rfl

theorem dedupNat_length_le (l : List Nat) : (dedupNat l).length ≤ l.length := by
  induction l using snoc_induction with
  | nil => exact Nat.le_refl _
  | append_singleton l n ih =>
    rw [dedupNat_append_singleton]
    split <;> simp <;> omega

theorem nodup_of_dedupNat_length {l : List Nat} (h : (dedupNat l).length = l.length) : l.Nodup := by
  induction l using snoc_induction with
  | nil => exact List.nodup_nil
  | append_singleton l n ih =>
    rw [dedupNat_append_singleton] at h
    have hle := dedupNat_length_le l
    by_cases hn : n ∈ l
    · rw [if_pos hn] at h
      simp only [List.length_append, List.length_singleton] at h
      omega
    · rw [if_neg hn] at h
      simp only [List.length_append, List.length_singleton, Nat.add_right_cancel_iff] at h
      refine List.nodup_append.2 ⟨ih h, List.pairwise_singleton _ n, fun a ha b hb he => hn ?_⟩
      rw [← List.mem_singleton.1 hb, ← he]
      exact ha

/-! ### FOLD -/

/-- What a FOLD makes of the slots of one tile (R184): the first takes the fold, the others become EMPTY. -/
def foldWrites (s : State) (l : List (Nat × Nat)) : List ((Nat × Nat) × SlotSt) :=
  let xs := l.map (fun x => getSlot s x.1 x.2)
  let x0 := xs.headD SlotSt.empty
  let vals := (List.range 1024).map (fun i => foldSegs (xs.map (fun x => x.vals.getD i pzero32)))
  match l with
  | [] => []
  | h :: t => t.map (fun y => (y, SlotSt.empty)) ++ [(h, { x0 with
      vals := vals.map (·.1), poison := xs.any (·.poison), segTo := ((xs.getLast?).map (·.segTo)).getD x0.segTo })]

theorem foldWrites_keys (s : State) (l : List (Nat × Nat)) : ((foldWrites s l).map (·.1)).Perm l := by
  unfold foldWrites
  cases l with
  | nil => exact .refl _
  | cons h t =>
    simp only [List.map_append, List.map_map, List.map_cons, List.map_nil]
    rw [show t.map ((fun x => x.1) ∘ fun y => (y, SlotSt.empty)) = t from List.map_id t]
    exact List.perm_append_singleton h t

theorem foldBody_of_runs {c : Ctx} {s : State} {e : List Byte} (h : FoldRuns c s e) :
    ∃ s1 st b, foldBody c s e = .effect s1 st 0 b .done ∧ (st = stOK ∨ st = stPoison) ∧ s1.mem = s.mem ∧
      s1.fronds = ((((List.range (parseGather e).tiles).map (foldColumn (parseGather e))).flatMap (foldWrites s)).foldl
        putSlot s).fronds := by
  unfold FoldRuns at h
  extract_lets a all' at h
  obtain ⟨hmode, hform, hslots, hcols, hnodup⟩ := h
  generalize hv : foldBody c s e = v
  unfold foldBody at hv
  extract_lets +onlyGivenNames srcs cols get all at hv
  have hall : all = all' := List.flatMap_map ..
  rw [if_neg (by rw [show (parseGather e).mode = 0 from hmode]; decide), if_neg (by simp [hform])] at hv
  have hfree : ¬all.any (fun x => slotActive (get x) || slotHeld s c x) = true := by
    rw [List.any_eq_true]
    rintro ⟨x, hx, hbad⟩
    obtain ⟨hdone, hheld⟩ := hslots x (hall ▸ hx)
    rw [hheld, Bool.or_false] at hbad
    unfold slotActive get at hbad
    rw [hdone] at hbad
    exact Bool.false_ne_true hbad
  have hfind : all.find? (fun x => decide ((get x).state ≠ .done)) = none := by
    refine List.find?_eq_none.2 fun x hx => ?_
    rw [decide_eq_true_eq]
    exact Classical.not_not.2 (hslots x (hall ▸ hx)).1
  rw [if_neg hfree, hfind] at hv
  dsimp -zeta only at hv
  extract_lets +onlyGivenNames okCol at hv
  have hok : cols.all okCol = true := by
    rw [List.all_eq_true]
    intro l hl
    obtain ⟨t, ht, rfl⟩ := List.mem_map.1 hl
    exact hcols t (List.mem_range.1 ht)
  have hcodes : ¬(!cols.all okCol || decide ((dedupNat (all.map (fun x => x.1 * 128 + x.2))).length ≠ all.length)) = true := by
    rw [hok, hall, hnodup]
    simp
  rw [if_neg hcodes] at hv
  extract_lets +onlyGivenNames foldOne s1 nan k bad at hv
  subst hv
  have hone (st : State) (l : List (Nat × Nat)) :
      Agree 8224 st (foldOne st l) ∧ (foldOne st l).fronds = ((foldWrites s l).foldl putSlot st).fronds := by
    unfold foldOne foldWrites
    cases l with
    | nil => exact ⟨Agree.refl _ _, rfl⟩
    | cons h t =>
      refine ⟨bump_agree.after rfl (bump_agree.after rfl (setSlot_agree.after rfl
        (Agree.foldl (fun _ _ ha => setSlot_agree.after rfl ha) (Agree.refl _ _)))), ?_⟩
      rw [List.foldl_append, List.foldl_map]
      exact (bump_agree.area .fronds rfl).trans (bump_agree.area .fronds rfl)
  have hfold (ls : List (List (Nat × Nat))) (st : State) :
      Agree 8224 st (ls.foldl foldOne st) ∧ (ls.foldl foldOne st).fronds = ((ls.flatMap (foldWrites s)).foldl putSlot st).fronds := by
    induction ls generalizing st with
    | nil => exact ⟨Agree.refl _ _, rfl⟩
    | cons l ls ih =>
      obtain ⟨hagree, hfronds⟩ := ih (foldOne st l)
      refine ⟨(hone st l).1.trans hagree, ?_⟩
      rw [List.flatMap_cons, List.foldl_append]
      exact hfronds.trans (putSlots_fronds (hone st l).2 _)
  obtain ⟨hagree, hfronds⟩ := hfold cols s
  refine ⟨_, _, bad, rfl, ?_, (bump_agree.area .mem rfl).trans (hagree.area .mem rfl), ?_⟩
  · split
    · exact .inr rfl
    · exact .inl rfl
  · exact (bump_agree.area .fronds rfl).trans hfronds

/-- What a FOLD leaves in the slots of tile `t`. -/
theorem getSlot_of_fold {c : Ctx} {s s1 : State} {e : List Byte} (hs : TablesOk s) (hruns : FoldRuns c s e)
    (hs1 : s1.fronds = ((((List.range (parseGather e).tiles).map (foldColumn (parseGather e))).flatMap (foldWrites s)).foldl
      putSlot s).fronds) {t : Nat} (ht : t < (parseGather e).tiles) {w : (Nat × Nat) × SlotSt}
    (hw : w ∈ foldWrites s (foldColumn (parseGather e) t)) : getSlot s1 w.1.1 w.1.2 = w.2 := by
  obtain ⟨-, -, -, -, hlen⟩ := hruns
  have hcols : ((List.range (parseGather e).tiles).flatMap (foldColumn (parseGather e))).Nodup :=
    List.Pairwise.of_map _ (fun _ _ h he => h (by rw [he])) (nodup_of_dedupNat_length (hlen.trans (List.length_map _).symm))
  have hkeys : ((((List.range (parseGather e).tiles).map (foldColumn (parseGather e))).flatMap (foldWrites s)).map (·.1)).Nodup := by
    rw [List.flatMap_map, List.map_flatMap]
    exact ((flatMap_perm_of_mem fun t _ => foldWrites_keys s _).nodup_iff).2 hcols
  refine (getSlot_of_fronds_eq hs1 _ _).trans (getSlot_putSlots_mem hs hkeys ?_)
  exact List.mem_flatMap.2 ⟨_, List.mem_map.2 ⟨t, List.mem_range.2 ht, rfl⟩, hw⟩

theorem fold_leaves {c : Ctx} {s s1 : State} {e : List Byte} (hs : TablesOk s) (hruns : FoldRuns c s e)
    (hs1 : s1.fronds = ((((List.range (parseGather e).tiles).map (foldColumn (parseGather e))).flatMap (foldWrites s)).foldl
      putSlot s).fronds) {t : Nat} (ht : t < (parseGather e).tiles) {h : Nat × Nat} {l : List (Nat × Nat)}
    (hl : foldColumn (parseGather e) t = h :: l) :
    (getSlot s1 h.1 h.2).state = .done ∧ (getSlot s1 h.1 h.2).seg = 0 ∧
    (getSlot s1 h.1 h.2).segTo = (getSlot s (l.getLastD h).1 (l.getLastD h).2).segTo ∧
    (getSlot s1 h.1 h.2).vals = (List.range 1024).map (fun i =>
      (foldSegs ((h :: l).map (fun x => (getSlot s x.1 x.2).vals.getD i pzero32))).1) ∧
    ∀ x ∈ l, getSlot s1 x.1 x.2 = SlotSt.empty := by
  have hleaves {w : (Nat × Nat) × SlotSt} (hw : w ∈ foldWrites s (h :: l)) : getSlot s1 w.1.1 w.1.2 = w.2 :=
    getSlot_of_fold hs hruns hs1 ht (hl ▸ hw)
  have hhead := hleaves (List.mem_append_right _ (List.mem_singleton.2 rfl))
  obtain ⟨-, -, hslots, hcols, -⟩ := hruns
  have hfits := hcols t ht
  rw [hl] at hfits
  dsimp only at hhead
  rw [hhead]
  refine ⟨?_, ?_, ?_, ?_, fun x hx => ?_⟩
  · refine (hslots h (List.mem_flatMap.2 ⟨t, List.mem_range.2 ht, ?_⟩)).1
    rw [hl]
    exact List.mem_cons_self
  · exact eq_of_beq (Bool.and_eq_true_iff.1 hfits).1
  · dsimp only
    rw [List.getLast?_map, List.getLast?_cons, List.getLastD_eq_getLast?]
    rfl
  · simp only [List.map_map]
    rfl
  · exact hleaves (List.mem_append_left _ (List.mem_map.2 ⟨x, hx, rfl⟩))

/-! ### SUM -/

theorem rangePoison_of_marks_eq {s t : State} (hu : t.units = s.units) (hx : t.upsets = s.upsets) (k n : Nat) :
    rangePoison t k n = rangePoison s k n := by
  unfold rangePoison unitPoison unitMeta
  rw [hu, hx]

theorem readNat_of_mem_eq {s t : State} (h : t.mem = s.mem) (k n : Nat) : readNat t k n = readNat s k n := by
  unfold readNat readBytes readByte
  rw [h]

/-- What a SUM stores rests on the memory and the marks of the state in which it reads. -/
theorem sumStores_congr {s v w : State} {c : Ctx} {a : GatherP} (hm : w.mem = v.mem) (hu : w.units = v.units)
    (hx : w.upsets = v.upsets) : sumStores s w c a = sumStores s v c a := by
  have hterm : sumTerm s w c a = sumTerm s v c a := by
    funext x y
    cases y with
    | slots f b => rfl
    | desc h =>
      unfold sumTerm
      dsimp only
      rw [readNat_of_mem_eq hm, rangePoison_of_marks_eq hu hx]
  unfold sumStores
  rw [hterm]

theorem sumBody_of_runs {c : Ctx} {s : State} {e : List Byte} (hs : TablesOk s) (h : SumRuns c s e) :
    ∃ s1 st b v, sumBody c s e = .effect s1 st 0 b .done ∧ (st = stOK ∨ st = stPoison) ∧ SlotsKept s s1 ∧ v.mem = s.mem ∧
      ((parseGather e).mask = 0xFFFF → s1.mem = (writeSet v (wideStore v c.f (sumDest s c (parseGather e)) false
        (sumStores s v c (parseGather e)) []).w).1.mem) := by
  unfold SumRuns at h
  extract_lets a dd slots at h
  obtain ⟨hmode, hform, hcount, ⟨dh, hdest, hkeep, hval⟩, hext, hslots, hheld, hsame⟩ := h
  generalize hv : sumBody c s e = v
  unfold sumBody at hv
  extract_lets +onlyGivenNames srcs dh' sh dd' fp at hv
  rw [if_neg (by rw [hmode]; decide)] at hv
  have hdh : dh' = dh := by unfold dh'; rw [hdest]
  rw [hdest] at hv
  dsimp -zeta only at hv
  have hvalid : validate s c.p (sh.map (fun h => ({ h := h, fmtOk := fp h } : Use)) ++
      [{ h := dh, write := true, fmtOk := fp dh }] ++ maskUse a.mask dd'.rows dd'.cols) = none := hval
  rw [hvalid] at hv
  dsimp -zeta only at hv
  have hkeep' : namesKeep s c.p e (dh' :: sh) = false := hdh ▸ hkeep
  rw [if_neg (by rw [hform, hkeep']; decide)] at hv
  extract_lets +onlyGivenNames sd ranges slotAt allSlots at hv
  have hall : allSlots = slots := rfl
  have hranges : ranges = rangeSources a := rfl
  rw [if_neg (?ext : ¬sh.any (fun h => decide ((sd h).ext ≠ dd'.ext)) = true), if_neg (show ¬dd'.count = 0 from hcount),
    if_neg (?free : ¬(allSlots.any slotActive || ranges.any (fun x => (sourceSlots a.tiles x).any (slotHeld s c))) = true),
    if_neg (?done : ¬allSlots.any (fun x => decide (x.state ≠ .done)) = true), if_neg (?same), if_neg (?out : ¬allSlots.any (tileOutside dd') = true)] at hv
  extract_lets +onlyGivenNames km elems kept units s1 val slotBad outs scaled s2 k r at hv
  case ext =>
    rw [List.any_eq_true]
    rintro ⟨h, hh, hne⟩
    exact of_decide_eq_true hne (hext h hh)
  case free =>
    rw [Bool.or_eq_true, List.any_eq_true, List.any_eq_true]
    rintro (⟨z, hz, hact⟩ | ⟨x, hx, hx'⟩)
    · unfold slotActive at hact
      rw [(hslots z hz).1] at hact
      exact Bool.false_ne_true hact
    · obtain ⟨y, hy, hheld'⟩ := List.any_eq_true.1 hx'
      exact Bool.false_ne_true ((hheld x hx y hy).symm.trans hheld')
  case done =>
    rw [List.any_eq_true]
    rintro ⟨z, hz, hne⟩
    exact of_decide_eq_true hne (hslots z hz).1
  case same =>
    rw [List.any_eq_true]
    rintro ⟨t, ht, ht'⟩
    obtain ⟨x, hx, hne⟩ := List.any_eq_true.1 ht'
    cases hr : ranges with
    | nil => rw [hr] at hx; exact nomatch hx
    | cons y ys =>
      rw [hr] at hne
      refine of_decide_eq_true hne (congrArg some (Prod.ext ?_ ?_))
      · exact (hsame t (List.mem_range.1 ht) y (hranges ▸ hr ▸ List.mem_cons_self) x hx).1
      · exact (hsame t (List.mem_range.1 ht) y (hranges ▸ hr ▸ List.mem_cons_self) x hx).2
  case out =>
    rw [List.any_eq_true]
    rintro ⟨z, hz, hout⟩
    exact Bool.false_ne_true ((hslots z hz).2.symm.trans hout)
  subst hv
  have hscaled (l : List (Nat × SlotSt)) : Agree 32 s1 (l.foldl scaled s1) :=
    Agree.foldl (fun _ _ ha => bump_agree.after rfl ha) (Agree.refl _ _)
  have hread : SlotsKept s s1 := readUnits_slotsKept _ hs
  have hs2 : SlotsKept s s2 := hread.after (hscaled _) rfl
  have hw : SlotsKept s (writeSet s2 r.w).1 := hs2.trans (writeSet_slotsKept _ _ hs2.tabOk)
  have hbumps (t : State) (i m n k : Nat) : Agree 32 t (bump (bump (bump t CSH_LAYOUT_EVENTS_PAD_DROPPED k i)
      CSH_GADD_EVENTS_OVF k m) CSH_GADD_EVENTS_NAN_OUT k n) :=
    bump_agree.after rfl (bump_agree.after rfl bump_agree)
  refine ⟨_, _, _, s2, rfl, ?_, hw.after (hbumps _ _ _ _ _) rfl,
    ((hscaled _).area .mem rfl).trans (readUnits_agree.area .mem rfl), fun hmask => ?_⟩
  · split
    · exact .inr rfl
    · exact .inl rfl
  · have hval : val = sumTerm s s1 c a := by
      funext x y
      cases y <;> rfl
    have hkm : km = none := if_pos hmask
    have hkept : kept = sumPlaces s c a := by
      have hall : kept = elems := List.filter_eq_self.2 fun x _ => by rw [hkm]; rfl
      rw [hall]
      unfold elems sumPlaces
      rw [← hranges]
      cases ranges <;> rfl
    have houts : outs.map (·.1) = sumStores s s2 c a := by
      rw [sumStores_congr ((hscaled _).area .mem rfl) ((hscaled _).area .marks rfl).1 ((hscaled _).area .marks rfl).2]
      unfold outs sumStores
      rw [List.map_map, hval, hkept]
      rfl
    have hr : r = wideStore s2 c.f (sumDest s c a) false (sumStores s s2 c a) [] :=
      congrArg (fun l => wideStore s2 c.f dd' false l []) houts
    have hmem : (writeSet s2 r.w).1.mem = (writeSet s2 (wideStore s2 c.f (sumDest s c a) false (sumStores s s2 c a) []).w).1.mem := by
      rw [hr]
    exact ((hbumps _ _ _ _ _).area .mem rfl).trans hmem

/-- Settles O20: FOLD writes each tile's slots, which no other tile names; SUM stores the sums that its own places name. -/
theorem gatherAddFoldsAndSums : Obligations.GatherAddFoldsAndSums := by
  constructor
  · intro k n s hs hfree e c a s0 hruns
    have hs0 : TablesOk s0 := atBody_tablesOk _ _ hs
    obtain ⟨s1, st, b, hbody, hst, hmem, hfronds⟩ := foldBody_of_runs hruns
    have hkeep : Agree 16384 s1 (keepCmd s1 c.p c.q c.n c.mb c.e) := keepCmd_agree
    refine ⟨_, st, b, congrArg Host.Outcome.next (runEntry_eq_issued hfree rfl ?_), hst, (hkeep.area .mem rfl).trans (hmem.trans (atBody_mem s _ n)), ?_⟩
    · exact congrArg (Verdict.keep c) hbody
    intro t ht h l hl
    exact fold_leaves hs0 hruns ((hkeep.area .fronds rfl).trans hfronds) ht hl
  · intro k n s hs hfree e c a s0 hruns
    have hs0 : TablesOk s0 := atBody_tablesOk _ _ hs
    obtain ⟨s1, st, b, v, hbody, hst, hslots, hv, hmem⟩ := sumBody_of_runs hs0 hruns
    have hkeep : Agree 16384 s1 (keepCmd s1 c.p c.q c.n c.mb c.e) := keepCmd_agree
    refine ⟨_, st, b, v, congrArg Host.Outcome.next (runEntry_eq_issued hfree rfl ?_), hst, (hslots.after hkeep rfl).slots,
      hv.trans (atBody_mem s _ n), fun hmask => ?_⟩
    · exact congrArg (Verdict.keep c) hbody
    have hkept : (keepCmd s1 c.p c.q c.n c.mb c.e).mem = s1.mem := hkeep.area .mem rfl
    have ha : a = parseGather e := rfl
    rw [ha] at hmask ⊢
    exact hkept.trans (hmem hmask)

end Sys2Proof.Proofs
end

section
/-! SUPPORT. LAYER_CHECK (R147 to R153). -/

namespace Sys2Proof.Proofs

open Sys2Proof Sys2Proof.Machine Sys2Proof.Safety Sys2Proof.Frame Sys2Proof.Claims Sys2Proof.Laws

/-- A LAYER_CHECK of a counted layer, with no repeats under way and no other check before it, trips or counts (R147, R148). -/
theorem checkBody_of_counted {c : Ctx} {s : State} {e : List Byte} {lc : LayerCfg}
    (hl : (ladderLayers s c.p).find? (fun l => l.layer == p32 e 32) = some lc) (hpass : p8 e 36 ≤ 1) (hrec : recompute e = false)
    (hrep : (getPart s c.p).repeats = none) (hearly : earlierCheck s c = false) :
    checkBody c s e =
      let st := countUp s c.p (p32 e 32) (p8 e 36) (p32 e 40)
      let s1 := fallBack s c lc (p8 e 36) (p32 e 40) st
      if decide (st.t * 2 ^ lc.thrLog2 > st.q) && (getPart s c.p).storm.isNone && !isRollout s c.p
          && decide (layerRung s c.p (p32 e 32) (p8 e 36) < 3) then
        .effect s1 stOK 0 false (if (getPart s1 c.p).repeats.isSome then .repeats else .done)
      else .ok (modPart s c.p (fun x => modLayer x (p32 e 32) (p8 e 36) (fun _ => st))) := by
  unfold checkBody
  dsimp only
  rw [hl]
  dsimp only
  rw [if_neg (by rw [hrec]; rintro (h | h); omega; exact Bool.false_ne_true h), if_neg (by rw [hrep, hearly]; decide)]

/-- Settles O22: the one test of `checkBody` divides the two cases. -/
theorem layerCheckCounts : Obligations.LayerCheckCounts := by
  intro p q n s lc howner hfree e c s0 st hl hpass hrec hrep hearly
  have hp : c.p = p := congrArg (Option.getD · 0) howner
  rw [← hp] at hl hrep
  have hbody := checkBody_of_counted hl hpass hrec hrep hearly
  rw [hp] at hbody
  refine ⟨fun hcounts => ?_, fun hover hstorm hroll hrung => ?_⟩
  · refine congrArg Host.Outcome.next (runEntry_eq_issued hfree rfl (hbody.trans (if_neg fun h => hcounts ?_)))
    simpa only [Bool.and_eq_true, decide_eq_true_eq, Option.isNone_iff_eq_none, Bool.not_eq_true', and_assoc] using h
  · refine congrArg Host.Outcome.next (runEntry_eq_issued hfree rfl (hbody.trans (if_pos ?_)))
    simpa only [Bool.and_eq_true, decide_eq_true_eq, Option.isNone_iff_eq_none, Bool.not_eq_true', and_assoc] using
      (⟨hover, hstorm, hroll, hrung⟩ : _ ∧ _ ∧ _ ∧ _)

end Sys2Proof.Proofs
end

section
/-! SUPPORT. Reads and the store path change of a frond nothing but the records that its sequencer holds. -/

namespace Sys2Proof.Proofs

open Sys2Proof Sys2Proof.Machine Sys2Proof.Safety Sys2Proof.Frame Sys2Proof.Claims Sys2Proof.Laws

/-- A frond without the records that wait in its sequencer. -/
def unlogged (x : FrondSt) : FrondSt := { x with seqLog := [] }

/-- From `s` to `t` the fronds are as they were but for the records that wait in their sequencers. -/
def FrondsKept (s t : State) : Prop := ∀ f, unlogged (getFrond t f) = unlogged (getFrond s f)

theorem FrondsKept.refl (s : State) : FrondsKept s s := fun _ => rfl

theorem FrondsKept.trans {s t u : State} (h : FrondsKept s t) (k : FrondsKept t u) : FrondsKept s u :=
  fun f => (k f).trans (h f)

theorem FrondsKept.vrun {s t : State} (h : FrondsKept s t) (f : Nat) : (getFrond t f).vrun = (getFrond s f).vrun :=
  congrArg (fun x => x.vrun) (h f)

theorem FrondsKept.slots {s t : State} (h : FrondsKept s t) (f : Nat) : (getFrond t f).slots = (getFrond s f).slots :=
  congrArg (fun x => x.slots) (h f)

theorem FrondsKept.progs {s t : State} (h : FrondsKept s t) (f : Nat) : (getFrond t f).progs = (getFrond s f).progs :=
  congrArg (fun x => x.progs) (h f)

theorem getFrond_of_fronds_eq {s t : State} (h : t.fronds = s.fronds) (f : Nat) : getFrond t f = getFrond s f := by
  unfold getFrond; rw [h]

/-- An operation that does not touch the fronds keeps them. -/
theorem FrondsKept.after {A : Nat} {s t u : State} (ha : Agree A t u) (hA : A.testBit Area.fronds.idx = false)
    (h : FrondsKept s t) : FrondsKept s u :=
  h.trans fun f => by rw [getFrond_of_fronds_eq (ha.area .fronds hA)]

/-- A table that takes a value other than its default holds it at that key, whatever its form, and the others stay. -/
theorem tblFind_tblPut_some {α : Type} (t : Tbl α) (k j : Nat) (v : α) :
    tblFind (tblPut t k (some v)) j = if j = k then some v else tblFind t j := by
  induction t with
  | nil => grind [tblPut, tblFind]
  | cons e t ih =>
    obtain ⟨i, w⟩ := e
    by_cases hik : i = k
    · grind [tblPut, tblFind]
    · by_cases hlt : k < i <;> grind [tblPut, tblFind]

theorem tblGet_tblSet_of_ne {α : Type} [DecidableEq α] {d v : α} (t : Tbl α) (k j : Nat) (hv : v ≠ d) :
    tblGet d (tblSet d t k v) j = if j = k then v else tblGet d t j := by
  unfold tblGet tblSet
  rw [if_neg hv, tblFind_tblPut_some]
  split <;> rfl

theorem FrondsKept.foldl {s : State} {β : Type} {g : State → β → State} {l : List β} {t : State}
    (hg : ∀ t b, FrondsKept s t → FrondsKept s (g t b)) (h : FrondsKept s t) : FrondsKept s (l.foldl g t) := by
  induction l generalizing t with
  | nil => exact h
  | cons b l ih => exact ih (hg t b h)

theorem FrondsKept.foldlFst {s : State} {α β : Type} {g : State × α → β → State × α} {l : List β} {x : State × α}
    (hg : ∀ x b, FrondsKept s x.1 → FrondsKept s (g x b).1) (h : FrondsKept s x.1) : FrondsKept s (l.foldl g x).1 := by
  induction l generalizing x with
  | nil => exact h
  | cons b l ih => exact ih (hg x b h)

theorem seqLogEvent_frondsKept {s : State} (f : Nat) (r : LogRec) : FrondsKept s (seqLogEvent s f r) := by
  unfold seqLogEvent
  extract_lets held s1
  have h1 : FrondsKept s s1 := by
    intro j
    have hne : { getFrond s f with seqLog := (getFrond s f).seqLog ++ [r] } ≠ FrondSt.empty :=
      fun h => List.append_ne_nil_of_right_ne_nil _ (List.cons_ne_nil r []) (congrArg FrondSt.seqLog h)
    refine (congrArg unlogged (tblGet_tblSet_of_ne s.fronds f j hne)).trans ?_
    split
    next hj => rw [hj]; rfl
    next => rfl
  split
  · split
    · exact h1.after seqPost_agree rfl
    · exact h1
  · refine .after raiseCause_agree rfl (.after bump_agree rfl ?_)
    exact fun _ => rfl

theorem readCheck_frondsKept {s : State} (u : Nat) : FrondsKept s (readCheck s u) := by
  unfold readCheck
  extract_lets x k s0 sHbm f sLocal c sCache
  have h0 : FrondsKept s s0 := (FrondsKept.refl _).after clearUpset_agree rfl
  split
  · exact .refl _
  split
  · split
    · exact h0.after bump_agree rfl
    · exact ((h0.after poisonUnit_agree rfl).after bump_agree rfl).after hbmPoisoned_agree rfl
  split
  · have h1 : FrondsKept s sLocal := (h0.after poisonUnit_agree rfl).after bump_agree rfl
    split
    · exact h0.after bump_agree rfl
    · exact (h1.trans (seqLogEvent_frondsKept _ _)).after raiseCause_agree rfl
  · split
    · exact h0.after bump_agree rfl
    · exact (((h0.after poisonUnit_agree rfl).after bump_agree rfl).after logEvent_agree rfl).after raiseCause_agree rfl

theorem readUnit_frondsKept {s : State} (u : Nat) : FrondsKept s (readUnit s u) := by
  unfold readUnit
  split
  · exact (readCheck_frondsKept u).after bump_agree rfl
  · exact readCheck_frondsKept u

theorem readUnits_frondsKept {s : State} (us : List Nat) : FrondsKept s (readUnits s us) :=
  .foldl (fun _ u ht => ht.trans (readUnit_frondsKept u)) (.refl _)

theorem writePart_frondsKept {s : State} (u : Nat) (part : WSet) (halo : Bool) :
    FrondsKept s (writePart s u part halo).1 := by
  unfold writePart
  extract_lets kept d st s1
  split
  · exact .refl _
  split
  · have h1 : FrondsKept s s1 := by
      unfold s1
      split
      · exact .refl _
      · exact (readUnit_frondsKept u).after bump_agree rfl
    dsimp only
    exact (h1.after writeUnit_agree rfl).after bump_agree rfl
  · exact (FrondsKept.refl _).after writeUnit_agree rfl

theorem commitWrites_frondsKept {s : State} (f : Nat) (w : WSet) (halo : Bool) :
    FrondsKept s (commitWrites s f w halo) := by
  unfold commitWrites
  have hw : FrondsKept s (writeSet s w halo).1 := .foldlFst (fun _ u hx => hx.trans (writePart_frondsKept u _ _)) (.refl _)
  exact hw.after bump_agree rfl

theorem queueEvent_frondsKept {s : State} (q : QueueId) (type severity : Nat) (pl : List Byte) :
    FrondsKept s (queueEvent s q type severity pl) := by
  cases q with
  | frond f => exact seqLogEvent_frondsKept f _
  | cushion c => exact (FrondsKept.refl _).after logEvent_agree rfl
  | anchor p => exact (FrondsKept.refl _).after logEvent_agree rfl
  | device => exact (FrondsKept.refl _).after logEvent_agree rfl

theorem stageJit_frondsKept {s : State} (c : Ctx) (d : Desc) (blocks : List QIn) :
    FrondsKept s (stageJit s c d blocks).1 := by
  unfold stageJit
  extract_lets pc key w s1
  split
  · have h1 : FrondsKept s s1 := .foldlFst (fun _ u hx => hx.trans (writePart_frondsKept u _ _)) (.refl _)
    exact h1.trans (readUnits_frondsKept _)
  · have h1 : FrondsKept s (bump (readUnits s c.reads) FRD_VEC_BUSY_ISSUE_CYCLES c.f c.cycles) :=
      (readUnits_frondsKept c.reads).after bump_agree rfl
    exact h1.trans (queueEvent_frondsKept _ _ _ _)

theorem jitStaged_frondsKept {s : State} {jit : Bool} {c : Ctx} {d : Desc} {blocks : List QIn} :
    FrondsKept s (if jit then stageJit s c d blocks else (s, blocks)).1 := by
  split
  · exact stageJit_frondsKept c d blocks
  · exact .refl _

theorem quantLines_frondsKept {s : State} (c : Ctx) (d : Desc) (w : WSet) (lines : List QLine) :
    FrondsKept s (quantLines s c d w lines).1 := by
  unfold quantLines
  extract_lets +onlyGivenNames k
  clear_value k
  dsimp -zeta only
  extract_lets +onlyGivenNames amax moved
  cases k with
  | none =>
    dsimp -zeta only
    split
    · exact .refl _
    · exact (FrondsKept.refl _).after bumpQuant_agree rfl
  | some sc =>
    dsimp -zeta only
    split
    · extract_lets +onlyGivenNames s1
      have h1 : FrondsKept s s1 := by
        unfold s1
        split
        · exact (FrondsKept.refl _).after ensureReloc_agree rfl
        · exact .refl _
      exact (((h1.after bump_agree rfl).after noteAmax_agree rfl).after noteCounts_agree rfl).after noteStorm_agree rfl
    split
    · exact .refl _
    extract_lets +onlyGivenNames s1 d1 biased bias qs ev t s1' s2
    have h1 : FrondsKept s s1 := by
      unfold s1
      split
      · exact jitStaged_frondsKept.after ensureReloc_agree rfl
      · exact jitStaged_frondsKept.after modPart_agree rfl
    have h1' : FrondsKept s s1' := by
      unfold s1'
      split
      · exact h1.after keepBias_agree rfl
      · exact h1
    have h2 : FrondsKept s s2 := by
      unfold s2
      split
      · exact h1'.after recordJit_agree rfl
      · exact h1'
    exact (((h2.after bumpQuant_agree rfl).after noteAmax_agree rfl).after noteCounts_agree rfl).after noteStorm_agree rfl

theorem storeOutput_frondsKept {s : State} (c : Ctx) (r : VRun) (slot : Nat) (d : Desc) :
    FrondsKept s (storeOutput s c r slot d) := by
  unfold storeOutput
  extract_lets t
  split
  · have hq : FrondsKept s (quantLines s c d [] (storedPieces d r.draw slot r.poisoned t)).1 := quantLines_frondsKept _ _ _ _
    exact hq.trans (commitWrites_frondsKept _ _ _)
  · exact commitWrites_frondsKept _ _ _

/-- One of a run's outputs is stored. -/
def storeRunOutput (c : Ctx) (r : VRun) (s : State) (k : Nat) : State :=
  match r.cfg.outs.getD k none with | some d => storeOutput s c r k d | none => s

theorem storeRunOutput_frondsKept {s : State} (c : Ctx) (r : VRun) (k : Nat) :
    FrondsKept s (storeRunOutput c r s k) := by
  unfold storeRunOutput
  split
  · exact storeOutput_frondsKept _ _ _ _
  · exact .refl _

theorem finishRun_frondsKept {s : State} (c : Ctx) (r : VRun) : FrondsKept s (finishRun s c r).1 := by
  unfold finishRun
  extract_lets c' store s2 bad
  have h0 : FrondsKept s (store s 0) := storeRunOutput_frondsKept c' r 0
  have h2 : FrondsKept s s2 := h0.trans (storeRunOutput_frondsKept c' r 1)
  split
  · exact h2.after recordFault_agree rfl
  · exact h2

end Sys2Proof.Proofs
end

section
/-! SUPPORT. LOAD_PROGRAM and VECTOR_RUN (R192 to R210). -/

namespace Sys2Proof.Proofs

open Sys2Proof Sys2Proof.Machine Sys2Proof.Safety Sys2Proof.Frame Sys2Proof.Claims Sys2Proof.Laws

theorem modFrond_mem (s : State) (f : Nat) (g : FrondSt → FrondSt) : (modFrond s f g).mem = s.mem := rfl

/-- A LOAD_PROGRAM that goes through binds its handle to the program parsed from memory, as the last binding. -/
theorem loadBody_of_accepts {c : Ctx} {s : State} {e : List Byte} (hs : TablesOk s) (h : Accepts (loadBody c s e)) :
    let hd : W64 := BitVec.ofNat 64 (readNat s (p64 e 40) 8)
    ∃ s1 bad pr, loadBody c s e = .poisoned s1 stOK bad ∧
      parseProgram hd ((List.range (bitsOf hd.toNat 7 11)).map (fun i =>
        BitVec.ofNat 64 (readNat s (p64 e 40 + 8 + 8 * i) 8))) = some pr ∧
      (getFrond s1 c.f).progs.getLast? = some ⟨p8 e 32, c.n, pr⟩ ∧ s1.mem = s.mem := by
  obtain ⟨s1, st, d, k, w, h⟩ := h
  generalize hv : loadBody c s e = v at h
  subst h
  unfold loadBody at hv
  dsimp only at hv ⊢
  have hv := else_eq_effect (else_eq_effect (else_eq_effect hv (fun h => nomatch h)) (fun h => nomatch h)) (fun h => nomatch h)
  split at hv
  · exact nomatch hv
  next pr hpr =>
    have hv := else_eq_effect hv (fun h => nomatch h)
    refine ⟨_, _, pr, hv.symm, hpr, ?_, (modFrond_mem ..).trans (readUnits_agree.area .mem rfl)⟩
    rw [getFrond_modFrond_same (readUnits_agree.tabOk hs)]
    exact List.getLast?_concat ..

/-- What a VECTOR_RUN that starts run `r` does: the run stands at its first bundle, or runs as a whole. -/
def vectorEffect (c : Ctx) (whole : Bool) (s : State) (r : VRun) : Verdict :=
  let s0 := { s with free := s.free + 1 }
  if whole then
    let x := finishRun (runWhole c.f s0 r).1 c (runWhole c.f s0 r).2
    .effect x.1 x.2.1 0 x.2.2 .done
  else .effect (modFrond s0 c.f (fun x => { x with vrun := some (nextBundle r) })) stOK 0 false .vector

/-- A VECTOR_RUN with elements that goes through starts the run of its bound program. -/
theorem vectorBody_of_accepts {c : Ctx} {whole : Bool} {s : State} {e : List Byte} (h : Accepts (vectorBody c whole s e))
    (hcount : ∀ d, ((vrunHandles e).map (vrunDesc s c)).getD 4 none = some d → d.count ≠ 0) :
    ∃ pr d0, boundProg (getFrond s c.f) (p8 e 32) c.n = some pr ∧ ((vrunHandles e).map (vrunDesc s c)).getD 4 none = some d0 ∧
      vectorBody c whole s e = vectorEffect c whole s (vrunStart s c e pr ((vrunHandles e).map (vrunDesc s c)) d0) := by
  obtain ⟨s1, st, d, k, w, h⟩ := h
  generalize hv : vectorBody c whole s e = v at h
  subst h
  unfold vectorBody at hv
  extract_lets +onlyGivenNames hs ds named uses at hv
  split at hv
  · exact nomatch hv
  split at hv
  case _ pr d0 hpr hd0 =>
    have hv := else_eq_effect hv (fun h => nomatch h)
    rw [if_neg (hcount d0 hd0)] at hv
    have hv := else_eq_effect hv (fun h => nomatch h)
    have hv := else_eq_effect hv (fun h => nomatch h)
    have hv := else_eq_effect hv (fun h => nomatch h)
    have hv := else_eq_effect hv (fun h => nomatch h)
    have hv := else_eq_effect hv (fun h => nomatch h)
    exact ⟨pr, d0, hpr, hd0, hv.symm⟩
  · exact nomatch hv

theorem keep_eq_effect {c : Ctx} {v : Verdict} {s1 : State} {st d : Nat} {k : Bool} {w : WaitFor} (h : v = .effect s1 st d k w) :
    v.keep c = .effect (keepCmd s1 c.p c.q c.n c.mb c.e) st d k w := by
  rw [h]
  rfl

/-- Settles O23: the verdicts of the two commands, and that the store path keeps the run that stands in a frond. -/
theorem programsLoadAndRun : Obligations.ProgramsLoadAndRun := by
  refine ⟨fun f n s hs hfree => ?_, fun f n mb s hs hfree => ?_, fun f n mb s hs hfree => ?_⟩
  · intro e s0 hd haccepts
    have hs0 : TablesOk s0 := atBody_tablesOk _ _ hs
    obtain ⟨s1, bad, pr, hbody, hparse, hprog, hmem⟩ := loadBody_of_accepts hs0 haccepts
    exact ⟨s1, _, bad, pr, congrArg Host.Outcome.next (runEntry_eq_issued hfree rfl hbody), by split <;> simp, hparse, hprog,
      hmem.trans (atBody_mem s _ n)⟩
  · intro e c s0 ds haccepts hcount
    have hs0 : TablesOk s0 := atBody_tablesOk _ _ hs
    obtain ⟨pr, d0, hpr, hd0, hbody⟩ := vectorBody_of_accepts haccepts hcount
    have hkeep (t : State) : Agree 16384 t (keepCmd t c.p c.q c.n c.mb c.e) := keepCmd_agree
    let t : State := { s0 with free := s0.free + 1 }
    have ht : TablesOk t := ⟨hs0.regs, hs0.resets, hs0.queues, hs0.fronds, hs0.slots, hs0.parts, hs0.ports⟩
    refine ⟨_, pr, d0, congrArg Host.Outcome.next (runEntry_eq_issued hfree rfl (keep_eq_effect (c := c) hbody)), hpr, hd0, ?_, ?_⟩
    · rw [getFrond_of_fronds_eq ((hkeep _).area .fronds rfl)]
      exact congrArg FrondSt.vrun (getFrond_modFrond_same ht)
    · exact ((hkeep _).area .mem rfl).trans (atBody_mem s _ n)
  · intro e c s0 ds haccepts hcount
    have hs0 : TablesOk s0 := atBody_tablesOk _ _ hs
    obtain ⟨pr, d0, hpr, hd0, hbody⟩ := vectorBody_of_accepts haccepts hcount
    have hkeep (t : State) : Agree 16384 t (keepCmd t c.p c.q c.n c.mb c.e) := keepCmd_agree
    let t : State := { s0 with free := s0.free + 1 }
    have ht : TablesOk t := ⟨hs0.regs, hs0.resets, hs0.queues, hs0.fronds, hs0.slots, hs0.parts, hs0.ports⟩
    have hrun : TablesOk (runWhole f t (vrunStart s0 c e pr ds d0)).1 := runWhole_agree.tabOk ht
    refine ⟨_, _, _, pr, d0, _, _, congrArg Host.Outcome.next (runEntry_eq_issued hfree rfl (keep_eq_effect (c := c) hbody)), hpr,
      hd0, rfl, ?_, rfl, ?_⟩
    · exact (hkeep _).area .mem rfl
    · rw [getFrond_of_fronds_eq ((hkeep _).area .fronds rfl)]
      exact (finishRun_frondsKept _ _).vrun f

end Sys2Proof.Proofs
end

section
/-! SUPPORT. FUSED_SOFTMAX and SAMPLE (R211 to R220). -/

namespace Sys2Proof.Proofs

open Sys2Proof Sys2Proof.Machine Sys2Proof.Safety Sys2Proof.Frame Sys2Proof.Claims Sys2Proof.Laws

theorem poisoned_status {st : Nat} {bad : Prop} [Decidable bad] :
    (if bad then stPoison else st) = st ∨ (if bad then stPoison else st) = stPoison := by
  split
  · exact .inr rfl
  · exact .inl rfl

theorem sampleWrites_map {α : Type} (f : Nat) (d : Desc) (g : α → List Byte × Bool) (rs : List α) :
    sampleWrites f d (rs.map g) = (rs.zipIdx).foldl (fun w (r, i) => ((chunks d.elemSize (g r).1).zipIdx).foldl (fun w (b, k) =>
      wputs w (d.elemKey f (coordsOf d.ext (d.e 0 * i + k))) b (g r).2) w) [] := by
  unfold sampleWrites
  rw [List.zipIdx_map, List.foldl_map]
  rfl

/-- A SAMPLE that goes through: where it has rows, the records that it stores are those of `sampleRec`. -/
theorem sampleBody_of_accepts {c : Ctx} {s : State} {e : List Byte} (h : Accepts (sampleBody c s e)) :
    let d (h : Nat) : Desc := (readDesc s c.p h).localize s c.p
    ∃ s1 st k, sampleBody c s e = .effect s1 st 0 k .done ∧ (st = stOK ∨ st = stPoison) ∧
      ((d (p16 e 32)).count ≠ 0 → ∃ v, v.mem = s.mem ∧ s1 = commitWrites v c.f (sampleWrites c.f (d (p16 e 62))
        ((List.range (((d (p16 e 32)).ext.drop 1).foldl (· * ·) 1)).map (sampleRec s c e)))) := by
  obtain ⟨s1, st, d, k, w, h⟩ := h
  intro d
  generalize hv : sampleBody c s e = v at h
  subst h
  unfold sampleBody at hv
  extract_lets +onlyGivenNames hl hs flag hc ho a at hv
  split at hv
  · exact nomatch hv
  have hv := else_eq_effect hv (fun h => nomatch h)
  extract_lets +onlyGivenNames dl dq do_ rows at hv
  have hv := else_eq_effect hv (fun h => nomatch h)
  by_cases hcount : dl.count = 0
  · rw [if_pos hcount] at hv
    exact ⟨_, _, _, hv.symm, .inl rfl, fun h => absurd hcount h⟩
  · rw [if_neg hcount] at hv
    have hv := else_eq_effect hv (fun h => nomatch h)
    extract_lets +onlyGivenNames v rs s1 code s2 s3 s4 at hv
    refine ⟨_, _, _, hv.symm, poisoned_status, fun _ => ⟨s3, ?_, ?_⟩⟩
    · have hbumps : Agree 32 s1 s3 :=
        bump_agree.after rfl (bump_agree.after rfl (bump_agree.after rfl bumpRows_agree))
      exact (hbumps.area .mem rfl).trans (readUnits_agree.area .mem rfl)
    · have hrec : (List.range rows).map (sampleRec s c e) = rs.map (fun r => (r.2.1, r.2.2.1)) := by
        unfold rs
        rw [List.map_map]
        rfl
      have hout : d (p16 e 62) = do_ := rfl
      have hrows : ((d (p16 e 32)).ext.drop 1).foldl (· * ·) 1 = rows := rfl
      rw [hout, hrows, hrec, sampleWrites_map]

/-- The rows of a FUSED_SOFTMAX (R211, R212). -/
def softmaxRows (c : Ctx) (s : State) (e : List Byte) : List SmxRow :=
  let d (h : Nat) : Desc := (readDesc s c.p h).localize s c.p
  let din := d (p16 e 32)
  (List.range ((din.ext.drop 1).foldl (· * ·) 1)).map (smxRow s c din ((readScale s c.p din).getD one32)
    (if p16 e 34 = 0xFFFF then none else some (d (p16 e 34)))
    (if p8 e 36 = 0 then none else some (BitVec.ofNat 32 (p32 e 40) : W32).toInt) (BitVec.ofNat 32 (p32 e 44)))

/-- A FUSED_SOFTMAX that goes through: where it has elements and its one output is a wide OUT, it stores the probabilities. -/
theorem softmaxBody_of_accepts {c : Ctx} {s : State} {e : List Byte} (h : Accepts (softmaxBody c s e)) :
    let d (h : Nat) : Desc := (readDesc s c.p h).localize s c.p
    let din := d (p16 e 32)
    let rs := softmaxRows c s e
    let outs := rs.map (fun r => softmaxRow r.z)
    ∃ s1 st k, softmaxBody c s e = .effect s1 st 0 k .done ∧ (st = stOK ∨ st = stFormat ∨ st = stPoison) ∧
      (din.count ≠ 0 → p16 e 48 ≠ 0xFFFF → (d (p16 e 48)).blocked = false → p16 e 50 = 0xFFFF → p16 e 52 = 0xFFFF →
        s1.mem = (commitWrites (bumpRows (countReads (readUnits s (dedupNat (rs.flatMap (·.units)))) c.f din.fam
            (rs.flatMap (·.reads))).1 c.f (rs.map (fun r => rowOrder r.z))) c.f
          (((outs.zip rs).zipIdx).foldl (fun w (o, i) => (o.1.1.zipIdx).foldl (fun w (v, j) =>
            putWide w (d (p16 e 48)) c.f (coordsOf (d (p16 e 48)).ext (i * (d (p16 e 48)).e 0 + j)) v o.2.poison) w) [])).mem) := by
  obtain ⟨s1, st, k, b, w, h⟩ := h
  intro d din
  generalize hv : softmaxBody c s e = v at h
  subst h
  unfold softmaxBody at hv
  extract_lets +onlyGivenNames hIn hMask hOut hLse hEmpty scale causal opt din' rows uses at hv
  split at hv
  · exact nomatch hv
  have hv := else_eq_effect hv (fun h => nomatch h)
  extract_lets +onlyGivenNames same at hv
  have hv := else_eq_effect hv (fun h => nomatch h)
  have hv := else_eq_effect hv (fun h => nomatch h)
  have hv := else_eq_effect hv (fun h => nomatch h)
  intro rs outs
  have hdin : din = din' := rfl
  by_cases hcount : din'.count = 0
  · rw [if_pos hcount] at hv
    exact ⟨_, _, _, hv.symm, .inl rfl, fun h => absurd (hdin ▸ hcount) h⟩
  rw [if_neg hcount] at hv
  have hv := else_eq_effect hv (fun h => nomatch h)
  extract_lets +onlyGivenNames one rs' outs' orders s1 at hv
  have hrs : rs' = rs := rfl
  rcases hcr : countReads s1 c.f din'.fam (rs'.flatMap (·.reads)) with ⟨s2, badG⟩
  rw [hcr] at hv
  dsimp -zeta only at hv
  extract_lets +onlyGivenNames s3 per cost s4 s5 dEmpty kEmpty badEmpty s6 at hv
  refine ⟨_, _, _, hv.symm, ?_, fun _ hout hwide hlse hempty => ?_⟩
  · split
    · exact .inr poisoned_status
    · exact poisoned_status.imp_right .inr
  · have h6 : s6 = s5 := if_pos hempty
    have h5 : s5 = s4 := by
      unfold s5
      rw [show opt hLse = none from if_pos hlse]
    have h4 : s4 = commitWrites s3 c.f (((outs'.zip rs').zipIdx).foldl (fun w (o, i) => (o.1.1.zipIdx).foldl (fun w (v, j) =>
        putWide w (d hOut) c.f (coordsOf (d hOut).ext (i * (d hOut).e 0 + j)) v o.2.poison) w) []) := by
      unfold s4
      rw [show opt hOut = some (d hOut) from if_neg hout]
      exact if_neg (ne_true_of_eq_false hwide)
    have hs2 : s2 = (countReads s1 c.f din'.fam (rs'.flatMap (·.reads))).1 := by rw [hcr]
    rw [hrs] at hs2
    have hmem : (bump s6 FRD_VEC_BUSY_ISSUE_CYCLES c.f cost).mem = s6.mem := bump_agree.area .mem rfl
    refine hmem.trans ?_
    rw [h6, h5, h4]
    unfold s3
    rw [hs2]
    rfl

/-- Settles O24: what each command stores where it goes through. -/
theorem softmaxAndSample : Obligations.SoftmaxAndSample := by
  refine ⟨fun f n mb s hfree => ?_, fun f n s hfree => ?_⟩
  · intro e c s0 d din rows causal mask rs outs haccepts
    have hkeep (t : State) : (keepCmd t c.p c.q c.n c.mb c.e).mem = t.mem := keepCmd_agree.area .mem rfl
    obtain ⟨s1, st, k, hbody, hst, hmem⟩ := softmaxBody_of_accepts haccepts
    refine ⟨_, st, k, congrArg Host.Outcome.next (runEntry_eq_issued hfree rfl (keep_eq_effect (c := c) hbody)), hst, ?_⟩
    rw [hkeep]
    exact hmem
  · intro e c s0 d haccepts
    have hkeep (t : State) : (keepCmd t c.p c.q c.n c.mb c.e).mem = t.mem := keepCmd_agree.area .mem rfl
    obtain ⟨s1, st, k, hbody, hst, hmem⟩ := sampleBody_of_accepts haccepts
    refine ⟨_, st, k, congrArg Host.Outcome.next (runEntry_eq_issued hfree rfl (keep_eq_effect (c := c) hbody)), hst, fun hcount => ?_⟩
    obtain ⟨v, hv, hs1⟩ := hmem hcount
    exact ⟨v, hv.trans (atBody_mem s _ n), (hkeep s1).trans (congrArg State.mem hs1)⟩

end Sys2Proof.Proofs
end

section
/-! SUPPORT. STREAM_COPY (R265 to R268, R282, R301). -/

namespace Sys2Proof.Proofs

open Sys2Proof Sys2Proof.Machine Sys2Proof.Safety Sys2Proof.Frame Sys2Proof.Claims Sys2Proof.Laws

/-- A STREAM_COPY of a destination that this device holds whole. -/
theorem copyBody_of_runs {c : Ctx} {s : State} {e : List Byte} (h : CopyRuns c s e) :
    let a := parseCopy e
    let d := (readDesc s c.p a.src).localize s c.p
    let t := (readDesc s c.p a.dst).localize s c.p
    copyBody c s e =
      if a.croz = 0 then .ok (if t.blocked then copyQuant s c d t else copyPlain s c d t)
      else .poisoned (copyCroz s c d t a.shift).1 stOK (copyCroz s c d t a.shift).2 := by
  unfold CopyRuns at h
  dsimp only at h ⊢
  obtain ⟨hvalid, hkeep, hcroz, hshift, hshape0, hshape, hspread, hpair, hdc, htc, hleaves, hrot⟩ := h
  generalize hv : copyBody c s e = v
  unfold copyBody at hv
  dsimp only at hv
  rw [hvalid] at hv
  dsimp -zeta only at hv
  rw [if_neg (by rw [hkeep]; decide), if_neg ?params, if_neg (by rw [hpair]; decide), if_neg hdc, if_neg (by rw [hspread]; decide),
    if_neg htc, if_neg ?bounds, if_neg ?pads, if_neg ?pieces, if_neg ?room] at hv
  case params =>
    rintro (h | ⟨h0, h⟩ | h | ⟨h, -⟩)
    · exact absurd h (Nat.not_lt.2 hcroz)
    · obtain ⟨x, hx, hne⟩ := List.any_eq_true.1 h
      exact absurd (hshift h0 x hx) (by simpa using hne)
    · exact h hshape0
    · exact h hshape
  case bounds => exact fun h => (hleaves h.1).1 h.2
  case pads => exact fun h => h.2.2.2 ((hleaves h.1).2 h.2.1 h.2.2.1)
  case pieces => exact fun h => (((hrot h.1).1 h.2.1).elim h.2.2.1 h.2.2.2)
  case room => exact fun h => Bool.false_ne_true (h.2.symm.trans (hrot h.1).2)
  exact hv.symm

/-! ### The fronds under a copy -/

theorem carryWrites_frondsKept {s : State} {c : Ctx} {halo : Bool} {x : State × WSet} (h : FrondsKept s x.1) :
    FrondsKept s (carryWrites c halo x) :=
  (h.trans (commitWrites_frondsKept _ _ _)).after bump_agree rfl

theorem copyPlain_frondsKept (s : State) (c : Ctx) (d t : Desc) : FrondsKept s (copyPlain s c d t) :=
  carryWrites_frondsKept (readUnits_frondsKept _)

theorem copyBlocks_frondsKept (s : State) (c : Ctx) (d t : Desc) : FrondsKept s (copyBlocks s c d t) :=
  carryWrites_frondsKept (readUnits_frondsKept _)

theorem copyQuant_frondsKept (s : State) (c : Ctx) (d t : Desc) : FrondsKept s (copyQuant s c d t) := by
  unfold copyQuant
  split
  · extract_lets s1 t1
    have h1 : FrondsKept s s1 := (FrondsKept.refl s).after ensureReloc_agree rfl
    split
    · exact h1.trans (copyBlocks_frondsKept s1 c _ t1)
    · exact h1.trans (copyPlain_frondsKept s1 c _ t1)
  · exact copyBlocks_frondsKept s c d t

theorem crozSet_frondsKept (s : State) (c : Ctx) (d t : Desc) (shift : List Int) : FrondsKept s (crozSet s c d t shift).1 := by
  unfold crozSet
  extract_lets el k lines all s1 bad
  have h1 : FrondsKept s s1 := (readUnits_frondsKept _).after bump_agree rfl
  split
  · exact h1.trans (quantLines_frondsKept _ _ _ _)
  split
  · exact h1
  · exact h1.after bump_agree rfl

theorem copyCroz_frondsKept (s : State) (c : Ctx) (d t : Desc) (shift : List Int) : FrondsKept s (copyCroz s c d t shift).1 :=
  (crozSet_frondsKept s c d t shift).trans (commitWrites_frondsKept _ _ _)

/-! ### Memory under a copy -/

theorem carryWrites_mem (c : Ctx) (halo : Bool) (x : State × WSet) :
    (carryWrites c halo x).mem = (commitWrites x.1 c.f x.2 halo).mem := bump_agree.area .mem rfl

theorem copyQuant_of_notMoved {s : State} {c : Ctx} {d t : Desc} (h : findReloc (getPart s c.p) d.slot d.baseM = none) :
    copyQuant s c d t = copyBlocks s c d t := by
  unfold copyQuant
  rw [h]

/-- Settles O25: the three forms of a copy, each of which stores through the store path. -/
theorem streamCopyStores : Obligations.StreamCopyStores := by
  intro f n mb s hfree e c s0 a d t els hruns
  have hkeep (u : State) : Agree 16384 u (keepCmd u c.p c.q c.n c.mb c.e) := keepCmd_agree
  have hkept {u : State} (h : FrondsKept s0 u) (g : Nat) :
      (getFrond (keepCmd u c.p c.q c.n c.mb c.e) g).slots = (getFrond s0 g).slots ∧
        (getFrond (keepCmd u c.p c.q c.n c.mb c.e) g).progs = (getFrond s0 g).progs :=
    ⟨(h.after (hkeep u) rfl).slots g, (h.after (hkeep u) rfl).progs g⟩
  have hmem {u : State} : (keepCmd u c.p c.q c.n c.mb c.e).mem = u.mem := (hkeep u).area .mem rfl
  have hqueues {u : State} : (keepCmd u c.p c.q c.n c.mb c.e).queues = u.queues := (hkeep u).area .queues rfl
  have hbody := copyBody_of_runs hruns
  dsimp only at hbody
  by_cases hcroz : a.croz = 0
  · have hne : a.croz = 1 → False := fun h => Nat.zero_ne_one (hcroz.symm.trans h)
    by_cases hblocked : t.blocked = true
    · have hcopy : copyBody c s0 e = .ok (copyQuant s0 c d t) := hbody.trans ((if_pos hcroz).trans (congrArg _ (if_pos hblocked)))
      refine ⟨_, _, _, congrArg Host.Outcome.next (runEntry_eq_issued hfree rfl (keep_eq_effect (c := c) hcopy)), .inl rfl,
        hqueues.trans (copyQuant_agree.area .queues rfl), hkept (copyQuant_frondsKept s0 c d t), fun _ h => ?_, fun _ _ hr => ?_,
        fun h => (hne h).elim⟩
      · exact absurd (h.symm.trans hblocked) Bool.false_ne_true
      · rw [hmem, copyQuant_of_notMoved hr]
        exact carryWrites_mem ..
    · have hcopy : copyBody c s0 e = .ok (copyPlain s0 c d t) := hbody.trans ((if_pos hcroz).trans (congrArg _ (if_neg hblocked)))
      refine ⟨_, _, _, congrArg Host.Outcome.next (runEntry_eq_issued hfree rfl (keep_eq_effect (c := c) hcopy)), .inl rfl,
        hqueues.trans (copyPlain_agree.area .queues rfl), hkept (copyPlain_frondsKept s0 c d t), fun _ _ => ?_,
        fun _ h => absurd h hblocked, fun h => (hne h).elim⟩
      rw [hmem]
      exact carryWrites_mem ..
  · have hcopy : copyBody c s0 e = .poisoned (copyCroz s0 c d t a.shift).1 stOK (copyCroz s0 c d t a.shift).2 :=
      hbody.trans (if_neg hcroz)
    exact ⟨_, _, _, congrArg Host.Outcome.next (runEntry_eq_issued hfree rfl (keep_eq_effect (c := c) hcopy)), poisoned_status,
      hqueues.trans (copyCroz_agree.area .queues rfl), hkept (copyCroz_frondsKept s0 c d t a.shift), fun h => absurd h hcroz,
      fun h => absurd h hcroz, fun _ => hmem⟩

end Sys2Proof.Proofs
end

section
/-! SUPPORT. UPDATE and EMIT_ONLY (R224 to R234). -/

namespace Sys2Proof.Proofs

open Sys2Proof Sys2Proof.Machine Sys2Proof.Safety Sys2Proof.Frame Sys2Proof.Claims Sys2Proof.Laws

/-- The clip factor of an UPDATE (R234). -/
def updateClip (c : Ctx) (s : State) (t : TensorCfg) (gv : W64) : W32 :=
  if t.clipMode = 0 then one32 else clipFactor gv (clipNormOf s c.p t)

/-- The finished run of an UPDATE, on the state once its mask has been read. -/
def updateRun (c : Ctx) (s : State) (e : List Byte) (t : TensorCfg) (pr : Prog) (gv : W64) : State × VRun :=
  let v := readUnits s (dedupNat (maskUnits s c.p c.f (p16 e 50) t.rows t.cols))
  runWhole c.f { v with free := v.free + 1 } (updStart s c t pr ((readDesc s c.p (p16 e 36)).localize s c.p)
    (activeSet s c.p t) (alternateSet s c.p t) (updateClip c s t gv))

/-- What an UPDATE without a lane fault makes of the state. -/
def updateLeft (c : Ctx) (s : State) (e : List Byte) (t : TensorCfg) (pr : Prog) (g : G2Rec) (gv : W64) : State :=
  let x := updateRun c s e t pr gv
  updFinish s x.1 c t (if p16 e 50 = 0xFFFF then none else some (readMask s c.p c.f (p16 e 50) t.rows t.cols)) x.2
    (activeSet s c.p t) (alternateSet s c.p t) (p8 e 48) g (!isFinite64 gv) (updateClip c s t gv)

/-- An UPDATE that goes through: a lane fault ends it with BOUNDS, and without one it updates its tensor. -/
theorem updateBody_of_runs {c : Ctx} {s : State} {e : List Byte} {t : TensorCfg} {pr : Prog} {g : G2Rec} {gv : W64}
    (h : UpdateRuns c s e t pr) (hg : finalG2 s c.p (p64 e 40) t.tensor = some g) (hgv : clipG s c.p (p64 e 40) t = some gv) :
    let x := updateRun c s e t pr gv
    let bad := !x.2.poisoned.isEmpty
    (∀ y, firstFault x.2.faults = some y → updateBody c s e = .effect (recordFault x.1 c.f y) stBounds 0 bad .done) ∧
    (firstFault x.2.faults = none → updateBody c s e =
      if (epochOf s c.p (p64 e 40)).isSome then
        .effect (updateLeft c s e t pr g gv) (if bad then stPoison else stOK) 0 bad (.epoch (p64 e 40))
      else .effect (updateLeft c s e t pr g gv) (confirmedStatus g bad) 0 bad .done) := by
  obtain ⟨ht, hupd, hmode, hemit, hkeep, hdrained, hvalid, hprog, hext, hslots, hfree⟩ := h
  intro x bad
  generalize hv : updateBody c s e = v
  unfold updateBody at hv
  extract_lets +onlyGivenNames emit hGrad hMask ep uses refuse at hv
  rw [ht] at hv
  dsimp -zeta only at hv
  have hparams : ¬((!t.updatable) = true ∨ p8 e 34 > 1 ∨ emit > 3 ∨ keepsTensor s c.p e t = true) := by
    rw [hupd, hmode, hkeep]
    rintro (h | h | h | h)
    · exact Bool.false_ne_true h
    · exact absurd h (by decide)
    · exact absurd h (Nat.not_lt.2 hemit)
    · exact Bool.false_ne_true h
  extract_lets +onlyGivenNames uses' at hv
  rw [if_neg hparams, show finalG2 s c.p ep t.tensor = some g from hg, show clipG s c.p ep t = some gv from hgv] at hv
  dsimp -zeta only at hv
  rw [if_neg (by rw [hdrained]; decide), show validate s c.p uses' = none from hvalid, hprog] at hv
  dsimp -zeta only at hv
  extract_lets +onlyGivenNames grad act alt at hv
  rw [if_neg ?shape, if_neg (by rw [hfree]; simp)] at hv
  case shape =>
    rw [hslots]
    exact fun h => h.elim (fun h => h hext) (fun h => Bool.false_ne_true h)
  extract_lets +onlyGivenNames clip mask sMask s0 bad' at hv
  have hrun : runWhole c.f s0 (updStart s c t pr grad act alt clip) = updateRun c s e t pr gv := rfl
  have hbad : bad' = bad := rfl
  rw [hbad, hrun] at hv
  subst hv
  refine ⟨fun y hy => ?_, fun hnone => ?_⟩
  · rw [show firstFault (updateRun c s e t pr gv).2.faults = some y from hy]
  · rw [show firstFault (updateRun c s e t pr gv).2.faults = none from hnone]
    rfl

/-- What a finished UPDATE leaves of the step: the tensor's record. -/
theorem updFinish_steps {s0 s : State} {c : Ctx} {t : TensorCfg} {mask : Option Mask} {r : VRun} {act alt : SetAddr} {emit : Nat}
    {g : G2Rec} {nonfin : Bool} {clip : W32} (h : TablesOk s) :
    let y := tblGet TensorStep.zero (getPart (updFinish s0 s c t mask r act alt emit g nonfin clip) c.p).steps t.tensor
    y.updated = true ∧ y.epoch = g.epoch ∧ y.g2 = g.g2 ∧ y.clip = clip ∧ y.masked = mask.isSome ∧ y.nonfinite = nonfin := by
  unfold updFinish
  extract_lets +onlyGivenNames n outs elem put w s1 inMask kept m w2 u2 nonfinOut dAlt vals s2 s3 s4
  have h1 : TablesOk s1 := commitWrites_agree.tabOk h
  have h2 : TablesOk s2 := by
    unfold s2
    split
    · exact emitCopy_agree.tabOk h1
    · exact h1
  have h3 : TablesOk s3 := by
    unfold s3
    split
    · exact emitCopy_agree.tabOk h2
    · exact h2
  have h4 : TablesOk s4 := bump_agree.tabOk (bump_agree.tabOk h3)
  unfold modPart
  rw [getPart_setPart_same h4]
  dsimp only
  rw [tblGet_tblSet_of_ne _ _ _ (fun hz => Bool.false_ne_true (congrArg TensorStep.updated hz).symm), if_pos rfl]
  exact ⟨rfl, rfl, rfl, rfl, rfl, rfl⟩

theorem updateLeft_steps {c : Ctx} {s : State} {e : List Byte} {t : TensorCfg} {pr : Prog} {g : G2Rec} {gv : W64}
    (h : TablesOk s) :
    let y := tblGet TensorStep.zero (getPart (updateLeft c s e t pr g gv) c.p).steps t.tensor
    y.updated = true ∧ y.epoch = g.epoch ∧ y.g2 = g.g2 ∧ y.clip = updateClip c s t gv ∧ y.masked = (p16 e 50 != 0xFFFF) ∧
      y.nonfinite = !isFinite64 gv := by
  have hx : TablesOk (updateRun c s e t pr gv).1 := by
    have hv : TablesOk (readUnits s (dedupNat (maskUnits s c.p c.f (p16 e 50) t.rows t.cols))) := readUnits_agree.tabOk h
    exact runWhole_agree.tabOk ⟨hv.regs, hv.resets, hv.queues, hv.fronds, hv.slots, hv.parts, hv.ports⟩
  obtain ⟨hu, he, hg, hc, hm, hn⟩ := updFinish_steps hx
  refine ⟨hu, he, hg, hc, hm.trans ?_, hn⟩
  split
  next hmask => rw [hmask]; rfl
  next hmask => rw [bne_iff_ne.2 hmask]; rfl

/-- An UPDATE without a mask and with EMIT 0 stores the elements that its program stored. -/
theorem updateLeft_mem {c : Ctx} {s : State} {e : List Byte} {t : TensorCfg} {pr : Prog} {g : G2Rec} {gv : W64}
    (hmask : p16 e 50 = 0xFFFF) (hemit : p8 e 48 = 0) :
    (updateLeft c s e t pr g gv).mem = (commitWrites (updateRun c s e t pr gv).1 c.f
      (updateWrites s c t (updateRun c s e t pr gv).2)).mem := by
  unfold updateLeft
  generalize updateRun c s e t pr gv = x
  dsimp only
  rw [if_pos hmask, hemit]
  unfold updFinish
  extract_lets +onlyGivenNames n outs elem put w s1 inMask kept m w2 u2 nonfinOut dAlt vals s2 s3 s4
  have h3 : s3 = s1 := rfl
  have h4 : s4.mem = s3.mem := (bump_agree.area .mem rfl).trans (bump_agree.area .mem rfl)
  have hw : w = updateWrites s c t x.2 := by
    have houts : outs.map (fun o => (o.1, o.2.2)) = [(0, masterDesc t (alternateSet s c.p t))] ++
        (if t.slots > 0 then [(1, stateDesc t (alternateSet s c.p t) 0)] else []) ++
        (if t.slots > 1 then [(2, stateDesc t (alternateSet s c.p t) 1)] else []) := by
      unfold outs
      simp only [List.map_append]
      congr 1 <;> split <;> rfl
    unfold w updateWrites
    dsimp only
    rw [← houts, List.foldl_map]
    congr 1
    funext w o
    congr 1
    funext w e
    unfold elem updElem put maskKeeps
    dsimp only
    cases tblFind (storesOf x.2 o.1) e <;> rfl
  have hmod : ∀ y, (modPart s4 c.p y).mem = s4.mem := fun _ => rfl
  rw [hmod, h4, h3, ← hw]

/-- The state before a run draws its free values. -/
theorem nextFree_agree (s : State) : Agree 1 s { s with free := s.free + 1 } :=
  Agree.updMk (Agree.refl _ _) (Nat.le_succ _) (flashUp_refl _) rfl rfl rfl ⟨rfl, rfl, rfl, rfl, rfl⟩
    (fun a h => by cases a <;> first | exact absurd h (by decide) | exact rfl | exact ⟨rfl, rfl⟩)

theorem updateRun_agree {c : Ctx} {s : State} {e : List Byte} {t : TensorCfg} {pr : Prog} {gv : W64} :
    Agree 5055009 s (updateRun c s e t pr gv).1 :=
  runWhole_agree.after rfl ((nextFree_agree _).after rfl (readUnits_agree.mono rfl))

/-- An EMIT_ONLY that goes through emits the copies called for (R230). -/
theorem emitBody_of_runs {c : Ctx} {s : State} {e : List Byte} {t : TensorCfg} (h : EmitRuns c s e t) :
    let fwd := bitOf (p8 e 48) 0 && emitCalled s c t true
    let bwd := bitOf (p8 e 48) 1 && emitCalled s c t false
    let s1 := if fwd then reemitCopy s c t true else s
    emitBody c s e = .poisoned (if bwd then reemitCopy s1 c t false else s1) stOK
      ((fwd || bwd) && rangePoison s (activeSet s c.p t).master (4 * t.rows * t.cols)) := by
  obtain ⟨ht, -, hemit, hkeep⟩ := h
  unfold emitBody
  dsimp only
  rw [ht]
  dsimp only
  rw [if_neg]
  rw [hkeep]
  exact fun h => h.elim (fun h => absurd h (Nat.not_lt.2 hemit)) Bool.false_ne_true

theorem exec_update_eq {f : Nat} {n : W32} {s : State} (h : p8 (entryBytes s (.frond f) n) 34 = 0) :
    exec (.update (.frond f) n) s =
      .next (runEntry (.frond f) n (· == 0x30) updateUsed (updateBody (ctxOf s (.frond f) n 0)) s) := by
  have hmode : isEmitOnly s (.frond f) n = false := by
    unfold isEmitOnly
    rw [h]
    rfl
  exact congrArg Host.Outcome.next (if_neg (ne_true_of_eq_false hmode))

theorem exec_emitOnly_eq {f : Nat} {n : W32} {s : State} (h : p8 (entryBytes s (.frond f) n) 34 = 1) :
    exec (.emitOnly (.frond f) n) s =
      .next (runEntry (.frond f) n (· == 0x30) updateUsed (emitBody (ctxOf s (.frond f) n 0)) s) := by
  have hmode : isEmitOnly s (.frond f) n = true := by
    unfold isEmitOnly
    rw [h]
    rfl
  exact congrArg Host.Outcome.next (if_pos hmode)

theorem atBody_parts (s : State) (q : QueueId) (n : W32) : (atBody s q n).parts = s.parts := (atBody_agree s q n).area .parts rfl

theorem getPart_of_parts_eq {s t : State} (h : t.parts = s.parts) (p : Nat) : getPart t p = getPart s p := by
  unfold getPart
  rw [h]

/-- Settles O26: the verdicts of the two commands. -/
theorem updateAndEmitOnly : Obligations.UpdateAndEmitOnly := by
  refine ⟨fun f n s t pr g gv hs hfree => ?_, fun f n s t hfree => ?_⟩
  · intro e c s0 ep clip v x bad hruns hg hgv
    have hs0 : TablesOk s0 := atBody_tablesOk _ _ hs
    obtain ⟨hfault, hdone⟩ := updateBody_of_runs hruns hg hgv
    rw [exec_update_eq hruns.2.2.1]
    cases hff : firstFault x.2.faults with
    | some y =>
      refine ⟨_, _, _, congrArg Host.Outcome.next (runEntry_eq_issued hfree rfl (hfault y hff)), fun _ _ => ⟨rfl, rfl, ?_, ?_⟩,
        fun h => nomatch h⟩
      · exact (recordFault_agree.area .mem rfl).trans ((updateRun_agree.area .mem rfl).trans (atBody_mem s _ n))
      · refine congrArg PartSt.steps (getPart_of_parts_eq ?_ c.p)
        exact (recordFault_agree.area .parts rfl).trans ((updateRun_agree.area .parts rfl).trans (atBody_parts s _ n))
    | none =>
      have hbody := hdone hff
      have hsteps := updateLeft_steps (c := c) (e := e) (t := t) (pr := pr) (g := g) (gv := gv) hs0
      have hmem := updateLeft_mem (c := c) (s := s0) (e := e) (t := t) (pr := pr) (g := g) (gv := gv)
      by_cases hopen : (epochOf s0 c.p (p64 e 40)).isSome = true
      · rw [if_pos hopen] at hbody
        refine ⟨_, _, _, congrArg Host.Outcome.next (runEntry_eq_issued hfree rfl hbody), (fun _ h => nomatch h), fun _ =>
          ⟨fun _ => ⟨rfl, rfl⟩, fun hclosed => ?_, hsteps, hmem⟩⟩
        exact absurd hopen (by rw [show epochOf s0 c.p (p64 e 40) = none from hclosed]; decide)
      · rw [if_neg hopen] at hbody
        exact ⟨_, _, _, congrArg Host.Outcome.next (runEntry_eq_issued hfree rfl hbody), (fun _ h => nomatch h), fun _ =>
          ⟨fun h => absurd h hopen, fun _ => ⟨rfl, rfl⟩, hsteps, hmem⟩⟩
  · intro e c s0 fwd bwd hruns
    have hbody := emitBody_of_runs hruns
    rw [exec_emitOnly_eq hruns.2.1]
    refine ⟨_, _, _, congrArg Host.Outcome.next (runEntry_eq_issued hfree rfl hbody), poisoned_status, fun hf hb => ?_,
      fun hf hb => ?_, fun hf hb => ?_, fun hf hb => ?_⟩ <;>
      simp only [show (bitOf (p8 e 48) 0 && emitCalled s0 c t true) = _ from hf,
        show (bitOf (p8 e 48) 1 && emitCalled s0 c t false) = _ from hb, if_true, Bool.false_eq_true, if_false, Bool.or_self,
        Bool.false_and, and_self]

end Sys2Proof.Proofs
end

section
/-! SUPPORT. Fields of registers: what a field reads after a field has been written. -/

namespace Sys2Proof.Proofs

open Sys2Proof Sys2Proof.Machine Sys2Proof.Safety Sys2Proof.Frame Sys2Proof.Claims Sys2Proof.Laws

theorem testBit_bitsOf (n lo w i : Nat) : (bitsOf n lo w).testBit i = (decide (i < w) && n.testBit (lo + i)) := by
  unfold bitsOf
  rw [Nat.testBit_mod_two_pow, Nat.testBit_div_two_pow, Nat.add_comm]

theorem bitsOf_lt (n lo w : Nat) : bitsOf n lo w < 2 ^ w := Nat.mod_lt _ (Nat.two_pow_pos w)

/-- A number as the bits above a field, the field and the bits below it. -/
theorem eq_above_field_below (n lo w : Nat) : n = 2 ^ lo * (2 ^ w * (n / 2 ^ lo / 2 ^ w) + bitsOf n lo w) + n % 2 ^ lo := by
  unfold bitsOf
  rw [Nat.div_add_mod, Nat.div_add_mod]

theorem putBits_eq (n lo w v : Nat) : putBits n lo w v = 2 ^ lo * (2 ^ w * (n / 2 ^ lo / 2 ^ w) + v % 2 ^ w) + n % 2 ^ lo := by
  have h := eq_above_field_below n lo w
  unfold putBits
  generalize bitsOf n lo w = b at h ⊢
  generalize 2 ^ w * (n / 2 ^ lo / 2 ^ w) = a at h ⊢
  generalize n % 2 ^ lo = r at h ⊢
  rw [h, Nat.mul_add, Nat.mul_add, Nat.mul_comm b, Nat.mul_comm (v % 2 ^ w)]
  omega

theorem testBit_putBits (n lo w v i : Nat) :
    (putBits n lo w v).testBit i = if lo ≤ i ∧ i < lo + w then v.testBit (i - lo) else n.testBit i := by
  have hn := eq_above_field_below n lo w
  rw [putBits_eq, Nat.testBit_two_pow_mul_add _ (Nat.mod_lt _ (Nat.two_pow_pos lo))]
  conv => rhs; rw [hn, Nat.testBit_two_pow_mul_add _ (Nat.mod_lt _ (Nat.two_pow_pos lo))]
  rw [Nat.testBit_two_pow_mul_add _ (Nat.mod_lt _ (Nat.two_pow_pos w)), Nat.testBit_two_pow_mul_add _ (bitsOf_lt n lo w)]
  by_cases hlo : i < lo
  · simp only [hlo, if_true]
    rw [if_neg (by omega)]
  · by_cases hw : i - lo < w
    · simp only [hlo, hw, if_true, if_false]
      rw [if_pos (by omega), Nat.testBit_mod_two_pow, decide_eq_true hw, Bool.true_and]
    · simp only [hlo, hw, if_false]
      rw [if_neg (by omega)]

theorem bitsOf_putBits_same (n lo w v : Nat) : bitsOf (putBits n lo w v) lo w = v % 2 ^ w := by
  refine Nat.eq_of_testBit_eq fun i => ?_
  rw [testBit_bitsOf, testBit_putBits, Nat.testBit_mod_two_pow, Nat.add_sub_cancel_left]
  by_cases h : i < w
  · rw [if_pos (by omega)]
  · simp only [h, decide_false, Bool.false_and]

theorem bitsOf_putBits_ne {n lo w v lo' w' : Nat} (h : lo' + w' ≤ lo ∨ lo + w ≤ lo') :
    bitsOf (putBits n lo w v) lo' w' = bitsOf n lo' w' := by
  refine Nat.eq_of_testBit_eq fun i => ?_
  rw [testBit_bitsOf, testBit_bitsOf, testBit_putBits]
  by_cases hi : i < w'
  · rw [if_neg (by omega)]
  · simp only [hi, decide_false, Bool.false_and]

theorem putBits_lt {n lo w v k : Nat} (hn : n < 2 ^ k) (hw : lo + w ≤ k) : putBits n lo w v < 2 ^ k := by
  refine Nat.lt_pow_two_of_testBit _ fun i hi => ?_
  rw [testBit_putBits, if_neg (by omega)]
  exact Nat.testBit_lt_two_pow (Nat.lt_of_lt_of_le hn (Nat.pow_le_pow_right (by decide) hi))

/-- A register after one of its fields has been written. -/
theorem getReg_setF_same {s : State} {f : Fld} {i v : Nat} (h : TablesOk s) (hf : f.lo + f.width ≤ 64) :
    (getReg (setF s f i v) (f.at i)).toNat = putBits (getReg s (f.at i)).toNat f.lo f.width v := by
  unfold setF
  rw [getReg_setReg_same h, BitVec.toNat_ofNat, Nat.mod_eq_of_lt (putBits_lt (BitVec.isLt _) hf)]

theorem getF_setF_same {s : State} {f : Fld} {i v : Nat} (h : TablesOk s) (hf : f.lo + f.width ≤ 64) :
    getF (setF s f i v) f i = v % 2 ^ f.width := by
  unfold getF
  rw [getReg_setF_same h hf, bitsOf_putBits_same]

/-- Another register keeps its fields. -/
theorem getF_setF_ne {s : State} {f g : Fld} {i j v : Nat} (h : TablesOk s) (hne : g.at j ≠ f.at i) :
    getF (setF s f i v) g j = getF s g j := by
  unfold getF setF
  rw [getReg_setReg_ne h hne]

/-- Another field of the same register is as it was. -/
theorem getF_setF_beside {s : State} {f g : Fld} {i j v : Nat} (h : TablesOk s) (hf : f.lo + f.width ≤ 64) (hat : g.at j = f.at i)
    (hoff : g.lo + g.width ≤ f.lo ∨ f.lo + f.width ≤ g.lo) : getF (setF s f i v) g j = getF s g j := by
  unfold getF
  rw [hat, getReg_setF_same h hf, bitsOf_putBits_ne hoff]

theorem getF_of_regs_eq {s t : State} (h : t.regs = s.regs) (f : Fld) (i : Nat) : getF t f i = getF s f i := by
  unfold getF getReg
  rw [h]

end Sys2Proof.Proofs
end

section
/-! SUPPORT. STEP_COMMIT (R34, R35, R238, R240, R269). -/

namespace Sys2Proof.Proofs

open Sys2Proof Sys2Proof.Machine Sys2Proof.Safety Sys2Proof.Frame Sys2Proof.Claims Sys2Proof.Laws

theorem leNat_lt (l : List Byte) : leNat l < 2 ^ (8 * l.length) := by
  induction l with
  | nil => exact Nat.one_pos
  | cons b l ih =>
    rw [List.length_cons, Nat.mul_succ, Nat.pow_add, leNat]
    have hb := b.isLt
    omega

theorem sliceB_length (l : List Byte) (o n : Nat) : (sliceB l o n).length = n := by
  unfold sliceB
  simp only [List.length_append, List.length_replicate, List.length_take]
  omega

theorem leAt_lt (l : List Byte) (o n : Nat) : leAt l o n < 2 ^ (8 * n) := by
  have h := leNat_lt (sliceB l o n)
  rwa [sliceB_length] at h

theorem getPart_modPart_same {s : State} {p : Nat} {g : PartSt → PartSt} (h : TablesOk s) :
    getPart (modPart s p g) p = g (getPart s p) := getPart_setPart_same h

theorem getPart_modPart_ne {s : State} {p j : Nat} {g : PartSt → PartSt} (h : TablesOk s) (hj : j ≠ p) :
    getPart (modPart s p g) j = getPart s j := getPart_setPart_ne h hj

/-- A partition's pad epoch, VERSION and selectors. -/
def stepKey (x : PartSt) : Nat × Nat × Tbl Nat := (x.padEpoch, x.version, x.select)

/-- From `s` to `t` partition `p` keeps its pad epoch, VERSION and selectors. -/
structure StepKeyKept (p : Nat) (s t : State) : Prop where
  tabOk : TablesOk t
  key : stepKey (getPart t p) = stepKey (getPart s p)

theorem StepKeyKept.refl {p : Nat} {s : State} (h : TablesOk s) : StepKeyKept p s s := ⟨h, rfl⟩

theorem StepKeyKept.after {p A : Nat} {s t u : State} (ha : Agree A t u) (hA : A.testBit Area.parts.idx = false)
    (h : StepKeyKept p s t) : StepKeyKept p s u :=
  ⟨ha.tabOk h.tabOk, (congrArg stepKey (getPart_of_parts_eq (ha.area .parts hA) p)).trans h.key⟩

theorem StepKeyKept.modPart {p : Nat} {s t : State} {g : PartSt → PartSt} (h : StepKeyKept p s t) (hg : ∀ x, stepKey (g x) = stepKey x) :
    StepKeyKept p s (modPart t p g) := by
  refine ⟨modPart_agree.tabOk h.tabOk, ?_⟩
  rw [getPart_modPart_same h.tabOk, hg]
  exact h.key

theorem stormReset_stepKeyKept {p : Nat} {s t : State} {step : Nat} (h : StepKeyKept p s t) :
    StepKeyKept p s (stormReset t p step) :=
  h.modPart fun _ => rfl

theorem appendAll_stepKeyKept {p : Nat} {s t : State} {step : Nat} (h : StepKeyKept p s t) : StepKeyKept p s (appendAll t p step) := by
  unfold appendAll
  split
  · exact h
  · exact h.modPart fun _ => rfl

theorem writeTrace_stepKeyKept {p : Nat} {s t : State} {step : Nat} (h : StepKeyKept p s t) :
    StepKeyKept p s (writeTrace t p step) := by
  unfold writeTrace
  extract_lets e
  split
  · split
    · exact h
    · exact (h.after writeBytes_agree rfl).modPart fun _ => rfl
  · exact h

theorem writeNorms_stepKeyKept {p : Nat} {s t : State} {step : Nat} {skipped : Nat → Bool} (h : StepKeyKept p s t) :
    StepKeyKept p s (writeNorms t p step skipped).1 := by
  unfold writeNorms
  extract_lets +onlyGivenNames x ts recs
  split
  · exact h
  · extract_lets +onlyGivenNames usable last s1
    have h1 : StepKeyKept p s s1 := by
      unfold s1
      split
      · exact h
      · exact h.after writeBytes_agree rfl
    dsimp only
    exact h1.modPart fun _ => rfl

theorem skipStep_stepKeyKept {p : Nat} {s : State} {step : Nat} (h : TablesOk s) : StepKeyKept p s (skipStep s p step) := by
  unfold skipStep
  exact (stormReset_stepKeyKept ((StepKeyKept.refl h).after bump_agree rfl)).modPart fun _ => rfl

/-- The selectors once the updated tensors have changed sides (R228). -/
def flippedSelect (x : PartSt) : Tbl Nat :=
  ((x.steps.filter (fun y => y.2.updated)).map (·.1)).foldl (fun l t => tblSet 0 l t (1 - tblGet 0 l t)) x.select

theorem acceptStep_stepKey {p : Nat} {s : State} {step : Nat} {bad : List Nat} (h : TablesOk s) :
    stepKey (getPart (acceptStep s p step bad) p) =
      ((getPart s p).padEpoch, (getPart s p).version, flippedSelect (getPart s p)) := by
  unfold acceptStep
  extract_lets +onlyGivenNames x upd s1 s2 idle kept flipped s3 scales
  have h1 : StepKeyKept p s s1 := by
    have hfold : Agree 5055264 s s1 := by
      refine Agree.foldl (fun t u ht => ?_) (Agree.refl _ _)
      split
      · exact copySet_agree.after rfl ht
      · exact ht
    exact (StepKeyKept.refl h).after hfold rfl
  have h3 : StepKeyKept p s s3 := stormReset_stepKeyKept (appendAll_stepKeyKept (h1.after bump_agree rfl))
  rw [getPart_modPart_same h3.tabOk]
  obtain ⟨hpad, hversion, hselect⟩ := Prod.ext_iff.1 h3.key |>.imp id Prod.ext_iff.1
  exact Prod.ext hpad (Prod.ext hversion (congrArg (upd.foldl _) hselect))

/-- The state of a commit before its drain (R240): the step's records are written and the partition has left the step. -/
def stepEnded (s : State) (p step : Nat) : State :=
  let x := getPart s p
  let bad := badTensors x
  let whole := !bad.isEmpty && !((partCfg s p).map (·.skipTensor)).getD false
  let upd := (x.steps.filter (fun y => y.2.updated)).map (·.1)
  let s2 := if whole then skipStep s p step else acceptStep s p step bad
  let s3 := logWarm s2 p (warmSlots s p) step
  let s4 := writeTrace s3 p step
  let x5 := writeNorms s4 p step (fun t => if whole then upd.contains t else bad.contains t)
  let trace := traceEntry s3 p step
  modPart (setF x5.1 ANC_STEP_COUNT_STEP p step) p (fun y =>
    let z := endStep y s.counter
    if whole then { z with traces := z.traces ++ [trace] }
    else { z with version := step, peatSnap := z.snap, snap := ⟨y.hist, y.scales, x5.2⟩
                  traces := z.traces ++ [trace] })

theorem stepEnded_leaves {s : State} {p step : Nat} (h : TablesOk s) (hstep : step < 2 ^ 64) :
    let x := getPart s p
    let whole := !(badTensors x).isEmpty && !((partCfg s p).map (·.skipTensor)).getD false
    let y := getPart (stepEnded s p step) p
    getF (stepEnded s p step) ANC_STEP_COUNT_STEP p = step ∧ y.padEpoch = (x.padEpoch + 1) % 2 ^ 64 ∧
      y.version = (if whole then x.version else step) ∧ y.select = (if whole then x.select else flippedSelect x) ∧
      y.steps = [] ∧ y.storm = none ∧ y.cmds = [] := by
  intro x whole y
  unfold y stepEnded
  extract_lets +onlyGivenNames bad whole' upd s2 s3 s4 x5 trace
  have hwhole : whole' = whole := rfl
  have h2 : TablesOk s2 ∧ stepKey (getPart s2 p) = (x.padEpoch, x.version, if whole then x.select else flippedSelect x) := by
    unfold s2
    rw [hwhole]
    split
    · exact ⟨(skipStep_stepKeyKept h).tabOk, (skipStep_stepKeyKept h).key⟩
    · exact ⟨acceptStep_agree.tabOk h, acceptStep_stepKey h⟩
  obtain ⟨hs2, hkey2⟩ := h2
  have h5 : StepKeyKept p s2 x5.1 :=
    writeNorms_stepKeyKept (writeTrace_stepKeyKept ((StepKeyKept.refl hs2).after logWarm_agree rfl))
  have h6 : StepKeyKept p s2 (setF x5.1 ANC_STEP_COUNT_STEP p step) := h5.after setF_agree rfl
  obtain ⟨hpad, hversion, hselect⟩ := (Prod.ext_iff.1 (h6.key.trans hkey2)).imp id Prod.ext_iff.1
  rw [getPart_modPart_same h6.tabOk, hwhole]
  refine ⟨?_, ?_⟩
  · refine (getF_of_regs_eq rfl _ _).trans ((getF_setF_same h5.tabOk (by decide)).trans (Nat.mod_eq_of_lt hstep))
  generalize getPart (setF x5.1 ANC_STEP_COUNT_STEP p step) p = z at hpad hversion hselect
  by_cases hw : whole = true
  · simp only [hw, if_true] at hselect ⊢
    exact ⟨congrArg (fun n => (n + 1) % 2 ^ 64) hpad, hversion, hselect, rfl, rfl, rfl⟩
  · simp only [hw] at hselect ⊢
    exact ⟨congrArg (fun n => (n + 1) % 2 ^ 64) hpad, rfl, hselect, rfl, rfl, rfl⟩

theorem commitBody_of_step {c : Ctx} {s : State} {e : List Byte} (hstep : p64 e 32 = getF s ANC_STEP_COUNT_STEP c.p + 1)
    (hupd : updatesDone s c.p = true) (hdrain : drainDone s c.p = true) :
    let x := getPart s c.p
    let bad := badTensors x
    let whole := !bad.isEmpty && !((partCfg s c.p).map (·.skipTensor)).getD false
    let s7 := stepEnded s c.p (p64 e 32)
    let s8 := if whole then s7 else startDrain s7 c.p (p64 e 32) x.version ((x.steps.filter (fun y => y.2.updated)).map (·.1))
    commitBody c s e = .effect (setFbState (spillFullStart s8 (startCtx s8 c.p (c.n + 1))) c.p)
      (if !bad.isEmpty then stNonfinite else if x.storm.isSome then stStorm else stOK) 0 false .done := by
  intro x bad whole s7 s8
  unfold commitBody
  extract_lets +onlyGivenNames step p
  rw [if_neg (Classical.not_not.2 hstep), if_neg (by rw [hupd, hdrain]; decide)]
  rfl

/-- Settles O27: what the end of a step leaves of the partition, and the rejection of a STEP out of order. -/
theorem stepCommitEndsStep : Obligations.StepCommitEndsStep := by
  refine ⟨fun p n s hs hfree => ?_, fun p n s hfree hstep => ?_⟩
  · intro e s0 x bad whole upd hstep hupd hdrain
    have hbody := commitBody_of_step (c := ctxOf s (.anchor p) n 0) hstep hupd hdrain
    exact ⟨stepEnded s0 p (p64 e 32), _, rfl, congrArg Host.Outcome.next (runEntry_eq_issued hfree rfl hbody),
      stepEnded_leaves (atBody_tablesOk _ _ hs) (leAt_lt e 32 8)⟩
  · refine congrArg Host.Outcome.next (runEntry_eq_rejected hfree rfl ?_)
    exact if_pos hstep

end Sys2Proof.Proofs
end

section
/-! SUPPORT. Open epochs and their tensors: what they are once they have been opened and changed. -/

namespace Sys2Proof.Proofs

open Sys2Proof Sys2Proof.Machine Sys2Proof.Safety Sys2Proof.Frame Sys2Proof.Claims Sys2Proof.Laws

theorem mem_insertBy {α : Type} {le : α → α → Bool} {a b : α} {l : List α} : b ∈ insertBy le a l ↔ b = a ∨ b ∈ l := by
  induction l with
  | nil => simp [insertBy]
  | cons c l ih =>
    unfold insertBy
    split
    · exact List.mem_cons
    · rw [List.mem_cons, ih, List.mem_cons]
      exact or_left_comm

theorem mem_sortBy {α : Type} {le : α → α → Bool} {b : α} {l : List α} : b ∈ sortBy le l ↔ b ∈ l := by
  induction l with
  | nil => exact Iff.rfl
  | cons a l ih => rw [sortBy, mem_insertBy, ih, List.mem_cons]

theorem epochOf_of_parts_eq {s t : State} (h : t.parts = s.parts) (p e : Nat) : epochOf t p e = epochOf s p e := by
  unfold epochOf
  rw [getPart_of_parts_eq h]

theorem epochOf_epoch {s : State} {p e : Nat} {x : EpochSt} (h : epochOf s p e = some x) : x.epoch = e :=
  eq_of_beq (List.find?_some (p := fun y : EpochSt => y.epoch == e) h)

/-- A key that a map keeps finds the mapped entry. -/
theorem find?_map_of_key {α : Type} {key : α → Nat} {k : Nat} {f : α → α} (hf : ∀ a, key (f a) = key a) (l : List α) :
    (l.map (fun a => if key a = k then f a else a)).find? (fun a => key a == k) = (l.find? (fun a => key a == k)).map f := by
  induction l with
  | nil => rfl
  | cons a l ih =>
    rw [List.map_cons, List.find?_cons, List.find?_cons]
    by_cases ha : key a = k
    · rw [if_pos ha, hf, beq_iff_eq.2 ha]
      rfl
    · rw [if_neg ha, beq_eq_false_iff_ne.2 ha]
      exact ih

theorem epochOf_modEpoch {s : State} {p e : Nat} {f : EpochSt → EpochSt} (h : TablesOk s) (hf : ∀ x, (f x).epoch = x.epoch) :
    epochOf (modEpoch s p e f) p e = (epochOf s p e).map f := by
  unfold epochOf modEpoch
  rw [getPart_modPart_same h]
  exact find?_map_of_key hf _

theorem epochOf_modEpoch_some {s : State} {p e : Nat} {f : EpochSt → EpochSt} {x : EpochSt} (h : TablesOk s)
    (hx : epochOf s p e = some x) (hf : ∀ x, (f x).epoch = x.epoch) : epochOf (modEpoch s p e f) p e = some (f x) :=
  (epochOf_modEpoch h hf).trans (congrArg (Option.map f) hx)

theorem epochOf_modPart {s : State} {p e : Nat} {g : PartSt → PartSt} (h : TablesOk s) (hg : ∀ x, (g x).epochs = x.epochs) :
    epochOf (modPart s p g) p e = epochOf s p e := by
  unfold epochOf
  rw [getPart_modPart_same h, hg]

theorem tensorOf_tensor {x : EpochSt} {n : Nat} {t : RedTensor} (h : x.tensorOf n = some t) : t.tensor = n :=
  eq_of_beq (List.find?_some (p := fun y : RedTensor => y.tensor == n) h)

/-- An epoch with tensor `n` changed by `f`. -/
def withTensor (n : Nat) (f : RedTensor → RedTensor) (x : EpochSt) : EpochSt :=
  { x with tensors := x.tensors.map (fun y => if y.tensor = n then f y else y) }

theorem tensorOf_withTensor {n : Nat} {f : RedTensor → RedTensor} {x : EpochSt} {t : RedTensor} (ht : x.tensorOf n = some t)
    (hf : ∀ t, (f t).tensor = t.tensor) : (withTensor n f x).tensorOf n = some (f t) :=
  (find?_map_of_key hf _).trans (congrArg (Option.map f) ht)

theorem epochOf_modTensor {s : State} {p e n : Nat} {f : RedTensor → RedTensor} {x : EpochSt} (h : TablesOk s)
    (hx : epochOf s p e = some x) : epochOf (modTensor s p e n f) p e = some (withTensor n f x) :=
  epochOf_modEpoch_some h hx fun _ => rfl

/-- An epoch is open once it has been opened, and an open one is as it was. -/
theorem epochOf_openEpoch {s : State} {p e : Nat} (h : TablesOk s) :
    epochOf (openEpoch s p e) p e = some ((epochOf s p e).getD (EpochSt.opened e s.counter)) := by
  unfold openEpoch
  cases hx : epochOf s p e with
  | some x =>
    exact hx
  | none =>
    rw [if_neg (show ¬(none : Option EpochSt).isSome = true from Bool.false_ne_true)]
    unfold epochOf
    rw [getPart_modPart_same h]
    have hnone := List.find?_eq_none.1 hx
    have hmem : EpochSt.opened e s.counter ∈ sortBy (fun a b => decide (a.epoch ≤ b.epoch))
        (EpochSt.opened e s.counter :: (getPart s p).epochs) := mem_sortBy.2 List.mem_cons_self
    cases hf : (sortBy (fun a b => decide (a.epoch ≤ b.epoch)) (EpochSt.opened e s.counter :: (getPart s p).epochs)).find?
        (fun x => x.epoch == e) with
    | none => exact absurd (beq_self_eq_true e) (List.find?_eq_none.1 hf _ hmem)
    | some y =>
      rcases List.mem_cons.1 (mem_sortBy.1 (List.mem_of_find?_eq_some hf)) with rfl | hy
      · rfl
      · exact absurd (List.find?_some hf) (hnone y hy)

/-- Two tensors are the same but for the norms that have arrived. -/
def sameButNorms (t u : RedTensor) : Prop := { u with norms := t.norms } = t

/-- RED_NORM leaves of an open epoch everything but the norms of its tensor. -/
theorem epochOf_maybeNorm {s : State} {p e n : Nat} {x : EpochSt} {t : RedTensor} (h : TablesOk s) (hx : epochOf s p e = some x)
    (ht : x.tensorOf n = some t) :
    ∃ y u, epochOf (maybeNorm s p e n) p e = some y ∧ y.tensorOf n = some u ∧ sameButNorms t u := by
  unfold maybeNorm
  rw [hx]
  dsimp only
  rw [ht]
  dsimp only
  have hset (v : W64) : epochOf (modTensor s p e n (fun y => { y with norms := tblPut y.norms t.me (some v) })) p e =
      some (withTensor n (fun y => { y with norms := tblPut y.norms t.me (some v) }) x) := epochOf_modTensor h hx
  have htensor (v : W64) : (withTensor n (fun y => { y with norms := tblPut y.norms t.me (some v) }) x).tensorOf n =
      some { t with norms := tblPut t.norms t.me (some v) } := tensorOf_withTensor ht fun _ => rfl
  split
  · exact ⟨x, t, hx, ht, rfl⟩
  · split
    · exact ⟨_, _, hset _, htensor _, rfl⟩
    · refine ⟨_, _, (epochOf_of_parts_eq ?_ p e).trans (hset t.g2.value), htensor _, rfl⟩
      exact (Agree.foldl (A := 65536) (fun _ _ ha => redSend_agree.after rfl ha) (Agree.refl _ _)).area .parts rfl

end Sys2Proof.Proofs
end

section
/-! SUPPORT. RED_TENSOR, RED_CONTRIB and RED_CLOSE (R379 to R382, R396). -/

namespace Sys2Proof.Proofs

open Sys2Proof Sys2Proof.Machine Sys2Proof.Safety Sys2Proof.Frame Sys2Proof.Claims Sys2Proof.Laws

/-- The state once epoch `ep` is open with tensor `t`, and the messages that waited for it are this device's own (R379, R383). -/
def tensorDeclared (s : State) (p ep : Nat) (t : RedTensor) : State :=
  let s1 := modEpoch (openEpoch s p ep) p ep (fun x => { x with tensors := x.tensors ++ [t] })
  let low := ep % 2 ^ 32
  let mine (m : Msg) : Bool := bitsOf m.addr 0 32 == low && (decide (m.mtype > 0x43) || bitsOf m.addr 32 16 == t.tensor)
  let early := (getPart s1 p).early
  let s2 := modPart s1 p (fun x => { x with early := x.early.filter (fun m => !mine m) })
  { s2 with fabric := { s2.fabric with selfq := s2.fabric.selfq ++ (early.filter mine).map (fun m => (p, m)) } }

/-- A tensor as a RED_TENSOR entry declares it. -/
def DeclaredAs (c : Ctx) (s : State) (e : List Byte) (t : RedTensor) : Prop :=
  t.tensor = p16 e 40 ∧ t.group = p16 e 42 ∧ t.axis = p8 e 44 ∧ t.scatter = (p8 e 45 == 1) ∧ t.desc = readDesc s c.p (p16 e 46) ∧
  t.contribs = p16 e 48 ∧ t.written = [] ∧ t.passes = []

/-- A RED_TENSOR that goes through declares a tensor that its epoch does not hold yet. -/
theorem redTensorBody_of_accepts {c : Ctx} {s : State} {e : List Byte} (h : Accepts (redTensorBody c s e)) :
    ∃ t, DeclaredAs c s e t ∧ (epochOf s c.p (p64 e 32)).any (fun x => (x.tensorOf (p16 e 40)).isSome) = false ∧
      redTensorBody c s e = .effect (maybeNorm (setRedRegs (tensorDeclared s c.p (p64 e 32) t) c.p) c.p (p64 e 32) (p16 e 40))
        stOK 0 false (.epoch (p64 e 32)) := by
  obtain ⟨s1, st, d, k, w, h⟩ := h
  generalize hv : redTensorBody c s e = v at h
  subst h
  unfold redTensorBody at hv
  extract_lets +onlyGivenNames ep tn gr hd at hv
  have hv := else_eq_effect hv (fun h => nomatch h)
  split at hv
  · exact nomatch hv
  extract_lets +onlyGivenNames ex at hv
  by_cases hnew : (notAbove s c.p ep || ex.any (fun x => x.closed.isSome || (x.tensorOf tn).isSome)) = true
  · rw [if_pos hnew] at hv
    exact nomatch hv
  rw [if_neg hnew] at hv
  have hv := else_eq_effect hv (fun h => nomatch h)
  split at hv
  · exact nomatch hv
  extract_lets +onlyGivenNames who role at hv
  clear_value role
  rcases role with - | ⟨i, backup⟩
  · exact nomatch hv
  dsimp -zeta only at hv
  extract_lets +onlyGivenNames tc t at hv
  have hv := else_eq_effect hv (fun h => nomatch h)
  refine ⟨t, ⟨rfl, rfl, rfl, rfl, rfl, rfl, rfl, rfl⟩, ?_, hv.symm⟩
  have hex : (epochOf s c.p (p64 e 32)).any (fun x => x.closed.isSome || (x.tensorOf (p16 e 40)).isSome) = false :=
    (Bool.or_eq_false_iff.1 (Bool.not_eq_true _ ▸ hnew)).2
  cases hx : epochOf s c.p (p64 e 32) with
  | none => rfl
  | some x =>
    rw [hx] at hex
    exact (Bool.or_eq_false_iff.1 hex).2

/-- An epoch that has been open, or opens now. -/
def epochOr (s : State) (p ep : Nat) : EpochSt := (epochOf s p ep).getD (EpochSt.opened ep s.counter)

theorem tensorDeclared_agree {s : State} {p ep : Nat} {t : RedTensor} : Agree 81920 s (tensorDeclared s p ep t) := by
  unfold tensorDeclared
  extract_lets s1 low mine early s2
  have h2 : Agree 81920 s s2 := modPart_agree.after rfl (modEpoch_agree.after rfl (openEpoch_agree.mono rfl))
  clear_value s2
  exact Agree.updMk h2 (Nat.le_refl _) (flashUp_refl _) rfl rfl rfl ⟨rfl, rfl, rfl, rfl, rfl⟩
    (fun a h => by cases a <;> first | exact absurd h (by decide) | exact rfl | exact ⟨rfl, rfl⟩)

theorem epochOf_withFabric (s : State) (f : FabricSt) (p e : Nat) : epochOf { s with fabric := f } p e = epochOf s p e := rfl

theorem epochOf_tensorDeclared {s : State} {p ep : Nat} {t : RedTensor} (h : TablesOk s) :
    epochOf (tensorDeclared s p ep t) p ep = some { epochOr s p ep with tensors := (epochOr s p ep).tensors ++ [t] } := by
  have h0 : TablesOk (openEpoch s p ep) := openEpoch_agree.tabOk h
  have h1 : epochOf (modEpoch (openEpoch s p ep) p ep (fun x => { x with tensors := x.tensors ++ [t] })) p ep =
      some { epochOr s p ep with tensors := (epochOr s p ep).tensors ++ [t] } :=
    epochOf_modEpoch_some h0 (epochOf_openEpoch h) fun _ => rfl
  unfold tensorDeclared
  extract_lets s1 low mine early s2
  refine (epochOf_withFabric s2 _ p ep).trans ?_
  have hs1 : TablesOk s1 := modEpoch_agree.tabOk h0
  have hs2 : epochOf s2 p ep = epochOf s1 p ep := by
    unfold s2
    exact epochOf_modPart hs1 fun _ => rfl
  exact hs2.trans h1

theorem tensorOf_append {x : EpochSt} {t : RedTensor} (h : x.tensorOf t.tensor = none) :
    EpochSt.tensorOf { x with tensors := x.tensors ++ [t] } t.tensor = some t := by
  unfold EpochSt.tensorOf at h ⊢
  rw [List.find?_append, h]
  simp

/-- A RED_CLOSE that goes through closes its epoch with its count (R381). -/
theorem redCloseBody_of_accepts {c : Ctx} {s : State} {e : List Byte} (h : Accepts (redCloseBody c s e)) :
    redCloseBody c s e = .effect (maybeOk (setRedRegs (modEpoch (openEpoch s c.p (p64 e 32)) c.p (p64 e 32)
      (fun x => { x with closed := some (p16 e 40), since := s.counter })) c.p) c.p (p64 e 32)) stOK 0 false (.epoch (p64 e 32)) := by
  obtain ⟨s1, st, d, k, w, h⟩ := h
  generalize hv : redCloseBody c s e = v at h
  subst h
  unfold redCloseBody at hv
  extract_lets +onlyGivenNames ep n at hv
  have hv := else_eq_effect hv (fun h => nomatch h)
  have hv := else_eq_effect hv (fun h => nomatch h)
  have hv := else_eq_effect hv (fun h => nomatch h)
  exact hv.symm

/-- The contributions of a RED_CONTRIB that its epoch does not hold yet (R380). -/
def freshContribs (c : Ctx) (x : EpochSt) (tn : Nat) (all : List Retained) : List Retained :=
  all.filter (fun r => !x.retained.any (fun y => y.tensor == tn && y.block == r.block && y.frond == c.f))

/-- The state once an epoch has retained fresh blocks of `bytes` bytes, on the state once their sources have been read. -/
def contribRetained (c : Ctx) (s : State) (us : List Nat) (dup ep bytes : Nat) (fresh : List Retained) : State :=
  setRedRegs (modEpoch (bump (readUnits s us) RED_LATE_EVENTS_DUP_CONTRIB c.p dup) c.p ep
    (fun y => { y with retained := y.retained ++ fresh, used := y.used + bytes })) c.p

theorem contribRetained_mem {c : Ctx} {s : State} {us : List Nat} {dup ep bytes : Nat} {fresh : List Retained} :
    (contribRetained c s us dup ep bytes fresh).mem = s.mem :=
  (setRedRegs_agree.area .mem rfl).trans ((modEpoch_agree.area .mem rfl).trans
    ((bump_agree.area .mem rfl).trans (readUnits_agree.area .mem rfl)))

theorem epochOf_contribRetained {c : Ctx} {s : State} {us : List Nat} {dup ep bytes : Nat} {fresh : List Retained} {x : EpochSt}
    (h : TablesOk s) (hx : epochOf s c.p ep = some x) : epochOf (contribRetained c s us dup ep bytes fresh) c.p ep =
      some { x with retained := x.retained ++ fresh, used := x.used + bytes } := by
  have hread : TablesOk (bump (readUnits s us) RED_LATE_EVENTS_DUP_CONTRIB c.p dup) := bump_agree.tabOk (readUnits_agree.tabOk h)
  have hparts : (bump (readUnits s us) RED_LATE_EVENTS_DUP_CONTRIB c.p dup).parts = s.parts :=
    (bump_agree.area .parts rfl).trans (readUnits_agree.area .parts rfl)
  refine (epochOf_of_parts_eq (setRedRegs_agree.area .parts rfl) c.p ep).trans ?_
  exact epochOf_modEpoch_some hread ((epochOf_of_parts_eq hparts c.p ep).trans hx) fun _ => rfl

/-- A RED_CONTRIB that goes through retains its blocks, and then they may start (R380). -/
theorem redContribBody_of_accepts {c : Ctx} {s : State} {e : List Byte} (h : Accepts (redContribBody c s e)) :
    ∃ x t us k bytes, epochOf s c.p (p64 e 32) = some x ∧ x.tensorOf (p16 e 40) = some t ∧
      let all := contribBlocks s c t ((([42, 44, 46, 48].map (p16 e)).filter (· != 0xFFFF)).map (readDesc s c.p)) (p8 e 50 == 1)
      let fresh := freshContribs c x (p16 e 40) all
      let s2 := contribRetained c s us k (p64 e 32) bytes fresh
      redContribBody c s e = .effect (fresh.foldl (fun s r => startBlock s c.p (p64 e 32) (p16 e 40) r.block
        (tblGet 0 t.passes r.block)) s2) (if all.any (·.poison) then stPoison else stOK) 0 (all.any (·.poison)) (.epoch (p64 e 32)) := by
  obtain ⟨s1, st, d, k, w, h⟩ := h
  generalize hv : redContribBody c s e = v at h
  subst h
  unfold redContribBody at hv
  extract_lets +onlyGivenNames ep tn hs used inPlace at hv
  split at hv
  · split at hv <;> exact nomatch hv
  case _ x hx =>
    have hv := else_eq_effect hv (fun h => nomatch h)
    split at hv
    · exact nomatch hv
    case _ t ht =>
      have hv := else_eq_effect hv (fun h => nomatch h)
      split at hv
      · exact nomatch hv
      extract_lets +onlyGivenNames ds ls same bytes room inUse at hv
      have hv := else_eq_effect hv (fun h => nomatch h)
      have hv := else_eq_effect hv (fun h => nomatch h)
      have hv := else_eq_effect hv (fun h => nomatch h)
      extract_lets +onlyGivenNames all fresh bad s1 s2 s3 s4 at hv
      exact ⟨x, t, _, _, _, hx, ht, hv.symm⟩

theorem contribBlocks_mem {s : State} {c : Ctx} {t : RedTensor} {ds : List Desc} {inPlace : Bool} {r : Retained}
    (h : r ∈ contribBlocks s c t ds inPlace) : r.tensor = t.tensor ∧ r.frond = c.f := by
  unfold contribBlocks at h
  extract_lets d0 dl els blocks at h
  obtain ⟨b, -, rfl⟩ := List.mem_map.1 h
  exact ⟨rfl, rfl⟩

/-- Every block of a region is retained once the fresh ones have been. -/
theorem retained_of_fresh {c : Ctx} {x : EpochSt} {tn : Nat} {all : List Retained} (hall : ∀ r ∈ all, r.tensor = tn ∧ r.frond = c.f)
    {r : Retained} (hr : r ∈ all) :
    ∃ y ∈ x.retained ++ freshContribs c x tn all, y.tensor = tn ∧ y.block = r.block ∧ y.frond = c.f := by
  by_cases hold : x.retained.any (fun y => y.tensor == tn && y.block == r.block && y.frond == c.f) = true
  · obtain ⟨y, hy, hkey⟩ := List.any_eq_true.1 hold
    simp only [Bool.and_eq_true, beq_iff_eq] at hkey
    exact ⟨y, List.mem_append_left _ hy, hkey.1.1, hkey.1.2, hkey.2⟩
  · refine ⟨r, List.mem_append_right _ (List.mem_filter.2 ⟨hr, ?_⟩), (hall r hr).1, rfl, (hall r hr).2⟩
    rw [Bool.eq_false_iff.2 hold]
    rfl

/-- Settles O28: what each of the three commands leaves in its epoch before it waits for it. -/
theorem reductionCommands : Obligations.ReductionCommands := by
  refine ⟨fun p n s hs hfree => ?_, fun f n s hs hfree => ?_, fun p n s hs hfree => ?_⟩
  · intro e s0 haccepts
    have hs0 : TablesOk s0 := atBody_tablesOk _ _ hs
    obtain ⟨t, ⟨htn, hgroup, haxis, hscatter, hdesc, hcontribs, hwritten, hpasses⟩, hnew, hbody⟩ :=
      redTensorBody_of_accepts haccepts
    have hdecl : TablesOk (setRedRegs (tensorDeclared s0 p (p64 e 32) t) p) := setRedRegs_agree.tabOk (tensorDeclared_agree.tabOk hs0)
    have hx := (epochOf_of_parts_eq ((setRedRegs_agree (x0 := tensorDeclared s0 p (p64 e 32) t) (x1 := p)).area .parts rfl) p
      (p64 e 32)).trans (epochOf_tensorDeclared hs0)
    have hnone : (epochOr s0 p (p64 e 32)).tensorOf t.tensor = none := by
      unfold epochOr
      rw [htn]
      cases hx0 : epochOf s0 p (p64 e 32) with
      | none => rfl
      | some x0 =>
        rw [show epochOf s0 (ctxOf s (.anchor p) n 0).p (p64 e 32) = some x0 from hx0] at hnew
        exact Option.not_isSome_iff_eq_none.1 (ne_true_of_eq_false hnew)
    obtain ⟨y, u, hy, hu, hsame⟩ := epochOf_maybeNorm hdecl hx (htn ▸ tensorOf_append hnone)
    have hu' : { u with norms := t.norms } = t := hsame
    have hproj {α : Type} (g : RedTensor → α) (hg : ∀ v w, g { v with norms := w } = g v) : g u = g t := by
      rw [← hg u t.norms, hu']
    refine ⟨_, y, u, congrArg (fun v => Host.Outcome.next (redSettle v)) (runEntry_eq_issued hfree rfl hbody), ?_, hy, hu,
      (hproj (·.group) fun _ _ => rfl).trans hgroup, (hproj (·.axis) fun _ _ => rfl).trans haxis,
      (hproj (·.scatter) fun _ _ => rfl).trans hscatter, (hproj (·.desc) fun _ _ => rfl).trans hdesc,
      (hproj (·.contribs) fun _ _ => rfl).trans hcontribs, (hproj (·.written) fun _ _ => rfl).trans hwritten,
      (hproj (·.passes) fun _ _ => rfl).trans hpasses⟩
    exact (maybeNorm_agree.area .mem rfl).trans ((setRedRegs_agree.area .mem rfl).trans
      ((tensorDeclared_agree.area .mem rfl).trans (atBody_mem s _ n)))
  · intro e c s0 haccepts
    have hs0 : TablesOk s0 := atBody_tablesOk _ _ hs
    obtain ⟨x, t, us, k, bytes, hx, ht, hbody⟩ := redContribBody_of_accepts haccepts
    dsimp only at hbody
    refine ⟨_, _, _, _, _, t, _, congrArg (fun v => Host.Outcome.next (redSettle v)) (runEntry_eq_issued hfree rfl hbody),
      poisoned_status, ?_, by rw [hx]; exact ht, rfl, epochOf_contribRetained hs0 hx, ?_, _, rfl⟩
    · refine ((Agree.foldl (A := 81952) (fun _ _ ha => startBlock_agree.after rfl ha) (Agree.refl _ _)).area .mem rfl).trans ?_
      exact contribRetained_mem.trans (atBody_mem s _ n)
    · exact fun r hr => retained_of_fresh
        (fun r hr => ⟨(contribBlocks_mem hr).1.trans (tensorOf_tensor ht), (contribBlocks_mem hr).2⟩) hr
  · intro e haccepts
    have hs0 : TablesOk (atBody s (.anchor p) n) := atBody_tablesOk _ _ hs
    have hbody := redCloseBody_of_accepts haccepts
    have hopen : TablesOk (openEpoch (atBody s (.anchor p) n) p (p64 e 32)) := openEpoch_agree.tabOk hs0
    refine ⟨_, _, congrArg (fun v => Host.Outcome.next (redSettle v)) (runEntry_eq_issued hfree rfl hbody), ?_,
      (epochOf_of_parts_eq (setRedRegs_agree.area .parts rfl) _ _).trans
        (epochOf_modEpoch_some hopen (epochOf_openEpoch hs0) fun _ => rfl), rfl, ?_⟩
    · refine (setRedRegs_agree.area .mem rfl).trans ((modEpoch_agree.area .mem rfl).trans ?_)
      exact (openEpoch_agree.area .mem rfl).trans (atBody_mem s _ n)
    · exact (atBody_agree s _ n).area .counter rfl

end Sys2Proof.Proofs
end

section
/-! SUPPORT. Messages that are delivered (R346, R352), and the reduction messages among them (R383). -/

namespace Sys2Proof.Proofs

open Sys2Proof Sys2Proof.Machine Sys2Proof.Safety Sys2Proof.Frame Sys2Proof.Claims Sys2Proof.Laws

/-- A message that is delivered reaches the row of its type. -/
theorem recv_of_delivered {s : State} {a : Arrival} {mtype : Nat} {body : State → State} (h : Delivered s a mtype)
    (hlocal : linkLocal a.msg = false) :
    recv mtype a body s = body (if decide (0x10 ≤ mtype) && decide (mtype < 0x20) then wakeLichen (received s a) else received s a) := by
  obtain ⟨hmtype, hvc, hmcast, haddr, hport⟩ := h
  unfold recv
  rw [if_neg (Classical.not_not.2 hmtype)]
  extract_lets s1 own body'
  rw [if_neg (by rw [hvc]; decide), if_neg (by rw [hlocal]; decide), if_neg ?_, if_neg (by rw [hmcast]; decide), if_neg (Classical.not_not.2 haddr)]
  · rfl
  · unfold own
    rcases hport with hport | hown
    · rw [hport]
      simp
    · rw [hown, hmcast]
      simp

theorem received_agree {s : State} {a : Arrival} : Agree 98336 s (received s a) :=
  checkSeq_agree.after rfl (takeMsg_agree.mono rfl)

/-- A reduction message that is delivered, at the partition that it names. -/
theorem recv_redArrive {s : State} {a : Arrival} {mtype p : Nat} (h : Delivered s a mtype) (hm : 0x20 ≤ mtype)
    (hp : redPartition (received s a) a.msg = some p) :
    recv mtype a (redArrive a.msg) s = redSettle (redMessage (received s a) p a.msg) := by
  have hlocal : linkLocal a.msg = false := by
    unfold linkLocal
    rw [h.1, decide_eq_false (show ¬mtype ≤ 0x13 by omega), Bool.and_false]
  rw [recv_of_delivered h hlocal, decide_eq_false (show ¬mtype < 0x20 by omega), Bool.and_false, if_neg Bool.false_ne_true]
  unfold redArrive
  rw [hp]

/-- The open epoch that a message names by its low bits is the one of its full number. -/
theorem epochOf_of_low {s : State} {p low : Nat} {x : EpochSt} (h : epochByLow s p low = some x) : epochOf s p x.epoch = some x := by
  unfold epochByLow at h
  unfold epochOf
  have hlow : x.epoch % 2 ^ 32 = low := eq_of_beq (List.find?_some (p := fun y : EpochSt => y.epoch % 2 ^ 32 == low) h)
  obtain ⟨-, l, r, hl, hbefore⟩ := List.find?_eq_some_iff_append.1 h
  refine List.find?_eq_some_iff_append.2 ⟨beq_self_eq_true _, l, r, hl, fun y hy => ?_⟩
  have hne := hbefore y hy
  simp only [Bool.not_eq_true', beq_eq_false_iff_ne, ne_eq] at hne ⊢
  exact fun he => hne (he ▸ hlow)

section
variable {s : State} {p : Nat} {m : Msg} {x : EpochSt} (hx : epochByLow s p (bitsOf m.addr 0 32) = some x)
  (hatt : bitsOf m.addr 51 3 = x.attempt)
include hx hatt

theorem redMessage_blocks {t : RedTensor} (ht : x.tensorOf (bitsOf m.addr 32 16) = some t) (hm : m.mtype = 0x40) :
    redMessage s p m = (payloadBlocks m.payload).foldl (fun s b =>
      blockIn s p x.epoch (bitsOf m.addr 32 16) (bitsOf m.addr 48 3) (m.src, m.part) b) s := by
  unfold redMessage
  dsimp only
  rw [hx]
  dsimp only
  rw [if_neg (Classical.not_not.2 hatt), if_neg (by rw [ht]; exact fun h => Bool.false_ne_true h.2), hm]
  rfl

theorem redMessage_result {t : RedTensor} (ht : x.tensorOf (bitsOf m.addr 32 16) = some t) (hm : m.mtype = 0x41) :
    redMessage s p m = (payloadBlocks m.payload).foldl (fun s b =>
      resultIn s p x.epoch (bitsOf m.addr 32 16) (bitsOf m.addr 48 3) (decide (m.src / 16 ≠ s.fabric.addr.getD 0 / 16)) b) s := by
  unfold redMessage
  dsimp only
  rw [hx]
  dsimp only
  rw [if_neg (Classical.not_not.2 hatt), if_neg (by rw [ht]; exact fun h => Bool.false_ne_true h.2), hm]
  rfl

theorem redMessage_norm {t : RedTensor} {j : Nat} (ht : x.tensorOf (bitsOf m.addr 32 16) = some t) (hm : m.mtype = 0x42)
    (hj : j = leAt m.payload 10 2) (hsub : j ∈ (teamOf s t).sub) :
    redMessage s p m = maybeOk (modTensor s p x.epoch (bitsOf m.addr 32 16) (fun y => { y with
      norms := tblPut y.norms j (some (BitVec.ofNat 64 (leAt m.payload 16 8))) })) p x.epoch := by
  have hfind : (teamOf s t).sub.find? (fun i => i == leAt m.payload 10 2) = some j := by
    rw [← hj]
    obtain ⟨i, hi⟩ := Option.isSome_iff_exists.1 (List.find?_isSome (p := fun i => i == j) |>.2 ⟨j, hsub, beq_self_eq_true j⟩)
    rw [hi, eq_of_beq (List.find?_some (p := fun i => i == j) hi)]
  unfold redMessage
  dsimp only
  rw [hx]
  dsimp only
  rw [if_neg (Classical.not_not.2 hatt), if_neg (by rw [ht]; exact fun h => Bool.false_ne_true h.2), hm, ht, Option.bind_some, hfind]
  rfl

theorem redMessage_ask {t : RedTensor} (ht : x.tensorOf (bitsOf m.addr 32 16) = some t) (hm : m.mtype = 0x43)
    (hone : leAt m.payload 16 4 = 1) :
    redMessage s p m = startBlock (modTensor s p x.epoch (bitsOf m.addr 32 16) (fun y => { y with
      asks := y.asks ++ [⟨leAt m.payload 12 4, leAt m.payload 9 1, m.src, m.part⟩] })) p x.epoch (bitsOf m.addr 32 16)
      (leAt m.payload 12 4) (leAt m.payload 9 1) := by
  unfold redMessage
  dsimp only
  rw [hx]
  dsimp only
  rw [if_neg (Classical.not_not.2 hatt), if_neg (by rw [ht]; exact fun h => Bool.false_ne_true h.2), hm, hone]
  rfl

theorem redMessage_checkOk {t : RedTensor} {j : Nat} (ht : leadTensor x = some t) (hm : m.mtype = 0x44)
    (hj : indexIn (teamOf s t).g (m.src, m.part) = some j) :
    redMessage s p m = leaderOk s p x.epoch j (leAt m.payload 12 4) (leAt m.payload 16 8) := by
  unfold redMessage
  dsimp only
  rw [hx]
  dsimp only
  rw [if_neg (Classical.not_not.2 hatt), if_neg (by rw [hm]; exact fun h => absurd h.1 (by decide)), hm, ht, Option.bind_some, hj]
  rfl

theorem redMessage_retractReq {t : RedTensor} (ht : leadTensor x = some t) (hm : m.mtype = 0x45) (hbackup : t.backup = false)
    (hlead : (teamOf s t).leader = t.me) :
    redMessage s p m = leaderRetract s p x.epoch (leAt m.payload 9 1) (leAt m.payload 24 2) (leAt m.payload 26 2)
      (leAt m.payload 28 4) := by
  unfold redMessage
  dsimp only
  rw [hx]
  dsimp only
  rw [if_neg (Classical.not_not.2 hatt), if_neg (by rw [hm]; exact fun h => absurd h.1 (by decide)), hm, ht]
  exact if_pos (by rw [hbackup, hlead, beq_self_eq_true]; rfl)

theorem redMessage_confirm (hm : m.mtype = 0x46) : redMessage s p m = confirmEpoch s p x.epoch := by
  unfold redMessage
  dsimp only
  rw [hx]
  dsimp only
  rw [if_neg (Classical.not_not.2 hatt), if_neg (by rw [hm]; exact fun h => absurd h.1 (by decide)), hm]
  rfl

theorem redMessage_retract (hm : m.mtype = 0x47) :
    redMessage s p m = if bitOf (leAt m.payload 10 1) 0 then
        failEpoch s p x.epoch (if leAt m.payload 9 1 = rsnTimeout then stLinkDown else stCheckFail)
      else retractEpoch s p x.epoch (leAt m.payload 8 1) := by
  unfold redMessage
  dsimp only
  rw [hx]
  dsimp only
  rw [if_neg (Classical.not_not.2 hatt), if_neg (by rw [hm]; exact fun h => absurd h.1 (by decide)), hm]
  rfl

end

end Sys2Proof.Proofs
end

section
/-! SUPPORT. RED_BLOCKS, RED_RESULT, RED_NORM and BACKUP_REQ at a member (R374 to R376, R385 to R391). -/

namespace Sys2Proof.Proofs

open Sys2Proof Sys2Proof.Machine Sys2Proof.Safety Sys2Proof.Frame Sys2Proof.Claims Sys2Proof.Laws

section
variable {s : State} {p e tn : Nat} {x : EpochSt} {t : RedTensor} (hx : epochOf s p e = some x) (ht : x.tensorOf tn = some t)
include hx ht

/-- A good block from a member of this colony comes to its root (R386). -/
theorem blockIn_of_colony {pass j : Nat} {who : Nat × Nat} {b : Bfx} (hpass : b.pass = pass) (hexp : b.exp = expOf t b.pass)
    (hblock : b.block < t.blocks) (hresidue : ((teamOf s t).g.residue && residueBad b) = false) (hbackup : t.backup = false)
    (hroot : (teamOf s t).isRoot t.me b.block = true) (hflag : b.flag bfBackup = false)
    (hj : (indexIn (teamOf s t).g who).filter (fun j => (teamOf s t).sub.contains j) = some j)
    (hcol : memberColony (teamOf s t).g j = (teamOf s t).col) :
    blockIn s p e tn pass who b = atRoot s p e tn j b false (b.flag bfSample) := by
  unfold blockIn
  rw [hx]
  dsimp only
  rw [ht]
  dsimp only
  rw [if_neg (by rintro (h | h | h); exact h hpass; exact h hexp; exact absurd h (Nat.not_le.2 hblock)), if_neg (by rw [hresidue]; decide),
    if_neg (by rw [hbackup, hroot]; decide), if_neg (by rw [hflag]; decide), hj]
  exact if_pos hcol

/-- A block that is new at its root is held, and then its chain may go on (R374). -/
theorem atRoot_of_new {j : Nat} {b : Bfx} {sample : Bool} (hs : TablesOk s)
    (hnew : ∀ c ∈ boxOf x tn b.block b.pass sample false, c.member ≠ j) :
    ∃ u y, atRoot s p e tn j b false sample = chainOn u p e tn b.block b.pass sample ∧ u.mem = s.mem ∧ epochOf u p e = some y ∧
      y.recvd = x.recvd ++ [⟨tn, b.pass, j, b, false, sample, false⟩] := by
  unfold atRoot
  rw [hx]
  dsimp only
  rw [ht]
  dsimp only
  have hnone : (boxOf x tn b.block b.pass sample false).find? (fun c => c.member == j) = none :=
    List.find?_eq_none.2 fun c hc => fun h => hnew c hc (eq_of_beq h)
  rw [hnone]
  dsimp only
  rw [if_neg (by rw [Bool.false_and]; decide)]
  refine ⟨_, _, rfl, (modTensor_agree.area .mem rfl).trans (modEpoch_agree.area .mem rfl),
    epochOf_modTensor (modEpoch_agree.tabOk hs) (epochOf_modEpoch_some hs hx fun _ => rfl), rfl⟩

/-- What a RED_NORM or a BACKUP_REQ changes of a tensor. -/
theorem tensorOf_modTensor {f : RedTensor → RedTensor} (hs : TablesOk s) (hf : ∀ t, (f t).tensor = t.tensor) :
    ∃ y, epochOf (modTensor s p e tn f) p e = some y ∧ y.tensorOf tn = some (f t) :=
  ⟨_, epochOf_modTensor hs hx, tensorOf_withTensor ht hf⟩

end

/-- The elements that a result block stores at this member (R369). -/
def resultWrites (s : State) (t : RedTensor) (b : Bfx) : WSet :=
  (((b.m.take (min 16 (t.desc.count - 16 * b.block))).map (bfxValue b)).zipIdx).foldl (fun w (r, i) =>
    match elemOn s t t.me (16 * b.block + i) with
    | some c => putWide w t.desc 0 c r (b.flag bfPoison)
    | none => w) []

theorem writeResult_leaves {s : State} {p e : Nat} {x : EpochSt} {t : RedTensor} {b : Bfx} (hs : TablesOk s)
    (hx : epochOf s p e = some x) (ht : x.tensorOf t.tensor = some t) :
    (writeResult s p e t b).mem = (writeSet s (resultWrites s t b)).1.mem ∧
    ∃ y z, epochOf (writeResult s p e t b) p e = some y ∧ y.tensorOf t.tensor = some z ∧ z.written = t.written ++ [b.block] := by
  have hw : Agree 5055264 s (writeSet s (resultWrites s t b)).1 := writeSet_agree
  have hx1 : epochOf (writeSet s (resultWrites s t b)).1 p e = some x := (epochOf_of_parts_eq (hw.area .parts rfl) p e).trans hx
  refine ⟨?_, ?_⟩
  · exact (modTensor_agree (x0 := (writeSet s (resultWrites s t b)).1)).area .mem rfl
  · obtain ⟨y, hy, hz⟩ := tensorOf_modTensor hx1 ht (f := fun y => { y with written := y.written ++ [b.block], g2 := _ }) (hw.tabOk hs)
      fun _ => rfl
    exact ⟨y, _, hy, hz, rfl⟩

/-- A good final block that this member holds and has not written is written, and then the norm and the check may go (R375). -/
theorem resultIn_of_final {s : State} {p e tn pass : Nat} {outside : Bool} {x : EpochSt} {t : RedTensor} {b : Bfx}
    (hx : epochOf s p e = some x) (ht : x.tensorOf tn = some t) (hpass : b.pass = pass) (hexp : b.exp = expOf t b.pass)
    (hblock : b.block < t.blocks) (hresidue : ((teamOf s t).g.residue && residueBad b) = false)
    (hfinal : b.flag bfRescale = false ∨ b.flag bfSat = true) (hcount : b.count = (teamOf s t).sub.length)
    (hholds : holdsBlock s t t.me b.block = true) (hwritten : b.block ∉ t.written) :
    ∃ v, Agree 65568 s v ∧ resultIn s p e tn pass outside b = maybeOk (maybeNorm (writeResult v p e t b) p e tn) p e := by
  unfold resultIn
  rw [hx]
  dsimp -zeta only
  rw [ht]
  dsimp -zeta only
  extract_lets +onlyGivenNames k
  rw [if_neg (by rintro (h | h | h); exact h hpass; exact h hexp; exact absurd h (Nat.not_le.2 hblock)),
    if_neg (by rw [show (k.g.residue && residueBad b) = false from hresidue]; decide)]
  extract_lets +onlyGivenNames s1 final
  have hfin : final = true := by
    unfold final
    rcases hfinal with h | h
    · rw [h]; rfl
    · rw [h, Bool.or_true]
  have h1 : Agree 65568 s s1 := by
    unfold s1
    split
    · refine Agree.foldl (fun u j hu => ?_) (Agree.refl _ _)
      extract_lets s'
      have hs' : Agree 65568 s s' := by
        unfold s'
        split
        · exact hu
        · exact sendBlock_agree.after rfl hu
      split
      · exact sendBlock_agree.after rfl hs'
      · exact hs'
    · exact Agree.refl _ _
  rw [if_neg (by rw [hfin, show b.count = k.sub.length from hcount]; simp)]
  extract_lets +onlyGivenNames s2
  rw [if_neg (by rw [hfin]; decide), if_neg (by rw [hholds]; decide), if_neg (fun h => hwritten (List.contains_iff_mem.1 h))]
  exact ⟨_, bump_agree.after rfl (bump_agree.after rfl (bump_agree.after rfl h1)), rfl⟩

/-- Settles O29: the four messages at a member that holds the tensor they name. -/
theorem reductionBlocks : Obligations.ReductionBlocks := by
  refine ⟨fun a s p j x t b hs hdel hnames hgood => ?_, fun a s p x t b hs hdel hnames hgood => ?_,
    fun a s p j x t hs hdel hnames hj hsub => ?_, fun a s p x t hs hdel hnames hone => ?_⟩
  all_goals
    obtain ⟨hp, hlow, hatt, ht⟩ := hnames
    have hr : TablesOk (received s a) := received_agree.tabOk hs
    have hx := epochOf_of_low hlow
    have htn : t.tensor = bitsOf a.msg.addr 32 16 := tensorOf_tensor ht
  · intro k hbackup hroot hflag hidx hcol hnew
    obtain ⟨hpl, hpass, hexp, hblock, hresidue⟩ := hgood
    rw [htn] at hnew ⊢
    obtain ⟨u, y, hu, hmem, hy, hrecvd⟩ := atRoot_of_new hx ht hr hnew
    refine ⟨u, y, ?_, hmem.trans (received_agree.area .mem rfl), hy, hrecvd⟩
    show Host.Outcome.next (recv 0x40 a (redArrive a.msg) s) = _
    rw [recv_redArrive hdel (by decide) hp, redMessage_blocks hlow hatt ht hdel.1, hpl, List.foldl_cons, List.foldl_nil,
      blockIn_of_colony hx ht hpass hexp hblock hresidue hbackup hroot hflag hidx hcol, hu]
  · intro k hfinal hcount hholds hwritten
    obtain ⟨hpl, hpass, hexp, hblock, hresidue⟩ := hgood
    obtain ⟨v, hv, hresult⟩ := resultIn_of_final (outside := decide (a.msg.src / 16 ≠ (received s a).fabric.addr.getD 0 / 16)) hx ht
      hpass hexp hblock hresidue hfinal hcount hholds hwritten
    have hxv : epochOf v p x.epoch = some x := (epochOf_of_parts_eq (hv.area .parts rfl) p x.epoch).trans hx
    obtain ⟨hmem, y, z, hy, hz, hw⟩ := writeResult_leaves (b := b) (hv.tabOk hr) hxv (htn.symm ▸ ht)
    refine ⟨_, v, y, z, ?_, (hv.area .mem rfl).trans (received_agree.area .mem rfl),
      (hv.area .cfg rfl).trans (received_agree.area .cfg rfl), hmem, hy, hz, hw⟩
    show Host.Outcome.next (recv 0x41 a (redArrive a.msg) s) = _
    rw [recv_redArrive hdel (by decide) hp, redMessage_result hlow hatt ht hdel.1, hpl, List.foldl_cons, List.foldl_nil, hresult, htn]
  · obtain ⟨y, hy, hz⟩ := tensorOf_modTensor hx ht (f := fun y => { y with
      norms := tblPut y.norms j (some (BitVec.ofNat 64 (leAt a.msg.payload 16 8))) }) hr fun _ => rfl
    refine ⟨_, y, _, ?_, hy, htn.symm ▸ hz, rfl⟩
    show Host.Outcome.next (recv 0x42 a (redArrive a.msg) s) = _
    rw [recv_redArrive hdel (by decide) hp, redMessage_norm hlow hatt ht hdel.1 hj hsub]
  · obtain ⟨y, hy, hz⟩ := tensorOf_modTensor hx ht (f := fun y => { y with
      asks := y.asks ++ [⟨leAt a.msg.payload 12 4, leAt a.msg.payload 9 1, a.msg.src, a.msg.part⟩] }) hr fun _ => rfl
    refine ⟨_, y, _, ?_, hy, htn.symm ▸ hz, rfl⟩
    show Host.Outcome.next (recv 0x43 a (redArrive a.msg) s) = _
    rw [recv_redArrive hdel (by decide) hp, redMessage_ask hlow hatt ht hdel.1 hone, htn]

end Sys2Proof.Proofs
end

section
/-! SUPPORT. Agreement on an epoch and its time limits (R392 to R397). -/

namespace Sys2Proof.Proofs

open Sys2Proof Sys2Proof.Machine Sys2Proof.Safety Sys2Proof.Frame Sys2Proof.Claims Sys2Proof.Laws

/-! ### A change of every queue of a partition -/

theorem getQ_foldl_modQ_keeps {g : QueueId → QueueSt → QueueSt} {P : QueueSt → Prop} {r : QueueId}
    (hkeep : ∀ q x, P x → P (g q x)) (l : List QueueId) {s : State} (hs : TablesOk s) (h : P (getQ s r)) :
    P (getQ (l.foldl (fun s q => modQ s q (g q)) s) r) := by
  induction l generalizing s with
  | nil => exact h
  | cons q l ih =>
    refine ih (modQ_agree.tabOk hs) ?_
    by_cases hq : qNum r = qNum q
    · have hsame (t : State) : getQ t r = getQ t q := by unfold getQ; rw [hq]
      rw [hsame, getQ_modQ_same hs, ← hsame]
      exact hkeep q _ h
    · rwa [getQ_modQ_ne hs hq]

/-- What a queue's own change establishes from `Q`, and no later change undoes. -/
theorem getQ_foldl_modQ {g : QueueId → QueueSt → QueueSt} {P Q : QueueSt → Prop} {r : QueueId}
    (hkeep : ∀ q x, P x → P (g q x)) (hest : ∀ q x, Q x → P (g q x)) {l : List QueueId} (hr : r ∈ l) {s : State}
    (hs : TablesOk s) (h : Q (getQ s r)) : P (getQ (l.foldl (fun s q => modQ s q (g q)) s) r) := by
  induction l generalizing s with
  | nil => exact absurd hr List.not_mem_nil
  | cons q l ih =>
    by_cases hq : qNum r = qNum q
    · refine getQ_foldl_modQ_keeps hkeep l (modQ_agree.tabOk hs) ?_
      have hsame (t : State) : getQ t r = getQ t q := by unfold getQ; rw [hq]
      rw [hsame, getQ_modQ_same hs, ← hsame]
      exact hest q _ h
    · have hl : r ∈ l := (List.mem_cons.1 hr).resolve_left fun he => hq (congrArg qNum he)
      refine ih hl (modQ_agree.tabOk hs) ?_
      rwa [getQ_modQ_ne hs hq]

theorem queuesOf_of_cfg_eq {s t : State} (h : t.cfg = s.cfg) (p : Nat) : queuesOf t p = queuesOf s p := by
  have hcushion : ownerOfCushion t = ownerOfCushion s := by
    funext c; unfold ownerOfCushion cfgOf; rw [h]
  have hpresent : cushionPresent t = cushionPresent s := by
    funext c; unfold cushionPresent; rw [h]
  have hfrond : ownerOfFrond t = ownerOfFrond s := by
    funext f; unfold ownerOfFrond; rw [hcushion]
  have henabled : frondEnabled t = frondEnabled s := by
    funext f; unfold frondEnabled; rw [hpresent]
  unfold queuesOf frondsOf cushionsOf
  rw [hcushion, hpresent, hfrond, henabled]

/-- No entry of the partition waits for an epoch once its commands are released (R397). -/
theorem releaseEpoch_waits {s : State} {p e : Nat} {status : Option Nat} {retracted : Bool} {backed : List Nat} (hs : TablesOk s)
    {q : QueueId} (hq : q ∈ queuesOf s p) :
    ∀ i ∈ (getQ (releaseEpoch s p e status retracted backed) q).live, i.waits ≠ .epoch e := by
  unfold releaseEpoch
  extract_lets outcome
  have hest (q : QueueId) (x : QueueSt) : ∀ i ∈ x.live.map (fun i => if i.waits = .epoch e then
      { i with status := outcome q i, waits := .done } else i), i.waits ≠ .epoch e := by
    intro i hi
    obtain ⟨j, -, rfl⟩ := List.mem_map.1 hi
    split
    · nofun
    · assumption
  exact getQ_foldl_modQ (P := fun x => ∀ i ∈ x.live, i.waits ≠ .epoch e) (Q := fun _ => True) (fun q x _ => hest q x)
    (fun q x _ => hest q x) hq hs trivial

/-- An entry that waits for a failed epoch has its status and may complete (R395). -/
theorem mem_releaseEpoch {s : State} {p e st : Nat} {retracted : Bool} {backed : List Nat} (hs : TablesOk s) {q : QueueId}
    (hq : q ∈ queuesOf s p) {i : Issued} (hi : i ∈ (getQ s q).live) (hw : i.waits = .epoch e) :
    { i with status := st, waits := .done } ∈ (getQ (releaseEpoch s p e (some st) retracted backed) q).live := by
  unfold releaseEpoch
  extract_lets outcome
  refine getQ_foldl_modQ (P := fun x => { i with status := st, waits := .done } ∈ x.live) (Q := fun x => i ∈ x.live)
    (fun q x h => ?_) (fun q x h => ?_) hq hs hi
  · exact List.mem_map.2 ⟨_, h, if_neg (fun h => nomatch h)⟩
  · exact List.mem_map.2 ⟨_, h, if_pos hw⟩

theorem mem_endAgain {s : State} {p e st : Nat} (hs : TablesOk s) {q : QueueId} {i : Issued} (hi : i ∈ (getQ s q).live) :
    i ∈ (getQ (endAgain s p e st) q).live := by
  unfold endAgain
  exact getQ_foldl_modQ_keeps (P := fun x => i ∈ x.live) (fun q x h => List.mem_append_left _ h) _ hs hi

/-! ### Epochs that end -/

theorem epochOf_of_dropped {s : State} {p e : Nat} {g : PartSt → PartSt} (hs : TablesOk s)
    (hg : ∀ x, (g x).epochs = x.epochs.filter (fun z => z.epoch != e)) : epochOf (modPart s p g) p e = none := by
  unfold epochOf
  rw [getPart_modPart_same hs, hg, List.find?_filter, List.find?_eq_none]
  intro y _
  simp

theorem epochOf_setRedRegs {s : State} {p e : Nat} : epochOf (setRedRegs s p) p e = epochOf s p e :=
  epochOf_of_parts_eq (setRedRegs_agree.area .parts rfl) p e

/-- CONFIRM of an open epoch (R397). -/
theorem confirmEpoch_leaves {s : State} {p e : Nat} {x : EpochSt} (hs : TablesOk s) (hx : epochOf s p e = some x) :
    epochOf (confirmEpoch s p e) p e = none ∧ (∃ l, (getPart (confirmEpoch s p e) p).lastConf = some l ∧ e ≤ l) ∧
    ∀ q ∈ queuesOf s p, ∀ i ∈ (getQ (confirmEpoch s p e) q).live, i.waits ≠ .epoch e := by
  unfold confirmEpoch
  rw [hx]
  dsimp -zeta only
  extract_lets recs s1
  have hs1 : TablesOk s1 := releaseEpoch_agree.tabOk hs
  refine ⟨epochOf_setRedRegs.trans (epochOf_of_dropped hs1 fun _ => rfl), ?_, fun q hq i hi => ?_⟩
  · rw [getPart_of_parts_eq (setRedRegs_agree.area .parts rfl), getPart_modPart_same hs1]
    exact ⟨_, rfl, Nat.le_max_left _ _⟩
  · rw [getQ_of_queues_eq (setRedRegs_agree.area .queues rfl), getQ_of_queues_eq (modPart_agree.area .queues rfl)] at hi
    exact releaseEpoch_waits hs hq i hi

theorem getPart_enterFaulted {s : State} {p st : Nat} (hs : TablesOk s) : (getPart (enterFaulted s p st) p).state = .faulted := by
  have hset : (getPart (setPartState s p .faulted) p).state = .faulted := by
    have hdefer : Agree 32 (modPart s p (fun x => { x with state := .faulted }))
      (deferTests (modPart s p (fun x => { x with state := .faulted })) p) := deferTests_agree
    unfold setPartState
    dsimp only
    rw [if_pos (Or.inr (Or.inr rfl)), if_neg (fun h => nomatch h), getPart_of_parts_eq (emptySlots_agree.area .parts rfl),
      getPart_of_parts_eq (hdefer.area .parts rfl), getPart_modPart_same hs]
  unfold enterFaulted
  dsimp only
  rw [getPart_of_parts_eq (raiseCause_agree.area .parts rfl), getPart_of_parts_eq (abortIssued_agree.area .parts rfl),
    getPart_modPart_same (setPartState_agree.tabOk hs)]
  exact hset

/-- An epoch that fails is gone, and with CHECK_FAIL the partition is FAULTED (R395). -/
theorem failEpoch_leaves {s : State} {p e st : Nat} (hs : TablesOk s) :
    epochOf (failEpoch s p e st) p e = none ∧ (st = stCheckFail → (getPart (failEpoch s p e st) p).state = .faulted) := by
  unfold failEpoch
  extract_lets s1
  have hs1 : TablesOk s1 := by
    unfold s1
    split
    · exact enterFaulted_agree.tabOk (endEpochCommands_agree.tabOk hs)
    · exact endAgain_agree.tabOk (releaseEpoch_agree.tabOk hs)
  refine ⟨epochOf_setRedRegs.trans (epochOf_of_dropped hs1 fun _ => rfl), fun hst => ?_⟩
  rw [getPart_of_parts_eq (setRedRegs_agree.area .parts rfl), getPart_modPart_same hs1]
  show (getPart s1 p).state = .faulted
  rw [show s1 = _ from if_pos hst]
  exact getPart_enterFaulted (endEpochCommands_agree.tabOk hs)

/-- With LINK_DOWN the commands of a failed epoch may complete (R395). -/
theorem mem_failEpoch {s : State} {p e : Nat} (hs : TablesOk s) {q : QueueId} (hq : q ∈ queuesOf s p) {i : Issued}
    (hi : i ∈ (getQ s q).live) (hw : i.waits = .epoch e) :
    { i with status := stLinkDown, waits := .done } ∈ (getQ (failEpoch s p e stLinkDown) q).live := by
  unfold failEpoch
  dsimp only
  rw [if_neg (show stLinkDown ≠ stCheckFail by decide), getQ_of_queues_eq (setRedRegs_agree.area .queues rfl),
    getQ_of_queues_eq (modPart_agree.area .queues rfl)]
  exact mem_endAgain (releaseEpoch_agree.tabOk hs) (mem_releaseEpoch hs hq hi hw)

/-! ### The leader, and RETRACT -/

/-- An epoch at the start of another attempt (R394). -/
def restartedEpoch (attempt now : Nat) (y : EpochSt) : EpochSt :=
  { y with
    attempt := attempt, tensors := y.tensors.map RedTensor.restart, recvd := [], finals := [], oks := []
    bad := false, sentOk := false, answered := false, since := if y.asked then now else y.since, asked := false
    backed := [] }

theorem epochOf_abandonUpdates {s : State} {p e : Nat} (hs : TablesOk s) :
    epochOf (abandonUpdates s p e) p e = epochOf s p e := by
  unfold abandonUpdates
  extract_lets mine s1
  have h1 : Agree 4096 s s1 := Agree.foldl (fun _ _ ha => modQ_agree.after rfl ha) (Agree.refl _ _)
  clear_value s1
  refine Eq.trans (epochOf_modPart (h1.tabOk hs) ?_) (epochOf_of_parts_eq (h1.area .parts rfl) p e)
  intro x
  rfl

/-- RETRACT that is not fatal starts the epoch's blocks again in the attempt that it states (R394). -/
theorem retractEpoch_restarts {s : State} {p e attempt : Nat} {x : EpochSt} (hs : TablesOk s) (hx : epochOf s p e = some x) :
    ∃ u, epochOf u p e = some (restartedEpoch attempt s.counter x) ∧
      retractEpoch s p e attempt = x.tensors.foldl (fun s t =>
        maybeOk (maybeNorm ((List.range t.blocks).foldl (fun s b => startBlock s p e t.tensor b 0) s) p e t.tensor) p e) u := by
  have hb : Agree 32 s (bump s RED_CHECK_EVENTS_RETRACTS p 1) := bump_agree
  unfold retractEpoch
  rw [hx]
  refine ⟨_, ?_, rfl⟩
  refine epochOf_setRedRegs.trans ((epochOf_abandonUpdates (modEpoch_agree.tabOk (hb.tabOk hs))).trans ?_)
  exact epochOf_modEpoch_some (f := restartedEpoch attempt s.counter) (hb.tabOk hs)
    ((epochOf_of_parts_eq (hb.area .parts rfl) p e).trans hx) fun _ => rfl

/-- The leader holds a CHECK_OK of a member (R393). -/
def heldOk (j tensors blocks : Nat) (y : EpochSt) : EpochSt :=
  { y with oks := y.oks.filter (fun o => o.1 != j) ++ [(j, tensors, blocks)] }

theorem leaderOk_of_unanswered {s : State} {p e j tensors blocks : Nat} {x : EpochSt} {lt : RedTensor} (hx : epochOf s p e = some x)
    (hlt : leadTensor x = some lt) (hbackup : lt.backup = false) (hlead : (teamOf s lt).leader = lt.me) (hans : x.answered = false) :
    leaderOk s p e j tensors blocks =
      let k := teamOf s lt
      let oks := x.oks.filter (fun o => o.1 != j) ++ [(j, tensors, blocks)]
      let s1 := modEpoch s p e (fun y => { y with oks := oks })
      if !(k.sub.all (fun i => oks.any (fun o => o.1 == i))) then s1
      else if oks.any (fun o => o.2.1 != tensors || (x.tensors.all (fun t => !t.scatter) && o.2.2 != blocks)) then
        leaderRetract s1 p e rsnTotals 0 (s.fabric.addr.getD 0) 0
      else
        (roster k).foldl (fun s d => sendCheck s p x d 0x46 (checkPayload e x.attempt 0 0 0 0 0 0 0))
          (modEpoch s1 p e (fun y => { y with answered := true })) := by
  unfold leaderOk
  rw [hx]
  dsimp only
  rw [hlt]
  dsimp only
  rw [if_neg]
  rw [hans, hbackup, hlead]
  simp

theorem leaderRetract_of_unanswered {s : State} {p e reason tensor origin block : Nat} {x : EpochSt} {lt : RedTensor}
    (hx : epochOf s p e = some x) (hlt : leadTensor x = some lt) (hans : x.answered = false) :
    leaderRetract s p e reason tensor origin block =
      (roster (teamOf s lt)).foldl (fun u d => sendCheck u p x d 0x47 (checkPayload e (x.attempt + 1) reason
        (b2n (decide (x.attempt + 1 > ((partCfg s p).map (·.retractLimit)).getD 3))) 0 0 tensor origin block))
        (modEpoch s p e (fun y => { y with answered := true })) := by
  unfold leaderRetract
  rw [hx]
  dsimp only
  rw [hlt]
  dsimp only
  rw [if_neg (by rw [hans]; decide)]

/-- Settles O30: of an open epoch in the present attempt, each message is one operation on the epoch. -/
theorem epochAgreement : Obligations.EpochAgreement := by
  refine ⟨fun a s p j x lt hs hdel => ?_, fun a s p x lt hs hdel => ?_, fun a s p x hs hdel hp hlow hatt => ?_,
    fun a s p x hs hdel hp hlow hatt => ⟨fun hfatal => ?_, fun hfatal => ?_⟩⟩
  all_goals have hr : TablesOk (received s a) := received_agree.tabOk hs
  · intro r oks k hp hlow hatt hlt hbackup hlead hans hj
    have hx := epochOf_of_low hlow
    have hexec : exec (.checkOk a) s = .next (redSettle (leaderOk r p x.epoch j (leAt a.msg.payload 12 4) (leAt a.msg.payload 16 8))) := by
      show Host.Outcome.next (recv 0x44 a (redArrive a.msg) s) = _
      rw [recv_redArrive hdel (by decide) hp, redMessage_checkOk hlow hatt hlt hdel.1 hj]
    rw [hexec, leaderOk_of_unanswered hx hlt hbackup hlead hans]
    have h1 : epochOf (modEpoch r p x.epoch (fun y => { y with oks := oks })) p x.epoch = some { x with oks := oks } :=
      epochOf_modEpoch_some hr hx fun _ => rfl
    dsimp only
    by_cases hall : k.sub.all (fun i => oks.any (fun o => o.1 == i)) = true
    · have hall' : ∀ i ∈ k.sub, ∃ o ∈ oks, o.1 = i := by simpa using hall
      refine ⟨_, { x with oks := oks, answered := true }, epochOf_modEpoch_some (f := fun y => { y with answered := true })
        (modEpoch_agree.tabOk hr) h1 fun _ => rfl, rfl,
        fun ⟨i, hi, hno⟩ => ?_, fun _ hsame => ⟨rfl, ?_⟩⟩
      · obtain ⟨o, ho, hoi⟩ := hall' i hi
        exact absurd hoi (hno o ho)
      · have hagree : ¬oks.any (fun o => o.2.1 != leAt a.msg.payload 12 4 ||
            (x.tensors.all (fun t => !t.scatter) && o.2.2 != leAt a.msg.payload 16 8)) = true := by
          rw [List.any_eq_true]
          rintro ⟨o, ho, hne⟩
          rw [hsame o ho] at hne
          simp at hne
        rw [if_neg (by rw [show (teamOf r lt).sub.all _ = true from hall]; decide), if_neg hagree]
    · refine ⟨_, _, h1, rfl, fun _ => ⟨hans, ?_⟩, fun h => absurd ?_ hall⟩
      · rw [if_pos (by rw [show (teamOf r lt).sub.all _ = false from Bool.eq_false_iff.2 hall]; rfl)]
      · simpa using h
  · intro r k pl hp hlow hatt hlt hbackup hlead hans
    have hx := epochOf_of_low hlow
    refine ⟨_, _, epochOf_modEpoch_some (f := fun y => { y with answered := true }) hr hx fun _ => rfl, rfl, ?_⟩
    show Host.Outcome.next (recv 0x45 a (redArrive a.msg) s) = _
    rw [recv_redArrive hdel (by decide) hp, redMessage_retractReq hlow hatt hlt hdel.1 hbackup hlead,
      leaderRetract_of_unanswered hx hlt hans]
    unfold b2n
    simp only [decide_eq_true_eq]
    rfl
  · obtain ⟨hgone, hconf, hwaits⟩ := confirmEpoch_leaves hr (epochOf_of_low hlow)
    refine ⟨_, ?_, hgone, hconf, (confirmEpoch_agree.area .mem rfl).trans (received_agree.area .mem rfl), ?_⟩
    · show Host.Outcome.next (recv 0x46 a (redArrive a.msg) s) = _
      rw [recv_redArrive hdel (by decide) hp, redMessage_confirm hlow hatt hdel.1]
    · rwa [queuesOf_of_cfg_eq (received_agree.area .cfg rfl)] at hwaits
  · obtain ⟨hgone, hstate⟩ := failEpoch_leaves (p := p) (e := x.epoch)
      (st := if leAt a.msg.payload 9 1 = rsnTimeout then stLinkDown else stCheckFail) hr
    refine ⟨_, ?_, hgone, fun hreason => hstate (if_neg hreason)⟩
    show Host.Outcome.next (recv 0x47 a (redArrive a.msg) s) = _
    rw [recv_redArrive hdel (by decide) hp, redMessage_retract hlow hatt hdel.1, if_pos hfatal]
  · obtain ⟨u, hu, hretract⟩ := retractEpoch_restarts (attempt := leAt a.msg.payload 8 1) hr (epochOf_of_low hlow)
    refine ⟨u, _, hu, rfl, rfl, rfl, rfl, rfl, rfl, ?_⟩
    show Host.Outcome.next (recv 0x47 a (redArrive a.msg) s) = _
    rw [recv_redArrive hdel (by decide) hp, redMessage_retract hlow hatt hdel.1, if_neg (by rw [hfatal]; decide), hretract]

/-- Settles O32: each row acts at its epoch once the local counter stands at the event's time. -/
theorem reductionTimeLimits : Obligations.ReductionTimeLimits := by
  refine ⟨fun p e tn j now s x t hs => ?_, fun p e now s x hs hx hclosed hasked hover => ?_,
    fun p e now s x hs hx hasked hover => ?_⟩
  all_goals have hr : TablesOk (advance s now) := advance_agree.tabOk hs
  · intro r hx ht k due
    have hxr : epochOf r p e = some x := (epochOf_of_parts_eq (advance_agree.area .parts rfl) p e).trans hx
    have hb : Agree 32 r (bump r RED_LATE_EVENTS_DEADLINES p due.length) := bump_agree
    have hxb := (epochOf_of_parts_eq (hb.area .parts rfl) p e).trans hxr
    have hdue : redDeadline p e tn j now s = match memberBackup k.g j with
        | none => modTensor (bump r RED_LATE_EVENTS_DEADLINES p due.length) p e tn
            (fun y => { y with armed := y.armed.filter (fun d => !due.contains d) })
        | some q => due.foldl (fun s d => redSend s p q 9
            { mtype := 0x43, addr := redAddrField e tn d.pass x.attempt false true
              payload := leBytes 8 e ++ leBytes 1 x.attempt ++ leBytes 1 d.pass ++ leBytes 2 tn ++ leBytes 4 d.block ++
                leBytes 4 1 ++ leBytes 2 (memberAddr k.g j).1 ++ leBytes 10 0 })
            (modTensor (bump r RED_LATE_EVENTS_DEADLINES p due.length) p e tn
              (fun y => { y with armed := y.armed.filter (fun d => !due.contains d) })) := by
      unfold redDeadline
      dsimp only
      rw [hxr, Option.bind_some, ht]
      rfl
    refine ⟨_, _, _, epochOf_modTensor (hb.tabOk hr) hxb, tensorOf_withTensor (f := fun y => { y with armed := y.armed.filter (fun d => !due.contains d) }) ht fun _ => rfl, rfl,
      (modTensor_agree.area .mem rfl).trans ((hb.area .mem rfl).trans (advance_agree.area .mem rfl)), fun hq => ?_, fun q hq => ?_⟩
    all_goals
      show Host.Outcome.next (redSettle (redDeadline p e tn j now s)) = _
      rw [hdue, hq]
  · have hxr : epochOf (advance s now) p e = some x := (epochOf_of_parts_eq (advance_agree.area .parts rfl) p e).trans hx
    refine ⟨_, _, ?_, epochOf_modEpoch_some (f := fun y => { y with asked := true, since := (advance s now).counter }) hr hxr fun _ => rfl,
      rfl, ?_, (modEpoch_agree.area .mem rfl).trans (advance_agree.area .mem rfl)⟩
    · show Host.Outcome.next (redSettle (redGiveup p e now s)) = _
      unfold redGiveup
      dsimp only
      rw [hxr]
      dsimp only
      rw [if_pos (by rw [hclosed, hasked, hover]; rfl)]
    · exact rfl
  · have hxr : epochOf (advance s now) p e = some x := (epochOf_of_parts_eq (advance_agree.area .parts rfl) p e).trans hx
    refine ⟨_, ?_, (failEpoch_leaves hr).1, fun q hq i hi hw => mem_failEpoch hr ?_ ?_ hw⟩
    · show Host.Outcome.next (redSettle (epochLocalFail p e now s)) = _
      unfold epochLocalFail
      dsimp only
      rw [hxr]
      dsimp only
      rw [if_pos (by rw [hasked, hover]; rfl)]
    · rwa [queuesOf_of_cfg_eq (advance_agree.area .cfg rfl)]
    · rwa [getQ_of_queues_eq (advance_agree.area .queues rfl)]

end Sys2Proof.Proofs
end

section
/-! SUPPORT. How the drains of a partition end (R239 to R242, R320). -/

namespace Sys2Proof.Proofs

open Sys2Proof Sys2Proof.Machine Sys2Proof.Safety Sys2Proof.Frame Sys2Proof.Claims Sys2Proof.Laws

/-- A drain with one destination changed. -/
def withDest (d : DrainSt) (k : DrainDest) (f : DestSt → DestSt) : DrainSt :=
  { d with dests := d.dests.map (fun y => if y.dest = k then f y else y) }

theorem drain_setDest {s : State} {p : Nat} {d : DrainSt} {k : DrainDest} {f : DestSt → DestSt} (hs : TablesOk s) :
    (getPart (setDest s p d k f) p).drain = some (withDest d k f) := by
  unfold setDest
  rw [getPart_of_parts_eq (setDrainRegs_agree.area .parts rfl), getPart_modPart_same hs]
  rfl

theorem drain_abandonDest {s : State} {p : Nat} {d : DrainSt} {y : DestSt} (hs : TablesOk s) :
    (getPart (abandonDest s p d y) p).drain = some (withDest d y.dest (fun z => { z with gaveUp := true })) := by
  have hafter {t : State} (a : Nat) (b : Fld) (c : Nat) (l : List Byte) : Agree 5046304 t (bump (logEvent t a 0 2 0 (some p) l) b c 1) :=
    bump_agree.after rfl (logEvent_agree.mono rfl)
  unfold abandonDest
  extract_lets code s1 s2
  have hparts : s2.parts = s1.parts := (hafter _ _ _ _).area .parts rfl
  have h1 : (getPart s1 p).drain = _ := drain_setDest hs
  split
  · rw [getPart_of_parts_eq hparts, h1]
  · rw [getPart_of_parts_eq (raiseCause_agree.area .parts rfl), getPart_of_parts_eq hparts, h1]

/-- A copy that a rollout has received leaves every drain as it was (R33). -/
theorem drain_incomingCopy {s : State} {q version : Nat} {scales : Tbl ScaleEntry} {cells : WSet} (hs : TablesOk s) (p : Nat) :
    (getPart (incomingCopy s q version scales cells) p).drain = (getPart s p).drain := by
  have hset (c : Option CopySt) : (getPart (setPart s q { getPart s q with incoming := c }) p).drain = (getPart s p).drain := by
    by_cases hp : p = q
    · rw [hp, getPart_setPart_same hs]
    · rw [getPart_setPart_ne hs hp]
  have hlog {t : State} (a : Option Nat) (l : List Byte) : getPart (logEvent t 0x0102 0 0 0 a l) p = getPart t p :=
    getPart_of_parts_eq (logEvent_agree.area .parts rfl) p
  unfold incomingCopy
  extract_lets x record old
  split
  · exact congrArg _ (hlog _ _)
  · split
    · exact congrArg _ (hlog _ _)
    · exact (congrArg _ (hlog _ _)).trans (hset _)
  · exact hset _

theorem drain_endCopy {s : State} {m : McastCfg} {version total : Nat} (hs : TablesOk s) (p : Nat) :
    (getPart (endCopy s m version total) p).drain = (getPart s p).drain := by
  have hput (x : McastRx) : getPart (putMcastRx s x) p = getPart s p := getPart_of_parts_eq (putMcastRx_agree.area .parts rfl) p
  unfold endCopy
  dsimp only
  split
  · rw [drain_incomingCopy (putMcastRx_agree.tabOk hs), hput]
  · rw [hput]

/-- What is sent to a destination leaves its waiting tensors as they are. -/
theorem waiting_sendHead {s : State} {p version : Nat} {flipped : List Nat} {d : DestSt} :
    (sendHead s p version flipped d).2.waiting = d.waiting := by
  unfold sendHead
  split
  · rfl
  · split
    · rfl
    · split
      · dsimp only
        split <;> rfl
      · rfl

/-- A destination that has accepted its first waiting tensor (R281): the drain with it passed, and the end of the copy at the
device itself after the last one. -/
theorem drainComplete_of_accepted {s : State} {p tn dest : Nat} {d : DrainSt} {k : DrainDest} {y : DestSt}
    (hd : (getPart s p).drain = some d) (hk : destOf dest = some k) (hy : d.dests.find? (fun z => z.dest == k) = some y)
    (hgave : y.gaveUp = false) (hrefused : y.refused = false) (hpending : drainPending s p k = false)
    (hhead : y.waiting.head? = some tn) :
    let x := sendHead s p d.version d.flipped { y with waiting := y.waiting.drop 1, since := s.counter }
    drainComplete s p tn dest = match x.2.waiting, k with
      | [], .rollout g =>
        match rolloutGroup s p g with
        | some m => if m.localRx then endCopy (setDest x.1 p d k (fun _ => x.2)) m d.version x.2.sent
            else setDest x.1 p d k (fun _ => x.2)
        | none => setDest x.1 p d k (fun _ => x.2)
      | _, _ => setDest x.1 p d k (fun _ => x.2) := by
  unfold drainComplete
  rw [hd, hk]
  dsimp only
  rw [hy]
  dsimp only
  rw [if_neg (by rw [hgave, hrefused, hpending, hhead]; simp)] <;> rfl

/-- Settles O33: a destination is found by its row, and only the end of a copy comes after its change. -/
theorem drainEnds : Obligations.DrainEnds := by
  refine ⟨fun p dest now s d k y hs hd hk hy hgave hwait hover => ?_, fun p tn dest s d k y hs hd hk hy hgave href hpend hhead => ?_,
    fun p s _ hstate hidle hdone => ?_, fun p s hstate => ?_⟩
  · have hs1 : TablesOk (advance s now) := advance_agree.tabOk hs
    have hyk : y.dest = k := eq_of_beq (List.find?_some (p := fun z : DestSt => z.dest == k) hy)
    have hd1 : (getPart (advance s now) p).drain = some d := by
      rw [getPart_of_parts_eq (advance_agree.area .parts rfl)]; exact hd
    refine ⟨abandonDest (advance s now) p d y, ?_, (abandonDest_agree.area .mem rfl).trans (advance_agree.area .mem rfl),
      (abandonDest_agree.area .queues rfl).trans (advance_agree.area .queues rfl), ?_⟩
    · show Host.Outcome.next (drainGiveup p dest now s) = _
      unfold drainGiveup
      dsimp only
      rw [hd1, hk]
      dsimp only
      rw [hy]
      dsimp only
      rw [if_neg]
      rw [hgave, show partCfg (advance s now) p = partCfg s p from rfl, hover]
      simpa [← Classical.not_and_iff_not_or_not] using hwait
    · rw [drain_abandonDest hs1, hyk]
      rfl
  · intro x
    have hs2 : TablesOk (setDest x.1 p d k (fun _ => x.2)) := setDest_agree.tabOk (sendHead_agree.tabOk hs)
    have hdrain : (getPart (setDest x.1 p d k (fun _ => x.2)) p).drain = some (withDest d k (fun _ => x.2)) :=
      drain_setDest (sendHead_agree.tabOk hs)
    have hwaiting : x.2.waiting = y.waiting.drop 1 := waiting_sendHead
    refine ⟨_, rfl, hwaiting, ?_, fun hnone => ?_⟩
    · show (getPart (drainComplete s p tn dest) p).drain = _
      rw [drainComplete_of_accepted hd hk hy hgave href hpend hhead]
      split
      · split
        · split
          · rw [drain_endCopy hs2]
            exact hdrain
          · exact hdrain
        · exact hdrain
      · exact hdrain
    · show drainComplete s p tn dest = _
      rw [drainComplete_of_accepted hd hk hy hgave href hpend hhead]
      split
      · next hlast =>
        rcases hnone with h | h
        · exact absurd h (by simp [DrainDest.isRollout])
        · exact absurd (hwaiting.symm.trans hlast) h
      · rfl
  · refine congrArg Host.Outcome.next (if_pos ⟨hstate, List.all_eq_true.2 fun q hq => ?_, hdone⟩)
    obtain ⟨hlive, hagain⟩ := hidle q hq
    rw [hlive, hagain]
    rfl
  · exact congrArg Host.Outcome.next (if_neg fun h => hstate h.1)

end Sys2Proof.Proofs
end

section
/-! SUPPORT. What events leave alone: the registers below the interrupt block, and flash but for the numbers of the log; and the state of a
partition under a fall-back. -/

namespace Sys2Proof.Proofs

open Sys2Proof Sys2Proof.Machine Sys2Proof.Safety Sys2Proof.Frame Sys2Proof.Claims Sys2Proof.Laws

/-! ### Registers below the interrupt block, and flash -/

/-- Flash but for the next log number. -/
def SameButLog (f g : FlashSt) : Prop := { f with logNext := g.logNext } = g

/-- From `s` to `t` the registers of the anchor, configuration, security, debug and power blocks, which lie below the interrupt
block, are the same, and so is flash but for the next log number. -/
structure EventKept (s t : State) : Prop where
  tabOk : TablesOk t
  low : ∀ o, o < 0x14000 → getReg t o = getReg s o
  flash : SameButLog t.flash s.flash

theorem EventKept.refl {s : State} (h : TablesOk s) : EventKept s s := ⟨h, fun _ _ => rfl, rfl⟩

/-- A change of neither the registers nor flash. -/
theorem EventKept.after {A : Nat} {s t u : State} (ha : Agree A t u) (hregs : A.testBit Area.regs.idx = false)
    (hflash : A.testBit Area.flash.idx = false) (h : EventKept s t) : EventKept s u :=
  ⟨ha.tabOk h.tabOk, fun o ho => (getReg_of_regs_eq (ha.area .regs hregs) o).trans (h.low o ho),
    ha.area .flash hflash ▸ h.flash⟩

theorem EventKept.setReg {s t : State} {o : Nat} {v : W64} (ho : 0x14000 ≤ o) (h : EventKept s t) : EventKept s (setReg t o v) :=
  ⟨setReg_agree.tabOk h.tabOk, fun k hk => (getReg_setReg_ne h.tabOk (by omega)).trans (h.low k hk), h.flash⟩

theorem EventKept.setF {s t : State} {f : Fld} {i v : Nat} (hf : 0x14000 ≤ f.off) (h : EventKept s t) :
    EventKept s (setF t f i v) :=
  h.setReg (Nat.le_trans hf (Nat.le_add_right _ _))

theorem EventKept.bump {s t : State} {f : Fld} {i k : Nat} (hf : 0x14000 ≤ f.off) (h : EventKept s t) : EventKept s (bump t f i k) :=
  ⟨bump_agree.tabOk h.tabOk, fun o ho => (getReg_bump_ne h.tabOk (by unfold Fld.at; omega)).trans (h.low o ho),
    (bump_agree (x0 := t)).area .flash rfl ▸ h.flash⟩

theorem EventKept.foldl {β : Type} {g : State → β → State} {s t : State} {l : List β} (hg : ∀ u b, EventKept s u → EventKept s (g u b))
    (h : EventKept s t) : EventKept s (l.foldl g t) := by
  induction l generalizing t with
  | nil => exact h
  | cons b l ih => exact ih (hg t b h)

theorem EventKept.raiseCause {s t : State} {b k : Nat} (h : EventKept s t) : EventKept s (raiseCause t b k) := by
  refine ⟨raiseCause_agree.tabOk h.tabOk, fun o ho => (getReg_raiseCause_ne h.tabOk ?_ ?_).trans (h.low o ho),
    (raiseCause_agree (x0 := t)).area .flash rfl ▸ h.flash⟩
  · simp only [causeOff, Fld.at, INT_CAUSE_CAUSE]; omega
  · simp only [countOff, Fld.at, INT_COUNT0_COUNT]; omega

section
variable {s t : State} (h : EventKept s t)
include h

theorem EventKept.withMgmt (m : MgmtSt) : EventKept s { t with mgmt := m } :=
  ⟨⟨h.tabOk.regs, h.tabOk.resets, h.tabOk.queues, h.tabOk.fronds, h.tabOk.slots, h.tabOk.parts, h.tabOk.ports⟩, h.low, h.flash⟩

theorem EventKept.withUpsets (x : Tbl Upset) : EventKept s { t with upsets := x } :=
  ⟨⟨h.tabOk.regs, h.tabOk.resets, h.tabOk.queues, h.tabOk.fronds, h.tabOk.slots, h.tabOk.parts, h.tabOk.ports⟩, h.low, h.flash⟩

theorem EventKept.withRhzUps (x : Tbl Nat) : EventKept s { t with rhzUps := x } :=
  ⟨⟨h.tabOk.regs, h.tabOk.resets, h.tabOk.queues, h.tabOk.fronds, h.tabOk.slots, h.tabOk.parts, h.tabOk.ports⟩, h.low, h.flash⟩

theorem EventKept.withUnits (x : Tbl UnitMeta) : EventKept s { t with units := x } :=
  ⟨⟨h.tabOk.regs, h.tabOk.resets, h.tabOk.queues, h.tabOk.fronds, h.tabOk.slots, h.tabOk.parts, h.tabOk.ports⟩, h.low, h.flash⟩

/-- A record enters the log queue and takes the next number. -/
theorem EventKept.withRecord (m : MgmtSt) (n : Nat) :
    EventKept s { t with mgmt := m, flash := { t.flash with logNext := n } } :=
  ⟨⟨h.tabOk.regs, h.tabOk.resets, h.tabOk.queues, h.tabOk.fronds, h.tabOk.slots, h.tabOk.parts, h.tabOk.ports⟩, h.low, h.flash⟩

end

theorem EventKept.boots {s t : State} (h : EventKept s t) : t.flash.boots = s.flash.boots := by
  have hflash : { t.flash with logNext := s.flash.logNext } = s.flash := h.flash
  rw [← hflash]

theorem EventKept.getF {s t : State} (h : EventKept s t) {f : Fld} {i : Nat} (hf : f.at i < 0x14000) : getF t f i = getF s f i := by
  unfold Machine.getF
  rw [h.low _ hf]

theorem EventKept.wakeLichen {s t : State} (h : EventKept s t) : EventKept s (wakeLichen t) := by
  unfold Machine.wakeLichen
  split
  · exact (h.withMgmt _).bump (by decide)
  · exact h.withMgmt _

theorem EventKept.setLogRegs {s t : State} (h : EventKept s t) : EventKept s (setLogRegs t) := by
  unfold Machine.setLogRegs
  dsimp only
  split
  · exact ((h.setF (by decide)).setF (by decide)).setF (by decide)
  · exact h.setF (by decide)

theorem EventKept.logEnter {s t : State} {r : LogRec} (h : EventKept s t) : EventKept s (logEnter t r) := by
  unfold Machine.logEnter
  extract_lets u
  have hu : EventKept s u := by
    unfold u
    split
    · exact h.wakeLichen
    · exact h
  clear_value u
  split
  · exact ((hu.withMgmt _).bump (by decide)).raiseCause
  · exact (hu.withRecord _ _).setLogRegs

theorem EventKept.logEvent {s t : State} {a b c d : Nat} {p : Option Nat} {l : List Byte} (h : EventKept s t) :
    EventKept s (logEvent t a b c d p l) :=
  h.logEnter

theorem EventKept.seqPost {s t : State} {f : Nat} {r : LogRec} (h : EventKept s t) : EventKept s (seqPost t f r) := by
  unfold Machine.seqPost postRequest
  dsimp only
  have hset {u : State} {o : Nat} {v : W64} (hu : EventKept s u) (ho : 0x20000 ≤ o) : EventKept s (Machine.setReg u o v) :=
    hu.setReg (Nat.le_trans (by decide) ho)
  have hctrl : 0x20000 ≤ mbxCtrl (32 + f) := by unfold mbxCtrl; omega
  exact ((hset (hset (h.foldl fun u k hu => hset hu (by unfold mbxData; omega)) hctrl) hctrl).withMgmt _).wakeLichen

theorem EventKept.seqLogEvent {s t : State} {f : Nat} {r : LogRec} (h : EventKept s t) : EventKept s (seqLogEvent t f r) := by
  unfold Machine.seqLogEvent
  extract_lets held s1
  split
  · have h1 : EventKept s s1 := h.after (modFrond_agree fun _ _ hx => hx) rfl rfl
    split
    · exact h1.seqPost
    · exact h1
  · exact ((h.withMgmt _).bump (by decide)).raiseCause

theorem EventKept.hbmPoisoned {s t : State} {u type cause : Nat} (h : EventKept s t) : EventKept s (hbmPoisoned t u type cause) := by
  unfold Machine.hbmPoisoned
  extract_lets k st o owner off s1 s2 s3
  have hoff : 0x14000 ≤ off := Nat.le_trans (show 0x14000 ≤ HBM_LAST_POISON_VALID.off by decide) (Nat.le_add_right _ _)
  have h1 : EventKept s s1 := by
    unfold s1
    split
    · exact h
    · exact h.setReg hoff
  have h2 : EventKept s s2 := h1.logEvent
  exact (h2.withMgmt _).raiseCause

theorem EventKept.readCheck {s t : State} {u : Nat} (h : EventKept s t) : EventKept s (readCheck t u) := by
  unfold Machine.readCheck
  extract_lets x k s0 s1 f s2 c s3
  have h0 : EventKept s s0 := h.withUpsets _
  have hpoison : EventKept s (poisonUnit s0 u) := h0.withUnits _
  split
  · exact h
  · split
    · split
      · exact h0.bump (by decide)
      · refine EventKept.hbmPoisoned (hpoison.bump ?_)
        split <;> decide
    · split
      · split
        · exact h0.bump (by decide)
        · exact (EventKept.seqLogEvent (hpoison.bump (by decide))).raiseCause
      · split
        · exact h0.bump (by decide)
        · exact (EventKept.logEvent (hpoison.bump (by decide))).raiseCause

theorem EventKept.readUnit {s t : State} {u : Nat} (h : EventKept s t) : EventKept s (readUnit t u) := by
  unfold Machine.readUnit
  split
  · exact h.readCheck.bump (by decide)
  · exact h.readCheck

theorem EventKept.readUnits {s t : State} {us : List Nat} (h : EventKept s t) : EventKept s (readUnits t us) :=
  h.foldl fun _ _ hu => hu.readUnit

theorem EventKept.checkSlots {s t : State} {ks : List (Nat × Nat)} (h : EventKept s t) : EventKept s (checkSlots t ks) := by
  unfold Machine.checkSlots
  refine h.foldl fun u k hu => ?_
  extract_lets x s0
  have h0 : EventKept s s0 := hu.withRhzUps _
  split
  · exact hu
  · split
    · exact h0.bump (by decide)
    · exact EventKept.bump (by decide) (h0.after setSlot_agree rfl rfl)

/-- What an entry reads as it issues leaves the low registers and flash. -/
theorem atBody_eventKept {s : State} (q : QueueId) (n : W32) (h : TablesOk s) : EventKept s (atBody s q n) := by
  unfold atBody atIssue issueReads fetchEntry readDescs
  refine EventKept.checkSlots ?_
  have hfetch : EventKept s (if ringReach s q (entryAddr s q n) 128 then readUnits s (unitsOf (entryAddr s q n) 128) else s) := by
    split
    · exact (EventKept.refl h).readUnits
    · exact EventKept.refl h
  split
  · exact hfetch.readUnits
  · exact hfetch

/-! ### The state of a partition -/

/-- From `s` to `t` partition `p` keeps its state. -/
structure StateKept (p : Nat) (s t : State) : Prop where
  tabOk : TablesOk t
  state : (getPart t p).state = (getPart s p).state

theorem StateKept.refl {p : Nat} {s : State} (h : TablesOk s) : StateKept p s s := ⟨h, rfl⟩

theorem StateKept.after {p A : Nat} {s t u : State} (ha : Agree A t u) (hA : A.testBit Area.parts.idx = false) (h : StateKept p s t) :
    StateKept p s u :=
  ⟨ha.tabOk h.tabOk, (congrArg PartSt.state (getPart_of_parts_eq (ha.area .parts hA) p)).trans h.state⟩

theorem StateKept.setPart {p q : Nat} {s t : State} {v : PartSt} (hv : v.state = (getPart t q).state) (h : StateKept p s t) :
    StateKept p s (setPart t q v) := by
  refine ⟨setPart_agree.tabOk h.tabOk, ?_⟩
  by_cases hp : p = q
  · rw [hp, getPart_setPart_same h.tabOk, hv, ← hp, h.state]
  · rw [getPart_setPart_ne h.tabOk hp, h.state]

theorem StateKept.modPart {p q : Nat} {s t : State} {g : PartSt → PartSt} (hg : ∀ x, (g x).state = x.state) (h : StateKept p s t) :
    StateKept p s (modPart t q g) :=
  h.setPart (hg _)

theorem StateKept.foldl {p : Nat} {β : Type} {g : State → β → State} {s t : State} {l : List β}
    (hg : ∀ u b, StateKept p s u → StateKept p s (g u b)) (h : StateKept p s t) : StateKept p s (l.foldl g t) := by
  induction l generalizing t with
  | nil => exact h
  | cons b l ih => exact ih (hg t b h)

theorem StateKept.ensureReloc {p : Nat} {s t : State} {c : Ctx} {d : Desc} {rung : Nat} {storm : Bool} {st : W32}
    (h : StateKept p s t) : StateKept p s (ensureReloc t c d rung storm st) := by
  have halloc : StateKept p s (allocReloc t c d rung storm st) := h.setPart rfl
  unfold Machine.ensureReloc
  split
  · split
    · exact h.modPart fun _ => rfl
    · exact halloc
  · exact halloc

theorem StateKept.noteAmax {p q : Nat} {s t : State} {k : SlotCfg} {amax : W32} {ovf : Bool} (h : StateKept p s t) :
    StateKept p s (noteAmax t q k amax ovf) := by
  unfold Machine.noteAmax
  split
  · exact h
  · exact h.modPart fun _ => rfl

theorem StateKept.noteStorm {p : Nat} {s t : State} {c : Ctx} {k : SlotCfg} {rung : Nat} (h : StateKept p s t) :
    StateKept p s (noteStorm t c k rung) := by
  unfold Machine.noteStorm
  dsimp only
  split
  · exact h.setPart rfl
  · exact h

theorem StateKept.reemitCopy {p : Nat} {s t : State} {c : Ctx} {y : TensorCfg} {fwd : Bool} (h : StateKept p s t) :
    StateKept p s (reemitCopy t c y fwd) := by
  unfold Machine.reemitCopy
  extract_lets set
  split
  · split
    · exact h
    · split
      extract_lets amax
      split
      split
      have h0 := h.after (readUnits_agree (x1 := masterUnits y set)) rfl
      split
      · extract_lets s1 d1 s2 hdr
        exact (((h0.ensureReloc.noteAmax).after bump_agree rfl).noteStorm).after commitWrites_agree rfl
      · split
        · exact h
        · split
          extract_lets s1 d1 hdr0 qs ev tw hdr s2 s3
          have h1 : StateKept p s s1 := by
            refine StateKept.ensureReloc ?_
            split
            · exact h0.after readUnits_agree rfl
            · exact h0
          have h2 : StateKept p s s2 := by
            unfold s2
            split
            · exact h1.modPart fun _ => by split <;> rfl
            · exact h1
          exact (((h2.after bumpQuant_agree rfl).noteAmax).noteStorm).after commitWrites_agree rfl
  · exact h

/-- The copies that a step's start raises leave the partition's state (R146). -/
theorem StateKept.spillFullStart {p : Nat} {s t : State} {c : Ctx} (h : StateKept p s t) : StateKept p s (spillFullStart t c) := by
  unfold Machine.spillFullStart
  refine h.foldl fun u y hu => hu.foldl fun v fwd hv => ?_
  extract_lets set pass
  split
  · exact hv
  · split
    · exact hv
    · split
      · exact hv
      · split
        extract_lets s2
        have h1 := hv.modPart (q := c.p) (g := fun x => modLayer { x with used := x.used + layerFootprint v c.p y.layer 1 } y.layer pass
          (fun l => { l with bump := 1, fell := true, spillFull := true })) fun _ => rfl
        have h2 : StateKept p s s2 := (h1.after bump_agree rfl).after fbLog_agree rfl
        unfold reemitLayer
        exact (h2.after setFbState_agree rfl).foldl fun _ _ hw => hw.reemitCopy

end Sys2Proof.Proofs
end

section
/-! SUPPORT. The device commands that move partitions and the device between states (R317 to R322, R412, R465). -/

namespace Sys2Proof.Proofs

open Sys2Proof Sys2Proof.Machine Sys2Proof.Safety Sys2Proof.Frame Sys2Proof.Claims Sys2Proof.Laws

/-! ### Partitions -/

theorem getPart_setPartState {s : State} {p : Nat} {st : PartState} (h : TablesOk s) :
    getPart (setPartState s p st) p = { getPart s p with state := st } := by
  unfold setPartState
  extract_lets s1 s2
  have h1 : getPart s1 p = { getPart s p with state := st } := getPart_modPart_same h
  have h2 : getPart s2 p = { getPart s p with state := st } := by
    unfold s2
    split
    · rw [getPart_of_parts_eq (deferTests_agree.area .parts rfl), h1]
    · exact h1
  split
  · exact h2
  · rw [getPart_of_parts_eq (emptySlots_agree.area .parts rfl), h2]

theorem state_setPartState {s : State} {p : Nat} {st : PartState} (h : TablesOk s) : (getPart (setPartState s p st) p).state = st := by
  rw [getPart_setPartState h]

/-- A partition command's own rule acts where the partition is in a state that it needs. -/
theorem partBody_of_state {ok : PartState → Bool} {act : State → Nat → Verdict} {s : State} {e : List Byte} (hp : p8 e 32 ≤ 7)
    (hstate : ok (getPart s (p8 e 32)).state = true) : partBody ok act s e = act s (p8 e 32) := by
  unfold partBody
  dsimp only
  rw [if_neg (by omega), if_pos hstate]

theorem partBody_of_other_state {ok : PartState → Bool} {act : State → Nat → Verdict} {s : State} {e : List Byte} (hp : p8 e 32 ≤ 7)
    (hstate : ok (getPart s (p8 e 32)).state = false) : partBody ok act s e = .reject stIllegal 0 := by
  unfold partBody
  dsimp only
  rw [if_neg (by omega), if_neg (by rw [hstate]; decide)]

theorem partBody_of_no_partition {ok : PartState → Bool} {act : State → Nat → Verdict} {s : State} {e : List Byte}
    (hp : 7 < p8 e 32) : partBody ok act s e = .reject stBadDesc 0 :=
  if_pos hp

theorem getPart_atBody (s : State) (q : QueueId) (n : W32) (p : Nat) : getPart (atBody s q n) p = getPart s p :=
  getPart_of_parts_eq (atBody_parts s q n) p

/-- A partition command that is free to issue, in a state that it needs. -/
theorem partCommand_issues {s s1 : State} {n : W32} {op st : Nat} {ops : Nat → Bool} {ok : PartState → Bool}
    {act : State → Nat → Verdict} {w : WaitFor} (hf : FreeToIssue s .device n op [(32, 1)]) (hops : ops op = true)
    (hp : p8 (entryBytes s .device n) 32 ≤ 7) (hstate : ok (getPart s (p8 (entryBytes s .device n) 32)).state = true)
    (hact : act (atBody s .device n) (p8 (entryBytes s .device n) 32) = .effect s1 st 0 false w) :
    runEntry .device n ops [(32, 1)] (partBody ok act) s = issued s s1 .device n st false w :=
  runEntry_eq_issued hf hops ((partBody_of_state hp (by rwa [getPart_atBody])).trans hact)

/-- In another state, or without a partition, it is rejected (R322). -/
theorem partCommand_rejected {s : State} {n : W32} (op : Nat) (ok : PartState → Bool) (act : State → Nat → Verdict)
    (hf : FreeToIssue s .device n op [(32, 1)]) :
    let p := p8 (entryBytes s .device n) 32
    (p ≤ 7 → ok (getPart s p).state = false →
      runEntry .device n (· == op) [(32, 1)] (partBody ok act) s = rejected s .device n stIllegal 0) ∧
    (7 < p → runEntry .device n (· == op) [(32, 1)] (partBody ok act) s = rejected s .device n stBadDesc 0) :=
  ⟨fun hp hstate => runEntry_eq_rejected hf (beq_self_eq_true op) (partBody_of_other_state hp (by rwa [getPart_atBody])),
    fun hp => runEntry_eq_rejected hf (beq_self_eq_true op) (partBody_of_no_partition hp)⟩

/-! ### Queues that a partition's state clears -/

/-- From `s` to `t` the TAIL of every queue is the same. -/
structure TailsKept (s t : State) : Prop where
  tabOk : TablesOk t
  tail : ∀ q, (getQ t q).tail = (getQ s q).tail

theorem TailsKept.after {A : Nat} {s t u : State} (ha : Agree A t u) (hA : A.testBit Area.queues.idx = false) (h : TailsKept s t) :
    TailsKept s u :=
  ⟨ha.tabOk h.tabOk, fun q => (congrArg QueueSt.tail (getQ_of_queues_eq (ha.area .queues hA) q)).trans (h.tail q)⟩

theorem TailsKept.modQ {s t : State} {q : QueueId} {g : QueueSt → QueueSt} (hg : ∀ x, (g x).tail = x.tail) (h : TailsKept s t) :
    TailsKept s (modQ t q g) := by
  refine ⟨modQ_agree.tabOk h.tabOk, fun r => ?_⟩
  by_cases hr : qNum r = qNum q
  · have hsame (u : State) : getQ u r = getQ u q := by unfold getQ; rw [hr]
    rw [hsame, getQ_modQ_same h.tabOk, hg, ← hsame, h.tail]
  · rw [getQ_modQ_ne h.tabOk hr, h.tail]

theorem TailsKept.foldl {β : Type} {g : State → β → State} {s t : State} {l : List β} (hg : ∀ u b, TailsKept s u → TailsKept s (g u b))
    (h : TailsKept s t) : TailsKept s (l.foldl g t) := by
  induction l generalizing t with
  | nil => exact h
  | cons b l ih => exact ih (hg t b h)

theorem TailsKept.finishEntry {s t : State} {q : QueueId} {i : Issued} (h : TailsKept s t) : TailsKept s (finishEntry t q i) := by
  unfold Machine.finishEntry writeRecord
  extract_lets k r s1 s2 s3 s4
  have h1 : TailsKept s s1 := by
    refine TailsKept.modQ (fun _ => rfl) ?_
    unfold r
    split
    · exact h.after writeBytes_agree rfl
    · exact h
  have h2 : TailsKept s s2 := h1.modQ fun _ => rfl
  have h3 : TailsKept s s3 := by
    unfold s3
    split
    · next f =>
      have hidle := h2.after (modFrond_agree (f := f) (g := fun x => { x with idleAt := s2.counter }) fun _ _ hx => hx) rfl
      exact hidle.after mirrorPair_agree rfl
    · exact h2
  have h4 : TailsKept s s4 := h3.after signalMark_agree rfl
  split
  · have hhalted := h3.modQ (q := q) (g := fun x => { x with halted := x.halted ++ [i] }) fun _ => rfl
    exact hhalted.after haltCause_agree rfl
  · split
    · exact h4.after compCause_agree rfl
    · exact h4

theorem abortIssued_tailsKept {s : State} {p : Nat} (h : TablesOk s) : TailsKept s (abortIssued s p) :=
  TailsKept.foldl (fun _ _ hu => hu.foldl fun _ _ hv => hv.finishEntry) ⟨h, fun _ => rfl⟩

/-- No entry of a queue is live or halted, and every entry before TAIL has passed. -/
def Passed (x : QueueSt) (tail : W32) : Prop :=
  x.live = [] ∧ x.halted = [] ∧ x.issued.count = tail ∧ x.record.count = tail

theorem count_of_none_ahead (w : W32) : Seen.count ⟨w, []⟩ = w := BitVec.add_zero w

/-- The queues of a partition that an ABORT or a CLEAR has reset (R320). -/
theorem passed_resetQueues {s : State} {p : Nat} (hs : TablesOk s) {q : QueueId} (hq : q ∈ queuesOf s p) :
    Passed (getQ (resetQueues s p) q) (getQ s q).tail := by
  unfold resetQueues
  have hreset {x : QueueSt} {tail : W32} (hx : x.tail = tail) :
      x.tail = tail ∧ Passed ⟨x.tail, ⟨x.tail, []⟩, ⟨x.tail, []⟩, [], [], [], []⟩ tail :=
    ⟨hx, rfl, rfl, (count_of_none_ahead _).trans hx, (count_of_none_ahead _).trans hx⟩
  exact (getQ_foldl_modQ (g := fun _ x => ⟨x.tail, ⟨x.tail, []⟩, ⟨x.tail, []⟩, [], [], [], []⟩)
    (P := fun x => x.tail = (getQ s q).tail ∧ Passed x (getQ s q).tail) (Q := fun x => x.tail = (getQ s q).tail)
    (fun _ x hx => hreset hx.1) (fun _ x hx => hreset hx) hq hs rfl).2

theorem passed_of_queues_eq {s t : State} (h : t.queues = s.queues) {q : QueueId} {tail : W32} (hq : Passed (getQ s q) tail) :
    Passed (getQ t q) tail := by
  rwa [getQ_of_queues_eq h]

/-! ### Units under test -/

theorem testing_startTest (s : State) (u : Nat) : (startTest s u).mgmt.testing = dedupNat (s.mgmt.testing ++ [u]) := by
  unfold startTest
  extract_lets m s1
  have hmgmt {A : Nat} {t v : State} (h : Agree A t v) (hA : A.testBit Area.mgmt.idx = false) : v.mgmt = t.mgmt := h.area .mgmt hA
  split
  · split
    · extract_lets s2
      have h2 : s2.mgmt = s1.mgmt := by
        unfold s2
        split
        · exact hmgmt wakeFrond_agree rfl
        · exact hmgmt (modFrond_agree fun _ _ hx => hx) rfl
      rw [hmgmt (modFrond_agree fun _ _ _ => nil_wf) rfl, hmgmt zeroRange_agree rfl, h2]
    · rw [hmgmt wakeDie_agree rfl]
  · rw [hmgmt zeroRange_agree rfl]

/-- Every unit of the list is under test, and every unit that was. -/
theorem mem_testing_foldl {l : List Nat} {s : State} {u : Nat} (h : u ∈ l ∨ u ∈ s.mgmt.testing) :
    u ∈ (l.foldl startTest s).mgmt.testing := by
  induction l generalizing s with
  | nil => exact h.resolve_left List.not_mem_nil
  | cons v l ih =>
    refine ih ?_
    rw [testing_startTest, mem_dedupNat, List.mem_append, List.mem_singleton]
    rcases h with h | h
    · exact (List.mem_cons.1 h).elim (fun hv => .inr (.inr hv)) .inl
    · exact .inr (.inl h)

theorem startTests_agree {s : State} (l : List Nat) : Agree 2630432 s (l.foldl startTest s) :=
  Agree.foldl (fun _ _ ha => startTest_agree.after rfl ha) (Agree.refl _ _)

theorem physOf_of_cfg_eq {s t : State} (h : t.cfg = s.cfg) : physOf t = physOf s := by
  funext f
  unfold physOf
  rw [h]

theorem cushionPresent_of_cfg_eq {s t : State} (h : t.cfg = s.cfg) : cushionPresent t = cushionPresent s := by
  funext c
  unfold cushionPresent
  rw [h]

theorem partUnits_of_cfg_eq {s t : State} (h : t.cfg = s.cfg) (p : Nat) : partUnits t p = partUnits s p := by
  have hqueues := queuesOf_of_cfg_eq h p
  have hfronds : frondsOf t p = frondsOf s p := by
    unfold frondsOf frondEnabled ownerOfFrond ownerOfCushion cfgOf
    rw [cushionPresent_of_cfg_eq h, h]
  have hcushions : cushionsOf t p = cushionsOf s p := by
    unfold cushionsOf ownerOfCushion cfgOf
    rw [cushionPresent_of_cfg_eq h, h]
  unfold partUnits
  rw [hfronds, hcushions, physOf_of_cfg_eq h]

theorem deviceUnits_of_cfg_eq {s t : State} (h : t.cfg = s.cfg) : deviceUnits t = deviceUnits s := by
  unfold deviceUnits spareAt floorCushion
  rw [cushionPresent_of_cfg_eq h, physOf_of_cfg_eq h, h]

/-! ### PART_START -/

/-- The state in which PART_START's partition runs, before the copies of its first step are raised. -/
def startedState (s : State) (p : Nat) : State :=
  setPartState (logWarm (startWarm s p) p (warmSlots s p) (getF s ANC_STEP_COUNT_STEP p + 1)) p .running

theorem startPart_of_verified {s : State} {p : Nat} (hfail : bitOf (getF s ANC_BOOT_STATUS_VERIFY_FAIL) p = false)
    (hver : bitOf (getF s ANC_BOOT_STATUS_VERIFIED) p = true) :
    startPart s p = .ok (setFbState (spillFullStart (startedState s p) (startCtx (startedState s p) p 0)) p) := by
  unfold startPart
  rw [if_neg (by rw [hfail]; decide), if_neg (by rw [hver]; decide)]
  rfl

theorem startedState_agree {s : State} {p : Nat} : Agree 5070880 s (startedState s p) :=
  setPartState_agree.after rfl (logWarm_agree.after rfl (startWarm_agree.mono rfl))

theorem abortPart_leaves {s : State} {p : Nat} (hs : TablesOk s) :
    (getPart (abortPart s p) p).state = .loaded ∧ (getPart (abortPart s p) p).epochs = [] ∧
    ∀ q ∈ queuesOf s p, Passed (getQ (abortPart s p) q) (getQ s q).tail := by
  unfold abortPart
  extract_lets s1
  have htails := abortIssued_tailsKept (p := p) hs
  have hs1 : TablesOk s1 := resetQueues_agree.tabOk htails.tabOk
  have hs2 : TablesOk (modPart s1 p (fun x => { x with epochs := [], early := [], repeats := none })) := modPart_agree.tabOk hs1
  refine ⟨state_setPartState hs2, ?_, fun q hq => ?_⟩
  · rw [getPart_setPartState hs2, getPart_modPart_same hs1]
  · refine passed_of_queues_eq ((setPartState_agree.area .queues rfl).trans (modPart_agree.area .queues rfl)) ?_
    rw [← htails.tail q]
    exact passed_resetQueues htails.tabOk (by rwa [queuesOf_of_cfg_eq (abortIssued_agree.area .cfg rfl)])

theorem abortPart_issues {ok : PartState → Bool} {s : State} {n : W32} (hf : FreeToIssue s .device n 0x4A [(32, 1)])
    (hp : p8 (entryBytes s .device n) 32 ≤ 7) (hstate : ok (getPart s (p8 (entryBytes s .device n) 32)).state = true) :
    runEntry .device n (· == 0x4A) [(32, 1)] (partBody ok (fun s p => .ok (abortPart s p))) s =
      issued s (abortPart (atBody s .device n) (p8 (entryBytes s .device n) 32)) .device n stOK false .done :=
  partCommand_issues hf rfl hp hstate rfl

theorem partStart_runs {s : State} {p : Nat} (hs : TablesOk s) :
    (getPart (startedState s p) p).state = .running ∧
    (getPart (setFbState (spillFullStart (startedState s p) (startCtx (startedState s p) p 0)) p) p).state = .running := by
  have hrun : (getPart (startedState s p) p).state = .running :=
    state_setPartState (logWarm_agree.tabOk (startWarm_agree.tabOk hs))
  refine ⟨hrun, ?_⟩
  rw [getPart_of_parts_eq (setFbState_agree.area .parts rfl),
    (StateKept.refl (p := p) (startedState_agree.tabOk hs)).spillFullStart.state, hrun]

theorem partStart_issues {s : State} {n : W32} (hs : TablesOk s) (hf : FreeToIssue s .device n 0x48 [(32, 1)]) :
    let p := p8 (entryBytes s .device n) 32
    p ≤ 7 → (getPart s p).state = .loaded → bitOf (getF s ANC_BOOT_STATUS_VERIFY_FAIL) p = false →
    bitOf (getF s ANC_BOOT_STATUS_VERIFIED) p = true →
    runEntry .device n (· == 0x48) [(32, 1)] (partBody (· == .loaded) startPart) s =
      issued s (setFbState (spillFullStart (startedState (atBody s .device n) p) (startCtx (startedState (atBody s .device n) p) p 0)) p)
        .device n stOK false .done := by
  intro p hp hstate hfail hver
  have hkept := atBody_eventKept .device n hs
  refine partCommand_issues hf rfl hp (beq_iff_eq.2 hstate) (startPart_of_verified ?_ ?_)
  · rwa [hkept.getF (by decide)]
  · rwa [hkept.getF (by decide)]

theorem partTest_issues {s : State} {n : W32} (hf : FreeToIssue s .device n 0x4B [(32, 1)]) :
    let p := p8 (entryBytes s .device n) 32
    p ≤ 7 → (getPart s p).state = .loaded → partUnits s p ≠ [] →
    runEntry .device n (· == 0x4B) [(32, 1)] (partBody (· == .loaded) testPart) s =
      issued s ((partUnits s p).foldl startTest (setPartState (atBody s .device n) p .test)) .device n stOK false .test := by
  intro p hp hstate hunits
  refine partCommand_issues hf rfl hp (beq_iff_eq.2 hstate) ?_
  unfold testPart
  dsimp only
  rw [partUnits_of_cfg_eq ((atBody_agree s .device n).area .cfg rfl), if_neg (by rwa [List.isEmpty_iff])]

/-- Of a command of the device queue, the partition's queues on which its rule acts are those before. -/
theorem passed_atBody {s t : State} {n : W32} {p : Nat}
    (h : ∀ q ∈ queuesOf (atBody s .device n) p, Passed (getQ t q) (getQ (atBody s .device n) q).tail) :
    ∀ q ∈ queuesOf s p, Passed (getQ t q) (getQ s q).tail := by
  intro q hq
  rw [← getQ_of_queues_eq ((atBody_agree s .device n).area .queues rfl) q]
  exact h q (by rwa [queuesOf_of_cfg_eq ((atBody_agree s .device n).area .cfg rfl)])

theorem partCommands_rejected {row : (QueueId → W32 → Instr) × Nat × List PartState}
    (hrow : row ∈ [(Instr.partStart, 0x48, [PartState.loaded]), (.partDrain, 0x49, [.running]),
      (.partAbort, 0x4A, [.running, .draining]), (.partTest, 0x4B, [.loaded]), (.partClear, 0x4C, [.faulted])])
    {n : W32} {s : State} (hf : FreeToIssue s .device n row.2.1 [(32, 1)]) :
    let p := p8 (entryBytes s .device n) 32
    (p ≤ 7 → (getPart s p).state ∉ row.2.2 → exec (row.1 .device n) s = .next (rejected s .device n stIllegal 0)) ∧
    (7 < p → exec (row.1 .device n) s = .next (rejected s .device n stBadDesc 0)) := by
  simp only [List.mem_cons, List.not_mem_nil, or_false] at hrow
  intro p
  have hne {st : PartState} {x : PartSt} (h : x.state ∉ [st]) : (x.state == st) = false :=
    beq_eq_false_iff_ne.2 (fun he => h (List.mem_singleton.2 he))
  rcases hrow with rfl | rfl | rfl | rfl | rfl
  · obtain ⟨hstate, hpart⟩ := partCommand_rejected 0x48 (· == .loaded) startPart hf
    exact ⟨fun hp hst => congrArg Host.Outcome.next (hstate hp (hne hst)), fun hp => congrArg Host.Outcome.next (hpart hp)⟩
  · obtain ⟨hstate, hpart⟩ := partCommand_rejected 0x49 (· == .running) (fun s p => .ok (setPartState s p .draining)) hf
    exact ⟨fun hp hst => congrArg Host.Outcome.next (hstate hp (hne hst)), fun hp => congrArg Host.Outcome.next (hpart hp)⟩
  · obtain ⟨hstate, hpart⟩ := partCommand_rejected 0x4A (fun x => x == .running || x == .draining)
      (fun s p => .ok (abortPart s p)) hf
    refine ⟨fun hp hst => congrArg Host.Outcome.next (hstate hp ?_), fun hp => congrArg Host.Outcome.next (hpart hp)⟩
    simpa [not_or] using hst
  · obtain ⟨hstate, hpart⟩ := partCommand_rejected 0x4B (· == .loaded) testPart hf
    exact ⟨fun hp hst => congrArg Host.Outcome.next (hstate hp (hne hst)), fun hp => congrArg Host.Outcome.next (hpart hp)⟩
  · obtain ⟨hstate, hpart⟩ := partCommand_rejected 0x4C (· == .faulted)
      (fun s p => .ok (setPartState (resetQueues s p) p .loaded)) hf
    exact ⟨fun hp hst => congrArg Host.Outcome.next (hstate hp (hne hst)), fun hp => congrArg Host.Outcome.next (hpart hp)⟩

/-- Settles O36: each command's rule acts on its partition, or the entry is rejected before it. -/
theorem partitionCommands : Obligations.PartitionCommands := by
  have hqueues (s : State) (n : W32) : (atBody s .device n).queues = s.queues := (atBody_agree s .device n).area .queues rfl
  refine ⟨fun n s hs hf => ?_, fun n s hs hf => ?_, fun n s hs hf => ?_, fun n s hs hf => ?_, fun n s hs hf => ?_,
    fun row hrow n s hf => partCommands_rejected hrow hf⟩
  all_goals
    intro p
    have hb := atBody_tablesOk .device n hs
  · intro hp hstate hfail hver
    have hv : Agree 5070880 (atBody s .device n) (startedState (atBody s .device n) p) := startedState_agree
    obtain ⟨hrun, hrun1⟩ := partStart_runs (p := p) hb
    exact ⟨_, _, rfl, congrArg Host.Outcome.next (partStart_issues hs hf hp hstate hfail hver), hrun,
      (hv.area .mem rfl).trans (atBody_mem s .device n), hrun1,
      (setFbState_agree.area .queues rfl).trans ((spillFullStart_agree.area .queues rfl).trans ((hv.area .queues rfl).trans (hqueues s n)))⟩
  · intro hp hstate
    exact ⟨_, rfl, congrArg Host.Outcome.next (partCommand_issues hf rfl hp (beq_iff_eq.2 hstate) rfl), state_setPartState hb,
      (setPartState_agree.area .mem rfl).trans (atBody_mem s .device n), (setPartState_agree.area .queues rfl).trans (hqueues s n)⟩
  · intro hp hstate
    obtain ⟨hloaded, hepochs, hpassed⟩ := abortPart_leaves (p := p) hb
    refine ⟨_, congrArg Host.Outcome.next (abortPart_issues hf hp ?_), hloaded, hepochs, passed_atBody hpassed⟩
    rcases hstate with h | h <;> rw [h] <;> rfl
  · intro hp hstate hunits
    have htests := startTests_agree (s := setPartState (atBody s .device n) p .test) (partUnits s p)
    refine ⟨_, congrArg Host.Outcome.next (partTest_issues hf hp hstate hunits), ?_, fun u hu => mem_testing_foldl (.inl hu),
      (htests.area .queues rfl).trans ((setPartState_agree.area .queues rfl).trans (hqueues s n))⟩
    rw [getPart_of_parts_eq (htests.area .parts rfl), state_setPartState hb]
  · intro hp hstate
    refine ⟨_, congrArg Host.Outcome.next (partCommand_issues hf rfl hp (beq_iff_eq.2 hstate) rfl),
      state_setPartState (resetQueues_agree.tabOk hb),
      (setPartState_agree.area .mem rfl).trans ((resetQueues_agree.area .mem rfl).trans (atBody_mem s .device n)), ?_⟩
    exact passed_atBody fun q hq => passed_of_queues_eq (setPartState_agree.area .queues rfl) (passed_resetQueues hb hq)

/-! ### SERVICE -/

theorem EventKept.logRepairs {s t : State} (h : EventKept s t) : EventKept s (logRepairs t) := by
  unfold Machine.logRepairs
  extract_lets s1 s2
  have h1 : EventKept s s1 := h.foldl fun _ _ hu => hu.logEvent
  have h2 : EventKept s s2 := h1.foldl fun _ _ hu => hu.after zeroStack_agree rfl rfl
  exact h2.withMgmt _

theorem issued_agree {s s1 : State} {q : QueueId} {n : W32} {st : Nat} {k : Bool} {w : WaitFor} :
    Agree 1576992 s1 (issued s s1 q n st k w) :=
  modQ_agree.after rfl (wakeFor_agree.after rfl (countOutcome_agree.after rfl (markIssued_agree.mono rfl)))

/-- Settles O37: the device test covers every unit, and SVC_EXIT enters BOOT once its entry has issued. -/
theorem serviceCommands : Obligations.ServiceCommands := by
  refine ⟨fun n s hs hf hparts => ?_, fun n s hs hf hlive => ?_⟩
  · have hcfg : deviceUnits (atBody s .device n) = deviceUnits s := deviceUnits_of_cfg_eq ((atBody_agree s .device n).area .cfg rfl)
    have htests := startTests_agree (s := { atBody s .device n with dev := .service }) (deviceUnits s)
    refine ⟨(deviceUnits s).foldl startTest { atBody s .device n with dev := .service }, ?_, htests.area .dev rfl,
      fun u hu => mem_testing_foldl (.inl hu), (htests.area .queues rfl).trans ((atBody_agree s .device n).area .queues rfl),
      (htests.area .parts rfl).trans (atBody_parts s .device n)⟩
    refine congrArg Host.Outcome.next (runEntry_eq_issued hf rfl ?_)
    unfold svcTestBody
    rw [if_pos ?_, hcfg]
    refine List.all_eq_true.2 fun p hp => ?_
    rw [getPart_atBody]
    rcases hparts p (List.mem_range.1 hp) with h | h <;> rw [h] <;> rfl
  · have hb := atBody_tablesOk .device n hs
    have hrun : runEntry .device n (· == 0x4E) [] (fun s _ => .ok s) s = issued s (atBody s .device n) .device n stOK false .done :=
      runEntry_eq_issued hf rfl rfl
    have hwas : (getQ s .device).live.any (fun i => i.opcode == 0x4E) = false :=
      List.any_eq_false.2 fun i hi he => hlive i hi (eq_of_beq he)
    have hnow : (getQ (issued s (atBody s .device n) .device n stOK false .done) .device).live.any (fun i => i.opcode == 0x4E) = true := by
      rw [(issuedEntryIsLive s _ .device n stOK false .done hb).1, List.any_append]
      exact Bool.or_eq_true_iff.2 (.inr (List.any_eq_true.2 ⟨_, List.mem_singleton_self _, beq_iff_eq.2 hf.1⟩))
    have hexec : svcExit .device n s = enterBoot (logRepairs (issued s (atBody s .device n) .device n stOK false .done)) := by
      unfold svcExit
      dsimp only
      rw [hrun, hwas, hnow]
      rfl
    have hissued : TablesOk (issued s (atBody s .device n) .device n stOK false .done) := issued_agree.tabOk hb
    refine ⟨_, congrArg Host.Outcome.next hexec, rfl, rfl, rfl, rfl, ?_, rfl⟩
    show (logRepairs (issued s (atBody s .device n) .device n stOK false .done)).flash.boots + 1 = _
    rw [(EventKept.refl hissued).logRepairs.boots, issued_agree.area .flash rfl, (atBody_eventKept .device n hs).boots]

end Sys2Proof.Proofs
end

section
/-! SUPPORT. CHECK and COMMIT (R321, R435 to R445). -/

namespace Sys2Proof.Proofs

open Sys2Proof Sys2Proof.Machine Sys2Proof.Safety Sys2Proof.Frame Sys2Proof.Claims Sys2Proof.Laws

/-! ### CHECK -/

/-- The image that a CHECK reads. -/
def checkImage (s : State) (e : List Byte) : List Byte :=
  readBytes (readUnits s (unitsOf (p64 e 32) (p32 e 40))) (p64 e 32) (p32 e 40)

/-- What a CHECK finds in it, and its settings. -/
def checkFound (s : State) (e : List Byte) (i : CheckInput) : List Finding × ImageCfg :=
  evaluate (readUnits s (unitsOf (p64 e 32) (p32 e 40))) (checkImage s e) (p32 e 40) i

/-- The state in which a CHECK's report is written: the image has been read, and a missing signature noted (R435). -/
def checkRead (s : State) (e : List Byte) (i : CheckInput) : State :=
  if imageUnsigned (checkImage s e) (p32 e 40) i then sigFail (readUnits s (unitsOf (p64 e 32) (p32 e 40))) 1
  else readUnits s (unitsOf (p64 e 32) (p32 e 40))

/-- What a CHECK stages (R436). -/
def checkStaged (s : State) (e : List Byte) (i : CheckInput) : Option StoredImage :=
  if findingStatus (checkFound s e i).1 = stOK then
    some (stagedImage (checkImage s e) (imageDigest (checkImage s e)) (checkFound s e i).2 (checkRead s e i).cfg.committed)
  else none

/-- The state with an image staged or none, and its registers. -/
def withStaged (s : State) (staged : Option StoredImage) (digest : List Byte) (st : Nat) : State :=
  let s2 := { s with cfg := { s.cfg with staged := staged } }
  let s3 := setF (setF s2 CFG_STATE_STAGED 0 (b2n staged.isSome)) CFG_STAGED_DIGEST_DIGEST 0
    (if staged.isSome then leAt digest 0 8 else 0)
  bump (bump s3 CFG_EVENTS_CHECKS 0 1) CFG_EVENTS_CHECK_FAILS 0 (b2n (decide (st ≠ stOK)))

theorem checkRead_agree {s : State} {e : List Byte} {i : CheckInput} : Agree 5055008 s (checkRead s e i) := by
  unfold checkRead
  split
  · exact sigFail_agree.after rfl readUnits_agree
  · exact readUnits_agree

theorem readBytes_of_mem_eq {s t : State} (h : t.mem = s.mem) (k n : Nat) : readBytes t k n = readBytes s k n := by
  unfold readBytes
  exact List.map_congr_left fun j _ => readByte_of_mem_eq h _

theorem checkImage_eq (s : State) (e : List Byte) : checkImage s e = readBytes s (p64 e 32) (p32 e 40) :=
  readBytes_of_mem_eq (readUnits_agree.area .mem rfl) _ _

/-- A CHECK that is not rejected: the report goes to memory, and the image is staged where no stage fails. -/
theorem checkImageBody_of_accepts {i : CheckInput} {s : State} {e : List Byte} (h : Accepts (checkImageBody i s e)) :
    checkImageBody i s e = .effect (withStaged (writeBytes { checkRead s e i with
          free := (checkRead s e i).free + (checkFound s e i).1.length } (p64 e 48)
        (reportBytes (findingStatus (checkFound s e i).1) (checkFound s e i).1 (imageDigest (checkImage s e))
          (sliceB (checkImage s e) 8 8) (p32 e 56) (checkRead s e i).free))
      (checkStaged s e i) (imageDigest (checkImage s e)) (findingStatus (checkFound s e i).1))
      (findingStatus (checkFound s e i).1) 0 false .done := by
  obtain ⟨s1, st, d, k, w, hbody⟩ := h
  by_cases hparams : p64 e 32 % 64 ≠ 0 ∨ p64 e 48 % 64 ≠ 0 ∨ p32 e 40 < 128 ∨ p32 e 40 > 2 ^ 24 ∨ p32 e 56 < 64 ∨ p32 e 56 > 2 ^ 20 ∨
      p32 e 56 % 16 ≠ 0
  · have hreject : checkImageBody i s e = .reject stBadDesc 0 := if_pos hparams
    exact nomatch hbody.symm.trans hreject
  · by_cases hrange : (!hbmRange (p64 e 32) (p32 e 40) || !hbmRange (p64 e 48) (p32 e 56)) = true
    · have hreject : checkImageBody i s e = .reject stBounds 0 := (if_neg hparams).trans (if_pos hrange)
      exact nomatch hbody.symm.trans hreject
    · exact (if_neg hparams).trans (if_neg hrange)

theorem getF_bump_ne {s : State} {f g : Fld} {i j k : Nat} (h : TablesOk s) (hne : g.at j ≠ f.at i) :
    getF (bump s f i k) g j = getF s g j := by
  unfold getF
  rw [getReg_bump_ne h hne]

theorem getF_withStaged {s : State} {staged : Option StoredImage} {digest : List Byte} {st : Nat} (h : TablesOk s) :
    getF (withStaged s staged digest st) CFG_STATE_STAGED 0 = if staged.isSome then 1 else 0 := by
  unfold withStaged
  extract_lets c s2 s3
  have h2 : TablesOk s2 := ⟨h.regs, h.resets, h.queues, h.fronds, h.slots, h.parts, h.ports⟩
  have hset : TablesOk (setF s2 CFG_STATE_STAGED 0 (b2n staged.isSome)) := setF_agree.tabOk h2
  have h3 : TablesOk s3 := setF_agree.tabOk hset
  rw [getF_bump_ne (bump_agree.tabOk h3) (by decide), getF_bump_ne h3 (by decide), getF_setF_ne hset (by decide),
    getF_setF_same h2 (by decide)]
  unfold b2n
  split <;> rfl

theorem withStaged_mem (s : State) (staged : Option StoredImage) (digest : List Byte) (st : Nat) :
    (withStaged s staged digest st).mem = s.mem :=
  (bump_agree.area .mem rfl).trans (bump_agree.area .mem rfl)

theorem withStaged_cfg (s : State) (staged : Option StoredImage) (digest : List Byte) (st : Nat) :
    (withStaged s staged digest st).cfg = { s.cfg with staged := staged } :=
  (bump_agree.area .cfg rfl).trans (bump_agree.area .cfg rfl)

/-- Settles O34: a CHECK that is not rejected writes its report and stages what passes. -/
theorem checkReports : Obligations.CheckReports := by
  refine ⟨fun n i s hs hf => ?_, fun n i s hf => ?_⟩
  · intro e s0 b r st hacc
    have hb := atBody_agree s .device n
    have himage : checkImage (atBody s .device n) e = b := (checkImage_eq _ e).trans (readBytes_of_mem_eq (hb.area .mem rfl) _ _)
    have hbody := checkImageBody_of_accepts hacc
    have hu : Agree 5055008 (atBody s .device n) (checkRead (atBody s .device n) e i) := checkRead_agree
    have hfound : checkFound (atBody s .device n) e i = r := by
      unfold checkFound
      rw [himage]
    have hstaged : checkStaged (atBody s .device n) e i =
        if st = stOK then some (stagedImage b (imageDigest b) r.2 s.cfg.committed) else none := by
      unfold checkStaged
      rw [hfound, himage, hu.area .cfg rfl, hb.area .cfg rfl]
    rw [hstaged, hfound, himage] at hbody
    generalize checkRead (atBody s .device n) e i = u at hbody hu
    have hv : TablesOk { u with free := u.free + r.1.length } := by
      obtain ⟨h1, h2, h3, h4, h5, h6, h7⟩ := hu.tabOk (hb.tabOk hs)
      exact ⟨h1, h2, h3, h4, h5, h6, h7⟩
    have hw {v : State} {k : Nat} {l : List Byte} : Agree 5055264 v (writeBytes v k l) := writeBytes_agree
    refine ⟨_, { u with free := u.free + r.1.length }, u.free, congrArg Host.Outcome.next (runEntry_eq_issued hf rfl hbody),
      (hu.area .mem rfl).trans (hb.area .mem rfl), withStaged_mem _ _ _ _, ?_, ?_, ?_, ?_⟩
    · rw [withStaged_cfg]
    · rw [getF_withStaged (hw.tabOk hv)]
      show (if (if st = stOK then some _ else none : Option StoredImage).isSome = true then 1 else 0) = _
      split <;> rfl
    · rw [withStaged_cfg, hw.area .cfg rfl]
      show u.cfg.committed = _
      rw [hu.area .cfg rfl, hb.area .cfg rfl]
    · rw [withStaged_cfg, hw.area .cfg rfl]
      show u.cfg.lastEpoch = _
      rw [hu.area .cfg rfl, hb.area .cfg rfl]
  · intro e hparams
    refine congrArg Host.Outcome.next (runEntry_eq_rejected hf rfl ?_)
    unfold checkImageBody
    exact if_pos hparams

end Sys2Proof.Proofs
end

section
/-! SUPPORT. COMMIT: its issue, its wait and its effect (R321, R438 to R445). -/

namespace Sys2Proof.Proofs

open Sys2Proof Sys2Proof.Machine Sys2Proof.Safety Sys2Proof.Frame Sys2Proof.Claims Sys2Proof.Laws

/-! ### The device queue -/

/-- From `s` to `t` the device queue is the same. -/
structure DeviceQKept (s t : State) : Prop where
  tabOk : TablesOk t
  queue : getQ t .device = getQ s .device

theorem DeviceQKept.refl {s : State} (h : TablesOk s) : DeviceQKept s s := ⟨h, rfl⟩

theorem DeviceQKept.after {A : Nat} {s t u : State} (ha : Agree A t u) (hA : A.testBit Area.queues.idx = false) (h : DeviceQKept s t) :
    DeviceQKept s u :=
  ⟨ha.tabOk h.tabOk, (getQ_of_queues_eq (ha.area .queues hA) .device).trans h.queue⟩

theorem DeviceQKept.foldl {β : Type} {g : State → β → State} {s t : State} {l : List β}
    (hg : ∀ b ∈ l, ∀ u, DeviceQKept s u → DeviceQKept s (g u b)) (h : DeviceQKept s t) : DeviceQKept s (l.foldl g t) := by
  induction l generalizing t with
  | nil => exact h
  | cons b l ih =>
    exact ih (fun c hc => hg c (List.mem_cons_of_mem _ hc)) (hg b List.mem_cons_self t h)

/-- Other queues are dropped. -/
theorem getQ_device_of_filter {s t : State} {keep : Nat × QueueSt → Bool} (h : TablesOk s) (hq : t.queues = s.queues.filter keep)
    (hkeep : ∀ v, keep (320, v) = true) : getQ t .device = getQ s .device := by
  unfold getQ tblGet
  rw [hq, tblFind_filter h.queues.1]
  cases hf : tblFind s.queues (qNum .device) with
  | none => rfl
  | some v => rw [Option.filter_some, show keep (qNum .device, v) = true from hkeep v, if_pos rfl]

theorem DeviceQKept.resetOwner {s t : State} {c : Nat} (hc : c < 24) (h : DeviceQKept s t) : DeviceQKept s (resetOwner t c) := by
  refine ⟨resetOwner_agree.tabOk h.tabOk, (getQ_device_of_filter h.tabOk rfl fun v => ?_).trans h.queue⟩
  simp only [Bool.and_eq_true, Bool.not_eq_true', bne_iff_ne, ne_eq, show decide (320 < 288) = false from rfl, Bool.false_and,
    true_and]
  omega

theorem DeviceQKept.resetPartRegs {s t : State} {p : Nat} (hp : p < 8) (h : DeviceQKept s t) :
    DeviceQKept s (resetPartRegs t p) := by
  refine ⟨resetPartRegs_agree.tabOk h.tabOk, (getQ_device_of_filter h.tabOk rfl fun v => ?_).trans h.queue⟩
  simp only [bne_iff_ne, ne_eq]
  omega

theorem DeviceQKept.movePart {s t : State} {old new : ImageCfg} {boot : Bool} {skip : List Nat} {p : Nat} (hp : p < 8)
    (h : DeviceQKept s t) : DeviceQKept s (movePart t old new boot skip p) := by
  unfold Machine.movePart
  extract_lets c0 c1 g0 g1 idle start touched s1 fresh m s2 k kept s3 v f good
  have h1 : DeviceQKept s s1 := by
    refine h.foldl fun c hc u hu => ?_
    have hlt : c < 24 := List.mem_range.1 (List.mem_filter.1 hc).1
    exact (hu.resetOwner hlt).foldl fun i _ w hw => hw.after (modFrond_agree fun _ _ _ => nil_wf) rfl
  have h2 : DeviceQKept s s2 := by
    unfold s2
    split
    · exact h1
    · exact ⟨⟨h1.tabOk.regs, h1.tabOk.resets, h1.tabOk.queues, h1.tabOk.fronds, h1.tabOk.slots, h1.tabOk.parts, h1.tabOk.ports⟩, h1.queue⟩
  have h3 : DeviceQKept s s3 := by
    unfold s3
    split
    · exact (h2.resetPartRegs hp).after setPart_agree rfl
    · split
      · exact h2.after setPart_agree rfl
      · exact h2
  split
  · exact h3
  · exact (h3.after setF_agree rfl).after setF_agree rfl

/-! ### The instant of R441 -/

/-- A COMMIT's settings take effect: the image is the committed one, and the device queue stays. -/
theorem applyImage_leaves {s : State} {img : StoredImage} (h : TablesOk s) :
    DeviceQKept s (applyImage s img false []) ∧ (applyImage s img false []).cfg = { s.cfg with committed := img } := by
  unfold applyImage
  extract_lets +onlyGivenNames old new changed s1 c s2 s3 s4 s5 s6
  have hchanged : ∀ p ∈ changed, p < 8 := by
    unfold changed changedParts
    exact fun p hp => List.mem_range.1 (List.mem_filter.1 hp).1
  clear_value changed
  have h1 : Agree 5062688 s s1 := Agree.foldl (fun _ _ ha => changeRotations_agree.after rfl ha) (Agree.refl _ _)
  have hq1 : DeviceQKept s s1 := (DeviceQKept.refl h).after h1 rfl
  have hq2 : DeviceQKept s s2 := ⟨⟨hq1.tabOk.regs, hq1.tabOk.resets, hq1.tabOk.queues, hq1.tabOk.fronds, hq1.tabOk.slots,
    hq1.tabOk.parts, hq1.tabOk.ports⟩, hq1.queue⟩
  have hc2 : s2.cfg = { s.cfg with committed := img } := by
    have hcfg : s1.cfg = s.cfg := h1.area .cfg rfl
    exact congrArg (fun c : CfgSt => { c with committed := img }) hcfg
  clear_value s2
  have hmoved : DeviceQKept s (changed.foldl (fun s p => movePart s old new false [] p) s2) :=
    hq2.foldl fun p hp u hu => hu.movePart (hchanged p hp)
  have hmove : Agree 552992 s2 (changed.foldl (fun s p => movePart s old new false [] p) s2) :=
    Agree.foldl (fun _ _ ha => movePart_agree.after rfl ha) (Agree.refl _ _)
  have hq3 : DeviceQKept s s3 := hmoved.after noteDies_agree rfl
  have hc3 : s3.cfg = s2.cfg := (noteDies_agree.area .cfg rfl).trans (hmove.area .cfg rfl)
  clear_value s3
  have h6 : Agree 5079072 s3 s6 := by
    refine Agree.foldl (fun u p hu => ?_) ?_
    · split
      · exact modPort_agree.after rfl (enterTrain_agree.after rfl hu)
      · exact hu
    · exact showFeed_agree.after rfl (setF_agree.after rfl (setF_agree.after rfl (raiseCounter_agree.mono rfl)))
  have hc6 : s6.cfg = { s.cfg with committed := img } := (h6.area .cfg rfl).trans (hc3.trans hc2)
  split
  · exact ⟨(hq3.after h6 rfl).after buildRoutes_agree rfl, (buildRoutes_agree.area .cfg rfl).trans hc6⟩
  · exact ⟨hq3.after h6 rfl, hc6⟩

/-! ### The end of a COMMIT -/

theorem liveCommit_mem {s : State} {i : Issued} (h : liveCommit s = some i) : i ∈ (getQ s .device).live := List.mem_of_find?_eq_some h

/-- A settled entry has its status and may complete. -/
theorem mem_settleRun {s : State} {i : Issued} {st : Nat} (h : TablesOk s) (hi : i ∈ (getQ s .device).live) :
    { i with status := st, waits := .done } ∈ (getQ (settleRun s .device i.n st) .device).live := by
  unfold settleRun
  rw [getQ_modQ_same h]
  exact List.mem_map.2 ⟨i, hi, if_pos rfl⟩

theorem failCommit_leaves {s : State} {i : Issued} {st : Nat} (h : TablesOk s) (hi : i ∈ (getQ s .device).live) :
    (failCommit s i.n st).cfg = s.cfg ∧ (failCommit s i.n st).parts = s.parts ∧
    { i with status := st, waits := .done } ∈ (getQ (failCommit s i.n st) .device).live := by
  have hw := (DeviceQKept.refl h).after (commitWaits_agree (x1 := 0) (x2 := 0)) rfl
  refine ⟨failCommit_agree.area .cfg rfl, failCommit_agree.area .parts rfl, ?_⟩
  unfold failCommit
  rw [getQ_of_queues_eq (bump_agree.area .queues rfl)]
  exact mem_settleRun hw.tabOk (hw.queue ▸ hi)

/-- A COMMIT under MODE = LOCAL takes effect (R441, R444). -/
theorem applyCommit_leaves {s : State} {i : Issued} {img : StoredImage} (h : TablesOk s) (hi : i ∈ (getQ s .device).live)
    (hstaged : s.cfg.staged = some img) (hmode : (commitParams s i).1 = 0) :
    (applyCommit s i).cfg.committed = (if img.cfg = cfgOf s then s.cfg.committed else img) ∧
    (applyCommit s i).cfg.lastEpoch = s.cfg.lastEpoch ∧
    { i with status := stOK, waits := .done } ∈ (getQ (applyCommit s i) .device).live ∧
    ((commitParams s i).2.2.2 = 1 → (applyCommit s i).flash.image = some (applyCommit s i).cfg.committed) := by
  unfold applyCommit
  rw [hstaged]
  dsimp -zeta only
  rw [show commitParams s i = (0, (commitParams s i).2.1, (commitParams s i).2.2.1, (commitParams s i).2.2.2) from
    Prod.ext hmode rfl]
  dsimp -zeta only
  extract_lets +onlyGivenNames s1 c s2 s3
  have h1 : DeviceQKept s s1 ∧ s1.cfg.committed = (if img.cfg = cfgOf s then s.cfg.committed else img) ∧
      s1.cfg.lastEpoch = s.cfg.lastEpoch := by
    unfold s1
    split
    · exact ⟨.refl h, rfl, rfl⟩
    · obtain ⟨hq, hcfg⟩ := applyImage_leaves (img := img) h
      rw [hcfg]
      exact ⟨hq, rfl, rfl⟩
  obtain ⟨hq1, hcommitted, hepoch⟩ := h1
  clear_value s1
  have h2 : s2 = s1 := if_neg (by decide)
  have h3 : DeviceQKept s s3 ∧ s3.cfg = s1.cfg ∧ ((commitParams s i).2.2.2 = 1 → s3.flash.image = some s1.cfg.committed) := by
    unfold s3
    rw [h2]
    split
    · exact ⟨hq1.after persistImage_agree rfl, rfl, fun _ => rfl⟩
    · next hno => exact ⟨hq1, rfl, fun hp => absurd hp hno⟩
  obtain ⟨hq3, hcfg3, hpersist⟩ := h3
  clear_value s3
  have hw : DeviceQKept s (commitWaits s3 0 0) := hq3.after commitWaits_agree rfl
  have hend : Agree 4128 s3 (bump (settleRun (commitWaits s3 0 0) .device i.n stOK) CFG_EVENTS_COMMITS 0 1) :=
    bump_agree.after rfl (settleRun_agree.after rfl (commitWaits_agree.mono rfl))
  refine ⟨?_, ?_, ?_, fun hp => ?_⟩
  · rw [hend.area .cfg rfl, hcfg3, hcommitted]
  · rw [hend.area .cfg rfl, hcfg3, hepoch]
  · rw [getQ_of_queues_eq (bump_agree.area .queues rfl)]
    exact mem_settleRun hw.tabOk (hw.queue ▸ hi)
  · rw [hend.area .cfg rfl, hend.area .flash rfl, hcfg3, hpersist hp]

/-! ### COMMIT is tried -/

theorem updateFloor_eq_self {s : State} (h : floorDue s = false) : updateFloor s = s := by
  unfold updateFloor
  extract_lets
  exact if_pos (by rw [h]; rfl)

theorem insertBy_ne_nil {α : Type} (le : α → α → Bool) (a : α) (l : List α) : insertBy le a l ≠ [] := by
  cases l with
  | nil => exact List.cons_ne_nil _ _
  | cons b l =>
    unfold insertBy
    split <;> exact List.cons_ne_nil _ _

theorem sortFindings_isEmpty (l : List Finding) : (sortFindings l).isEmpty = l.isEmpty := by
  cases l with
  | nil => rfl
  | cons f l => exact (List.isEmpty_eq_false_iff.2 (insertBy_ne_nil _ _ _))

section
variable {s : State} {i : Issued} {img : StoredImage} {feeds : List FeedRead} (hlive : liveCommit s = some i) (hwaits : i.waits = .settle)
  (hstaged : s.cfg.staged = some img)
include hlive hwaits hstaged

theorem tryCommit_of_unsettled (h : commitSettled s img = false) : tryCommit feeds s = commitWaits s 1 0 := by
  unfold tryCommit
  rw [hlive, hstaged]
  dsimp only
  rw [if_neg (Classical.not_not.2 hwaits), if_pos (by rw [h]; rfl)]

/-- A settled COMMIT with no pair to test and no change of the floorplan: its last stages decide, and then its MODE. -/
theorem tryCommit_of_settled (h : commitSettled s img = true) (hpairs : pairsToTest s = []) (hfloor : floorDue s = false) :
    (lateStages s img.cfg feeds ≠ [] →
      tryCommit feeds s = failCommit s i.n (findingStatus (sortFindings (lateStages s img.cfg feeds)))) ∧
    (lateStages s img.cfg feeds = [] → (commitParams s i).1 = 0 → tryCommit feeds s = applyCommit s i) := by
  have hlate : tryCommit feeds s = if !(sortFindings (lateStages s img.cfg feeds)).isEmpty then
        failCommit s i.n (findingStatus (sortFindings (lateStages s img.cfg feeds)))
      else if (commitParams s i).1 = 0 then applyCommit s i
      else joinBarrier (modQ (commitWaits s 0 1) .device (fun x => { x with
          live := x.live.map (fun y => if y.n = i.n then { y with waits := .barrier (commitParams s i).2.1 } else y) }))
        (commitParams s i).2.1 (commitParams s i).2.2.1 (leAt img.digest 0 8)
        (participants (modQ (commitWaits s 0 1) .device (fun x => { x with
          live := x.live.map (fun y => if y.n = i.n then { y with waits := .barrier (commitParams s i).2.1 } else y) })) img.cfg
          (commitParams s i).2.2.1) feeds := by
    unfold tryCommit
    rw [hlive, hstaged]
    dsimp only
    rw [if_neg (Classical.not_not.2 hwaits), if_neg (by rw [h]; decide), if_neg (by rw [hpairs]; decide),
      if_neg (by rw [hfloor, Bool.and_false]; decide), updateFloor_eq_self hfloor]
  rw [hlate, sortFindings_isEmpty]
  refine ⟨fun hne => if_pos ?_, fun hnone hmode => ?_⟩
  · rw [List.isEmpty_eq_false_iff.2 hne]
    rfl
  · rw [hnone, if_neg (by decide), if_pos hmode]

end

/-- A COMMIT's issue changes neither the records of the device queue nor its halted entries. -/
theorem commitIssue_of_issued {s s1 : State} {n : W32} (h : TablesOk s1) (hq : getQ s1 .device = getQ s .device)
    (hrun : runEntry .device n (· == 0x41) [(32, 1), (40, 8), (48, 3)] commitImageBody s = issued s s1 .device n stOK false .settle) :
    commitIssue .device n s = issued s s1 .device n stOK false .settle := by
  have hmid : Agree 524320 (markIssued s1 .device n) (wakeFor (countOutcome (markIssued s1 .device n) .device false stOK false) .device) :=
    wakeFor_agree.after rfl (countOutcome_agree.mono rfl)
  have hmark : TablesOk (markIssued s1 .device n) := markIssued_agree.tabOk h
  have hpair : TablesOk (pairIssued s1 .device) := ⟨h.regs, h.resets, h.queues, h.fronds, h.slots, h.parts, h.ports⟩
  have hissued : (getQ (issued s s1 .device n stOK false .settle) .device).record = (getQ s1 .device).record ∧
      (getQ (issued s s1 .device n stOK false .settle) .device).halted = (getQ s1 .device).halted := by
    have hmarkQ : getQ (markIssued s1 .device n) .device = { getQ s1 .device with
        issued := (getQ s1 .device).issued.add n
        redo := (getQ s1 .device).redo.erase n
        again := (getQ s1 .device).again.filter (fun i => i.n != n) } := getQ_modQ_same hpair
    unfold issued
    rw [getQ_modQ_same (hmid.tabOk hmark), getQ_of_queues_eq (hmid.area .queues rfl), hmarkQ]
    exact ⟨rfl, rfl⟩
  unfold commitIssue
  dsimp only
  rw [hrun, hissued.1, hissued.2, hq]
  refine if_neg ?_
  rintro (h | h)
  · exact h rfl
  · exact Nat.lt_irrefl _ h

/-- A COMMIT's own checks lead to one issue, or to a rejection. -/
theorem commitImageBody_cases (s : State) (e : List Byte) :
    commitImageBody s e = .effect s stOK 0 false .settle ∨ ∃ st, commitImageBody s e = .reject st 0 := by
  unfold commitImageBody
  dsimp only
  split
  · exact .inr ⟨_, rfl⟩
  · split
    · exact .inr ⟨_, rfl⟩
    · split
      · exact .inr ⟨_, rfl⟩
      · split
        · exact .inr ⟨_, rfl⟩
        · split
          · exact .inr ⟨_, rfl⟩
          · exact .inl rfl

theorem commitImageBody_of_accepts {s : State} {e : List Byte} (h : Accepts (commitImageBody s e)) :
    commitImageBody s e = .effect s stOK 0 false .settle := by
  obtain ⟨s1, st, d, k, w, hbody⟩ := h
  refine (commitImageBody_cases s e).resolve_right ?_
  rintro ⟨st', hreject⟩
  exact nomatch hbody.symm.trans hreject

/-- Settles O35: the issue, and then the cases of one try. -/
theorem commitTakesEffect : Obligations.CommitTakesEffect := by
  refine ⟨fun n feeds s hs hf hnone hacc => ?_, fun n feeds s i img hs hlive hn hwaits hstaged => ?_⟩
  · have hrun : runEntry .device n (· == 0x41) [(32, 1), (40, 8), (48, 3)] commitImageBody s =
        issued s (atBody s .device n) .device n stOK false .settle :=
      runEntry_eq_issued hf rfl (commitImageBody_of_accepts hacc)
    have hq : getQ (atBody s .device n) .device = getQ s .device :=
      getQ_of_queues_eq ((atBody_agree s .device n).area .queues rfl) .device
    show execCommit .device n feeds s = _
    unfold execCommit
    rw [hnone]
    exact congrArg (fun t => Host.Outcome.next (tryCommit feeds t)) (commitIssue_of_issued (atBody_tablesOk .device n hs) hq hrun)
  · have hexec : exec (.commit .device n feeds) s = .next (tryCommit feeds s) := by
      show execCommit .device n feeds s = _
      unfold execCommit
      rw [hlive]
      exact congrArg Host.Outcome.next (if_pos ⟨rfl, hn⟩)
    rw [hexec]
    refine ⟨fun h => congrArg Host.Outcome.next (tryCommit_of_unsettled hlive hwaits hstaged h), fun h hpairs hfloor => ?_⟩
    obtain ⟨hfails, happlies⟩ := tryCommit_of_settled (feeds := feeds) hlive hwaits hstaged h hpairs hfloor
    refine ⟨fun hne => ?_, fun hnone hmode => ?_⟩
    · rw [hfails hne]
      exact ⟨_, rfl, failCommit_leaves hs (liveCommit_mem hlive)⟩
    · rw [happlies hnone hmode]
      exact ⟨_, rfl, applyCommit_leaves hs (liveCommit_mem hlive) hstaged hmode⟩

end Sys2Proof.Proofs
end

section
/-! SUPPORT. Ports and arriving flits (R335 to R339, R453, R454). -/

namespace Sys2Proof.Proofs

open Sys2Proof Sys2Proof.Machine Sys2Proof.Safety Sys2Proof.Frame Sys2Proof.Claims Sys2Proof.Laws

/-! ### Ports -/

theorem getPort_of_ports_eq {s t : State} (h : t.ports = s.ports) (p : Nat) : getPort t p = getPort s p := by
  unfold getPort; rw [h]

theorem getPort_modPort_same {s : State} {p : Nat} {g : PortSt → PortSt} (h : TablesOk s) : getPort (modPort s p g) p = g (getPort s p) :=
  getPort_setPort_same h

theorem getPort_modPort_ne {s : State} {p j : Nat} {g : PortSt → PortSt} (h : TablesOk s) (hj : j ≠ p) :
    getPort (modPort s p g) j = getPort s j :=
  getPort_setPort_ne h hj

theorem getPort_setPortState {s : State} {p : Nat} {st : PortState} (h : TablesOk s) :
    getPort (setPortState s p st) p = { getPort s p with state := st } :=
  (getPort_of_ports_eq (setF_agree.area .ports rfl) p).trans (getPort_modPort_same h)

theorem getPort_enterTrain {s : State} {p : Nat} (h : TablesOk s) :
    getPort (enterTrain s p) p = { (getPort s p).restarted with state := .train } := by
  unfold enterTrain
  rw [getPort_setPortState (modPort_agree.tabOk h), getPort_modPort_same h]

theorem getPort_upToTrain {s : State} {p cause : Nat} (h : TablesOk s) :
    (getPort (upToTrain s p cause) p).state = .train ∧ (getPort (upToTrain s p cause) p).replay = [] := by
  unfold upToTrain
  rw [getPort_of_ports_eq (bump_agree.area .ports rfl), getPort_enterTrain (leaveUp_agree.tabOk h)]
  exact ⟨rfl, rfl⟩

/-! ### A byte string of a flit -/

theorem sliceB_sliceB {l : List Byte} {k m o n : Nat} (h : o + n ≤ m) : sliceB (sliceB l k m) o n = sliceB l (k + o) n := by
  refine List.ext_getElem (by rw [sliceB_length, sliceB_length]) fun i h1 h2 => ?_
  have hi : i < n := by rwa [sliceB_length] at h2
  have hget (b : List Byte) (o n i : Nat) (hi : i < n) (hlt : i < (sliceB b o n).length) : (sliceB b o n)[i] = (b[o + i]?).getD 0#8 := by
    unfold sliceB at hlt ⊢
    dsimp only at hlt ⊢
    by_cases hb : o + i < b.length
    · rw [List.getElem_append_left (by simp; omega), List.getElem_take, List.getElem_drop, List.getElem?_eq_getElem hb]
      rfl
    · rw [List.getElem_append_right (by simp; omega), List.getElem_replicate, List.getElem?_eq_none (by omega)]
      rfl
  rw [hget _ _ _ _ hi, hget _ _ _ _ hi, List.getElem?_eq_getElem (by rw [sliceB_length]; omega), Option.getD_some,
    hget _ _ _ _ (by omega), Nat.add_assoc]

theorem leAt_sliceB {l : List Byte} {k m o n : Nat} (h : o + n ≤ m) : leAt (sliceB l k m) o n = leAt l (k + o) n := by
  unfold leAt
  rw [sliceB_sliceB h]

/-! ### The fields of a header -/

/-- The port with the fields of a header that asks for no replay taken (R335, R336). -/
def withFields (x : PortSt) (h : LinkHead) : PortSt :=
  let kept := if h.ackV then x.replay.filter (fun f => seqBefore h.ack f.seq) else x.replay
  let progress := decide (kept.length < x.replay.length)
  let key := h.crVc * 3 + h.crHc
  let old := tblGet 0 x.granted key
  let more := if h.crV then (h.crCount + 64 - old % 64) % 64 else 0
  let resend := match x.resend with
    | some r => if kept.any (fun f => f.seq == r) then some r else (kept.head?).map (·.seq)
    | none => none
  { x with
    replay := kept
    resend := resend
    replays := if progress then 0 else x.replays
    granted := tblSet 0 x.granted key (old + more)
    credits := tblModify 0 x.credits key (· + more) }

theorem takeFields_of_no_nak {s : State} {p : Nat} {h : LinkHead} (hnak : h.nak = false) :
    takeFields s p h = modPort s p (fun _ => withFields (getPort s p) h) := by
  unfold takeFields
  dsimp only
  rw [if_neg (by rw [hnak]; exact Bool.false_ne_true)]
  rfl

theorem fieldsTaken_eq {s : State} {p : Nat} {h : LinkHead} (hs : TablesOk s) (hnak : h.nak = false) :
    fieldsTaken s p h = withFields (getPort s p) h := by
  unfold fieldsTaken
  rw [takeFields_of_no_nak hnak, getPort_modPort_same hs]

/-! ### Flits -/

/-- The FEC counts of an arriving flit (R338). -/
def fecCounted (s : State) (p : Nat) (fl : FlitIn) : State :=
  bump (bump s FAB_PORT_ERR_FEC_CORR p fl.corrected) FAB_PORT_ERR_FEC_UNCORR p fl.lost

theorem fecCounted_agree {s : State} {p : Nat} {fl : FlitIn} : Agree 32 s (fecCounted s p fl) :=
  bump_agree.after rfl bump_agree

theorem getPort_fecCounted (s : State) (p : Nat) (fl : FlitIn) (g : Nat) : getPort (fecCounted s p fl) g = getPort s g :=
  getPort_of_ports_eq (fecCounted_agree.area .ports rfl) g

section
variable {s : State} {p : Nat} {fl : FlitIn}

/-- A flit that fails its check (R338). -/
theorem arrive_of_bad (kinds : List Nat) (hstate : (getPort s p).state = .up ∨ (getPort s p).state = .ident)
    (hbad : fl.fecBad = true ∨ fl.bytes.length ≠ 256 ∨ leAt fl.bytes 252 4 ≠ crc32c (sliceB fl.bytes 0 252)) :
    arrive s p kinds fl = modPort (bump (fecCounted s p fl) FAB_PORT_ERR_CRC_ERR p 1) p askReplay := by
  unfold arrive
  dsimp only
  rw [if_neg (fun hno => hstate.elim hno.1 hno.2), if_pos]
  · rfl
  · rcases hbad with h | h | h
    · rw [h]; rfl
    · rw [decide_eq_false h, Bool.and_false, Bool.false_and]; rfl
    · rw [decide_eq_false h, Bool.and_false]; rfl

variable {h : LinkHead} (hgood : GoodFlit s p fl h)
include hgood

theorem arrive_of_other_kind {k : Nat} (hkind : h.kind ≠ k) : arrive s p [k] fl = s := by
  obtain ⟨hstate, hfec, hlen, hcrc, hhead, -⟩ := hgood
  unfold arrive
  dsimp only
  rw [if_neg (fun hno => hstate.elim hno.1 hno.2), if_neg (by rw [hfec, hlen, hcrc]; simp), ← hhead, if_pos]
  simp [hkind]

/-- A flit of the row's kind, once its header's fields have been taken (R338). -/
theorem arrive_of_kind (hs : TablesOk s) :
    arrive s p [h.kind] fl =
      let s1 := takeFields (fecCounted s p fl) p h
      let y := withFields (getPort s p) h
      if h.kind = 2 then
        if seqBefore ((y.expect + 4095) % 4096) h.seq then modPort s1 p askReplay else s1
      else if h.seq ≠ y.expect then
        if seqBefore h.seq y.expect then s1 else modPort s1 p askReplay
      else
        let s2 := modPort s1 p (fun z => { z with expect := (z.expect + 1) % 4096, nak := false })
        if h.kind = 0 then modPort s2 p (fun z => takeData z h (sliceB fl.bytes 8 244))
        else takeIdent s2 p (sliceB fl.bytes 8 244) := by
  obtain ⟨hstate, hfec, hlen, hcrc, hhead, hnak⟩ := hgood
  have hy : getPort (takeFields (fecCounted s p fl) p h) p = withFields (getPort s p) h := by
    rw [takeFields_of_no_nak hnak, getPort_modPort_same (fecCounted_agree.tabOk hs), getPort_fecCounted]
  unfold arrive
  dsimp only
  rw [if_neg (fun hno => hstate.elim hno.1 hno.2), if_neg (by rw [hfec, hlen, hcrc]; simp), ← hhead, if_neg (by simp)]
  rw [show getPort (takeFields (bump (bump s FAB_PORT_ERR_FEC_CORR p fl.corrected) FAB_PORT_ERR_FEC_UNCORR p fl.lost) p h) p =
    withFields (getPort s p) h from hy, if_neg (show ¬(withFields (getPort s p) h).state ≠ (getPort s p).state from Classical.not_not.2 rfl)]
  rfl

end

/-- The state in which a flit's header has been taken: only registers and the port differ. -/
theorem takenFields_agree {s : State} {p : Nat} {fl : FlitIn} {h : LinkHead} (hnak : h.nak = false) :
    Agree 32800 s (takeFields (fecCounted s p fl) p h) := by
  rw [takeFields_of_no_nak hnak]
  exact modPort_agree.after rfl (fecCounted_agree.mono rfl)

theorem getPort_takenFields {s : State} {p : Nat} {fl : FlitIn} {h : LinkHead} (hs : TablesOk s) (hnak : h.nak = false) :
    getPort (takeFields (fecCounted s p fl) p h) p = fieldsTaken s p h := by
  rw [fieldsTaken_eq hs hnak, takeFields_of_no_nak hnak, getPort_modPort_same (fecCounted_agree.tabOk hs), getPort_fecCounted]

/-! ### IDENT -/

/-- What IDENT and entry into UP leave of a port as a flit's fields and its number left it (R454). -/
structure IdentKept (x y : PortSt) : Prop where
  seenRx : y.seenRx = x.seenRx
  expect : y.expect = x.expect
  hbmFree : y.hbmFree = x.hbmFree
  partnerCredits : y.partnerCredits = x.partnerCredits
  seq : y.seq = x.seq
  replay : y.replay = x.replay
  seenTx : y.seenTx = x.seenTx
  lastSent : y.lastSent = x.lastSent

theorem getPort_sendOnPort {s : State} {p vc : Nat} {m : Msg} (h : TablesOk s) :
    ∃ q, getPort (sendOnPort s p vc m) p = { getPort s p with txq := q } := ⟨_, getPort_modPort_same h⟩

theorem getPort_enterUp {s : State} {p : Nat} (h : TablesOk s) :
    (getPort (enterUp s p) p).state = .up ∧ IdentKept (getPort s p) (getPort (enterUp s p) p) := by
  unfold enterUp
  extract_lets x nonce s1 credits s2 s3 s4
  have h0 : TablesOk { s with free := s.free + 1 } := ⟨h.regs, h.resets, h.queues, h.fronds, h.slots, h.parts, h.ports⟩
  have hs1 : TablesOk s1 := setPortState_agree.tabOk h0
  have h1 : getPort s1 p = { getPort s p with state := .up } := getPort_setPortState h0
  have h2 : getPort s2 p = { getPort s1 p with fails := 0, credits := credits, nonce := nonce, usable := false, report := [] } :=
    getPort_modPort_same hs1
  have hs2 : TablesOk s2 := modPort_agree.tabOk hs1
  have h4 : Agree 524320 s2 s4 := by
    unfold s4
    split
    · exact markEvent_agree.after rfl (setF_agree.mono rfl)
    · exact setF_agree.mono rfl
  obtain ⟨q, hq⟩ := getPort_sendOnPort (p := p) (vc := 8) (m := { mtype := 0x10, dst := x.partnerAddr.getD 0, payload := nonce }) (h4.tabOk hs2)
  rw [getPort_of_ports_eq (wantGossip_agree.area .ports rfl), hq, getPort_of_ports_eq (h4.area .ports rfl), h2, h1]
  exact ⟨rfl, rfl, rfl, rfl, rfl, rfl, rfl, rfl, rfl⟩

/-- A port in IDENT is UP exactly where both IDENTs with SEEN have gone (R454). -/
theorem getPort_maybeUp {s : State} {p : Nat} (h : TablesOk s) (hstate : (getPort s p).state = .ident) :
    ((getPort (maybeUp s p) p).state = .up ↔ (getPort s p).seenSeen = true ∧ (getPort s p).seenTx = true) ∧
    IdentKept (getPort s p) (getPort (maybeUp s p) p) := by
  unfold maybeUp
  dsimp only
  split
  · next hup =>
    obtain ⟨-, hseen, hsent⟩ := hup
    obtain ⟨hstate', hkept⟩ := getPort_enterUp (p := p) h
    exact ⟨iff_of_true hstate' ⟨hseen, hsent⟩, hkept⟩
  · next hno =>
    refine ⟨iff_of_false (by rw [hstate]; decide) fun hup => hno ⟨hstate, hup⟩, rfl, rfl, rfl, rfl, rfl, rfl, rfl, rfl⟩

/-- The partner of a global port is of this device's colony (R350). -/
def identTwin (s : State) (p : Nat) (b : List Byte) : Bool :=
  decide (15 ≤ p) && bitOf (leAt b 1 1) 3 && decide (s.fabric.addr.map (· / 16) = some (leAt b 6 2 % 4096 / 16))

/-- A valid IDENT at a port in IDENT (R454). -/
theorem takeIdent_leaves {s : State} {p : Nat} {b : List Byte} (h : TablesOk s) (hversion : leAt b 0 1 = 1) (hend : leAt b 120 1 = 1)
    (hstate : (getPort s p).state = .ident) :
    let y := getPort (takeIdent s p b) p
    y.seenRx = true ∧ y.expect = (getPort s p).expect ∧ y.hbmFree = bitOf (leAt b 1 1) 2 ∧
    y.partnerCredits = (List.range 48).map (fun i => leAt b (24 + 2 * i) 2) ∧
    (identTwin s p b = true → y.state = .ident) ∧
    (identTwin s p b = false → (y.state = .up ↔
      ((getPort s p).seenSeen = true ∨ bitOf (leAt b 1 1) 0 = true) ∧ (getPort s p).seenTx = true)) := by
  intro y
  unfold y takeIdent
  rw [if_neg (not_or.2 ⟨Classical.not_not.2 hversion, not_or.2 ⟨Classical.not_not.2 hend, Classical.not_not.2 hstate⟩⟩)]
  extract_lets +onlyGivenNames flags addr known sameColony first s1 s2
  have htwin : sameColony = identTwin s p b := by
    unfold sameColony identTwin
    cases ha : s.fabric.addr with
    | none => simp
    | some a =>
      simp only [known, flags, addr, Option.map_some, Option.some.injEq]
      rfl
  have h1 : getPort s1 p = { getPort s p with
      seenRx := true, since := s.counter, seenSeen := (getPort s p).seenSeen || (bitOf flags 0 && !sameColony)
      partnerCredits := (List.range 48).map (fun i => leAt b (24 + 2 * i) 2)
      partnerAddr := if known then some addr else (getPort s p).partnerAddr
      partnerStipe := bitOf flags 1, hbmFree := bitOf flags 2 } := getPort_modPort_same h
  have h12 : Agree 32 s1 s2 := setF_agree.after rfl (setF_agree.after rfl setF_agree)
  have hs2 : TablesOk s2 := h12.tabOk (modPort_agree.tabOk h)
  have h2 := (getPort_of_ports_eq (h12.area .ports rfl) p).trans h1
  clear_value s1 s2 sameColony first
  subst htwin
  split
  · next hyes =>
    have hlog : getPort (if first = true then logEvent s2 0x0302 4 2 p none (leBytes 2 addr ++ leBytes 1 0) else s2) p = getPort s2 p := by
      split
      · exact getPort_of_ports_eq (logEvent_agree.area .ports rfl) p
      · rfl
    rw [hlog, h2]
    exact ⟨rfl, rfl, rfl, rfl, fun _ => hstate, fun hno => absurd (hno.symm.trans hyes) Bool.false_ne_true⟩
  · next hno =>
    have hfalse := Bool.eq_false_iff.2 hno
    have hstate2 : (getPort s2 p).state = .ident := by rw [h2]; exact hstate
    obtain ⟨hup, hkept⟩ := getPort_maybeUp hs2 hstate2
    rw [hkept.seenRx, hkept.expect, hkept.hbmFree, hkept.partnerCredits, hup, h2]
    refine ⟨rfl, rfl, rfl, rfl, fun hyes => absurd hyes hno, fun _ => ?_⟩
    rw [hfalse]
    simp [flags]

/-! ### The rows -/

/-- A flit of the row's kind that is next in sequence (R338). -/
theorem arrive_of_next {s : State} {p : Nat} {fl : FlitIn} {h : LinkHead} (hgood : GoodFlit s p fl h) (hs : TablesOk s)
    (hkind : h.kind ≠ 2) (hseq : h.seq = (getPort s p).expect) :
    ∃ u, Agree 32800 s u ∧ TablesOk u ∧
      getPort u p = { fieldsTaken s p h with expect := ((getPort s p).expect + 1) % 4096, nak := false } ∧
      arrive s p [h.kind] fl = if h.kind = 0 then modPort u p (fun z => takeData z h (sliceB fl.bytes 8 244))
        else takeIdent u p (sliceB fl.bytes 8 244) := by
  have htaken : Agree 32800 s (takeFields (fecCounted s p fl) p h) := takenFields_agree hgood.2.2.2.2.2
  refine ⟨modPort (takeFields (fecCounted s p fl) p h) p (fun z => { z with expect := (z.expect + 1) % 4096, nak := false }),
    modPort_agree.after rfl htaken, modPort_agree.tabOk (htaken.tabOk hs), ?_, ?_⟩
  · rw [getPort_modPort_same (htaken.tabOk hs), getPort_takenFields hs hgood.2.2.2.2.2, fieldsTaken_eq hs hgood.2.2.2.2.2]
    rfl
  · rw [arrive_of_kind hgood hs]
    dsimp only
    rw [if_neg hkind, if_neg (Classical.not_not.2 (show h.seq = (withFields (getPort s p) h).expect from hseq))]

/-- A CONTROL flit that is next in sequence. -/
theorem arrive_control {s : State} {p : Nat} {fl : FlitIn} {h : LinkHead} (hgood : GoodFlit s p fl h) (hs : TablesOk s)
    (hkind : h.kind = 1) (hseq : h.seq = (getPort s p).expect) :
    let twin := decide (15 ≤ p) && bitOf (leAt fl.bytes 9 1) 3 && decide (s.fabric.addr.map (· / 16) =
      some (leAt fl.bytes 14 2 % 4096 / 16))
    ((getPort s p).state = .up ∨ leAt fl.bytes 8 1 ≠ 1 ∨ leAt fl.bytes 128 1 ≠ 1 →
      (arrive s p [1] fl).mem = s.mem ∧ (arrive s p [1] fl).fabric = s.fabric ∧
      getPort (arrive s p [1] fl) p = { fieldsTaken s p h with expect := ((getPort s p).expect + 1) % 4096, nak := false }) ∧
    ((getPort s p).state = .ident → leAt fl.bytes 8 1 = 1 → leAt fl.bytes 128 1 = 1 →
      let t := arrive s p [1] fl
      t.mem = s.mem ∧ (getPort t p).seenRx = true ∧
        (getPort t p).expect = ((getPort s p).expect + 1) % 4096 ∧ (getPort t p).hbmFree = bitOf (leAt fl.bytes 9 1) 2 ∧
        (getPort t p).partnerCredits = (List.range 48).map (fun i => leAt fl.bytes (32 + 2 * i) 2) ∧
        (twin = true → (getPort t p).state = .ident) ∧
        (twin = false → ((getPort t p).state = .up ↔
          ((getPort s p).seenSeen = true ∨ bitOf (leAt fl.bytes 9 1) 0 = true) ∧ (getPort s p).seenTx = true))) := by
  obtain ⟨u, hu, hus, hport, harrive⟩ := arrive_of_next hgood hs (by rw [hkind]; decide) hseq
  rw [hkind, if_neg (by decide)] at harrive
  rw [fieldsTaken_eq hs hgood.2.2.2.2.2] at hport ⊢
  have hstate : (getPort u p).state = (getPort s p).state := by rw [hport]; rfl
  have hbyte {o n : Nat} (ho : o + n ≤ 244) : leAt (sliceB fl.bytes 8 244) o n = leAt fl.bytes (8 + o) n := leAt_sliceB ho
  intro twin
  rw [harrive]
  refine ⟨fun hno => ?_, fun hident hversion hend => ?_⟩
  · have hself : takeIdent u p (sliceB fl.bytes 8 244) = u := by
      refine if_pos ?_
      rw [hbyte (by decide), hbyte (by decide), hstate]
      rcases hno with h | h | h
      · exact .inr (.inr (by rw [h]; decide))
      · exact .inl h
      · exact .inr (.inl h)
    rw [hself]
    exact ⟨hu.area .mem rfl, hu.area .fabric rfl, hport⟩
  · obtain ⟨hseen, hexpect, hfree, hcredits, htwin, hup⟩ := takeIdent_leaves (b := sliceB fl.bytes 8 244) hus
      ((hbyte (by decide)).trans hversion) ((hbyte (by decide)).trans hend) (hstate.trans hident)
    have hsame : identTwin u p (sliceB fl.bytes 8 244) = twin := by
      unfold identTwin
      rw [hbyte (by decide), hbyte (by decide), hu.area .fabric rfl]
    rw [hsame] at htwin hup
    rw [hbyte (by decide)] at hfree hup
    refine ⟨(takeIdent_agree.area .mem rfl).trans (hu.area .mem rfl), hseen, ?_, hfree, ?_, htwin, ?_⟩
    · rw [hexpect, hport]
    · rw [hcredits]
      refine List.map_congr_left fun i hi => ?_
      have := List.mem_range.1 hi
      rw [hbyte (by omega)]
      congr 1
      omega
    · rw [hport] at hup
      exact hup

/-- A flit of the row's kind that is not next in sequence, or a NULL flit (R338). -/
theorem arrive_of_out_of_sequence {s : State} {p : Nat} {fl : FlitIn} {h : LinkHead} (hgood : GoodFlit s p fl h) (hs : TablesOk s)
    (hseq : h.kind ≠ 2 → h.seq ≠ (getPort s p).expect) :
    let ahead := if h.kind = 2 then seqBefore (((getPort s p).expect + 4095) % 4096) h.seq
      else !seqBefore h.seq (getPort s p).expect
    let t := arrive s p [h.kind] fl
    t.mem = s.mem ∧ t.fabric = s.fabric ∧ (getPort t p).expect = (getPort s p).expect ∧
      getPort t p = if ahead then askReplay (fieldsTaken s p h) else fieldsTaken s p h := by
  intro ahead
  have hnak := hgood.2.2.2.2.2
  have htaken : Agree 32800 s (takeFields (fecCounted s p fl) p h) := takenFields_agree hnak
  have hport := getPort_takenFields (p := p) (fl := fl) hs hnak
  have harrive : arrive s p [h.kind] fl = if ahead then modPort (takeFields (fecCounted s p fl) p h) p askReplay
      else takeFields (fecCounted s p fl) p h := by
    rw [arrive_of_kind hgood hs]
    dsimp only
    by_cases hkind : h.kind = 2
    · rw [if_pos hkind, show ahead = seqBefore (((getPort s p).expect + 4095) % 4096) h.seq from if_pos hkind]
      rfl
    · rw [if_neg hkind, if_pos (show h.seq ≠ (withFields (getPort s p) h).expect from hseq hkind),
        show ahead = !seqBefore h.seq (getPort s p).expect from if_neg hkind]
      show (if seqBefore h.seq (getPort s p).expect = true then _ else _) = _
      cases seqBefore h.seq (getPort s p).expect <;> rfl
  have hexpect : (fieldsTaken s p h).expect = (getPort s p).expect := by rw [fieldsTaken_eq hs hnak]; rfl
  dsimp only
  rw [harrive]
  split
  · refine ⟨(modPort_agree.area .mem rfl).trans (htaken.area .mem rfl), (modPort_agree.area .fabric rfl).trans (htaken.area .fabric rfl), ?_⟩
    rw [getPort_modPort_same (htaken.tabOk hs), hport]
    refine ⟨?_, rfl⟩
    rw [← hexpect]
    unfold askReplay
    split <;> rfl
  · rw [hport]
    exact ⟨htaken.area .mem rfl, htaken.area .fabric rfl, hexpect, rfl⟩

/-- REPLAY_TIMEOUT sends again from the oldest flit, up to the limit (R339). -/
theorem replayTimeout_leaves {s : State} {p : Nat} {r : KeptFlit} {l : List KeptFlit} (hs : TablesOk s)
    (hstate : (getPort s p).state = .up ∨ (getPort s p).state = .ident) (hreplay : (getPort s p).replay = r :: l)
    (hresend : (getPort s p).resend = none) :
    ((getPort s p).replays + 1 ≤ (cfgOf s).routing.replayLimit →
      getPort (replayTimeout p s) p = { getPort s p with resend := some r.seq, replays := (getPort s p).replays + 1 }) ∧
    ((cfgOf s).routing.replayLimit < (getPort s p).replays + 1 →
      (getPort (replayTimeout p s) p).state = .train ∧ (getPort (replayTimeout p s) p).replay = []) := by
  have hb : Agree 32 s (bump s FAB_PORT_REPLAY_TIMEOUTS p 1) := bump_agree
  have hport : getPort (bump s FAB_PORT_REPLAY_TIMEOUTS p 1) p = getPort s p := getPort_of_ports_eq (hb.area .ports rfl) p
  have henter : replayTimeout p s = enterReplay (bump s FAB_PORT_REPLAY_TIMEOUTS p 1) p r.seq := by
    unfold replayTimeout
    dsimp only
    rw [hreplay, hresend]
    exact if_pos hstate
  rw [henter]
  unfold enterReplay
  extract_lets x n s1
  have hx : x = getPort s p := hport
  have hcfg : cfgOf (bump s FAB_PORT_REPLAY_TIMEOUTS p 1) = cfgOf s := by unfold cfgOf; rw [hb.area .cfg rfl]
  have hmod : TablesOk (modPort (bump s FAB_PORT_REPLAY_TIMEOUTS p 1) p (fun y => { y with resend := some r.seq, replays := n })) :=
    modPort_agree.tabOk (hb.tabOk hs)
  have h1 : getPort s1 p = { getPort s p with resend := some r.seq, replays := (getPort s p).replays + 1 } := by
    unfold s1
    rw [getPort_of_ports_eq (bump_agree.area .ports rfl), getPort_modPort_same (hb.tabOk hs), hport]
    unfold n
    rw [hx]
  have hs1 : TablesOk s1 := bump_agree.tabOk hmod
  have hn : n = (getPort s p).replays + 1 := by unfold n; rw [hx]
  rw [hcfg, hn]
  refine ⟨fun hle => ?_, fun hlt => ?_⟩
  · rw [if_neg (Nat.not_lt.2 hle), h1]
  · rw [if_pos hlt]
    split
    · exact getPort_upToTrain hs1
    · rw [getPort_enterTrain hs1]
      exact ⟨rfl, rfl⟩

/-- Settles O38: a flit is bad, of another kind, next in sequence, or out of it. -/
theorem flitsArrive : Obligations.FlitsArrive := by
  refine ⟨fun row hrow p fl s hs hstate hident hbad => ?_, fun row hrow p fl h s hgood hkind => ?_,
    fun p fl h s hs hgood hkind hseq => ?_, fun row hrow p fl h s hs hgood hkind hseq hident => ?_,
    fun row hrow p fl h s hs hgood hkind hseq => ?_, fun p s r l hs hstate hreplay hresend => ?_⟩
  · have hexec : ∃ kinds, exec (row p fl) s = .next (arrive s p kinds fl) := by
      simp only [List.mem_cons, List.not_mem_nil, or_false] at hrow
      rcases hrow with rfl | rfl | rfl | rfl
      · exact ⟨[0], rfl⟩
      · exact ⟨[1], rfl⟩
      · exact ⟨[2], rfl⟩
      · exact ⟨[1], congrArg Host.Outcome.next (if_pos (hident rfl))⟩
    obtain ⟨kinds, hexec⟩ := hexec
    have hc : Agree 32 s (bump (fecCounted s p fl) FAB_PORT_ERR_CRC_ERR p 1) := bump_agree.after rfl fecCounted_agree
    refine ⟨_, hexec, arrive_of_bad kinds hstate hbad, ?_⟩
    rw [arrive_of_bad kinds hstate hbad]
    have hports (g : Nat) := getPort_of_ports_eq (hc.area .ports rfl) g
    refine ⟨?_, (modPort_agree.area .mem rfl).trans (hc.area .mem rfl), (modPort_agree.area .fabric rfl).trans (hc.area .fabric rfl),
      fun g hg => ?_⟩
    · rw [getPort_modPort_same (hc.tabOk hs), hports]
    · rw [getPort_modPort_ne (hc.tabOk hs) hg, hports]
  · simp only [List.mem_cons, List.not_mem_nil, or_false] at hrow
    rcases hrow with rfl | rfl | rfl <;> exact congrArg Host.Outcome.next (arrive_of_other_kind hgood hkind)
  · obtain ⟨u, hu, hus, hport, harrive⟩ := arrive_of_next hgood hs (by rw [hkind]; decide) hseq
    rw [hkind, if_pos rfl] at harrive
    refine ⟨_, congrArg Host.Outcome.next harrive, (modPort_agree.area .mem rfl).trans (hu.area .mem rfl),
      (modPort_agree.area .fabric rfl).trans (hu.area .fabric rfl), ?_⟩
    rw [getPort_modPort_same hus, hport]
  · intro twin
    have hexec : exec (row p fl) s = .next (arrive s p [1] fl) := by
      simp only [List.mem_cons, List.not_mem_nil, or_false] at hrow
      rcases hrow with rfl | rfl
      · rfl
      · exact congrArg Host.Outcome.next (if_pos (hident rfl))
    obtain ⟨hother, htaken⟩ := arrive_control hgood hs hkind hseq
    exact ⟨fun hno => ⟨_, hexec, hother hno⟩, fun hstate hversion hend => ⟨_, hexec, htaken hstate hversion hend⟩⟩
  · intro ahead
    have hexec : exec (row.1 p fl) s = .next (arrive s p [h.kind] fl) := by
      simp only [List.mem_cons, List.not_mem_nil, or_false] at hrow
      rcases hrow with rfl | rfl | rfl <;> rw [hkind] <;> rfl
    have hahead := arrive_of_out_of_sequence hgood hs (by rwa [hkind])
    rw [hkind] at hahead
    refine ⟨_, hexec, ?_⟩
    rw [hkind]
    exact hahead
  · have hmem : (replayTimeout p s).mem = s.mem := (replayTimeout_agree (x0 := p)).area .mem rfl
    obtain ⟨hagain, htrain⟩ := replayTimeout_leaves hs hstate hreplay hresend
    exact ⟨fun hle => ⟨_, rfl, hmem, hagain hle⟩, fun hlt => ⟨_, rfl, hmem, htrain hlt⟩⟩

end Sys2Proof.Proofs
end

section
/-! SUPPORT. Forwarding and flit times (R334, R343, R347). -/

namespace Sys2Proof.Proofs

open Sys2Proof Sys2Proof.Machine Sys2Proof.Safety Sys2Proof.Frame Sys2Proof.Claims Sys2Proof.Laws

/-- A message for another device that arrives at a fit port on a channel of its type is forwarded. -/
theorem forwardRow_of_transit {a : Arrival} {s : State} (hvc : vcAllowed a.msg.mtype a.vc = true) (hlocal : linkLocal a.msg = false)
    (hmcast : isMcast a.msg = false) (hdst : s.fabric.addr ≠ some a.msg.dst) (hport : portOk s a.port = true) :
    forwardRow a s = forwardMsg (takeMsg s a) a := by
  unfold forwardRow
  dsimp only
  rw [if_neg (by rw [hvc]; decide), if_neg (by rw [hlocal, hmcast]; simpa using hdst), if_neg (by rw [hport]; decide)]

theorem forwardMsg_of_lt {s : State} {a : Arrival} (h : a.msg.hops < 7) :
    forwardMsg s a = takeHop s a.vc { a.msg with hops := a.msg.hops + 1 }
      (nextHop s a.vc (arrivalClass a) { a.msg with hops := a.msg.hops + 1 }) :=
  if_neg (by omega)

theorem forwardMsg_of_ge {s : State} {a : Arrival} (h : 7 ≤ a.msg.hops) :
    forwardMsg s a = bump s FAB_MSG_EVENTS_HOP_EXCEEDED 0 1 :=
  if_pos (by omega)

theorem getPort_takeHop_via {s : State} {vc p hc : Nat} {m : Msg} {d : Bool} (h : TablesOk s) :
    getPort (takeHop s vc m (.via p hc d)) p = { getPort s p with txq := (getPort s p).txq ++ [⟨vc, hc, m, .none⟩] } :=
  (getPort_of_ports_eq (bump_agree.area .ports rfl) p).trans (getPort_modPort_same h)

/-! ### The flit of a flit time -/

section
variable {p : Nat} {s : State} (hp : p < 36)
  (hstate : (getPort (routeAll s) p).state = .up ∨ (getPort (routeAll s) p).state = .ident)
include hp hstate

theorem flitTime_of_resend {n : Nat} (h : (getPort (routeAll s) p).resend = some n) :
    flitTime p s = setPort (routeAll s) p (putReplay (getPort (routeAll s) p) n) := by
  unfold flitTime
  dsimp only
  rw [if_neg (by rcases hstate with h | h <;> rw [h] <;> simp [hp]), h]

variable (hnew : (getPort (routeAll s) p).resend = none)
include hnew

theorem flitTime_of_full (h : 1024 ≤ (getPort (routeAll s) p).replay.length) :
    flitTime p s = setPort (routeAll s) p (putNull (getPort (routeAll s) p)) := by
  unfold flitTime
  dsimp only
  rw [if_neg (by rcases hstate with h | h <;> rw [h] <;> simp [hp]), hnew]
  exact if_pos h

variable (hroom : (getPort (routeAll s) p).replay.length < 1024)
include hroom

omit hstate in
theorem flitTime_of_ident (h : (getPort (routeAll s) p).state = .ident) :
    flitTime p s = maybeUp (setPort (routeAll s) p
      { putNew (getPort (routeAll s) p) { blankHead with kind := 1, used := 121 }
          (identBody (routeAll s) p (getPort (routeAll s) p).seenRx) with
        seenTx := (getPort (routeAll s) p).seenTx || (getPort (routeAll s) p).seenRx }) p := by
  unfold flitTime
  dsimp only
  rw [if_neg (by rw [h]; simp [hp]), hnew]
  exact (if_neg (Nat.not_le.2 hroom)).trans (if_pos h)

omit hstate in
theorem flitTime_of_up (h : (getPort (routeAll s) p).state = .up) :
    flitTime p s = match chooseStream (routeAll s) (getPort (routeAll s) p) with
      | some (k, w, c) => bump (setPort (routeAll s) p (putData (getPort (routeAll s) p) k w c)) FAB_PORT_FLITS_DATA_TX p 1
      | none => setPort (routeAll s) p (putNull { getPort (routeAll s) p with
          recent := (false :: (getPort (routeAll s) p).recent).take 1024 }) := by
  unfold flitTime
  dsimp only
  rw [if_neg (by rw [h]; simp [hp]), hnew]
  exact (if_neg (Nat.not_le.2 hroom)).trans (if_neg (by rw [h]; decide))

end

theorem mem_flitTime (p : Nat) (s : State) : (flitTime p s).mem = s.mem := flitTime_agree.area .mem rfl

/-- A new DATA flit is kept for replay (R337). -/
theorem putData_kept (x : PortSt) (k : Nat) (w : Nat × Nat) (c : Bool) :
    (putData x k w c).seq = (x.seq + 1) % 4096 ∧ ∃ y, (putData x k w c).replay = x.replay ++ [y] ∧ y.seq = x.seq :=
  ⟨rfl, _, rfl, rfl⟩

/-- What a port in UP or IDENT sends (R334, R337, R343). -/
theorem flitTime_sends {p : Nat} {s : State} (hs : TablesOk s) (hp : p < 36) :
    let x := getPort (routeAll s) p
    (x.state = .up ∨ x.state = .ident) →
    (∀ n, x.resend = some n → getPort (flitTime p s) p = putReplay x n) ∧
    (x.resend = none →
      (1024 ≤ x.replay.length ∨ (x.state = .up ∧ chooseStream (routeAll s) x = none) →
        ∃ r, getPort (flitTime p s) p = putNull { x with recent := r }) ∧
      (x.replay.length < 1024 → x.state = .up → ∀ k w c, chooseStream (routeAll s) x = some (k, w, c) →
        getPort (flitTime p s) p = putData x k w c) ∧
      (x.replay.length < 1024 → x.state = .ident →
        IdentKept { putNew x { blankHead with kind := 1, used := 121 } (identBody (routeAll s) p x.seenRx) with
          seenTx := x.seenTx || x.seenRx } (getPort (flitTime p s) p))) := by
  have hr : TablesOk (routeAll s) := routeAll_agree.tabOk hs
  intro x hstate
  refine ⟨fun n hn => ?_, fun hnew => ⟨fun hnull => ?_, fun hroom hup k w c hstream => ?_, fun hroom hident => ?_⟩⟩
  · rw [flitTime_of_resend hp hstate hn, getPort_setPort_same hr]
  · by_cases hfull : 1024 ≤ x.replay.length
    · refine ⟨x.recent, ?_⟩
      rw [flitTime_of_full hp hstate hnew hfull, getPort_setPort_same hr]
    · obtain ⟨hup, hnone⟩ := hnull.resolve_left hfull
      refine ⟨(false :: x.recent).take 1024, ?_⟩
      rw [flitTime_of_up hp hnew (Nat.not_le.1 hfull) hup]
      dsimp only
      rw [hnone]
      exact getPort_setPort_same hr
  · rw [flitTime_of_up hp hnew hroom hup, hstream]
    exact (getPort_of_ports_eq (bump_agree.area .ports rfl) p).trans (getPort_setPort_same hr)
  · rw [flitTime_of_ident hp hnew hroom hident]
    have hkept := getPort_maybeUp (p := p) (s := setPort (routeAll s) p
      { putNew x { blankHead with kind := 1, used := 121 } (identBody (routeAll s) p x.seenRx) with
        seenTx := x.seenTx || x.seenRx }) (setPort_agree.tabOk hr) (by rw [getPort_setPort_same hr]; exact hident)
    rw [getPort_setPort_same hr] at hkept
    exact hkept.2

/-- Settles O40: a forwarded message takes its hop or is counted, and a port sends by the cases of R334 and R343. -/
theorem forwardAndFlitTime : Obligations.ForwardAndFlitTime := by
  refine ⟨fun a s hs hvc hlocal hmcast hdst hport hhops => ?_, fun a s hvc hlocal hmcast hdst hport hhops => ?_,
    fun p s hs hp => ?_⟩
  · intro m s1
    have hexec : exec (.forward a) s = .next (takeHop s1 a.vc m (nextHop s1 a.vc (arrivalClass a) m)) :=
      congrArg Host.Outcome.next ((forwardRow_of_transit hvc hlocal hmcast hdst hport).trans (forwardMsg_of_lt hhops))
    refine ⟨fun p hc d hhop => ?_, fun hhop => by rw [hexec, hhop]; rfl⟩
    rw [hhop] at hexec
    have hs1 : TablesOk s1 := takeMsg_agree.tabOk hs
    refine ⟨_, hexec, ?_, ?_⟩
    · rw [getPort_takeHop_via hs1]
    · exact (takeHop_agree.area .mem rfl).trans (takeMsg_agree.area .mem rfl)
  · exact congrArg Host.Outcome.next ((forwardRow_of_transit hvc hlocal hmcast hdst hport).trans (forwardMsg_of_ge hhops))
  · intro x hstate
    obtain ⟨hresend, hnew⟩ := flitTime_sends hs hp hstate
    refine ⟨fun n hn => ⟨_, rfl, hresend n hn⟩, fun hn => ?_⟩
    obtain ⟨hnull, hdata, hident⟩ := hnew hn
    refine ⟨fun h => ?_, fun hroom hup k w c hstream => ?_, fun hroom hstate => ?_⟩
    · obtain ⟨r, hport⟩ := hnull h
      refine ⟨_, rfl, mem_flitTime p s, ?_⟩
      rw [hport]
      exact ⟨rfl, rfl, rfl⟩
    · have hport := hdata hroom hup k w c hstream
      obtain ⟨hseq, y, hreplay, hy⟩ := putData_kept x k w c
      rw [← hport] at hseq hreplay
      exact ⟨_, y, rfl, mem_flitTime p s, hport, hseq, hreplay, hy⟩
    · have hkept := hident hroom hstate
      exact ⟨_, _, rfl, mem_flitTime p s, hkept.seq, hkept.replay, rfl, hkept.seenTx, hkept.lastSent⟩

end Sys2Proof.Proofs
end

section
/-! SUPPORT. Remote requests: what a delivered message leaves, and its answer (R346, R355, R363, R540). -/

namespace Sys2Proof.Proofs

open Sys2Proof Sys2Proof.Machine Sys2Proof.Safety Sys2Proof.Frame Sys2Proof.Claims Sys2Proof.Laws

/-! ### Delivery -/

theorem linkLocal_of_lt {m : Msg} (h : m.mtype < 0x10) : linkLocal m = false := by
  unfold linkLocal
  rw [decide_eq_false (by omega), Bool.false_and]

/-- A request or response that is delivered acts in the state that its delivery leaves. -/
theorem recv_request {s : State} {a : Arrival} {mtype : Nat} {body : State → State} (h : Delivered s a mtype) (hm : mtype < 0x10) :
    recv mtype a body s = body (received s a) := by
  rw [recv_of_delivered h (linkLocal_of_lt (by rw [h.1]; exact hm)), decide_eq_false (by omega), Bool.false_and,
    if_neg Bool.false_ne_true]

theorem fabric_takeMsg (s : State) (a : Arrival) : ∃ o, (takeMsg s a).fabric = { s.fabric with outq := o } := by
  unfold takeMsg
  split
  · exact ⟨_, rfl⟩
  · exact ⟨s.fabric.outq, rfl⟩

theorem fabric_checkSeq (s : State) (a : Arrival) : ∃ q, (checkSeq s a).fabric = { s.fabric with seqIn := q } := by
  unfold checkSeq
  split
  · exact ⟨_, bump_agree.area .fabric rfl⟩
  · exact ⟨s.fabric.seqIn, rfl⟩

/-- Delivery takes the message from where it waited and checks its SEQNO: nothing else of the fabric changes. -/
theorem fabric_received (s : State) (a : Arrival) : ∃ o q, (received s a).fabric = { s.fabric with outq := o, seqIn := q } := by
  obtain ⟨o, ho⟩ := fabric_takeMsg s a
  obtain ⟨q, hq⟩ := fabric_checkSeq (takeMsg s a) a
  exact ⟨o, q, by unfold received; rw [hq, ho]⟩

theorem isStipe_of_stipe_eq {s t : State} (h : t.stipe = s.stipe) : isStipe t = isStipe s := by
  unfold isStipe
  rw [h]

theorem readBytes_received (s : State) (a : Arrival) (us : List Nat) (k n : Nat) :
    readBytes (readUnits (received s a) us) k n = readBytes s k n :=
  readBytes_of_mem_eq ((readUnits_agree.area .mem rfl).trans (received_agree.area .mem rfl)) k n

/-! ### Answers -/

theorem answers_respond (s : State) (vc : Nat) (m : Msg) (mtype st : Nat) (pl : List Byte) (poison : Bool) :
    Answers (respond s vc m mtype st pl poison) vc m mtype st pl :=
  ⟨_, List.getLast?_concat .., rfl, rfl, rfl, rfl, rfl, rfl⟩

theorem respond_fabric (s : State) (vc : Nat) (m : Msg) (mtype st : Nat) (pl : List Byte) (poison : Bool) :
    ∃ f, respond s vc m mtype st pl poison = { s with fabric := f } :=
  ⟨_, rfl⟩

/-! ### The landing buffer (R363) -/

theorem dma_releaseAcks (s : State) : (releaseAcks s).fabric.dma = s.fabric.dma := by
  unfold releaseAcks
  generalize s.fabric.heldAcks = l
  induction l generalizing s with
  | nil => rfl
  | cons e l ih =>
    rw [List.foldl_cons, ih]
    split <;> rfl

/-- The payload of a LAND_WRITE has gone to the host, and its WRITE_ACK is held until there is room. -/
def landed (a : Arrival) (s : State) : State :=
  let m := a.msg
  let k := m.src % 16
  let size := 2 ^ getF s FAB_HDMA_CTRL_LOG2_SUB
  let s1 := setF { s with fabric := { s.fabric with
      dma := s.fabric.dma ++ ringWrites (getF s FAB_HDMA_BASE_BASE + k * size) size (getF s FAB_HDMA_PTR_WR k) m.payload m.poison
      landNext := tblPut s.fabric.landNext k (some (m.addr + m.payload.length)) } } FAB_HDMA_PTR_WR k
    (getF s FAB_HDMA_PTR_WR k + m.payload.length)
  { s1 with fabric := { s1.fabric with heldAcks := s1.fabric.heldAcks ++ [(k, m.payload.length, ⟨13, 0,
    { dst := m.src, part := m.part, mtype := 0x02, flags := if isHostMsg m then 4 else 0, tag := m.tag }, .none⟩)] } }

theorem dma_landed (a : Arrival) (s : State) :
    (landed a s).fabric.dma = s.fabric.dma ++
      ringWrites (getF s FAB_HDMA_BASE_BASE + a.msg.src % 16 * 2 ^ getF s FAB_HDMA_CTRL_LOG2_SUB)
        (2 ^ getF s FAB_HDMA_CTRL_LOG2_SUB) (getF s FAB_HDMA_PTR_WR (a.msg.src % 16)) a.msg.payload a.msg.poison :=
  rfl

theorem getF_landed {a : Arrival} {s : State} (h : TablesOk s) :
    getF (landed a s) FAB_HDMA_PTR_WR (a.msg.src % 16) =
      (getF s FAB_HDMA_PTR_WR (a.msg.src % 16) + a.msg.payload.length) % 2 ^ 32 :=
  getF_setF_same (f := FAB_HDMA_PTR_WR) ⟨h.regs, h.resets, h.queues, h.fronds, h.slots, h.parts, h.ports⟩ (by decide)

/-- A LAND_WRITE in sequence at an enabled landing buffer. -/
theorem landWrite_of_accepted {a : Arrival} {s : State} (hgranted : landGranted s a.msg = true)
    (hopen : devOpen s = true ∨ (a.msg.part ≠ 0xF ∧ isHostMsg a.msg = false)) (hstipe : isStipe s = true)
    (hena : getF s FAB_HDMA_CTRL_ENABLE = 1) (hseq : a.msg.addr = 0 ∨ tblFind s.fabric.landNext (a.msg.src % 16) = some a.msg.addr) :
    landWrite a s = releaseAcks (landed a s) := by
  have hready : (!isStipe s || getF s FAB_HDMA_CTRL_ENABLE == 0 ||
      (a.msg.addr != 0 && tblFind s.fabric.landNext (a.msg.src % 16) != some a.msg.addr)) = false := by
    rw [hstipe, hena]
    rcases hseq with h | h <;> rw [h] <;> simp
  have hservice : ¬((a.msg.part = 0xF ∨ isHostMsg a.msg = true) ∧ devOpen s = false) := by
    rintro ⟨hpart, hshut⟩
    rcases hopen with h | ⟨h1, h2⟩
    · exact Bool.false_ne_true (hshut.symm.trans h)
    · exact hpart.elim h1 fun h => Bool.false_ne_true (h2.symm.trans h)
  unfold landWrite
  dsimp only
  rw [if_neg (by rw [hgranted]; decide), if_neg hservice, if_neg (by rw [hready]; exact Bool.false_ne_true)]
  rfl

/-- Settles O41: each request acts where it is granted, and its answer goes out last. -/
theorem remoteRequests : Obligations.RemoteRequests := by
  have hmem (s : State) (a : Arrival) : (received s a).mem = s.mem := received_agree.area .mem rfl
  refine ⟨fun a s hzero => congrArg Host.Outcome.next (if_pos hzero), fun a s hzero => congrArg Host.Outcome.next (if_pos hzero),
    fun a s hdel hzero => ?_, fun a s hdel hzero => ?_, fun a s hdel => ?_, fun a gap s hdel => ?_, fun a s hs hdel => ?_⟩
  · intro r st
    have hexec : exec (.write a) s = .next (remoteWrite a r) :=
      congrArg Host.Outcome.next ((if_neg (by rw [hzero]; exact Bool.false_ne_true)).trans (recv_request hdel (by decide)))
    refine ⟨_, hexec, answers_respond .., fun hok => ?_, fun hbad => ?_⟩
    · exact (respond_agree.area .mem rfl).trans (congrArg State.mem (if_pos hok))
    · exact (respond_agree.area .mem rfl).trans ((congrArg State.mem (if_neg hbad)).trans (hmem s a))
  · intro st
    have hexec : exec (.readReq a) s = .next (remoteRead a (received s a)) :=
      congrArg Host.Outcome.next ((if_neg (by rw [hzero]; exact Bool.false_ne_true)).trans (recv_request hdel (by decide)))
    refine ⟨_, hexec, (remoteRead_agree.area .mem rfl).trans (hmem s a), ?_⟩
    unfold remoteRead
    dsimp only
    by_cases hok : st = stOK
    · rw [if_pos hok, if_pos hok, readBytes_received]
      exact answers_respond ..
    · rw [if_neg hok, if_neg hok]
      exact answers_respond ..
  · intro r st u
    have hexec : exec (.ctlWrite a) s = .next (respond u 11 a.msg 0x07 st []) :=
      congrArg Host.Outcome.next (recv_request hdel (by decide))
    have hans := answers_respond u 11 a.msg 0x07 st [] false
    obtain ⟨f, hf⟩ := respond_fabric u 11 a.msg 0x07 st [] false
    rw [hf] at hexec hans
    exact ⟨f, hexec, hans⟩
  · intro r st u
    have hexec : exec (.ctlRead a gap) s = .next (respond u 11 a.msg 0x07 st (if st = stOK then leBytes 8 u.lastRead.toNat else [])) := by
      refine congrArg Host.Outcome.next ((recv_request hdel (by decide)).trans ?_)
      unfold ctlReadMsg
      dsimp only
      by_cases hok : st = stOK
      · rw [if_pos hok, if_pos hok, show u = ctlReadAt (ctlAccess a.msg) gap r from if_pos hok]
      · rw [if_neg hok, if_neg hok, show u = r from if_neg hok]
    have hans := answers_respond u 11 a.msg 0x07 st (if st = stOK then leBytes 8 u.lastRead.toNat else []) false
    obtain ⟨f, hf⟩ := respond_fabric u 11 a.msg 0x07 st (if st = stOK then leBytes 8 u.lastRead.toNat else []) false
    rw [hf] at hexec hans
    exact ⟨f, hexec, hans⟩
  · intro r m k
    have hexec : exec (.landWrite a) s = .next (landWrite a r) := congrArg Host.Outcome.next (recv_request hdel (by decide))
    obtain ⟨o, q, hfabric⟩ := fabric_received s a
    have hdma : r.fabric.dma = s.fabric.dma := by
      show (received s a).fabric.dma = _
      rw [hfabric]
    have hmemOut : (landWrite a r).mem = s.mem := (landWrite_agree.area .mem rfl).trans (hmem s a)
    refine ⟨fun hno => ?_, fun hgranted hopen hstipe hena hseq => ?_⟩
    · have hbody : landWrite a r = respond r 13 m 0x02 stBounds [] := if_pos (by rw [hno]; rfl)
      refine ⟨_, hexec, ?_, ?_, hmemOut⟩
      · rw [hbody]
        exact answers_respond ..
      · rw [hbody]
        exact hdma
    · have hseq' : m.addr = 0 ∨ tblFind r.fabric.landNext k = some m.addr := hseq
      have hr : TablesOk r := received_agree.tabOk hs
      have hbody := landWrite_of_accepted hgranted hopen
        ((isStipe_of_stipe_eq (received_agree.area .stipe rfl)).trans hstipe) hena hseq'
      refine ⟨_, hexec, hmemOut, ?_, ?_⟩
      · rw [hbody, dma_releaseAcks]
        exact (dma_landed a r).trans (by rw [hdma])
      · rw [hbody]
        unfold getF
        rw [getReg_of_regs_eq (releaseAcks_agree.area .regs rfl)]
        exact getF_landed hr

end Sys2Proof.Proofs
end

section
/-! SUPPORT. Responses and their time limits (R346, R357, R362, R570). -/

namespace Sys2Proof.Proofs

open Sys2Proof Sys2Proof.Machine Sys2Proof.Safety Sys2Proof.Frame Sys2Proof.Claims Sys2Proof.Laws

/-! ### A listed key of any table

What is found under a key stays so when another key changes, whatever the order of the table. -/

theorem tblFind_tblPut_of_found {α : Type} {t : Tbl α} {k j : Nat} {v : Option α} {x : α} (hj : j ≠ k) (h : tblFind t j = some x) :
    tblFind (tblPut t k v) j = some x := by
  induction t with
  | nil => exact nomatch h
  | cons e t ih =>
    obtain ⟨i, w⟩ := e
    unfold tblFind at h
    unfold tblPut
    split at h
    · next hi =>
      subst hi
      rw [if_neg hj]
      split
      · next hlt =>
        cases v with
        | none => exact (if_pos rfl).trans h
        | some y => exact (if_neg (Ne.symm hj)).trans ((if_neg (Nat.lt_asymm hlt)).trans ((if_pos rfl).trans h))
      · exact (if_pos rfl).trans h
    · next hi =>
      split at h
      · exact nomatch h
      · next hlt =>
        split
        · next hik =>
          subst hik
          cases v with
          | none => exact h
          | some y => exact (if_neg hi).trans ((if_neg hlt).trans h)
        · split
          · next hki =>
            cases v with
            | none => exact (if_neg hi).trans ((if_neg hlt).trans h)
            | some y =>
              exact (if_neg (Ne.symm hj)).trans ((if_neg (by omega)).trans ((if_neg hi).trans ((if_neg hlt).trans h)))
          · exact (if_neg hi).trans ((if_neg hlt).trans (ih h))

/-- The queue is listed, and holds something of which `P` is true. -/
def QueueListed (s : State) (q : QueueId) (P : QueueSt → Prop) : Prop := ∃ x, tblFind s.queues (qNum q) = some x ∧ P x

theorem QueueListed.getQ {s : State} {q : QueueId} {P : QueueSt → Prop} (h : QueueListed s q P) : P (getQ s q) := by
  obtain ⟨x, hx, hP⟩ := h
  unfold Machine.getQ tblGet
  rwa [hx]

theorem queueListed_of_live {s : State} {q : QueueId} {i : Issued} (h : i ∈ (getQ s q).live) :
    QueueListed s q (fun x => i ∈ x.live) := by
  unfold getQ tblGet at h
  rcases hx : tblFind s.queues (qNum q) with _ | x
  · rw [hx] at h
    exact nomatch h
  · rw [hx] at h
    exact ⟨x, hx, h⟩

theorem QueueListed.modQ_same {s : State} {q : QueueId} {P Q : QueueSt → Prop} {g : QueueSt → QueueSt} (h : QueueListed s q P)
    (hg : ∀ x, P x → Q (g x)) (hne : ∀ x, Q x → x ≠ QueueSt.empty) : QueueListed (modQ s q g) q Q := by
  refine ⟨g (Machine.getQ s q), ?_, hg _ h.getQ⟩
  show tblFind (tblPut _ _ (if g (Machine.getQ s q) = QueueSt.empty then none else some _)) _ = _
  rw [if_neg (hne _ (hg _ h.getQ)), tblFind_tblPut_some, if_pos rfl]

theorem QueueListed.modQ_ne {s : State} {q r : QueueId} {P : QueueSt → Prop} {g : QueueSt → QueueSt} (h : QueueListed s q P)
    (hr : qNum q ≠ qNum r) : QueueListed (modQ s r g) q P := by
  obtain ⟨x, hx, hP⟩ := h
  exact ⟨x, tblFind_tblPut_of_found hr hx, hP⟩

/-- What a queue's own change establishes from `Q`, and no later change undoes. -/
theorem QueueListed.foldl {g : QueueSt → QueueSt} {P Q : QueueSt → Prop} {r : QueueId} (hkeep : ∀ x, P x → P (g x))
    (hest : ∀ x, Q x → P (g x)) (hne : ∀ x, P x → x ≠ QueueSt.empty) {l : List QueueId} {s : State}
    (h : QueueListed s r P ∨ (r ∈ l ∧ QueueListed s r Q)) : QueueListed (l.foldl (fun s q => modQ s q g) s) r P := by
  induction l generalizing s with
  | nil => exact h.elim id fun h => absurd h.1 List.not_mem_nil
  | cons q l ih =>
    refine ih ?_
    by_cases hq : qNum r = qNum q
    · have hmod : modQ s q g = modQ s r g := by
        unfold modQ setQ Machine.getQ
        rw [hq]
      refine .inl ?_
      show QueueListed (modQ s q g) r P
      rw [hmod]
      exact (h.elim (fun h => h.modQ_same hkeep hne) fun h => h.2.modQ_same hest hne)
    · refine h.imp (fun h => h.modQ_ne hq) fun h => ⟨?_, h.2.modQ_ne hq⟩
      exact (List.mem_cons.1 h.1).resolve_left fun he => hq (congrArg qNum he)

/-! ### Writes of a STREAM_COPY -/

/-- A live entry once a write of a STREAM_COPY has been answered (R357). -/
def copyAnswered (t : Txn) (st : Nat) (i : Issued) : Issued :=
  match i.waits with
  | .remote tags => if tags.contains t.tag then
      { i with
        status := joinStatus i.status st
        waits := if (tags.erase t.tag).isEmpty then .done else .remote (tags.erase t.tag) }
    else i
  | _ => i

theorem copyReply_eq (s : State) (t : Txn) (st : Nat) :
    copyReply s t st = (queuesOf s t.part).foldl (fun s q => modQ s q (fun x => { x with live := x.live.map (copyAnswered t st) })) s :=
  rfl

theorem copyAnswered_of_waiting {t : Txn} {st : Nat} {i : Issued} {tags : List Nat} (hw : i.waits = .remote tags) (ht : t.tag ∈ tags) :
    copyAnswered t st i = { i with
      status := joinStatus i.status st
      waits := if tags.erase t.tag = [] then .done else .remote (tags.erase t.tag) } := by
  unfold copyAnswered
  rw [hw]
  dsimp only
  rw [if_pos (List.contains_iff_mem.2 ht)]
  simp only [List.isEmpty_iff]

/-- An entry that awaits the write no longer is left alone. -/
theorem copyAnswered_of_answered {t : Txn} {st : Nat} {i : Issued} (h : i.waits = .done ∨ ∃ tags, i.waits = .remote tags ∧ t.tag ∉ tags) :
    copyAnswered t st i = i := by
  unfold copyAnswered
  rcases h with hw | ⟨tags, hw, ht⟩
  · rw [hw]
  · rw [hw]
    exact if_neg fun h => ht (List.contains_iff_mem.1 h)

theorem mem_copyReply {s : State} {t : Txn} {st : Nat} {q : QueueId} {i : Issued} {tags : List Nat} (hq : q ∈ queuesOf s t.part)
    (hi : i ∈ (getQ s q).live) (hw : i.waits = .remote tags) (ht : t.tag ∈ tags) (hnd : tags.Nodup) :
    { i with
      status := joinStatus i.status st
      waits := if tags.erase t.tag = [] then .done else .remote (tags.erase t.tag) } ∈ (getQ (copyReply s t st) q).live := by
  rw [← copyAnswered_of_waiting hw ht]
  have hstays : copyAnswered t st (copyAnswered t st i) = copyAnswered t st i := by
    refine copyAnswered_of_answered ?_
    rw [copyAnswered_of_waiting hw ht]
    dsimp only
    split
    · exact .inl rfl
    · exact .inr ⟨_, rfl, hnd.not_mem_erase⟩
  rw [copyReply_eq]
  refine (QueueListed.foldl (P := fun x => copyAnswered t st i ∈ x.live) (Q := fun x => i ∈ x.live) (fun x h => ?_)
    (fun x h => List.mem_map_of_mem h) (fun x h he => ?_) (.inr ⟨hq, queueListed_of_live hi⟩)).getQ
  · exact List.mem_map.2 ⟨_, h, hstays⟩
  · rw [he] at h
    exact nomatch h

/-! ### Reads of the host -/

theorem hostDone_pumpHost (s : State) : (pumpHost s).fabric.hostDone = s.fabric.hostDone := by
  have hfold (l : List OutMsg) (t : State) : (l.foldl (fun s m =>
      if hostBlocked s m || s.fabric.hostQ.any (fun x => x.msg.dst == m.msg.dst) then
        { s with fabric := { s.fabric with hostQ := s.fabric.hostQ ++ [m] } }
      else
        sendMsg { s with fabric := { s.fabric with txns := s.fabric.txns ++
          [⟨m.msg.tag, m.msg.dst, m.vc, s.counter, kindOf m.msg.mtype, 0xF, m.msg.addr % 2 ^ 40 + b2n (bitOf m.msg.addr 63) * 2 ^ 40,
            m.msg.payload.length⟩] } } m.vc m.msg) t).fabric.hostDone = t.fabric.hostDone := by
    induction l generalizing t with
    | nil => rfl
    | cons m l ih =>
      rw [List.foldl_cons, ih]
      split <;> rfl
  exact hfold _ _

section
variable {s : State} {t : Txn} {o : HostOp} (ho : s.fabric.hostOps.find? (fun o => o.left.contains t.tag) = some o)
  (hleft : o.left = [t.tag]) (hread : o.write = false)
include ho hleft hread

/-- The response to the last message of a host's read ends the read. -/
theorem hostReply_of_last (status : Nat) (data : List Byte) (poison : Bool) :
    ∃ u, u.mem = s.mem ∧ u.fabric.hostDone = s.fabric.hostDone ∧
      hostReply s t status data poison = pumpHost (if o.failed || decide (status ≠ stOK) then hostAnswer u o.tag 1 []
        else hostAnswer u o.tag (if o.poison || poison then 3 else 0)
          ((o.data.map (fun d => if d.1 = t.tag then (d.1, data) else d)).flatMap (·.2))) := by
  refine ⟨{ s with fabric := { s.fabric with hostOps := s.fabric.hostOps.erase o } }, rfl, rfl, ?_⟩
  unfold hostReply
  rw [ho]
  dsimp only
  rw [hleft, hread, Bool.and_false, List.erase_cons_head]
  rfl

theorem hostReply_ok {data : List Byte} (hfailed : o.failed = false) (hpoison : o.poison = false) (hdata : o.data = [(t.tag, [])]) :
    (hostReply s t stOK data false).mem = s.mem ∧
      (hostReply s t stOK data false).fabric.hostDone = s.fabric.hostDone ++ [(o.tag, 0, data)] := by
  obtain ⟨u, hmem, hdone, heq⟩ := hostReply_of_last ho hleft hread stOK data false
  rw [hfailed, hpoison, hdata] at heq
  have heq' : hostReply s t stOK data false = pumpHost (hostAnswer u o.tag 0 data) := by
    rw [heq]
    simp
  rw [heq', hostDone_pumpHost]
  exact ⟨(pumpHost_agree.area .mem rfl).trans hmem, by rw [← hdone]; rfl⟩

theorem hostReply_failed {status : Nat} (hstatus : status ≠ stOK) :
    (hostReply s t status [] false).mem = s.mem ∧
      (hostReply s t status [] false).fabric.hostDone = s.fabric.hostDone ++ [(o.tag, 1, [])] := by
  obtain ⟨u, hmem, hdone, heq⟩ := hostReply_of_last ho hleft hread status [] false
  rw [decide_eq_true hstatus, Bool.or_true, if_pos rfl] at heq
  rw [heq, hostDone_pumpHost]
  exact ⟨(pumpHost_agree.area .mem rfl).trans hmem, by rw [← hdone]; rfl⟩

end

/-! ### Writes of a drain -/

theorem drainReply_ok (s : State) (t : Txn) : drainReply s t stOK = s := by
  unfold drainReply
  split
  · rfl
  · dsimp only
    split
    · rfl
    · exact if_pos (.inl rfl)

/-- A write of a drain that is not answered in time counts as refused (log 57). -/
theorem drainReply_aborted {s : State} {t : Txn} {d : DrainSt} {y : DestSt} (hd : (getPart s t.part).drain = some d)
    (hy : d.dests.find? (fun y => y.dest == if t.kind = 5 then DrainDest.checkpoint else .buddy) = some y) (hgave : y.gaveUp = false) :
    drainReply s t stAborted = setDest s t.part d (if t.kind = 5 then DrainDest.checkpoint else .buddy)
      (fun z => { z with refused := true }) := by
  unfold drainReply
  rw [hd]
  dsimp only
  rw [hy]
  exact (if_neg (by rw [hgave]; decide)).trans (if_neg fun h => absurd h.2 (by decide))

theorem fabric_setDest (s : State) (p : Nat) (d : DrainSt) (k : DrainDest) (f : DestSt → DestSt) :
    (setDest s p d k f).fabric = s.fabric :=
  setDest_agree.area .fabric rfl

/-! ### The rows -/

theorem remoteTimeout_of_elapsed {tag now : Nat} {s : State} {x : Txn}
    (hx : s.fabric.txns.find? (fun y => y.tag == tag && (y.kind == 4 || y.kind == 5 || y.kind == 7)) = some x)
    (htime : elapsed (advance s now) x.since (((partCfg s x.part).map (·.remoteTimeoutUs)).getD 200) 1000000 = true) :
    remoteTimeout tag now s = if x.kind = 7 then copyReply (dropTxn (advance s now) x) x stLinkDown
      else drainReply (dropTxn (advance s now) x) x stAborted := by
  unfold remoteTimeout
  dsimp only
  rw [show (advance s now).fabric = s.fabric from rfl, hx]
  exact if_pos htime

theorem ctlTimeout_of_elapsed {tag now : Nat} {s : State} {x : Txn}
    (hx : s.fabric.txns.find? (fun x => x.tag == tag && x.kind != 4 && x.kind != 5 && x.kind != 7) = some x)
    (htime : elapsed (advance s now) x.since (ctlTimeoutUs s) 1000000 = true) (hkind : x.kind ≠ 6) :
    ctlTimeout tag now s = hostReply (dropTxn (advance s now) x) x stLinkDown [] false := by
  unfold ctlTimeout
  dsimp only
  rw [show (advance s now).fabric = s.fabric from rfl, hx]
  exact (if_pos htime).trans (if_neg hkind)

theorem received_hostOps (s : State) (a : Arrival) (x : Txn) : (dropTxn (received s a) x).fabric.hostOps = s.fabric.hostOps := by
  obtain ⟨o, q, hf⟩ := fabric_received s a
  show (received s a).fabric.hostOps = _
  rw [hf]

theorem received_hostDone (s : State) (a : Arrival) (x : Txn) : (dropTxn (received s a) x).fabric.hostDone = s.fabric.hostDone := by
  obtain ⟨o, q, hf⟩ := fabric_received s a
  show (received s a).fabric.hostDone = _
  rw [hf]

/-- Settles O42: a response or its time limit ends the transaction that it names, and what waited for it goes on. -/
theorem responses : Obligations.Responses := by
  have hmem (s : State) (a : Arrival) : (received s a).mem = s.mem := received_agree.area .mem rfl
  refine ⟨fun row hrow a s hdel hnone => ?_, fun a s x hdel hx hkind hst => ?_, fun a now s x q i tags hkind hq hi hw ht hnd => ?_,
    fun a s x o hdel hx hkind hst hpoison ho hleft hread hfailed hop hdata => ?_,
    fun a s x o hdel hx hst hkey ho hleft hread hfailed hop hdata => ?_,
    fun tag now s x d y hs hx hkind htime hd => ?_, fun tag now s x o hx hkind htime ho hleft hread => ?_⟩
  · simp only [List.mem_cons, List.not_mem_nil, or_false] at hrow
    rcases hrow with rfl | rfl | rfl
    · refine congrArg Host.Outcome.next ((recv_request hdel (by decide)).trans ?_)
      unfold writeAck
      rw [hnone]
      rfl
    · refine congrArg Host.Outcome.next ((recv_request hdel (by decide)).trans ?_)
      unfold readResp
      dsimp only
      rw [hnone]
      rfl
    · refine congrArg Host.Outcome.next ((recv_request hdel (by decide)).trans ?_)
      unfold ctlResp
      dsimp only
      rw [hnone]
      rfl
  · refine congrArg Host.Outcome.next ((recv_request hdel (by decide)).trans ?_)
    unfold writeAck
    rw [hx]
    dsimp only
    rw [if_neg (by omega), if_neg (by omega), hst, drainReply_ok]
  · intro ends
    refine ⟨fun hdel hx => ?_, fun hx htime => ?_⟩
    · have hbody : writeAck a (received s a) = copyReply (dropTxn (received s a) x) x a.msg.status := by
        unfold writeAck
        rw [hx]
        exact if_pos hkind
      refine ⟨_, congrArg Host.Outcome.next ((recv_request hdel (by decide)).trans hbody), ?_, ?_⟩
      · exact (copyReply_agree.area .mem rfl).trans (hmem s a)
      · refine mem_copyReply ?_ ?_ hw ht hnd
        · rwa [queuesOf_of_cfg_eq (show (dropTxn (received s a) x).cfg = s.cfg from received_agree.area .cfg rfl)]
        · rwa [getQ_of_queues_eq (show (dropTxn (received s a) x).queues = s.queues from received_agree.area .queues rfl)]
    · refine ⟨_, congrArg Host.Outcome.next ((remoteTimeout_of_elapsed hx htime).trans (if_pos hkind)), ?_, ?_⟩
      · exact copyReply_agree.area .mem rfl
      · exact mem_copyReply hq hi hw ht hnd
  · have hbody : readResp a (received s a) = hostReply (dropTxn (received s a) x) x stOK a.msg.payload false := by
      unfold readResp
      dsimp only
      rw [hx]
      dsimp only
      rw [if_pos hkind, hst, hpoison]
    have hr := hostReply_ok (s := dropTxn (received s a) x) (data := a.msg.payload) (by rw [received_hostOps]; exact ho) hleft hread hfailed hop hdata
    rw [received_hostDone, ← hbody] at hr
    exact ⟨_, congrArg Host.Outcome.next (recv_request hdel (by decide)), hr.1.trans (hmem s a), hr.2⟩
  · have hbody : ctlResp a (received s a) = hostReply (dropTxn (received s a) x) x stOK (a.msg.payload.take 8) false := by
      unfold ctlResp
      dsimp only
      rw [hx]
      dsimp only
      rw [if_neg (by omega), hst]
    have hr := hostReply_ok (s := dropTxn (received s a) x) (data := a.msg.payload.take 8) (by rw [received_hostOps]; exact ho) hleft hread hfailed hop hdata
    rw [received_hostDone, ← hbody] at hr
    exact ⟨_, congrArg Host.Outcome.next (recv_request hdel (by decide)), hr.1.trans (hmem s a), hr.2⟩
  · intro k hy hgave
    have hbody := (remoteTimeout_of_elapsed hx htime).trans ((if_neg hkind).trans
      (drainReply_aborted (s := dropTxn (advance s now) x) hd hy hgave))
    have hs2 : TablesOk (dropTxn (advance s now) x) := ⟨hs.regs, hs.resets, hs.queues, hs.fronds, hs.slots, hs.parts, hs.ports⟩
    refine ⟨_, congrArg Host.Outcome.next hbody, ?_, setDest_agree.area .mem rfl, drain_setDest hs2⟩
    rw [fabric_setDest]
    rfl
  · have hr := hostReply_failed (s := dropTxn (advance s now) x) ho hleft hread (status := stLinkDown) (by decide)
    exact ⟨_, congrArg Host.Outcome.next (ctlTimeout_of_elapsed hx htime hkind), hr⟩

end Sys2Proof.Proofs
end

section
/-! SUPPORT. Messages sent on the way, and multicast at a device of its tree (R28, R31, R358, R359, R496). -/

namespace Sys2Proof.Proofs

open Sys2Proof Sys2Proof.Machine Sys2Proof.Safety Sys2Proof.Frame Sys2Proof.Claims Sys2Proof.Laws

/-! ### The fabric after an event

A cause or a record of the log may send INT_NOTIFY, and changes nothing else of the fabric. -/

/-- Of the fabric only messages that leave have been added, with their numbers. -/
def OnlySent (s t : State) : Prop := ∃ o n, t.fabric = { s.fabric with outq := s.fabric.outq ++ o, seqno := n }

theorem OnlySent.refl (s : State) : OnlySent s s := ⟨[], s.fabric.seqno, by rw [List.append_nil]⟩

theorem OnlySent.trans {s t u : State} (h : OnlySent s t) (h' : OnlySent t u) : OnlySent s u := by
  obtain ⟨o, n, ho⟩ := h
  obtain ⟨o', n', ho'⟩ := h'
  exact ⟨o ++ o', n', by rw [ho', ho, List.append_assoc]⟩

theorem OnlySent.of_eq {s t u : State} (h : OnlySent s t) (hu : u.fabric = t.fabric) : OnlySent s u := by
  obtain ⟨o, n, ho⟩ := h
  exact ⟨o, n, hu.trans ho⟩

theorem onlySent_of_eq {s t : State} (h : t.fabric = s.fabric) : OnlySent s t := (OnlySent.refl s).of_eq h

theorem onlySent_sendMsg (s : State) (vc : Nat) (m : Msg) (way : Detour) : OnlySent s (sendMsg s vc m way) := ⟨_, _, rfl⟩

theorem onlySent_notifyInt (old again : Nat) (s : State) : OnlySent s (notifyInt old again s) := by
  unfold notifyInt
  extract_lets now bits s1
  have h1 : OnlySent s s1 := by
    unfold s1
    split
    · exact onlySent_of_eq rfl
    · exact OnlySent.refl s
  clear_value s1
  split
  · split
    · exact h1.trans (onlySent_sendMsg ..)
    · exact h1
  · exact h1

theorem onlySent_raiseCause (s : State) (b k : Nat) : OnlySent s (raiseCause s b k) := by
  unfold raiseCause
  extract_lets old s1 cnt
  have h1 : Agree 32 s (bump s1 cnt b 1) := bump_agree.after rfl setReg_agree
  exact (onlySent_of_eq (h1.area .fabric rfl)).trans (onlySent_notifyInt _ _ _)

theorem fabric_wakeLichen (s : State) : (wakeLichen s).fabric = s.fabric := wakeLichen_agree.area .fabric rfl

theorem onlySent_logEnter (s : State) (r : LogRec) : OnlySent s (logEnter s r) := by
  unfold logEnter
  extract_lets s1 s2
  have h1 : s1.fabric = s.fabric := by
    unfold s1
    split
    · exact fabric_wakeLichen s
    · rfl
  clear_value s1
  split
  · refine OnlySent.trans (OnlySent.of_eq ?_ (bump_agree.area .fabric rfl)) (onlySent_raiseCause ..)
    exact onlySent_of_eq h1
  · refine OnlySent.of_eq ?_ (setLogRegs_agree.area .fabric rfl)
    exact onlySent_of_eq h1

theorem onlySent_logEvent (s : State) (type source severity unitNo : Nat) (part : Option Nat) (payload : List Byte) :
    OnlySent s (logEvent s type source severity unitNo part payload) :=
  onlySent_logEnter ..

theorem OnlySent.mcastRx {s t : State} (h : OnlySent s t) (g : Nat) : mcastRx t g = mcastRx s g := by
  obtain ⟨o, n, ho⟩ := h
  unfold Machine.mcastRx
  rw [ho]

/-! ### The copies on their way -/

theorem mcastRx_of_fabric_eq {s t : State} (h : t.fabric = s.fabric) (g : Nat) : mcastRx t g = mcastRx s g := by
  unfold mcastRx
  rw [h]

theorem mcastRx_putMcastRx (s : State) (x : McastRx) : mcastRx (putMcastRx s x) x.group = x := by
  show ((s.fabric.mcast.filter (fun y => y.group != x.group) ++ [x]).find? (fun y => y.group == x.group)).getD _ = x
  have hnone : (s.fabric.mcast.filter (fun y => y.group != x.group)).find? (fun y => y.group == x.group) = none := by
    rw [List.find?_eq_none]
    intro y hy he
    exact absurd (eq_of_beq he) (bne_iff_ne.1 (List.mem_filter.1 hy).2)
  rw [List.find?_append, hnone]
  simp

theorem group_mcastRx (s : State) (g : Nat) : (mcastRx s g).group = g := by
  unfold mcastRx
  rcases h : s.fabric.mcast.find? (fun x => x.group == g) with _ | x <;> rw [h]
  · rfl
  · exact eq_of_beq (List.find?_some (p := fun x : McastRx => x.group == g) h)

theorem group_of_mcastEntry {s : State} {g : Nat} {e : McastCfg} (h : mcastEntry s g = some e) : e.group = g :=
  eq_of_beq (List.find?_some (p := fun m : McastCfg => m.group == g) h)

theorem mcastEntry_of_cfg_eq {s t : State} (h : t.cfg = s.cfg) (g : Nat) : mcastEntry t g = mcastEntry s g := by
  unfold mcastEntry cfgOf
  rw [h]

/-- Bytes inside the receive region are held and counted (R358). -/
theorem mcastRx_stageBytes {s : State} {e : McastCfg} {o : Nat} {l : List Byte} {poison : Bool} (h : o + l.length ≤ e.rxLen) :
    mcastRx (stageBytes s e o l poison) e.group = { mcastRx s e.group with
      bytes := (mcastRx s e.group).bytes + l.length
      cells := wputs (mcastRx s e.group).cells (e.rxBase + o) l poison } := by
  unfold stageBytes
  rw [if_neg (Nat.not_lt.2 h)]
  conv => lhs; rw [← group_mcastRx s e.group]
  have := mcastRx_putMcastRx s { mcastRx s e.group with
    bytes := (mcastRx s e.group).bytes + l.length
    cells := wputs (mcastRx s e.group).cells (e.rxBase + o) l poison }
  dsimp only at this ⊢
  simp only [group_mcastRx] at this ⊢
  exact this

theorem parts_stageBytes (s : State) (e : McastCfg) (o : Nat) (l : List Byte) (poison : Bool) :
    (stageBytes s e o l poison).mem = s.mem ∧ (stageBytes s e o l poison).parts = s.parts :=
  ⟨stageBytes_agree.area .mem rfl, stageBytes_agree.area .parts rfl⟩

/-- A version above those of the partition's ACTIVE copy and of its complete INCOMING copy (R31). -/
def NewerCopy (x : PartSt) (version : Nat) : Prop :=
  (∀ c, x.active = some c → c.version < version) ∧ (∀ c, x.incoming = some c → c.complete = true → c.version < version)

theorem incoming_incomingCopy_of_newer {s : State} {p version : Nat} {scales : Tbl ScaleEntry} {cells : WSet} (hs : TablesOk s)
    (h : NewerCopy (getPart s p) version) :
    ∃ c, (getPart (incomingCopy s p version scales cells) p).incoming = some c ∧ c.version = version ∧ c.complete = true ∧
      c.scales = scales := by
  obtain ⟨hactive, hincoming⟩ := h
  have hlog {t : State} (l : List Byte) : getPart (logEvent t 0x0102 0 0 0 (some p) l) p = getPart t p :=
    getPart_of_parts_eq (logEvent_agree.area .parts rfl) p
  unfold incomingCopy
  extract_lets x record old
  split
  · next _ _ a ha =>
    obtain ⟨ha, hle⟩ := Option.filter_eq_some_iff.1 ha
    exact absurd (of_decide_eq_true hle) (Nat.not_le.2 (hactive a ha))
  · next _ _ c _ hold =>
    have hc : c.version < version := by
      unfold old at hold
      split at hold
      · next c' hc' =>
        split at hold
        · next hcomplete =>
          cases hold
          exact hincoming c hc' hcomplete
        · exact nomatch hold
      · exact nomatch hold
    rw [if_neg (Nat.not_le.2 hc)]
    unfold record
    rw [hlog, getPart_setPart_same hs]
    exact ⟨_, rfl, rfl, rfl, rfl⟩
  · rw [getPart_setPart_same hs]
    exact ⟨_, rfl, rfl, rfl, rfl⟩

theorem incoming_incomingCopy_of_older {s : State} {p version : Nat} {scales : Tbl ScaleEntry} {cells : WSet}
    (h : ¬ NewerCopy (getPart s p) version) :
    (getPart (incomingCopy s p version scales cells) p).incoming = (getPart s p).incoming := by
  have hlog {t : State} (l : List Byte) : getPart (logEvent t 0x0102 0 0 0 (some p) l) p = getPart t p :=
    getPart_of_parts_eq (logEvent_agree.area .parts rfl) p
  unfold incomingCopy
  extract_lets x record old
  split
  · exact congrArg _ (hlog _)
  · split
    · exact congrArg _ (hlog _)
    · next _ _ c hactive hold hle =>
      refine absurd ⟨fun a ha => ?_, fun c' hc' hcomplete => ?_⟩ h
      · have := Option.filter_eq_none_iff.1 hactive a ha
        simpa using this
      · have : old = some c' := by
          unfold old
          rw [show x.incoming = some c' from hc']
          exact if_pos hcomplete
        cases hold.symm.trans this
        exact Nat.not_le.1 hle
  · next hactive hold =>
    refine absurd ⟨fun a ha => ?_, fun c' hc' hcomplete => ?_⟩ h
    · have := Option.filter_eq_none_iff.1 hactive a ha
      simpa using this
    · have : old = some c' := by
        unfold old
        rw [show x.incoming = some c' from hc']
        exact if_pos hcomplete
      exact nomatch hold.symm.trans this

theorem onlySent_incomingCopy (s : State) (p version : Nat) (scales : Tbl ScaleEntry) (cells : WSet) :
    OnlySent s (incomingCopy s p version scales cells) := by
  unfold incomingCopy
  extract_lets x record old
  split
  · exact onlySent_logEvent ..
  · split
    · exact onlySent_logEvent ..
    · exact (onlySent_of_eq (setPart_agree.area .fabric rfl)).trans (onlySent_logEvent ..)
  · exact onlySent_of_eq (setPart_agree.area .fabric rfl)

/-- The count starts anew at the end of a copy (R359). -/
theorem mcastRx_endCopy (s : State) (e : McastCfg) (version total : Nat) :
    mcastRx (endCopy s e version total) e.group = ⟨e.group, 0, []⟩ := by
  unfold endCopy
  dsimp only
  split
  · rw [(onlySent_incomingCopy ..).mcastRx]
    exact mcastRx_putMcastRx s ⟨e.group, 0, []⟩
  · exact mcastRx_putMcastRx s ⟨e.group, 0, []⟩

theorem incoming_endCopy {s : State} {e : McastCfg} {version total : Nat} (hs : TablesOk s) :
    ((mcastRx s e.group).bytes = total ∧ NewerCopy (getPart s e.rxPart) version →
      ∃ c, (getPart (endCopy s e version total) e.rxPart).incoming = some c ∧ c.version = version ∧ c.complete = true ∧
        c.scales = receivedScales (mcastRx s e.group).cells) ∧
    (¬ ((mcastRx s e.group).bytes = total ∧ NewerCopy (getPart s e.rxPart) version) →
      (getPart (endCopy s e version total) e.rxPart).incoming = (getPart s e.rxPart).incoming) := by
  have hput (x : McastRx) : getPart (putMcastRx s x) e.rxPart = getPart s e.rxPart :=
    getPart_of_parts_eq (putMcastRx_agree.area .parts rfl) _
  unfold endCopy
  dsimp only
  refine ⟨fun ⟨hall, hnew⟩ => ?_, fun hno => ?_⟩
  · rw [if_pos hall]
    exact incoming_incomingCopy_of_newer (putMcastRx_agree.tabOk hs) (by rwa [hput])
  · split
    · next hall =>
      rw [incoming_incomingCopy_of_older (by rw [hput]; exact fun h => hno ⟨hall, h⟩), hput]
    · rw [hput]

/-! ### The rows -/

/-- A multicast message whose tree takes it acts once it has left its receive buffer. -/
theorem recvTree_of_delivered {s : State} {a : Arrival} {mtype : Nat} {body : State → State} (h : DeliveredTree s a mtype)
    (hm : mtype = 0x09 ∨ mtype = 0x0A) : recvTree mtype a body s = body (received s a) := by
  obtain ⟨hmtype, hvc, hmcast, htree, hport⟩ := h
  unfold recvTree
  rw [if_pos (by rw [hmcast, htree]; rfl)]
  unfold recv
  rw [if_neg (Classical.not_not.2 hmtype)]
  extract_lets s1 own body'
  have hlocal : linkLocal a.msg = false := linkLocal_of_lt (by omega)
  have hallowed : vcAllowed mtype a.vc = true := by
    rw [hvc]
    rcases hm with rfl | rfl <;> rfl
  have hlichen : (decide (0x10 ≤ mtype) && decide (mtype < 0x20)) = false := by rcases hm with rfl | rfl <;> rfl
  rw [if_neg (by rw [hallowed]; decide), if_neg (by rw [hlocal]; decide), if_neg (by rw [hport]; simp), if_pos hmcast]
  unfold body'
  rw [hlichen]
  rfl

section
variable {s : State} {a : Arrival}

theorem mcastEntry_mcastOn (g : Nat) : mcastEntry (mcastOn a (received s a)) g = mcastEntry s g :=
  mcastEntry_of_cfg_eq ((mcastOn_agree.area .cfg rfl).trans (received_agree.area .cfg rfl)) g

theorem mcastRx_mcastOn (g : Nat) : mcastRx (mcastOn a (received s a)) g = mcastRx s g := by
  obtain ⟨o, q, hf⟩ := fabric_received s a
  rw [mcastRx_of_fabric_eq (mcastOn_agree.area .fabric rfl)]
  unfold mcastRx
  rw [hf]

/-- A row of a tree: its message goes on, and acts at a receiver of its group where it comes from the root (R358). -/
def treeRow (a : Arrival) (act : McastCfg → State → State) (s0 : State) : State :=
  let s := mcastOn a s0
  match mcastEntry s a.msg.dst with
  | none => mcastReject s
  | some e => if a.msg.src ≠ e.root then mcastReject s else if !e.localRx then s else act e s

/-- A receiver of a fence ends its copy and tells the root (R359). -/
def fenceAct (m : Msg) (e : McastCfg) (s : State) : State :=
  sendMsg (endCopy s e (leAt m.payload 0 8) (leAt m.payload 8 8)) 13
    { dst := e.root, part := m.part, mtype := 0x0B, tag := m.tag
      status := if decide ((mcastRx s m.dst).bytes = leAt m.payload 8 8) then stOK else stLinkDown
      payload := leBytes 8 (leAt m.payload 0 8) ++ leBytes 8 (mcastRx s m.dst).bytes }

theorem exec_mcastWrite (h : DeliveredTree s a 0x09) :
    exec (.mcastWrite a) s = .next (treeRow a (fun e s => stageBytes s e a.msg.addr a.msg.payload a.msg.poison) (received s a)) :=
  congrArg Host.Outcome.next (recvTree_of_delivered h (.inl rfl))

theorem exec_mcastFence (h : DeliveredTree s a 0x0A) :
    exec (.mcastFence a) s = .next (treeRow a (fenceAct a.msg) (received s a)) :=
  congrArg Host.Outcome.next (recvTree_of_delivered h (.inr rfl))

/-- The answer to the root, and the copy that ends (R359). -/
theorem fenceAct_leaves {m : Msg} {e : McastCfg} (hgroup : e.group = m.dst) (s : State) :
    ∃ o, (fenceAct m e s).fabric.outq.getLast? = some o ∧ o.msg.mtype = 0x0B ∧ o.msg.dst = e.root ∧
      o.msg.status = (if (mcastRx s m.dst).bytes = leAt m.payload 8 8 then stOK else stLinkDown) ∧
      o.msg.payload = leBytes 8 (leAt m.payload 0 8) ++ leBytes 8 (mcastRx s m.dst).bytes ∧
      (mcastRx (fenceAct m e s) m.dst).bytes = 0 ∧ (fenceAct m e s).mem = s.mem ∧
      (fenceAct m e s).parts = (endCopy s e (leAt m.payload 0 8) (leAt m.payload 8 8)).parts := by
  have hrx := mcastRx_endCopy s e (leAt m.payload 0 8) (leAt m.payload 8 8)
  rw [hgroup] at hrx
  unfold fenceAct
  refine ⟨_, List.getLast?_concat .., rfl, rfl, ?_, rfl, ?_, ?_, rfl⟩
  · dsimp only
    simp only [decide_eq_true_eq]
  · rw [(onlySent_sendMsg ..).mcastRx, hrx]
  · exact (sendMsg_agree.area .mem rfl).trans (endCopy_agree.area .mem rfl)

theorem treeRow_of_stranger {act : McastCfg → State → State} (hno : ∀ e, mcastEntry s a.msg.dst = some e → a.msg.src ≠ e.root) :
    treeRow a act (received s a) = bump (mcastOn a (received s a)) FAB_MSG_EVENTS_MCAST_REJECT 0 1 := by
  unfold treeRow
  dsimp only
  rw [mcastEntry_mcastOn]
  rcases h : mcastEntry s a.msg.dst with _ | e
  · rfl
  · exact if_pos (hno e h)

theorem treeRow_of_root {act : McastCfg → State → State} {e : McastCfg} (he : mcastEntry s a.msg.dst = some e) (hsrc : a.msg.src = e.root) :
    treeRow a act (received s a) = if e.localRx = false then mcastOn a (received s a) else act e (mcastOn a (received s a)) := by
  unfold treeRow
  dsimp only
  rw [mcastEntry_mcastOn, he]
  refine (if_neg (Classical.not_not.2 hsrc)).trans ?_
  cases e.localRx <;> rfl

end

/-- A receiver's MCAST_DONE, of a drain that awaits it. -/
theorem mcastDone_of_awaited {s : State} {a : Arrival} {d : DrainSt} {y : DestSt} (hpart : a.msg.part < 8)
    (hd : (getPart s a.msg.part).drain = some d) (hver : d.version = leAt a.msg.payload 0 8) (hy : y ∈ d.dests)
    (hdest : y.dest = .rollout a.msg.tag) (hawait : a.msg.src ∈ y.await) :
    mcastDone a s = setDest s a.msg.part d (.rollout a.msg.tag) (fun y => { y with await := y.await.erase a.msg.src }) := by
  have hfind : (List.range 8).find? (fun p => match (getPart s p).drain with
      | some d => d.version == leAt a.msg.payload 0 8 && p == a.msg.part &&
          d.dests.any (fun y => y.dest == .rollout a.msg.tag && y.await.contains a.msg.src)
      | none => false) = some a.msg.part := by
    refine List.find?_range_eq_some.2 ⟨?_, List.mem_range.2 hpart, fun j hj => ?_⟩
    · rw [hd]
      refine Bool.and_eq_true_iff.2 ⟨Bool.and_eq_true_iff.2 ⟨beq_iff_eq.2 hver, beq_self_eq_true _⟩, ?_⟩
      exact List.any_eq_true.2 ⟨y, hy, Bool.and_eq_true_iff.2 ⟨beq_iff_eq.2 hdest, List.contains_iff_mem.2 hawait⟩⟩
    · have hne : (j == a.msg.part) = false := beq_eq_false_iff_ne.2 (Nat.ne_of_lt hj)
      rw [hne]
      split <;> simp
  unfold mcastDone
  dsimp only
  split
  · next hnone => exact nomatch hnone.symm.trans hfind
  · next p hp =>
    cases Option.some.inj (hp.symm.trans hfind)
    rw [hd]

/-- Settles O43: a tree's message is rejected, passes on, or is taken; a fence ends its copy, and its answer ends the wait. -/
theorem multicast : Obligations.Multicast := by
  refine ⟨fun row hrow a s hdel => ?_, fun a s e hdel he hsrc hrx => ?_, fun a s e hs hdel he hsrc hrx => ?_,
    fun a s d y hs hdel hpart hd hver hy hdest hawait => ?_⟩
  · simp only [List.mem_cons, List.not_mem_nil, or_false] at hrow
    rcases hrow with rfl | rfl
    · exact ⟨fun hno => (exec_mcastWrite hdel).trans (congrArg _ (treeRow_of_stranger hno)),
        fun e he hsrc hrx => (exec_mcastWrite hdel).trans (congrArg _ ((treeRow_of_root he hsrc).trans (if_pos hrx)))⟩
    · exact ⟨fun hno => (exec_mcastFence hdel).trans (congrArg _ (treeRow_of_stranger hno)),
        fun e he hsrc hrx => (exec_mcastFence hdel).trans (congrArg _ ((treeRow_of_root he hsrc).trans (if_pos hrx)))⟩
  · have hexec := (exec_mcastWrite hdel).trans (congrArg _ ((treeRow_of_root he hsrc).trans (if_neg (by rw [hrx]; decide))))
    refine ⟨fun hout => hexec.trans (congrArg _ (if_pos hout)), fun hin => ?_⟩
    obtain ⟨hmem, hparts⟩ := parts_stageBytes (mcastOn a (received s a)) e a.msg.addr a.msg.payload a.msg.poison
    refine ⟨_, hexec, hmem.trans ((mcastOn_agree.area .mem rfl).trans (received_agree.area .mem rfl)),
      hparts.trans ((mcastOn_agree.area .parts rfl).trans (received_agree.area .parts rfl)), ?_⟩
    have hrxs := mcastRx_stageBytes (s := mcastOn a (received s a)) (poison := a.msg.poison) hin
    rw [group_of_mcastEntry he, mcastRx_mcastOn] at hrxs
    exact hrxs
  · intro version got taken
    have hon : Agree 98336 s (mcastOn a (received s a)) := mcastOn_agree.after rfl (received_agree.mono rfl)
    have hexec := (exec_mcastFence hdel).trans (congrArg _ ((treeRow_of_root he hsrc).trans (if_neg (by rw [hrx]; decide))))
    have hgroup := group_of_mcastEntry he
    obtain ⟨o, hlast, htype, hroot, hstatus, hpayload, hbytes, hmem, hparts⟩ :=
      fenceAct_leaves (m := a.msg) hgroup (mcastOn a (received s a))
    have hinc := incoming_endCopy (e := e) (version := version) (total := leAt a.msg.payload 8 8) (hon.tabOk hs)
    rw [← getPart_of_parts_eq hparts, hgroup, mcastRx_mcastOn, getPart_of_parts_eq (hon.area .parts rfl)] at hinc
    rw [mcastRx_mcastOn] at hstatus hpayload
    exact ⟨_, o, hexec, hmem.trans (hon.area .mem rfl), hbytes, hlast, htype, hroot, hstatus, hpayload, hinc.1, hinc.2⟩
  · have hparts := getPart_of_parts_eq (received_agree (a := a).area .parts rfl : (received s a).parts = s.parts) a.msg.part
    have hbody := (recv_request hdel (by decide)).trans
      (mcastDone_of_awaited (s := received s a) hpart (by rw [hparts]; exact hd) hver hy hdest hawait)
    exact ⟨_, congrArg Host.Outcome.next hbody, (setDest_agree.area .mem rfl).trans (received_agree.area .mem rfl),
      drain_setDest (received_agree.tabOk hs)⟩

end Sys2Proof.Proofs
end

section
/-! SUPPORT. What events leave: registers outside the interrupt block and the log's, the lichen core's own state but for its wake and
the log queue, the fabric but for messages sent, and flash but for the log's numbers (R468, R478, R492, R496). -/

namespace Sys2Proof.Proofs

open Sys2Proof Sys2Proof.Machine Sys2Proof.Safety Sys2Proof.Frame Sys2Proof.Claims Sys2Proof.Laws

/-- The registers outside the interrupt block that a wake or a record of the log changes. -/
def eventOffs : List Nat :=
  [MGT_LICHEN_STATE_WAKES.off, MGT_LOG_NEWEST_SEQ.off, MGT_LOG_OLDEST_SEQ.off, MGT_LOG_EVENTS_LOST.off]

/-- A register that no wake, cause or record of the log changes. -/
def Quiet (o : Nat) : Prop := (o < 0x14000 ∨ 0x17000 ≤ o) ∧ o ∉ eventOffs

/-- The lichen core's state but for its wake, the log queue and the poisoned blocks of HBM. -/
def MgmtKept (m n : MgmtSt) : Prop :=
  ∃ l w q x b, n = { m with lichen := l, workAt := w, queue := q, lostNext := x, badBlocks := b }

theorem MgmtKept.refl (m : MgmtSt) : MgmtKept m m := ⟨_, _, _, _, _, rfl⟩

theorem MgmtKept.trans {m n k : MgmtSt} (h : MgmtKept m n) (h' : MgmtKept n k) : MgmtKept m k := by
  obtain ⟨l, w, q, x, b, rfl⟩ := h
  obtain ⟨l', w', q', x', b', rfl⟩ := h'
  exact ⟨l', w', q', x', b', rfl⟩

theorem MgmtKept.mbxOrder {m n : MgmtSt} (h : MgmtKept m n) : n.mbxOrder = m.mbxOrder := by
  obtain ⟨l, w, q, x, b, rfl⟩ := h
  rfl

theorem SameButLog.trans {f g k : FlashSt} (h : SameButLog f g) (h' : SameButLog g k) : SameButLog f k := by
  unfold SameButLog at *
  rw [← h', ← h]

/-- From `s` to `t` only events have passed; the registers at the offsets `K` are the same. -/
structure AfterEvents (K : Nat → Prop) (s t : State) : Prop where
  tabOk  : TablesOk t
  regs   : ∀ o, K o → getReg t o = getReg s o
  mgmt   : MgmtKept s.mgmt t.mgmt
  fabric : OnlySent s t
  flash  : SameButLog t.flash s.flash

theorem AfterEvents.refl {K : Nat → Prop} {s : State} (h : TablesOk s) : AfterEvents K s s :=
  ⟨h, fun _ _ => rfl, .refl _, .refl _, rfl⟩

theorem AfterEvents.trans {K : Nat → Prop} {s t u : State} (h : AfterEvents K s t) (h' : AfterEvents K t u) : AfterEvents K s u :=
  ⟨h'.tabOk, fun o ho => (h'.regs o ho).trans (h.regs o ho), h.mgmt.trans h'.mgmt, h.fabric.trans h'.fabric, h'.flash.trans h.flash⟩

theorem AfterEvents.mono {K L : Nat → Prop} {s t : State} (h : AfterEvents K s t) (hL : ∀ o, L o → K o) : AfterEvents L s t :=
  ⟨h.tabOk, fun o ho => h.regs o (hL o ho), h.mgmt, h.fabric, h.flash⟩

theorem AfterEvents.getF {K : Nat → Prop} {s t : State} (h : AfterEvents K s t) {f : Fld} {i : Nat} (hf : K (f.at i)) :
    getF t f i = getF s f i := by
  unfold Machine.getF
  rw [h.regs _ hf]

theorem AfterEvents.goBit {K : Nat → Prop} {s t : State} (h : AfterEvents K s t) {c : Nat} (hc : K (mbxCtrl c)) : goBit t c = goBit s c := by
  unfold Claims.goBit
  rw [h.regs _ hc]

theorem AfterEvents.boots {K : Nat → Prop} {s t : State} (h : AfterEvents K s t) : t.flash.boots = s.flash.boots := by
  have hf := h.flash
  unfold SameButLog at hf
  rw [← hf]

/-- A change of none of the areas that the relation speaks of. -/
theorem AfterEvents.after {K : Nat → Prop} {A : Nat} {s t u : State} (ha : Agree A t u) (h : AfterEvents K s t)
    (hregs : A.testBit Area.regs.idx = false) (hmgmt : A.testBit Area.mgmt.idx = false)
    (hfabric : A.testBit Area.fabric.idx = false) (hflash : A.testBit Area.flash.idx = false) : AfterEvents K s u :=
  ⟨ha.tabOk h.tabOk, fun o ho => (getReg_of_regs_eq (ha.area .regs hregs) o).trans (h.regs o ho),
    (congrArg (MgmtKept s.mgmt) (ha.area .mgmt hmgmt)).mpr h.mgmt, h.fabric.of_eq (ha.area .fabric hfabric),
    (congrArg (SameButLog · s.flash) (ha.area .flash hflash)).mpr h.flash⟩

section
variable {K : Nat → Prop} {s t : State} (h : AfterEvents K s t)
include h

theorem AfterEvents.setReg {o : Nat} {v : W64} (ho : ¬ K o) : AfterEvents K s (setReg t o v) :=
  ⟨setReg_agree.tabOk h.tabOk, fun k hk => (getReg_setReg_ne h.tabOk fun he : k = o => ho (he ▸ hk)).trans (h.regs k hk), h.mgmt, h.fabric,
    h.flash⟩

theorem AfterEvents.setF {f : Fld} {i v : Nat} (hf : ¬ K (f.at i)) : AfterEvents K s (setF t f i v) := h.setReg hf

theorem AfterEvents.bump {f : Fld} {i k : Nat} (hf : ¬ K (f.at i)) : AfterEvents K s (bump t f i k) := by
  refine ⟨bump_agree.tabOk h.tabOk, fun o ho => (getReg_bump_ne h.tabOk fun he => hf (he ▸ ho)).trans (h.regs o ho), ?_, ?_, ?_⟩
  · exact (congrArg (MgmtKept s.mgmt) (bump_agree.area .mgmt rfl)).mpr h.mgmt
  · exact h.fabric.of_eq (bump_agree.area .fabric rfl)
  · exact (congrArg (SameButLog · s.flash) (bump_agree.area .flash rfl)).mpr h.flash

theorem AfterEvents.withMgmt {m : MgmtSt} (hm : MgmtKept t.mgmt m) : AfterEvents K s { t with mgmt := m } :=
  ⟨⟨h.tabOk.regs, h.tabOk.resets, h.tabOk.queues, h.tabOk.fronds, h.tabOk.slots, h.tabOk.parts, h.tabOk.ports⟩, h.regs,
    h.mgmt.trans hm, h.fabric, h.flash⟩

theorem AfterEvents.sendMsg {vc : Nat} {m : Msg} {way : Detour} : AfterEvents K s (sendMsg t vc m way) :=
  ⟨sendMsg_agree.tabOk h.tabOk, h.regs, h.mgmt, h.fabric.trans (onlySent_sendMsg ..), h.flash⟩

end

theorem AfterEvents.foldl {K : Nat → Prop} {β : Type} {g : State → β → State} {s t : State} {l : List β}
    (hg : ∀ u, ∀ b ∈ l, AfterEvents K s u → AfterEvents K s (g u b)) (h : AfterEvents K s t) : AfterEvents K s (l.foldl g t) := by
  induction l generalizing t with
  | nil => exact h
  | cons b l ih => exact ih (fun u c hc => hg u c (List.mem_cons_of_mem _ hc)) (hg t b List.mem_cons_self h)

section
variable {K : Nat → Prop} (hK : ∀ o, K o → Quiet o) {s t : State} (h : AfterEvents K s t)
include hK

/-- An offset that events may change is none of `K`. -/
theorem not_of_loud {o : Nat} (ho : ¬ Quiet o) : ¬ K o := fun hk => ho (hK o hk)

theorem not_quiet_int {o : Nat} (hlow : 0x14000 ≤ o) (hhigh : o < 0x17000) : ¬ K o :=
  not_of_loud hK fun hq => hq.1.elim (fun h => absurd h (Nat.not_lt.2 hlow)) fun h => absurd hhigh (Nat.not_lt.2 h)

theorem not_quiet_of_mem {o : Nat} (ho : o ∈ eventOffs) : ¬ K o := not_of_loud hK fun hq => hq.2 ho

include h

theorem AfterEvents.raiseCause {b k : Nat} (hb : b < 64) (hk : k < 64) : AfterEvents K s (raiseCause t b k) := by
  have hcause : ¬ K (causeOff b) := by
    refine not_quiet_int hK ?_ ?_ <;> simp only [causeOff, Fld.at, INT_CAUSE_CAUSE] <;> omega
  have hcount : ¬ K (countOff b k) := by
    refine not_quiet_int hK ?_ ?_ <;> simp only [countOff, Fld.at, INT_COUNT0_COUNT] <;> omega
  refine ⟨raiseCause_agree.tabOk h.tabOk, fun o ho => (getReg_raiseCause_ne h.tabOk (fun he => hcause (he ▸ ho))
    fun he => hcount (he ▸ ho)).trans (h.regs o ho), ?_, h.fabric.trans (onlySent_raiseCause ..), ?_⟩
  · exact (congrArg (MgmtKept s.mgmt) (raiseCause_agree.area .mgmt rfl)).mpr h.mgmt
  · exact (congrArg (SameButLog · s.flash) (raiseCause_agree.area .flash rfl)).mpr h.flash

theorem AfterEvents.wakeLichen : AfterEvents K s (wakeLichen t) := by
  unfold Machine.wakeLichen
  split
  · exact AfterEvents.bump (h.withMgmt ⟨_, _, _, _, _, rfl⟩) (not_quiet_of_mem hK (by decide))
  · exact h.withMgmt ⟨_, _, _, _, _, rfl⟩

theorem AfterEvents.setLogRegs : AfterEvents K s (setLogRegs t) := by
  unfold Machine.setLogRegs
  dsimp only
  split
  · exact ((h.setF (not_quiet_of_mem hK (by decide))).setF (not_quiet_of_mem hK (by decide))).setF (not_quiet_of_mem hK (by decide))
  · exact h.setF (not_quiet_of_mem hK (by decide))

theorem AfterEvents.logEnter {r : LogRec} : AfterEvents K s (logEnter t r) := by
  unfold Machine.logEnter
  extract_lets u
  have hu : AfterEvents K s u := by
    unfold u
    split
    · exact h.wakeLichen hK
    · exact h
  clear_value u
  split
  · exact ((hu.withMgmt ⟨_, _, _, _, _, rfl⟩).bump (not_quiet_of_mem hK (by decide))).raiseCause hK (by decide) (by decide)
  · refine AfterEvents.setLogRegs hK (AfterEvents.trans hu ⟨?_, fun _ _ => rfl, ⟨_, _, _, _, _, rfl⟩, onlySent_of_eq rfl, rfl⟩)
    exact ⟨hu.tabOk.regs, hu.tabOk.resets, hu.tabOk.queues, hu.tabOk.fronds, hu.tabOk.slots, hu.tabOk.parts, hu.tabOk.ports⟩

theorem AfterEvents.logEvent {a b c d : Nat} {p : Option Nat} {l : List Byte} : AfterEvents K s (logEvent t a b c d p l) :=
  h.logEnter hK

theorem AfterEvents.accessError {req : Requester} {off kind : Nat} : AfterEvents K s (accessError t req off kind) := by
  unfold Machine.accessError
  have hcode : reqCode req < 64 := by cases req <;> simp [reqCode]
  dsimp only
  split
  · exact h.raiseCause hK (by decide) hcode
  · exact (h.setReg (not_quiet_int hK (by decide) (by decide))).raiseCause hK (by decide) hcode

end

end Sys2Proof.Proofs
end

section
/-! SUPPORT. Mailboxes: requests, resets and messages of lichen cores (R485 to R490, R496). -/

namespace Sys2Proof.Proofs

open Sys2Proof Sys2Proof.Machine Sys2Proof.Safety Sys2Proof.Frame Sys2Proof.Claims Sys2Proof.Laws

/-! ### The mailbox registers -/

def InMailbox (o : Nat) : Prop := 0x20000 ≤ o ∧ o < 0x30000

theorem quiet_of_inMailbox {o : Nat} (h : InMailbox o) : Quiet o := by
  obtain ⟨hlow, hhigh⟩ := h
  refine ⟨.inr (by omega), fun hm => ?_⟩
  have : ∀ x ∈ eventOffs, x < 0x20000 := by decide
  exact absurd (this o hm) (Nat.not_lt.2 hlow)

theorem inMailbox_ctrl {c : Nat} (hc : c < 320) : InMailbox (mbxCtrl c) := by
  unfold InMailbox mbxCtrl
  omega

theorem inMailbox_data {c k : Nat} (hc : c < 320) (hk : k < 12) : InMailbox (mbxData c k) := by
  unfold InMailbox mbxData
  omega

theorem mbxData_ne_ctrl {c k : Nat} (hk : k < 12) : mbxData c k ≠ mbxCtrl c := by
  unfold mbxData mbxCtrl
  omega

theorem mbxData_ne {c j k : Nat} (h : j ≠ k) : mbxData c j ≠ mbxData c k := by
  unfold mbxData
  omega

theorem bitOf_toNat (x : W64) (k : Nat) : bitOf x.toNat k = x.getLsbD k := by
  rw [bitOf_eq_testBit, BitVec.testBit_toNat]

/-! ### The data registers of a channel -/

/-- The first `n` data registers of a channel take the words of `f`. -/
def fillData (s : State) (c n : Nat) (f : Nat → W64) : State := (List.range n).foldl (fun s k => setReg s (mbxData c k) (f k)) s

theorem fillData_succ (s : State) (c n : Nat) (f : Nat → W64) : fillData s c (n + 1) f = setReg (fillData s c n f) (mbxData c n) (f n) := by
  unfold fillData
  rw [List.range_succ, List.foldl_append]
  rfl

theorem fillData_agree {s : State} {c n : Nat} {f : Nat → W64} : Agree 32 s (fillData s c n f) := by
  unfold fillData
  exact Agree.foldl (fun u k h => setReg_agree.after rfl h) (Agree.refl _ _)

theorem fillData_keeps {s : State} {c n : Nat} {f : Nat → W64} (hs : TablesOk s) :
    TablesOk (fillData s c n f) ∧ (fillData s c n f).mem = s.mem ∧ (fillData s c n f).mgmt = s.mgmt ∧
      (fillData s c n f).fabric = s.fabric :=
  ⟨fillData_agree.tabOk hs, fillData_agree.area .mem rfl, fillData_agree.area .mgmt rfl, fillData_agree.area .fabric rfl⟩

theorem getReg_fillData_ne {s : State} {c n o : Nat} {f : Nat → W64} (hs : TablesOk s) (ho : ∀ k < n, o ≠ mbxData c k) :
    getReg (fillData s c n f) o = getReg s o := by
  induction n with
  | zero => rfl
  | succ n ih =>
    rw [fillData_succ, getReg_setReg_ne (fillData_keeps hs).1 (ho n (Nat.lt_succ_self n))]
    exact ih fun k hk => ho k (Nat.lt_succ_of_lt hk)

theorem getReg_fillData {s : State} {c n k : Nat} {f : Nat → W64} (hs : TablesOk s) (hk : k < n) :
    getReg (fillData s c n f) (mbxData c k) = f k := by
  induction n with
  | zero => omega
  | succ n ih =>
    rw [fillData_succ]
    by_cases h : k = n
    · rw [h, getReg_setReg_same (fillData_keeps hs).1]
    · rw [getReg_setReg_ne (fillData_keeps hs).1 (mbxData_ne h)]
      exact ih (by omega)

/-- Words listed with their places fill the registers of the places. -/
theorem foldl_zipIdx_eq_fillData (s : State) (c : Nat) (l : List W64) :
    l.zipIdx.foldl (fun s (v, k) => setReg s (mbxData c k) v) s = fillData s c l.length (fun k => l.getD k 0) := by
  have hl : l.zipIdx = (List.range l.length).map (fun k => (l.getD k 0, k)) := by
    refine List.ext_getElem (by simp) fun i h1 h2 => ?_
    have hi : i < l.length := by simpa using h1
    simp [hi]
  rw [hl, List.foldl_map]
  rfl

/-! ### Requests -/

/-- A request stands pending (R486). -/
theorem postRequest_leaves {s : State} {c : Nat} (hs : TablesOk s) (hc : c < 320) :
    TablesOk (postRequest s c) ∧ goBit (postRequest s c) c = true ∧ (postRequest s c).mgmt.mbxOrder = s.mgmt.mbxOrder ++ [c] ∧
      (postRequest s c).mem = s.mem ∧ ∀ k < 12, getReg (postRequest s c) (mbxData c k) = getReg s (mbxData c k) := by
  have h1 : TablesOk (setReg s (mbxCtrl c) (getReg s (mbxCtrl c) ||| 1)) := setReg_agree.tabOk hs
  have hev : AfterEvents InMailbox { setReg s (mbxCtrl c) (getReg s (mbxCtrl c) ||| 1) with mgmt := { s.mgmt with
      mbxOrder := s.mgmt.mbxOrder ++ [c] } } (postRequest s c) :=
    AfterEvents.wakeLichen (fun _ => quiet_of_inMailbox)
      (AfterEvents.refl ⟨h1.regs, h1.resets, h1.queues, h1.fronds, h1.slots, h1.parts, h1.ports⟩)
  refine ⟨hev.tabOk, ?_, hev.mgmt.mbxOrder, wakeLichen_agree.area .mem rfl, fun k hk => ?_⟩
  · rw [hev.goBit (inMailbox_ctrl hc)]
    show bitOf (getReg (setReg s (mbxCtrl c) (getReg s (mbxCtrl c) ||| 1)) (mbxCtrl c)).toNat 0 = true
    rw [getReg_setReg_same hs, bitOf_toNat, BitVec.getLsbD_or]
    simp
  · rw [hev.regs _ (inMailbox_data hc hk)]
    exact getReg_setReg_ne hs (mbxData_ne_ctrl hk)

/-- A channel's control register once a write of 1 to DONE has acted. -/
def doneCleared (s : State) (c : Nat) (clear : Bool) : State :=
  if clear then setReg s (mbxCtrl c) (getReg s (mbxCtrl c) &&& ~~~2) else s

theorem doneCleared_agree {s : State} {c : Nat} {clear : Bool} : Agree 32 s (doneCleared s c clear) := by
  unfold doneCleared
  split
  · exact setReg_agree
  · exact Agree.refl _ _

theorem getReg_doneCleared_ne {s : State} {c o : Nat} {clear : Bool} (hs : TablesOk s) (ho : o ≠ mbxCtrl c) :
    getReg (doneCleared s c clear) o = getReg s o := by
  unfold doneCleared
  split
  · exact getReg_setReg_ne hs ho
  · rfl

theorem goBit_doneCleared {s : State} {c : Nat} {clear : Bool} (hs : TablesOk s) : goBit (doneCleared s c clear) c = goBit s c := by
  unfold doneCleared goBit
  split
  · rw [getReg_setReg_same hs, bitOf_toNat, bitOf_toNat, BitVec.getLsbD_and]
    simp
  · rfl

theorem doneBit_doneCleared {s : State} {c : Nat} (hs : TablesOk s) : doneBit (doneCleared s c true) c = false := by
  unfold doneCleared doneBit
  rw [if_pos rfl, getReg_setReg_same hs, bitOf_toNat, BitVec.getLsbD_and]
  simp

section
variable {s : State} {c : Nat} {a : Requester} {v : W64}

theorem mbxCtrlWrite_of_stranger (h : sendsOn s a c = false) :
    mbxCtrlWrite c a (Wr.full v) s = accessError s a (mbxCtrl c) 3 := by
  unfold mbxCtrlWrite
  exact if_pos (by rw [h]; rfl)

variable (hsend : sendsOn s a c = true)
include hsend

theorem mbxCtrlWrite_of_sender : mbxCtrlWrite c a (Wr.full v) s =
    if (!bitOf v.toNat 0 || goBit s c) = true then doneCleared s c (bitOf v.toNat 1)
    else if (doneBit s c || (decide (16 ≤ c) && decide (c < 32))) = true then
      accessError (doneCleared s c (bitOf v.toNat 1)) a (mbxCtrl c) 3
    else postRequest (doneCleared s c (bitOf v.toNat 1)) c := by
  unfold mbxCtrlWrite
  dsimp only
  rw [if_neg (by rw [hsend]; decide)]
  rfl

end

/-! ### Replies and resets -/

/-- The bits of a control register whose request has its reply. -/
theorem replied_of_ctrl {t : State} {c st w : Nat} (hst : st < 256) (hlow : bitsOf w 0 2 = 2) (hstatus : bitsOf w 8 8 = st)
    (hw : getReg t (mbxCtrl c) = BitVec.ofNat 64 w) : Replied t c st := by
  unfold Replied goBit doneBit bitOf
  unfold bitsOf at *
  rw [hw, BitVec.toNat_ofNat]
  simp only [beq_iff_eq, beq_eq_false_iff_ne, ne_eq]
  omega

theorem bitsOf_replied (ctrl st : Nat) : bitsOf (putBits (putBits ctrl 0 2 2) 8 8 st) 0 2 = 2 ∧
    bitsOf (putBits (putBits ctrl 0 2 2) 8 8 st) 8 8 = st % 256 := by
  exact ⟨(bitsOf_putBits_ne (.inl (by decide))).trans (bitsOf_putBits_same ..), bitsOf_putBits_same ..⟩

/-- A receiver reset of one channel (R487). -/
theorem resetChannel_leaves {s : State} {c : Nat} (hs : TablesOk s) (hc : c < 320) :
    Replied (resetChannel s c) c stAborted ∧ (∀ k < 12, getReg (resetChannel s c) (mbxData c k) = 0) ∧
      (resetChannel s c).mgmt.mbxOrder = s.mgmt.mbxOrder.erase c := by
  unfold resetChannel
  extract_lets ctrl s1 s2 m s3
  have hfill : s1 = fillData s c 12 (fun _ => 0) := rfl
  clear_value s1
  subst hfill
  obtain ⟨hs1, -, hmgmt, -⟩ := fillData_keeps (c := c) (n := 12) (f := fun _ => 0) hs
  have hs2 : TablesOk s2 := setReg_agree.tabOk hs1
  have hctrl : getReg s2 (mbxCtrl c) = BitVec.ofNat 64 (putBits (putBits ctrl 0 2 2) 8 8 stAborted) := getReg_setReg_same hs1
  have hdata (k : Nat) (hk : k < 12) : getReg s2 (mbxData c k) = 0 := by
    unfold s2
    rw [getReg_setReg_ne hs1 (mbxData_ne_ctrl hk), getReg_fillData hs hk]
  have hmgmt2 : s2.mgmt = s.mgmt := hmgmt
  clear_value s2
  have hs3 : TablesOk s3 := ⟨hs2.regs, hs2.resets, hs2.queues, hs2.fronds, hs2.slots, hs2.parts, hs2.ports⟩
  have horder : s3.mgmt.mbxOrder = s.mgmt.mbxOrder.erase c := congrArg (fun m => m.mbxOrder.erase c) hmgmt2
  have hregs (o : Nat) : getReg s3 o = getReg s2 o := rfl
  clear_value s3
  have hleaves {t : State} (hev : AfterEvents InMailbox s3 t) : Replied t c stAborted ∧ (∀ k < 12, getReg t (mbxData c k) = 0) ∧
      t.mgmt.mbxOrder = s.mgmt.mbxOrder.erase c := by
    obtain ⟨hlow, hstatus⟩ := bitsOf_replied ctrl stAborted
    refine ⟨replied_of_ctrl (by decide) hlow hstatus ((hev.regs _ (inMailbox_ctrl hc)).trans ((hregs _).trans hctrl)), fun k hk => ?_, ?_⟩
    · exact (hev.regs _ (inMailbox_data hc hk)).trans ((hregs _).trans (hdata k hk))
    · exact hev.mgmt.mbxOrder.trans horder
  split
  · next hlt => exact hleaves ((AfterEvents.refl hs3).raiseCause (fun _ => quiet_of_inMailbox) (by decide) (by omega))
  · split
    · exact hleaves (AfterEvents.refl hs3).sendMsg
    · exact hleaves (AfterEvents.refl hs3)

/-! ### Messages of lichen cores -/

/-- A fabric control message that is delivered acts once the lichen core has been woken (R468). -/
theorem recv_control {s : State} {a : Arrival} {mtype : Nat} {body : State → State} (h : Delivered s a mtype) (hm : 0x14 ≤ mtype)
    (hlt : mtype < 0x20) : recv mtype a body s = body (atLichen s a) := by
  have hlocal : linkLocal a.msg = false := by
    unfold linkLocal
    rw [h.1, decide_eq_false (show ¬mtype ≤ 0x13 by omega), Bool.and_false]
  rw [recv_of_delivered h hlocal, decide_eq_true (show 0x10 ≤ mtype by omega), decide_eq_true hlt, Bool.and_true, if_pos rfl]
  rfl

theorem getReg_received {s : State} {a : Arrival} {o : Nat} (hs : TablesOk s) (ho : o < 0x31000) : getReg (received s a) o = getReg s o := by
  have htake : Agree 98304 s (takeMsg s a) := takeMsg_agree
  unfold received checkSeq
  split
  · refine (getReg_bump_ne ?_ ?_).trans (getReg_of_regs_eq (htake.area .regs rfl) o)
    · have h := htake.tabOk hs
      exact ⟨h.regs, h.resets, h.queues, h.fronds, h.slots, h.parts, h.ports⟩
    · simp only [Fld.at, FAB_PORT_STATUS_SEQ_GAP]
      omega
  · exact getReg_of_regs_eq (htake.area .regs rfl) o

theorem atLichen_leaves {s : State} {a : Arrival} (hs : TablesOk s) :
    TablesOk (atLichen s a) ∧ (∀ o, InMailbox o → getReg (atLichen s a) o = getReg s o) ∧
      (atLichen s a).mgmt.mbxOrder = s.mgmt.mbxOrder ∧ (atLichen s a).mem = s.mem ∧ (atLichen s a).fabric.addr = s.fabric.addr ∧
      (atLichen s a).stipe = s.stipe := by
  have hev : AfterEvents InMailbox (received s a) (atLichen s a) :=
    AfterEvents.wakeLichen (fun _ => quiet_of_inMailbox) (AfterEvents.refl (received_agree.tabOk hs))
  obtain ⟨o, q, hf⟩ := fabric_received s a
  refine ⟨hev.tabOk, fun o ho => ?_, ?_, ?_, ?_, ?_⟩
  · exact (hev.regs o ho).trans (getReg_received hs (by obtain ⟨-, h⟩ := ho; omega))
  · exact hev.mgmt.mbxOrder.trans (congrArg MgmtSt.mbxOrder (received_agree.area .mgmt rfl))
  · exact (wakeLichen_agree.area .mem rfl).trans (received_agree.area .mem rfl)
  · rw [show (atLichen s a).fabric = (received s a).fabric from fabric_wakeLichen _, hf]
  · exact (wakeLichen_agree.area .stipe rfl).trans (received_agree.area .stipe rfl)

theorem length_leBytes (k n : Nat) : (leBytes k n).length = k := by
  induction k generalizing n with
  | zero => rfl
  | succ k ih => exact congrArg (· + 1) (ih _)

/-- Twelve words of a mailbox as bytes. -/
theorem length_words (f : Nat → W64) : ((List.range 12).flatMap (fun k => leBytes 8 (f k).toNat)).length = 96 := by
  rw [List.length_flatMap]
  simp only [length_leBytes]
  rfl

/-- A request of a peer that is refused (R490). -/
theorem mbxPost_of_refused {s : State} {a : Arrival} (hs : TablesOk s)
    (h : a.msg.src / 16 ≠ s.fabric.addr.getD 0 / 16 ∨ goBit s (16 + a.msg.src % 16) = true ∨ doneBit s (16 + a.msg.src % 16) = true) :
    ∃ pl, Answers (mbxPost a s) 10 a.msg 0x19 stNoResource pl ∧ pl.length = 96 ∧ (mbxPost a s).mgmt.mbxOrder = s.mgmt.mbxOrder ∧
      (mbxPost a s).mem = s.mem ∧
      ∀ k < 12, getReg (mbxPost a s) (mbxData (16 + a.msg.src % 16) k) = getReg s (mbxData (16 + a.msg.src % 16) k) := by
  unfold mbxPost
  extract_lets src own c ctrl words s1 s2
  rw [if_pos (show src / 16 ≠ own / 16 ∨ bitOf ctrl 0 = true ∨ bitOf ctrl 1 = true from h)]
  have hs1 : TablesOk s1 := ⟨hs.regs, hs.resets, hs.queues, hs.fronds, hs.slots, hs.parts, hs.ports⟩
  have hb : Agree 32 s1 (bump s1 MBX_CTRL_MBX_REJECT c 1) := bump_agree
  refine ⟨words, ?_, length_words _, ?_, ?_, fun k hk => ?_⟩
  · unfold Answers
    rw [hb.area .fabric rfl]
    exact ⟨_, List.getLast?_concat .., rfl, rfl, rfl, rfl, rfl, rfl⟩
  · rw [hb.area .mgmt rfl]
    rfl
  · rw [hb.area .mem rfl]
    rfl
  · rw [getReg_bump_ne hs1]
    · rfl
    · unfold mbxData Fld.at
      simp only [MBX_CTRL_MBX_REJECT]
      omega

/-- A request of a peer that enters its channel (R490). -/
theorem mbxPost_of_free {s : State} {a : Arrival} (hcolony : a.msg.src / 16 = s.fabric.addr.getD 0 / 16)
    (hgo : goBit s (16 + a.msg.src % 16) = false) (hdone : doneBit s (16 + a.msg.src % 16) = false) :
    mbxPost a s = postRequest (fillData s (16 + a.msg.src % 16) 12 (fun k => BitVec.ofNat 64 (leAt a.msg.payload (8 * k) 8)))
      (16 + a.msg.src % 16) := by
  refine if_neg ?_
  unfold goBit doneBit at *
  rw [hcolony, hgo, hdone]
  simp

/-- Settles O45: a request is posted, refused or reset, and a message of a lichen core acts once its own has been woken. -/
theorem mailboxRequests : Obligations.MailboxRequests := by
  have hdrop {s : State} {a : Requester} (hs : TablesOk s) : TablesOk (dropShadow s a) :=
    ⟨hs.regs, hs.resets, hs.queues, hs.fronds, hs.slots, hs.parts, hs.ports⟩
  refine ⟨fun c a v s hs hc hrange hsend hreach hv hgo hdone => ?_, fun c a v s hs hc hsend hreach hv0 hv1 => ?_,
    fun c a v s hs hc hreach hrefused => ?_, fun c s hs hc hruns => ?_, fun a s hs hdel => ?_, fun a s hdel => ?_,
    fun a s hs hdel hstipe hcolony hsum => ?_⟩
  · have hbody : mbxCtrlWrite c a (Wr.full v) (dropShadow s a) = postRequest (doneCleared (dropShadow s a) c (bitOf v.toNat 1)) c := by
      refine (mbxCtrlWrite_of_sender (s := dropShadow s a) hsend).trans ((if_neg ?_).trans (if_neg ?_))
      · rw [hv, show goBit (dropShadow s a) c = false from hgo]
        decide
      · rw [show doneBit (dropShadow s a) c = false from hdone]
        simp
        omega
    have hs1 : TablesOk (doneCleared (dropShadow s a) c (bitOf v.toNat 1)) := doneCleared_agree.tabOk (hdrop hs)
    obtain ⟨-, hgo', horder, hmem, hdata⟩ := postRequest_leaves hs1 hc
    refine ⟨_, congrArg Host.Outcome.next ((touch_of_reached hreach).trans hbody), hgo', ?_, ?_, fun k hk => ?_⟩
    · rw [horder, show (doneCleared (dropShadow s a) c (bitOf v.toNat 1)).mgmt = s.mgmt from doneCleared_agree.area .mgmt rfl]
    · exact hmem.trans (doneCleared_agree.area .mem rfl)
    · exact (hdata k hk).trans (getReg_doneCleared_ne (hdrop hs) (mbxData_ne_ctrl hk))
  · have hbody : mbxCtrlWrite c a (Wr.full v) (dropShadow s a) = doneCleared (dropShadow s a) c true := by
      refine (mbxCtrlWrite_of_sender (s := dropShadow s a) hsend).trans ((if_pos ?_).trans (by rw [hv1]))
      rw [hv0]
      rfl
    exact ⟨_, congrArg Host.Outcome.next ((touch_of_reached hreach).trans hbody), doneBit_doneCleared (hdrop hs),
      goBit_doneCleared (hdrop hs), doneCleared_agree.area .mgmt rfl, doneCleared_agree.area .mem rfl⟩
  · obtain ⟨clear, hbody⟩ : ∃ clear, mbxCtrlWrite c a (Wr.full v) (dropShadow s a) =
        accessError (doneCleared (dropShadow s a) c clear) a (mbxCtrl c) 3 := by
      rcases hsend : sendsOn (dropShadow s a) a c with _ | _
      · exact ⟨false, mbxCtrlWrite_of_stranger hsend⟩
      · obtain ⟨hv, hgo, hdone⟩ := hrefused.resolve_left fun hno => Bool.false_ne_true (hno.symm.trans hsend)
        refine ⟨bitOf v.toNat 1, (mbxCtrlWrite_of_sender hsend).trans ((if_neg ?_).trans (if_pos ?_))⟩
        · rw [hv, show goBit (dropShadow s a) c = false from hgo]
          decide
        · rw [show doneBit (dropShadow s a) c = true from hdone]
          rfl
    have hs1 : TablesOk (doneCleared (dropShadow s a) c clear) := doneCleared_agree.tabOk (hdrop hs)
    have hev : AfterEvents InMailbox (doneCleared (dropShadow s a) c clear) (accessError (doneCleared (dropShadow s a) c clear) a (mbxCtrl c) 3) :=
      (AfterEvents.refl hs1).accessError fun _ => quiet_of_inMailbox
    refine ⟨_, congrArg Host.Outcome.next ((touch_of_reached hreach).trans hbody), ?_, (accessError_onlyErrored _ _ _ hs1).1, ?_, ?_⟩
    · exact (hev.goBit (inMailbox_ctrl hc)).trans (goBit_doneCleared (hdrop hs))
    · exact hev.mgmt.mbxOrder.trans (congrArg MgmtSt.mbxOrder (doneCleared_agree.area .mgmt rfl))
    · exact (accessError_agree.area .mem rfl).trans (doneCleared_agree.area .mem rfl)
  · obtain ⟨hreplied, hdata, horder⟩ := resetChannel_leaves hs hc
    exact ⟨_, congrArg Host.Outcome.next (if_pos ⟨hc, rfl, hruns⟩), hreplied, hdata, horder, resetChannel_agree.area .mem rfl⟩
  · intro c
    have hexec : exec (.mbxPost a) s = .next (mbxPost a (atLichen s a)) := congrArg Host.Outcome.next (recv_control hdel (by decide) (by decide))
    obtain ⟨hs1, hregs, horder, hmem, haddr, -⟩ := atLichen_leaves (a := a) hs
    have hc : c < 320 := by unfold c; omega
    have hgo : goBit (atLichen s a) c = goBit s c := by unfold goBit; rw [hregs _ (inMailbox_ctrl hc)]
    have hdone : doneBit (atLichen s a) c = doneBit s c := by unfold doneBit; rw [hregs _ (inMailbox_ctrl hc)]
    have hown : (atLichen s a).fabric.addr.getD 0 = a.msg.dst := by
      rw [haddr, hdel.2.2.2.1]
      rfl
    refine ⟨fun hcolony hgo0 hdone0 => ?_, fun hrefused => ?_⟩
    · have hbody := mbxPost_of_free (s := atLichen s a) (by rw [hown]; exact hcolony) (hgo.trans hgo0) (hdone.trans hdone0)
      obtain ⟨hf, hfmem, hfmgmt, -⟩ := fillData_keeps (c := c) (n := 12) (f := fun k => BitVec.ofNat 64 (leAt a.msg.payload (8 * k) 8)) hs1
      obtain ⟨-, hgo', horder', hmem', hdata⟩ := postRequest_leaves hf hc
      refine ⟨_, hexec.trans (congrArg _ hbody), hgo', ?_, hmem'.trans (hfmem.trans hmem), fun k hk => ?_⟩
      · rw [horder', hfmgmt, horder]
      · exact (hdata k hk).trans (getReg_fillData (f := fun k => BitVec.ofNat 64 (leAt a.msg.payload (8 * k) 8)) hs1 hk)
    · obtain ⟨pl, hans, hlen, horder', hmem', hdata⟩ := mbxPost_of_refused (a := a) hs1 (by
        rw [hown]
        exact hrefused.imp_right fun h => h.imp (fun h => hgo.trans h) fun h => hdone.trans h)
      exact ⟨_, pl, hexec, hans, hlen, horder'.trans horder, hmem'.trans hmem,
        fun k hk => (hdata k hk).trans (hregs _ (inMailbox_data hc hk))⟩
  · exact congrArg Host.Outcome.next (recv_control hdel (by decide) (by decide))
  · obtain ⟨hs1, -, -, hmem, haddr, hst⟩ := atLichen_leaves (a := a) hs
    have hbody : intNotify a (atLichen s a) = raiseCause (atLichen s a) 17 (a.msg.src % 16) := by
      refine if_pos ⟨(isStipe_of_stipe_eq hst).trans hstipe, ?_, hsum⟩
      rw [haddr, hdel.2.2.2.1, hcolony]
      rfl
    refine ⟨_, congrArg Host.Outcome.next ((recv_control hdel (by decide) (by decide)).trans hbody), ?_, ?_⟩
    · exact raiseCause_caused hs1 (by omega)
    · exact (raiseCause_agree.area .mem rfl).trans hmem

end Sys2Proof.Proofs
end

section
/-! SUPPORT. The services of firmware: replies, the log, telemetry and attestation (R475, R486 to R489, R507). -/

namespace Sys2Proof.Proofs

open Sys2Proof Sys2Proof.Machine Sys2Proof.Safety Sys2Proof.Frame Sys2Proof.Claims Sys2Proof.Laws

/-! ### Replies -/

/-- The reply of R486: the channel's registers, and the request that is pending no longer. -/
theorem finishReply_leaves {s : State} {c st : Nat} {data : List W64} (hs : TablesOk s) (hc : c < 320) (hst : st < 256)
    (hlen : data.length = 12) :
    Replied (finishReply s c st data) c st ∧
      (finishReply s c st data).mgmt = { s.mgmt with mbxOrder := s.mgmt.mbxOrder.erase c, workAt := s.counter } ∧
      (∀ k < 12, getReg (finishReply s c st data) (mbxData c k) = data.getD k 0) := by
  unfold finishReply
  extract_lets ctrl s1 v s2 m s3
  have hfill : s1 = fillData s c 12 (fun k => data.getD k 0) := by
    rw [← hlen]
    exact foldl_zipIdx_eq_fillData s c data
  clear_value s1
  subst hfill
  obtain ⟨hs1, -, hmgmt, -⟩ := fillData_keeps (c := c) (n := 12) (f := fun k => data.getD k 0) hs
  have hcounter : (fillData s c 12 (fun k => data.getD k 0)).counter = s.counter := fillData_agree.area .counter rfl
  have hs2 : TablesOk s2 := setReg_agree.tabOk hs1
  have hctrl : getReg s2 (mbxCtrl c) = BitVec.ofNat 64 v := getReg_setReg_same hs1
  have hdata (k : Nat) (hk : k < 12) : getReg s2 (mbxData c k) = data.getD k 0 := by
    unfold s2
    rw [getReg_setReg_ne hs1 (mbxData_ne_ctrl hk), getReg_fillData hs hk]
  have hmgmt2 : s2.mgmt = s.mgmt := hmgmt
  have hcounter2 : s2.counter = s.counter := hcounter
  clear_value s2
  have hs3 : TablesOk s3 := ⟨hs2.regs, hs2.resets, hs2.queues, hs2.fronds, hs2.slots, hs2.parts, hs2.ports⟩
  have hregs (o : Nat) : getReg s3 o = getReg s2 o := rfl
  have hmgmt3 : s3.mgmt = { s.mgmt with mbxOrder := s.mgmt.mbxOrder.erase c, workAt := s.counter } := by
    show { s2.mgmt with mbxOrder := s2.mgmt.mbxOrder.erase c, workAt := s2.counter } = _
    rw [hmgmt2, hcounter2]
  have hlow : bitsOf v 0 2 = 2 := by
    unfold v
    rw [bitsOf_putBits_ne (.inl (by decide))]
    exact (bitsOf_replied ctrl st).1
  have hstatus : bitsOf v 8 8 = st := by
    unfold v
    rw [bitsOf_putBits_ne (.inl (by decide)), (bitsOf_replied ctrl st).2]
    omega
  clear_value s3 v
  have hleaves {t : State} (hev : AfterEvents InMailbox s3 t) (hm : t.mgmt = s3.mgmt) : Replied t c st ∧
      t.mgmt = { s.mgmt with mbxOrder := s.mgmt.mbxOrder.erase c, workAt := s.counter } ∧
      ∀ k < 12, getReg t (mbxData c k) = data.getD k 0 := by
    refine ⟨replied_of_ctrl hst hlow hstatus ((hev.regs _ (inMailbox_ctrl hc)).trans ((hregs _).trans hctrl)), hm.trans hmgmt3,
      fun k hk => ?_⟩
    exact (hev.regs _ (inMailbox_data hc hk)).trans ((hregs _).trans (hdata k hk))
  split
  · exact hleaves ((AfterEvents.refl hs3).raiseCause (fun _ => quiet_of_inMailbox) (by decide) (by omega))
      (raiseCause_agree.area .mgmt rfl)
  · split
    · exact hleaves (AfterEvents.refl hs3).sendMsg rfl
    · exact hleaves (AfterEvents.refl hs3) rfl

/-- The words of a service's reply (log 73). -/
def replyWords (s : State) (c : Nat) (results : List (Nat × W64)) : List W64 :=
  (List.range 12).map (fun k =>
    if k = 0 then getReg s (mbxData c 0)
    else match results.find? (fun r => r.1 == k) with
      | some r => r.2
      | none => Config.replyWord s.free k)

theorem reply_eq (s : State) (c st : Nat) (results : List (Nat × W64)) :
    reply s c st results = finishReply { s with free := s.free + 1 } c st (replyWords s c results) :=
  rfl

theorem reply_leaves {s : State} {c st : Nat} {results : List (Nat × W64)} (hs : TablesOk s) (hc : c < 320) (hst : st < 256) :
    Replied (reply s c st results) c st ∧
      (reply s c st results).mgmt = { s.mgmt with mbxOrder := s.mgmt.mbxOrder.erase c, workAt := s.counter } ∧
      (reply s c st results).mem = s.mem ∧
      (∀ w, results = [(1, w)] → getReg (reply s c st results) (mbxData c 1) = w) := by
  have hs1 : TablesOk { s with free := s.free + 1 } := ⟨hs.regs, hs.resets, hs.queues, hs.fronds, hs.slots, hs.parts, hs.ports⟩
  obtain ⟨hreplied, hmgmt, hdata⟩ := finishReply_leaves (data := replyWords s c results) hs1 hc hst rfl
  refine ⟨hreplied, hmgmt, finishReply_agree.area .mem rfl, fun w hw => ?_⟩
  rw [reply_eq, hdata 1 (by decide), hw]
  rfl

/-- What a request must be to be served (R569). -/
theorem serve_of_serves {s : State} {c code : Nat} {body : State → State} (h : serves s c code = true) :
    serve c code body s = body s := if_pos h

theorem lt_of_serves {s : State} {c code : Nat} (h : serves s c code = true) : c < 320 := by
  unfold serves at h
  simp only [Bool.and_eq_true, decide_eq_true_eq] at h
  omega

/-! ### The services -/

theorem logCopy_of_bad_count {s : State} {c : Nat} (h : mbxWord s c 2 = 0 ∨ 65536 < mbxWord s c 2) :
    logCopy c s = reply s c stBadDesc [] := if_pos h

theorem logCopy_of_target {s : State} {c : Nat} (hcount : 1 ≤ mbxWord s c 2) (hmax : mbxWord s c 2 ≤ 65536)
    (htarget : hbmTarget (mbxWord s c 3) (64 * (loggedRun s (mbxWord s c 1) (mbxWord s c 2)).length) 64 = none) :
    logCopy c s = reply (writeBytes s (mbxWord s c 3) (loggedRun s (mbxWord s c 1) (mbxWord s c 2)).flatten) c stOK
      [(1, BitVec.ofNat 64 (loggedRun s (mbxWord s c 1) (mbxWord s c 2)).length)] := by
  unfold loggedRun at htarget ⊢
  unfold logCopy
  dsimp only
  rw [if_neg (by omega), htarget]

theorem attestService_of_bad_target {s : State} {c st : Nat} (h : hbmTarget (mbxWord s c 5) 4738 1 = some st) :
    attestService c s = reply s c st [] := by
  unfold attestService
  dsimp only
  rw [h]

theorem attestService_of_target {s : State} {c : Nat} (h : hbmTarget (mbxWord s c 5) 4738 1 = none) :
    attestService c s = reply (writeBytes s (mbxWord s c 5)
      (attestReport s ((List.range' 1 4).flatMap (fun k => leBytes 8 (mbxWord s c k))))) c stOK [(1, 4738)] := by
  unfold attestService
  dsimp only
  rw [h]

theorem hbmTarget_lt {a n align st : Nat} (h : hbmTarget a n align = some st) : st < 256 := by
  unfold hbmTarget at h
  split at h
  · cases h
    decide
  · split at h
    · exact nomatch h
    · cases h
      decide

/-- A frame goes to the ring and counts (R475). -/
theorem writeFrame_leaves {s : State} {base : Nat} (hbase : (cfgOf s).understory.telemBase = some base) :
    (writeFrame s).mgmt.frames = s.mgmt.frames + 1 ∧
      (writeFrame s).mem = (writeBytes s (base + 1024 * (s.mgmt.frames % max 1 (cfgOf s).understory.telemFrames))
        (frameBytes s (s.mgmt.frames + 1))).mem := by
  unfold writeFrame
  dsimp only
  rw [hbase]
  dsimp only
  refine ⟨congrArg MgmtSt.frames (setF_agree.area .mgmt rfl), ?_⟩
  rw [setF_agree.area .mem rfl]

/-- A record enters a log queue that has room (R478). -/
theorem logEnter_of_room {s : State} {r : LogRec} (h : s.mgmt.queue.length < 256) :
    (logEnter s r).mgmt.queue = s.mgmt.queue ++ [{ r with lost := s.mgmt.lostNext }] ∧
      (logEnter s r).flash.logNext = s.flash.logNext + 1 := by
  have hwake : (wakeLichen s).mgmt.queue = s.mgmt.queue ∧ (wakeLichen s).mgmt.lostNext = s.mgmt.lostNext := by
    unfold wakeLichen
    split
    · rw [bump_agree.area .mgmt rfl]
      exact ⟨rfl, rfl⟩
    · exact ⟨rfl, rfl⟩
  have hflash : (wakeLichen s).flash = s.flash := wakeLichen_agree.area .flash rfl
  unfold logEnter
  dsimp only
  rw [if_pos h, if_neg (by rw [hwake.1]; omega), setLogRegs_agree.area .mgmt rfl, setLogRegs_agree.area .flash rfl]
  dsimp only
  rw [hwake.1, hwake.2, hflash]
  exact ⟨rfl, rfl⟩

/-- Settles O46: each service replies once, and what it writes is what the reply tells of. -/
theorem managementServices : Obligations.ManagementServices := by
  refine ⟨fun c s hs hserves => ?_, fun c s hs hserves => ?_, fun c s hs hserves => ?_, fun c s hs hserves => ?_,
    fun c data s hs hknown hserves => ?_, fun f r l s hf hgo hlog => ?_, fun f s hs hf hgo hruns hhead hroom => ?_⟩
  · have hc := lt_of_serves hserves
    obtain ⟨hreplied, hmgmt, hdata⟩ := finishReply_leaves (data := mbxWords s c) (st := stOK) hs hc (by decide) rfl
    refine ⟨_, congrArg Host.Outcome.next (serve_of_serves hserves), hreplied, congrArg MgmtSt.mbxOrder hmgmt,
      finishReply_agree.area .mem rfl, fun k hk => ?_⟩
    rw [hdata k hk]
    simp [mbxWords, hk]
  · have hc := lt_of_serves hserves
    intro recs a
    refine ⟨fun hcount => ?_, fun hcount hmax htarget => ?_⟩
    · obtain ⟨hreplied, -, hmem, -⟩ := reply_leaves (results := []) (st := stBadDesc) hs hc (by decide)
      exact ⟨_, congrArg Host.Outcome.next ((serve_of_serves hserves).trans (logCopy_of_bad_count hcount)), hreplied, hmem⟩
    · obtain ⟨hreplied, -, hmem, hdata⟩ := reply_leaves (s := writeBytes s a recs.flatten) (st := stOK)
        (results := [(1, BitVec.ofNat 64 recs.length)]) (writeBytes_agree.tabOk hs) hc (by decide)
      exact ⟨_, congrArg Host.Outcome.next ((serve_of_serves hserves).trans (logCopy_of_target hcount hmax htarget)), hreplied,
        hdata _ rfl, hmem⟩
  · have hc := lt_of_serves hserves
    refine ⟨fun hoff => ?_, fun base hon hbase => ?_⟩
    · obtain ⟨hreplied, -, hmem, -⟩ := reply_leaves (results := []) (st := stNoResource) hs hc (by decide)
      exact ⟨_, congrArg Host.Outcome.next ((serve_of_serves hserves).trans (if_pos hoff)), hreplied, hmem⟩
    · obtain ⟨hframes, hwritten⟩ := writeFrame_leaves hbase
      obtain ⟨hreplied, hmgmt, hmem, hdata⟩ := reply_leaves (s := writeFrame s) (st := stOK)
        (results := [(1, BitVec.ofNat 64 (writeFrame s).mgmt.frames)]) (writeFrame_agree.tabOk hs) hc (by decide)
      refine ⟨_, congrArg Host.Outcome.next ((serve_of_serves hserves).trans (if_neg hon)), hreplied, ?_, ?_, hmem.trans hwritten⟩
      · exact (congrArg MgmtSt.frames hmgmt).trans hframes
      · exact (hdata _ rfl).trans (by rw [hframes])
  · have hc := lt_of_serves hserves
    intro a
    refine ⟨fun st htarget => ?_, fun htarget => ?_⟩
    · obtain ⟨hreplied, -, hmem, -⟩ := reply_leaves (results := []) (st := st) hs hc (hbmTarget_lt htarget)
      exact ⟨_, congrArg Host.Outcome.next ((serve_of_serves hserves).trans (attestService_of_bad_target htarget)), hreplied, hmem⟩
    · obtain ⟨hreplied, -, hmem, hdata⟩ := reply_leaves
        (s := writeBytes s a (attestReport s ((List.range' 1 4).flatMap (fun k => leBytes 8 (mbxWord s c k))))) (st := stOK)
        (results := [(1, 4738)]) (writeBytes_agree.tabOk hs) hc (by decide)
      exact ⟨_, congrArg Host.Outcome.next ((serve_of_serves hserves).trans (attestService_of_target htarget)), hreplied,
        hdata _ rfl, hmem⟩
  · have hbody : lichenReply c stBadDesc data s =
        finishReply s c stBadDesc (getReg s (mbxData c 0) :: (List.range 11).map (fun k => data.getD k 0)) :=
      (if_neg (by rw [hknown]; decide)).trans (serve_of_serves hserves)
    obtain ⟨hreplied, -, hdata⟩ := finishReply_leaves (st := stBadDesc)
      (data := getReg s (mbxData c 0) :: (List.range 11).map (fun k => data.getD k 0)) hs (lt_of_serves hserves) (by decide) rfl
    exact ⟨_, congrArg Host.Outcome.next hbody, hreplied, finishReply_agree.area .mem rfl, hdata 0 (by decide)⟩
  · refine congrArg Host.Outcome.next ?_
    unfold sequencerRecord
    rw [if_neg (by omega)]
    dsimp only
    rw [if_neg (by rw [show bitOf (getReg s (mbxCtrl (32 + f))).toNat 0 = false from hgo]; decide), Nat.add_sub_cancel_left, hlog]
  · have hbody : sequencerRecord (32 + f) s = finishReply (logEnter (modFrond s f (fun x => { x with seqLog := x.seqLog.drop 1 }))
        (LogRec.ofBytes ((mbxWords s (32 + f)).flatMap (fun w => leBytes 8 w.toNat)))) (32 + f) stOK (mbxWords s (32 + f)) := by
      unfold sequencerRecord
      rw [if_neg (by omega)]
      dsimp only
      rw [if_pos (show bitOf (getReg s (mbxCtrl (32 + f))).toNat 0 = true from hgo), if_pos (by rw [hruns, hhead]; simp),
        Nat.add_sub_cancel_left]
    have hmod : Agree 8192 s (modFrond s f (fun x => { x with seqLog := x.seqLog.drop 1 })) := modFrond_agree fun _ _ hx => hx
    have hfrond : (getFrond (modFrond s f (fun x => { x with seqLog := x.seqLog.drop 1 })) f).seqLog = (getFrond s f).seqLog.drop 1 := by
      rw [getFrond_modFrond_same hs]
    have hmgmt : (modFrond s f (fun x => { x with seqLog := x.seqLog.drop 1 })).mgmt = s.mgmt := hmod.area .mgmt rfl
    have hflash : (modFrond s f (fun x => { x with seqLog := x.seqLog.drop 1 })).flash = s.flash := hmod.area .flash rfl
    have hmem : (modFrond s f (fun x => { x with seqLog := x.seqLog.drop 1 })).mem = s.mem := hmod.area .mem rfl
    have hs1 := hmod.tabOk hs
    generalize modFrond s f (fun x => { x with seqLog := x.seqLog.drop 1 }) = u at *
    obtain ⟨hqueue, hnext⟩ := logEnter_of_room (s := u)
      (r := LogRec.ofBytes ((mbxWords s (32 + f)).flatMap (fun w => leBytes 8 w.toNat))) (by rw [hmgmt]; exact hroom)
    obtain ⟨hreplied, hmgmt', -⟩ := finishReply_leaves (st := stOK) (data := mbxWords s (32 + f))
      (logEnter_agree (x1 := LogRec.ofBytes ((mbxWords s (32 + f)).flatMap (fun w => leBytes 8 w.toNat))).tabOk hs1)
      (show 32 + f < 320 by omega) (by decide) rfl
    refine ⟨_, congrArg Host.Outcome.next hbody, hreplied, ?_, ?_, ?_, ?_⟩
    · exact (finishReply_agree.area .mem rfl).trans ((logEnter_agree.area .mem rfl).trans hmem)
    · rw [finishReply_agree.area .flash rfl, hnext, hflash]
    · rw [getFrond_of_fronds_eq (finishReply_agree.area .fronds rfl), getFrond_of_fronds_eq (logEnter_agree.area .fronds rfl), hfrond]
    · rw [hmgmt']
      exact hqueue.trans (by rw [hmgmt])

end Sys2Proof.Proofs
end

section
/-! SUPPORT. The services of the security block (R503 to R506, R509, R517). -/

namespace Sys2Proof.Proofs

open Sys2Proof Sys2Proof.Machine Sys2Proof.Safety Sys2Proof.Frame Sys2Proof.Claims Sys2Proof.Laws

/-! ### What a reply leaves of other registers, and of flash -/

theorem getReg_finishReply_ne {s : State} {c st o : Nat} {data : List W64} (hs : TablesOk s) (hc : c < 320) (hlen : data.length = 12)
    (ho : ¬ InMailbox o) (hcause : o ≠ causeOff 13) (hcount : o ≠ countOff 13 c) :
    getReg (finishReply s c st data) o = getReg s o := by
  unfold finishReply
  extract_lets ctrl s1 v s2 m s3
  have hfill : s1 = fillData s c 12 (fun k => data.getD k 0) := by
    rw [← hlen]
    exact foldl_zipIdx_eq_fillData s c data
  clear_value s1
  subst hfill
  have hs1 := (fillData_keeps (c := c) (n := 12) (f := fun k => data.getD k 0) hs).1
  have hs2 : TablesOk s2 := setReg_agree.tabOk hs1
  have h2 : getReg s2 o = getReg s o := by
    unfold s2
    rw [getReg_setReg_ne hs1 fun he : o = mbxCtrl c => ho (he ▸ inMailbox_ctrl hc),
      getReg_fillData_ne hs fun k hk (he : o = mbxData c k) => ho (he ▸ inMailbox_data hc hk)]
  clear_value s2
  have hs3 : TablesOk s3 := ⟨hs2.regs, hs2.resets, hs2.queues, hs2.fronds, hs2.slots, hs2.parts, hs2.ports⟩
  have h3 : getReg s3 o = getReg s2 o := rfl
  clear_value s3
  split
  · rw [getReg_raiseCause_ne hs3 hcause hcount, h3, h2]
  · split
    · exact h3.trans h2
    · exact h3.trans h2

theorem flash_reply (s : State) (c st : Nat) (results : List (Nat × W64)) : (reply s c st results).flash = s.flash :=
  reply_agree.area .flash rfl

/-- A cause of the security block stands through a reply. -/
theorem caused_reply {s : State} {c st k : Nat} {results : List (Nat × W64)} (hs : TablesOk s) (hc : c < 16) (h : Caused s 16 k) :
    Caused (reply s c st results) 16 k := by
  have hs1 : TablesOk { s with free := s.free + 1 } := ⟨hs.regs, hs.resets, hs.queues, hs.fronds, hs.slots, hs.parts, hs.ports⟩
  have hout : ¬ InMailbox (causeOff 16) := fun hm => absurd hm.1 (by decide)
  have hcount : causeOff 16 ≠ countOff 13 c := by
    simp only [causeOff, countOff, Fld.at, INT_CAUSE_CAUSE, INT_COUNT0_COUNT]
    omega
  unfold Caused at h ⊢
  rw [reply_eq, getReg_finishReply_ne hs1 (by omega) rfl hout (by decide) hcount]
  exact h

/-! ### Events of the security block -/

/-- A field of flash but the log's number, through events. -/
theorem flash_of_sameButLog {f g : FlashSt} (h : SameButLog f g) : ∃ n, f = { g with logNext := n } := by
  refine ⟨f.logNext, ?_⟩
  unfold SameButLog at h
  rw [← h]

theorem nothing_quiet : ∀ o, False → Quiet o := fun _ h => h.elim

theorem provisioned_leaves {s : State} (hs : TablesOk s) :
    TablesOk (provisioned s) ∧ Caused (provisioned s) 16 4 ∧ (provisioned s).mem = s.mem ∧ SameButLog (provisioned s).flash s.flash := by
  have hshow : Agree 32 s (showSecurity s) := showSecurity_agree
  have hlog : AfterEvents (fun _ => False) (showSecurity s) (logEvent (showSecurity s) 0x0705 7 0 0 none (keyIdent s)) :=
    (AfterEvents.refl (hshow.tabOk hs)).logEvent nothing_quiet
  refine ⟨raiseCause_agree.tabOk hlog.tabOk, raiseCause_caused hlog.tabOk (by decide), ?_, ?_⟩
  · exact (raiseCause_agree.area .mem rfl).trans ((logEvent_agree.area .mem rfl).trans (hshow.area .mem rfl))
  · have h := hlog.flash
    rw [hshow.area .flash rfl] at h
    exact (congrArg (SameButLog · s.flash) (raiseCause_agree.area .flash rfl)).mpr h

theorem sigFail_leaves {s : State} {object : Nat} (hs : TablesOk s) :
    TablesOk (sigFail s object) ∧ Caused (sigFail s object) 16 2 ∧ (sigFail s object).mem = s.mem ∧
      SameButLog (sigFail s object).flash s.flash := by
  have hlog : AfterEvents (fun _ => False) s (logEvent s 0x0703 7 2 0 none (leBytes 1 object)) :=
    (AfterEvents.refl hs).logEvent nothing_quiet
  refine ⟨raiseCause_agree.tabOk hlog.tabOk, raiseCause_caused hlog.tabOk (by decide), ?_, ?_⟩
  · exact (raiseCause_agree.area .mem rfl).trans (logEvent_agree.area .mem rfl)
  · exact (congrArg (SameButLog · s.flash) (raiseCause_agree.area .flash rfl)).mpr hlog.flash

/-- The reads of an object leave memory, and of flash all but the log's number. -/
theorem readUnits_leaves {s : State} {us : List Nat} (hs : TablesOk s) :
    TablesOk (readUnits s us) ∧ (readUnits s us).mem = s.mem ∧ SameButLog (readUnits s us).flash s.flash :=
  ⟨readUnits_agree.tabOk hs, readUnits_agree.area .mem rfl, ((EventKept.refl hs).readUnits (us := us)).flash⟩

/-! ### The services -/

theorem hostService_of_serves {s : State} {c code : Nat} {body : State → State} (h : serves s c code = true) (hc : c < 16) :
    hostService c code body s = body s :=
  (serve_of_serves h).trans (if_pos hc)

section
variable {c : Nat} {ok : Bool} {s : State}

/-- The state in which a certificate is judged: its bytes have been read. -/
def certRead (c : Nat) (s : State) : State := readUnits s (unitsOf (mbxWord s c 1) 1282)

theorem provision_of_target (h : hbmTarget (mbxWord s c 1) 1282 1 = none) :
    provision c ok s = if blockOk (readBytes s (mbxWord s c 1) 1282) ok then
        reply (provisioned { certRead c s with flash := { (certRead c s).flash with
          certified := true, opened := false, cert := readBytes s (mbxWord s c 1) 1282 } }) c stOK []
      else reply (sigFail (certRead c s) 3) c stSignature [] := by
  unfold provision
  dsimp only
  rw [h]
  rfl

/-- The bytes of a key and, where one is installed, of its signature. -/
def keyLength (s : State) : Nat := if s.flash.ownerKey.isSome then 1793 + 1282 else 1793

def keyRead (c : Nat) (s : State) : State := readUnits s (unitsOf (mbxWord s c 1) (keyLength s))

theorem ownerKeyService_of_target (h : hbmTarget (mbxWord s c 1) (keyLength s) 1 = none) :
    ownerKeyService c ok s = if !s.flash.ownerKey.isSome || blockOk (readBytes s (mbxWord s c 1 + 1793) 1282) ok then
        reply (provisioned { keyRead c s with flash := { (keyRead c s).flash with
          ownerKey := some (readBytes s (mbxWord s c 1) 1793) } }) c stOK []
      else reply (sigFail (keyRead c s) 4) c stSignature [] := by
  have hmem : (keyRead c s).mem = s.mem := readUnits_agree.area .mem rfl
  rw [← readBytes_of_mem_eq hmem, ← readBytes_of_mem_eq hmem]
  unfold ownerKeyService
  dsimp only
  rw [show hbmTarget (mbxWord s c 1) (if s.flash.ownerKey.isSome = true then 1793 + 1282 else 1793) 1 = none from h]
  rfl

end

/-- A service that is granted writes its part of flash, and the answer is OK. -/
theorem reply_provisioned_leaves {s : State} {c : Nat} {f : FlashSt} (hs : TablesOk s) (hc : c < 16) :
    let t := reply (provisioned { s with flash := f }) c stOK []
    Replied t c stOK ∧ Caused t 16 4 ∧ t.mem = s.mem ∧ SameButLog t.flash f := by
  have hs1 : TablesOk { s with flash := f } := ⟨hs.regs, hs.resets, hs.queues, hs.fronds, hs.slots, hs.parts, hs.ports⟩
  obtain ⟨hok, hcaused, hmem, hflash⟩ := provisioned_leaves hs1
  obtain ⟨hreplied, -, hrmem, -⟩ := reply_leaves (results := []) (st := stOK) hok (by omega : c < 320) (by decide)
  refine ⟨hreplied, caused_reply hok hc hcaused, hrmem.trans hmem, ?_⟩
  rw [flash_reply]
  exact hflash

/-- A signature that fails leaves flash but for the log's number, and SIGNATURE answers. -/
theorem reply_sigFail_leaves {s : State} {c object : Nat} (hs : TablesOk s) (hc : c < 16) :
    let t := reply (sigFail s object) c stSignature []
    Replied t c stSignature ∧ Caused t 16 2 ∧ t.mem = s.mem ∧ SameButLog t.flash s.flash := by
  obtain ⟨hok, hcaused, hmem, hflash⟩ := sigFail_leaves (object := object) hs
  obtain ⟨hreplied, -, hrmem, -⟩ := reply_leaves (results := []) (st := stSignature) hok (by omega : c < 320) (by decide)
  refine ⟨hreplied, caused_reply hok hc hcaused, hrmem.trans hmem, ?_⟩
  rw [flash_reply]
  exact hflash

/-- Settles O47: each object is judged as it is read, and what passes is kept in flash or written to memory. -/
theorem securityServices : Obligations.SecurityServices := by
  refine ⟨fun c ok s hs hc hserves htarget => ?_, fun c ok s hs hc hserves => ?_, fun c s hs hc hserves => ?_,
    fun c s secret bound least hs hc hserves => ?_⟩
  · intro cert
    obtain ⟨hread, hmem, hflash⟩ := readUnits_leaves (us := unitsOf (mbxWord s c 1) 1282) hs
    have hexec : exec (.provision c ok) s = .next (provision c ok s) := congrArg Host.Outcome.next (hostService_of_serves hserves hc)
    refine ⟨fun hgood => ?_, fun hbad => ?_⟩
    · obtain ⟨hreplied, hcaused, htmem, htflash⟩ := reply_provisioned_leaves (s := certRead c s)
        (f := { (certRead c s).flash with certified := true, opened := false, cert := cert }) hread hc
      obtain ⟨n, hn⟩ := flash_of_sameButLog htflash
      refine ⟨_, hexec.trans (congrArg _ ((provision_of_target htarget).trans (if_pos hgood))), hreplied, ?_, ?_, ?_, hcaused,
        htmem.trans hmem⟩ <;> rw [hn]
    · obtain ⟨hreplied, hcaused, htmem, htflash⟩ := reply_sigFail_leaves (s := certRead c s) (object := 3) hread hc
      obtain ⟨n, hn⟩ := flash_of_sameButLog (htflash.trans hflash)
      refine ⟨_, hexec.trans (congrArg _ ((provision_of_target htarget).trans (if_neg (by rw [hbad]; exact Bool.false_ne_true)))),
        hreplied, ?_, ?_, ?_, hcaused, htmem.trans hmem⟩ <;> rw [hn]
  · intro a n good htarget
    obtain ⟨hread, hmem, hflash⟩ := readUnits_leaves (us := unitsOf (mbxWord s c 1) (keyLength s)) hs
    have hexec : exec (.ownerKey c ok) s = .next (ownerKeyService c ok s) :=
      congrArg Host.Outcome.next (hostService_of_serves hserves hc)
    refine ⟨fun hgood => ?_, fun hbad => ?_⟩
    · obtain ⟨hreplied, hcaused, htmem, htflash⟩ := reply_provisioned_leaves (s := keyRead c s)
        (f := { (keyRead c s).flash with ownerKey := some (readBytes s a 1793) }) hread hc
      obtain ⟨k, hk⟩ := flash_of_sameButLog htflash
      refine ⟨_, hexec.trans (congrArg _ ((ownerKeyService_of_target htarget).trans (if_pos hgood))), hreplied, ?_, hcaused,
        htmem.trans hmem⟩
      rw [hk]
    · obtain ⟨hreplied, hcaused, htmem, htflash⟩ := reply_sigFail_leaves (s := keyRead c s) (object := 4) hread hc
      obtain ⟨k, hk⟩ := flash_of_sameButLog (htflash.trans hflash)
      refine ⟨_, hexec.trans (congrArg _ ((ownerKeyService_of_target htarget).trans (if_neg (by
        rw [show (!s.flash.ownerKey.isSome || blockOk (readBytes s (mbxWord s c 1 + 1793) 1282) ok) = false from hbad]
        exact Bool.false_ne_true)))), hreplied, ?_, hcaused, htmem.trans hmem⟩
      rw [hk]
  · intro slot
    have hexec : exec (.sealSecret c) s = .next (sealService c s) := congrArg Host.Outcome.next (hostService_of_serves hserves hc)
    refine ⟨fun hpuf => ?_, fun hpuf hslot => ?_⟩
    · obtain ⟨hreplied, -⟩ := reply_leaves (results := []) (st := stNoResource) hs (by omega : c < 320) (by decide)
      refine ⟨_, hexec.trans (congrArg _ (if_pos hpuf)), hreplied, ?_⟩
      rw [flash_reply]
    · have hbody : sealService c s = reply (showSecurity { s with flash := { s.flash with
          sealedAt := tblPut s.flash.sealedAt slot (some ((List.range' 2 4).flatMap (fun k => leBytes 8 (mbxWord s c k)),
            if bitOf (mbxWord s c 6) 32 then sliceB s.cfg.committed.digest 0 8 else [], mbxWord s c 6 % 2 ^ 32)) } }) c stOK [] :=
        (if_neg (by rw [hpuf]; exact Bool.false_ne_true)).trans (if_neg (Nat.not_le.2 hslot))
      have hshow {u : State} : Agree 32 u (showSecurity u) := showSecurity_agree
      have hs1 (f : FlashSt) : TablesOk { s with flash := f } :=
        ⟨hs.regs, hs.resets, hs.queues, hs.fronds, hs.slots, hs.parts, hs.ports⟩
      obtain ⟨hreplied, -, hmem, -⟩ := reply_leaves (results := []) (st := stOK) (hshow.tabOk (hs1 _)) (by omega : c < 320) (by decide)
      refine ⟨_, hexec.trans (congrArg _ hbody), hreplied, hmem.trans (hshow.area .mem rfl), ?_⟩
      rw [flash_reply, hshow.area .flash rfl]
      exact (tblFind_tblPut_some _ _ _ _).trans (if_pos rfl)
  · intro a
    have hexec : exec (.unsealSecret c) s = .next (unsealService c s) := congrArg Host.Outcome.next (hostService_of_serves hserves hc)
    have hreply {u : State} {st : Nat} (hu : TablesOk u) (hst : st < 256) :
        Replied (reply u c st []) c st ∧ (reply u c st []).mem = u.mem := by
      obtain ⟨hreplied, -, hmem, -⟩ := reply_leaves (results := []) hu (by omega : c < 320) hst
      exact ⟨hreplied, hmem⟩
    refine ⟨fun hpuf => ?_, fun hpuf hslot htarget => ?_⟩
    · exact ⟨_, hexec.trans (congrArg _ (if_pos hpuf)), hreply hs (by decide)⟩
    · have hbody : unsealService c s = if least ≤ s.flash.fwCtr ∧ (bound = [] ∨ bound = sliceB s.cfg.committed.digest 0 8) then
          reply (writeBytes s a secret) c stOK [] else reply s c stSignature [] := by
        unfold unsealService
        dsimp only
        rw [if_neg (by rw [hpuf]; exact Bool.false_ne_true), hslot]
        dsimp only
        rw [htarget]
      refine ⟨fun hgood => ?_, fun hbad => ?_⟩
      · exact ⟨_, hexec.trans (congrArg _ (hbody.trans (if_pos hgood))), hreply (writeBytes_agree.tabOk hs) (by decide)⟩
      · exact ⟨_, hexec.trans (congrArg _ (hbody.trans (if_neg hbad))), hreply hs (by decide)⟩

end Sys2Proof.Proofs
end

section
/-! SUPPORT. What a write and a clearing read leave in the fields of a register (R10 to R12). -/

namespace Sys2Proof.Proofs

open Sys2Proof Sys2Proof.Machine Sys2Proof.Safety Sys2Proof.Frame Sys2Proof.Claims Sys2Proof.Laws

/-! ### Fields as sets of bits -/

/-- Bit `i` lies in a field. -/
def InField (f : FieldDef) (i : Nat) : Prop := f.lo ≤ i ∧ i < f.lo + f.width

/-- Two fields share no bit. -/
def FieldsApart (f g : FieldDef) : Prop := f.lo + f.width ≤ g.lo ∨ g.lo + g.width ≤ f.lo

/-- The fields of a register are apart and lie in its 64 bits. -/
def FieldsOk (l : List FieldDef) : Prop := l.Pairwise FieldsApart ∧ ∀ f ∈ l, f.lo + f.width ≤ 64

/-- The same as a test, so that the tables of R536 can be looked through. -/
def fieldsOk : List FieldDef → Bool
  | [] => true
  | f :: l => l.all (fun g => decide (f.lo + f.width ≤ g.lo ∨ g.lo + g.width ≤ f.lo)) && decide (f.lo + f.width ≤ 64) && fieldsOk l

theorem fieldsOk_iff (l : List FieldDef) : fieldsOk l = true ↔ FieldsOk l := by
  induction l with
  | nil => simp [fieldsOk, FieldsOk]
  | cons f l ih =>
    simp only [fieldsOk, Bool.and_eq_true, ih, List.all_eq_true, decide_eq_true_eq, FieldsOk, List.pairwise_cons, List.mem_cons,
      forall_eq_or_imp, FieldsApart]
    exact and_and_and_comm

def defsOk (l : List RegDef) : Bool := l.all (fun r => fieldsOk r.fields)

theorem defsOk_ite {c : Prop} [Decidable c] {l m : List RegDef} (hl : defsOk l = true) (hm : defsOk m = true) :
    defsOk (if c then l else m) = true := by
  split
  · exact hl
  · exact hm

theorem defsOk_pageDefs (off : Nat) : defsOk (pageDefs off) = true :=
  defsOk_ite (by decide +kernel) <| defsOk_ite (by decide +kernel) <| defsOk_ite (by decide +kernel) <|
  defsOk_ite (by decide +kernel) <| defsOk_ite (by decide +kernel) <| defsOk_ite (by decide +kernel) <|
  defsOk_ite (by decide +kernel) <| defsOk_ite (by decide +kernel) <| defsOk_ite (by decide +kernel) <|
  defsOk_ite (by decide +kernel) <| defsOk_ite (by decide +kernel) <| defsOk_ite (by decide +kernel) (by decide +kernel)

/-- The fields of every register are apart (R536). -/
theorem fieldsOk_of_regAt {off : Nat} {r : RegDef} {i j : Nat} (h : regAt off = some (r, i, j)) : FieldsOk r.fields := by
  obtain ⟨x, hx, hr⟩ := List.exists_of_findSome?_eq_some h
  obtain ⟨y, -, he⟩ := Option.map_eq_some_iff.1 hr
  cases he
  exact (fieldsOk_iff _).1 (List.all_eq_true.1 (defsOk_pageDefs off) _ hx)

theorem getLsbD_fieldMask {lo width i : Nat} (h : lo + width ≤ 64) :
    (fieldMask lo width).getLsbD i = (decide (lo ≤ i) && decide (i < lo + width)) := by
  unfold fieldMask
  rw [BitVec.getLsbD_ofNat, Nat.mul_comm, Nat.testBit_two_pow_mul, Nat.testBit_two_pow_sub_one]
  by_cases hlo : lo ≤ i
  · by_cases hhi : i < lo + width
    · simp [hlo, hhi, show i < 64 by omega, show i - lo < width by omega]
    · simp [hhi, show ¬ i - lo < width by omega]
  · simp [hlo]

/-! ### A change field by field -/

section
variable {g : W64 → FieldDef → W64} {b : FieldDef → Nat → Bool → Bool}
  (hg : ∀ x f i, f.lo + f.width ≤ 64 → (g x f).getLsbD i = if f.lo ≤ i ∧ i < f.lo + f.width then b f i (x.getLsbD i) else x.getLsbD i)
include hg

theorem getLsbD_foldl_outside {l : List FieldDef} {x : W64} {i : Nat} (hl : ∀ f ∈ l, f.lo + f.width ≤ 64)
    (hi : ∀ f ∈ l, ¬ InField f i) : (l.foldl g x).getLsbD i = x.getLsbD i := by
  induction l generalizing x with
  | nil => rfl
  | cons f l ih =>
    rw [List.foldl_cons, ih (fun k hk => hl k (List.mem_cons_of_mem _ hk)) fun k hk => hi k (List.mem_cons_of_mem _ hk)]
    exact (hg x f i (hl f List.mem_cons_self)).trans (if_neg (hi f List.mem_cons_self))

/-- A bit of a field changes as that field alone has it. -/
theorem getLsbD_foldl_field {l : List FieldDef} (hl : FieldsOk l) {f : FieldDef} (hf : f ∈ l) {x : W64} {i : Nat} (hi : InField f i) :
    (l.foldl g x).getLsbD i = b f i (x.getLsbD i) := by
  induction l generalizing x with
  | nil => exact nomatch hf
  | cons k l ih =>
    obtain ⟨hpair, hwidth⟩ := hl
    obtain ⟨hfirst, hrest⟩ := List.pairwise_cons.1 hpair
    have hwidth' : ∀ f ∈ l, f.lo + f.width ≤ 64 := fun f h => hwidth f (List.mem_cons_of_mem _ h)
    obtain ⟨hlo, hhi⟩ := hi
    rcases List.mem_cons.1 hf with rfl | hf
    · rw [List.foldl_cons, getLsbD_foldl_outside hg hwidth' fun k hk hik => ?_, hg x _ i (hwidth _ List.mem_cons_self), if_pos ⟨hlo, hhi⟩]
      have := hfirst k hk
      obtain ⟨h1, h2⟩ := hik
      unfold FieldsApart at this
      omega
    · rw [List.foldl_cons, ih ⟨hrest, hwidth'⟩ hf, hg x k i (hwidth k List.mem_cons_self), if_neg]
      have := hfirst f hf
      unfold FieldsApart at this
      omega

end

/-- A field of a word, by its bits. -/
theorem bitsOf_eq_of_bits {w : W64} {lo width n : Nat} (h : ∀ k < width, w.getLsbD (lo + k) = n.testBit k) (hn : n < 2 ^ width) :
    bitsOf w.toNat lo width = n := by
  refine Nat.eq_of_testBit_eq fun k => ?_
  rw [testBit_bitsOf, BitVec.testBit_toNat]
  by_cases hk : k < width
  · rw [decide_eq_true hk, Bool.true_and, h k hk]
  · rw [decide_eq_false hk, Bool.false_and]
    exact (Nat.testBit_lt_two_pow (Nat.lt_of_lt_of_le hn (Nat.pow_le_pow_right (by decide) (by omega)))).symm

/-- What a full write does to a field of a register. -/
def fullWrite (v x : W64) (f : FieldDef) : W64 :=
  let m := fieldMask f.lo f.width &&& (Wr.full v).mask
  match f.acc with
  | .rw => (x &&& ~~~m) ||| (v &&& m)
  | .w1c => x &&& ~~~(v &&& m)
  | _ => x

/-- One bit of a field under a full write. -/
def writtenBit (v : W64) (f : FieldDef) (i : Nat) (old : Bool) : Bool :=
  match f.acc with
  | .rw => v.getLsbD i
  | .w1c => old && !v.getLsbD i
  | _ => old

theorem mask_full (v : W64) : (Wr.full v).mask = BitVec.allOnes 64 := by
  show (0xFFFFFFFF ||| 0xFFFFFFFF00000000 : W64) = _
  decide

theorem getLsbD_fullWrite (v x : W64) (f : FieldDef) (i : Nat) (hf : f.lo + f.width ≤ 64) :
    (fullWrite v x f).getLsbD i = if f.lo ≤ i ∧ i < f.lo + f.width then writtenBit v f i (x.getLsbD i) else x.getLsbD i := by
  unfold fullWrite writtenBit
  rw [mask_full, BitVec.and_allOnes]
  have hmask := getLsbD_fieldMask (i := i) hf
  by_cases hin : f.lo ≤ i ∧ i < f.lo + f.width
  · have hi : i < 64 := by omega
    rw [decide_eq_true hin.1, decide_eq_true hin.2, Bool.and_self] at hmask
    rw [if_pos hin]
    cases f.acc <;> simp only [BitVec.getLsbD_or, BitVec.getLsbD_and, BitVec.getLsbD_not, hmask, decide_eq_true hi, Bool.true_and,
      Bool.not_true, Bool.and_false, Bool.false_or, Bool.and_true]
  · have hmask' : (fieldMask f.lo f.width).getLsbD i = false := by
      rw [hmask, Bool.and_eq_false_iff, decide_eq_false_iff_not, decide_eq_false_iff_not]
      exact Classical.not_and_iff_not_or_not.1 hin
    have hx : (x.getLsbD i && decide (i < 64)) = x.getLsbD i := by
      rcases h : x.getLsbD i with _ | _
      · rfl
      · rw [decide_eq_true (BitVec.lt_of_getLsbD h)]
        rfl
    rw [if_neg hin]
    cases f.acc <;> simp only [BitVec.getLsbD_or, BitVec.getLsbD_and, BitVec.getLsbD_not, hmask', Bool.and_false, Bool.not_false,
      Bool.and_true, Bool.or_false, hx]

theorem writeFields_of_regAt {s : State} {off : Nat} {v : W64} {r : RegDef} {i j : Nat} (h : regAt off = some (r, i, j)) :
    writeFields s off (Wr.full v) = setReg s off (r.fields.foldl (fullWrite v) (getReg s off)) := by
  unfold writeFields
  rw [h]
  rfl

/-- A field after a full write of its register (R10, R12). -/
theorem field_writeFields {s : State} {off : Nat} {v : W64} {r : RegDef} {i j : Nat} {f : FieldDef} (hs : TablesOk s)
    (h : regAt off = some (r, i, j)) (hf : f ∈ r.fields) :
    bitsOf (getReg (writeFields s off (Wr.full v)) off).toNat f.lo f.width = writtenField f (getReg s off).toNat v.toNat := by
  have hok := fieldsOk_of_regAt h
  have hwidth := hok.2 f hf
  have hbit (k : Nat) (hk : k < f.width) : (r.fields.foldl (fullWrite v) (getReg s off)).getLsbD (f.lo + k) =
      writtenBit v f (f.lo + k) ((getReg s off).getLsbD (f.lo + k)) :=
    getLsbD_foldl_field (fun x f i => getLsbD_fullWrite v x f i) hok hf ⟨by omega, by omega⟩
  rw [writeFields_of_regAt h, getReg_setReg_same hs]
  refine bitsOf_eq_of_bits (fun k hk => ?_) ?_
  · rw [hbit k hk]
    unfold writtenBit writtenField
    cases f.acc <;> simp only [testBit_bitsOf, BitVec.testBit_toNat, decide_eq_true hk, Bool.true_and, BitVec.getLsbD_and,
      BitVec.getLsbD_not, BitVec.getLsbD_ofNat, decide_eq_true (show k < 64 by omega)]
  · have hlt (n : Nat) : bitsOf n f.lo f.width < 2 ^ f.width := bitsOf_lt n f.lo f.width
    unfold writtenField
    split
    · exact hlt _
    · refine Nat.lt_of_le_of_lt ?_ (hlt (getReg s off).toNat)
      rw [BitVec.toNat_and, BitVec.toNat_ofNat]
      exact Nat.le_trans Nat.and_le_left (Nat.mod_le _ _)
    · exact hlt _

theorem getF_writeFields {s : State} {x : Fld} {v : W64} {r : RegDef} {i j : Nat} {f : FieldDef} (hs : TablesOk s)
    (h : regAt x.off = some (r, i, j)) (hf : f ∈ r.fields) (hacc : f.acc = .rw) (hlo : x.lo = f.lo) (hwidth : x.width = f.width) :
    getF (writeFields s x.off (Wr.full v)) x = bitsOf v.toNat x.lo x.width := by
  have hfield := field_writeFields (v := v) hs h hf
  unfold writtenField at hfield
  rw [hacc] at hfield
  unfold getF
  rw [hlo, hwidth, show x.at 0 = x.off by unfold Fld.at; omega]
  exact hfield

end Sys2Proof.Proofs
end

section
/-! SUPPORT. Attestation of a port, announcements and addresses (R454 to R459). -/

namespace Sys2Proof.Proofs

open Sys2Proof Sys2Proof.Machine Sys2Proof.Safety Sys2Proof.Frame Sys2Proof.Claims Sys2Proof.Laws

/-! ### Link-local messages -/

/-- A link-local message acts once it has left its receive buffer and the lichen core has been woken (R454, R468). -/
theorem recv_link {s : State} {a : Arrival} {mtype : Nat} {body : State → State} (h : LinkMsg a mtype) (hlow : 0x10 ≤ mtype)
    (hhigh : mtype ≤ 0x13) : recv mtype a body s = body (atLink s a) := by
  obtain ⟨hmtype, hvc⟩ := h
  have hlocal : linkLocal a.msg = true := by
    unfold linkLocal
    rw [hmtype, decide_eq_true hlow, decide_eq_true hhigh]
    rfl
  have hallowed : vcAllowed mtype a.vc = true := by
    rw [hvc]
    obtain rfl | rfl | rfl | rfl : mtype = 0x10 ∨ mtype = 0x11 ∨ mtype = 0x12 ∨ mtype = 0x13 := by omega
    all_goals rfl
  unfold recv
  rw [if_neg (Classical.not_not.2 hmtype)]
  extract_lets s1 own body'
  rw [if_neg (by rw [hallowed]; decide), if_pos hlocal]
  unfold body'
  rw [decide_eq_true hlow, decide_eq_true (show mtype < 0x20 by omega)]
  rfl

/-- Of a port, what the receive buffer holds has changed, and no more. -/
def OnlyTaken (x y : PortSt) : Prop := ∃ i l r, y = { x with inbox := i, partLens := l, released := r }

theorem onlyTaken_refl (x : PortSt) : OnlyTaken x x := ⟨x.inbox, x.partLens, x.released, rfl⟩

theorem getPort_takeMsg {s : State} {a : Arrival} (hs : TablesOk s) : OnlyTaken (getPort s a.port) (getPort (takeMsg s a) a.port) := by
  unfold takeMsg
  split
  · exact onlyTaken_refl _
  · rw [getPort_modPort_same hs]
    exact ⟨_, _, _, rfl⟩

theorem atLink_leaves {s : State} {a : Arrival} (hs : TablesOk s) :
    AfterEvents Quiet (takeMsg s a) (atLink s a) ∧ OnlyTaken (getPort s a.port) (getPort (atLink s a) a.port) ∧
      (∀ o, Quiet o → getReg (atLink s a) o = getReg s o) ∧ (atLink s a).mem = s.mem ∧
      (∃ o, (atLink s a).fabric = { s.fabric with outq := o }) ∧ (atLink s a).cfg = s.cfg ∧ (atLink s a).stipe = s.stipe := by
  have htake : Agree 98304 s (takeMsg s a) := takeMsg_agree
  have hev : AfterEvents Quiet (takeMsg s a) (atLink s a) := (AfterEvents.refl (htake.tabOk hs)).wakeLichen fun _ h => h
  obtain ⟨o, ho⟩ := fabric_takeMsg s a
  refine ⟨hev, ?_, fun o ho => ?_, ?_, ⟨o, ?_⟩, ?_, ?_⟩
  · rw [show getPort (atLink s a) a.port = getPort (takeMsg s a) a.port from getPort_of_ports_eq (wakeLichen_agree.area .ports rfl) _]
    exact getPort_takeMsg hs
  · exact (hev.regs o ho).trans (getReg_of_regs_eq (htake.area .regs rfl) o)
  · exact (wakeLichen_agree.area .mem rfl).trans (htake.area .mem rfl)
  · rw [show (atLink s a).fabric = (takeMsg s a).fabric from fabric_wakeLichen _, ho]
  · exact (wakeLichen_agree.area .cfg rfl).trans (htake.area .cfg rfl)
  · exact (wakeLichen_agree.area .stipe rfl).trans (htake.area .stipe rfl)

/-! ### The report (R455) -/

/-- A fragment of a report, with its place. -/
def reportFragment (dst : Nat) (x : List Byte × Nat) : Msg := { mtype := 0x11, dst := dst, addr := 256 * x.2, payload := x.1 }

/-- The fragment as it waits at the port. -/
def waitingFragment (dst src : Nat) (x : List Byte × Nat) : OutMsg := ⟨8, 0, { reportFragment dst x with src := src }, .none⟩

theorem attestAnswer_eq (a : Arrival) (s : State) : attestAnswer a s =
    (chunks 256 (attestReport s a.msg.payload)).zipIdx.foldl (fun s x => sendOnPort s a.port 8 (reportFragment (portDst s a.port) x)) s :=
  rfl

/-- Fragments out of one port stand behind the messages that wait there. -/
theorem txq_foldl_sendOnPort {p : Nat} {l : List (List Byte × Nat)} {s : State} (hs : TablesOk s) :
    (getPort (l.foldl (fun s x => sendOnPort s p 8 (reportFragment (portDst s p) x)) s) p).txq =
      (getPort s p).txq ++ l.map (waitingFragment (portDst s p) (s.fabric.addr.getD 0)) := by
  induction l generalizing s with
  | nil => exact (List.append_nil _).symm
  | cons x l ih =>
    have hport : getPort (sendOnPort s p 8 (reportFragment (portDst s p) x)) p =
        { getPort s p with txq := (getPort s p).txq ++ [waitingFragment (portDst s p) (s.fabric.addr.getD 0) x] } := getPort_modPort_same hs
    have hdst : portDst (sendOnPort s p 8 (reportFragment (portDst s p) x)) p = portDst s p := by
      show (getPort (sendOnPort s p 8 (reportFragment (portDst s p) x)) p).partnerAddr.getD 0 = _
      rw [hport]
      rfl
    rw [List.foldl_cons, ih (sendOnPort_agree.tabOk hs), hdst, sendOnPort_agree.area .fabric rfl, hport]
    simp only [List.append_assoc, List.singleton_append, List.map_cons]

theorem reportFits_of_nonce {x y : PortSt} (h : y.nonce = x.nonce) (b : List Byte) : reportFits y b = reportFits x b := by
  unfold reportFits
  rw [h]

theorem miswired_of_reg {s t : State} {p : Nat} (h : getReg t (FAB_PORT_ATTEST_MISWIRED.at p) = getReg s (FAB_PORT_ATTEST_MISWIRED.at p)) :
    miswired t p = miswired s p := by
  unfold miswired getF
  rw [h]

theorem sendAnnounce_usable {s : State} {p : Nat} (hs : TablesOk s) : (getPort (sendAnnounce s p) p).usable = (getPort s p).usable := by
  unfold sendAnnounce
  split
  · obtain ⟨q, hq⟩ := getPort_sendOnPort (p := p) (vc := 8) (m := { mtype := 0x12, dst := portDst s p, payload := announceBytes s p _ }) hs
    rw [hq]
  · rfl

/-- A port that is admitted is fit for every message unless it is MISWIRED. -/
theorem usable_admitPort {s : State} {p : Nat} (hs : TablesOk s) : (getPort (admitPort s p) p).usable = !miswired s p := by
  unfold admitPort
  dsimp only
  rw [sendAnnounce_usable (modPort_agree.tabOk hs), getPort_modPort_same hs]
  rfl

theorem attest_quiet (p : Nat) : Quiet (FAB_PORT_ATTEST_STATE.at p) := by
  refine ⟨.inr ?_, fun h => ?_⟩
  · simp only [Fld.at, FAB_PORT_ATTEST_STATE]
    omega
  · have : ∀ x ∈ eventOffs, x < 0x31028 := by decide
    have := this _ h
    simp only [Fld.at, FAB_PORT_ATTEST_STATE] at this
    omega

theorem miswired_setF_state {s : State} {p v : Nat} (hs : TablesOk s) : miswired (setF s FAB_PORT_ATTEST_STATE p v) p = miswired s p := by
  unfold miswired
  rw [getF_setF_beside (f := FAB_PORT_ATTEST_STATE) (g := FAB_PORT_ATTEST_MISWIRED) hs (by decide) rfl (.inr (by decide))]

section
variable {s : State} {p : Nat} {b : List Byte} {verified : Bool} (hs : TablesOk s) (hp : p < 36)
include hs

theorem judgeReport_of_good (h : (verified && reportFits (getPort s p) b && !bitOf (leAt b 6 2) 0) = true) :
    getF (judgeReport s p b verified) FAB_PORT_ATTEST_STATE p = 2 ∧
      (getPort (judgeReport s p b verified) p).usable = !miswired s p := by
  have h1 : TablesOk (setF s FAB_PORT_ATTEST_STATE p 2) := setF_agree.tabOk hs
  have heq : judgeReport s p b verified = admitPort (setF s FAB_PORT_ATTEST_STATE p 2) p := if_pos h
  rw [heq]
  refine ⟨?_, ?_⟩
  · rw [getF_of_regs_eq (admitPort_agree.area .regs rfl), getF_setF_same hs (by decide)]
    rfl
  · rw [usable_admitPort h1, miswired_setF_state hs]

include hp

theorem judgeReport_of_bad (h : (verified && reportFits (getPort s p) b && !bitOf (leAt b 6 2) 0) = false) :
    getF (judgeReport s p b verified) FAB_PORT_ATTEST_STATE p = 3 ∧
      ((cfgOf s).routing.attestLog = true → (getPort (judgeReport s p b verified) p).usable = !miswired s p) ∧
      ((cfgOf s).routing.attestLog = false →
        (getPort (judgeReport s p b verified) p).usable = (getPort s p).usable ∧ Caused (judgeReport s p b verified) 9 p) := by
  unfold judgeReport
  extract_lets ok opened lax s1
  rw [if_neg (by rw [show (ok && !opened) = false from h]; exact Bool.false_ne_true)]
  have hset : TablesOk (setF s FAB_PORT_ATTEST_STATE p 3) := setF_agree.tabOk hs
  have hev : AfterEvents Quiet (setF s FAB_PORT_ATTEST_STATE p 3) s1 := (AfterEvents.refl hset).logEvent fun _ h => h
  have hstate : getF s1 FAB_PORT_ATTEST_STATE p = 3 := by
    rw [hev.getF (attest_quiet p), getF_setF_same hs (by decide)]
    rfl
  have hport : getPort s1 p = getPort s p :=
    getPort_of_ports_eq ((logEvent_agree.area .ports rfl).trans (setF_agree.area .ports rfl)) p
  have hmis : miswired s1 p = miswired s p :=
    (miswired_of_reg (hev.regs _ (attest_quiet p))).trans (miswired_setF_state hs)
  have hs1 := hev.tabOk
  clear_value s1
  rcases hlax : (cfgOf s).routing.attestLog with _ | _
  · rw [if_neg (by rw [show lax = false from hlax]; exact Bool.false_ne_true)]
    have hr : AfterEvents Quiet s1 (raiseCause s1 9 p) := (AfterEvents.refl hs1).raiseCause (fun _ h => h) (by decide) (by omega)
    refine ⟨(hr.getF (attest_quiet p)).trans hstate, (fun h => nomatch h), fun _ => ⟨?_, raiseCause_caused hs1 (by omega)⟩⟩
    rw [getPort_of_ports_eq (raiseCause_agree.area .ports rfl), hport]
  · rw [if_pos (show lax = true from hlax)]
    refine ⟨(getF_of_regs_eq (admitPort_agree.area .regs rfl) _ _).trans hstate, fun _ => ?_, (fun h => nomatch h)⟩
    rw [usable_admitPort hs1, hmis]

end

/-! ### The fabric through changes of ports -/

/-- Registers that neither the colony's completion nor the gossip that it asks for changes. -/
def ColonyQuiet (o : Nat) : Prop := o ≠ ANC_BOOT_STATUS_COLONY_OK.off ∧ o ≠ FAB_GOSSIP_RUN.off

/-- Of the fabric only gossip has changed, and of the registers only those that show it. -/
structure GossipOnly (s t : State) : Prop where
  tabOk  : TablesOk t
  regs   : ∀ o, ColonyQuiet o → getReg t o = getReg s o
  ports  : t.ports = s.ports
  fabric : ∃ g, t.fabric = { s.fabric with gossip := g }

theorem GossipOnly.refl {s : State} (hs : TablesOk s) : GossipOnly s s := ⟨hs, fun _ _ => rfl, rfl, s.fabric.gossip, rfl⟩

theorem GossipOnly.trans {s t u : State} (h : GossipOnly s t) (h' : GossipOnly t u) : GossipOnly s u := by
  obtain ⟨g, hg⟩ := h.fabric
  obtain ⟨g', hg'⟩ := h'.fabric
  exact ⟨h'.tabOk, fun o ho => (h'.regs o ho).trans (h.regs o ho), h'.ports.trans h.ports, g', by rw [hg', hg]⟩

theorem gossipOnly_wantGossip {s : State} (hs : TablesOk s) : GossipOnly s (wantGossip s) := by
  unfold wantGossip
  split
  · unfold setGossip
    extract_lets f g s1
    have hs1 : TablesOk s1 := ⟨hs.regs, hs.resets, hs.queues, hs.fronds, hs.slots, hs.parts, hs.ports⟩
    have hfab : s1.fabric = { s.fabric with gossip := { s.fabric.gossip with want := true } } := rfl
    have hregs (o : Nat) : getReg s1 o = getReg s o := rfl
    have hports : s1.ports = s.ports := rfl
    clear_value s1
    have hset {u : State} (f : Fld) (v : Nat) : Agree 32 u (setF u f 0 v) := setF_agree
    have h2 : TablesOk (setF s1 FAB_GOSSIP_RUN 0 s.fabric.gossip.run) := (hset _ _).tabOk hs1
    refine ⟨(hset _ _).tabOk h2, fun o ho => ?_, ?_, ⟨{ s.fabric.gossip with want := true }, ?_⟩⟩
    · obtain ⟨-, hne⟩ := ho
      exact (getReg_setReg_ne h2 hne).trans ((getReg_setReg_ne hs1 hne).trans (hregs o))
    · exact ((hset _ _).area .ports rfl).trans (((hset _ _).area .ports rfl).trans hports)
    · exact ((hset _ _).area .fabric rfl).trans (((hset _ _).area .fabric rfl).trans hfab)
  · exact .refl hs

theorem gossipOnly_checkColony {s : State} (hs : TablesOk s) : GossipOnly s (checkColony s) := by
  unfold checkColony
  split
  · have hset : Agree 32 s (setF s ANC_BOOT_STATUS_COLONY_OK 0 1) := setF_agree
    have h1 : TablesOk (setF s ANC_BOOT_STATUS_COLONY_OK 0 1) := hset.tabOk hs
    have hmark : GossipOnly s (markEvent (setF s ANC_BOOT_STATUS_COLONY_OK 0 1) 3) := by
      refine ⟨⟨h1.regs, h1.resets, h1.queues, h1.fronds, h1.slots, h1.parts, h1.ports⟩, fun o ho => ?_, hset.area .ports rfl,
        s.fabric.gossip, hset.area .fabric rfl⟩
      exact getReg_setReg_ne (j := o) hs ho.1
    exact hmark.trans (gossipOnly_wantGossip hmark.tabOk)
  · exact .refl hs

/-- The device keeps its address. -/
theorem addr_foldl {β : Type} {g : State → β → State} (hg : ∀ u b, (g u b).fabric.addr = u.fabric.addr) (l : List β) (s : State) :
    (l.foldl g s).fabric.addr = s.fabric.addr := by
  induction l generalizing s with
  | nil => rfl
  | cons b l ih => rw [List.foldl_cons, ih, hg]

theorem OnlySent.addr {s t : State} (h : OnlySent s t) : t.fabric.addr = s.fabric.addr := by
  obtain ⟨o, n, ho⟩ := h
  rw [ho]

theorem addr_wantGossip (s : State) : (wantGossip s).fabric.addr = s.fabric.addr := by
  unfold wantGossip setGossip
  dsimp only
  split
  · rw [setF_agree.area .fabric rfl, setF_agree.area .fabric rfl]
  · rfl

theorem addr_checkColony (s : State) : (checkColony s).fabric.addr = s.fabric.addr := by
  unfold checkColony
  split
  · have hmark (u : State) : (markEvent u 3).fabric = u.fabric := rfl
    rw [addr_wantGossip, hmark, setF_agree.area .fabric rfl]
  · rfl

theorem addr_leaveUp (s : State) (p cause : Nat) : (leaveUp s p cause).fabric.addr = s.fabric.addr := by
  unfold leaveUp
  extract_lets partner s1 s2 f g s3
  have h1 : s1.fabric = s.fabric := (downSlots_agree.area .fabric rfl).trans (modPort_agree.area .fabric rfl)
  have h2 : s2.fabric.addr = s.fabric.addr := by
    rw [← h1]
    exact ((onlySent_raiseCause ..).trans (onlySent_logEvent ..)).addr
  have h3 : s3.fabric.addr = s2.fabric.addr := rfl
  rw [addr_wantGossip, setReg_agree.area .fabric rfl, h3, h2]

theorem addr_checkAnnounce (s : State) (p : Nat) : (checkAnnounce s p).fabric.addr = s.fabric.addr := by
  unfold checkAnnounce
  split
  · rfl
  · dsimp only
    split
    · rfl
    · split
      · split
        · refine ((onlySent_logEvent ..).trans (onlySent_raiseCause ..)).addr.trans (congrArg FabricSt.addr ?_)
          exact (modPort_agree.area .fabric rfl).trans (setF_agree.area .fabric rfl)
        · rfl
      · split
        · refine (onlySent_logEvent ..).addr.trans ((congrArg FabricSt.addr (enterIdent_agree.area .fabric rfl)).trans ?_)
          exact addr_leaveUp _ _ _
        · rw [modPort_agree.area .fabric rfl]

/-- The device has the address that it takes (R458). -/
theorem addr_takeAddress (s : State) (addr serial : Nat) : (takeAddress s addr serial).fabric.addr = some addr := by
  unfold takeAddress
  extract_lets f s1 s2 s3
  have h2 : s2.fabric = s1.fabric := (setF_agree.area .fabric rfl).trans ((setF_agree.area .fabric rfl).trans
    ((setF_agree.area .fabric rfl).trans (setF_agree.area .fabric rfl)))
  have h3 : s3.fabric.addr = s2.fabric.addr := addr_foldl (fun u p => congrArg FabricSt.addr (sendAnnounce_agree.area .fabric rfl)) _ _
  rw [addr_checkColony, addr_foldl addr_checkAnnounce, h3, h2]

end Sys2Proof.Proofs
end

section
/-! SUPPORT. What an announcement of a neighbour changes (R458, R459). -/

namespace Sys2Proof.Proofs

open Sys2Proof Sys2Proof.Machine Sys2Proof.Safety Sys2Proof.Frame Sys2Proof.Claims Sys2Proof.Laws

/-- The port with its neighbour's announcement noted. -/
def announceNoted (s : State) (p : Nat) (b : List Byte) : State :=
  setF (modPort s p (fun x => { x with announce := b, partnerAddr := some (leAt b 0 1 * 16 + leAt b 1 1 % 16) })) FAB_PORT_STATUS_PARTNER p
    (leAt b 0 1 * 16 + leAt b 1 1 % 16)

theorem announceNoted_agree {s : State} {p : Nat} {b : List Byte} : Agree 32800 s (announceNoted s p b) :=
  setF_agree.after rfl (modPort_agree.mono rfl)

theorem getPort_announceNoted {s : State} {p : Nat} {b : List Byte} (hs : TablesOk s) :
    getPort (announceNoted s p b) p =
      { getPort s p with announce := b, partnerAddr := some (leAt b 0 1 * 16 + leAt b 1 1 % 16) } :=
  (getPort_of_ports_eq (setF_agree.area .ports rfl) p).trans (getPort_modPort_same hs)

/-- At a device with an address the announcement is checked, and then the colony (R459, R461). -/
theorem takeAnnounce_of_addressed {s : State} {a : Arrival} {d : Nat} (hs : TablesOk s) (haddr : s.fabric.addr = some d) :
    GossipOnly (checkAnnounce (announceNoted s a.port (sliceB a.msg.payload 0 24)) a.port) (takeAnnounce a s) := by
  have hcheck : TablesOk (checkAnnounce (announceNoted s a.port (sliceB a.msg.payload 0 24)) a.port) :=
    checkAnnounce_agree.tabOk (announceNoted_agree.tabOk hs)
  have hcolony := gossipOnly_checkColony hcheck
  unfold takeAnnounce
  dsimp only
  rw [haddr]
  dsimp only
  split
  · exact hcolony.trans (gossipOnly_wantGossip hcolony.tabOk)
  · exact hcolony

/-- A device without an address takes it from its neighbour (R458). -/
theorem takeAnnounce_of_unaddressed {s : State} {a : Arrival} (haddr : s.fabric.addr = none) (hp : a.port < 15)
    (hstipe : isStipe s = false) :
    let b := sliceB a.msg.payload 0 24
    takeAnnounce a s = takeAddress (markEvent (announceNoted s a.port b) 2)
      (leAt b 0 1 * 16 + (leAt b 1 1 + 31 - a.port) % 16) (leAt b 4 16) := by
  intro b
  unfold takeAnnounce
  dsimp only
  rw [haddr]
  exact if_pos ⟨hp, hstipe⟩

section
variable {s : State} {p d : Nat} {b : List Byte} (haddr : s.fabric.addr = some d) (hb : (getPort s p).announce = b) (hne : b.isEmpty = false)
include haddr hb hne

theorem checkAnnounce_mesh (hp : p < 15) (hwrong : leAt b 0 1 ≠ d / 16 ∨ leAt b 1 1 ≠ (d % 16 + p + 1) % 16 ∨ leAt b 2 1 + p ≠ 14) :
    checkAnnounce s p = raiseCause (logEvent (modPort (setF s FAB_PORT_ATTEST_MISWIRED p 1) p (fun x => { x with usable := false }))
      0x0304 4 2 p none (sliceB b 0 24)) 9 p := by
  unfold checkAnnounce
  rw [haddr]
  dsimp only
  rw [hb, if_neg (by rw [hne]; exact Bool.false_ne_true), if_pos hp]
  exact if_pos hwrong

theorem checkAnnounce_global (hp : 15 ≤ p) (hother : leAt b 0 1 ≠ d / 16) :
    checkAnnounce s p = modPort { s with fabric := { s.fabric with serials := tblPut s.fabric.serials (leAt b 0 1) (some (leAt b 4 16)) } } p
      (fun x => { x with link := some (leAt b 0 1) }) := by
  unfold checkAnnounce
  rw [haddr]
  dsimp only
  rw [hb, if_neg (by rw [hne]; exact Bool.false_ne_true), if_neg (Nat.not_lt.2 hp)]
  exact if_neg hother

theorem checkAnnounce_twin (hp : 15 ≤ p) (hsame : leAt b 0 1 = d / 16) :
    ∃ cause l, checkAnnounce s p =
      logEvent (enterIdent (leaveUp { s with free := s.free + 1 } p cause) p) 0x0302 4 2 p none l := by
  unfold checkAnnounce
  rw [haddr]
  dsimp only
  rw [hb, if_neg (by rw [hne]; exact Bool.false_ne_true), if_neg (Nat.not_lt.2 hp)]
  exact ⟨_, _, if_pos hsame⟩

end

theorem getPort_enterIdent {s : State} {p : Nat} (hs : TablesOk s) :
    (getPort (enterIdent s p) p).state = .ident ∧ (getPort (enterIdent s p) p).usable = false := by
  unfold enterIdent
  rw [getPort_setPortState (modPort_agree.tabOk hs), getPort_modPort_same hs]
  exact ⟨rfl, rfl⟩

theorem sliceB_ne_nil (l : List Byte) (k n : Nat) : (sliceB l k (n + 1)).isEmpty = false := by
  rw [Bool.eq_false_iff, ne_eq, List.isEmpty_iff]
  intro h
  have := sliceB_length l k (n + 1)
  rw [h] at this
  exact nomatch this

/-- Settles O48: a report is judged when it is whole, and an announcement gives an address or is checked against it. -/
theorem neighboursAndAddresses : Obligations.NeighboursAndAddresses := by
  refine ⟨fun a s hs hlink => ?_, fun a verified s hs hlink hp hstate haddr => ?_, fun a s hs hlink hp => ?_, fun a v s hs hreach => ?_⟩
  · obtain ⟨hev, ⟨i, l, r, hport⟩, -, hmem, ⟨o, hfabric⟩, -⟩ := atLink_leaves (a := a) hs
    have htxq := txq_foldl_sendOnPort (p := a.port) (l := (chunks 256 (attestReport (atLink s a) a.msg.payload)).zipIdx) hev.tabOk
    have hdst : portDst (atLink s a) a.port = portDst s a.port := by
      unfold portDst
      rw [hport]
    refine ⟨attestAnswer a (atLink s a), congrArg Host.Outcome.next (recv_link hlink (by decide) (by decide)),
      (attestAnswer_agree.area .mem rfl).trans hmem, ?_⟩
    rw [attestAnswer_eq, htxq, hdst, hfabric, hport]
    rfl
  · obtain ⟨hev, ⟨i, l, r, hport⟩, hregs, hmem, -, hcfg, -⟩ := atLink_leaves (a := a) hs
    intro b good p
    have hr := hev.tabOk
    have hexec : exec (.attestResp a verified) s = .next (attestFragment a verified (atLink s a)) :=
      congrArg Host.Outcome.next (recv_link hlink (by decide) (by decide))
    have hreport : (getPort (atLink s a) a.port).report = (getPort s a.port).report := by rw [hport]
    have hstate' : getF (atLink s a) FAB_PORT_ATTEST_STATE p = 1 := by
      unfold getF
      rw [hregs _ (attest_quiet p)]
      exact hstate
    have hmis : miswired (atLink s a) p = miswired s p := miswired_of_reg (hregs _ (attest_quiet p))
    have hlog : (cfgOf (atLink s a)).routing = (cfgOf s).routing := by
      unfold cfgOf
      rw [hcfg]
    have hmemOut : (attestFragment a verified (atLink s a)).mem = s.mem := (attestFragment_agree.area .mem rfl).trans hmem
    have hguard : ¬ (getF (atLink s a) FAB_PORT_ATTEST_STATE a.port ≠ 1 ∨ a.msg.addr ≠ (getPort (atLink s a) a.port).report.length) := by
      rw [hreport]
      exact fun h => h.elim (fun h => h hstate') fun h => h haddr
    refine ⟨fun hshort => ?_, fun hwhole => ?_⟩
    · have hbody : attestFragment a verified (atLink s a) = setPort (atLink s a) p { getPort (atLink s a) p with report := b } := by
        unfold attestFragment
        dsimp only
        rw [if_neg hguard, hreport]
        exact if_pos hshort
      refine ⟨_, hexec, ?_, ?_, ?_, hmemOut⟩
      · rw [hbody, getPort_setPort_same hr]
      · rw [hbody, getF_of_regs_eq (setPort_agree.area .regs rfl)]
        exact hstate'
      · rw [hbody, getPort_setPort_same hr, hport]
    · have hbody : attestFragment a verified (atLink s a) =
          judgeReport (setPort (atLink s a) p { getPort (atLink s a) p with report := [] }) p b verified := by
        unfold attestFragment
        dsimp only
        rw [if_neg hguard, hreport]
        exact if_neg (Nat.not_lt.2 hwhole)
      have hu : Agree 32768 (atLink s a) (setPort (atLink s a) p { getPort (atLink s a) p with report := [] }) := setPort_agree
      have huport : getPort (setPort (atLink s a) p { getPort (atLink s a) p with report := [] }) p =
          { getPort (atLink s a) p with report := [] } := getPort_setPort_same hr
      have hfits : (verified && reportFits (getPort (setPort (atLink s a) p { getPort (atLink s a) p with report := [] }) p) b &&
          !bitOf (leAt b 6 2) 0) = good := by
        have hnonce : (getPort (setPort (atLink s a) p { getPort (atLink s a) p with report := [] }) p).nonce = (getPort s p).nonce := by
          rw [huport, show getPort (atLink s a) p = _ from hport]
        rw [reportFits_of_nonce hnonce]
      have humis : miswired (setPort (atLink s a) p { getPort (atLink s a) p with report := [] }) p = miswired s p :=
        (miswired_of_reg (getReg_of_regs_eq (hu.area .regs rfl) _)).trans hmis
      have hucfg : (cfgOf (setPort (atLink s a) p { getPort (atLink s a) p with report := [] })).routing = (cfgOf s).routing := by
        unfold cfgOf
        rw [hu.area .cfg rfl]
        exact hlog
      have huusable : (getPort (setPort (atLink s a) p { getPort (atLink s a) p with report := [] }) p).usable = (getPort s p).usable := by
        rw [huport, show getPort (atLink s a) p = _ from hport]
      have hus := hu.tabOk hr
      refine ⟨_, hexec, hmemOut, ?_⟩
      rw [hbody]
      generalize setPort (atLink s a) p { getPort (atLink s a) p with report := [] } = u at hfits humis hucfg huusable hus ⊢
      rcases hgood : good with _ | _
      · obtain ⟨hstate3, hlax, hstrict⟩ := judgeReport_of_bad hus hp (hfits.trans hgood)
        rw [hucfg, humis] at hlax
        rw [hucfg, huusable] at hstrict
        exact ⟨hstate3, fun h => hlax (h.resolve_left Bool.false_ne_true), fun _ => hstrict⟩
      · obtain ⟨hstate2, husable⟩ := judgeReport_of_good hus (hfits.trans hgood)
        rw [humis] at husable
        exact ⟨hstate2, fun _ => husable, (fun h => nomatch h)⟩
  · obtain ⟨hev, -, -, hmem, ⟨o, hfabric⟩, -, hstipe⟩ := atLink_leaves (a := a) hs
    intro b p
    have hr := hev.tabOk
    have hexec : exec (.announce a) s = .next (takeAnnounce a (atLink s a)) :=
      congrArg Host.Outcome.next (recv_link hlink (by decide) (by decide))
    have hmemOut : (takeAnnounce a (atLink s a)).mem = s.mem := (takeAnnounce_agree.area .mem rfl).trans hmem
    have haddr' : (atLink s a).fabric.addr = s.fabric.addr := by rw [hfabric]
    have hnoted : TablesOk (announceNoted (atLink s a) p b) := announceNoted_agree.tabOk hr
    have hnaddr : (announceNoted (atLink s a) p b).fabric.addr = s.fabric.addr :=
      (congrArg FabricSt.addr (announceNoted_agree.area .fabric rfl)).trans haddr'
    have hnport : (getPort (announceNoted (atLink s a) p b) p).announce = b := by rw [getPort_announceNoted hr]
    have hne : b.isEmpty = false := sliceB_ne_nil _ _ _
    refine ⟨fun hnone hlt hst => ?_, fun d hd hge hother => ?_, fun d hd hlt hwrong => ?_, fun d hd hge hsame => ?_⟩
    · have hbody := takeAnnounce_of_unaddressed (a := a) (haddr'.trans hnone) hlt ((isStipe_of_stipe_eq hstipe).trans hst)
      refine ⟨_, hexec, hmemOut, ?_⟩
      rw [hbody, addr_takeAddress]
    · have hcheck := checkAnnounce_global (hnaddr.trans hd) hnport hne hge hother
      have hg := takeAnnounce_of_addressed (a := a) hr (haddr'.trans hd)
      rw [show checkAnnounce (announceNoted (atLink s a) a.port (sliceB a.msg.payload 0 24)) a.port = _ from hcheck] at hg
      obtain ⟨g, hgf⟩ := hg.fabric
      have hs1 (f : FabricSt) : TablesOk { announceNoted (atLink s a) p b with fabric := f } :=
        ⟨hnoted.regs, hnoted.resets, hnoted.queues, hnoted.fronds, hnoted.slots, hnoted.parts, hnoted.ports⟩
      refine ⟨_, hexec, hmemOut, ?_, ?_⟩
      · rw [getPort_of_ports_eq hg.ports, getPort_modPort_same (hs1 _)]
      · rw [hgf, modPort_agree.area .fabric rfl]
        exact (tblFind_tblPut_some _ _ _ _).trans (if_pos rfl)
    · have hcheck := checkAnnounce_mesh (hnaddr.trans hd) hnport hne hlt hwrong
      have hg := takeAnnounce_of_addressed (a := a) hr (haddr'.trans hd)
      rw [show checkAnnounce (announceNoted (atLink s a) a.port (sliceB a.msg.payload 0 24)) a.port = _ from hcheck] at hg
      have hset : Agree 32 (announceNoted (atLink s a) p b) (setF (announceNoted (atLink s a) p b) FAB_PORT_ATTEST_MISWIRED p 1) := setF_agree
      have hmark : getF (setF (announceNoted (atLink s a) p b) FAB_PORT_ATTEST_MISWIRED p 1) FAB_PORT_ATTEST_MISWIRED p = 1 := by
        rw [getF_setF_same hnoted (by decide)]
        rfl
      have hs1 := hset.tabOk hnoted
      generalize setF (announceNoted (atLink s a) p b) FAB_PORT_ATTEST_MISWIRED p 1 = u at hg hmark hs1
      have hmod : Agree 32768 u (modPort u p (fun x => { x with usable := false })) := modPort_agree
      have hfalse : (getPort (modPort u p (fun x => { x with usable := false })) p).usable = false := by rw [getPort_modPort_same hs1]
      have hregs : getF (modPort u p (fun x => { x with usable := false })) FAB_PORT_ATTEST_MISWIRED p = 1 :=
        (getF_of_regs_eq (hmod.area .regs rfl) _ _).trans hmark
      have hs2 := hmod.tabOk hs1
      generalize modPort u p (fun x => { x with usable := false }) = w at hg hfalse hregs hs2
      have hlog : AfterEvents Quiet w (logEvent w 0x0304 4 2 p none (sliceB b 0 24)) := (AfterEvents.refl hs2).logEvent fun _ h => h
      have hall := hlog.raiseCause (fun _ h => h) (show 9 < 64 by decide) (show p < 64 by omega)
      have hquiet : ColonyQuiet (FAB_PORT_ATTEST_MISWIRED.at p) := by
        unfold ColonyQuiet
        simp only [Fld.at, FAB_PORT_ATTEST_MISWIRED, ANC_BOOT_STATUS_COLONY_OK, FAB_GOSSIP_RUN]
        omega
      refine ⟨_, hexec, hmemOut, ?_, ?_, ?_⟩
      · unfold miswired
        rw [show getF (takeAnnounce a (atLink s a)) FAB_PORT_ATTEST_MISWIRED p = 1 from
          (congrArg (fun v : W64 => bitsOf v.toNat _ _) (hg.regs _ hquiet)).trans ((hall.getF (f := FAB_PORT_ATTEST_MISWIRED) (attest_quiet p)).trans hregs)]
        rfl
      · rw [getPort_of_ports_eq hg.ports, getPort_of_ports_eq (raiseCause_agree.area .ports rfl),
          getPort_of_ports_eq (logEvent_agree.area .ports rfl), hfalse]
      · unfold Caused
        rw [hg.regs (causeOff 9) ⟨by decide, by decide⟩]
        exact raiseCause_caused hlog.tabOk (by omega)
    · obtain ⟨cause, l, hcheck⟩ := checkAnnounce_twin (hnaddr.trans hd) hnport hne hge hsame
      have hg := takeAnnounce_of_addressed (a := a) hr (haddr'.trans hd)
      rw [show checkAnnounce (announceNoted (atLink s a) a.port (sliceB a.msg.payload 0 24)) a.port = _ from hcheck] at hg
      have hs1 : TablesOk { announceNoted (atLink s a) p b with free := (announceNoted (atLink s a) p b).free + 1 } :=
        ⟨hnoted.regs, hnoted.resets, hnoted.queues, hnoted.fronds, hnoted.slots, hnoted.parts, hnoted.ports⟩
      refine ⟨_, hexec, hmemOut, ?_⟩
      rw [getPort_of_ports_eq hg.ports, getPort_of_ports_eq (logEvent_agree.area .ports rfl)]
      exact getPort_enterIdent (leaveUp_agree.tabOk hs1)
  · have hs0 : TablesOk (dropShadow s a) := ⟨hs.regs, hs.resets, hs.queues, hs.fronds, hs.slots, hs.parts, hs.ports⟩
    have hexec : exec (.fabAssign a v) s = .next (fabAssign a (Wr.full v) (dropShadow s a)) :=
      congrArg Host.Outcome.next (touch_of_reached hreach)
    refine ⟨fun hstipe hnone hgo => ?_, fun hrefused => ?_⟩
    · have hreg : regAt FAB_ASSIGN_COLONY.off = some (⟨0x30010, 1, 0x0, 1, 0x0, .boot, [⟨0, 8, .rw, 0x0⟩, ⟨63, 1, .wo, 0x0⟩]⟩, 0, 0) := by
        decide +kernel
      have hcolony := getF_writeFields (x := FAB_ASSIGN_COLONY) (v := v) hs0 hreg List.mem_cons_self rfl rfl rfl
      refine ⟨_, hexec, fabAssign_agree.area .mem rfl, ?_⟩
      unfold fabAssign
      rw [if_neg (by rw [show isStipe (dropShadow s a) = true from hstipe, show (dropShadow s a).fabric.addr = none from hnone]; decide)]
      dsimp only
      rw [if_pos (show (Wr.full v).bit 63 = true from hgo), addr_takeAddress, hcolony]
      rfl
    · have hbody : fabAssign a (Wr.full v) (dropShadow s a) = accessError (dropShadow s a) a FAB_ASSIGN_COLONY.off 3 := by
        refine if_pos ?_
        rcases hrefused with h | h
        · rw [show isStipe (dropShadow s a) = false from h]
          rfl
        · rw [show (dropShadow s a).fabric.addr.isSome = true from h, Bool.or_true]
      have hev : AfterEvents Quiet (dropShadow s a) (accessError (dropShadow s a) a FAB_ASSIGN_COLONY.off 3) :=
        (AfterEvents.refl hs0).accessError fun _ h => h
      refine ⟨_, hexec.trans (congrArg _ hbody), accessError_agree.area .mem rfl, hev.fabric.addr, (accessError_onlyErrored _ _ _ hs0).1⟩

end Sys2Proof.Proofs
end

section
/-! SUPPORT. Gossip runs and rounds, and late intervals (R461, R462, R466). -/

namespace Sys2Proof.Proofs

open Sys2Proof Sys2Proof.Machine Sys2Proof.Safety Sys2Proof.Frame Sys2Proof.Claims Sys2Proof.Laws

/-! ### Counters -/

/-- A counter field after it has counted, up to its all-ones value (R11). -/
theorem getF_bump_same {s : State} {f : Fld} {i k : Nat} (hs : TablesOk s) (hf : f.lo + f.width ≤ 64) :
    getF (bump s f i k) f i = satAdd f.width (getF s f i) k := by
  have hlt : getF s f i < 2 ^ f.width := bitsOf_lt _ _ _
  unfold bump
  split
  · next hk =>
    unfold satAdd
    omega
  · rw [getF_setF_same hs hf]
    refine Nat.mod_eq_of_lt (Nat.lt_of_le_of_lt (Nat.min_le_right _ _) ?_)
    have := Nat.two_pow_pos f.width
    omega

theorem getF_bump_beside {s : State} {f g : Fld} {i j k : Nat} (hs : TablesOk s) (hf : f.lo + f.width ≤ 64) (hat : g.at j = f.at i)
    (hoff : g.lo + g.width ≤ f.lo ∨ f.lo + f.width ≤ g.lo) : getF (bump s f i k) g j = getF s g j := by
  unfold bump
  split
  · rfl
  · exact getF_setF_beside hs hf hat hoff

/-! ### Rounds -/

theorem endRounds_of_waiting {s : State} {feeds : List FeedRead} (k : Nat)
    (h : s.fabric.gossip.ports.any (fun p => !roundHeard s.fabric.gossip p) = true) : endRounds k s feeds = s := by
  cases k with
  | zero => rfl
  | succ k => exact if_pos (.inr h)

section
variable {s : State} {feeds : List FeedRead} {k : Nat} (hround : s.fabric.gossip.round ≠ 0)
  (hheard : s.fabric.gossip.ports.any (fun p => !roundHeard s.fabric.gossip p) = false)
include hround hheard

theorem endRounds_of_last (hlast : 6 ≤ s.fabric.gossip.round) : endRounds (k + 1) s feeds = finishGossip s feeds := by
  refine (if_neg ?_).trans (if_pos hlast)
  rw [hheard]
  simpa using hround

theorem endRounds_of_next (hnext : s.fabric.gossip.round < 6) :
    endRounds (k + 1) s feeds = endRounds k (startRound s (s.fabric.gossip.round + 1)) feeds := by
  refine (if_neg ?_).trans (if_neg (Nat.not_le.2 hnext))
  rw [hheard]
  simpa using hround

end

/-- A round of which nothing has arrived is not over while it has a port. -/
theorem waiting_of_nothing_heard {g : GossipSt} (hports : g.ports ≠ []) (hgot : heardOf g g.run g.round = []) :
    g.ports.any (fun p => !roundHeard g p) = true := by
  obtain ⟨p, l, hl⟩ := List.exists_cons_of_ne_nil hports
  refine List.any_eq_true.2 ⟨p, by rw [hl]; exact List.mem_cons_self, ?_⟩
  have hmine : g.got.filter (fun x => x.1 == p && x.2.1 == g.run && x.2.2.1 == g.round) = [] := by
    refine List.filter_eq_nil_iff.2 fun x hx hmatch => ?_
    have hno := List.filter_eq_nil_iff.1 hgot x hx
    simp only [Bool.and_eq_true] at hmatch hno
    exact hno ⟨hmatch.1.2, hmatch.2⟩
  unfold roundHeard
  dsimp only
  rw [hmine]
  rfl

theorem gossipPorts_of_eq {s t : State} (hports : t.ports = s.ports) (hstipe : t.stipe = s.stipe)
    (hmis : ∀ p, getReg t (FAB_PORT_ATTEST_MISWIRED.at p) = getReg s (FAB_PORT_ATTEST_MISWIRED.at p)) : gossipPorts t = gossipPorts s := by
  unfold gossipPorts
  refine List.filter_congr fun p _ => ?_
  unfold portOk hostPort announced
  rw [getPort_of_ports_eq hports, isStipe_of_stipe_eq hstipe, miswired_of_reg (hmis p)]

/-- The registers that show gossip are set (R467). -/
theorem setGossip_leaves {s : State} {g : GossipSt} (hs : TablesOk s) :
    TablesOk (setGossip s g) ∧ (setGossip s g).fabric.gossip = g ∧
      (∀ o, o ≠ FAB_GOSSIP_RUN.off → getReg (setGossip s g) o = getReg s o) ∧
      getF (setGossip s g) FAB_GOSSIP_RUNS = getF s FAB_GOSSIP_RUNS ∧
      getF (setGossip s g) FAB_GOSSIP_GIVEUPS = getF s FAB_GOSSIP_GIVEUPS := by
  unfold setGossip
  extract_lets f s1
  have hs1 : TablesOk s1 := ⟨hs.regs, hs.resets, hs.queues, hs.fronds, hs.slots, hs.parts, hs.ports⟩
  have hgossip : s1.fabric.gossip = g := rfl
  have hregs (o : Nat) : getReg s1 o = getReg s o := rfl
  have hfield (x : Fld) : getF s1 x = getF s x := rfl
  clear_value s1
  have hset {u : State} (x : Fld) (v : Nat) : Agree 32 u (setF u x 0 v) := setF_agree
  have hs2 : TablesOk (setF s1 FAB_GOSSIP_RUN 0 g.run) := (hset _ _).tabOk hs1
  have hbeside (x : Fld) (hat : x.at 0 = FAB_GOSSIP_RUN.at 0) (hx : 19 ≤ x.lo) :
      getF (setF (setF s1 FAB_GOSSIP_RUN 0 g.run) FAB_GOSSIP_ROUND 0 g.round) x = getF s x :=
    (getF_setF_beside (f := FAB_GOSSIP_ROUND) hs2 (by decide) hat (.inr hx)).trans
      ((getF_setF_beside (f := FAB_GOSSIP_RUN) hs1 (by decide) hat (.inr (Nat.le_trans (by decide) hx))).trans (hfield x))
  refine ⟨(hset _ _).tabOk hs2, ?_, fun o ho => ?_, ?_, ?_⟩
  · rw [(hset FAB_GOSSIP_ROUND g.round).area .fabric rfl, (hset FAB_GOSSIP_RUN g.run).area .fabric rfl, hgossip]
  · exact (getReg_setReg_ne hs2 ho).trans ((getReg_setReg_ne hs1 ho).trans (hregs o))
  · exact hbeside _ rfl (by decide)
  · exact hbeside _ rfl (by decide)

theorem miswired_ne_gossip (p : Nat) : FAB_PORT_ATTEST_MISWIRED.at p ≠ FAB_GOSSIP_RUN.off := by
  simp only [Fld.at, FAB_PORT_ATTEST_MISWIRED, FAB_GOSSIP_RUN]
  omega

/-- A round starts on the ports that are fit for it (R461). -/
theorem startRound_leaves {s : State} {r : Nat} (hs : TablesOk s) :
    (startRound s r).fabric.gossip = { s.fabric.gossip with round := r, since := s.counter, ports := gossipPorts s } ∧
      getF (startRound s r) FAB_GOSSIP_RUNS = getF s FAB_GOSSIP_RUNS ∧
      getF (startRound s r) FAB_GOSSIP_GIVEUPS = getF s FAB_GOSSIP_GIVEUPS := by
  obtain ⟨-, hgossip, -, hruns, hgiveups⟩ :=
    setGossip_leaves (g := { s.fabric.gossip with round := r, since := s.counter, ports := gossipPorts s }) hs
  have hsend (l : List Nat) (u : State) : Agree 32768 u (l.foldl sendRound u) :=
    Agree.foldl (fun u p h => sendRound_agree.after rfl h) (Agree.refl _ _)
  unfold startRound
  dsimp only
  refine ⟨?_, ?_, ?_⟩
  · rw [(hsend _ _).area .fabric rfl, hgossip]
  · rw [getF_of_regs_eq ((hsend _ _).area .regs rfl), hruns]
  · rw [getF_of_regs_eq ((hsend _ _).area .regs rfl), hgiveups]

/-! ### The end of a run -/

/-- Round 6 shows ROUTES_OK and ends the run; no barrier starts before READY (R446, R462). -/
theorem finishGossip_leaves {s : State} {feeds : List FeedRead} (hs : TablesOk s) (hdev : s.dev ≠ .ready) :
    getF (finishGossip s feeds) ANC_BOOT_STATUS_ROUTES_OK = 1 ∧ (finishGossip s feeds).fabric.gossip.done = true ∧
      (finishGossip s feeds).fabric.gossip.round = 0 := by
  unfold finishGossip
  extract_lets g s1 s2
  obtain ⟨hs1, hgossip, -⟩ := setGossip_leaves (g := { s.fabric.gossip with done := true, round := 0 }) hs
  have hdev1 : s1.dev = s.dev := setGossip_agree.area .dev rfl
  have h2 : Agree 524288 s1 s2 := by
    unfold s2
    split
    · exact markEvent_agree
    · exact Agree.refl _ _
  clear_value s2
  have hs2 : TablesOk s2 := h2.tabOk hs1
  have hset : Agree 32 s2 (setF s2 ANC_BOOT_STATUS_ROUTES_OK 0 1) := setF_agree
  have hroutes : Agree 32 (setF s2 ANC_BOOT_STATUS_ROUTES_OK 0 1) (buildRoutes (setF s2 ANC_BOOT_STATUS_ROUTES_OK 0 1)) := buildRoutes_agree
  have hkept : getReg (buildRoutes (setF s2 ANC_BOOT_STATUS_ROUTES_OK 0 1)) ANC_BOOT_STATUS_ROUTES_OK.off =
      getReg (setF s2 ANC_BOOT_STATUS_ROUTES_OK 0 1) ANC_BOOT_STATUS_ROUTES_OK.off := by
    have hev : AfterEvents (· = ANC_BOOT_STATUS_ROUTES_OK.off) (setF s2 ANC_BOOT_STATUS_ROUTES_OK 0 1)
        (buildRoutes (setF s2 ANC_BOOT_STATUS_ROUTES_OK 0 1)) := by
      unfold buildRoutes
      split
      · exact AfterEvents.refl (hset.tabOk hs2)
      · refine AfterEvents.foldl (fun u c _ hu => ?_) (AfterEvents.refl (hset.tabOk hs2))
        split
        · exact hu
        · refine hu.setReg ?_
          simp only [routeOff, FAB_ROUTE_SLOT0, ANC_BOOT_STATUS_ROUTES_OK]
          omega
    exact hev.regs _ rfl
  have hfabric : (buildRoutes (setF s2 ANC_BOOT_STATUS_ROUTES_OK 0 1)).fabric.gossip = { s.fabric.gossip with done := true, round := 0 } := by
    rw [hroutes.area .fabric rfl, hset.area .fabric rfl, h2.area .fabric rfl]
    exact hgossip
  have hdev3 : (buildRoutes (setF s2 ANC_BOOT_STATUS_ROUTES_OK 0 1)).dev ≠ .ready := by
    rw [hroutes.area .dev rfl, hset.area .dev rfl, h2.area .dev rfl, hdev1]
    exact hdev
  have hrest : maybeFabricBarrier (buildRoutes (setF s2 ANC_BOOT_STATUS_ROUTES_OK 0 1)) feeds =
      buildRoutes (setF s2 ANC_BOOT_STATUS_ROUTES_OK 0 1) := if_neg fun h => hdev3 h.1
  rw [hrest, hfabric]
  refine ⟨?_, rfl, rfl⟩
  have hfield := getF_setF_same (f := ANC_BOOT_STATUS_ROUTES_OK) (i := 0) (v := 1) hs2 (by decide)
  unfold getF at hfield ⊢
  exact (congrArg (fun v : W64 => bitsOf v.toNat _ _) hkept).trans hfield

/-! ### Fragments -/

theorem round_mergeFragment (s : State) (d : Nat) (b : List Byte) : (mergeFragment s d b).fabric.gossip.round = s.fabric.gossip.round := by
  have hfold {g : State → Nat → State} (hg : ∀ u i, (g u i).fabric.gossip.round = u.fabric.gossip.round) (l : List Nat) (u : State) :
      (l.foldl g u).fabric.gossip.round = u.fabric.gossip.round := by
    induction l generalizing u with
    | nil => rfl
    | cons i l ih => rw [List.foldl_cons, ih, hg]
  unfold mergeFragment
  dsimp only
  refine (hfold (fun u i => ?_) _ _).trans (hfold (fun u i => ?_) _ _)
  · rfl
  · split <;> rfl

section
variable {s : State} {a : Arrival} {feeds : List FeedRead}

/-- The state with the highest run seen noted. -/
def runSeen (s : State) (b : List Byte) : State :=
  { s with fabric := { s.fabric with gossip := { s.fabric.gossip with seen := max (leAt b 0 2) s.fabric.gossip.seen } } }

theorem takeGossip_of_ignored (h : s.fabric.addr = none ∨ getF s ANC_BOOT_STATUS_COLONY_OK = 0 ∨ leAt a.msg.payload 0 2 < s.fabric.gossip.run) :
    takeGossip a feeds s = runSeen s a.msg.payload := by
  unfold takeGossip
  extract_lets b run g0 f s0 s1 g2 f2 s2
  rcases haddr : s.fabric.addr with _ | d
  · rfl
  · dsimp only
    by_cases hcolony : getF s ANC_BOOT_STATUS_COLONY_OK = 0
    · exact if_pos hcolony
    · have hlt : leAt a.msg.payload 0 2 < s.fabric.gossip.run := by
        rw [haddr] at h
        exact (h.resolve_left (fun h => nomatch h)).resolve_left hcolony
      have hs1 : s1 = s0 := if_neg (Nat.lt_asymm hlt)
      rw [if_neg hcolony, if_pos (.inl (show run < g2.run by unfold g2; rw [hs1]; exact hlt)), hs1]
      rfl

theorem takeGossip_of_present {d : Nat} (haddr : s.fabric.addr = some d) (hcolony : getF s ANC_BOOT_STATUS_COLONY_OK ≠ 0)
    (hrun : leAt a.msg.payload 0 2 = s.fabric.gossip.run) (hround : s.fabric.gossip.round ≠ 0) :
    takeGossip a feeds s = endRounds 6 (mergeFragment { s with fabric := { s.fabric with gossip := { s.fabric.gossip with
      seen := max (leAt a.msg.payload 0 2) s.fabric.gossip.seen
      got := s.fabric.gossip.got ++ [(a.port, leAt a.msg.payload 0 2, leAt a.msg.payload 2 1, leAt a.msg.payload 3 1)] } } }
        d a.msg.payload) feeds := by
  unfold takeGossip
  extract_lets b run g0 f s0 s1 g2 f2 s2
  have hs1 : s1 = s0 := if_neg (Nat.not_lt.2 (Nat.le_of_eq hrun))
  clear_value s1
  subst hs1
  split
  · next hnone => exact nomatch haddr.symm.trans hnone
  · next e he =>
    cases Option.some.inj (haddr.symm.trans he)
    refine (if_neg hcolony).trans (if_neg fun h => ?_)
    exact h.elim (fun h => absurd h (Nat.not_lt.2 (Nat.le_of_eq hrun.symm))) hround

end

/-- A run starts at round 1 (R461). -/
theorem startRun_leaves {s : State} {feeds : List FeedRead} {run d : Nat} (hs : TablesOk s) (haddr : s.fabric.addr = some d)
    (hports : gossipPorts s ≠ []) (hgot : s.fabric.gossip.got.all (fun x => x.2.1 != run) = true) :
    let t := startRun s run feeds
    t.fabric.gossip.want = s.fabric.gossip.want ∧ t.fabric.gossip.run = run ∧ t.fabric.gossip.round = 1 ∧
      t.fabric.gossip.ports = gossipPorts s ∧ getF t FAB_GOSSIP_RUNS = satAdd 16 (getF s FAB_GOSSIP_RUNS) 1 := by
  unfold startRun
  rw [haddr]
  dsimp only
  generalize hs1def : ({ s with fabric := { s.fabric with gossip := { s.fabric.gossip with
    run := run
    links := (ownLinks s d).map (fun l => (d / 16, l))
    sets := []
    got := s.fabric.gossip.got.filter (fun x => x.2.1 == run)
    done := false
    seen := max run s.fabric.gossip.seen } } } : State) = s1
  have hs1 : TablesOk s1 := by
    rw [← hs1def]
    exact ⟨hs.regs, hs.resets, hs.queues, hs.fronds, hs.slots, hs.parts, hs.ports⟩
  have hempty : s1.fabric.gossip.got = [] := by
    rw [← hs1def]
    refine List.filter_eq_nil_iff.2 fun x hx => ?_
    have := List.all_eq_true.1 hgot x hx
    simpa using this
  have hrun : s1.fabric.gossip.run = run := by rw [← hs1def]
  have hwant : s1.fabric.gossip.want = s.fabric.gossip.want := by rw [← hs1def]
  have hruns : getF s1 FAB_GOSSIP_RUNS = getF s FAB_GOSSIP_RUNS := by
    rw [← hs1def]
    rfl
  have hport1 : gossipPorts s1 = gossipPorts s := by
    rw [← hs1def]
    exact gossipPorts_of_eq rfl rfl fun _ => rfl
  clear hs1def
  have hb : Agree 32 s1 (bump s1 FAB_GOSSIP_RUNS 0 1) := bump_agree
  have hport : gossipPorts (bump s1 FAB_GOSSIP_RUNS 0 1) = gossipPorts s :=
    (gossipPorts_of_eq (hb.area .ports rfl) (hb.area .stipe rfl) fun p => getReg_bump_ne hs1 (miswired_ne_gossip p)).trans hport1
  obtain ⟨hgossip, hrunsOut, -⟩ := startRound_leaves (r := 1) (hb.tabOk hs1)
  rw [hb.area .fabric rfl, hport] at hgossip
  rw [getF_bump_same hs1 (by decide), hruns] at hrunsOut
  have hwaits : (startRound (bump s1 FAB_GOSSIP_RUNS 0 1) 1).fabric.gossip.ports.any
      (fun p => !roundHeard (startRound (bump s1 FAB_GOSSIP_RUNS 0 1) 1).fabric.gossip p) = true := by
    rw [hgossip]
    refine waiting_of_nothing_heard hports ?_
    unfold heardOf
    dsimp only
    rw [hempty]
    rfl
  rw [endRounds_of_waiting 6 hwaits, hgossip]
  exact ⟨hwant, hrun, rfl, rfl, hrunsOut⟩

/-! ### Late intervals -/

theorem late_lt {late n : Nat} (hlate : late < 2 ^ 5) (hn : n < 5) (h : bitOf late n = false) : late + 2 ^ n < 2 ^ 5 := by
  have hall : ∀ late < 32, ∀ n < 5, bitOf late n = false → late + 2 ^ n < 32 := by decide
  exact hall late hlate n hn h

/-- An interval above its bound is logged and shown (R466). -/
theorem startupLate_of_late {n now since : Nat} {s : State} (hsince : intervalSince (advance s now) n = some since)
    (hbit : bitOf (getF s ANC_BOOT_STATUS_LATE) n = false) (hlate : (advance s now).counter - since > intervalBound n * 32768) :
    startupLate n now s = raiseCause (logEvent (setF (advance s now) ANC_BOOT_STATUS_LATE 0 (getF s ANC_BOOT_STATUS_LATE + 2 ^ n))
      0x0503 0 1 0 none (leBytes 1 (getF s ANC_BOOT_STATUS_LATE + 2 ^ n))) 10 n := by
  unfold startupLate
  dsimp only
  rw [hsince]
  exact if_pos ⟨hlate, hbit⟩

theorem startupLate_of_early {n now since : Nat} {s : State} (hsince : intervalSince (advance s now) n = some since)
    (hearly : (advance s now).counter - since ≤ intervalBound n * 32768) : startupLate n now s = advance s now := by
  unfold startupLate
  dsimp only
  rw [hsince]
  exact if_neg fun h => absurd h.1 (Nat.not_lt.2 hearly)

/-- Settles O49: a fragment is ignored, noted, or ends its round; a run and a round start on the fit ports, and end by R461. -/
theorem gossipRuns : Obligations.GossipRuns := by
  have hadvance {s : State} {now : Nat} (hs : TablesOk s) : TablesOk (advance s now) :=
    ⟨hs.regs, hs.resets, hs.queues, hs.fronds, hs.slots, hs.parts, hs.ports⟩
  refine ⟨fun a feeds s hs hlink => ?_, fun feeds s hs hdev => finishGossip_leaves hs hdev,
    fun feeds s d hs haddr hwant hports hgot => ?_, fun now feeds s hs hround htime => ?_,
    fun n now since s hs hn hsince hbit => ?_⟩
  · intro b run g r
    obtain ⟨-, -, hregs, -, ⟨o, hfabric⟩, -⟩ := atLink_leaves (a := a) hs
    have hexec : exec (.routeGossip a feeds) s = .next (takeGossip a feeds r) :=
      congrArg Host.Outcome.next (recv_link hlink (by decide) (by decide))
    have hg : r.fabric.gossip = g := by
      show (atLink s a).fabric.gossip = _
      rw [hfabric]
    have haddr : r.fabric.addr = s.fabric.addr := by
      show (atLink s a).fabric.addr = _
      rw [hfabric]
    have hcolony : getF r ANC_BOOT_STATUS_COLONY_OK = getF s ANC_BOOT_STATUS_COLONY_OK := by
      unfold getF
      rw [hregs _ ⟨by decide, by decide⟩]
    refine ⟨fun hno => ?_, fun d hd hok hrun hround => ?_⟩
    · rw [hexec, takeGossip_of_ignored (by rw [haddr, hcolony, hg]; exact hno)]
      unfold runSeen
      rw [hg]
    · have hbody := takeGossip_of_present (s := r) (a := a) (feeds := feeds) (haddr.trans hd) (by rw [hcolony]; exact hok)
        (by rw [hg]; exact hrun) (by rw [hg]; exact hround)
      rw [hg] at hbody
      intro m
      refine ⟨fun hwait => ?_, fun hheard hlast => ?_⟩
      · rw [hexec, hbody]
        exact congrArg _ (endRounds_of_waiting 6 hwait)
      · have hmround : m.fabric.gossip.round = g.round := round_mergeFragment _ _ _
        rw [hexec, hbody]
        exact congrArg _ (endRounds_of_last (s := m) (by rw [hmround]; exact hround) hheard (by rw [hmround]; exact hlast))
  · have hs1 : TablesOk { s with fabric := { s.fabric with gossip := { s.fabric.gossip with want := false } } } :=
      ⟨hs.regs, hs.resets, hs.queues, hs.fronds, hs.slots, hs.parts, hs.ports⟩
    have hsame : gossipPorts { s with fabric := { s.fabric with gossip := { s.fabric.gossip with want := false } } } = gossipPorts s :=
      gossipPorts_of_eq rfl rfl fun _ => rfl
    obtain ⟨hwant', hrun, hround, hports', hruns⟩ := startRun_leaves (feeds := feeds) (d := d) (run := s.fabric.gossip.seen + 1) hs1 haddr
      (by rw [hsame]; exact hports) hgot
    rw [hsame] at hports'
    exact ⟨_, congrArg Host.Outcome.next (if_pos hwant), startRun_agree.area .mem rfl, hwant', hrun, hround, hports', hruns⟩
  · intro g
    have hb : Agree 32 (advance s now) (bump (advance s now) FAB_GOSSIP_GIVEUPS 0 1) := bump_agree
    obtain ⟨hu, hgossip, hregs, -, hgiveups⟩ := setGossip_leaves (g := { g with ports := [] }) (hb.tabOk (hadvance hs))
    have hexec : exec (.roundGiveup now feeds) s =
        .next (endRounds 6 (setGossip (bump (advance s now) FAB_GOSSIP_GIVEUPS 0 1) { g with ports := [] }) feeds) :=
      congrArg Host.Outcome.next (if_pos ⟨hround, htime⟩)
    have hmem : (endRounds 6 (setGossip (bump (advance s now) FAB_GOSSIP_GIVEUPS 0 1) { g with ports := [] }) feeds).mem = s.mem :=
      (endRounds_agree.area .mem rfl).trans ((setGossip_agree.area .mem rfl).trans (hb.area .mem rfl))
    have hsame : gossipPorts (setGossip (bump (advance s now) FAB_GOSSIP_GIVEUPS 0 1) { g with ports := [] }) = gossipPorts s :=
      gossipPorts_of_eq ((setGossip_agree.area .ports rfl).trans (hb.area .ports rfl))
        ((setGossip_agree.area .stipe rfl).trans (hb.area .stipe rfl)) fun p =>
          (hregs _ (miswired_ne_gossip p)).trans (getReg_bump_ne (hadvance hs) (miswired_ne_gossip p))
    rw [getF_bump_same (hadvance hs) (by decide)] at hgiveups
    generalize setGossip (bump (advance s now) FAB_GOSSIP_GIVEUPS 0 1) { g with ports := [] } = u at *
    have hround' : u.fabric.gossip.round = g.round := by rw [hgossip]
    have hheard : u.fabric.gossip.ports.any (fun p => !roundHeard u.fabric.gossip p) = false := by rw [hgossip]; rfl
    refine ⟨fun hlast => ?_, fun hlt hports hnone => ?_⟩
    · rw [hexec, endRounds_of_last (by rw [hround']; exact hround) hheard (by rw [hround']; exact hlast)]
    · obtain ⟨hstart, -, hgiveups'⟩ := startRound_leaves (r := u.fabric.gossip.round + 1) hu
      rw [hgossip, hsame] at hstart
      have hwait : (startRound u (u.fabric.gossip.round + 1)).fabric.gossip.ports.any
          (fun p => !roundHeard (startRound u (u.fabric.gossip.round + 1)).fabric.gossip p) = true := by
        rw [hgossip, hstart]
        exact waiting_of_nothing_heard hports hnone
      have hend : endRounds 6 u feeds = startRound u (u.fabric.gossip.round + 1) :=
        (endRounds_of_next (by rw [hround']; exact hround) hheard (by rw [hround']; exact hlt)).trans (endRounds_of_waiting 5 hwait)
      rw [hend] at hexec hmem
      refine ⟨_, hexec, hmem, ?_, ?_, ?_⟩
      · rw [hgossip, hstart]
      · rw [hgossip, hstart]
      · rw [hgiveups', hgiveups]
        rfl
  · refine ⟨fun hlate => ?_, fun hearly => congrArg Host.Outcome.next (startupLate_of_early hsince hearly)⟩
    have hset : Agree 32 (advance s now) (setF (advance s now) ANC_BOOT_STATUS_LATE 0 (getF s ANC_BOOT_STATUS_LATE + 2 ^ n)) := setF_agree
    have hev : AfterEvents Quiet (setF (advance s now) ANC_BOOT_STATUS_LATE 0 (getF s ANC_BOOT_STATUS_LATE + 2 ^ n))
        (logEvent (setF (advance s now) ANC_BOOT_STATUS_LATE 0 (getF s ANC_BOOT_STATUS_LATE + 2 ^ n)) 0x0503 0 1 0 none
          (leBytes 1 (getF s ANC_BOOT_STATUS_LATE + 2 ^ n))) :=
      (AfterEvents.refl (hset.tabOk (hadvance hs))).logEvent fun _ h => h
    have hall := hev.raiseCause (fun _ h => h) (show 10 < 64 by decide) (show n < 64 by omega)
    refine ⟨_, congrArg Host.Outcome.next (startupLate_of_late hsince hbit hlate), ?_, raiseCause_caused hev.tabOk (by omega), ?_⟩
    · exact (raiseCause_agree.area .mem rfl).trans ((logEvent_agree.area .mem rfl).trans (hset.area .mem rfl))
    · rw [hall.getF ⟨by decide, by decide⟩, getF_setF_same (hadvance hs) (by decide)]
      exact Nat.mod_eq_of_lt (late_lt (bitsOf_lt _ _ _) hn hbit)

end Sys2Proof.Proofs
end

section
/-! SUPPORT. Fabric barriers: joins, releases and give-ups (R443, R463 to R465). -/

namespace Sys2Proof.Proofs

open Sys2Proof Sys2Proof.Machine Sys2Proof.Safety Sys2Proof.Frame Sys2Proof.Claims Sys2Proof.Laws

/-! ### The table of barriers -/

theorem epoch_of_getBarrier {s : State} {e : Nat} {b : BarrierSt} (h : getBarrier s e = some b) : b.epoch = e :=
  eq_of_beq (List.find?_some (p := fun b : BarrierSt => b.epoch == e) h)

theorem getBarrier_of_fabric_eq {s t : State} (h : t.fabric.barriers = s.fabric.barriers) (e : Nat) : getBarrier t e = getBarrier s e := by
  unfold getBarrier
  rw [h]

theorem getBarrier_putBarrier (s : State) (b : BarrierSt) : getBarrier (putBarrier s b) b.epoch = some b := by
  have hnone : (s.fabric.barriers.filter (fun x => x.epoch != b.epoch)).find? (fun x => x.epoch == b.epoch) = none := by
    refine List.find?_eq_none.2 fun x hx => ?_
    have := (List.mem_filter.1 hx).2
    simpa using this
  show (s.fabric.barriers.filter (fun x => x.epoch != b.epoch) ++ [b]).find? (fun x => x.epoch == b.epoch) = some b
  rw [List.find?_append, hnone]
  simp

theorem getBarrier_dropBarrier (s : State) (e : Nat) : getBarrier (dropBarrier s e) e = none := by
  refine List.find?_eq_none.2 fun x hx => ?_
  have := (List.mem_filter.1 hx).2
  simpa using this

/-- The device's address and its barriers are those before the message came. -/
theorem barriers_atLichen (s : State) (a : Arrival) :
    (atLichen s a).fabric.barriers = s.fabric.barriers ∧ (atLichen s a).fabric.addr = s.fabric.addr := by
  obtain ⟨o, q, hf⟩ := fabric_received s a
  rw [show (atLichen s a).fabric = (received s a).fabric from fabric_wakeLichen _, hf]
  exact ⟨rfl, rfl⟩

theorem counter_atLichen (s : State) (a : Arrival) : (atLichen s a).counter = s.counter :=
  (wakeLichen_agree.area .counter rfl).trans (received_agree.area .counter rfl)

theorem mem_atLichen (s : State) (a : Arrival) : (atLichen s a).mem = s.mem :=
  (wakeLichen_agree.area .mem rfl).trans (received_agree.area .mem rfl)

theorem tabOk_atLichen {s : State} {a : Arrival} (hs : TablesOk s) : TablesOk (atLichen s a) :=
  wakeLichen_agree.tabOk (received_agree.tabOk hs)

/-! ### Fabric-ready -/

/-- Only the outcomes of verification have changed in the register that shows start-up. -/
def OutcomeShown (s t : State) : Prop :=
  (∀ o, o ≠ ANC_BOOT_STATUS_VERIFIED.off → getReg t o = getReg s o) ∧
    getF t ANC_BOOT_STATUS_FABRIC_READY = getF s ANC_BOOT_STATUS_FABRIC_READY ∧
    getF t ANC_BOOT_STATUS_PARTIAL = getF s ANC_BOOT_STATUS_PARTIAL

theorem OutcomeShown.trans {s t u : State} (h : OutcomeShown s t) (h' : OutcomeShown t u) : OutcomeShown s u := by
  obtain ⟨hregs, hready, hpartial⟩ := h
  obtain ⟨hregs', hready', hpartial'⟩ := h'
  exact ⟨fun o ho => (hregs' o ho).trans (hregs o ho), hready'.trans hready, hpartial'.trans hpartial⟩

theorem outcomeShown_setF {s : State} {f : Fld} {v : Nat} (hs : TablesOk s)
    (hf : f = ANC_BOOT_STATUS_VERIFIED ∨ f = ANC_BOOT_STATUS_VERIFY_FAIL) : OutcomeShown s (setF s f 0 v) := by
  rcases hf with rfl | rfl
  · exact ⟨fun o ho => getReg_setReg_ne hs ho, getF_setF_beside hs (by decide) rfl (by decide),
      getF_setF_beside hs (by decide) rfl (by decide)⟩
  · exact ⟨fun o ho => getReg_setReg_ne hs ho, getF_setF_beside hs (by decide) rfl (by decide),
      getF_setF_beside hs (by decide) rfl (by decide)⟩

/-- Stages 6 and 7 of the partitions show in VERIFIED and VERIFY_FAIL alone (R465). -/
theorem verifyParts_leaves {s : State} {feeds : List FeedRead} (hs : TablesOk s) : OutcomeShown s (verifyParts s feeds) := by
  unfold verifyParts
  refine (List.foldlRecOn (motive := fun u => TablesOk u ∧ OutcomeShown s u) _ _ ⟨hs, fun _ _ => rfl, rfl, rfl⟩ fun u hu e _ => ?_).2
  obtain ⟨hu, hshown⟩ := hu
  dsimp only
  split
  · exact ⟨setF_agree.tabOk hu, hshown.trans (outcomeShown_setF hu (.inl rfl))⟩
  · have hu' (m : MgmtSt) : TablesOk { u with mgmt := m } :=
      ⟨hu.regs, hu.resets, hu.queues, hu.fronds, hu.slots, hu.parts, hu.ports⟩
    exact ⟨setF_agree.tabOk (hu' _), hshown.trans (outcomeShown_setF (hu' _) (.inr rfl))⟩

/-- Fabric-ready is shown, partial or not, and a partial one has its cause (R464, R465). -/
theorem fabricReady_shown {s : State} {part : Bool} {feeds : List FeedRead} (hs : TablesOk s) :
    getF (fabricReady s part feeds) ANC_BOOT_STATUS_FABRIC_READY = 1 ∧
      getF (fabricReady s part feeds) ANC_BOOT_STATUS_PARTIAL = b2n part ∧ (part = true → Caused (fabricReady s part feeds) 10 5) := by
  unfold fabricReady
  extract_lets s1
  have hset {u : State} (f : Fld) (v : Nat) : Agree 32 u (setF u f 0 v) := setF_agree
  have h1 := (hset ANC_BOOT_STATUS_FABRIC_READY 1).tabOk hs
  have h2 := (hset ANC_BOOT_STATUS_PARTIAL (b2n part)).tabOk h1
  have hs1 : TablesOk s1 := (hset ANC_BOOT_TIME_FABRIC_TICKS _).tabOk h2
  have hready : getF s1 ANC_BOOT_STATUS_FABRIC_READY = 1 :=
    (getF_setF_ne (f := ANC_BOOT_TIME_FABRIC_TICKS) (g := ANC_BOOT_STATUS_FABRIC_READY) h2 (by decide)).trans
      ((getF_setF_beside (f := ANC_BOOT_STATUS_PARTIAL) (g := ANC_BOOT_STATUS_FABRIC_READY) h1 (by decide) rfl (by decide)).trans
        (getF_setF_same hs (by decide)))
  have hpartial : getF s1 ANC_BOOT_STATUS_PARTIAL = b2n part := by
    refine (getF_setF_ne (f := ANC_BOOT_TIME_FABRIC_TICKS) (g := ANC_BOOT_STATUS_PARTIAL) h2 (by decide)).trans ((getF_setF_same h1 (by decide)).trans ?_)
    cases part <;> rfl
  clear_value s1
  rcases part with _ | _
  · obtain ⟨-, hr, hp⟩ := verifyParts_leaves (feeds := feeds) hs1
    exact ⟨hr.trans hready, hp.trans hpartial, fun h => nomatch h⟩
  · have hev : AfterEvents Quiet s1 (raiseCause s1 10 5) :=
      (AfterEvents.refl hs1).raiseCause (fun _ h => h) (by decide) (by decide)
    obtain ⟨hregs, hr, hp⟩ := verifyParts_leaves (feeds := feeds) hev.tabOk
    refine ⟨hr.trans ((hev.getF ⟨by decide, by decide⟩).trans hready), hp.trans ((hev.getF ⟨by decide, by decide⟩).trans hpartial),
      fun _ => ?_⟩
    show bitOf (getReg (verifyParts (raiseCause s1 10 5) feeds) (causeOff 10)).toNat 5 = true
    rw [hregs _ (by decide)]
    exact raiseCause_caused hs1 (by decide)

theorem fabric_fabricReady_whole (s : State) (feeds : List FeedRead) : (fabricReady s false feeds).fabric = s.fabric := by
  have hset {u : State} (f : Fld) (v : Nat) : Agree 32 u (setF u f 0 v) := setF_agree
  unfold fabricReady
  dsimp only
  rw [if_neg Bool.false_ne_true, verifyParts_agree.area .fabric rfl, (hset _ _).area .fabric rfl, (hset _ _).area .fabric rfl,
    (hset _ _).area .fabric rfl]

theorem mem_fabricReady (s : State) (part : Bool) (feeds : List FeedRead) : (fabricReady s part feeds).mem = s.mem :=
  fabricReady_agree.area .mem rfl

theorem fabric_showBarrier (s : State) (b : BarrierSt) (active : Bool) : (showBarrier s b active).fabric = s.fabric :=
  showBarrier_agree.area .fabric rfl

/-! ### What the joins held bring about -/

section
variable {s : State} {e a : Nat} {feeds : List FeedRead} {b : BarrierSt} (hb : getBarrier s e = some b)
include hb

theorem evalBarrier_of_stranger (hjoined : b.joined = false) : evalBarrier s e feeds = s := by
  unfold evalBarrier
  split
  · next x d hx hd =>
    cases Option.some.inj (hb.symm.trans hx)
    dsimp only
    rw [hjoined]
    rfl
  · rfl

variable (ha : s.fabric.addr = some a) (hjoined : b.joined = true) (hhead : headOf b (a / 16) = a) (hwhole : colonyWhole b a)
include ha hjoined hhead hwhole

/-- At a head whose colony has joined, the barrier goes to its release or up to the root (R464). -/
theorem evalBarrier_of_whole : evalBarrier s e feeds =
    if b.members.headD 0 = a then
      if covered b ≥ b.members.length then
        releaseHere ((dedupNat ((b.members.map (fun m => headOf b (m / 16))).filter (· != a))).foldl (fun s h =>
          sendBarrier s h 0x15 (barrierPayload b b.members.length 0 (if barrierBad b then stInconsistent else stOK))) s) b a
          (if barrierBad b then stInconsistent else stOK) feeds
      else s
    else if b.sentUp then s
    else sendBarrier (putBarrier s { b with sentUp := true }) (b.members.headD 0) 0x14
      (barrierPayload b (inBarrierColony b (a / 16)).length 1 0) := by
  have hall : ((inBarrierColony b (a / 16)).filter (· != a)).all (fun m => b.joins.any (fun j => j.src == m && j.level == 0)) = true := by
    refine List.all_eq_true.2 fun m hm => ?_
    obtain ⟨hmem, hne⟩ := List.mem_filter.1 hm
    obtain ⟨j, hj, hsrc, hlevel⟩ := hwhole m hmem (by simpa using hne)
    exact List.any_eq_true.2 ⟨j, hj, by rw [hsrc, hlevel]; simp⟩
  unfold evalBarrier
  split
  · next x d hx hd =>
    cases Option.some.inj (hb.symm.trans hx)
    cases Option.some.inj (ha.symm.trans hd)
    dsimp only
    rw [hall, hjoined, hhead]
    exact if_neg (by simp)
  · next hno => exact absurd ha (hno b a hb)

end

/-- A join that this device's barrier does not await yet is held (R464). -/
theorem barrierJoin_of_stranger {s : State} {m : Msg} {feeds : List FeedRead} {b : BarrierSt}
    (hb : (getBarrier s (leAt m.payload 0 8)).getD
      ⟨leAt m.payload 0 8, false, leAt m.payload 16 2, [], 0, [], false, s.counter⟩ = b)
    (hjoined : b.joined = false) : barrierJoin feeds m s = putBarrier s (withJoin b m) := by
  have hepoch : b.epoch = leAt m.payload 0 8 := by
    rcases hfind : getBarrier s (leAt m.payload 0 8) with _ | x
    · rw [hfind] at hb
      rw [← hb]
      rfl
    · rw [hfind] at hb
      rw [← hb]
      exact epoch_of_getBarrier hfind
  unfold barrierJoin
  dsimp only
  rw [hb]
  refine (congrArg (evalBarrier · _ feeds) (if_neg (by rw [hjoined]; decide))).trans ?_
  refine evalBarrier_of_stranger (b := withJoin b m) ?_ hjoined
  rw [← hepoch]
  exact getBarrier_putBarrier s (withJoin b m)

/-- The state in which a join of a barrier that this device has joined is judged. -/
def joinShown (s : State) (b : BarrierSt) : State := showBarrier (putBarrier s b) b true

theorem barrierJoin_of_joined {s : State} {m : Msg} {feeds : List FeedRead} {b : BarrierSt}
    (hb : getBarrier s (leAt m.payload 0 8) = some b) (hjoined : b.joined = true) :
    barrierJoin feeds m s = evalBarrier (joinShown s (withJoin b m)) (leAt m.payload 0 8) feeds ∧
      getBarrier (joinShown s (withJoin b m)) (leAt m.payload 0 8) = some (withJoin b m) ∧
      (joinShown s (withJoin b m)).fabric.addr = s.fabric.addr ∧ (joinShown s (withJoin b m)).mem = s.mem ∧
      (TablesOk s → TablesOk (joinShown s (withJoin b m))) := by
  have hepoch := epoch_of_getBarrier hb
  have hfabric : (joinShown s (withJoin b m)).fabric = (putBarrier s (withJoin b m)).fabric := fabric_showBarrier ..
  refine ⟨?_, ?_, ?_, showBarrier_agree.area .mem rfl, fun hs => showBarrier_agree.tabOk ?_⟩
  · unfold barrierJoin
    dsimp only
    rw [hb, Option.getD_some]
    exact congrArg (evalBarrier · _ feeds) (if_pos hjoined)
  · rw [← hepoch]
    exact (getBarrier_of_fabric_eq (congrArg FabricSt.barriers hfabric) _).trans (getBarrier_putBarrier s (withJoin b m))
  · rw [hfabric]
    rfl
  · exact ⟨hs.regs, hs.resets, hs.queues, hs.fronds, hs.slots, hs.parts, hs.ports⟩

/-- The join for a whole colony goes up to the root (R464). -/
def sendUp (s : State) (b : BarrierSt) (d : Nat) : State :=
  sendBarrier (putBarrier s { b with sentUp := true }) (b.members.headD 0) 0x14 (barrierPayload b (inBarrierColony b (d / 16)).length 1 0)

theorem sendUp_sends (s : State) (b : BarrierSt) (d : Nat) : ∃ o, (sendUp s b d).fabric.outq.getLast? = some o ∧
    o.msg.dst = b.members.headD 0 ∧ o.msg.mtype = 0x14 ∧ o.msg.payload = barrierPayload b (inBarrierColony b (d / 16)).length 1 0 :=
  ⟨_, List.getLast?_concat, rfl, rfl, rfl⟩

theorem mem_sendUp (s : State) (b : BarrierSt) (d : Nat) : (sendUp s b d).mem = s.mem := rfl

theorem getBarrier_sendUp (s : State) (b : BarrierSt) (d : Nat) :
    getBarrier (sendUp s b d) b.epoch = some { b with sentUp := true } := by
  have h : (sendUp s b d).fabric.barriers = (putBarrier s { b with sentUp := true }).fabric.barriers := rfl
  rw [getBarrier_of_fabric_eq h]
  exact getBarrier_putBarrier s { b with sentUp := true }

/-! ### Releases -/

/-- Release messages to each of `l`. -/
def sendReleases (l : List Nat) (pl : List Byte) (s : State) : State := l.foldl (fun s m => sendBarrier s m 0x15 pl) s

theorem sendReleases_leaves (l : List Nat) (pl : List Byte) (s : State) :
    (sendReleases l pl s).mem = s.mem ∧ (TablesOk s → TablesOk (sendReleases l pl s)) := by
  have h : Agree 65536 s (sendReleases l pl s) := Agree.foldl (fun u m h => sendBarrier_agree.after rfl h) (Agree.refl _ _)
  exact ⟨h.area .mem rfl, h.tabOk⟩

theorem sendReleases_sent {m : Nat} {pl : List Byte} (l : List Nat) : ∀ s : State,
    (m ∈ l ∨ ∃ o ∈ s.fabric.outq, o.msg.dst = m ∧ o.msg.mtype = 0x15) →
      ∃ o ∈ (sendReleases l pl s).fabric.outq, o.msg.dst = m ∧ o.msg.mtype = 0x15 := by
  induction l with
  | nil => exact fun s h => h.resolve_left List.not_mem_nil
  | cons n l ih =>
    intro s h
    refine ih (sendBarrier s n 0x15 pl) ?_
    rcases h with h | ⟨o, ho, hdst, htype⟩
    · rcases List.mem_cons.1 h with rfl | h
      · exact .inr ⟨_, List.mem_append_right _ (List.mem_singleton_self _), rfl, rfl⟩
      · exact .inl h
    · exact .inr ⟨o, List.mem_append_left _ ho, hdst, htype⟩

/-- The release of the fabric-ready barrier at a head (R464). -/
theorem releaseHere_of_fabric {s : State} {b : BarrierSt} {own st : Nat} {feeds : List FeedRead} (hepoch : b.epoch = 0)
    (hhead : headOf b (own / 16) = own) : ∃ pl, releaseHere s b own st feeds =
      fabricReady (dropBarrier (showBarrier (sendReleases ((inBarrierColony b (own / 16)).filter (· != own)) pl s) b false) 0) false feeds := by
  refine ⟨barrierPayload b b.members.length 0 (if barrierBad b then stInconsistent else st), ?_⟩
  unfold releaseHere completeBarrier
  dsimp only
  rw [if_pos hhead, if_pos hepoch, hepoch]
  rfl

/-- The release at a member that is no head. -/
theorem releaseHere_of_member {s : State} {b : BarrierSt} {own st : Nat} {feeds : List FeedRead} (hhead : headOf b (own / 16) ≠ own) :
    releaseHere s b own st feeds = completeBarrier s b (if barrierBad b then stInconsistent else st) feeds := by
  unfold releaseHere
  dsimp only
  rw [if_neg hhead]

theorem queues_dropBarrier (s : State) (e : Nat) : (dropBarrier s e).queues = s.queues := rfl

theorem completeBarrier_of_commit {s : State} {b : BarrierSt} {st : Nat} {feeds : List FeedRead} {i : Issued} (hepoch : b.epoch ≠ 0)
    (hlive : liveCommit s = some i) (hwaits : i.waits = .barrier b.epoch) :
    completeBarrier s b st feeds = if st = stOK then applyCommit (dropBarrier (showBarrier s b false) b.epoch) i
      else failCommit (dropBarrier (showBarrier s b false) b.epoch) i.n stInconsistent := by
  have hlive' : liveCommit (dropBarrier (showBarrier s b false) b.epoch) = some i := by
    rw [← hlive]
    unfold liveCommit
    have h : Agree 32 s (showBarrier s b false) := showBarrier_agree
    rw [getQ_of_queues_eq ((queues_dropBarrier _ _).trans (h.area .queues rfl))]
  unfold completeBarrier
  dsimp only
  rw [if_neg hepoch, hlive']
  exact if_pos hwaits

theorem barrierRelease_of_joined {s : State} {m : Msg} {feeds : List FeedRead} {b : BarrierSt} {own : Nat}
    (hb : getBarrier s (leAt m.payload 0 8) = some b) (ha : s.fabric.addr = some own) (hjoined : b.joined = true) :
    barrierRelease feeds m s = releaseHere s b own (leAt m.payload 21 1) feeds := by
  unfold barrierRelease
  rw [hb, ha]
  exact if_pos hjoined

/-- A barrier that is shown as ended and dropped leaves everything but its record and the registers. -/
theorem barrierDropped_agree (s : State) (b : BarrierSt) (e : Nat) : Agree 65568 s (dropBarrier (showBarrier s b false) e) :=
  dropBarrier_agree.after rfl (showBarrier_agree.mono rfl)

theorem outq_dropBarrier (s : State) (e : Nat) : (dropBarrier s e).fabric.outq = s.fabric.outq := rfl

theorem getBarrier_advance (s : State) (now e : Nat) : getBarrier (advance s now) e = getBarrier s e := rfl

theorem cfgOf_advance (s : State) (now : Nat) : cfgOf (advance s now) = cfgOf s := rfl

/-- Settles O50: a join is held, goes up, or completes the barrier at the root; a release completes it at a member; give-ups end it. -/
theorem barriers : Obligations.Barriers := by
  refine ⟨fun a feeds s hdel => ?_, fun a feeds s b hdel => ?_, fun a feeds s b hs hdel => ?_, fun a feeds s b hdel => ?_,
    fun a feeds s b m hdel hepoch hb hjoined hhead hm hne => ?_, fun part feeds s hs => fabricReady_shown hs,
    fun now feeds s b hb hjoined htime => ?_, fun now e s i b hlive hwaits hb htime => ?_⟩
  · intro e b hjoined
    have hexec : exec (.barrierJoin a feeds) s = .next (barrierJoin feeds a.msg (atLichen s a)) :=
      congrArg Host.Outcome.next (recv_control hdel (by decide) (by decide))
    rw [hexec, barrierJoin_of_stranger (b := b) ?_ hjoined]
    rw [getBarrier_of_fabric_eq (barriers_atLichen s a).1, counter_atLichen]
  · intro d b1 hb hjoined hhead hroot hwhole hup
    obtain ⟨hbarriers, haddr⟩ := barriers_atLichen s a
    obtain ⟨hbody, hget, haddr', hmem, -⟩ := barrierJoin_of_joined (feeds := feeds) (s := atLichen s a)
      ((getBarrier_of_fabric_eq hbarriers _).trans hb) hjoined
    have hexec : exec (.barrierJoin a feeds) s = .next (barrierJoin feeds a.msg (atLichen s a)) :=
      congrArg Host.Outcome.next (recv_control hdel (by decide) (by decide))
    have hown : (joinShown (atLichen s a) b1).fabric.addr = some d := haddr'.trans (haddr.trans hdel.2.2.2.1)
    rw [hexec, hbody, evalBarrier_of_whole hget hown hjoined hhead hwhole, if_neg (show ¬(withJoin b a.msg).members.headD 0 = d from hroot),
      if_neg (show ¬(withJoin b a.msg).sentUp = true from fun h => Bool.false_ne_true (hup.symm.trans h))]
    replace hmem := hmem.trans (mem_atLichen s a)
    generalize joinShown (atLichen s a) (withJoin b a.msg) = u at hmem ⊢
    obtain ⟨o, ho, hdst, htype, hpayload⟩ := sendUp_sends u b1 d
    exact ⟨sendUp u b1 d, o, rfl, (mem_sendUp ..).trans hmem, getBarrier_sendUp u b1 d, ho, hdst, htype, hpayload⟩
  · intro d b1 hepoch hb hjoined hhead hroot hwhole hcovered
    obtain ⟨hbarriers, haddr⟩ := barriers_atLichen s a
    obtain ⟨hbody, hget, haddr', hmem, htab⟩ := barrierJoin_of_joined (feeds := feeds) (s := atLichen s a)
      ((getBarrier_of_fabric_eq hbarriers _).trans (by rw [hepoch]; exact hb)) hjoined
    have hexec : exec (.barrierJoin a feeds) s = .next (barrierJoin feeds a.msg (atLichen s a)) :=
      congrArg Host.Outcome.next (recv_control hdel (by decide) (by decide))
    have hown : (joinShown (atLichen s a) b1).fabric.addr = some d := haddr'.trans (haddr.trans hdel.2.2.2.1)
    have htab' := htab (tabOk_atLichen hs)
    have hmem' := hmem.trans (mem_atLichen s a)
    rw [hexec, hbody, evalBarrier_of_whole hget hown hjoined hhead hwhole, if_pos (show (withJoin b a.msg).members.headD 0 = d from hroot),
      if_pos (show covered (withJoin b a.msg) ≥ (withJoin b a.msg).members.length from hcovered)]
    generalize joinShown (atLichen s a) b1 = u at *
    generalize dedupNat ((b1.members.map (fun m => headOf b1 (m / 16))).filter (· != d)) = l
    obtain ⟨pl, hrelease⟩ := releaseHere_of_fabric (b := b1) (own := d) (feeds := feeds) (st := if barrierBad b1 then stInconsistent else stOK)
      (s := sendReleases l (barrierPayload b1 b1.members.length 0 (if barrierBad b1 then stInconsistent else stOK)) u)
      (show b.epoch = 0 from epoch_of_getBarrier hb) hhead
    obtain ⟨hmem1, htab1⟩ := sendReleases_leaves l (barrierPayload b1 b1.members.length 0 (if barrierBad b1 then stInconsistent else stOK)) u
    obtain ⟨hmem2, htab2⟩ := sendReleases_leaves ((inBarrierColony b1 (d / 16)).filter (· != d)) pl
      (sendReleases l (barrierPayload b1 b1.members.length 0 (if barrierBad b1 then stInconsistent else stOK)) u)
    have htab3 := htab2 (htab1 htab')
    have hmem3 := hmem2.trans (hmem1.trans hmem')
    refine ⟨_, congrArg Host.Outcome.next hrelease, ?_⟩
    generalize sendReleases ((inBarrierColony b1 (d / 16)).filter (· != d)) pl _ = v at htab3 hmem3 ⊢
    obtain ⟨hready, hpartial, -⟩ := fabricReady_shown (part := false) (feeds := feeds) ((barrierDropped_agree v b1 0).tabOk htab3)
    refine ⟨?_, ?_, hready, hpartial⟩
    · rw [mem_fabricReady, (barrierDropped_agree v b1 0).area .mem rfl, hmem3]
    · rw [getBarrier_of_fabric_eq (congrArg FabricSt.barriers (fabric_fabricReady_whole _ _))]
      exact getBarrier_dropBarrier _ 0
  · intro e u st hb hjoined hhead
    obtain ⟨hbarriers, haddr⟩ := barriers_atLichen s a
    have hexec : exec (.barrierRelease a feeds) s = .next (completeBarrier (atLichen s a) b st feeds) := by
      refine congrArg Host.Outcome.next ((recv_control hdel (by decide) (by decide)).trans ?_)
      rw [barrierRelease_of_joined ((getBarrier_of_fabric_eq hbarriers _).trans hb) (haddr.trans hdel.2.2.2.1) hjoined,
        releaseHere_of_member hhead]
    have hepoch : b.epoch = e := epoch_of_getBarrier hb
    refine ⟨fun he => ?_, fun i he hlive hwaits => ?_⟩
    · rw [hexec]
      unfold completeBarrier
      dsimp only
      rw [if_pos (hepoch.trans he), hepoch]
    · have hlive' : liveCommit (atLichen s a) = some i := by
        rw [← hlive]
        unfold liveCommit
        have hq : (received s a).queues = s.queues := received_agree.area .queues rfl
        have hw : (atLichen s a).queues = (received s a).queues := wakeLichen_agree.area .queues rfl
        rw [getQ_of_queues_eq (hw.trans hq)]
      rw [hexec, completeBarrier_of_commit (by rw [hepoch]; exact he) hlive' (by rw [hepoch]; exact hwaits), hepoch]
  · obtain ⟨hbarriers, haddr⟩ := barriers_atLichen s a
    obtain ⟨pl, hrelease⟩ := releaseHere_of_fabric (s := atLichen s a) (b := b) (own := a.msg.dst) (feeds := feeds)
      (st := leAt a.msg.payload 21 1) (epoch_of_getBarrier hb) hhead
    have hexec : exec (.barrierRelease a feeds) s = .next (fabricReady (dropBarrier (showBarrier (sendReleases
        ((inBarrierColony b (a.msg.dst / 16)).filter (· != a.msg.dst)) pl (atLichen s a)) b false) 0) false feeds) := by
      refine congrArg Host.Outcome.next ((recv_control hdel (by decide) (by decide)).trans ?_)
      rw [barrierRelease_of_joined ((getBarrier_of_fabric_eq hbarriers _).trans (by rw [hepoch]; exact hb)) (haddr.trans hdel.2.2.2.1) hjoined,
        hrelease]
    refine ⟨_, hexec, ?_, ?_⟩
    · rw [mem_fabricReady, (barrierDropped_agree _ b 0).area .mem rfl, (sendReleases_leaves _ _ _).1, mem_atLichen]
    · rw [fabric_fabricReady_whole, outq_dropBarrier, fabric_showBarrier]
      exact sendReleases_sent _ _ (.inl (List.mem_filter.2 ⟨hm, by simpa using hne⟩))
  · refine congrArg Host.Outcome.next ?_
    unfold bootGiveup
    dsimp only
    rw [getBarrier_advance, hb]
    exact if_pos (by rw [hjoined, cfgOf_advance, htime]; rfl)
  · refine congrArg Host.Outcome.next ?_
    unfold commitGiveup
    dsimp only
    rw [show liveCommit (advance s now) = some i from hlive]
    dsimp only
    rw [hwaits]
    dsimp only
    rw [getBarrier_advance, hb]
    exact if_pos (by rw [cfgOf_advance, htime])

end Sys2Proof.Proofs
end

section
/-! SUPPORT. Power, resets and entries into BOOT, STANDBY and OFF (R319, R519, R544, R552 to R554). -/

namespace Sys2Proof.Proofs

open Sys2Proof Sys2Proof.Machine Sys2Proof.Safety Sys2Proof.Frame Sys2Proof.Claims Sys2Proof.Laws

/-! ### Registers -/

/-- A register that a reset hits stands at its reset value (R10). -/
theorem getReg_resetRegs_hit {s : State} {hit : RegDef → Nat → Bool} {off i j : Nat} {r : RegDef} (hreg : regAt off = some (r, i, j))
    (hhit : hit r i = true) : getReg (resetRegs s hit) off = BitVec.ofNat 64 (regReset off) := by
  have hnone : tblFind (resetRegs s hit).regs off = none := by
    refine tblFind_eq_none_of_notMem fun e he hkey => ?_
    have hkept := (List.mem_filter.1 he).2
    rw [hkey, hreg] at hkept
    simp [hhit] at hkept
  unfold getReg
  rw [hnone]
  rfl

theorem getF_showPgood {s : State} (hs : TablesOk s) : getF (showPgood s) PWR_STATUS_PGOOD = b2n s.pins.in48 := by
  refine (getF_setF_same hs (by decide)).trans ?_
  cases s.pins.in48 <;> rfl

/-! ### The log queue -/

/-- Records have been added to the log queue, and none has left it. -/
def QueueGrown (s t : State) : Prop := ∃ l, t.mgmt.queue = s.mgmt.queue ++ l

theorem QueueGrown.of_eq {s t : State} (h : t.mgmt.queue = s.mgmt.queue) : QueueGrown s t := ⟨[], by rw [h, List.append_nil]⟩

theorem QueueGrown.trans {s t u : State} (h : QueueGrown s t) (h' : QueueGrown t u) : QueueGrown s u := by
  obtain ⟨l, hl⟩ := h
  obtain ⟨l', hl'⟩ := h'
  exact ⟨l ++ l', by rw [hl', hl, List.append_assoc]⟩

theorem QueueGrown.foldl {β : Type} {g : State → β → State} (hg : ∀ u b, QueueGrown u (g u b)) (l : List β) (s : State) :
    QueueGrown s (l.foldl g s) := by
  induction l generalizing s with
  | nil => exact .of_eq rfl
  | cons b l ih => exact (hg s b).trans (ih _)

theorem mgmt_bump (s : State) (f : Fld) (i k : Nat) : (bump s f i k).mgmt = s.mgmt := bump_agree.area .mgmt rfl

theorem mgmt_raiseCause (s : State) (b k : Nat) : (raiseCause s b k).mgmt = s.mgmt := raiseCause_agree.area .mgmt rfl

theorem mgmt_setLogRegs (s : State) : (setLogRegs s).mgmt = s.mgmt := setLogRegs_agree.area .mgmt rfl

theorem queue_wakeLichen (s : State) : (wakeLichen s).mgmt.queue = s.mgmt.queue := by
  unfold wakeLichen
  split
  · rw [mgmt_bump]
  · rfl

theorem queueGrown_logEnter (s : State) (r : LogRec) : QueueGrown s (logEnter s r) := by
  unfold logEnter
  extract_lets u
  have hu : u.mgmt.queue = s.mgmt.queue := by
    unfold u
    split
    · exact queue_wakeLichen s
    · rfl
  clear_value u
  refine (QueueGrown.of_eq hu).trans ?_
  split
  · refine .of_eq ?_
    rw [mgmt_raiseCause, mgmt_bump]
  · refine ⟨[{ r with lost := u.mgmt.lostNext }], ?_⟩
    rw [mgmt_setLogRegs]

/-- The records of the repairs of a SERVICE, and the zeroing of their stacks (R306). -/
def repairRecords (s : State) : State :=
  s.mgmt.repairs.foldl (fun s r => logEvent s 0x0204 3 1 r.1 none (sliceB r.2 0 5)) s
def repairZeroed (l : List Nat) (s : State) : State := l.foldl zeroStack s

theorem queueGrown_repairRecords (s : State) : QueueGrown s (repairRecords s) :=
  QueueGrown.foldl (fun _ _ => queueGrown_logEnter _ _) _ _

theorem queue_zeroStack (s : State) (t : Nat) : (zeroStack s t).mgmt.queue = s.mgmt.queue := rfl

theorem queueGrown_repairZeroed (l : List Nat) (s : State) : QueueGrown s (repairZeroed l s) :=
  QueueGrown.foldl (fun u t => .of_eq (queue_zeroStack u t)) _ _

theorem queue_logRepairs_eq (s : State) :
    (logRepairs s).mgmt.queue = (repairZeroed (dedupNat (s.mgmt.repairs.map (·.1))) (repairRecords s)).mgmt.queue := rfl

/-- The repairs of a SERVICE are logged behind the records before (R306). -/
theorem queue_logRepairs (s : State) :
    ∃ l, (logRepairs s).mgmt.queue = s.mgmt.queue ++ l ∧ (s.mgmt.repairs = [] → l = []) := by
  rw [queue_logRepairs_eq]
  by_cases hnone : s.mgmt.repairs = []
  · refine ⟨[], ?_, fun _ => rfl⟩
    unfold repairRecords
    rw [hnone, List.append_nil]
    rfl
  · obtain ⟨l, hl⟩ := (queueGrown_repairRecords s).trans (queueGrown_repairZeroed (dedupNat (s.mgmt.repairs.map (·.1))) _)
    exact ⟨l, hl, fun h => absurd h hnone⟩

/-! ### Entries into STANDBY and BOOT -/

/-- What an entry into STANDBY leaves (R319, R478). -/
theorem stoodBy_enterStandby (s : State) : StoodBy s (enterStandby s) := by
  refine ⟨rfl, rfl, rfl, rfl, rfl, rfl, ?_⟩
  exact queue_logRepairs s

theorem stoodBy_of_mgmt_eq {s s' t : State} (h : s'.mgmt = s.mgmt) (hstood : StoodBy s' t) : StoodBy s t := by
  unfold StoodBy at *
  rw [← h]
  exact hstood

/-- The AUX registers outlive an entry into STANDBY; the device's pins do too. -/
theorem pins_enterStandby (s : State) : (enterStandby s).pins = s.pins := enterStandby_agree.area .pins rfl

/-- The state that an entry into BOOT makes, before its registers show it. -/
def bootState (s : State) : State :=
  { s with
    dev := .boot
    stipe := s.flash.hostMode.getD s.pins.hostSel
    cfg := { CfgSt.reset with floor := s.cfg.floor }
    flash := { s.flash with boots := s.flash.boots + 1 }
    mgmt := { MgmtSt.reset with queue := s.mgmt.queue, lostNext := s.mgmt.lostNext, ledgerAt := s.counter }
    dbgPort := { DebugSt.reset with writes := s.dbgPort.writes }
    power := { PowerSt.reset with dieIdleAt := [] } }

theorem enterBoot_eq (s : State) :
    enterBoot s = showPgood (noteDies (bootState (resetRegs (dropWork s) (fun r _ => r.cls != .aux)))) := rfl

theorem booted_bootState {s : State} (hparts : s.parts = []) (hqueues : s.queues = []) (hports : s.ports = []) :
    Booted s (bootState s) :=
  ⟨rfl, rfl, rfl, rfl, hparts, hqueues, hports, rfl, rfl, rfl⟩

theorem tabOk_bootState {s : State} (hs : TablesOk s) : TablesOk (bootState s) :=
  ⟨hs.regs, hs.resets, hs.queues, hs.fronds, hs.slots, hs.parts, hs.ports⟩

/-- An entry into BOOT (R319); the register of power-good shows the pin. -/
theorem enterBoot_leaves (s : State) :
    Booted s (enterBoot s) ∧ (enterBoot s).pins = s.pins ∧ (enterBoot s).counter = s.counter ∧ (enterBoot s).island = s.island ∧
      (TablesOk s → getF (enterBoot s) PWR_STATUS_PGOOD = b2n s.pins.in48) := by
  rw [enterBoot_eq]
  generalize hs1def : resetRegs (dropWork s) (fun r _ => r.cls != .aux) = s1
  have htab : TablesOk s → TablesOk s1 := fun hs => hs1def ▸ resetRegs_agree.tabOk (dropWork_agree.tabOk hs)
  have hboot : Booted s1 (bootState s1) := by
    rw [← hs1def]
    exact booted_bootState rfl rfl rfl
  have hkeeps : s1.flash = s.flash ∧ s1.mem = s.mem ∧ s1.pins = s.pins ∧ s1.counter = s.counter ∧ s1.island = s.island := by
    rw [← hs1def]
    exact ⟨rfl, rfl, rfl, rfl, rfl⟩
  clear hs1def
  obtain ⟨hflash, hmem, hpins, hcounter, hisland⟩ := hkeeps
  have hnoted : Agree 2097152 (bootState s1) (noteDies (bootState s1)) := noteDies_agree
  have hshown : Agree 2097184 (bootState s1) (showPgood (noteDies (bootState s1))) := showPgood_agree.after rfl (hnoted.mono rfl)
  refine ⟨?_, (hshown.area .pins rfl).trans hpins, (hshown.area .counter rfl).trans hcounter, (hshown.area .island rfl).trans hisland,
    fun hs => ?_⟩
  · unfold Booted at *
    rw [hshown.area .dev rfl, hshown.area .flash rfl, hshown.area .cfg rfl, hshown.area .parts rfl, hshown.area .queues rfl,
      hshown.area .ports rfl, hshown.area .dbgPort rfl, hshown.area .stipe rfl, hshown.area .pins rfl, hshown.area .mem rfl,
      ← hflash, ← hmem]
    exact hboot
  · rw [getF_showPgood (hnoted.tabOk (tabOk_bootState (htab hs))), hnoted.area .pins rfl]
    exact congrArg (fun p : Pins => b2n p.in48) hpins

/-- The later of power-good and RESET_N brings the device to BOOT (R553). -/
theorem tryBoot_leaves {s : State} (hdev : s.dev = .standby) (hisland : s.island = true) (hin48 : s.pins.in48 = true)
    (hreset : s.pins.resetN = true) :
    Booted s (tryBoot s) ∧ (tryBoot s).pins = s.pins ∧ (tryBoot s).counter = s.counter ∧ (tryBoot s).island = true ∧
      (TablesOk s → getF (tryBoot s) PWR_STATUS_PGOOD = 1) := by
  have hboot : tryBoot s = markEvent (enterBoot s) 0 := if_pos ⟨hdev, hisland, hin48, hreset⟩
  obtain ⟨hbooted, hpins, hcounter, hisland', hpgood⟩ := enterBoot_leaves s
  rw [hboot]
  refine ⟨hbooted, hpins, hcounter, hisland'.trans hisland, fun hs => (hpgood hs).trans ?_⟩
  rw [hin48]
  rfl

theorem tryBoot_of_not {s : State} (h : s.dev ≠ .standby ∨ s.island = false ∨ s.pins.in48 = false ∨ s.pins.resetN = false) :
    tryBoot s = s := by
  refine if_neg fun ⟨hdev, hisland, hin48, hreset⟩ => ?_
  rw [hisland, hin48, hreset] at h
  simp [hdev] at h

theorem booted_of_eq {s s' t : State} (hflash : s'.flash = s.flash) (hmem : s'.mem = s.mem) (h : Booted s' t) : Booted s t := by
  unfold Booted at *
  rw [← hflash, ← hmem]
  exact h

theorem loseWork_of_on {s : State} (h : s.dev = .boot ∨ s.dev = .ready ∨ s.dev = .service) : loseWork s = enterStandby s :=
  if_pos (decide_eq_true h)

/-- The pins of a state, set. -/
def withPins (s : State) (p : Pins) : State := { s with pins := p }

theorem tabOk_withPins {s : State} {p : Pins} (hs : TablesOk s) : TablesOk (withPins s p) :=
  ⟨hs.regs, hs.resets, hs.queues, hs.fronds, hs.slots, hs.parts, hs.ports⟩

/-- POWER_GOOD where power was not good (R519, R553, R555). -/
theorem powerGood_leaves {s : State} (hs : TablesOk s) (p : Pins) (hin48 : p.in48 = true) :
    (tryBoot (showPgood (withPins s p))).pins = p ∧ getF (tryBoot (showPgood (withPins s p))) PWR_STATUS_PGOOD = 1 ∧
      (s.dev = .standby → s.island = true → p.resetN = true → Booted s (tryBoot (showPgood (withPins s p)))) ∧
      (s.dev ≠ .standby ∨ s.island = false ∨ p.resetN = false →
        (tryBoot (showPgood (withPins s p))).dev = s.dev ∧ (tryBoot (showPgood (withPins s p))).mem = s.mem) := by
  have hshow : Agree 32 (withPins s p) (showPgood (withPins s p)) := showPgood_agree
  have hpgood : getF (showPgood (withPins s p)) PWR_STATUS_PGOOD = 1 := by
    rw [getF_showPgood (tabOk_withPins hs), show (withPins s p).pins.in48 = true from hin48]
    rfl
  have htab : TablesOk (showPgood (withPins s p)) := hshow.tabOk (tabOk_withPins hs)
  have hpins : (showPgood (withPins s p)).pins = p := hshow.area .pins rfl
  have hdev : (showPgood (withPins s p)).dev = s.dev := hshow.area .dev rfl
  have hisland : (showPgood (withPins s p)).island = s.island := hshow.area .island rfl
  have hflash : (showPgood (withPins s p)).flash = s.flash := hshow.area .flash rfl
  have hmem : (showPgood (withPins s p)).mem = s.mem := hshow.area .mem rfl
  generalize showPgood (withPins s p) = u at *
  by_cases hboot : s.dev = .standby ∧ s.island = true ∧ p.resetN = true
  · obtain ⟨hd, hi, hr⟩ := hboot
    obtain ⟨hbooted, hp, -, -, hg⟩ := tryBoot_leaves (hdev.trans hd) (hisland.trans hi) (by rw [hpins]; exact hin48) (by rw [hpins]; exact hr)
    refine ⟨hp.trans hpins, hg htab, fun _ _ _ => booted_of_eq hflash hmem hbooted, fun hno => ?_⟩
    rw [hd, hi, hr] at hno
    simp at hno
  · have hno : u.dev ≠ .standby ∨ u.island = false ∨ u.pins.in48 = false ∨ u.pins.resetN = false := by
      rw [hdev, hisland, hpins]
      refine Classical.byContradiction fun hall => ?_
      simp only [not_or, Decidable.not_not, Bool.not_eq_false] at hall
      exact hboot ⟨hall.1, hall.2.1, hall.2.2.2⟩
    rw [tryBoot_of_not hno]
    exact ⟨hpins, hpgood, fun hd hi hr => absurd ⟨hd, hi, hr⟩ hboot, fun _ => ⟨hdev, hmem⟩⟩

/-- Power-good is lost in BOOT, READY or SERVICE (R519). -/
theorem powerLoss_leaves {s : State} (hs : TablesOk s) (hdev : s.dev = .boot ∨ s.dev = .ready ∨ s.dev = .service) :
    StoodBy s (powerLoss s) ∧ (powerLoss s).pins.in48 = false ∧ getF (powerLoss s) PWR_STATUS_PGOOD = 0 := by
  have hlost : powerLoss s = showPgood (enterStandby (withPins s { s.pins with in48 := false })) :=
    congrArg showPgood (loseWork_of_on (s := withPins s { s.pins with in48 := false }) hdev)
  have hstood := stoodBy_of_mgmt_eq (s := s) rfl (stoodBy_enterStandby (withPins s { s.pins with in48 := false }))
  have hpins := congrArg Pins.in48 (pins_enterStandby (withPins s { s.pins with in48 := false }))
  have htab : TablesOk (enterStandby (withPins s { s.pins with in48 := false })) := enterStandby_agree.tabOk (tabOk_withPins hs)
  rw [hlost]
  generalize enterStandby (withPins s { s.pins with in48 := false }) = u at *
  have hshow : Agree 32 u (showPgood u) := showPgood_agree
  have hin48 : u.pins.in48 = false := hpins
  refine ⟨?_, (congrArg Pins.in48 (hshow.area .pins rfl)).trans hin48, (getF_showPgood htab).trans ?_⟩
  · unfold StoodBy at *
    rw [hshow.area .dev rfl, hshow.area .mem rfl, hshow.area .fronds rfl, hshow.area .parts rfl, hshow.area .queues rfl,
      hshow.area .ports rfl, hshow.area .mgmt rfl]
    exact hstood
  · rw [hin48]
    rfl

/-- Settles O51: the rails, pins and resets bring the device to STANDBY, BOOT and OFF as R319 and R552 to R554 say. -/
theorem powerAndReset : Obligations.PowerAndReset := by
  refine ⟨fun s hoff => ?_, fun s => ?_, fun s hdev hisland => ?_, fun sel s hs hin48 => ?_, fun s hs hdev => ⟨?_, ?_⟩,
    fun s hdev hisland hin48 => ?_, fun s hno => ?_, fun s hstipe => ?_, fun high s hno => ?_⟩
  · refine ⟨_, congrArg Host.Outcome.next (if_pos hoff), rfl, rfl, rfl, rfl, rfl, fun off r i j hreg hcls => ?_⟩
    exact getReg_resetRegs_hit hreg (by rw [hcls]; rfl)
  · exact ⟨aux33Loss s, rfl, rfl, rfl, rfl, rfl, rfl, rfl, rfl, rfl⟩
  · have hexec : exec .islandResetRelease s = .next (tryBoot { s with island := true, counter := 0 }) :=
      congrArg Host.Outcome.next (if_pos ⟨hdev, hisland⟩)
    by_cases hboot : s.pins.in48 = true ∧ s.pins.resetN = true
    · obtain ⟨hbooted, -, hcounter, hisland', -⟩ := tryBoot_leaves (s := { s with island := true, counter := 0 }) hdev rfl hboot.1 hboot.2
      refine ⟨_, hexec, hisland', hcounter, fun _ _ => hbooted, fun hno => ?_⟩
      rw [hboot.1, hboot.2] at hno
      simp at hno
    · have hno : s.pins.in48 = false ∨ s.pins.resetN = false := by
        simpa only [Bool.not_eq_true] using Classical.not_and_iff_not_or_not.1 hboot
      rw [tryBoot_of_not (s := { s with island := true, counter := 0 }) (.inr (.inr hno))] at hexec
      exact ⟨_, hexec, rfl, rfl, fun h h' => absurd ⟨h, h'⟩ hboot, fun _ => hdev⟩
  · have hexec : exec (.powerGood sel) s = .next (tryBoot (showPgood (withPins s { s.pins with in48 := true, hostSel := sel }))) :=
      congrArg Host.Outcome.next (if_neg (by rw [hin48]; decide))
    obtain ⟨hpins, hpgood, hbooted, hkept⟩ := powerGood_leaves hs { s.pins with in48 := true, hostSel := sel } rfl
    exact ⟨_, hexec, congrArg Pins.hostSel hpins, congrArg Pins.in48 hpins, hpgood, hbooted, hkept⟩
  · obtain ⟨hstood, hpins, hpgood⟩ := powerLoss_leaves hs hdev
    exact ⟨_, rfl, hpins, hpgood, hstood⟩
  · refine ⟨_, congrArg Host.Outcome.next (loseWork_of_on (s := withPins s { s.pins with resetN := false }) hdev), ?_, ?_, ?_⟩
    · exact congrArg Pins.resetN (pins_enterStandby (withPins s { s.pins with resetN := false }))
    · exact (congrArg Pins.in48 (pins_enterStandby (withPins s { s.pins with resetN := false }))).trans rfl
    · exact stoodBy_of_mgmt_eq (s' := withPins s { s.pins with resetN := false }) rfl (stoodBy_enterStandby _)
  · obtain ⟨hbooted, hpins, -⟩ := tryBoot_leaves (s := withPins s { s.pins with resetN := true }) hdev hisland hin48 rfl
    exact ⟨_, rfl, congrArg Pins.resetN hpins, booted_of_eq rfl rfl hbooted⟩
  · refine congrArg Host.Outcome.next (tryBoot_of_not (s := withPins s { s.pins with resetN := true }) ?_)
    rcases hno with h | h | h
    · exact .inl (show s.dev ≠ .standby by rw [h]; decide)
    · exact .inl (show s.dev ≠ .standby by rw [h]; decide)
    · exact .inr (.inr (.inl h))
  · refine ⟨_, congrArg Host.Outcome.next (if_pos (by rw [hstipe]; rfl)), rfl, rfl, rfl, rfl, rfl, rfl, rfl, rfl⟩
  · refine congrArg Host.Outcome.next (if_neg ?_)
    rcases hno with rfl | h
    · exact Bool.false_ne_true
    · rw [h, Bool.and_false]
      decide

end Sys2Proof.Proofs
end

section
/-! SUPPORT. The stages of start-up (R289, R434, R449 to R452, R482, R500). -/

namespace Sys2Proof.Proofs

open Sys2Proof Sys2Proof.Machine Sys2Proof.Safety Sys2Proof.Frame Sys2Proof.Claims Sys2Proof.Laws

/-! ### Zeroing -/

/-- A range that has been zeroed reads zero, and what lies outside reads as before (R289). -/
theorem readByte_zeroRange {s : State} (h : MemOk s) (k n j : Nat) :
    readByte (zeroRange s k n) j = if k ≤ j ∧ j < k + n then 0 else readByte s j := by
  have hfind : tblFind (zeroRange s k n).mem j = (tblFind s.mem j).filter (fun _ => decide (j < k) || decide (j ≥ k + n)) :=
    tblFind_filter h.1.1 j
  unfold readByte tblGet
  rw [hfind]
  split
  · next hin =>
    have hno : (decide (j < k) || decide (j ≥ k + n)) = false := by
      rw [decide_eq_false (by omega), decide_eq_false (by omega)]
      rfl
    rw [hno]
    cases tblFind s.mem j <;> rfl
  · next hout =>
    have hyes : (decide (j < k) || decide (j ≥ k + n)) = true := by
      simp only [Bool.or_eq_true, decide_eq_true_eq]
      omega
    rw [hyes]
    cases tblFind s.mem j <;> rfl

/-- The zeroed range of `n` units of `size` bytes. -/
theorem zeroRange_unit {s t : State} {k size : Nat} (h : MemOk s) (hmem : t.mem = (zeroRange s (k * size) size).mem) :
    (∀ i, i < size → readByte t (k * size + i) = 0) ∧ ∀ a, (a < k * size ∨ (k + 1) * size ≤ a) → readByte t a = readByte s a := by
  have hend : (k + 1) * size = k * size + size := by rw [Nat.add_mul, Nat.one_mul]
  refine ⟨fun i hi => ?_, fun a ha => ?_⟩
  · rw [readByte_of_mem_eq hmem, readByte_zeroRange h]
    exact if_pos (by omega)
  · rw [readByte_of_mem_eq hmem, readByte_zeroRange h]
    exact if_neg (by omega)

/-! ### The root secret -/

/-- The tables are canonical, and field `f` is as it was. -/
def FieldKept (f : Fld) (s t : State) : Prop := TablesOk t ∧ getF t f = getF s f

theorem FieldKept.setF {f g : Fld} {s t : State} {i v : Nat} (h : FieldKept f s t)
    (hg : f.at 0 ≠ g.at i ∨ (f.at 0 = g.at i ∧ g.lo + g.width ≤ 64 ∧ (f.lo + f.width ≤ g.lo ∨ g.lo + g.width ≤ f.lo))) :
    FieldKept f s (setF t g i v) := by
  obtain ⟨htab, hfield⟩ := h
  refine ⟨setF_agree.tabOk htab, Eq.trans ?_ hfield⟩
  rcases hg with hne | ⟨hat, hlo, hbeside⟩
  · exact getF_setF_ne htab hne
  · exact getF_setF_beside htab hlo hat hbeside

theorem fieldKept_showSecurity {s : State} (hs : TablesOk s) : FieldKept SEC_STATUS_PUF_FAIL s (showSecurity s) := by
  have h : FieldKept SEC_STATUS_PUF_FAIL s s := ⟨hs, rfl⟩
  unfold showSecurity
  dsimp only
  refine .setF (.setF (.setF (.setF (.setF (.setF (.setF (.setF h ?_) ?_) ?_) ?_) ?_) ?_) ?_) ?_
  all_goals decide

theorem getF_showSecurity_pufFail {s : State} (hs : TablesOk s) : getF (showSecurity s) SEC_STATUS_PUF_FAIL = getF s SEC_STATUS_PUF_FAIL :=
  (fieldKept_showSecurity hs).2

/-- The reconstruction of the root secret ends (R500). -/
theorem pufReconstruct_leaves {s : State} (hs : TablesOk s) (hdev : s.dev = .boot) :
    getF (pufReconstruct true s) SEC_STATUS_PUF_FAIL = 0 ∧ (pufReconstruct true s).mem = s.mem ∧ (pufReconstruct true s).flash = s.flash ∧
      getF (pufReconstruct false s) SEC_STATUS_PUF_FAIL = 1 ∧ Caused (pufReconstruct false s) 16 3 ∧ (pufReconstruct false s).mem = s.mem := by
  have hset (v : Nat) : Agree 32 s (setF s SEC_STATUS_PUF_FAIL 0 v) := setF_agree
  have hshown (v : Nat) : Agree 32 s (showSecurity (setF s SEC_STATUS_PUF_FAIL 0 v)) := showSecurity_agree.after rfl ((hset v).mono rfl)
  have hfail (v : Nat) : getF (showSecurity (setF s SEC_STATUS_PUF_FAIL 0 v)) SEC_STATUS_PUF_FAIL = v % 2 :=
    (getF_showSecurity_pufFail ((hset v).tabOk hs)).trans (getF_setF_same hs (by decide))
  have hgood : pufReconstruct true s = showSecurity (setF s SEC_STATUS_PUF_FAIL 0 0) := (if_neg (Classical.not_not.2 hdev)).trans (if_pos rfl)
  have hbad : pufReconstruct false s =
      raiseCause (logEvent (showSecurity (setF s SEC_STATUS_PUF_FAIL 0 1)) 0x0704 7 3 0 none (leBytes 1 8)) 16 3 :=
    (if_neg (Classical.not_not.2 hdev)).trans (if_neg Bool.false_ne_true)
  have hlogged : AfterEvents Quiet (showSecurity (setF s SEC_STATUS_PUF_FAIL 0 1))
      (logEvent (showSecurity (setF s SEC_STATUS_PUF_FAIL 0 1)) 0x0704 7 3 0 none (leBytes 1 8)) :=
    (AfterEvents.refl ((hshown 1).tabOk hs)).logEvent fun _ h => h
  have hall := hlogged.raiseCause (fun _ h => h) (show 16 < 64 by decide) (show 3 < 64 by decide)
  rw [hgood, hbad]
  refine ⟨hfail 0, (hshown 0).area .mem rfl, (hshown 0).area .flash rfl, (hall.getF ⟨by decide, by decide⟩).trans (hfail 1),
    raiseCause_caused hlogged.tabOk (by decide), ?_⟩
  exact (raiseCause_agree.area .mem rfl).trans ((logEvent_agree.area .mem rfl).trans ((hshown 1).area .mem rfl))

/-! ### The lichen core while firmware boots -/

theorem lichen_wakeLichen {s : State} (h : s.mgmt.lichen ≠ .asleep ∨ getF s ANC_BOOT_STATUS_FW_OK ≠ 1) :
    (wakeLichen s).mgmt.lichen = s.mgmt.lichen := by
  unfold wakeLichen
  rw [if_neg fun ⟨hasleep, hfw⟩ => h.elim (fun h => h hasleep) fun h => h hfw]

/-- A record of the log wakes no core that is awake or on which no firmware runs (R468). -/
theorem lichen_logEvent {s : State} {a b c d : Nat} {p : Option Nat} {l : List Byte}
    (h : s.mgmt.lichen ≠ .asleep ∨ getF s ANC_BOOT_STATUS_FW_OK ≠ 1) : (logEvent s a b c d p l).mgmt.lichen = s.mgmt.lichen := by
  unfold logEvent logEnter
  extract_lets u
  have hu : u.mgmt.lichen = s.mgmt.lichen := by
    unfold u
    split
    · exact lichen_wakeLichen h
    · rfl
  clear_value u
  split
  · rw [mgmt_raiseCause, mgmt_bump]
    exact hu
  · rw [mgmt_setLogRegs]
    exact hu

/-- From `s` to `t` the core that firmware runs on, or runs not on, has kept its state, and what of start-up is shown is the same but
for the field that names an error. -/
structure BootKept (s t : State) : Prop where
  tabOk   : TablesOk t
  fwOk    : getF t ANC_BOOT_STATUS_FW_OK = getF s ANC_BOOT_STATUS_FW_OK
  floorOk : getF t ANC_BOOT_STATUS_FLOORPLAN_OK = getF s ANC_BOOT_STATUS_FLOORPLAN_OK
  lichen  : t.mgmt.lichen = s.mgmt.lichen
  fwSlot  : t.mgmt.fwSlot = s.mgmt.fwSlot

theorem BootKept.refl {s : State} (h : TablesOk s) : BootKept s s := ⟨h, rfl, rfl, rfl, rfl⟩

theorem BootKept.trans {s t u : State} (h : BootKept s t) (h' : BootKept t u) : BootKept s u :=
  ⟨h'.tabOk, h'.fwOk.trans h.fwOk, h'.floorOk.trans h.floorOk, h'.lichen.trans h.lichen, h'.fwSlot.trans h.fwSlot⟩

/-- A field that lies beside FW_OK and FLOORPLAN_OK. -/
def OffBoot (g : Fld) (i : Nat) : Prop :=
  g.at i ≠ ANC_BOOT_STATUS_FW_OK.off ∨ (g.at i = ANC_BOOT_STATUS_FW_OK.off ∧ g.lo + g.width ≤ 64 ∧ (10 ≤ g.lo ∨ g.lo + g.width ≤ 8))

theorem BootKept.setF {s t : State} {g : Fld} {i v : Nat} (h : BootKept s t) (hg : OffBoot g i) : BootKept s (setF t g i v) := by
  have hfw : FieldKept ANC_BOOT_STATUS_FW_OK t (Machine.setF t g i v) := by
    refine FieldKept.setF ⟨h.tabOk, rfl⟩ ?_
    rcases hg with hne | ⟨hat, hlo, hbeside⟩
    · exact .inl fun he => hne he.symm
    · exact .inr ⟨hat.symm, hlo, hbeside.imp (Nat.le_trans (by decide)) id⟩
  have hfloor : FieldKept ANC_BOOT_STATUS_FLOORPLAN_OK t (Machine.setF t g i v) := by
    refine FieldKept.setF ⟨h.tabOk, rfl⟩ ?_
    rcases hg with hne | ⟨hat, hlo, hbeside⟩
    · exact .inl fun he => hne he.symm
    · exact .inr ⟨hat.symm, hlo, hbeside.imp id fun hle => Nat.le_trans hle (by decide)⟩
  exact ⟨hfw.1, hfw.2.trans h.fwOk, hfloor.2.trans h.floorOk, h.lichen, h.fwSlot⟩

/-- What keeps the register that shows start-up and firmware's state keeps both. -/
theorem BootKept.of_same {s t u : State} (h : BootKept s t) (htab : TablesOk u) (hreg : getReg u 0x2500 = getReg t 0x2500)
    (hmgmt : u.mgmt = t.mgmt) : BootKept s u := by
  refine ⟨htab, Eq.trans ?_ h.fwOk, Eq.trans ?_ h.floorOk, (congrArg MgmtSt.lichen hmgmt).trans h.lichen,
    (congrArg MgmtSt.fwSlot hmgmt).trans h.fwSlot⟩
  · exact congrArg (fun v : W64 => bitsOf v.toNat 8 1) hreg
  · exact congrArg (fun v : W64 => bitsOf v.toNat 9 1) hreg

theorem BootKept.raiseCause {s t : State} {b k : Nat} (h : BootKept s t) (hb : b < 64) (hk : k < 64) : BootKept s (raiseCause t b k) := by
  have hev : AfterEvents Quiet t (Machine.raiseCause t b k) := (AfterEvents.refl h.tabOk).raiseCause (fun _ h => h) hb hk
  exact h.of_same hev.tabOk (hev.regs _ ⟨by decide, by decide⟩) (mgmt_raiseCause ..)

theorem BootKept.logEvent {s t : State} {a b c d : Nat} {p : Option Nat} {l : List Byte} (h : BootKept s t)
    (hs : s.mgmt.lichen ≠ .asleep ∨ getF s ANC_BOOT_STATUS_FW_OK ≠ 1) : BootKept s (logEvent t a b c d p l) := by
  have hev : AfterEvents Quiet t (Machine.logEvent t a b c d p l) := (AfterEvents.refl h.tabOk).logEvent fun _ h => h
  have hlichen := lichen_logEvent (s := t) (a := a) (b := b) (c := c) (d := d) (p := p) (l := l) (by rw [h.lichen, h.fwOk]; exact hs)
  refine ⟨hev.tabOk, (hev.getF ⟨by decide, by decide⟩).trans h.fwOk, (hev.getF ⟨by decide, by decide⟩).trans h.floorOk,
    hlichen.trans h.lichen, Eq.trans ?_ h.fwSlot⟩
  obtain ⟨_, _, _, _, _, hm⟩ := hev.mgmt
  rw [hm]

theorem BootKept.sigFail {s t : State} {k : Nat} (h : BootKept s t)
    (hs : s.mgmt.lichen ≠ .asleep ∨ getF s ANC_BOOT_STATUS_FW_OK ≠ 1) : BootKept s (sigFail t k) :=
  BootKept.raiseCause (h.logEvent hs) (by decide) (by decide)

theorem BootKept.setFw {s t : State} {k : Nat} {x : FwSlot} (h : BootKept s t) : BootKept s (setFw t k x) :=
  h.of_same (setFw_agree.tabOk h.tabOk) (getReg_of_regs_eq (setFw_agree.area .regs rfl) _) (setFw_agree.area .mgmt rfl)

theorem BootKept.showFw {s t : State} (h : BootKept s t) : BootKept s (showFw t) := by
  unfold Machine.showFw
  dsimp only
  refine .setF (.setF (.setF (.setF (.setF (.setF h ?_) ?_) ?_) ?_) ?_) ?_
  all_goals exact .inl (by decide)

theorem BootKept.endTrial {s t : State} {k : Nat} (h : BootKept s t)
    (hs : s.mgmt.lichen ≠ .asleep ∨ getF s ANC_BOOT_STATUS_FW_OK ≠ 1) : BootKept s (endTrial t k) := by
  unfold Machine.endTrial
  dsimp only
  split
  · exact h.setFw.logEvent hs
  · exact h

theorem BootKept.bootError {s t : State} {code : Nat} (h : BootKept s t) : BootKept s (bootError t code) :=
  BootKept.raiseCause (h.setF (.inr ⟨rfl, by decide, .inr (by decide)⟩)) (by decide) (by decide)

/-- BOOT_ERROR names the error, with its cause (R449). -/
theorem bootError_shown {s : State} {code : Nat} (hs : TablesOk s) (hcode : code < 16) :
    getF (bootError s code) ANC_BOOT_STATUS_BOOT_ERROR = code ∧ Caused (bootError s code) 10 6 := by
  have hset : Agree 32 s (setF s ANC_BOOT_STATUS_BOOT_ERROR 0 code) := setF_agree
  have hev : AfterEvents Quiet (setF s ANC_BOOT_STATUS_BOOT_ERROR 0 code) (bootError s code) :=
    (AfterEvents.refl (hset.tabOk hs)).raiseCause (fun _ h => h) (by decide) (by decide)
  refine ⟨(hev.getF ⟨by decide, by decide⟩).trans ((getF_setF_same hs (by decide)).trans (Nat.mod_eq_of_lt hcode)), ?_⟩
  exact raiseCause_caused (hset.tabOk hs) (by decide)

/-- Where no candidate verifies, none is chosen (R482). -/
theorem tryFw_of_none {ok : Nat → Bool} (hok : ∀ k, ok k = false) (s : State) (hs : s.mgmt.lichen ≠ .asleep ∨ getF s ANC_BOOT_STATUS_FW_OK ≠ 1)
    (l : List Nat) : ∀ t, BootKept s t → (tryFw ok l t).2 = none ∧ BootKept s (tryFw ok l t).1 := by
  induction l with
  | nil => exact fun t h => ⟨rfl, h⟩
  | cons k l ih =>
    intro t h
    have hstep : tryFw ok (k :: l) t = tryFw ok l (sigFail (setFw t k { getFw t k with state := 5 }) 0) :=
      if_neg (by rw [hok k, Bool.false_and]; exact Bool.false_ne_true)
    rw [hstep]
    exact ih _ (h.setFw.sigFail hs)

theorem lichenBoot_of_none {a b c : Bool} {s : State} (hs : TablesOk s) (hdev : s.dev = .boot) (hfw : getF s ANC_BOOT_STATUS_FW_OK = 0) :
    ∃ t, lichenBoot false false a b c s = bootError t 1 ∧ BootKept s t := by
  have hstill : s.mgmt.lichen ≠ .asleep ∨ getF s ANC_BOOT_STATUS_FW_OK ≠ 1 := .inr (by rw [hfw]; decide)
  have hended : BootKept s (endTrial (endTrial s 0) 1) := ((BootKept.refl hs).endTrial hstill).endTrial hstill
  obtain ⟨hnone, hkept⟩ := tryFw_of_none (ok := fun k => if k = 0 then false else false) (fun k => ite_self false) s hstill
    (fwCandidates (endTrial (endTrial s 0) 1)) _ hended
  unfold lichenBoot
  rw [if_neg (by rw [hfw]; simp [hdev])]
  dsimp only
  split
  · next s1 htry =>
    rw [htry] at hkept
    exact ⟨_, rfl, hkept.showFw⟩
  · next s1 k htry =>
    rw [htry] at hnone
    exact nomatch hnone

/-! ### A boot of the ACTIVE slot with the current floorplan -/

/-- With slot A ACTIVE and none pending or on trial, slot A is the first candidate (R482). -/
theorem fwCandidates_of_active {s : State} (hA : s.flash.slotA.state = 4) (hB : s.flash.slotB.state < 2) :
    ∃ l, fwCandidates s = 0 :: l := by
  have hB2 : s.flash.slotB.state ≠ 2 := by omega
  have hB3 : s.flash.slotB.state ≠ 3 := by omega
  have hB4 : s.flash.slotB.state ≠ 4 := by omega
  unfold fwCandidates getFw
  simp [hA, hB2, hB3, hB4]

theorem tryFw_of_active {ok : Nat → Bool} {s : State} {l : List Nat} (hok : ok 0 = true) (hctr : s.flash.fwCtr ≤ s.flash.slotA.sec)
    (hA : s.flash.slotA.state = 4) : tryFw ok (0 :: l) s = (s, some 0) := by
  have hgood : (ok 0 && decide (s.flash.fwCtr ≤ (getFw s 0).sec)) = true := by
    rw [hok, Bool.true_and]
    exact decide_eq_true hctr
  have h2 : (getFw s 0).state ≠ 2 := by rw [show (getFw s 0).state = 4 from hA]; decide
  have h3 : (getFw s 0).state ≠ 3 := by rw [show (getFw s 0).state = 4 from hA]; decide
  refine (if_pos hgood).trans ?_
  rw [if_neg h2, if_neg h3]

theorem endTrial_of_not_trial {s : State} {k : Nat} (h : (getFw s k).state ≠ 3) : endTrial s k = s := if_neg fun hc => h hc.1

/-- The current copy A of the floorplan, where it verifies (R434). -/
theorem pickFloor_of_a {s : State} {fpB : Bool} (hseq : s.flash.fpA.sequence = s.flash.fpCounter) :
    pickFloor s true fpB = (if (s.flash.fpB.sequence == s.flash.fpCounter) && !fpB then sigFail s 2 else s, some s.flash.fpA) := by
  unfold pickFloor
  simp [hseq]

theorem getReg_enterTrain {s : State} {p o : Nat} (hs : TablesOk s) (ho : o < 0x31000) : getReg (enterTrain s p) o = getReg s o := by
  have hmod (u : State) (f : PortSt → PortSt) : Agree 32768 u (modPort u p f) := modPort_agree
  have hne : o ≠ FAB_PORT_STATUS_STATE.at p := by
    simp only [Fld.at, FAB_PORT_STATUS_STATE]
    omega
  unfold enterTrain setPortState setF
  rw [getReg_setReg_ne ((hmod _ _).tabOk ((hmod _ _).tabOk hs)) hne]
  exact (getReg_of_regs_eq ((hmod _ _).area .regs rfl) o).trans (getReg_of_regs_eq ((hmod _ _).area .regs rfl) o)

/-- The boot image that has been selected (R449, R453). -/
theorem selectImage_leaves {s t : State} {img : StoredImage} (h : BootKept s t) :
    BootKept s (selectImage t img) ∧ getF (selectImage t img) ANC_BOOT_STATUS_IMAGE_OK = 1 ∧
      getF (selectImage t img) ANC_BOOT_STATUS_BOOT_ERROR = getF t ANC_BOOT_STATUS_BOOT_ERROR ∧
      (selectImage t img).cfg.staged = some img ∧ (selectImage t img).cfg.floor = t.cfg.floor ∧
      (selectImage t img).cfg.floorOk = t.cfg.floorOk := by
  unfold selectImage
  extract_lets links base c s1
  have htab : TablesOk t := h.tabOk
  have hu (c : CfgSt) : TablesOk { t with cfg := c } := ⟨htab.regs, htab.resets, htab.queues, htab.fronds, htab.slots, htab.parts, htab.ports⟩
  have hkept (c : CfgSt) : BootKept s { t with cfg := c } := h.of_same (hu c) rfl rfl
  have h1 : BootKept s s1 := (hkept _).setF (.inr ⟨rfl, by decide, .inl (by decide)⟩)
  have himage : getF s1 ANC_BOOT_STATUS_IMAGE_OK = 1 := getF_setF_same (hu _) (by decide)
  have herror : getF s1 ANC_BOOT_STATUS_BOOT_ERROR = getF t ANC_BOOT_STATUS_BOOT_ERROR :=
    getF_setF_beside (f := ANC_BOOT_STATUS_IMAGE_OK) (g := ANC_BOOT_STATUS_BOOT_ERROR) (hu _) (by decide) rfl (.inl (by decide))
  have hcfg : s1.cfg.staged = some img ∧ s1.cfg.floor = t.cfg.floor ∧ s1.cfg.floorOk = t.cfg.floorOk := ⟨rfl, rfl, rfl⟩
  clear_value s1
  obtain ⟨hstaged, hfloor, hfloorOk⟩ := hcfg
  have hfold : TablesOk ((((List.range 36).filter (fun p => !hostPort s1 p)).foldl enterTrain s1)) ∧
      getReg (((List.range 36).filter (fun p => !hostPort s1 p)).foldl enterTrain s1) 0x2500 = getReg s1 0x2500 :=
    List.foldlRecOn (motive := fun u => TablesOk u ∧ getReg u 0x2500 = getReg s1 0x2500) _ _ ⟨h1.tabOk, rfl⟩
      fun u hu p _ => ⟨enterTrain_agree.tabOk hu.1, (getReg_enterTrain hu.1 (by decide)).trans hu.2⟩
  have hall : Agree 32800 s1 (((List.range 36).filter (fun p => !hostPort s1 p)).foldl enterTrain s1) :=
    Agree.foldl (fun _ _ ha => enterTrain_agree.after rfl ha) (Agree.refl _ _)
  generalize ((List.range 36).filter (fun p => !hostPort s1 p)).foldl enterTrain s1 = v at hfold hall ⊢
  obtain ⟨hv, hreg⟩ := hfold
  rw [hall.area .cfg rfl]
  refine ⟨h1.of_same hv hreg (hall.area .mgmt rfl), Eq.trans ?_ himage, Eq.trans ?_ herror, hstaged, hfloor, hfloorOk⟩
  · exact congrArg (fun v : W64 => bitsOf v.toNat 10 1) hreg
  · exact congrArg (fun v : W64 => bitsOf v.toNat 0 4) hreg

theorem BootKept.showFloor {s t : State} (h : BootKept s t) : BootKept s (showFloor t) := by
  unfold Machine.showFloor
  dsimp only
  refine .setF (.setF (.setF (.setF (.setF h ?_) ?_) ?_) ?_) ?_
  all_goals exact .inl (by decide)

/-- The state in which firmware starts on slot `k` (R449). -/
def fwStarted (s : State) (k : Nat) : State :=
  { s with mgmt := { s.mgmt with fwSlot := k, lichen := .running, workAt := s.counter, fedAt := s.counter } }

/-- The floorplan that firmware has read (R434). -/
def floorRead (s : State) (f : Floorplan) : State :=
  showFloor (setF { s with cfg := { s.cfg with floor := f, floorOk := true } } ANC_BOOT_STATUS_FLOORPLAN_OK 0 1)

/-- The image that firmware selects: the persisted one, or the built-in settings (R449, R450). -/
def imageChosen (s : State) (image : Bool) : State :=
  match imageStage s image with
  | none => selectImage s (s.flash.image.getD StoredImage.builtIn)
  | some st => selectImage (bootError (logEvent (if st = 1 ∧ image = false then sigFail s 1 else s) 0x0501 0 2 0 none (leBytes 1 st)) 3)
      StoredImage.builtIn

theorem lichenBoot_of_active {slotB fpB image : Bool} {s : State} (hdev : s.dev = .boot)
    (hfw : getF s ANC_BOOT_STATUS_FW_OK = 0) (hA : s.flash.slotA.state = 4) (hB : s.flash.slotB.state < 2)
    (hctr : s.flash.fwCtr ≤ s.flash.slotA.sec) (hseq : s.flash.fpA.sequence = s.flash.fpCounter) :
    let s3 := fwStarted (setLogRegs (setF (showFw s) ANC_BOOT_STATUS_FW_OK 0 1)) 0
    ∃ s4, (s4 = sigFail s3 2 ∨ s4 = s3) ∧ lichenBoot true slotB true fpB image s = imageChosen (floorRead s4 s.flash.fpA) image := by
  intro s3
  have hA3 : (getFw s 0).state ≠ 3 := by rw [show (getFw s 0).state = 4 from hA]; decide
  have hB3 : (getFw s 1).state ≠ 3 := by rw [show (getFw s 1).state = s.flash.slotB.state from rfl]; omega
  obtain ⟨l, hl⟩ := fwCandidates_of_active hA hB
  have hflash : s3.flash = s.flash := by
    have hset : Agree 32 (showFw s) (setF (showFw s) ANC_BOOT_STATUS_FW_OK 0 1) := setF_agree
    show (setLogRegs (setF (showFw s) ANC_BOOT_STATUS_FW_OK 0 1)).flash = _
    rw [setLogRegs_agree.area .flash rfl, hset.area .flash rfl, showFw_agree.area .flash rfl]
  have hpick := pickFloor_of_a (s := s3) (fpB := fpB) (by rw [hflash]; exact hseq)
  rw [hflash] at hpick
  refine ⟨if (s.flash.fpB.sequence == s.flash.fpCounter) && !fpB then sigFail s3 2 else s3, ?_, ?_⟩
  · split
    · exact .inl rfl
    · exact .inr rfl
  · unfold lichenBoot
    rw [if_neg (by rw [hfw]; simp [hdev])]
    dsimp only
    rw [endTrial_of_not_trial hA3, endTrial_of_not_trial hB3, hl, tryFw_of_active (by rfl) hctr hA]
    dsimp only
    rw [show ({ setLogRegs (setF (showFw s) ANC_BOOT_STATUS_FW_OK 0 1) with
        mgmt := { (setLogRegs (setF (showFw s) ANC_BOOT_STATUS_FW_OK 0 1)).mgmt with
          fwSlot := 0, lichen := .running, workAt := (setLogRegs (setF (showFw s) ANC_BOOT_STATUS_FW_OK 0 1)).counter,
          fedAt := (setLogRegs (setF (showFw s) ANC_BOOT_STATUS_FW_OK 0 1)).counter } } : State) = s3 from rfl, hpick]
    rfl

theorem floorRead_leaves {s : State} {f : Floorplan} (hs : TablesOk s) :
    TablesOk (floorRead s f) ∧ getF (floorRead s f) ANC_BOOT_STATUS_FW_OK = getF s ANC_BOOT_STATUS_FW_OK ∧
      getF (floorRead s f) ANC_BOOT_STATUS_FLOORPLAN_OK = 1 ∧ (floorRead s f).mgmt = s.mgmt ∧
      (floorRead s f).cfg.floor = f ∧ (floorRead s f).cfg.floorOk = true ∧ (floorRead s f).flash = s.flash := by
  unfold floorRead
  have hu (c : CfgSt) : TablesOk { s with cfg := c } := ⟨hs.regs, hs.resets, hs.queues, hs.fronds, hs.slots, hs.parts, hs.ports⟩
  have hset (c : CfgSt) : Agree 32 { s with cfg := c } (setF { s with cfg := c } ANC_BOOT_STATUS_FLOORPLAN_OK 0 1) := setF_agree
  have hfw : getF (setF { s with cfg := { s.cfg with floor := f, floorOk := true } } ANC_BOOT_STATUS_FLOORPLAN_OK 0 1) ANC_BOOT_STATUS_FW_OK =
      getF s ANC_BOOT_STATUS_FW_OK :=
    getF_setF_beside (f := ANC_BOOT_STATUS_FLOORPLAN_OK) (g := ANC_BOOT_STATUS_FW_OK) (hu _) (by decide) rfl (.inl (by decide))
  have hfloor : getF (setF { s with cfg := { s.cfg with floor := f, floorOk := true } } ANC_BOOT_STATUS_FLOORPLAN_OK 0 1)
      ANC_BOOT_STATUS_FLOORPLAN_OK = 1 := getF_setF_same (hu _) (by decide)
  have htab := (hset { s.cfg with floor := f, floorOk := true }).tabOk (hu _)
  have hcfg := (hset { s.cfg with floor := f, floorOk := true }).area .cfg rfl
  have hmgmt := (hset { s.cfg with floor := f, floorOk := true }).area .mgmt rfl
  have hflash := (hset { s.cfg with floor := f, floorOk := true }).area .flash rfl
  generalize setF { s with cfg := { s.cfg with floor := f, floorOk := true } } ANC_BOOT_STATUS_FLOORPLAN_OK 0 1 = u at *
  have hshow : Agree 32 u (showFloor u) := showFloor_agree
  have hkept : BootKept u (showFloor u) := (BootKept.refl htab).showFloor
  have hc : (showFloor u).cfg = { s.cfg with floor := f, floorOk := true } := (hshow.area .cfg rfl).trans hcfg
  refine ⟨hkept.tabOk, hkept.fwOk.trans hfw, hkept.floorOk.trans hfloor, (hshow.area .mgmt rfl).trans hmgmt, ?_, ?_,
    (hshow.area .flash rfl).trans hflash⟩
  · rw [hc]
  · rw [hc]

theorem imageChosen_leaves {s : State} {image : Bool} (hs : TablesOk s) (hlichen : s.mgmt.lichen = .running) :
    BootKept s (imageChosen s image) ∧ getF (imageChosen s image) ANC_BOOT_STATUS_IMAGE_OK = 1 ∧
      (imageChosen s image).cfg.staged.isSome = true ∧ (imageChosen s image).cfg.floor = s.cfg.floor ∧
      (imageChosen s image).cfg.floorOk = s.cfg.floorOk ∧
      (s.flash.image = none → (imageChosen s image).cfg.staged = some StoredImage.builtIn ∧
        getF (imageChosen s image) ANC_BOOT_STATUS_BOOT_ERROR = 3) := by
  have hawake : s.mgmt.lichen ≠ .asleep ∨ getF s ANC_BOOT_STATUS_FW_OK ≠ 1 := .inl (by rw [hlichen]; decide)
  unfold imageChosen
  split
  · next hstage =>
    obtain ⟨hkept, hok, -, hstaged, hfloor, hfloorOk⟩ := selectImage_leaves (img := s.flash.image.getD StoredImage.builtIn) (BootKept.refl hs)
    refine ⟨hkept, hok, by rw [hstaged]; rfl, hfloor, hfloorOk, fun hnone => ?_⟩
    unfold imageStage at hstage
    rw [hnone] at hstage
    exact nomatch hstage
  · next st hstage =>
    have h6 : BootKept s (if st = 1 ∧ image = false then sigFail s 1 else s) ∧
        (if st = 1 ∧ image = false then sigFail s 1 else s).cfg = s.cfg := by
      split
      · exact ⟨(BootKept.refl hs).sigFail hawake, sigFail_agree.area .cfg rfl⟩
      · exact ⟨BootKept.refl hs, rfl⟩
    generalize (if st = 1 ∧ image = false then sigFail s 1 else s) = s6 at h6 ⊢
    obtain ⟨h6, hcfg6⟩ := h6
    have hlogged : BootKept s (logEvent s6 0x0501 0 2 0 none (leBytes 1 st)) := h6.logEvent hawake
    have hlogCfg : (logEvent s6 0x0501 0 2 0 none (leBytes 1 st)).cfg = s.cfg := (logEvent_agree.area .cfg rfl).trans hcfg6
    generalize logEvent s6 0x0501 0 2 0 none (leBytes 1 st) = s7 at *
    obtain ⟨hshown, -⟩ := bootError_shown (code := 3) hlogged.tabOk (by decide)
    have hcfg : (bootError s7 3).cfg = s.cfg := (bootError_agree.area .cfg rfl).trans hlogCfg
    obtain ⟨hkept, hok, herror, hstaged, hfloor, hfloorOk⟩ := selectImage_leaves (img := StoredImage.builtIn) (hlogged.bootError (code := 3))
    exact ⟨hkept, hok, by rw [hstaged]; rfl, hfloor.trans (congrArg CfgSt.floor hcfg), hfloorOk.trans (congrArg CfgSt.floorOk hcfg),
      fun _ => ⟨hstaged, herror.trans hshown⟩⟩

/-- Firmware starts on slot A, and nothing has failed yet (R449). -/
theorem fwStarted_leaves {s : State} (hs : TablesOk s) :
    let s3 := fwStarted (setLogRegs (setF (showFw s) ANC_BOOT_STATUS_FW_OK 0 1)) 0
    TablesOk s3 ∧ getF s3 ANC_BOOT_STATUS_FW_OK = 1 ∧ s3.mgmt.lichen = .running ∧ s3.mgmt.fwSlot = 0 ∧ s3.flash = s.flash := by
  have h1 : TablesOk (showFw s) := showFw_agree.tabOk hs
  have hset : Agree 32 (showFw s) (setF (showFw s) ANC_BOOT_STATUS_FW_OK 0 1) := setF_agree
  have hev : AfterEvents Quiet (setF (showFw s) ANC_BOOT_STATUS_FW_OK 0 1) (setLogRegs (setF (showFw s) ANC_BOOT_STATUS_FW_OK 0 1)) :=
    (AfterEvents.refl (hset.tabOk h1)).setLogRegs fun _ h => h
  have hfw : getF (setLogRegs (setF (showFw s) ANC_BOOT_STATUS_FW_OK 0 1)) ANC_BOOT_STATUS_FW_OK = 1 :=
    (hev.getF ⟨by decide, by decide⟩).trans (getF_setF_same h1 (by decide))
  have hflash : (setLogRegs (setF (showFw s) ANC_BOOT_STATUS_FW_OK 0 1)).flash = s.flash :=
    (setLogRegs_agree.area .flash rfl).trans ((hset.area .flash rfl).trans (showFw_agree.area .flash rfl))
  have htab := hev.tabOk
  generalize setLogRegs (setF (showFw s) ANC_BOOT_STATUS_FW_OK 0 1) = u at *
  exact ⟨⟨htab.regs, htab.resets, htab.queues, htab.fronds, htab.slots, htab.parts, htab.ports⟩, hfw, rfl, rfl, hflash⟩

/-! ### Training -/

/-- A stack that has given an attempt up, the third with its error (R451). -/
theorem trainingFailed_leaves {s : State} {k : Nat} (hs : TablesOk s) (hdev : s.dev = .boot) (hfw : getF s ANC_BOOT_STATUS_FW_OK = 1)
    (hk : k < 12) (hopen : stackSettled s k = false) :
    let t := hbmTrainingEnd k false s
    t.mem = s.mem ∧ getF t HBM_STATUS_TRAINED k = 0 ∧ tblFind t.mgmt.trained k = some (tblGet 0 s.mgmt.trained k + 1) ∧
      (tblGet 0 s.mgmt.trained k = 2 → getF t ANC_BOOT_STATUS_BOOT_ERROR = 4 ∧ Caused t 10 6) := by
  have huntrained : getF s HBM_STATUS_TRAINED k = 0 := by
    have hlt : getF s HBM_STATUS_TRAINED k < 2 ^ 1 := bitsOf_lt _ _ _
    have hne : getF s HBM_STATUS_TRAINED k ≠ 1 := by
      intro h1
      unfold stackSettled at hopen
      rw [h1] at hopen
      exact Bool.false_ne_true hopen.symm
    omega
  unfold hbmTrainingEnd
  rw [if_neg (by rw [hfw, hopen]; simp [hdev]; omega), if_neg Bool.false_ne_true]
  extract_lets n m s1 t
  have h1 : TablesOk s1 := ⟨hs.regs, hs.resets, hs.queues, hs.fronds, hs.slots, hs.parts, hs.ports⟩
  have hcount : tblFind s1.mgmt.trained k = some n := (tblFind_tblPut_some s.mgmt.trained k k n).trans (if_pos rfl)
  have htrained : getF s1 HBM_STATUS_TRAINED k = 0 := huntrained
  have hmem : s1.mem = s.mem := rfl
  clear_value s1
  unfold t
  split
  · next hlast =>
    have hev : AfterEvents Quiet s1 (logEvent s1 0x0206 3 3 k none (leBytes 1 n)) := (AfterEvents.refl h1).logEvent fun _ h => h
    obtain ⟨herror, hcause⟩ := bootError_shown (code := 4) hev.tabOk (by decide)
    have hset (u : State) : Agree 32 u (setF u ANC_BOOT_STATUS_BOOT_ERROR 0 4) := setF_agree
    have hquiet : Quiet (HBM_STATUS_TRAINED.at k) := by
      refine ⟨.inr ?_, ?_⟩
      · simp only [Fld.at, HBM_STATUS_TRAINED]
        omega
      · intro hin
        have hlow : ∀ o ∈ eventOffs, o < 0x50000 := by decide
        have := hlow _ hin
        simp only [Fld.at, HBM_STATUS_TRAINED] at this
        omega
    have hshown : AfterEvents (· = HBM_STATUS_TRAINED.at k) s1 (bootError (logEvent s1 0x0206 3 3 k none (leBytes 1 n)) 4) := by
      have hK : ∀ o, o = HBM_STATUS_TRAINED.at k → Quiet o := fun o ho => by rw [ho]; exact hquiet
      refine AfterEvents.raiseCause hK (AfterEvents.setF (hev.mono hK) ?_) (by decide) (by decide)
      simp only [Fld.at, HBM_STATUS_TRAINED, ANC_BOOT_STATUS_BOOT_ERROR]
      omega
    refine ⟨?_, (hshown.getF rfl).trans htrained, ?_, fun _ => ⟨herror, hcause⟩⟩
    · exact (bootError_agree.area .mem rfl).trans ((logEvent_agree.area .mem rfl).trans hmem)
    · obtain ⟨_, _, _, _, _, hm⟩ := hshown.mgmt
      rw [hm]
      exact hcount
  · next hmore =>
    exact ⟨hmem, htrained, hcount, fun h2 => absurd (show n ≥ 3 by unfold n; omega) hmore⟩

/-- An image takes effect at the end of start-up (R450, R452). -/
theorem cfg_applyImage_boot (s : State) (img : StoredImage) (skip : List Nat) :
    (applyImage s img true skip).cfg = { s.cfg with committed := img } := by
  unfold applyImage
  extract_lets +onlyGivenNames old new changed s1 c s2 s3 s4 s5 s6
  have hc2 : s2.cfg = { s.cfg with committed := img } := rfl
  clear_value s2
  have hmove : Agree 552992 s2 (changed.foldl (fun s p => movePart s old new true skip p) s2) :=
    Agree.foldl (fun _ _ ha => movePart_agree.after rfl ha) (Agree.refl _ _)
  have hc3 : s3.cfg = s2.cfg := (noteDies_agree.area .cfg rfl).trans (hmove.area .cfg rfl)
  clear_value s3
  have h6 : Agree 5079072 s3 s6 := by
    refine Agree.foldl (fun u p hu => ?_) ?_
    · split
      · exact modPort_agree.after rfl (enterTrain_agree.after rfl hu)
      · exact hu
    · exact showFeed_agree.after rfl (setF_agree.after rfl (setF_agree.after rfl (raiseCounter_agree.mono rfl)))
  have hc6 : s6.cfg = { s.cfg with committed := img } := (h6.area .cfg rfl).trans (hc3.trans hc2)
  split
  · exact (buildRoutes_agree.area .cfg rfl).trans hc6
  · exact hc6

/-- Settles O52: each stage of start-up ends as R449 to R452 and R500 say, and a zeroed granule reads zero. -/
theorem startUpStages : Obligations.StartUpStages := by
  refine ⟨fun s hs hdev => ?_, fun a b c s hs hdev hfw => ?_, fun slotB fpB image s hs hdev hfw hA hB hctr hseq => ?_,
    fun k s hmem hs hdev hfw hk hopen => ⟨?_, ?_⟩, fun feeds s img hs hstaged hdev hall => ?_, fun g s hmem hg => ?_⟩
  · obtain ⟨hgood, hmem, hflash, hbad, hcause, hmem'⟩ := pufReconstruct_leaves hs hdev
    exact ⟨⟨_, rfl, hgood, hmem, hflash⟩, _, rfl, hbad, hcause, hmem'⟩
  · obtain ⟨u, hboot, hkept⟩ := lichenBoot_of_none (a := a) (b := b) (c := c) hs hdev hfw
    obtain ⟨herror, hcause⟩ := bootError_shown (code := 1) hkept.tabOk (by decide)
    have hall : BootKept s (bootError u 1) := hkept.bootError
    have hm : (lichenBoot false false a b c s).mem = s.mem := lichenBoot_agree.area .mem rfl
    rw [hboot] at hm
    exact ⟨_, congrArg Host.Outcome.next hboot, hall.fwOk.trans hfw, herror, hcause, hall.lichen, hm⟩
  · obtain ⟨s4, hs4, hboot⟩ := lichenBoot_of_active (slotB := slotB) (fpB := fpB) (image := image) hdev hfw hA hB hctr hseq
    obtain ⟨htab3, hfw3, hlichen3, hslot3, hflash3⟩ := fwStarted_leaves hs
    have hm : (lichenBoot true slotB true fpB image s).mem = s.mem := lichenBoot_agree.area .mem rfl
    rw [hboot] at hm
    generalize fwStarted (setLogRegs (setF (showFw s) ANC_BOOT_STATUS_FW_OK 0 1)) 0 = s3 at *
    have h4 : BootKept s3 s4 ∧ s4.flash.image = s3.flash.image := by
      rcases hs4 with rfl | rfl
      · refine ⟨(BootKept.refl htab3).sigFail (.inl (by rw [hlichen3]; decide)), ?_⟩
        have hev : AfterEvents Quiet s3 (sigFail s3 2) :=
          ((AfterEvents.refl htab3).logEvent fun _ h => h).raiseCause (fun _ h => h) (by decide) (by decide)
        have hf := hev.flash
        unfold SameButLog at hf
        rw [← hf]
      · exact ⟨BootKept.refl htab3, rfl⟩
    obtain ⟨h4, himage4⟩ := h4
    obtain ⟨htab5, hfw5, hfloor5, hmgmt5, hcfg5, hcfgOk5, hflash5⟩ := floorRead_leaves (f := s.flash.fpA) h4.tabOk
    obtain ⟨hkept, hok, hsome, hfloor, hfloorOk, hnone⟩ := imageChosen_leaves (image := image) htab5
      (by rw [hmgmt5, h4.lichen, hlichen3])
    refine ⟨_, congrArg Host.Outcome.next hboot, ?_, hkept.floorOk.trans hfloor5, hok, ?_, ?_, hfloor.trans hcfg5, hfloorOk.trans hcfgOk5, hsome,
      fun hno => hnone ?_, hm⟩
    · rw [hkept.fwOk, hfw5, h4.fwOk, hfw3]
    · rw [hkept.lichen, hmgmt5, h4.lichen, hlichen3]
    · rw [hkept.fwSlot, hmgmt5, h4.fwSlot, hslot3]
    · rw [hflash5, himage4, hflash3, hno]
  · have hset : Agree 32 s (setF s HBM_STATUS_TRAINED k 1) := setF_agree
    have hexec : exec (.hbmTrainingEnd k true) s = .next (zeroStack (setF s HBM_STATUS_TRAINED k 1) k) :=
      congrArg Host.Outcome.next ((if_neg (by rw [hfw, hopen]; simp [hdev]; omega)).trans (if_pos rfl))
    obtain ⟨hzero, hkept⟩ := zeroRange_unit (t := zeroStack (setF s HBM_STATUS_TRAINED k 1) k) (k := k) (size := 2 ^ 36) hmem rfl
    exact ⟨_, hexec, getF_setF_same hs (by decide), hzero, hkept⟩
  · obtain ⟨hm, htrained, hcount, hlast⟩ := trainingFailed_leaves hs hdev hfw hk hopen
    exact ⟨_, rfl, hm, htrained, hcount, hlast⟩
  · intro fs s1 s2 s3
    have hlogged : Agree 5046305 s (fs.foldl logFinding s) := Agree.foldl (fun _ _ ha => logFinding_agree.after rfl ha) (Agree.refl _ _)
    have happlied : Agree 7335968 (fs.foldl logFinding s) (applyImage (fs.foldl logFinding s) img true (fs.map (·.1))) := applyImage_agree
    have hexec : exec (.bootCommit feeds) s = .next (maybeFabricBarrier (acceptTrial s3) feeds) := by
      refine congrArg Host.Outcome.next ?_
      unfold bootCommit
      rw [hstaged]
      exact if_neg (by rw [hall]; simp [hdev])
    have htab := happlied.tabOk (hlogged.tabOk hs)
    have hcfg := cfg_applyImage_boot (fs.foldl logFinding s) img (fs.map (·.1))
    have h2 : TablesOk s2 := ⟨htab.regs, htab.resets, htab.queues, htab.fronds, htab.slots, htab.parts, htab.ports⟩
    have hset2 : Agree 32 s2 (setF s2 ANC_BOOT_STATUS_HBM_OK 0 1) := setF_agree
    refine ⟨hexec, congrArg CfgSt.committed hcfg, ?_⟩
    exact (getF_setF_ne (f := ANC_BOOT_TIME_READY_TICKS) (g := ANC_BOOT_STATUS_HBM_OK) (hset2.tabOk h2) (by decide)).trans
      (getF_setF_same h2 (by decide))
  · obtain ⟨hzero, hkept⟩ := zeroRange_unit (t := granuleZeroed g s) (k := g) (size := 2 ^ 30) hmem
      (by unfold granuleZeroed; rw [if_pos (List.contains_iff_mem.2 hg)]; rfl)
    refine ⟨_, rfl, ?_, hzero, hkept⟩
    unfold granuleZeroed
    rw [if_pos (List.contains_iff_mem.2 hg)]
    rfl

end Sys2Proof.Proofs
end

section
/-! SUPPORT. Accesses that are performed, the log's window and the stacks' test ports (R9 to R13, R305, R480). -/

namespace Sys2Proof.Proofs

open Sys2Proof Sys2Proof.Machine Sys2Proof.Safety Sys2Proof.Frame Sys2Proof.Claims Sys2Proof.Laws

/-! ### Reads clear RC fields -/

/-- What a clearing read does to a field of a register. -/
def rcCleared (x : W64) (f : FieldDef) : W64 := if f.acc = .rc ∧ true = true then x &&& ~~~(fieldMask f.lo f.width) else x

/-- One bit of a field under a clearing read. -/
def readBit (f : FieldDef) (_ : Nat) (old : Bool) : Bool := if f.acc = .rc then false else old

theorem getLsbD_rcCleared (x : W64) (f : FieldDef) (i : Nat) (hf : f.lo + f.width ≤ 64) :
    (rcCleared x f).getLsbD i = if f.lo ≤ i ∧ i < f.lo + f.width then readBit f i (x.getLsbD i) else x.getLsbD i := by
  unfold rcCleared readBit
  have hmask := getLsbD_fieldMask (i := i) hf
  by_cases hrc : f.acc = .rc
  · rw [if_pos ⟨hrc, rfl⟩, if_pos hrc, BitVec.getLsbD_and, BitVec.getLsbD_not, hmask]
    by_cases hin : f.lo ≤ i ∧ i < f.lo + f.width
    · rw [if_pos hin, decide_eq_true hin.1, decide_eq_true hin.2]
      simp
    · have hout : (decide (f.lo ≤ i) && decide (i < f.lo + f.width)) = false := by
        rw [Bool.and_eq_false_iff, decide_eq_false_iff_not, decide_eq_false_iff_not]
        exact Classical.not_and_iff_not_or_not.1 hin
      rw [if_neg hin, hout]
      rcases h : x.getLsbD i with _ | _
      · rfl
      · rw [decide_eq_true (BitVec.lt_of_getLsbD h)]
        rfl
  · rw [if_neg fun h => hrc h.1, if_neg hrc, ite_self]

theorem clearRc_of_regAt {s : State} {off : Nat} {r : RegDef} {i j : Nat} (h : regAt off = some (r, i, j)) :
    clearRc s off (fun _ => true) = setReg s off (r.fields.foldl rcCleared (getReg s off)) := by
  unfold clearRc
  rw [h]
  rfl

/-- A field after a clearing read of its register (R12). -/
theorem field_clearRc {s : State} {off : Nat} {r : RegDef} {i j : Nat} {f : FieldDef} (hs : TablesOk s)
    (h : regAt off = some (r, i, j)) (hf : f ∈ r.fields) :
    bitsOf (getReg (clearRc s off (fun _ => true)) off).toNat f.lo f.width = readField f (getReg s off).toNat := by
  have hok := fieldsOk_of_regAt h
  have hbit (k : Nat) (hk : k < f.width) : (r.fields.foldl rcCleared (getReg s off)).getLsbD (f.lo + k) =
      readBit f (f.lo + k) ((getReg s off).getLsbD (f.lo + k)) :=
    getLsbD_foldl_field (fun x f i => getLsbD_rcCleared x f i) hok hf ⟨by omega, by omega⟩
  rw [clearRc_of_regAt h, getReg_setReg_same hs]
  refine bitsOf_eq_of_bits (fun k hk => ?_) ?_
  · rw [hbit k hk]
    unfold readBit readField
    split
    · exact (Nat.zero_testBit k).symm
    · rw [testBit_bitsOf, decide_eq_true hk, Bool.true_and, BitVec.testBit_toNat]
  · unfold readField
    split
    · exact Nat.two_pow_pos _
    · exact bitsOf_lt ..

/-! ### Accesses -/

theorem registerWrite_of_reached {s : State} {a : Requester} {off : Nat} (v : W64) (halign : off % 8 = 0) (h : Reached s a off) :
    ctlWriteAt ⟨a, off, .w64⟩ v s = regWrite a (Wr.full v) off (dropShadow s a) := by
  have hoff : off / 8 * 8 = off := by omega
  have htouch := touch_of_reached (act := regWrite a (Wr.full v) off) h
  unfold touch at htouch
  unfold ctlWriteAt access wrOf
  dsimp only
  rw [hoff, if_neg (by omega)]
  exact htouch

/-- A write out of reach, or of a follower's queue, is answered by the access error alone (R9, R404). -/
theorem registerWrite_refused {s : State} {a : Requester} {off : Nat} (v : W64) (hs : TablesOk s) (halign : off % 8 = 0)
    (hadmits : admits s a off = true) (hassigned : assigned s off = true) (hno : reaches a off = false ∨ followerQueue s off = true) :
    OnlyErrored s (ctlWriteAt ⟨a, off, .w64⟩ v s) a := by
  have hoff : off / 8 * 8 = off := by omega
  have hrefused : (!reaches a off || (true && followerQueue s off)) = true := by
    rcases hno with h | h
    · rw [h]
      rfl
    · rw [h]
      cases reaches a off <;> rfl
  have hbody : ctlWriteAt ⟨a, off, .w64⟩ v s = accessError (dropShadow s a) a off 3 := by
    unfold ctlWriteAt access touchAt
    dsimp only
    rw [hoff, if_neg (by omega), hadmits, hassigned, hrefused]
    rfl
  rw [hbody]
  exact accessError_onlyErrored a off 3 (dropShadow_agree.tabOk hs)

/-- No register but a stack's data port shifts where it is read. -/
theorem not_tpData {off : Nat} (hdata : ∀ k < 12, off ≠ HBM_TP_DATA_DATA.at k) :
    ¬(0x50000 ≤ off ∧ off < 0x5C000 ∧ off % 0x1000 = 0x48 ∧ decide (off % 8 = 0) = true) := by
  rintro ⟨hlo, hhi, hmod, -⟩
  refine hdata ((off - 0x50048) / 0x1000) (by omega) ?_
  simp only [Fld.at, HBM_TP_DATA_DATA]
  omega

theorem readValue_of_same {s t : State} {off : Nat} (h : t = { s with lastRead := t.lastRead, shadows := t.shadows }) :
    readValue t off = readValue s off := by
  rw [h]
  rfl

/-- A read that reaches its register (R9). -/
theorem access_read {s : State} {a : Requester} {off : Nat} {act : Nat → State → State} (halign : off % 8 = 0)
    (hadmits : admits s a off = true) (hassigned : assigned s off = true) (hreaches : reaches a off = true) :
    access ⟨a, off, .w64⟩ false act s = act off (dropShadow s a) := by
  have hoff : off / 8 * 8 = off := by omega
  unfold access touchAt
  dsimp only
  rw [hoff, if_neg (by omega), hadmits, hassigned, hreaches]
  rfl

/-- A performed read, of all 64 bits, of a register that does not shift (R12, R13). -/
theorem clearingRead_of_plain {s : State} {a : Requester} {off gap : Nat} (halign : off % 8 = 0) (hadmits : admits s a off = true)
    (hassigned : assigned s off = true) (hreaches : reaches a off = true) (hdata : ∀ k < 12, off ≠ HBM_TP_DATA_DATA.at k) :
    ctlReadAt ⟨a, off, .w64⟩ gap s = { clearRc (dropShadow s a) off (fun _ => true) with
      lastRead := readValue s off
      free := s.free + (if (waitFields off).isEmpty then 0 else 1) } := by
  have hoff : off / 8 * 8 = off := by omega
  obtain ⟨⟨r, i, j⟩, hreg⟩ : ∃ x, regAt off = some x := by
    unfold assigned at hassigned
    exact Option.isSome_iff_exists.1 (Bool.and_eq_true_iff.1 hassigned).1
  unfold ctlReadAt
  dsimp only
  rw [access_read (s := { s with lastRead := 0 }) halign hadmits hassigned hreaches]
  unfold regRead
  dsimp only
  rw [if_neg (not_tpData hdata), readValue_of_same (s := s) rfl]
  rw [clearRc_of_regAt hreg, clearRc_of_regAt hreg]
  cases (waitFields off).isEmpty <;> rfl

/-! ### The log's window -/

/-- Registers at 8-byte steps from `b`, filled. -/
def fillAt (s : State) (b n : Nat) (f : Nat → W64) : State := (List.range n).foldl (fun s k => setReg s (b + 8 * k) (f k)) s

theorem fillAt_succ (s : State) (b n : Nat) (f : Nat → W64) : fillAt s b (n + 1) f = setReg (fillAt s b n f) (b + 8 * n) (f n) := by
  unfold fillAt
  rw [List.range_succ, List.foldl_append]
  rfl

theorem fillAt_agree {s : State} {b n : Nat} {f : Nat → W64} : Agree 32 s (fillAt s b n f) := by
  unfold fillAt
  exact Agree.foldl (fun u k h => setReg_agree.after rfl h) (Agree.refl _ _)

theorem getReg_fillAt_ne {s : State} {b n o : Nat} {f : Nat → W64} (hs : TablesOk s) (ho : ∀ k < n, o ≠ b + 8 * k) :
    getReg (fillAt s b n f) o = getReg s o := by
  induction n with
  | zero => rfl
  | succ n ih =>
    rw [fillAt_succ, getReg_setReg_ne (fillAt_agree.tabOk hs) (ho n (Nat.lt_succ_self n))]
    exact ih fun k hk => ho k (Nat.lt_succ_of_lt hk)

theorem getReg_fillAt {s : State} {b n k : Nat} {f : Nat → W64} (hs : TablesOk s) (hk : k < n) :
    getReg (fillAt s b n f) (b + 8 * k) = f k := by
  induction n with
  | zero => omega
  | succ n ih =>
    rw [fillAt_succ]
    by_cases h : k = n
    · rw [h, getReg_setReg_same (fillAt_agree.tabOk hs)]
    · rw [getReg_setReg_ne (fillAt_agree.tabOk hs) (by omega)]
      exact ih (by omega)

/-- No record reads as zero bytes. -/
theorem leAt_zeros (k : Nat) : leAt (List.replicate 64 0#8) (8 * k) 8 = leAt [] (8 * k) 8 := by
  have hzeros (n : Nat) : sliceB (List.replicate n 0#8) (8 * k) 8 = List.replicate 8 0#8 := by
    unfold sliceB
    dsimp only
    rw [List.drop_replicate, List.take_replicate, List.length_replicate, List.replicate_append_replicate]
    exact congrArg (List.replicate · _) (by omega)
  unfold leAt
  rw [hzeros 64, ← hzeros 0]
  rfl

/-- The window shows the record that SEQ names at once (R480). -/
theorem logSelWrite_leaves {s : State} {v : W64} (hs : TablesOk s) :
    let seq := bitsOf v.toNat 0 48
    let r := if seq = 0 then none else findRecord s seq
    let t := logSelWrite (Wr.full v) s
    getF t MGT_LOG_SEL_READY = 1 ∧ getF t MGT_LOG_SEL_FOUND = b2n r.isSome ∧ t.mem = s.mem ∧
      ∀ k < 8, getReg t (MGT_LOG_DATA0_DATA.off + 8 * k) =
        BitVec.ofNat 64 (leAt ((r.map (fun r => r.bytes seq)).getD []) (8 * k) 8) := by
  intro seq r
  have hwrite : Agree 32 s (writeFields s MGT_LOG_SEL_SEQ.off (Wr.full v)) := writeFields_agree
  have hreg : (regAt MGT_LOG_SEL_SEQ.off).map (fun x => x.1.fields) = some [⟨0, 48, .rw, 0⟩, ⟨62, 1, .ro, 0⟩, ⟨63, 1, .ro, 0⟩] := by
    decide +kernel
  obtain ⟨⟨d, i, j⟩, hat, hfields⟩ := Option.map_eq_some_iff.1 hreg
  have hseq : getF (writeFields s MGT_LOG_SEL_SEQ.off (Wr.full v)) MGT_LOG_SEL_SEQ = seq :=
    getF_writeFields (f := ⟨0, 48, .rw, 0⟩) hs hat (by rw [hfields]; exact List.mem_cons_self) rfl rfl rfl
  have hrecord : findRecord (writeFields s MGT_LOG_SEL_SEQ.off (Wr.full v)) seq = findRecord s seq := by
    unfold findRecord queueFirstSeq
    rw [hwrite.area .flash rfl, hwrite.area .mgmt rfl]
  unfold logSelWrite
  extract_lets s1 seq1 r1 bytes s2 t
  have hseq1 : seq1 = seq := hseq
  have hr1 : r1 = r := by
    unfold r1 r
    rw [hseq1]
    rw [hrecord]
  have h1 : TablesOk s1 := hwrite.tabOk hs
  have hmem1 : s1.mem = s.mem := hwrite.area .mem rfl
  clear_value s1 seq1
  subst hseq1
  have hready : Agree 32 s1 (setF s1 MGT_LOG_SEL_READY 0 1) := setF_agree
  have hfound : Agree 32 (setF s1 MGT_LOG_SEL_READY 0 1) s2 := setF_agree
  have h1' := hready.tabOk h1
  have h2 : TablesOk s2 := hfound.tabOk h1'
  have hfill : (List.range 8).foldl (fun s k => setReg s (MGT_LOG_DATA0_DATA.off + 8 * k) (BitVec.ofNat 64 (leAt bytes (8 * k) 8))) s2 =
      fillAt s2 MGT_LOG_DATA0_DATA.off 8 (fun k => BitVec.ofNat 64 (leAt bytes (8 * k) 8)) := rfl
  have hready2 : getF s2 MGT_LOG_SEL_READY = 1 :=
    (getF_setF_beside (f := MGT_LOG_SEL_FOUND) (g := MGT_LOG_SEL_READY) h1' (by decide) rfl (.inl (by decide))).trans
      (getF_setF_same h1 (by decide))
  have hfound2 : getF s2 MGT_LOG_SEL_FOUND = b2n r1.isSome := by
    refine (getF_setF_same h1' (by decide)).trans ?_
    cases r1.isSome <;> rfl
  have hmem2 : s2.mem = s.mem := (hfound.area .mem rfl).trans ((hready.area .mem rfl).trans hmem1)
  have hsel (o : Nat) (ho : o = 0x18110) : getReg (fillAt s2 MGT_LOG_DATA0_DATA.off 8 (fun k => BitVec.ofNat 64 (leAt bytes (8 * k) 8))) o =
      getReg s2 o := by
    refine getReg_fillAt_ne h2 fun k _ => ?_
    simp only [MGT_LOG_DATA0_DATA, ho]
    omega
  clear_value s2
  have ht : t = fillAt s2 MGT_LOG_DATA0_DATA.off 8 (fun k => BitVec.ofNat 64 (leAt bytes (8 * k) 8)) := hfill
  rw [ht]
  refine ⟨?_, ?_, (fillAt_agree.area .mem rfl).trans hmem2, fun k hk => ?_⟩
  · rw [← hready2]
    unfold getF
    rw [hsel (MGT_LOG_SEL_READY.at 0) rfl]
  · rw [← hr1, ← hfound2]
    unfold getF
    rw [hsel (MGT_LOG_SEL_FOUND.at 0) rfl]
  · rw [getReg_fillAt h2 hk]
    unfold bytes
    rw [hr1]
    cases r with
    | none => exact congrArg _ (leAt_zeros k)
    | some x => rfl

/-! ### The stacks' test ports -/

theorem getReg_writeFields_ne {s : State} {off o : Nat} {w : Wr} (hs : TablesOk s) (ho : o ≠ off) :
    getReg (writeFields s off w) o = getReg s o := by
  unfold writeFields
  split
  · rfl
  · exact getReg_setReg_ne hs ho

theorem quiet_of_hbm {o : Nat} (h : 0x50000 ≤ o) : Quiet o := by
  refine ⟨.inr (by omega), fun hin => ?_⟩
  have hlow : ∀ o ∈ eventOffs, o < 0x50000 := by decide
  have := hlow _ hin
  omega

theorem tpCtrl_fields {k : Nat} (hk : k < 12) : ∃ r i j, regAt (HBM_TP_CTRL_INSTR.at k) = some (r, i, j) ∧
    r.fields = [⟨0, 8, .rw, 0⟩, ⟨8, 16, .rw, 0⟩, ⟨63, 1, .wo, 0⟩] := by
  have hall : ∀ k < 12, (regAt (HBM_TP_CTRL_INSTR.at k)).map (fun x => x.1.fields) =
      some [⟨0, 8, .rw, 0⟩, ⟨8, 16, .rw, 0⟩, ⟨63, 1, .wo, 0⟩] := by decide +kernel
  obtain ⟨⟨r, i, j⟩, hat, hfields⟩ := Option.map_eq_some_iff.1 (hall k hk)
  exact ⟨r, i, j, hat, hfields⟩

theorem tpData_fields {k : Nat} (hk : k < 12) : ∃ r i j, regAt (HBM_TP_DATA_DATA.at k) = some (r, i, j) ∧
    r.fields = [⟨0, 64, .rw, 0⟩] := by
  have hall : ∀ k < 12, (regAt (HBM_TP_DATA_DATA.at k)).map (fun x => x.1.fields) = some [⟨0, 64, .rw, 0⟩] := by decide +kernel
  obtain ⟨⟨r, i, j⟩, hat, hfields⟩ := Option.map_eq_some_iff.1 (hall k hk)
  exact ⟨r, i, j, hat, hfields⟩

section
variable {s : State} {k : Nat} {v : W64} (hs : TablesOk s) (hk : k < 12)
include hs hk

theorem getF_len_written : getF (writeFields s (HBM_TP_CTRL_INSTR.at k) (Wr.full v)) HBM_TP_CTRL_LEN k = bitsOf v.toNat 8 16 := by
  obtain ⟨r, i, j, hat, hfields⟩ := tpCtrl_fields hk
  exact field_writeFields (f := ⟨8, 16, .rw, 0⟩) hs hat (by rw [hfields]; simp)

theorem getReg_data_written : getReg (writeFields s (HBM_TP_DATA_DATA.at k) (Wr.full v)) (HBM_TP_DATA_DATA.at k) = v := by
  obtain ⟨r, i, j, hat, hfields⟩ := tpData_fields hk
  have h := field_writeFields (v := v) (f := ⟨0, 64, .rw, 0⟩) hs hat (by rw [hfields]; simp)
  unfold writtenField bitsOf at h
  refine BitVec.eq_of_toNat_eq ?_
  have hlt := (getReg (writeFields s (HBM_TP_DATA_DATA.at k) (Wr.full v)) (HBM_TP_DATA_DATA.at k)).isLt
  have hv := v.isLt
  simp only [Nat.pow_zero, Nat.div_one] at h
  omega

end

/-- An operation of a test port that has not shifted LEN bits goes on (R305). -/
theorem tpFinish_of_short {s : State} {k bits : Nat} {words : List W64} (hshift : tblFind s.mgmt.tpShift k = some (bits, words))
    (hlen : bits < getF s HBM_TP_CTRL_LEN k) : tpFinish s k = s := by
  unfold tpFinish tblGet
  rw [hshift]
  exact if_neg fun h => absurd h.2 (Nat.not_le.2 hlen)

theorem getReg_showFloor {s : State} {o : Nat} (hs : TablesOk s) (ho : 0x50000 ≤ o) : getReg (showFloor s) o = getReg s o := by
  have h : AfterEvents (0x50000 ≤ ·) s (showFloor s) := by
    unfold showFloor
    dsimp only
    refine .setF (.setF (.setF (.setF (.setF (AfterEvents.refl hs) ?_) ?_) ?_) ?_) ?_
    all_goals exact Nat.not_le.2 (by decide)
  exact h.regs o ho

theorem getReg_writeFloor {s : State} {fp : Floorplan} {o : Nat} (hs : TablesOk s) (ho : 0x50000 ≤ o) :
    getReg (writeFloor s fp) o = getReg s o := by
  unfold writeFloor
  dsimp only
  refine (getReg_showFloor ?_ ho).trans rfl
  exact ⟨hs.regs, hs.resets, hs.queues, hs.fronds, hs.slots, hs.parts, hs.ports⟩

/-- One that has shifted LEN bits is done (R305). -/
theorem tpFinish_of_done {s : State} {k bits : Nat} {words : List W64} (hs : TablesOk s)
    (hshift : tblFind s.mgmt.tpShift k = some (bits, words)) (hbusy : getF s HBM_TP_STATUS_BUSY k = 1)
    (hlen : getF s HBM_TP_CTRL_LEN k ≤ bits) :
    getF (tpFinish s k) HBM_TP_STATUS_BUSY k = 0 ∧ getF (tpFinish s k) HBM_TP_STATUS_DONE k = 1 := by
  have hset : Agree 32 s (setF s HBM_TP_STATUS_BUSY k 0) := setF_agree
  have hset' : Agree 32 (setF s HBM_TP_STATUS_BUSY k 0) (setF (setF s HBM_TP_STATUS_BUSY k 0) HBM_TP_STATUS_DONE k 1) := setF_agree
  have hbusy1 : getF (setF (setF s HBM_TP_STATUS_BUSY k 0) HBM_TP_STATUS_DONE k 1) HBM_TP_STATUS_BUSY k = 0 :=
    (getF_setF_beside (f := HBM_TP_STATUS_DONE) (g := HBM_TP_STATUS_BUSY) (hset.tabOk hs) (by decide) rfl (.inl (by decide))).trans
      (getF_setF_same hs (by decide))
  have hdone1 : getF (setF (setF s HBM_TP_STATUS_BUSY k 0) HBM_TP_STATUS_DONE k 1) HBM_TP_STATUS_DONE k = 1 :=
    getF_setF_same (hset.tabOk hs) (by decide)
  have htab := hset'.tabOk (hset.tabOk hs)
  unfold tpFinish tblGet
  rw [hshift]
  dsimp only [Option.getD]
  rw [if_pos ⟨hbusy, hlen⟩]
  generalize setF (setF s HBM_TP_STATUS_BUSY k 0) HBM_TP_STATUS_DONE k 1 = u at hbusy1 hdone1 htab ⊢
  split
  · next rec _ =>
    have hu (m : MgmtSt) : TablesOk { u with mgmt := m } :=
      ⟨htab.regs, htab.resets, htab.queues, htab.fronds, htab.slots, htab.parts, htab.ports⟩
    split
    · have hoff : 0x50000 ≤ HBM_TP_STATUS_BUSY.at k := by
        simp only [Fld.at, HBM_TP_STATUS_BUSY]
        omega
      refine ⟨Eq.trans ?_ hbusy1, Eq.trans ?_ hdone1⟩
      · exact congrArg (fun v : W64 => bitsOf v.toNat 0 1) (getReg_writeFloor (hu _) hoff)
      · exact congrArg (fun v : W64 => bitsOf v.toNat 1 1) (getReg_writeFloor (hu _) hoff)
    · exact ⟨hbusy1, hdone1⟩
  · exact ⟨hbusy1, hdone1⟩

/-- The state in which 64 bits have been shifted in. -/
def shiftedIn (s : State) (k bits : Nat) (words : List W64) (v : W64) : State :=
  { writeFields s (HBM_TP_DATA_DATA.at k) (Wr.full v) with
    mgmt := { (writeFields s (HBM_TP_DATA_DATA.at k) (Wr.full v)).mgmt with
      tpShift := tblPut (writeFields s (HBM_TP_DATA_DATA.at k) (Wr.full v)).mgmt.tpShift k (some (bits + 64, words ++ [v])) } }

/-- A 64-bit read of a test port's data register shifts the wrapper by 64 bits (R305). -/
def shiftedOut (s : State) (k bits : Nat) (words : List W64) : State :=
  { setReg { s with free := s.free + 1 } (HBM_TP_DATA_DATA.at k)
      (Config.wrapperShiftOut k (getF s HBM_TP_CTRL_INSTR k) s.free) with
    mgmt := { s.mgmt with tpShift := tblPut s.mgmt.tpShift k (some (bits + 64, words)) } }

/-- The data register of a test port reads as it is stored. -/
theorem readValue_tpData {s : State} {k : Nat} (hk : k < 12) : readValue s (HBM_TP_DATA_DATA.at k) = getReg s (HBM_TP_DATA_DATA.at k) := by
  have hall : ∀ k < 12, queueAt (HBM_TP_DATA_DATA.at k) = none ∧ waitFields (HBM_TP_DATA_DATA.at k) = [] := by decide +kernel
  obtain ⟨hqueue, hwaits⟩ := hall k hk
  have hoff : HBM_TP_DATA_DATA.at k = 0x50048 + 0x1000 * k := rfl
  have hvalue : regValue s (HBM_TP_DATA_DATA.at k) = (getReg s (HBM_TP_DATA_DATA.at k)).toNat := by
    unfold regValue
    rw [hqueue]
    dsimp only
    rw [if_neg (by omega), if_neg (by omega), if_neg (by simp only [hoff, ANC_DEV_STATE_STATE]; omega),
      if_neg (by simp only [hoff, INT_SUMMARY_BLOCKS]; omega), if_neg (by omega),
      if_neg (by simp only [hoff, MGT_LICHEN_STATE_STATE]; omega), if_neg (by simp only [hoff, FAB_ID_COLONY]; omega),
      if_neg (by simp only [hoff, DBG_STATE_OPEN]; omega)]
  unfold readValue withWaits
  rw [if_neg (by omega), hwaits, hvalue]
  exact BitVec.ofNat_toNat ..

section
variable {s : State} {k : Nat} (hs : TablesOk s) (hk : k < 12) (a : Requester) (v : W64)
include hs hk

/-- A GO outside SERVICE is refused (R305). -/
theorem tpCtrlWrite_refused (hgo : bitOf v.toNat 63 = true) (hdev : s.dev ≠ .service) :
    let t := tpCtrlWrite k a (Wr.full v) s
    getF t HBM_TP_STATUS_REFUSED k = 1 ∧ Caused t 8 (reqCode a) ∧ getF t HBM_TP_STATUS_BUSY k = getF s HBM_TP_STATUS_BUSY k ∧
      t.mem = s.mem := by
  have hne : HBM_TP_STATUS_BUSY.at k ≠ HBM_TP_CTRL_INSTR.at k := by
    simp only [Fld.at, HBM_TP_STATUS_BUSY, HBM_TP_CTRL_INSTR]
    omega
  have hquiet : Quiet (HBM_TP_STATUS_BUSY.at k) := quiet_of_hbm (by simp only [Fld.at, HBM_TP_STATUS_BUSY]; omega)
  have hbusy : getF (writeFields s (HBM_TP_CTRL_INSTR.at k) (Wr.full v)) HBM_TP_STATUS_BUSY k = getF s HBM_TP_STATUS_BUSY k := by
    unfold getF
    rw [getReg_writeFields_ne hs hne]
  have hwrite : Agree 32 s (writeFields s (HBM_TP_CTRL_INSTR.at k) (Wr.full v)) := writeFields_agree
  have hbody : tpCtrlWrite k a (Wr.full v) s =
      accessError (setF (writeFields s (HBM_TP_CTRL_INSTR.at k) (Wr.full v)) HBM_TP_STATUS_REFUSED k 1) a (HBM_TP_CTRL_INSTR.at k) 3 := by
    have hbit : (Wr.full v).bit 63 = true := hgo
    unfold tpCtrlWrite
    rw [hbit]
    exact (if_neg Bool.false_ne_true).trans (if_pos hdev)
  have htab := hwrite.tabOk hs
  have hmem : (writeFields s (HBM_TP_CTRL_INSTR.at k) (Wr.full v)).mem = s.mem := hwrite.area .mem rfl
  rw [hbody]
  generalize writeFields s (HBM_TP_CTRL_INSTR.at k) (Wr.full v) = u at *
  have hset : Agree 32 u (setF u HBM_TP_STATUS_REFUSED k 1) := setF_agree
  have hev : AfterEvents Quiet (setF u HBM_TP_STATUS_REFUSED k 1) (accessError (setF u HBM_TP_STATUS_REFUSED k 1) a (HBM_TP_CTRL_INSTR.at k) 3) :=
    (AfterEvents.refl (hset.tabOk htab)).accessError fun _ h => h
  obtain ⟨hcaused, -, hm, -⟩ := accessError_onlyErrored a (HBM_TP_CTRL_INSTR.at k) 3 (hset.tabOk htab)
  refine ⟨(hev.getF (f := HBM_TP_STATUS_REFUSED) (i := k) hquiet).trans (getF_setF_same htab (by decide)), hcaused, ?_, hm.trans ((hset.area .mem rfl).trans hmem)⟩
  exact (hev.getF hquiet).trans
    ((getF_setF_beside (f := HBM_TP_STATUS_REFUSED) (g := HBM_TP_STATUS_BUSY) htab (by decide) rfl (.inl (by decide))).trans hbusy)

/-- A GO in SERVICE starts an operation of LEN bits (R305). -/
theorem tpCtrlWrite_started (hgo : bitOf v.toNat 63 = true) (hdev : s.dev = .service) (hlen : 0 < bitsOf v.toNat 8 16) :
    let t := tpCtrlWrite k a (Wr.full v) s
    getF t HBM_TP_STATUS_BUSY k = 1 ∧ tblFind t.mgmt.tpShift k = some (0, []) ∧ t.mem = s.mem := by
  have hne : HBM_TP_CTRL_LEN.at k ≠ HBM_TP_STATUS_BUSY.at k := by
    simp only [Fld.at, HBM_TP_STATUS_BUSY, HBM_TP_CTRL_LEN]
    omega
  have hquiet : Quiet (HBM_TP_STATUS_BUSY.at k) := quiet_of_hbm (by simp only [Fld.at, HBM_TP_STATUS_BUSY]; omega)
  have hquiet' : Quiet (HBM_TP_CTRL_LEN.at k) := quiet_of_hbm (by simp only [Fld.at, HBM_TP_CTRL_LEN]; omega)
  have hwrite : Agree 32 s (writeFields s (HBM_TP_CTRL_INSTR.at k) (Wr.full v)) := writeFields_agree
  have hlen' := getF_len_written (v := v) hs hk
  have htab := hwrite.tabOk hs
  have hmem : (writeFields s (HBM_TP_CTRL_INSTR.at k) (Wr.full v)).mem = s.mem := hwrite.area .mem rfl
  have hbit : (Wr.full v).bit 63 = true := hgo
  unfold tpCtrlWrite
  extract_lets off u w m t
  unfold t
  rw [hbit, Bool.not_true, if_neg Bool.false_ne_true, if_neg (Classical.not_not.2 hdev)]
  have hset : Agree 32 u (setF u HBM_TP_STATUS_BUSY k 1) := setF_agree
  have hev : AfterEvents Quiet (setF u HBM_TP_STATUS_BUSY k 1) w := (AfterEvents.refl (hset.tabOk htab)).wakeLichen fun _ h => h
  have hbusy : getF w HBM_TP_STATUS_BUSY k = 1 := (hev.getF hquiet).trans (getF_setF_same htab (by decide))
  have hlen'' : getF w HBM_TP_CTRL_LEN k = bitsOf v.toNat 8 16 := (hev.getF hquiet').trans ((getF_setF_ne htab hne).trans hlen')
  have hwoken : Agree 524320 (setF u HBM_TP_STATUS_BUSY k 1) w := wakeLichen_agree
  have hmem' : w.mem = s.mem := (hwoken.area .mem rfl).trans ((hset.area .mem rfl).trans hmem)
  clear_value w
  have hshift : tblFind (tblPut w.mgmt.tpShift k (some (0, ([] : List W64)))) k = some (0, []) :=
    (tblFind_tblPut_some _ k k _).trans (if_pos rfl)
  have hgoes := tpFinish_of_short (s := { w with mgmt := { w.mgmt with tpShift := tblPut w.mgmt.tpShift k (some (0, [])) } }) (k := k)
    hshift (hlen''.symm ▸ hlen)
  rw [hgoes]
  exact ⟨hbusy, hshift, hmem'⟩

variable {bits : Nat} {words : List W64} (hdev : s.dev = .service) (hbusy : getF s HBM_TP_STATUS_BUSY k = 1)
  (hshift : tblFind s.mgmt.tpShift k = some (bits, words))
include hdev hbusy hshift

theorem tpDataWrite_shifts : tpDataWrite k a (Wr.full v) s = tpFinish (shiftedIn s k bits words v) k ∧
    TablesOk (shiftedIn s k bits words v) ∧ tblFind (shiftedIn s k bits words v).mgmt.tpShift k = some (bits + 64, words ++ [v]) ∧
      getF (shiftedIn s k bits words v) HBM_TP_STATUS_BUSY k = 1 ∧
      getF (shiftedIn s k bits words v) HBM_TP_CTRL_LEN k = getF s HBM_TP_CTRL_LEN k ∧ (shiftedIn s k bits words v).mem = s.mem := by
  have hwrite : Agree 32 s (writeFields s (HBM_TP_DATA_DATA.at k) (Wr.full v)) := writeFields_agree
  have htab := hwrite.tabOk hs
  have hregs (o : Nat) (ho : o ≠ HBM_TP_DATA_DATA.at k) : getReg (shiftedIn s k bits words v) o = getReg s o :=
    getReg_writeFields_ne hs ho
  refine ⟨?_, ⟨htab.regs, htab.resets, htab.queues, htab.fronds, htab.slots, htab.parts, htab.ports⟩,
    (tblFind_tblPut_some _ k k _).trans (if_pos rfl), ?_, ?_, hwrite.area .mem rfl⟩
  · unfold tpDataWrite tblGet
    dsimp only
    rw [if_neg (Classical.not_not.2 hdev), if_pos hbusy, hshift, getReg_data_written hs hk]
    rfl
  · unfold getF
    rw [hregs _ (by simp only [Fld.at, HBM_TP_STATUS_BUSY, HBM_TP_DATA_DATA]; omega)]
    exact hbusy
  · unfold getF
    rw [hregs _ (by simp only [Fld.at, HBM_TP_CTRL_LEN, HBM_TP_DATA_DATA]; omega)]

omit hk in
/-- A read that does not end the operation (R305). -/
theorem tpDataShift_of_short (hlen : bits + 64 < getF s HBM_TP_CTRL_LEN k) :
    tpDataShift k s = shiftedOut s k bits words ∧ tblFind (shiftedOut s k bits words).mgmt.tpShift k = some (bits + 64, words) ∧
      getReg (shiftedOut s k bits words) (HBM_TP_DATA_DATA.at k) = Config.wrapperShiftOut k (getF s HBM_TP_CTRL_INSTR k) s.free := by
  have hne : HBM_TP_CTRL_LEN.at k ≠ HBM_TP_DATA_DATA.at k := by
    simp only [Fld.at, HBM_TP_CTRL_LEN, HBM_TP_DATA_DATA]
    omega
  have htab : TablesOk { s with free := s.free + 1 } := ⟨hs.regs, hs.resets, hs.queues, hs.fronds, hs.slots, hs.parts, hs.ports⟩
  have hfind : tblFind (shiftedOut s k bits words).mgmt.tpShift k = some (bits + 64, words) :=
    (tblFind_tblPut_some _ k k _).trans (if_pos rfl)
  have hlen' : getF (shiftedOut s k bits words) HBM_TP_CTRL_LEN k = getF s HBM_TP_CTRL_LEN k :=
    congrArg (fun v : W64 => bitsOf v.toNat 8 16) (getReg_setReg_ne htab hne)
  refine ⟨?_, hfind, getReg_setReg_same htab⟩
  refine Eq.trans ?_ (tpFinish_of_short hfind (by rw [hlen']; exact hlen))
  unfold tpDataShift tblGet
  rw [if_pos ⟨hdev, hbusy⟩, hshift]
  rfl

end

theorem hbmTpDataRead_of_short {s : State} {k bits : Nat} {words : List W64} {a : Requester} (hs : TablesOk s) (hk : k < 12)
    (hreached : Reached s a (HBM_TP_DATA_DATA.at k)) (hdev : s.dev = .service) (hbusy : getF s HBM_TP_STATUS_BUSY k = 1)
    (hshift : tblFind s.mgmt.tpShift k = some (bits, words)) (hlen : bits + 64 < getF s HBM_TP_CTRL_LEN k) :
    let t := ctlReadAt ⟨a, HBM_TP_DATA_DATA.at k, .w64⟩ 0 s
    tblFind t.mgmt.tpShift k = some (bits + 64, words) ∧
      t.lastRead = Config.wrapperShiftOut k (getF s HBM_TP_CTRL_INSTR k) s.free ∧ t.mem = s.mem := by
  have hoff : HBM_TP_DATA_DATA.at k = 0x50048 + 0x1000 * k := rfl
  obtain ⟨hadmits, hassigned, hreaches, -⟩ := hreached
  have hpage : pageIndex 0x50000 (HBM_TP_DATA_DATA.at k) = k := by
    unfold pageIndex
    omega
  have hnone : (waitFields (HBM_TP_DATA_DATA.at k)).isEmpty = true := by
    have hall : ∀ k < 12, (waitFields (HBM_TP_DATA_DATA.at k)).isEmpty = true := by decide +kernel
    exact hall k hk
  have hs0 : TablesOk (dropShadow { s with lastRead := 0 } a) := ⟨hs.regs, hs.resets, hs.queues, hs.fronds, hs.slots, hs.parts, hs.ports⟩
  obtain ⟨hbody, hfind, hreg⟩ := tpDataShift_of_short (s := dropShadow { s with lastRead := 0 } a) hs0 hdev hbusy hshift hlen
  have hcond : 0x50000 ≤ HBM_TP_DATA_DATA.at k ∧ HBM_TP_DATA_DATA.at k < 0x5C000 ∧ HBM_TP_DATA_DATA.at k % 0x1000 = 0x48 ∧
      decide (HBM_TP_DATA_DATA.at k % 8 = 0) = true := ⟨by omega, by omega, by omega, decide_eq_true (by omega)⟩
  have hread : ctlReadAt ⟨a, HBM_TP_DATA_DATA.at k, .w64⟩ 0 s =
      { clearRc (shiftedOut (dropShadow { s with lastRead := 0 } a) k bits words) (HBM_TP_DATA_DATA.at k) (fun _ => true) with
        lastRead := readValue (shiftedOut (dropShadow { s with lastRead := 0 } a) k bits words) (HBM_TP_DATA_DATA.at k) } := by
    unfold ctlReadAt
    dsimp only
    rw [access_read (s := { s with lastRead := 0 }) (by omega) hadmits hassigned hreaches]
    unfold regRead
    dsimp only
    rw [hpage, if_pos hcond, hbody, if_pos hnone]
  have hclear : Agree 32 (shiftedOut (dropShadow { s with lastRead := 0 } a) k bits words)
      (clearRc (shiftedOut (dropShadow { s with lastRead := 0 } a) k bits words) (HBM_TP_DATA_DATA.at k) (fun _ => true)) := clearRc_agree
  intro t
  unfold t
  rw [hread, readValue_tpData hk]
  refine ⟨?_, hreg, ?_⟩
  · rw [← hfind]
    exact congrArg (fun m : MgmtSt => tblFind m.tpShift k) (hclear.area .mgmt rfl)
  · exact hclear.area .mem rfl

/-- Settles O54: accesses act by the register's rule and its fields' types, the log's window is filled at once, and the test ports shift. -/
theorem registerAccess : Obligations.RegisterAccess := by
  refine ⟨fun a off v s halign h => congrArg Host.Outcome.next (registerWrite_of_reached v halign h),
    fun off v s r i j f hs hat hf => ⟨field_writeFields hs hat hf, field_clearRc hs hat hf⟩,
    fun a off gap s halign hadmits hassigned hreaches hdata =>
      congrArg Host.Outcome.next (clearingRead_of_plain halign hadmits hassigned hreaches hdata),
    fun a off v s hs halign hadmits hassigned hno => ⟨_, rfl, registerWrite_refused v hs halign hadmits hassigned hno⟩,
    fun a v s hs hreached => ?_, fun k a v s hs hk hreached hgo => ?_, fun k bits words a v s hs hk hreached hdev hbusy hshift => ?_⟩
  · intro seq r
    exact ⟨_, congrArg Host.Outcome.next (touch_of_reached hreached), logSelWrite_leaves (dropShadow_agree.tabOk hs)⟩
  · have hexec : exec (.hbmTpGo k a v) s = .next (tpCtrlWrite k a (Wr.full v) (dropShadow s a)) :=
      congrArg Host.Outcome.next (touch_of_reached hreached)
    have hs0 : TablesOk (dropShadow s a) := dropShadow_agree.tabOk hs
    exact ⟨fun hdev => ⟨_, hexec, tpCtrlWrite_refused hs0 hk a v hgo hdev⟩,
      fun hdev hlen => ⟨_, hexec, tpCtrlWrite_started hs0 hk a v hgo hdev hlen⟩⟩
  · have hs0 : TablesOk (dropShadow s a) := dropShadow_agree.tabOk hs
    obtain ⟨hbody, htab, hfind, hbusy', hlen', hmem⟩ :=
      tpDataWrite_shifts (s := dropShadow s a) hs0 hk a v (bits := bits) (words := words) hdev hbusy hshift
    have hexec : exec (.hbmTpDataWrite k a v) s = .next (tpFinish (shiftedIn (dropShadow s a) k bits words v) k) :=
      congrArg Host.Outcome.next ((touch_of_reached hreached).trans hbody)
    refine ⟨fun hlen => ⟨?_, _, rfl, hbmTpDataRead_of_short hs hk hreached hdev hbusy hshift hlen⟩, fun hlen => ?_⟩
    · rw [tpFinish_of_short hfind (by rw [hlen']; exact hlen)] at hexec
      exact ⟨_, hexec, hfind, hbusy', hmem⟩
    · obtain ⟨hidle, hdone⟩ := tpFinish_of_done htab hfind hbusy' (by rw [hlen']; exact hlen)
      exact ⟨_, hexec, hidle, hdone, (tpFinish_agree.area .mem rfl).trans hmem⟩

end Sys2Proof.Proofs
end

section
/-! SUPPORT. Restores and firmware updates (R422, R423, R484). -/

namespace Sys2Proof.Proofs

open Sys2Proof Sys2Proof.Machine Sys2Proof.Safety Sys2Proof.Frame Sys2Proof.Claims Sys2Proof.Laws

/-! ### RESTORE -/

theorem fields_of_regAt {off : Nat} {l : List FieldDef} (h : (regAt off).map (fun x => x.1.fields) = some l) :
    ∃ r i j, regAt off = some (r, i, j) ∧ r.fields = l := by
  obtain ⟨⟨r, i, j⟩, hat, hfields⟩ := Option.map_eq_some_iff.1 h
  exact ⟨r, i, j, hat, hfields⟩

theorem beq_one_bitsOf (v n : Nat) : (bitsOf v n 1 == 1) = bitOf v n := by
  unfold bitOf
  rfl

/-- The state in which a restore's control register has been written. -/
def restoreSet (s : State) (v : W64) : State := writeFields s ANC_RESTORE_CTRL_SRC_DEV.off (Wr.full v)

theorem restoreSet_leaves {s : State} {v : W64} (hs : TablesOk s) :
    TablesOk (restoreSet s v) ∧ getF (restoreSet s v) ANC_RESTORE_CTRL_PARTITION = bitsOf v.toNat 13 3 ∧
      getF (restoreSet s v) ANC_RESTORE_CTRL_REMOTE = bitsOf v.toNat 12 1 ∧
      getF (restoreSet s v) ANC_RESTORE_CTRL_SRC_DEV = bitsOf v.toNat 0 12 ∧
      getF (restoreSet s v) ANC_RESTORE_SRC_ADDR = getF s ANC_RESTORE_SRC_ADDR ∧ (restoreSet s v).mgmt = s.mgmt ∧
      (restoreSet s v).parts = s.parts ∧ (restoreSet s v).mem = s.mem := by
  have hwrite : Agree 32 s (restoreSet s v) := writeFields_agree
  obtain ⟨r, i, j, hat, hfields⟩ := fields_of_regAt (off := ANC_RESTORE_CTRL_SRC_DEV.off)
    (l := [⟨0, 12, .rw, 0⟩, ⟨12, 1, .rw, 0⟩, ⟨13, 3, .rw, 0⟩, ⟨63, 1, .wo, 0⟩]) (by decide +kernel)
  refine ⟨hwrite.tabOk hs, getF_writeFields (x := ANC_RESTORE_CTRL_PARTITION) (f := ⟨13, 3, .rw, 0⟩) hs hat (by rw [hfields]; simp) rfl rfl rfl,
    getF_writeFields (x := ANC_RESTORE_CTRL_REMOTE) (f := ⟨12, 1, .rw, 0⟩) hs hat (by rw [hfields]; simp) rfl rfl rfl,
    getF_writeFields (x := ANC_RESTORE_CTRL_SRC_DEV) (f := ⟨0, 12, .rw, 0⟩) hs hat (by rw [hfields]; simp) rfl rfl rfl, ?_,
    hwrite.area .mgmt rfl, hwrite.area .parts rfl, hwrite.area .mem rfl⟩
  unfold getF restoreSet
  rw [getReg_writeFields_ne hs (by decide)]

/-- DONE and STATUS of a restore that has ended. -/
theorem restoreDone_shown {s : State} {st : Nat} (hs : TablesOk s) (hst : st < 256) :
    getF (restoreDone s st) ANC_RESTORE_STATUS_STATUS = st ∧ getF (restoreDone s st) ANC_RESTORE_STATUS_DONE = 1 ∧
      getF (restoreDone s st) ANC_RESTORE_STATUS_BUSY = getF s ANC_RESTORE_STATUS_BUSY := by
  have hset : Agree 32 s (setF s ANC_RESTORE_STATUS_STATUS 0 st) := setF_agree
  have h1 := hset.tabOk hs
  refine ⟨?_, getF_setF_same h1 (by decide), ?_⟩
  · exact (getF_setF_beside (f := ANC_RESTORE_STATUS_DONE) (g := ANC_RESTORE_STATUS_STATUS) h1 (by decide) rfl (.inr (by decide))).trans
      ((getF_setF_same hs (by decide)).trans (Nat.mod_eq_of_lt hst))
  · exact (getF_setF_beside (f := ANC_RESTORE_STATUS_DONE) (g := ANC_RESTORE_STATUS_BUSY) h1 (by decide) rfl (.inl (by decide))).trans
      (getF_setF_beside (f := ANC_RESTORE_STATUS_STATUS) (g := ANC_RESTORE_STATUS_BUSY) hs (by decide) rfl (.inl (by decide)))

section
variable {s : State} {a : Requester} {v : W64} (hs : TablesOk s) (hgo : bitOf v.toNat 63 = true)
include hgo

theorem restoreWrite_of_go : restoreWrite a (Wr.full v) s =
    if (restoreSet s v).mgmt.restore.isSome then accessError (restoreSet s v) a ANC_RESTORE_CTRL_SRC_DEV.off 3
    else if (getPart (restoreSet s v) (getF (restoreSet s v) ANC_RESTORE_CTRL_PARTITION)).state ≠ .loaded then
      restoreDone (restoreSet s v) stIllegal
    else
      let r : RestoreSt := ⟨getF (restoreSet s v) ANC_RESTORE_CTRL_PARTITION, getF (restoreSet s v) ANC_RESTORE_SRC_ADDR,
        getF (restoreSet s v) ANC_RESTORE_CTRL_REMOTE == 1, getF (restoreSet s v) ANC_RESTORE_CTRL_SRC_DEV, [], false, []⟩
      let s1 := wakeLichen (setF (restoreSet s v) ANC_RESTORE_STATUS_BUSY 0 1)
      readOn { s1 with mgmt := { s1.mgmt with restore := some r } } r := by
  have hbit : (Wr.full v).bit 63 = true := hgo
  unfold restoreWrite
  rw [hbit]
  exact if_neg Bool.false_ne_true

include hs

/-- While a restore is under way, another is discarded (R426). -/
theorem restoreWrite_busy (hbusy : s.mgmt.restore.isSome = true) :
    let t := restoreWrite a (Wr.full v) s
    t.mgmt.restore = s.mgmt.restore ∧ t.mem = s.mem ∧ Caused t 8 (reqCode a) := by
  obtain ⟨htab, -, -, -, -, hmgmt, -, hmem⟩ := restoreSet_leaves (v := v) hs
  have hbody := restoreWrite_of_go (s := s) (a := a) hgo
  rw [if_pos (by rw [hmgmt]; exact hbusy)] at hbody
  obtain ⟨hcaused, -, hm, -, -, -, -, -, -, hmg, -⟩ := accessError_onlyErrored a ANC_RESTORE_CTRL_SRC_DEV.off 3 htab
  rw [hbody]
  exact ⟨congrArg MgmtSt.restore (hmg.trans hmgmt), hm.trans hmem, hcaused⟩

variable (hfree : s.mgmt.restore = none)
include hfree

theorem restoreWrite_unloaded (hstate : (getPart s (bitsOf v.toNat 13 3)).state ≠ .loaded) :
    let t := restoreWrite a (Wr.full v) s
    t.mgmt.restore = none ∧ getF t ANC_RESTORE_STATUS_STATUS = stIllegal ∧ getF t ANC_RESTORE_STATUS_DONE = 1 ∧ t.mem = s.mem := by
  obtain ⟨htab, hpart, -, -, -, hmgmt, hparts, hmem⟩ := restoreSet_leaves (v := v) hs
  have hbody := restoreWrite_of_go (s := s) (a := a) hgo
  rw [if_neg (by rw [hmgmt, hfree]; exact Bool.false_ne_true), if_pos (by rw [hpart, getPart_of_parts_eq hparts]; exact hstate)] at hbody
  obtain ⟨hstatus, hdone, -⟩ := restoreDone_shown (st := stIllegal) htab (by decide)
  have hagree : Agree 32 (restoreSet s v) (restoreDone (restoreSet s v) stIllegal) := restoreDone_agree
  rw [hbody]
  exact ⟨(congrArg MgmtSt.restore ((hagree.area .mgmt rfl).trans hmgmt)).trans hfree, hstatus, hdone, (hagree.area .mem rfl).trans hmem⟩

/-- A restore of a LOADED partition is under way, and a remote one sends its first read (R422). -/
theorem restoreWrite_loaded (hstate : (getPart s (bitsOf v.toNat 13 3)).state = .loaded) :
    let t := restoreWrite a (Wr.full v) s
    t.mem = s.mem ∧ getF t ANC_RESTORE_STATUS_BUSY = 1 ∧
      t.mgmt.restore = some ⟨bitsOf v.toNat 13 3, getF s ANC_RESTORE_SRC_ADDR, bitOf v.toNat 12, bitsOf v.toNat 0 12, [], false, []⟩ ∧
      (bitOf v.toNat 12 = true → ∃ o, t.fabric.outq.getLast? = some o ∧ o.msg.mtype = 0x03 ∧ o.msg.dst = bitsOf v.toNat 0 12 ∧
        o.vc = 12) := by
  obtain ⟨htab, hpart, hremote, hdev, haddr, hmgmt, hparts, hmem⟩ := restoreSet_leaves (v := v) hs
  have hbody := restoreWrite_of_go (s := s) (a := a) hgo
  rw [if_neg (by rw [hmgmt, hfree]; exact Bool.false_ne_true), if_neg (by rw [hpart, getPart_of_parts_eq hparts]; exact Classical.not_not.2 hstate),
    hpart, hremote, hdev, haddr, beq_one_bitsOf] at hbody
  have hset : Agree 32 (restoreSet s v) (setF (restoreSet s v) ANC_RESTORE_STATUS_BUSY 0 1) := setF_agree
  have hev : AfterEvents Quiet (setF (restoreSet s v) ANC_RESTORE_STATUS_BUSY 0 1)
      (wakeLichen (setF (restoreSet s v) ANC_RESTORE_STATUS_BUSY 0 1)) := (AfterEvents.refl (hset.tabOk htab)).wakeLichen fun _ h => h
  have hbusy := (hev.getF (f := ANC_RESTORE_STATUS_BUSY) (i := 0) ⟨by decide, by decide⟩).trans (getF_setF_same htab (by decide))
  have hmem1 : (wakeLichen (setF (restoreSet s v) ANC_RESTORE_STATUS_BUSY 0 1)).mem = s.mem :=
    (wakeLichen_agree.area .mem rfl).trans ((hset.area .mem rfl).trans hmem)
  dsimp only at hbody
  rw [hbody]
  generalize wakeLichen (setF (restoreSet s v) ANC_RESTORE_STATUS_BUSY 0 1) = u at hbusy hmem1 ⊢
  have hneed : streamRead ⟨bitsOf v.toNat 13 3, getF s ANC_RESTORE_SRC_ADDR, bitOf v.toNat 12, bitsOf v.toNat 0 12, [], false, []⟩ =
      !bitOf v.toNat 12 := by
    cases bitOf v.toNat 12 <;> rfl
  unfold readOn
  rw [hneed]
  rcases bitOf v.toNat 12 with _ | _
  · exact ⟨hmem1, hbusy, rfl, fun h => nomatch h⟩
  · exact ⟨hmem1, hbusy, rfl, fun _ => ⟨_, List.getLast?_concat, rfl, rfl, rfl⟩⟩

end

/-! ### RESTORE_END -/

/-- The end of a restore shows in its status register. -/
theorem restoreEnded_shown {s : State} {order st : Nat} (hs : TablesOk s) (hst : st < 256) :
    let t := restoreDone (setF (setF s ANC_RESTORE_STATUS_BUSY 0 0) ANC_RESTORE_STATUS_ORDER_CHANGED 0 order) st
    getF t ANC_RESTORE_STATUS_BUSY = 0 ∧ getF t ANC_RESTORE_STATUS_DONE = 1 ∧ getF t ANC_RESTORE_STATUS_STATUS = st ∧
      t.mgmt = s.mgmt ∧ t.parts = s.parts := by
  have hset : Agree 32 s (setF s ANC_RESTORE_STATUS_BUSY 0 0) := setF_agree
  have hset' : Agree 32 (setF s ANC_RESTORE_STATUS_BUSY 0 0)
    (setF (setF s ANC_RESTORE_STATUS_BUSY 0 0) ANC_RESTORE_STATUS_ORDER_CHANGED 0 order) := setF_agree
  have hidle : getF (setF (setF s ANC_RESTORE_STATUS_BUSY 0 0) ANC_RESTORE_STATUS_ORDER_CHANGED 0 order) ANC_RESTORE_STATUS_BUSY = 0 :=
    (getF_setF_beside (f := ANC_RESTORE_STATUS_ORDER_CHANGED) (g := ANC_RESTORE_STATUS_BUSY) (hset.tabOk hs) (by decide) rfl
      (.inl (by decide))).trans (getF_setF_same hs (by decide))
  have hmgmt := (hset'.area .mgmt rfl).trans (hset.area .mgmt rfl)
  have hparts := (hset'.area .parts rfl).trans (hset.area .parts rfl)
  have htab := hset'.tabOk (hset.tabOk hs)
  generalize setF (setF s ANC_RESTORE_STATUS_BUSY 0 0) ANC_RESTORE_STATUS_ORDER_CHANGED 0 order = u at *
  obtain ⟨hstatus, hdone, hbusy⟩ := restoreDone_shown htab hst
  have hd : Agree 32 u (restoreDone u st) := restoreDone_agree
  exact ⟨hbusy.trans hidle, hdone, hstatus, (hd.area .mgmt rfl).trans hmgmt, (hd.area .parts rfl).trans hparts⟩

theorem restoreStatus_lt (s : State) (r : RestoreSt) (rs : List StreamRec) : restoreStatus s r rs < 256 := by
  unfold restoreStatus
  dsimp only
  split
  · decide
  · split
    · decide
    · split
      · decide
      · split <;> decide

/-- From `s` to `t` partition `p` has kept its version. -/
def VersionKept (p : Nat) (s t : State) : Prop := TablesOk t ∧ (getPart t p).version = (getPart s p).version

theorem VersionKept.after {p A : Nat} {s t u : State} (h : VersionKept p s t) (ha : Agree A t u)
    (hparts : A.testBit Area.parts.idx = false) : VersionKept p s u :=
  ⟨ha.tabOk h.1, by rw [getPart_of_parts_eq (ha.area .parts hparts)]; exact h.2⟩

theorem VersionKept.modPart {p : Nat} {s t : State} {g : PartSt → PartSt} (h : VersionKept p s t)
    (hg : ∀ x, (g x).version = x.version) : VersionKept p s (modPart t p g) :=
  ⟨modPart_agree.tabOk h.1, by rw [getPart_modPart_same h.1, hg]; exact h.2⟩

theorem VersionKept.foldl {β : Type} {p : Nat} {s : State} {g : State → β → State} (hg : ∀ u b, VersionKept p s u → VersionKept p s (g u b))
    (l : List β) {t : State} (h : VersionKept p s t) : VersionKept p s (l.foldl g t) :=
  List.foldlRecOn (motive := VersionKept p s) _ _ h fun u hu b _ => hg u b hu

theorem restoreTables_version {s : State} {p version : Nat} {rs : List StreamRec} (hs : TablesOk s) :
    VersionKept p s (restoreTables s p version rs) := by
  unfold restoreTables
  extract_lets +onlyGivenNames hb recs norms trace before usable empty s1 s2 size s3 scales
  have h1 : VersionKept p s s1 := VersionKept.modPart ⟨hs, rfl⟩ fun _ => rfl
  have h2 : VersionKept p s s2 := h1.after logWarm_agree rfl
  clear_value s2
  have h3 : VersionKept p s s3 := by
    unfold s3
    split
    · split
      · exact h2
      · refine VersionKept.foldl (fun u e hu => ?_) _ h2
        exact VersionKept.modPart (hu.after writeBytes_agree rfl) fun _ => rfl
    · exact h2
  exact h3.modPart fun _ => rfl

/-- A restore that ends with OK gives the partition the stream's version (R423). -/
theorem finishRestore_leaves {s : State} {r : RestoreSt} {rs : List StreamRec} (hs : TablesOk s) :
    let t := finishRestore s r rs
    t.mgmt.restore = none ∧ getF t ANC_RESTORE_STATUS_BUSY = 0 ∧ getF t ANC_RESTORE_STATUS_DONE = 1 ∧
      getF t ANC_RESTORE_STATUS_STATUS = stOK ∧ (getPart t r.part).version = leAt (payloadOf rs 1) 0 8 := by
  unfold finishRestore
  extract_lets v0 p state version s1 ts s2 s3 s4 s5 ms changed m s6 t
  have h1 : Agree 5055264 s s1 := by
    refine Agree.foldl (fun u x hu => ?_) (Agree.refl _ _)
    split
    · exact putRuns_agree.after rfl hu
    · exact hu
  have h2 : Agree 5071648 s1 s2 :=
    Agree.foldl (fun u t hu => restoreCopy_agree.after rfl (restoreCopy_agree.after rfl hu)) (Agree.refl _ _)
  have htab2 : TablesOk s2 := h2.tabOk (h1.tabOk hs)
  clear_value s2
  have htab3 : TablesOk s3 := modPart_agree.tabOk htab2
  have hversion3 : (getPart s3 p).version = version := by
    unfold s3
    rw [getPart_modPart_same htab2]
  clear_value s3
  have hstep : Agree 32 s3 (setF s3 ANC_STEP_COUNT_STEP p version) := setF_agree
  have hkept : VersionKept p (setF s3 ANC_STEP_COUNT_STEP p version) s4 := restoreTables_version (hstep.tabOk htab3)
  obtain ⟨htab4, hversion4⟩ := hkept
  rw [getPart_of_parts_eq (hstep.area .parts rfl), hversion3] at hversion4
  clear_value s4
  have htab5 : TablesOk s5 := setReg_agree.tabOk htab4
  have hparts5 : s5.parts = s4.parts := rfl
  clear_value s5
  have htab6 : TablesOk s6 := ⟨htab5.regs, htab5.resets, htab5.queues, htab5.fronds, htab5.slots, htab5.parts, htab5.ports⟩
  have hnone : s6.mgmt.restore = none := rfl
  have hparts6 : s6.parts = s4.parts := hparts5
  clear_value s6
  obtain ⟨hbusy, hdone, hstatus, hmgmt, hparts⟩ := restoreEnded_shown (order := b2n changed) (st := stOK) htab6 (by decide)
  refine ⟨(congrArg MgmtSt.restore hmgmt).trans hnone, hbusy, hdone, hstatus, ?_⟩
  rw [getPart_of_parts_eq (hparts.trans hparts6)]
  exact hversion4

/-- One that ends without effect leaves the partitions (R422). -/
theorem failRestore_leaves {s : State} {r : RestoreSt} {st : Nat} (hs : TablesOk s) (hr : s.mgmt.restore = some r) (hst : st < 256) :
    let t := failRestore s st
    t.mgmt.restore = none ∧ getF t ANC_RESTORE_STATUS_BUSY = 0 ∧ getF t ANC_RESTORE_STATUS_DONE = 1 ∧
      getF t ANC_RESTORE_STATUS_STATUS = st ∧ t.parts = s.parts := by
  unfold failRestore
  rw [hr]
  dsimp only
  have hun : Agree 5055265 s (undefineSet0 s r.part) := undefineSet0_agree
  have hparts : (undefineSet0 s r.part).parts = s.parts := hun.area .parts rfl
  have htab := hun.tabOk hs
  generalize undefineSet0 s r.part = u at hparts htab ⊢
  have hu (m : MgmtSt) : TablesOk { u with mgmt := m } := ⟨htab.regs, htab.resets, htab.queues, htab.fronds, htab.slots, htab.parts, htab.ports⟩
  obtain ⟨hbusy, hdone, hstatus, hmgmt, hp⟩ := restoreEnded_shown (order := 0) (hu { u.mgmt with restore := none }) hst
  exact ⟨congrArg MgmtSt.restore hmgmt, hbusy, hdone, hstatus, hp.trans hparts⟩

/-! ### Reads leave a restore under way -/

/-- The restore under way is the same. -/
def RestoreSame (s t : State) : Prop := t.mgmt.restore = s.mgmt.restore

theorem RestoreSame.after {A : Nat} {s t u : State} (h : RestoreSame s t) (ha : Agree A t u) (hm : A.testBit Area.mgmt.idx = false) :
    RestoreSame s u :=
  (congrArg MgmtSt.restore (ha.area .mgmt hm)).trans h

theorem RestoreSame.wakeLichen {s t : State} (h : RestoreSame s t) : RestoreSame s (wakeLichen t) := by
  unfold Machine.wakeLichen RestoreSame
  split
  · rw [mgmt_bump]
    exact h
  · exact h

theorem RestoreSame.logEvent {s t : State} {a b c d : Nat} {p : Option Nat} {l : List Byte} (h : RestoreSame s t) :
    RestoreSame s (logEvent t a b c d p l) := by
  unfold Machine.logEvent logEnter
  extract_lets u
  have hu : RestoreSame s u := by
    unfold u
    split
    · exact h.wakeLichen
    · exact h
  clear_value u
  unfold RestoreSame
  split
  · rw [mgmt_raiseCause, mgmt_bump]
    exact hu
  · rw [mgmt_setLogRegs]
    exact hu

theorem RestoreSame.seqPost {s t : State} {f : Nat} {r : LogRec} (h : RestoreSame s t) : RestoreSame s (seqPost t f r) := by
  unfold Machine.seqPost postRequest
  extract_lets bytes s1 s2
  have h1 : Agree 32 t s1 := Agree.foldl (fun _ _ ha => setReg_agree.after rfl ha) (Agree.refl _ _)
  have hs1 : RestoreSame s s1 := h.after h1 rfl
  clear_value s1
  exact RestoreSame.wakeLichen hs1

theorem RestoreSame.seqLogEvent {s t : State} {f : Nat} {r : LogRec} (h : RestoreSame s t) : RestoreSame s (seqLogEvent t f r) := by
  unfold Machine.seqLogEvent
  extract_lets held s1
  have hs1 : RestoreSame s s1 := h
  clear_value s1
  split
  · split
    · exact hs1.seqPost
    · exact hs1
  · unfold RestoreSame
    rw [mgmt_raiseCause, mgmt_bump]
    exact h

theorem RestoreSame.hbmPoisoned {s t : State} {u type cause : Nat} (h : RestoreSame s t) : RestoreSame s (hbmPoisoned t u type cause) := by
  unfold Machine.hbmPoisoned
  extract_lets k st o owner off s1 s2 m s3
  have h1 : RestoreSame s s1 := by
    unfold s1
    split <;> exact h
  have h2 : RestoreSame s s2 := h1.logEvent
  clear_value s2
  have h3 : RestoreSame s s3 := h2
  clear_value s3
  exact h3.after raiseCause_agree rfl

theorem RestoreSame.readCheck {s t : State} {u : Nat} (h : RestoreSame s t) : RestoreSame s (readCheck t u) := by
  unfold Machine.readCheck
  extract_lets x k s0 s1 f s2 c s3
  have h0 : RestoreSame s s0 := h
  clear_value s0
  have hpoisoned {g : Fld} {i : Nat} : RestoreSame s (bump (poisonUnit s0 u) g i 1) :=
    (h0.after poisonUnit_agree rfl).after bump_agree rfl
  split
  · exact h
  · split
    · split
      · exact h0.after bump_agree rfl
      · exact RestoreSame.hbmPoisoned hpoisoned
    · split
      · split
        · exact h0.after bump_agree rfl
        · exact (RestoreSame.seqLogEvent hpoisoned).after raiseCause_agree rfl
      · split
        · exact h0.after bump_agree rfl
        · exact (RestoreSame.logEvent hpoisoned).after raiseCause_agree rfl

/-- Reads of memory leave the restore under way (R299). -/
theorem restoreSame_readUnits (s : State) (us : List Nat) : RestoreSame s (readUnits s us) := by
  unfold readUnits
  refine List.foldlRecOn (motive := RestoreSame s) _ _ rfl fun t h u _ => ?_
  unfold readUnit
  split
  · exact h.readCheck.after bump_agree rfl
  · exact h.readCheck

theorem restoreEnd_leaves {p : Nat} {s : State} {r : RestoreSt} (hs : TablesOk s) (hr : s.mgmt.restore = some r) (hp : r.part = p)
    (hread : streamRead r = true) (hzero : zeroingFor s (.anchor p) = false) :
    let rs := streamRecs s r
    let st := restoreStatus s r rs
    let t := restoreEnd p s
    t.mgmt.restore = none ∧ getF t ANC_RESTORE_STATUS_BUSY = 0 ∧ getF t ANC_RESTORE_STATUS_DONE = 1 ∧
      getF t ANC_RESTORE_STATUS_STATUS = st ∧ (st = stOK → (getPart t p).version = leAt (payloadOf rs 1) 0 8) ∧
      (st ≠ stOK → t.parts = s.parts) := by
  intro rs st
  have hstream : Agree 5055008 s (readStream s r rs) := readStream_agree
  have hsame : RestoreSame s (readStream s r rs) := by
    unfold readStream
    split
    · rfl
    · exact restoreSame_readUnits s _
  have hbody : restoreEnd p s = if st = stOK then finishRestore (readStream s r rs) r rs else failRestore (readStream s r rs) st := by
    unfold restoreEnd
    rw [hr]
    dsimp only
    exact if_neg (by rw [hp, hread, hzero]; simp)
  rw [hbody]
  by_cases hst : st = stOK
  · rw [if_pos hst]
    obtain ⟨hnone, hbusy, hdone, hstatus, hversion⟩ := finishRestore_leaves (r := r) (rs := rs) (hstream.tabOk hs)
    exact ⟨hnone, hbusy, hdone, hstatus.trans hst.symm, fun _ => by rw [← hp]; exact hversion, fun h => absurd hst h⟩
  · rw [if_neg hst]
    obtain ⟨hnone, hbusy, hdone, hstatus, hparts⟩ := failRestore_leaves (hstream.tabOk hs) (hsame.trans hr) (restoreStatus_lt s r rs)
    exact ⟨hnone, hbusy, hdone, hstatus, fun h => absurd h hst, fun _ => hparts.trans (hstream.area .parts rfl)⟩

/-! ### Firmware updates -/

/-- A firmware update ends, and its result shows (R484). -/
theorem fwResult_leaves {s : State} {st slot : Nat} (hs : TablesOk s) (hst : st < 256) (hslot : slot < 2) :
    getF (fwResult s st slot) MGT_FW_RESULT_STATUS = st ∧ getF (fwResult s st slot) MGT_FW_RESULT_DONE = 1 ∧
      getF (fwResult s st slot) MGT_FW_RESULT_BUSY = 0 ∧ getF (fwResult s st slot) MGT_FW_RESULT_SLOT = slot ∧
      Caused (fwResult s st slot) 15 0 ∧ (fwResult s st slot).mem = s.mem ∧ (fwResult s st slot).mgmt = s.mgmt ∧
      (fwResult s st slot).flash = s.flash := by
  have hset {u : State} (f : Fld) (v : Nat) : Agree 32 u (setF u f 0 v) := setF_agree
  have h1 := (hset MGT_FW_RESULT_BUSY 0).tabOk hs
  have h2 := (hset MGT_FW_RESULT_DONE 1).tabOk h1
  have h3 := (hset MGT_FW_RESULT_STATUS st).tabOk h2
  have h4 := (hset MGT_FW_RESULT_SLOT slot).tabOk h3
  have hbusy := FieldKept.setF (g := MGT_FW_RESULT_SLOT) (i := 0) (v := slot) (FieldKept.setF (g := MGT_FW_RESULT_STATUS) (i := 0) (v := st)
    (FieldKept.setF (f := MGT_FW_RESULT_BUSY) (g := MGT_FW_RESULT_DONE) (i := 0) (v := 1) ⟨h1, rfl⟩ (by decide)) (by decide)) (by decide)
  have hdone := FieldKept.setF (g := MGT_FW_RESULT_SLOT) (i := 0) (v := slot) (FieldKept.setF (f := MGT_FW_RESULT_DONE)
    (g := MGT_FW_RESULT_STATUS) (i := 0) (v := st) ⟨h2, rfl⟩ (by decide)) (by decide)
  have hstatus := FieldKept.setF (f := MGT_FW_RESULT_STATUS) (g := MGT_FW_RESULT_SLOT) (i := 0) (v := slot) ⟨h3, rfl⟩ (by decide)
  have hslot' := getF_setF_same (f := MGT_FW_RESULT_SLOT) (i := 0) (v := slot) h3 (by decide)
  have hbusy' := hbusy.2.trans (getF_setF_same hs (by decide))
  have hdone' := hdone.2.trans (getF_setF_same h1 (by decide))
  have hstatus' := hstatus.2.trans (getF_setF_same h2 (by decide))
  have hagree : Agree 32 s (setF (setF (setF (setF s MGT_FW_RESULT_BUSY 0 0) MGT_FW_RESULT_DONE 0 1) MGT_FW_RESULT_STATUS 0 st)
      MGT_FW_RESULT_SLOT 0 slot) := setF_agree.after rfl (setF_agree.after rfl (setF_agree.after rfl setF_agree))
  have hraise : fwResult s st slot = raiseCause (setF (setF (setF (setF s MGT_FW_RESULT_BUSY 0 0) MGT_FW_RESULT_DONE 0 1)
    MGT_FW_RESULT_STATUS 0 st) MGT_FW_RESULT_SLOT 0 slot) 15 0 := rfl
  rw [hraise]
  generalize setF (setF (setF (setF s MGT_FW_RESULT_BUSY 0 0) MGT_FW_RESULT_DONE 0 1) MGT_FW_RESULT_STATUS 0 st)
    MGT_FW_RESULT_SLOT 0 slot = u at *
  have hev : AfterEvents Quiet u (raiseCause u 15 0) := (AfterEvents.refl h4).raiseCause (fun _ h => h) (by decide) (by decide)
  have hcause : Agree 4259872 u (raiseCause u 15 0) := raiseCause_agree.mono rfl
  refine ⟨?_, ?_, ?_, ?_, raiseCause_caused h4 (by decide), (hcause.area .mem rfl).trans (hagree.area .mem rfl),
    (hcause.area .mgmt rfl).trans (hagree.area .mgmt rfl), (hcause.area .flash rfl).trans (hagree.area .flash rfl)⟩
  · exact (hev.getF ⟨by decide, by decide⟩).trans (hstatus'.trans (Nat.mod_eq_of_lt hst))
  · exact (hev.getF ⟨by decide, by decide⟩).trans hdone'
  · exact (hev.getF ⟨by decide, by decide⟩).trans hbusy'
  · exact (hev.getF ⟨by decide, by decide⟩).trans (hslot'.trans (Nat.mod_eq_of_lt hslot))

section
variable {s : State} {a : Requester} {v : W64} (hs : TablesOk s) (hgo : bitOf v.toNat 63 = true)
include hs hgo

/-- FW_UPDATE with GO: discarded, started or refused (R484). -/
theorem fwWrite_leaves :
    let slot := if s.flash.slotA.state = 4 then 1 else 0
    let t := fwWrite a (Wr.full v) s
    (s.mgmt.fwBusy.isSome = true → t.mgmt.fwBusy = s.mgmt.fwBusy ∧ t.mem = s.mem ∧ Caused t 8 (reqCode a)) ∧
    (s.mgmt.fwBusy = none → (s.dev = .ready ∨ s.dev = .service) →
      getF t MGT_FW_RESULT_BUSY = 1 ∧ t.mgmt.fwBusy = some (slot, bitsOf v.toNat 0 40) ∧ t.mem = s.mem) ∧
    (s.mgmt.fwBusy = none → s.dev = .boot → t.mgmt.fwBusy = none ∧
      getF t MGT_FW_RESULT_STATUS = stIllegal ∧ getF t MGT_FW_RESULT_DONE = 1 ∧ Caused t 15 0 ∧ t.mem = s.mem) := by
  have hwrite : Agree 32 s (writeFields s MGT_FW_CTRL_ADDR.off (Wr.full v)) := writeFields_agree
  obtain ⟨r, i, j, hat, hfields⟩ := fields_of_regAt (off := MGT_FW_CTRL_ADDR.off) (l := [⟨0, 40, .rw, 0⟩, ⟨63, 1, .wo, 0⟩]) (by decide +kernel)
  have haddr : getF (writeFields s MGT_FW_CTRL_ADDR.off (Wr.full v)) MGT_FW_CTRL_ADDR = bitsOf v.toNat 0 40 :=
    getF_writeFields (f := ⟨0, 40, .rw, 0⟩) hs hat (by rw [hfields]; simp) rfl rfl rfl
  have htab := hwrite.tabOk hs
  have hmgmt : (writeFields s MGT_FW_CTRL_ADDR.off (Wr.full v)).mgmt = s.mgmt := hwrite.area .mgmt rfl
  have hmem : (writeFields s MGT_FW_CTRL_ADDR.off (Wr.full v)).mem = s.mem := hwrite.area .mem rfl
  have hbit : (Wr.full v).bit 63 = true := hgo
  intro slot
  have hslot : slot < 2 := by unfold slot; split <;> decide
  have hbody : fwWrite a (Wr.full v) s =
      if s.mgmt.fwBusy.isSome then accessError (writeFields s MGT_FW_CTRL_ADDR.off (Wr.full v)) a MGT_FW_CTRL_ADDR.off 3
      else if s.dev = .ready ∨ s.dev = .service then
        let s2 := wakeLichen (setF (writeFields s MGT_FW_CTRL_ADDR.off (Wr.full v)) MGT_FW_RESULT_BUSY 0 1)
        { s2 with mgmt := { s2.mgmt with
          fwBusy := some (slot, getF (writeFields s MGT_FW_CTRL_ADDR.off (Wr.full v)) MGT_FW_CTRL_ADDR) } }
      else fwResult (writeFields s MGT_FW_CTRL_ADDR.off (Wr.full v)) stIllegal slot := by
    unfold fwWrite
    rw [hbit]
    exact if_neg Bool.false_ne_true
  clear_value slot
  rw [haddr] at hbody
  generalize writeFields s MGT_FW_CTRL_ADDR.off (Wr.full v) = u at hbody htab hmgmt hmem
  refine ⟨fun hbusy => ?_, fun hfree hdev => ?_, fun hfree hdev => ?_⟩
  · rw [hbody, if_pos hbusy]
    obtain ⟨hcaused, -, hm, -, -, -, -, -, -, hmg, -⟩ := accessError_onlyErrored a MGT_FW_CTRL_ADDR.off 3 htab
    exact ⟨congrArg MgmtSt.fwBusy (hmg.trans hmgmt), hm.trans hmem, hcaused⟩
  · rw [hbody, if_neg (by rw [hfree]; exact Bool.false_ne_true), if_pos hdev]
    have hset : Agree 32 u (setF u MGT_FW_RESULT_BUSY 0 1) := setF_agree
    have hev : AfterEvents Quiet (setF u MGT_FW_RESULT_BUSY 0 1) (wakeLichen (setF u MGT_FW_RESULT_BUSY 0 1)) :=
      (AfterEvents.refl (hset.tabOk htab)).wakeLichen fun _ h => h
    have hshown := (hev.getF (f := MGT_FW_RESULT_BUSY) (i := 0) ⟨by decide, by decide⟩).trans (getF_setF_same htab (by decide))
    have hm : (wakeLichen (setF u MGT_FW_RESULT_BUSY 0 1)).mem = s.mem :=
      (wakeLichen_agree.area .mem rfl).trans ((hset.area .mem rfl).trans hmem)
    dsimp only
    generalize wakeLichen (setF u MGT_FW_RESULT_BUSY 0 1) = w at hshown hm ⊢
    exact ⟨hshown, rfl, hm⟩
  · rw [hbody, if_neg (by rw [hfree]; exact Bool.false_ne_true), if_neg (by rw [hdev]; decide)]
    obtain ⟨hstatus, hdone, -, -, hcaused, hm, hmg, -⟩ := fwResult_leaves (st := stIllegal) htab (by decide) hslot
    exact ⟨(congrArg MgmtSt.fwBusy (hmg.trans hmgmt)).trans hfree, hstatus, hdone, hcaused, hm.trans hmem⟩

end

theorem getFw_of_flash_eq {s t : State} (h : t.flash = s.flash) (k : Nat) : getFw t k = getFw s k := by
  unfold getFw
  rw [h]

theorem getFw_of_sameButLog {s t : State} (h : SameButLog t.flash s.flash) (k : Nat) : getFw t k = getFw s k := by
  obtain ⟨n, hn⟩ := flash_of_sameButLog h
  unfold getFw
  rw [hn]

theorem getFw_setFw_same {s : State} {k : Nat} {x : FwSlot} : getFw (setFw s k x) k = x := by
  unfold getFw setFw
  split <;> rfl

theorem getFw_setFw_other {s : State} {k : Nat} {x : FwSlot} (hk : k < 2) : getFw (setFw s k x) (1 - k) = getFw s (1 - k) := by
  obtain rfl | rfl : k = 0 ∨ k = 1 := by omega
  · rfl
  · rfl

/-- The status of a firmware update (R484). -/
def fwStatus (verified : Bool) (s : State) (a : Nat) : Nat :=
  if fwHeaderOk a (readBytes s a 128) = false then stFormat
  else if verified = false ∨ leAt (readBytes s a 128) 12 4 < s.flash.fwCtr then stSignature else stOK

theorem fwStatus_lt (verified : Bool) (s : State) (a : Nat) : fwStatus verified s a < 256 := by
  unfold fwStatus
  split
  · decide
  · split <;> decide

/-- The state in which firmware has read the image, and the one in which the update is under way no more. -/
def fwRead (s : State) (a : Nat) : State :=
  readUnits s (unitsOf a (if fwHeaderOk a (readBytes s a 128) then max 128 (leAt (readBytes s a 128) 16 4) else 128))
def fwFreed (s : State) : State := worked { s with mgmt := { s.mgmt with fwBusy := none } }

theorem fwFreed_leaves {s : State} (hs : TablesOk s) :
    TablesOk (fwFreed s) ∧ (fwFreed s).mem = s.mem ∧ (fwFreed s).flash = s.flash ∧ (fwFreed s).mgmt.fwBusy = none :=
  ⟨⟨hs.regs, hs.resets, hs.queues, hs.fronds, hs.slots, hs.parts, hs.ports⟩, rfl, rfl, rfl⟩

/-- The state in which firmware has judged the image. -/
def fwJudged (s : State) (a st : Nat) : State := if st = stSignature then sigFail (fwFreed (fwRead s a)) 0 else fwFreed (fwRead s a)

theorem fwRead_leaves {s : State} (a : Nat) (hs : TablesOk s) :
    TablesOk (fwRead s a) ∧ (fwRead s a).mem = s.mem ∧ SameButLog (fwRead s a).flash s.flash := readUnits_leaves hs

theorem fwJudged_leaves {s : State} {a st : Nat} (hs : TablesOk s) :
    TablesOk (fwJudged s a st) ∧ (fwJudged s a st).mem = s.mem ∧ (fwJudged s a st).mgmt.fwBusy = none ∧
      SameButLog (fwJudged s a st).flash s.flash := by
  unfold fwJudged
  obtain ⟨htab, hmem, hflash⟩ := fwRead_leaves a hs
  generalize fwRead s a = u at *
  obtain ⟨hw, hmemW, hflashW, hbusy⟩ := fwFreed_leaves htab
  generalize fwFreed u = w at *
  rw [← hflashW] at hflash
  split
  · have hev : AfterEvents Quiet w (sigFail w 0) :=
      ((AfterEvents.refl hw).logEvent fun _ h => h).raiseCause (fun _ h => h) (by decide) (by decide)
    obtain ⟨_, _, _, _, _, hm⟩ := hev.mgmt
    exact ⟨hev.tabOk, (sigFail_agree.area .mem rfl).trans (hmemW.trans hmem), by rw [hm]; exact hbusy, hev.flash.trans hflash⟩
  · exact ⟨hw, hmemW.trans hmem, hbusy, hflash⟩

/-- What the update leaves in its slot (R484). -/
def fwImage (s : State) (a st : Nat) : FwSlot :=
  if st = stOK then
    ⟨leAt (readBytes s a 128) 8 4, leAt (readBytes s a 128) 12 4, 2, 0,
      some (Config.shake256 (readBytes s a (leAt (readBytes s a 128) 16 4)) 32)⟩
  else ⟨0, 0, 0, 0, none⟩

/-- The steps of FW_DONE over the state `u` in which the image has been read. -/
def fwDoneFrom (verified : Bool) (h image : List Byte) (slot : Nat) (ok : Bool) (u : State) : State :=
  let st := if !ok then stFormat else if !verified || decide (leAt h 12 4 < u.flash.fwCtr) then stSignature else stOK
  let s1 := if st = stSignature then sigFail (fwFreed u) 0 else fwFreed u
  let x : FwSlot := if st = stOK then ⟨leAt h 8 4, leAt h 12 4, 2, 0, some (Config.shake256 image 32)⟩ else ⟨0, 0, 0, 0, none⟩
  fwResult (logEvent (showFw (setFw s1 slot x)) 0x0601 6 (if st = stOK then 0 else 2) 0 none
    (leBytes 1 slot ++ leBytes 4 (leAt h 8 4) ++ leBytes 1 st)) st slot

theorem fwDone_of_busy {verified : Bool} {s : State} {slot a : Nat} (hs : TablesOk s) (hbusy : s.mgmt.fwBusy = some (slot, a))
    (hruns : lichenRuns s = true) : ∃ sev l, fwDone verified s =
      fwResult (logEvent (showFw (setFw (fwJudged s a (fwStatus verified s a)) slot (fwImage s a (fwStatus verified s a)))) 0x0601 6 sev 0 none l)
        (fwStatus verified s a) slot := by
  obtain ⟨-, hmem, hflash⟩ := fwRead_leaves a hs
  have hctr : (fwRead s a).flash.fwCtr = s.flash.fwCtr := by
    obtain ⟨n, hn⟩ := flash_of_sameButLog hflash
    rw [hn]
  have hread := readBytes_of_mem_eq hmem a (leAt (readBytes s a 128) 16 4)
  have hbody : fwDone verified s = fwDoneFrom verified (readBytes s a 128) (readBytes (fwRead s a) a (leAt (readBytes s a 128) 16 4)) slot
      (fwHeaderOk a (readBytes s a 128)) (fwRead s a) := by
    unfold fwDone fwDoneFrom fwFreed fwRead
    rw [hbusy]
    dsimp only
    rw [if_neg (by rw [hruns]; decide)]
  have hstatus : (if (!fwHeaderOk a (readBytes s a 128)) = true then stFormat
      else if (!verified || decide (leAt (readBytes s a 128) 12 4 < s.flash.fwCtr)) = true then stSignature else stOK) =
      fwStatus verified s a := by
    unfold fwStatus
    simp only [Bool.not_eq_true', Bool.or_eq_true, decide_eq_true_eq]
  refine ⟨if fwStatus verified s a = stOK then 0 else 2,
    leBytes 1 slot ++ leBytes 4 (leAt (readBytes s a 128) 8 4) ++ leBytes 1 (fwStatus verified s a), ?_⟩
  rw [hbody, hread]
  unfold fwDoneFrom
  dsimp only
  rw [hctr, hstatus]
  rfl

/-- Settles O55: restores and firmware updates start, are refused or discarded, and end with their status (R422, R423, R484). -/
theorem restoreAndFirmware : Obligations.RestoreAndFirmware := by
  refine ⟨fun a v s hs hreached hgo => ?_, fun p s r hs hr hp hread hzero => ?_, fun a v s hs hreached hgo => ?_,
    fun verified s slot a hs hbusy hslot hruns => ?_⟩
  · have hexec : exec (.restore a v) s = .next (restoreWrite a (Wr.full v) (dropShadow s a)) :=
      congrArg Host.Outcome.next (touch_of_reached hreached)
    have hs0 : TablesOk (dropShadow s a) := dropShadow_agree.tabOk hs
    exact ⟨fun hbusy => ⟨_, hexec, restoreWrite_busy hs0 hgo hbusy⟩, fun hfree hstate => ⟨_, hexec, restoreWrite_unloaded hs0 hgo hfree hstate⟩,
      fun hfree hstate => ⟨_, hexec, restoreWrite_loaded hs0 hgo hfree hstate⟩⟩
  · intro rs st
    exact ⟨_, rfl, restoreEnd_leaves hs hr hp hread hzero⟩
  · intro slot
    have hexec : exec (.fwUpdate a v) s = .next (fwWrite a (Wr.full v) (dropShadow s a)) :=
      congrArg Host.Outcome.next (touch_of_reached hreached)
    obtain ⟨hbusy, hready, hboot⟩ := fwWrite_leaves (s := dropShadow s a) (a := a) (dropShadow_agree.tabOk hs) hgo
    exact ⟨fun h => ⟨_, hexec, hbusy h⟩, fun h h' => ⟨_, hexec, hready h h'⟩, fun h h' => ⟨_, hexec, hboot h h'⟩⟩
  · intro h sec st
    obtain ⟨sev, l, hbody⟩ := fwDone_of_busy (verified := verified) hs hbusy hruns
    obtain ⟨htab, hmem, hfree, hflash⟩ := fwJudged_leaves (a := a) (st := fwStatus verified s a) hs
    have hexec : exec (.fwDone verified) s = .next (fwDone verified s) := rfl
    rw [hbody] at hexec
    generalize fwJudged s a (fwStatus verified s a) = u at *
    have hset : Agree 262144 u (setFw u slot (fwImage s a (fwStatus verified s a))) := setFw_agree
    have hshow : Agree 262176 u (showFw (setFw u slot (fwImage s a (fwStatus verified s a)))) := showFw_agree.after rfl (hset.mono rfl)
    have hev : AfterEvents Quiet (showFw (setFw u slot (fwImage s a (fwStatus verified s a))))
        (logEvent (showFw (setFw u slot (fwImage s a (fwStatus verified s a)))) 0x0601 6 sev 0 none l) :=
      (AfterEvents.refl (hshow.tabOk htab)).logEvent fun _ h => h
    obtain ⟨hstatus, hdone, hidle, hslot', hcaused, hm, hmg, hfl⟩ := fwResult_leaves (st := fwStatus verified s a) hev.tabOk
      (fwStatus_lt verified s a) hslot
    have hslots (k : Nat) : getFw (fwResult (logEvent (showFw (setFw u slot (fwImage s a (fwStatus verified s a)))) 0x0601 6 sev 0 none l)
        (fwStatus verified s a) slot) k = getFw (setFw u slot (fwImage s a (fwStatus verified s a))) k := by
      rw [getFw_of_flash_eq hfl, getFw_of_sameButLog hev.flash, getFw_of_flash_eq (showFw_agree.area .flash rfl)]
    refine ⟨_, hexec, ?_, hstatus, hdone, hidle, hslot', hcaused, ?_, ?_, fun hok => ?_, fun hbad => ?_⟩
    · obtain ⟨_, _, _, _, _, hmk⟩ := hev.mgmt
      rw [hmg, hmk]
      exact (congrArg MgmtSt.fwBusy (hshow.area .mgmt rfl)).trans hfree
    · exact hm.trans ((logEvent_agree.area .mem rfl).trans ((hshow.area .mem rfl).trans hmem))
    · rw [hslots, getFw_setFw_other hslot, getFw_of_sameButLog hflash]
    · rw [hslots, getFw_setFw_same]
      unfold fwImage
      rw [if_pos (show fwStatus verified s a = stOK from hok)]
      exact ⟨rfl, rfl, rfl⟩
    · rw [hslots, getFw_setFw_same]
      unfold fwImage
      rw [if_neg (show fwStatus verified s a ≠ stOK from hbad)]

end Sys2Proof.Proofs
end

section
/-! SUPPORT. What events leave of causes, and the thermal conditions (R471, R474, R526, R527). -/

namespace Sys2Proof.Proofs

open Sys2Proof Sys2Proof.Machine Sys2Proof.Safety Sys2Proof.Frame Sys2Proof.Claims Sys2Proof.Laws

/-! ### Causes stand -/

/-- The tables are canonical, and cause `k` of block `b` is shown. -/
def CauseShown (b k : Nat) (s : State) : Prop := TablesOk s ∧ Caused s b k

section
variable {b k : Nat} {s : State} (h : CauseShown b k s)
include h

theorem CauseShown.setReg {o : Nat} {v : W64} (ho : o ≠ causeOff b) : CauseShown b k (setReg s o v) := by
  obtain ⟨htab, hcaused⟩ := h
  refine ⟨setReg_agree.tabOk htab, ?_⟩
  unfold Caused
  rw [getReg_setReg_ne htab ho.symm]
  exact hcaused

theorem CauseShown.setF {f : Fld} {i v : Nat} (ho : f.at i ≠ causeOff b) : CauseShown b k (setF s f i v) := h.setReg ho

theorem CauseShown.bump {f : Fld} {i n : Nat} (ho : f.at i ≠ causeOff b) : CauseShown b k (bump s f i n) := by
  unfold Machine.bump
  split
  · exact h
  · exact h.setF ho

theorem CauseShown.after {A : Nat} {t : State} (ha : Agree A s t) (hregs : A.testBit Area.regs.idx = false) : CauseShown b k t := by
  obtain ⟨htab, hcaused⟩ := h
  refine ⟨ha.tabOk htab, ?_⟩
  unfold Caused
  rw [getReg_of_regs_eq (ha.area .regs hregs)]
  exact hcaused

theorem CauseShown.withMgmt {m : MgmtSt} : CauseShown b k { s with mgmt := m } := by
  obtain ⟨htab, hcaused⟩ := h
  exact ⟨⟨htab.regs, htab.resets, htab.queues, htab.fronds, htab.slots, htab.parts, htab.ports⟩, hcaused⟩

/-- Another cause's event leaves a cause that is shown (R492). -/
theorem CauseShown.raiseCause {b' k' : Nat} (hk' : k' < 64) : CauseShown b k (raiseCause s b' k') := by
  obtain ⟨htab, hcaused⟩ := h
  refine ⟨raiseCause_agree.tabOk htab, ?_⟩
  have hcount : causeOff b ≠ countOff b' k' := by
    simp only [causeOff, countOff, Fld.at, INT_CAUSE_CAUSE, INT_COUNT0_COUNT]
    omega
  unfold Caused at hcaused ⊢
  rw [getReg_raiseCause_ne_count htab hcount]
  by_cases hb : causeOff b = causeOff b'
  · rw [← hb, getReg_setReg_same htab, bitOf_eq_testBit, BitVec.toNat_or, Nat.testBit_or, ← bitOf_eq_testBit, hcaused, Bool.true_or]
  · rw [getReg_setReg_ne htab hb]
    exact hcaused

theorem CauseShown.wakeLichen (hb : b < 64) : CauseShown b k (wakeLichen s) := by
  have hne : MGT_LICHEN_STATE_WAKES.at 0 ≠ causeOff b := by
    simp only [causeOff, Fld.at, INT_CAUSE_CAUSE, MGT_LICHEN_STATE_WAKES]
    omega
  unfold Machine.wakeLichen
  split
  · exact h.withMgmt.bump hne
  · exact h.withMgmt

theorem CauseShown.setLogRegs (hb : b < 64) : CauseShown b k (setLogRegs s) := by
  have hne (o : Nat) (ho : 0x17000 ≤ o) : o ≠ causeOff b := by
    simp only [causeOff, Fld.at, INT_CAUSE_CAUSE]
    omega
  unfold Machine.setLogRegs
  dsimp only
  split
  · exact ((h.setF (hne _ (by decide))).setF (hne _ (by decide))).setF (hne _ (by decide))
  · exact h.setF (hne _ (by decide))

theorem CauseShown.logEvent (hb : b < 64) {t c d e : Nat} {p : Option Nat} {l : List Byte} : CauseShown b k (logEvent s t c d e p l) := by
  have hlost : MGT_LOG_EVENTS_LOST.at 0 ≠ causeOff b := by
    simp only [causeOff, Fld.at, INT_CAUSE_CAUSE, MGT_LOG_EVENTS_LOST]
    omega
  unfold Machine.logEvent logEnter
  extract_lets u
  have hu : CauseShown b k u := by
    unfold u
    split
    · exact h.wakeLichen hb
    · exact h
  clear_value u
  split
  · exact (hu.withMgmt.bump hlost).raiseCause (by decide)
  · refine CauseShown.setLogRegs ?_ hb
    obtain ⟨htab, hcaused⟩ := hu
    exact ⟨⟨htab.regs, htab.resets, htab.queues, htab.fronds, htab.slots, htab.parts, htab.ports⟩, hcaused⟩

end

theorem causeShown_raiseCause {s : State} {b k : Nat} (hs : TablesOk s) (hk : k < 64) : CauseShown b k (raiseCause s b k) :=
  ⟨raiseCause_agree.tabOk hs, raiseCause_caused hs hk⟩

/-! ### The conditions THERM_WARN and THERM_CRIT -/

/-- A register of management that no wake, cause or record changes. -/
def MgtReg (o : Nat) : Prop := 0x17000 ≤ o ∧ o ∉ eventOffs

theorem quiet_of_mgtReg {o : Nat} (h : MgtReg o) : Quiet o := ⟨.inr h.1, h.2⟩

theorem not_mgtReg_pwr {o : Nat} (h : o < 0x17000) : ¬ MgtReg o := fun hm => absurd hm.1 (by omega)

theorem AfterEvents.setPower {K : Nat → Prop} {s t : State} {f : PowerSt → PowerSt} (h : AfterEvents K s t) : AfterEvents K s (setPower t f) :=
  AfterEvents.after setPower_agree h rfl rfl rfl rfl

theorem power_thermRec (s : State) (a b c d : Nat) : (thermRec s a b c d).power = s.power := thermRec_agree.area .power rfl

theorem power_raiseCause (s : State) (b k : Nat) : (raiseCause s b k).power = s.power := raiseCause_agree.area .power rfl

theorem power_bump (s : State) (f : Fld) (i k : Nat) : (bump s f i k).power = s.power := bump_agree.area .power rfl

theorem power_setF (s : State) (f : Fld) (i v : Nat) : (setF s f i v).power = s.power := rfl

theorem enterWarn_of_none {s : State} {idx temp : Nat} (h : s.power.warn = none) : enterWarn s idx temp =
    raiseCause (thermRec (bump (setF (setPower s (fun x => { x with warn := some (x.ceiling, 0) })) PWR_STATUS_THERM_WARN 0 1)
      PWR_THERM_EVENTS_WARN_ENTRIES 0 1) 0x0801 1 idx temp) 14 0 :=
  if_neg (by rw [h]; exact Bool.false_ne_true)

theorem enterWarn_of_some {s : State} {idx temp : Nat} (h : s.power.warn ≠ none) : enterWarn s idx temp = s :=
  if_pos (Option.isSome_iff_ne_none.2 h)

/-- THERM_WARN is entered where it does not hold yet (R526). -/
theorem enterWarn_leaves {s : State} {idx temp : Nat} (hs : TablesOk s) :
    AfterEvents MgtReg s (enterWarn s idx temp) ∧ (enterWarn s idx temp).power.warn.isSome = true ∧
      (∃ w, (enterWarn s idx temp).power = { s.power with warn := w }) ∧
      (s.power.warn = none → Caused (enterWarn s idx temp) 14 0 ∧ getF (enterWarn s idx temp) PWR_STATUS_THERM_WARN = 1) := by
  by_cases hwarn : s.power.warn = none
  · rw [enterWarn_of_none hwarn]
    have h0 : TablesOk (setPower s (fun x => { x with warn := some (x.ceiling, 0) })) := setPower_agree.tabOk hs
    have h1 : AfterEvents MgtReg s (setF (setPower s (fun x => { x with warn := some (x.ceiling, 0) })) PWR_STATUS_THERM_WARN 0 1) :=
      ((AfterEvents.refl hs).setPower).setF (not_mgtReg_pwr (by decide))
    have hp : (setF (setPower s (fun x => { x with warn := some (x.ceiling, 0) })) PWR_STATUS_THERM_WARN 0 1).power =
        { s.power with warn := some (s.power.ceiling, 0) } := rfl
    have hshown : getF (setF (setPower s (fun x => { x with warn := some (x.ceiling, 0) })) PWR_STATUS_THERM_WARN 0 1)
        PWR_STATUS_THERM_WARN = 1 := getF_setF_same h0 (by decide)
    generalize setF (setPower s (fun x => { x with warn := some (x.ceiling, 0) })) PWR_STATUS_THERM_WARN 0 1 = u at h1 hp hshown ⊢
    have h2 : AfterEvents MgtReg s (bump u PWR_THERM_EVENTS_WARN_ENTRIES 0 1) := h1.bump (not_mgtReg_pwr (by decide))
    have hshown2 : getF (bump u PWR_THERM_EVENTS_WARN_ENTRIES 0 1) PWR_STATUS_THERM_WARN = 1 := by
      unfold getF
      rw [getReg_bump_ne h1.tabOk (by decide)]
      exact hshown
    have hev : AfterEvents Quiet (bump u PWR_THERM_EVENTS_WARN_ENTRIES 0 1)
        (thermRec (bump u PWR_THERM_EVENTS_WARN_ENTRIES 0 1) 0x0801 1 idx temp) := (AfterEvents.refl h2.tabOk).logEvent fun _ h => h
    have hev2 := hev.raiseCause (fun _ h => h) (show 14 < 64 by decide) (show 0 < 64 by decide)
    refine ⟨h2.trans (hev2.mono fun _ => quiet_of_mgtReg), ?_, ⟨some (s.power.ceiling, 0), ?_⟩,
      fun _ => ⟨raiseCause_caused hev.tabOk (by decide), (hev2.getF ⟨by decide, by decide⟩).trans hshown2⟩⟩
    · rw [power_raiseCause, power_thermRec, power_bump, hp]
      rfl
    · rw [power_raiseCause, power_thermRec, power_bump, hp]
  · rw [enterWarn_of_some hwarn]
    exact ⟨AfterEvents.refl hs, Option.isSome_iff_ne_none.2 hwarn, ⟨s.power.warn, rfl⟩, fun h => absurd h hwarn⟩

/-- The registers and power of an entry into the THERM_CRIT hold, before it is logged. -/
def critShown (s : State) : State :=
  setF (setF (setPower s (fun x => { x with critHold := true, ballast := false, floor := 0 })) PWR_STATUS_CRIT_HOLD 0 1) PWR_LIMITS_FLOOR 0 0

theorem enterCrit_of_free {s : State} {idx temp : Nat} (h : s.power.critHold = false) : enterCrit s idx temp =
    raiseCause (thermRec (bump (critShown s) PWR_THERM_EVENTS_CRIT_HOLDS 0 1) 0x0802 2 idx temp) 14 1 :=
  if_neg (by rw [h]; exact Bool.false_ne_true)

/-- The THERM_CRIT hold is entered where it does not hold yet (R527). -/
theorem enterCrit_leaves {s : State} {idx temp : Nat} (hs : TablesOk s) :
    AfterEvents MgtReg s (enterCrit s idx temp) ∧ (enterCrit s idx temp).power.critHold = true ∧
      (enterCrit s idx temp).power.warn = s.power.warn ∧
      getF (enterCrit s idx temp) PWR_STATUS_THERM_WARN = getF s PWR_STATUS_THERM_WARN ∧
      (Caused s 14 0 → Caused (enterCrit s idx temp) 14 0) ∧
      (s.power.critHold = false → Caused (enterCrit s idx temp) 14 1 ∧ getF (enterCrit s idx temp) PWR_STATUS_CRIT_HOLD = 1 ∧
        (enterCrit s idx temp).power.floor = 0) := by
  rcases hcrit : s.power.critHold with _ | _
  · rw [enterCrit_of_free hcrit]
    have h0 : TablesOk (setPower s (fun x => { x with critHold := true, ballast := false, floor := 0 })) := setPower_agree.tabOk hs
    have hset : Agree 32 (setPower s (fun x => { x with critHold := true, ballast := false, floor := 0 }))
      (setF (setPower s (fun x => { x with critHold := true, ballast := false, floor := 0 })) PWR_STATUS_CRIT_HOLD 0 1) := setF_agree
    have h1 : AfterEvents MgtReg s (critShown s) :=
      (((AfterEvents.refl hs).setPower).setF (not_mgtReg_pwr (by decide))).setF (not_mgtReg_pwr (by decide))
    have hp : (critShown s).power = { s.power with critHold := true, ballast := false, floor := 0 } := rfl
    have hhold : getF (critShown s) PWR_STATUS_CRIT_HOLD = 1 :=
      (getF_setF_ne (f := PWR_LIMITS_FLOOR) (g := PWR_STATUS_CRIT_HOLD) (hset.tabOk h0) (by decide)).trans (getF_setF_same h0 (by decide))
    have hwarn : getF (critShown s) PWR_STATUS_THERM_WARN = getF s PWR_STATUS_THERM_WARN :=
      (getF_setF_ne (f := PWR_LIMITS_FLOOR) (g := PWR_STATUS_THERM_WARN) (hset.tabOk h0) (by decide)).trans
        (getF_setF_beside (f := PWR_STATUS_CRIT_HOLD) (g := PWR_STATUS_THERM_WARN) h0 (by decide) rfl (.inl (by decide)))
    have hcause : Caused s 14 0 → CauseShown 14 0 (critShown s) := fun hc =>
      CauseShown.setF (CauseShown.setF (CauseShown.after ⟨hs, hc⟩ setPower_agree rfl) (by decide)) (by decide)
    generalize critShown s = u at h1 hp hhold hwarn hcause ⊢
    have h2 : AfterEvents MgtReg s (bump u PWR_THERM_EVENTS_CRIT_HOLDS 0 1) := h1.bump (not_mgtReg_pwr (by decide))
    have hstatus {g : Fld} (hg : g.at 0 = PWR_STATUS_CRIT_HOLD.off) : getF (bump u PWR_THERM_EVENTS_CRIT_HOLDS 0 1) g = getF u g := by
      unfold getF
      rw [getReg_bump_ne h1.tabOk (by rw [hg]; decide)]
    have hev : AfterEvents Quiet (bump u PWR_THERM_EVENTS_CRIT_HOLDS 0 1)
        (thermRec (bump u PWR_THERM_EVENTS_CRIT_HOLDS 0 1) 0x0802 2 idx temp) := (AfterEvents.refl h2.tabOk).logEvent fun _ h => h
    have hev2 := hev.raiseCause (fun _ h => h) (show 14 < 64 by decide) (show 1 < 64 by decide)
    have hpower : (raiseCause (thermRec (bump u PWR_THERM_EVENTS_CRIT_HOLDS 0 1) 0x0802 2 idx temp) 14 1).power =
        { s.power with critHold := true, ballast := false, floor := 0 } := by
      rw [power_raiseCause, power_thermRec, power_bump, hp]
    rw [hpower]
    refine ⟨h2.trans (hev2.mono fun _ => quiet_of_mgtReg), rfl, rfl, ?_, fun hc => ?_,
      fun _ => ⟨raiseCause_caused hev.tabOk (by decide), ?_, rfl⟩⟩
    · exact (hev2.getF ⟨by decide, by decide⟩).trans ((hstatus rfl).trans hwarn)
    · exact (((hcause hc).bump (by decide)).logEvent (by decide)).raiseCause (by decide) |>.2
    · exact (hev2.getF ⟨by decide, by decide⟩).trans ((hstatus rfl).trans hhold)
  · rw [show enterCrit s idx temp = s from if_pos hcrit]
    exact ⟨AfterEvents.refl hs, hcrit, rfl, rfl, id, fun h => nomatch h⟩

/-! ### The end of the conditions -/

theorem sensorTemp_of_reg {s t : State} {n : Nat} (h : getReg t (MGT_THERM_TEMP.at n) = getReg s (MGT_THERM_TEMP.at n)) :
    sensorTemp t n = sensorTemp s n := by
  unfold sensorTemp getF
  rw [h]

/-- A die sensor at the warning limit keeps the conditions (R526). -/
theorem allCool_of_hot {s : State} {n : Nat} (hn : n < 234) (h : Int.ofNat (powerCfg s).thermWarn * 16 ≤ sensorTemp s n) :
    allCool s = false := by
  have hno : (List.range 234).all (fun n => decide (sensorTemp s n ≤ (Int.ofNat (powerCfg s).thermWarn - 3) * 16)) = false := by
    refine Bool.eq_false_iff.2 fun hall => ?_
    have := List.all_eq_true.1 hall n (List.mem_range.2 hn)
    simp only [decide_eq_true_eq] at this
    omega
  unfold allCool
  rw [hno]
  rfl

/-- So does a stack above 92 °C. -/
theorem allCool_of_hot_stack {s : State} {k : Nat} (hk : k < 12) (h : 92 < getF s HBM_STATUS_TEMP k) : allCool s = false := by
  have hno : (List.range 12).all (fun t => decide (getF s HBM_STATUS_TEMP t ≤ 92)) = false := by
    refine Bool.eq_false_iff.2 fun hall => ?_
    have := List.all_eq_true.1 hall k (List.mem_range.2 hk)
    simp only [decide_eq_true_eq] at this
    omega
  unfold allCool
  rw [hno, Bool.and_false]

theorem endWarn_of_hot {s : State} (h : allCool s = false) : endWarn s = s :=
  if_neg (by rw [h, Bool.and_false]; exact Bool.false_ne_true)

theorem afterEvents_endWarn {s : State} (hs : TablesOk s) : AfterEvents MgtReg s (endWarn s) := by
  unfold endWarn
  split
  · exact (((AfterEvents.refl hs).setPower).setF (not_mgtReg_pwr (by decide))).setF (not_mgtReg_pwr (by decide))
  · exact AfterEvents.refl hs

/-! ### Samples of a sensor -/

theorem mgtReg_of_high {o : Nat} (h : 0x19000 ≤ o) : MgtReg o := by
  refine ⟨by omega, fun hin => ?_⟩
  have hlow : ∀ o ∈ eventOffs, o < 0x19000 := by decide
  have := hlow _ hin
  omega

theorem le_therm_at (n : Nat) : 0x19000 ≤ MGT_THERM_TEMP.at n := by
  simp only [Fld.at, MGT_THERM_TEMP]
  omega

/-- A sensor's fault shows, with its cause (R474). -/
theorem sensorFault_leaves {s : State} {n : Nat} (hs : TablesOk s) (hn : n < 253) (hnew : s.mgmt.faulted.contains n = false) :
    (sensorFault n s).mgmt.faulted = s.mgmt.faulted ++ [n] ∧ Caused (sensorFault n s) 14 4 ∧
      (n < 240 → getF (sensorFault n s) MGT_THERM_FAULT n = 1) := by
  unfold sensorFault
  rw [if_neg (by rw [hnew]; simp; omega)]
  extract_lets m s1 s2
  have h1 : TablesOk s1 := ⟨hs.regs, hs.resets, hs.queues, hs.fronds, hs.slots, hs.parts, hs.ports⟩
  have hm1 : s1.mgmt.faulted = s.mgmt.faulted ++ [n] := rfl
  clear_value s1
  have hset : Agree 32 s1 (setF s1 MGT_THERM_FAULT n 1) := setF_agree
  have h2 : TablesOk s2 ∧ s2.mgmt.faulted = s1.mgmt.faulted ∧ (n < 240 → getF s2 MGT_THERM_FAULT n = 1) := by
    unfold s2
    split
    · exact ⟨hset.tabOk h1, rfl, fun _ => getF_setF_same h1 (by decide)⟩
    · next hno => exact ⟨h1, rfl, fun h => absurd h hno⟩
  clear_value s2
  obtain ⟨h2, hm2, hfault⟩ := h2
  have hev : AfterEvents MgtReg s2 (logEvent s2 0x0604 6 1 0 none (leBytes 1 (sensorKind n).1 ++ leBytes 2 (sensorKind n).2)) :=
    (AfterEvents.refl h2).logEvent fun _ => quiet_of_mgtReg
  have hev2 := hev.raiseCause (fun _ => quiet_of_mgtReg) (show 14 < 64 by decide) (show 4 < 64 by decide)
  refine ⟨?_, raiseCause_caused hev.tabOk (by decide), fun h => (hev2.getF (f := MGT_THERM_FAULT) (i := n) (mgtReg_of_high (le_therm_at n))).trans (hfault h)⟩
  obtain ⟨_, _, _, _, _, hm⟩ := hev2.mgmt
  rw [hm]
  exact hm2.trans hm1

theorem notMem_validSample (n : Nat) (s : State) : n ∉ (validSample n s).mgmt.faulted := by
  intro hin
  have hne := (List.mem_filter.1 (show n ∈ s.mgmt.faulted.filter (· != n) from hin)).2
  simp at hne

theorem mgmt_setF (s : State) (f : Fld) (i v : Nat) : (setF s f i v).mgmt = s.mgmt := rfl

theorem setF_tabOk {s : State} (h : TablesOk s) (f : Fld) (i v : Nat) : TablesOk (setF s f i v) := setF_agree.tabOk h

/-- The three fields that a sample sets (R471, R499). -/
def thermFields (n t top : Nat) (s : State) : State :=
  setF (setF (setF s MGT_THERM_TEMP n t) MGT_THERM_MAX n top) MGT_THERM_FAULT n 0

theorem thermFields_leaves {s : State} {n t top : Nat} (hs : TablesOk s) (ht : t < 65536) :
    Agree 32 s (thermFields n t top s) ∧ getF (thermFields n t top s) MGT_THERM_TEMP n = t ∧
      getF (thermFields n t top s) MGT_THERM_FAULT n = 0 := by
  unfold thermFields
  have ha : Agree 32 s (setF s MGT_THERM_TEMP n t) := setF_agree
  have htemp : getF (setF s MGT_THERM_TEMP n t) MGT_THERM_TEMP n = t := (getF_setF_same hs (by decide)).trans (Nat.mod_eq_of_lt ht)
  generalize setF s MGT_THERM_TEMP n t = u at ha htemp ⊢
  have hu := ha.tabOk hs
  have hb : Agree 32 u (setF u MGT_THERM_MAX n top) := setF_agree
  have htemp2 : getF (setF u MGT_THERM_MAX n top) MGT_THERM_TEMP n = t :=
    (getF_setF_beside (f := MGT_THERM_MAX) (g := MGT_THERM_TEMP) hu (by decide) rfl (.inl (by decide))).trans htemp
  have hab := ha.trans hb
  generalize setF u MGT_THERM_MAX n top = w at hab htemp2 ⊢
  have hw := hab.tabOk hs
  have hc : Agree 32 w (setF w MGT_THERM_FAULT n 0) := setF_agree
  exact ⟨hab.trans hc,
    (getF_setF_beside (f := MGT_THERM_FAULT) (g := MGT_THERM_TEMP) hw (by decide) rfl (.inl (by decide))).trans htemp2,
    getF_setF_same hw (by decide)⟩

theorem storeTherm_eq (n t : Nat) (s : State) : ∃ top, storeTherm n t s =
    setPower (thermFields n t top (validSample n s)) (fun x => { x with therm := true }) := ⟨_, rfl⟩

theorem tabOk_validSample {s : State} (hs : TablesOk s) (n : Nat) : TablesOk (validSample n s) :=
  ⟨hs.regs, hs.resets, hs.queues, hs.fronds, hs.slots, hs.parts, hs.ports⟩

theorem power_validSample (n : Nat) (s : State) : (validSample n s).power = s.power := rfl

theorem power_setPower (s : State) (f : PowerSt → PowerSt) : (setPower s f).power = f s.power := rfl

theorem getF_setPower (s : State) (f : PowerSt → PowerSt) (g : Fld) (i : Nat) : getF (setPower s f) g i = getF s g i := rfl

theorem mgmt_setPower (s : State) (f : PowerSt → PowerSt) : (setPower s f).mgmt = s.mgmt := rfl

/-- A stored sample shows, and its sensor is not faulted (R471, R474). -/
theorem storeTherm_leaves {s : State} {n t : Nat} (hs : TablesOk s) (ht : t < 65536) :
    TablesOk (storeTherm n t s) ∧ getF (storeTherm n t s) MGT_THERM_TEMP n = t ∧ getF (storeTherm n t s) MGT_THERM_FAULT n = 0 ∧
      n ∉ (storeTherm n t s).mgmt.faulted ∧ (storeTherm n t s).power = { s.power with therm := true } := by
  obtain ⟨top, h⟩ := storeTherm_eq n t s
  obtain ⟨ha, htemp, hfault⟩ := thermFields_leaves (top := top) (tabOk_validSample hs n) ht
  have hm : (thermFields n t top (validSample n s)).mgmt = (validSample n s).mgmt := ha.area .mgmt rfl
  have hp : (thermFields n t top (validSample n s)).power = s.power := ha.area .power rfl
  rw [h, mgmt_setPower, power_setPower, getF_setPower, getF_setPower, hm, hp]
  exact ⟨setPower_agree.tabOk (ha.tabOk (tabOk_validSample hs n)), htemp, hfault, notMem_validSample n s, rfl⟩

/-- The state in which a die sensor's sample has led to what it leads to, before the conditions are judged over (R526, R527). -/
def thermJudged (n t : Nat) (s : State) : State :=
  let k := if tempOf t ≥ 110 * 16 then tblGet 0 s.power.hot n + 1 else 0
  let s1 := setPower s (fun x => { x with hot := tblSet 0 x.hot n k })
  let s2 := if tempOf t ≥ Int.ofNat (powerCfg s).thermWarn * 16 then enterWarn s1 n t else s1
  if 3 ≤ k then enterCrit s2 n t else s2

theorem thermalSample_of_below {n t : Nat} {s : State} (hn : n < 240) (hon : devOn s = true) (ht : t < 65536) (hlow : tempOf t < 125 * 16) :
    thermalSample n t s = if 234 ≤ n then storeTherm n t s else endWarn (thermJudged n t (storeTherm n t s)) := by
  have hmod : t % 65536 = t := Nat.mod_eq_of_lt ht
  unfold thermalSample
  dsimp only
  rw [if_neg (by rw [hon]; simp; omega), hmod, if_neg (by omega)]
  rfl

/-- What the judgement of a sample leaves. -/
theorem thermJudged_leaves {n t : Nat} {s : State} (hs : TablesOk s) :
    AfterEvents MgtReg s (thermJudged n t s) ∧
      (Int.ofNat (powerCfg s).thermWarn * 16 ≤ tempOf t →
        (thermJudged n t s).power.warn.isSome = true ∧
          (s.power.warn = none → Caused (thermJudged n t s) 14 0 ∧ getF (thermJudged n t s) PWR_STATUS_THERM_WARN = 1)) ∧
      (110 * 16 ≤ tempOf t → tblGet 0 s.power.hot n = 2 → s.power.critHold = false →
        (thermJudged n t s).power.critHold = true ∧ Caused (thermJudged n t s) 14 1 ∧
          getF (thermJudged n t s) PWR_STATUS_CRIT_HOLD = 1) := by
  unfold thermJudged
  extract_lets k s1 s2
  have h1 : AfterEvents MgtReg s s1 := (AfterEvents.refl hs).setPower
  have hp1 : s1.power = { s.power with hot := tblSet 0 s.power.hot n k } := rfl
  clear_value s1
  obtain ⟨hwarn, hsome, ⟨w, hpower⟩, hnew⟩ := enterWarn_leaves (idx := n) (temp := t) h1.tabOk
  have h2 : AfterEvents MgtReg s s2 ∧ s2.power.critHold = s.power.critHold ∧
      (Int.ofNat (powerCfg s).thermWarn * 16 ≤ tempOf t → s2.power.warn.isSome = true ∧
        (s.power.warn = none → Caused s2 14 0 ∧ getF s2 PWR_STATUS_THERM_WARN = 1)) := by
    unfold s2
    split
    · refine ⟨h1.trans hwarn, ?_, fun _ => ⟨hsome, fun hnone => hnew ?_⟩⟩
      · rw [hpower, hp1]
      · rw [hp1]
        exact hnone
    · next hno => exact ⟨h1, by rw [hp1], fun h => absurd h hno⟩
  clear_value s2
  obtain ⟨h2, hhold, hw2⟩ := h2
  obtain ⟨hcrit, hheld, hsame, hfield, hstays, hentered⟩ := enterCrit_leaves (idx := n) (temp := t) h2.tabOk
  split
  · refine ⟨h2.trans hcrit, fun hge => ?_, fun _ _ hfree => ?_⟩
    · obtain ⟨hsome2, hnew2⟩ := hw2 hge
      refine ⟨by rw [hsame]; exact hsome2, fun hnone => ?_⟩
      obtain ⟨hcaused, hshown⟩ := hnew2 hnone
      exact ⟨hstays hcaused, hfield.trans hshown⟩
    · obtain ⟨hcaused, hshown, -⟩ := hentered (hhold.trans hfree)
      exact ⟨hheld, hcaused, hshown⟩
  · next hk =>
    refine ⟨h2, hw2, fun hge hhot _ => absurd ?_ hk⟩
    have : k = tblGet 0 s.power.hot n + 1 := if_pos hge
    omega

end Sys2Proof.Proofs
end

section
/-! O57. Sensors and their limits, the feed and patrol scrub (R286, R304, R418, R471 to R474, R519 to R529). -/

namespace Sys2Proof.Proofs

open Sys2Proof Sys2Proof.Machine Sys2Proof.Safety Sys2Proof.Frame Sys2Proof.Claims Sys2Proof.Laws

/-! ### Thermal samples -/

theorem devOn_of_dev_eq {s t : State} (h : t.dev = s.dev) : devOn t = devOn s := by
  unfold devOn
  rw [h]

/-- Stages that shut down take the device to STANDBY, however the lichen core's state stands then (R519). -/
theorem stoodBy_shutDown {s u : State} (hu : TablesOk u) (hon : devOn u = true) :
    StoodBy { s with mgmt := (shutDown u).mgmt } (shutDown u) := by
  obtain ⟨⟨hdev, hmem, hfronds, hparts, hqueues, hports, -⟩, -, -⟩ := powerLoss_leaves hu (of_decide_eq_true hon)
  exact ⟨hdev, hmem, hfronds, hparts, hqueues, hports, [], (List.append_nil _).symm, fun _ => rfl⟩

theorem thermalSample_of_hot {n t : Nat} {s : State} (hn : n < 240) (hon : devOn s = true) (ht : t < 65536) (hhot : 125 * 16 ≤ tempOf t) :
    ∃ u, thermalSample n t s = shutDown u ∧ Agree 7208480 s u := by
  have hmod : t % 65536 = t := Nat.mod_eq_of_lt ht
  unfold thermalSample
  dsimp only
  rw [if_neg (by rw [hon]; simp; omega), hmod, if_pos hhot]
  refine ⟨_, rfl, Agree.ite ?_ ?_⟩
  · exact logEvent_agree.after rfl (thermRec_agree.after rfl (storeTherm_agree.after rfl (Agree.refl _ _)))
  · exact thermRec_agree.after rfl (storeTherm_agree.after rfl (Agree.refl _ _))

theorem thermJudged_agree {n t : Nat} {s : State} : Agree 7143456 s (thermJudged n t s) := by
  unfold thermJudged
  extract_lets k s1 s2
  have h1 : Agree 7143456 s s1 := setPower_agree.after rfl (Agree.refl _ _)
  clear_value s1
  have h2 : Agree 7143456 s s2 := Agree.ite (enterWarn_agree.after rfl h1) h1
  clear_value s2
  exact Agree.ite (enterCrit_agree.after rfl h2) h2

theorem powerCfg_of_cfg_eq {s t : State} (h : t.cfg = s.cfg) : powerCfg t = powerCfg s := by
  unfold powerCfg cfgOf
  rw [h]

/-- What a sample of a die sensor below 125 °C leaves (R471, R526, R527). -/
theorem thermalSample_below_leaves {n v : Nat} {s : State} (hs : TablesOk s) (hon : devOn s = true) (hn : n < 240) (hv : v < 65536)
    (hlow : tempOf v < 125 * 16) :
    getF (thermalSample n v s) MGT_THERM_TEMP n = v ∧ getF (thermalSample n v s) MGT_THERM_FAULT n = 0 ∧
      n ∉ (thermalSample n v s).mgmt.faulted ∧
      (n < 234 → Int.ofNat (powerCfg s).thermWarn * 16 ≤ tempOf v → (thermalSample n v s).power.warn.isSome = true ∧
        (s.power.warn = none → Caused (thermalSample n v s) 14 0 ∧ getF (thermalSample n v s) PWR_STATUS_THERM_WARN = 1)) ∧
      (n < 234 → 110 * 16 ≤ tempOf v → (powerCfg s).thermWarn ≤ 110 → tblGet 0 s.power.hot n = 2 → s.power.critHold = false →
        (thermalSample n v s).power.critHold = true ∧ Caused (thermalSample n v s) 14 1 ∧
          getF (thermalSample n v s) PWR_STATUS_CRIT_HOLD = 1) := by
  rw [thermalSample_of_below hn hon hv hlow]
  obtain ⟨htab, htemp, hfault, hnot, hpower⟩ := storeTherm_leaves (n := n) hs hv
  have hcfg : powerCfg (storeTherm n v s) = powerCfg s := powerCfg_of_cfg_eq (storeTherm_agree.area .cfg rfl)
  have hwarn : (storeTherm n v s).power.warn = s.power.warn := (congrArg PowerSt.warn hpower).trans rfl
  have hhot : (storeTherm n v s).power.hot = s.power.hot := (congrArg PowerSt.hot hpower).trans rfl
  have hcrit : (storeTherm n v s).power.critHold = s.power.critHold := (congrArg PowerSt.critHold hpower).trans rfl
  generalize storeTherm n v s = u at htab htemp hfault hnot hcfg hwarn hhot hcrit ⊢
  by_cases hdie : n < 234
  · rw [if_neg (Nat.not_le.2 hdie), ← hcfg, ← hwarn, ← hhot, ← hcrit]
    obtain ⟨hev, hjwarn, hjcrit⟩ := thermJudged_leaves (n := n) (t := v) htab
    have hjcfg : powerCfg (thermJudged n v u) = powerCfg u := powerCfg_of_cfg_eq (thermJudged_agree.area .cfg rfl)
    generalize thermJudged n v u = w at hev hjwarn hjcrit hjcfg ⊢
    have htempw : getF w MGT_THERM_TEMP n = v := (hev.getF (mgtReg_of_high (le_therm_at n))).trans htemp
    have hstays (hge : Int.ofNat (powerCfg u).thermWarn * 16 ≤ tempOf v) : endWarn w = w := by
      refine endWarn_of_hot (allCool_of_hot hdie ?_)
      unfold sensorTemp
      rw [hjcfg, htempw]
      exact hge
    have hend := hev.trans (afterEvents_endWarn hev.tabOk)
    refine ⟨(hend.getF (mgtReg_of_high (le_therm_at n))).trans htemp,
      (hend.getF (f := MGT_THERM_FAULT) (i := n) (mgtReg_of_high (le_therm_at n))).trans hfault, ?_, fun _ hge => ?_,
      fun _ hge hlimit htwo hfree => ?_⟩
    · obtain ⟨_, _, _, _, _, hm⟩ := hend.mgmt
      rw [hm]
      exact hnot
    · rw [hstays hge]
      exact hjwarn hge
    · rw [hstays (by have : Int.ofNat (powerCfg u).thermWarn ≤ 110 := Int.ofNat_le.2 hlimit
                     omega)]
      exact hjcrit hge htwo hfree
  · rw [if_pos (Nat.not_lt.1 hdie)]
    exact ⟨htemp, hfault, hnot, fun h => absurd h hdie, fun h => absurd h hdie⟩

theorem dev_thermalSample_of_below {n v : Nat} {s : State} (hon : devOn s = true) (hn : n < 240) (hv : v < 65536)
    (hlow : tempOf v < 125 * 16) : (thermalSample n v s).dev = s.dev := by
  rw [thermalSample_of_below hn hon hv hlow]
  have hstore : Agree 7208480 s (storeTherm n v s) := storeTherm_agree.mono rfl
  exact (Agree.ite hstore (endWarn_agree.after rfl (thermJudged_agree.after rfl hstore))).area .dev rfl

theorem mem_thermalSample_of_below {n v : Nat} {s : State} (hon : devOn s = true) (hn : n < 240) (hv : v < 65536)
    (hlow : tempOf v < 125 * 16) : (thermalSample n v s).mem = s.mem := by
  rw [thermalSample_of_below hn hon hv hlow]
  have hstore : Agree 7208480 s (storeTherm n v s) := storeTherm_agree.mono rfl
  exact (Agree.ite hstore (endWarn_agree.after rfl (thermJudged_agree.after rfl hstore))).area .mem rfl

/-! ### The end of the 1 s (R527) -/

/-- THERM_CRIT_TIMEOUT enters the hold. -/
theorem thermCritTimeout_leaves {now x : Nat} {s : State} (hs : TablesOk s) (hlow : s.power.lowSince = some x)
    (hwarn : s.power.warn.isSome = true) (hcrit : s.power.critHold = false) (hlapsed : elapsed (advance s now) x 1 1 = true) :
    (thermCritTimeout now s).power.critHold = true ∧ (thermCritTimeout now s).power.floor = 0 ∧ Caused (thermCritTimeout now s) 14 1 := by
  have hfree : thermCritTimeout now s = freeTherm (advance s now) enterCrit := by
    unfold thermCritTimeout
    extract_lets u
    have hlow' : u.power.lowSince = some x := hlow
    rw [hlow']
    exact if_pos (by rw [hlapsed, show (advance s now).power = s.power from rfl, hwarn, hcrit]; rfl)
  rw [hfree]
  have htab : TablesOk { advance s now with free := (advance s now).free + 1 } :=
    ⟨hs.regs, hs.resets, hs.queues, hs.fronds, hs.slots, hs.parts, hs.ports⟩
  obtain ⟨-, hheld, -, -, -, hnew⟩ := enterCrit_leaves (idx := Config.thermField (advance s now).free 0)
    (temp := Config.thermField (advance s now).free 1) htab
  obtain ⟨hcaused, -, hfloor⟩ := hnew hcrit
  exact ⟨hheld, hfloor, hcaused⟩

/-! ### Rails (R519, R520) -/

theorem tblFind_tblPut_none_of_lt {α : Type} (t : Tbl α) {k j : Nat} (h : k < j) : tblFind (tblPut t k none) j = tblFind t j := by
  induction t with
  | nil => rfl
  | cons e t ih =>
    obtain ⟨i, w⟩ := e
    by_cases hik : i = k
    · grind [tblPut, tblFind]
    · by_cases hlt : k < i <;> grind [tblPut, tblFind]

theorem tblGet_tblSet_of_lt {α : Type} [DecidableEq α] {d v : α} (t : Tbl α) {k j : Nat} (h : k < j) :
    tblGet d (tblSet d t k v) j = tblGet d t j := by
  unfold tblGet tblSet
  split
  · rw [tblFind_tblPut_none_of_lt t h]
  · rw [tblFind_tblPut_some, if_neg (by omega)]

/-- A rail's sample as its registers show it. -/
def railShown (n volt curr power : Nat) (s : State) : State :=
  let p := min (railPower n volt curr power) 65535
  let s1 := setF (setF (validSample (240 + n) s) MGT_RAIL_VOLT n (min volt 65535)) MGT_RAIL_CURR n (min curr 65535)
  setF (setF s1 MGT_RAIL_POWER n p) MGT_RAIL_PEAK n (max p (getF s1 MGT_RAIL_PEAK n))

/-- A sample outside its range counts, and the one that fills the count is an event. -/
def railCounted (n volt : Nat) (s : State) : State :=
  let bad := if n = 0 then decide (volt < 40000) || decide (60000 < volt) else offBy n volt 20
  if (countBad s n bad).2 = (if n = 0 then 100 else 10) then
    raiseCause (bump (logEvent (countBad s n bad).1 0x0804 8 1 0 none (leBytes 1 n ++ leBytes 2 volt)) PWR_THERM_EVENTS_RAIL_EVENTS 0 1) 14 2
  else (countBad s n bad).1

/-- What a sample leads to: the stages may shut down. -/
def railJudged (n volt : Nat) (s : State) : State :=
  if n ≠ 0 ∧ offBy n volt 10 = true then shutDown (stageRecord s n 0)
  else match groupOfRail n with
    | some g =>
      if (stageRails g).1.head? = some n then
        if 100 ≤ (countBad s (16 + g) (aboveRating s g)).2 then shutDown (stageRecord (countBad s (16 + g) (aboveRating s g)).1 n 2)
        else (countBad s (16 + g) (aboveRating s g)).1
      else s
    | none => s

theorem railSample_of_on {n volt curr power : Nat} {s : State} (hn : n < 10) (hon : devOn s = true) :
    railSample n volt curr power s = railJudged n volt (railCounted n volt (railShown n volt curr power s)) := by
  unfold railSample
  rw [if_neg (by rw [hon]; simp; omega)]
  rfl

theorem railShown_agree {n volt curr power : Nat} {s : State} : Agree 524320 s (railShown n volt curr power s) := by
  unfold railShown
  extract_lets p s1
  have h1 : Agree 524320 s s1 := setF_agree.after rfl (setF_agree.after rfl (validSample_agree.after rfl (Agree.refl _ _)))
  clear_value s1
  exact setF_agree.after rfl (setF_agree.after rfl h1)

/-- A rail's voltage and current show (R473). -/
theorem railShown_leaves {n volt curr power : Nat} {s : State} (hs : TablesOk s) :
    getF (railShown n volt curr power s) MGT_RAIL_VOLT n = min volt 65535 ∧
      getF (railShown n volt curr power s) MGT_RAIL_CURR n = min curr 65535 := by
  unfold railShown
  extract_lets p s1
  have h0 := tabOk_validSample hs (240 + n)
  have h1 := setF_tabOk h0 MGT_RAIL_VOLT n (min volt 65535)
  have hvolt1 : getF s1 MGT_RAIL_VOLT n = min volt 65535 :=
    (getF_setF_beside (f := MGT_RAIL_CURR) (g := MGT_RAIL_VOLT) h1 (by decide) rfl (.inl (by decide))).trans
      ((getF_setF_same h0 (by decide)).trans (Nat.mod_eq_of_lt (Nat.lt_of_le_of_lt (Nat.min_le_right ..) (by decide))))
  have hcurr1 : getF s1 MGT_RAIL_CURR n = min curr 65535 :=
    (getF_setF_same h1 (by decide)).trans (Nat.mod_eq_of_lt (Nat.lt_of_le_of_lt (Nat.min_le_right ..) (by decide)))
  have hs1 : TablesOk s1 := setF_tabOk h1 MGT_RAIL_CURR n (min curr 65535)
  clear_value s1
  have hs2 := setF_tabOk hs1 MGT_RAIL_POWER n p
  have hkept {g : Fld} (hg : g.at n = MGT_RAIL_POWER.at n) (hlow : g.lo + g.width ≤ 32) :
      getF (setF (setF s1 MGT_RAIL_POWER n p) MGT_RAIL_PEAK n (max p (getF s1 MGT_RAIL_PEAK n))) g n = getF s1 g n :=
    (getF_setF_beside (f := MGT_RAIL_PEAK) (g := g) hs2 (by decide) hg (.inl (Nat.le_trans hlow (by decide)))).trans
      (getF_setF_beside (f := MGT_RAIL_POWER) (g := g) hs1 (by decide) hg (.inl hlow))
  exact ⟨(hkept (g := MGT_RAIL_VOLT) rfl (by decide)).trans hvolt1, (hkept (g := MGT_RAIL_CURR) rfl (by decide)).trans hcurr1⟩

theorem railCounted_agree {n volt : Nat} {s : State} : Agree 7143456 s (railCounted n volt s) := by
  unfold railCounted
  extract_lets bad
  have h1 : Agree 7143456 s (countBad s n bad).1 := countBad_agree.mono rfl
  exact Agree.ite (raiseCause_agree.after rfl (bump_agree.after rfl (logEvent_agree.after rfl h1))) h1

theorem countBad_snd (s : State) (k : Nat) (bad : Bool) : (countBad s k bad).2 = if bad then tblGet 0 s.power.railBad k + 1 else 0 := rfl

theorem railBad_countBad (s : State) (k : Nat) (bad : Bool) :
    (countBad s k bad).1.power.railBad = tblSet 0 s.power.railBad k (countBad s k bad).2 := rfl

/-- What the count of a rail leaves. -/
theorem railCounted_leaves {n volt : Nat} {s : State} (hs : TablesOk s) :
    AfterEvents MgtReg s (railCounted n volt s) ∧
      (∀ j, n < j → tblGet 0 (railCounted n volt s).power.railBad j = tblGet 0 s.power.railBad j) ∧
      (n = 0 → (volt < 40000 ∨ 60000 < volt) → tblGet 0 s.power.railBad 0 = 99 → Caused (railCounted n volt s) 14 2) := by
  unfold railCounted
  extract_lets bad
  have h1 : AfterEvents MgtReg s (countBad s n bad).1 := AfterEvents.after countBad_agree (AfterEvents.refl hs) rfl rfl rfl rfl
  have hsnd := countBad_snd s n bad
  have hbad (j : Nat) (hj : n < j) : tblGet 0 (countBad s n bad).1.power.railBad j = tblGet 0 s.power.railBad j := by
    rw [railBad_countBad, tblGet_tblSet_of_lt _ hj]
  generalize (countBad s n bad).2 = k at hsnd ⊢
  generalize (countBad s n bad).1 = u at h1 hbad ⊢
  have hev := (h1.logEvent (fun _ => quiet_of_mgtReg) (a := 0x0804) (b := 8) (c := 1) (d := 0) (p := none)
    (l := leBytes 1 n ++ leBytes 2 volt)).bump (f := PWR_THERM_EVENTS_RAIL_EVENTS) (i := 0) (k := 1) (not_mgtReg_pwr (by decide))
  by_cases hk : k = if n = 0 then 100 else 10
  · rw [if_pos hk]
    refine ⟨hev.raiseCause (fun _ => quiet_of_mgtReg) (by decide) (by decide), fun j hj => ?_, fun _ _ _ =>
      raiseCause_caused hev.tabOk (by decide)⟩
    rw [power_raiseCause, power_bump, show (logEvent u 0x0804 8 1 0 none (leBytes 1 n ++ leBytes 2 volt)).power = u.power from
      logEvent_agree.area .power rfl]
    exact hbad j hj
  · rw [if_neg hk]
    refine ⟨h1, hbad, fun hn hout hcount => absurd ?_ hk⟩
    have hb : bad = true := by
      unfold bad
      rw [if_pos hn]
      simpa using hout
    rw [hsnd, if_pos hb, hn, hcount, if_pos rfl]

theorem railJudged_of_off {n volt : Nat} {s : State} (hn : n ≠ 0) (hoff : offBy n volt 10 = true) :
    railJudged n volt s = shutDown (stageRecord s n 0) := if_pos ⟨hn, hoff⟩

/-- A rail that is no stage's, or is within a tenth of its voltage and whose group is not above its rating for too long (R520). -/
theorem railJudged_of_good {n volt : Nat} {s : State}
    (h : n = 0 ∨ (offBy n volt 10 = false ∧ ∀ g, groupOfRail n = some g → tblGet 0 s.power.railBad (16 + g) < 99)) :
    Agree 2097152 s (railJudged n volt s) ∧ (n = 0 → railJudged n volt s = s) := by
  have hnot : ¬ (n ≠ 0 ∧ offBy n volt 10 = true) := by
    rintro ⟨hne, hoff⟩
    rcases h with h0 | ⟨hgood, -⟩
    · exact hne h0
    · rw [hgood] at hoff
      exact Bool.false_ne_true hoff
  unfold railJudged
  rw [if_neg hnot]
  have hnone : n = 0 → groupOfRail n = none := fun h0 => by subst h0; decide
  rcases hgroup : groupOfRail n with _ | g
  · exact ⟨Agree.refl _ _, fun _ => rfl⟩
  · refine ⟨?_, fun h0 => nomatch (hnone h0).symm.trans hgroup⟩
    have hlow : tblGet 0 s.power.railBad (16 + g) < 99 := by
      rcases h with h0 | ⟨-, hlow⟩
      · exact nomatch (hnone h0).symm.trans hgroup
      · exact hlow g hgroup
    have hcount : ¬ 100 ≤ (countBad s (16 + g) (aboveRating s g)).2 := by
      rw [countBad_snd]
      split <;> omega
    dsimp only
    rw [if_neg hcount]
    exact Agree.ite countBad_agree (Agree.refl _ _)

theorem groupOfRail_lt {n g : Nat} (h : groupOfRail n = some g) : g < 4 := List.mem_range.1 (List.mem_of_find?_eq_some h)

/-- A rail's sample that shuts no stage down (R473, R519). -/
theorem railSample_leaves {n volt curr power : Nat} {s : State} (hs : TablesOk s) (hon : devOn s = true) (hn : n < 10)
    (h : n = 0 ∨ (offBy n volt 10 = false ∧ ∀ g, groupOfRail n = some g → tblGet 0 s.power.railBad (16 + g) < 99)) :
    Agree 7143456 s (railSample n volt curr power s) ∧
      getF (railSample n volt curr power s) MGT_RAIL_VOLT n = min volt 65535 ∧
      getF (railSample n volt curr power s) MGT_RAIL_CURR n = min curr 65535 ∧
      (n = 0 → (volt < 40000 ∨ 60000 < volt) → tblGet 0 s.power.railBad 0 = 99 → Caused (railSample n volt curr power s) 14 2) := by
  rw [railSample_of_on hn hon]
  obtain ⟨hvolt, hcurr⟩ := railShown_leaves (volt := volt) (curr := curr) (power := power) (n := n) hs
  have ha1 : Agree 524320 s (railShown n volt curr power s) := railShown_agree
  have hbad1 : (railShown n volt curr power s).power.railBad = s.power.railBad := congrArg PowerSt.railBad (ha1.area .power rfl)
  generalize railShown n volt curr power s = u at hvolt hcurr ha1 hbad1 ⊢
  obtain ⟨hev, hcounts, hcaused⟩ := railCounted_leaves (n := n) (volt := volt) (ha1.tabOk hs)
  have ha2 : Agree 7143456 u (railCounted n volt u) := railCounted_agree
  rw [hbad1] at hcounts hcaused
  generalize railCounted n volt u = w at hev hcounts hcaused ha2 ⊢
  obtain ⟨ha3, hsame⟩ := railJudged_of_good (s := w) (h.imp_right fun ⟨hgood, hlow⟩ => ⟨hgood, fun g hg =>
    (hcounts (16 + g) (by omega)).symm ▸ hlow g hg⟩)
  have hregs {o : Nat} : getReg (railJudged n volt w) o = getReg w o := getReg_of_regs_eq (ha3.area .regs rfl) o
  have hrail : MgtReg (MGT_RAIL_VOLT.at n) := mgtReg_of_high (by simp only [Fld.at, MGT_RAIL_VOLT]; omega)
  refine ⟨ha3.after rfl (ha2.after rfl (ha1.mono rfl)), ?_, ?_, fun h0 hout hcount => ?_⟩
  · exact (congrArg (fun v : W64 => bitsOf v.toNat 0 16) (hregs.trans (hev.regs _ hrail))).trans hvolt
  · exact (congrArg (fun v : W64 => bitsOf v.toNat 16 16) (hregs.trans (hev.regs _ hrail))).trans hcurr
  · rw [hsame h0]
    exact hcaused h0 hout hcount

/-- A stage's rail more than a tenth off shuts the stages down (R519). -/
theorem railSample_of_off {n volt curr power : Nat} {s : State} (hs : TablesOk s) (hon : devOn s = true) (hn : n < 10) (h0 : n ≠ 0)
    (hoff : offBy n volt 10 = true) : (railSample n volt curr power s).dev = .standby ∧ (railSample n volt curr power s).mem = [] := by
  rw [railSample_of_on hn hon, railJudged_of_off h0 hoff]
  have ha : Agree 7143456 s (railCounted n volt (railShown n volt curr power s)) := railCounted_agree.after rfl (railShown_agree.mono rfl)
  generalize railCounted n volt (railShown n volt curr power s) = u at ha ⊢
  have hrec : Agree 7143457 s (stageRecord u n 0) := stageRecord_agree.after rfl (ha.mono rfl)
  obtain ⟨hdev, hmem, -⟩ := stoodBy_shutDown (s := s) (hrec.tabOk hs) ((devOn_of_dev_eq (hrec.area .dev rfl)).trans hon)
  exact ⟨hdev, hmem⟩

end Sys2Proof.Proofs
end

section
/-! O57, continued. The coolant, the stacks' temperatures, the feed and patrol scrub (R286, R304, R418, R528). -/

namespace Sys2Proof.Proofs

open Sys2Proof Sys2Proof.Machine Sys2Proof.Safety Sys2Proof.Frame Sys2Proof.Claims Sys2Proof.Laws

/-! ### The coolant (R528) -/

/-- A coolant sample as its register shows it. -/
def coolantShown (inlet outlet flow : Nat) (s : State) : State :=
  setF (setF (setF (setF s MGT_COOLANT_INLET 0 inlet) MGT_COOLANT_OUTLET 0 outlet) MGT_COOLANT_FLOW 0 flow) MGT_COOLANT_VALID 0 1

/-- The counts of consecutive coolant samples. -/
def coolantCount (hot low : Bool) (x : PowerSt) : PowerSt :=
  { x with
    inletBad := if hot then x.inletBad + 1 else 0
    flowBad := if low then x.flowBad + 1 else 0
    coolGood := if hot || low then 0 else x.coolGood + 1 }

/-- The coolant cap takes effect, and full flow is driven. -/
def coolantCapped (s : State) : State :=
  setF (setF (setPower s (fun x => { x with capped := true })) PWR_STATUS_COOLANT_CAP 0 1) PWR_FLOW_DUTY 0 255

def coolantFreed (s : State) : State := setF (setPower s (fun x => { x with capped := false })) PWR_STATUS_COOLANT_CAP 0 0

/-- What the counts lead to. -/
def coolantJudged (inlet flow : Nat) (s : State) : State :=
  if s.power.inletBad = 10 ∨ s.power.flowBad = 10 then
    raiseCause (bump (logEvent (coolantCapped s) 0x0805 8 2 0 none (leBytes 2 inlet ++ leBytes 2 flow))
      PWR_THERM_EVENTS_COOLANT_EVENTS 0 1) 14 3
  else if s.power.capped ∧ 10 ≤ s.power.coolGood then coolantFreed s
  else s

theorem coolantSample_of_on {inlet outlet flow : Nat} {s : State} (hon : devOn s = true) :
    coolantSample inlet outlet flow s = coolantJudged inlet flow
      (setPower (coolantShown inlet outlet flow (validSample 250 (validSample 251 (validSample 252 s))))
        (coolantCount (decide (tempOf inlet > Int.ofNat (powerCfg s).inletMax * 16)) (decide (flow < (powerCfg s).flowMin * 10)))) := by
  unfold coolantSample
  rw [if_neg (by rw [hon]; decide)]
  rfl

/-- The fields of a coolant sample in its register. -/
def CoolantShows (inlet outlet flow : Nat) (s : State) : Prop :=
  getF s MGT_COOLANT_INLET = inlet ∧ getF s MGT_COOLANT_OUTLET = outlet ∧ getF s MGT_COOLANT_FLOW = flow ∧ getF s MGT_COOLANT_VALID = 1

theorem CoolantShows.of_same {inlet outlet flow : Nat} {s t : State} (h : CoolantShows inlet outlet flow s)
    (hreg : getReg t MGT_COOLANT_INLET.off = getReg s MGT_COOLANT_INLET.off) : CoolantShows inlet outlet flow t := by
  obtain ⟨hin, hout, hflow, hvalid⟩ := h
  exact ⟨(congrArg (fun v : W64 => bitsOf v.toNat 0 16) hreg).trans hin, (congrArg (fun v : W64 => bitsOf v.toNat 16 16) hreg).trans hout,
    (congrArg (fun v : W64 => bitsOf v.toNat 32 16) hreg).trans hflow, (congrArg (fun v : W64 => bitsOf v.toNat 48 1) hreg).trans hvalid⟩

theorem coolantShown_leaves {inlet outlet flow : Nat} {s : State} (hs : TablesOk s) (hin : inlet < 65536) (hout : outlet < 65536)
    (hflow : flow < 65536) : Agree 32 s (coolantShown inlet outlet flow s) ∧ CoolantShows inlet outlet flow (coolantShown inlet outlet flow s) := by
  unfold coolantShown
  have h1 := setF_tabOk hs MGT_COOLANT_INLET 0 inlet
  have h2 := setF_tabOk h1 MGT_COOLANT_OUTLET 0 outlet
  have h3 := setF_tabOk h2 MGT_COOLANT_FLOW 0 flow
  refine ⟨setF_agree.after rfl (setF_agree.after rfl (setF_agree.after rfl setF_agree)), ?_, ?_, ?_, getF_setF_same h3 (by decide)⟩
  · have hk : FieldKept MGT_COOLANT_INLET _ _ :=
      .setF (.setF (.setF (s := setF s MGT_COOLANT_INLET 0 inlet) (g := MGT_COOLANT_OUTLET) (i := 0) (v := outlet) ⟨h1, rfl⟩ (by decide))
        (g := MGT_COOLANT_FLOW) (i := 0) (v := flow) (by decide)) (g := MGT_COOLANT_VALID) (i := 0) (v := 1) (by decide)
    exact hk.2.trans ((getF_setF_same hs (by decide)).trans (Nat.mod_eq_of_lt hin))
  · have hk : FieldKept MGT_COOLANT_OUTLET _ _ :=
      .setF (.setF (s := setF (setF s MGT_COOLANT_INLET 0 inlet) MGT_COOLANT_OUTLET 0 outlet) (g := MGT_COOLANT_FLOW) (i := 0) (v := flow)
        ⟨h2, rfl⟩ (by decide)) (g := MGT_COOLANT_VALID) (i := 0) (v := 1) (by decide)
    exact hk.2.trans ((getF_setF_same h1 (by decide)).trans (Nat.mod_eq_of_lt hout))
  · have hk : FieldKept MGT_COOLANT_FLOW _ _ :=
      .setF (s := setF (setF (setF s MGT_COOLANT_INLET 0 inlet) MGT_COOLANT_OUTLET 0 outlet) MGT_COOLANT_FLOW 0 flow)
        (g := MGT_COOLANT_VALID) (i := 0) (v := 1) ⟨h3, rfl⟩ (by decide)
    exact hk.2.trans ((getF_setF_same h2 (by decide)).trans (Nat.mod_eq_of_lt hflow))

/-- The cap takes effect. -/
theorem coolantCapped_leaves {s : State} (hs : TablesOk s) :
    AfterEvents MgtReg s (coolantCapped s) ∧ (coolantCapped s).power.capped = true ∧ getF (coolantCapped s) PWR_STATUS_COOLANT_CAP = 1 ∧
      getF (coolantCapped s) PWR_FLOW_DUTY = 255 := by
  unfold coolantCapped
  have h0 : TablesOk (setPower s (fun x => { x with capped := true })) := setPower_agree.tabOk hs
  have h1 := setF_tabOk h0 PWR_STATUS_COOLANT_CAP 0 1
  exact ⟨(((AfterEvents.refl hs).setPower).setF (not_mgtReg_pwr (by decide))).setF (not_mgtReg_pwr (by decide)), rfl,
    (getF_setF_ne (f := PWR_FLOW_DUTY) (g := PWR_STATUS_COOLANT_CAP) h1 (by decide)).trans (getF_setF_same h0 (by decide)),
    getF_setF_same h1 (by decide)⟩

theorem coolantFreed_leaves {s : State} (hs : TablesOk s) :
    AfterEvents MgtReg s (coolantFreed s) ∧ (coolantFreed s).power.capped = false ∧ getF (coolantFreed s) PWR_STATUS_COOLANT_CAP = 0 := by
  unfold coolantFreed
  have h0 : TablesOk (setPower s (fun x => { x with capped := false })) := setPower_agree.tabOk hs
  exact ⟨((AfterEvents.refl hs).setPower).setF (not_mgtReg_pwr (by decide)), rfl, getF_setF_same h0 (by decide)⟩

theorem coolantJudged_leaves {inlet flow : Nat} {s : State} (hs : TablesOk s) :
    AfterEvents MgtReg s (coolantJudged inlet flow s) ∧
      (s.power.inletBad = 10 ∨ s.power.flowBad = 10 → (coolantJudged inlet flow s).power.capped = true ∧
        getF (coolantJudged inlet flow s) PWR_STATUS_COOLANT_CAP = 1 ∧ getF (coolantJudged inlet flow s) PWR_FLOW_DUTY = 255 ∧
        Caused (coolantJudged inlet flow s) 14 3) ∧
      (¬ (s.power.inletBad = 10 ∨ s.power.flowBad = 10) → s.power.capped = true → 10 ≤ s.power.coolGood →
        (coolantJudged inlet flow s).power.capped = false ∧ getF (coolantJudged inlet flow s) PWR_STATUS_COOLANT_CAP = 0) := by
  unfold coolantJudged
  by_cases hbad : s.power.inletBad = 10 ∨ s.power.flowBad = 10
  · rw [if_pos hbad]
    obtain ⟨hcap, hcapped, hfield, hduty⟩ := coolantCapped_leaves hs
    generalize coolantCapped s = u at hcap hcapped hfield hduty ⊢
    have hlog : AfterEvents Quiet u (logEvent u 0x0805 8 2 0 none (leBytes 2 inlet ++ leBytes 2 flow)) :=
      (AfterEvents.refl hcap.tabOk).logEvent fun _ h => h
    have hlp : (logEvent u 0x0805 8 2 0 none (leBytes 2 inlet ++ leBytes 2 flow)).power = u.power := logEvent_agree.area .power rfl
    generalize logEvent u 0x0805 8 2 0 none (leBytes 2 inlet ++ leBytes 2 flow) = w at hlog hlp ⊢
    have hbump : AfterEvents Quiet w (raiseCause w 14 3) := (AfterEvents.refl hlog.tabOk).raiseCause (fun _ h => h) (by decide) (by decide)
    have hall : AfterEvents MgtReg u (raiseCause (bump w PWR_THERM_EVENTS_COOLANT_EVENTS 0 1) 14 3) :=
      ((hlog.mono fun _ => quiet_of_mgtReg).bump (not_mgtReg_pwr (by decide))).raiseCause (fun _ => quiet_of_mgtReg) (by decide) (by decide)
    have hreg {f : Fld} (hf : f.at 0 = PWR_STATUS_COOLANT_CAP.off ∨ f.at 0 = PWR_FLOW_DUTY.off) :
        getF (raiseCause (bump w PWR_THERM_EVENTS_COOLANT_EVENTS 0 1) 14 3) f = getF u f := by
      have hbumped : TablesOk (bump w PWR_THERM_EVENTS_COOLANT_EVENTS 0 1) := bump_agree.tabOk hlog.tabOk
      have hq : Quiet (f.at 0) := by rcases hf with h | h <;> (rw [h]; exact ⟨by decide, by decide⟩)
      rw [((AfterEvents.refl hbumped).raiseCause (K := Quiet) (b := 14) (k := 3) (fun _ h => h) (by decide) (by decide)).getF hq]
      unfold getF
      rw [getReg_bump_ne hlog.tabOk (by rcases hf with h | h <;> (rw [h]; decide)), hlog.regs _ hq]
    refine ⟨hcap.trans hall, fun _ => ⟨?_, (hreg (.inl rfl)).trans hfield, (hreg (.inr rfl)).trans hduty,
      raiseCause_caused (bump_agree.tabOk hlog.tabOk) (by decide)⟩, fun h => absurd hbad h⟩
    rw [power_raiseCause, power_bump, hlp]
    exact hcapped
  · rw [if_neg hbad]
    by_cases hfree : s.power.capped ∧ 10 ≤ s.power.coolGood
    · rw [if_pos hfree]
      obtain ⟨hev, hcapped, hfield⟩ := coolantFreed_leaves hs
      exact ⟨hev, fun h => absurd h hbad, fun _ _ _ => ⟨hcapped, hfield⟩⟩
    · rw [if_neg hfree]
      exact ⟨AfterEvents.refl hs, fun h => absurd h hbad, fun _ hc hg => absurd ⟨hc, hg⟩ hfree⟩

/-- What a coolant sample leaves (R528). -/
theorem coolantSample_leaves {inlet outlet flow : Nat} {s : State} (hs : TablesOk s) (hon : devOn s = true) (hin : inlet < 65536)
    (hout : outlet < 65536) (hflow : flow < 65536) :
    CoolantShows inlet outlet flow (coolantSample inlet outlet flow s) ∧
      ((Int.ofNat (powerCfg s).inletMax * 16 < tempOf inlet ∧ s.power.inletBad = 9) ∨
          (flow < (powerCfg s).flowMin * 10 ∧ s.power.flowBad = 9) →
        (coolantSample inlet outlet flow s).power.capped = true ∧ getF (coolantSample inlet outlet flow s) PWR_STATUS_COOLANT_CAP = 1 ∧
          getF (coolantSample inlet outlet flow s) PWR_FLOW_DUTY = 255 ∧ Caused (coolantSample inlet outlet flow s) 14 3) ∧
      (¬ Int.ofNat (powerCfg s).inletMax * 16 < tempOf inlet → ¬ flow < (powerCfg s).flowMin * 10 → s.power.capped = true →
        9 ≤ s.power.coolGood → (coolantSample inlet outlet flow s).power.capped = false ∧
          getF (coolantSample inlet outlet flow s) PWR_STATUS_COOLANT_CAP = 0) := by
  rw [coolantSample_of_on hon]
  have h0 : TablesOk (validSample 250 (validSample 251 (validSample 252 s))) :=
    tabOk_validSample (tabOk_validSample (tabOk_validSample hs 252) 251) 250
  have hp0 : (validSample 250 (validSample 251 (validSample 252 s))).power = s.power :=
    (power_validSample ..).trans ((power_validSample ..).trans (power_validSample ..))
  generalize validSample 250 (validSample 251 (validSample 252 s)) = u at h0 hp0 ⊢
  obtain ⟨ha, hshown⟩ := coolantShown_leaves h0 hin hout hflow
  have hp1 : (coolantShown inlet outlet flow u).power = s.power := (ha.area .power rfl).trans hp0
  have htab := ha.tabOk h0
  generalize coolantShown inlet outlet flow u = w at hshown hp1 htab ⊢
  generalize hhot : decide (tempOf inlet > Int.ofNat (powerCfg s).inletMax * 16) = hot
  generalize hlow : decide (flow < (powerCfg s).flowMin * 10) = low
  have hcount : TablesOk (setPower w (coolantCount hot low)) := setPower_agree.tabOk htab
  have hpow : (setPower w (coolantCount hot low)).power = coolantCount hot low s.power :=
    (power_setPower ..).trans (congrArg (coolantCount hot low) hp1)
  have hshown2 : CoolantShows inlet outlet flow (setPower w (coolantCount hot low)) :=
    hshown.of_same (getReg_of_regs_eq (setPower_agree.area .regs rfl) _)
  generalize setPower w (coolantCount hot low) = v at hcount hpow hshown2 ⊢
  obtain ⟨hev, hcap, hfree⟩ := coolantJudged_leaves (inlet := inlet) (flow := flow) hcount
  have hinlet : v.power.inletBad = if hot then s.power.inletBad + 1 else 0 := by rw [hpow]; rfl
  have hflowBad : v.power.flowBad = if low then s.power.flowBad + 1 else 0 := by rw [hpow]; rfl
  have hgood : v.power.coolGood = if hot || low then 0 else s.power.coolGood + 1 := by rw [hpow]; rfl
  have hcapped : v.power.capped = s.power.capped := by rw [hpow]; rfl
  refine ⟨hshown2.of_same (hev.regs _ ⟨by decide, by decide⟩), fun h => hcap ?_, fun hnhot hnlow hc hten => hfree ?_ ?_ ?_⟩
  · rcases h with ⟨hh, hnine⟩ | ⟨hl, hnine⟩
    · left
      rw [hinlet, ← hhot, if_pos (decide_eq_true hh), hnine]
    · right
      rw [hflowBad, ← hlow, if_pos (decide_eq_true hl), hnine]
  · rw [hinlet, hflowBad, ← hhot, ← hlow, if_neg (by simpa using hnhot), if_neg (by simpa using hnlow)]
    decide
  · rw [hcapped]
    exact hc
  · rw [hgood, ← hhot, ← hlow, decide_eq_false hnhot, decide_eq_false hnlow]
    exact Nat.succ_le_succ hten

end Sys2Proof.Proofs
end

section
/-! O57, settled. The stacks' temperatures, the feed and patrol scrub (R286, R304, R418). -/

namespace Sys2Proof.Proofs

open Sys2Proof Sys2Proof.Machine Sys2Proof.Safety Sys2Proof.Frame Sys2Proof.Claims Sys2Proof.Laws

/-! ### The stacks' temperatures (R286, R526) -/

theorem tabOk_freed {s : State} (hs : TablesOk s) : TablesOk { s with free := s.free + 1 } :=
  ⟨hs.regs, hs.resets, hs.queues, hs.fronds, hs.slots, hs.parts, hs.ports⟩

theorem freeTherm_eq (s : State) (act : State → Nat → Nat → State) :
    ∃ idx temp, freeTherm s act = act { s with free := s.free + 1 } idx temp := ⟨_, _, rfl⟩

theorem afterEvents_freed {s : State} (hs : TablesOk s) : AfterEvents MgtReg s { s with free := s.free + 1 } :=
  ⟨tabOk_freed hs, fun _ _ => rfl, .refl _, .refl _, rfl⟩

/-- A stack's readout as its register shows it. -/
def hbmTempShown (k v : Nat) (s : State) : State :=
  setF (setF s HBM_STATUS_TEMP k v) HBM_STATUS_REFRESH_2X k (b2n (decide (85 < v)))

/-- The warning, and the hold, to which a stack's readout leads. -/
def hbmWarned (v : Nat) (s : State) : State := if 95 ≤ v ∧ s.power.warn = none then freeTherm s enterWarn else s

def hbmHeld (v : Nat) (s : State) : State := if 105 ≤ v ∧ s.power.critHold = false then freeTherm s enterCrit else s

theorem hbmTempReadout_of_on {k v : Nat} {s : State} (hk : k < 12) (hon : devOn s = true) :
    hbmTempReadout k v s = endWarn (hbmHeld (min v 255) (hbmWarned (min v 255) (hbmTempShown k (min v 255) s))) := by
  unfold hbmTempReadout
  rw [if_neg (by rw [hon]; simp; omega)]
  rfl

theorem hbmWarned_leaves {v : Nat} {s : State} (hs : TablesOk s) :
    AfterEvents MgtReg s (hbmWarned v s) ∧ (hbmWarned v s).power.critHold = s.power.critHold := by
  unfold hbmWarned
  split
  · obtain ⟨idx, temp, h⟩ := freeTherm_eq s enterWarn
    obtain ⟨hev, -, ⟨w, hp⟩, -⟩ := enterWarn_leaves (idx := idx) (temp := temp) (tabOk_freed hs)
    rw [h]
    exact ⟨(afterEvents_freed hs).trans hev, (congrArg PowerSt.critHold hp).trans rfl⟩
  · exact ⟨AfterEvents.refl hs, rfl⟩

theorem hbmHeld_leaves {v : Nat} {s : State} (hs : TablesOk s) :
    AfterEvents MgtReg s (hbmHeld v s) ∧
      (105 ≤ v → s.power.critHold = false → (hbmHeld v s).power.critHold = true ∧ Caused (hbmHeld v s) 14 1) := by
  unfold hbmHeld
  by_cases h : 105 ≤ v ∧ s.power.critHold = false
  · rw [if_pos h]
    obtain ⟨idx, temp, hf⟩ := freeTherm_eq s enterCrit
    obtain ⟨hev, hheld, -, -, -, hnew⟩ := enterCrit_leaves (idx := idx) (temp := temp) (tabOk_freed hs)
    rw [hf]
    exact ⟨(afterEvents_freed hs).trans hev, fun _ hfree => ⟨hheld, (hnew hfree).1⟩⟩
  · rw [if_neg h]
    exact ⟨AfterEvents.refl hs, fun hv hc => absurd ⟨hv, hc⟩ h⟩

theorem mgtReg_stack (k : Nat) : MgtReg (HBM_STATUS_TEMP.at k) :=
  mgtReg_of_high (by simp only [Fld.at, HBM_STATUS_TEMP]; omega)

/-- What a stack's readout leaves. -/
theorem hbmTempReadout_leaves {k v : Nat} {s : State} (hs : TablesOk s) (hon : devOn s = true) (hk : k < 12) :
    getF (hbmTempReadout k v s) HBM_STATUS_TEMP k = min v 255 ∧
      getF (hbmTempReadout k v s) HBM_STATUS_REFRESH_2X k = b2n (decide (85 < v)) ∧
      (105 ≤ v → s.power.critHold = false → (hbmTempReadout k v s).power.critHold = true ∧ Caused (hbmTempReadout k v s) 14 1) := by
  rw [hbmTempReadout_of_on hk hon]
  have hlimit : decide (85 < v) = decide (85 < min v 255) := decide_eq_decide.2 (by omega)
  have hheld : 105 ≤ min v 255 ↔ 105 ≤ v := by omega
  have htop : min v 255 < 256 := by omega
  rw [← hheld, hlimit]
  generalize min v 255 = x at htop ⊢
  have h1 := setF_tabOk hs HBM_STATUS_TEMP k x
  have h2 : TablesOk (hbmTempShown k x s) := setF_tabOk h1 HBM_STATUS_REFRESH_2X k _
  have htemp : getF (hbmTempShown k x s) HBM_STATUS_TEMP k = x :=
    (getF_setF_beside (f := HBM_STATUS_REFRESH_2X) (g := HBM_STATUS_TEMP) h1 (by decide) rfl (.inr (by decide))).trans
      ((getF_setF_same hs (by decide)).trans (Nat.mod_eq_of_lt htop))
  have hrefresh : getF (hbmTempShown k x s) HBM_STATUS_REFRESH_2X k = b2n (decide (85 < x)) :=
    (getF_setF_same h1 (by decide)).trans (Nat.mod_eq_of_lt (by unfold b2n; split <;> decide))
  have hcrit : (hbmTempShown k x s).power.critHold = s.power.critHold := rfl
  rw [← hcrit]
  generalize hbmTempShown k x s = u at h2 htemp hrefresh ⊢
  obtain ⟨hwarned, hsame⟩ := hbmWarned_leaves (v := x) h2
  rw [← hsame]
  obtain ⟨hevh, hhold⟩ := hbmHeld_leaves (v := x) hwarned.tabOk
  have hev := hwarned.trans hevh
  generalize hbmWarned x u = u2 at hsame hhold hev ⊢
  generalize hbmHeld x u2 = w at hhold hev ⊢
  have hend := hev.trans (afterEvents_endWarn hev.tabOk)
  refine ⟨(hend.getF (mgtReg_stack k)).trans htemp, (hend.getF (f := HBM_STATUS_REFRESH_2X) (i := k) (mgtReg_stack k)).trans hrefresh,
    fun hx hfree => ?_⟩
  have hstays : endWarn w = w := by
    refine endWarn_of_hot (allCool_of_hot_stack hk ?_)
    rw [hev.getF (mgtReg_stack k), htemp]
    omega
  rw [hstays]
  exact hhold hx hfree

/-! ### The feed (R418) -/

/-- A feed ID that has been read shows. -/
theorem feedIdPoll_leaves {b : List Byte} {feeds : List FeedRead} {s : State} (hs : TablesOk s) (hon : devOn s = true)
    (hcfg : (cfgOf s).redundancy.feedImage = false) :
    getF (feedIdPoll (some b) feeds s) ANC_FEED_ID_FEED = crc32c b % 2 ^ 32 ∧ getF (feedIdPoll (some b) feeds s) ANC_FEED_ID_SOURCE = 1 := by
  unfold feedIdPoll
  dsimp -zeta only
  rw [if_neg (by rw [hon, hcfg]; decide)]
  extract_lets new old known s1 clash s2
  have h1 := setF_tabOk hs ANC_FEED_ID_FEED 0 new
  have htab : TablesOk s1 := setF_tabOk h1 ANC_FEED_ID_SOURCE 0 1
  have hfeed : getF s1 ANC_FEED_ID_FEED = crc32c b % 2 ^ 32 :=
    (getF_setF_beside (f := ANC_FEED_ID_SOURCE) (g := ANC_FEED_ID_FEED) h1 (by decide) rfl (.inl (by decide))).trans
      (getF_setF_same hs (by decide))
  have hsource : getF s1 ANC_FEED_ID_SOURCE = 1 := getF_setF_same h1 (by decide)
  clear_value s1
  have h2 : AfterEvents Quiet s1 s2 := (AfterEvents.refl htab).logEvent fun _ h => h
  clear_value s2
  have hshown {t : State} (h : AfterEvents Quiet s1 t) :
      getF t ANC_FEED_ID_FEED = crc32c b % 2 ^ 32 ∧ getF t ANC_FEED_ID_SOURCE = 1 :=
    ⟨(h.getF ⟨by decide, by decide⟩).trans hfeed, (h.getF ⟨by decide, by decide⟩).trans hsource⟩
  split
  · split
    · exact hshown (h2.raiseCause (fun _ h => h) (by decide) (by decide))
    · exact hshown h2
  · exact ⟨hfeed, hsource⟩

end Sys2Proof.Proofs
end

section
/-! O57, settled: patrol scrub (R304), and the statement. -/

namespace Sys2Proof.Proofs

open Sys2Proof Sys2Proof.Machine Sys2Proof.Safety Sys2Proof.Frame Sys2Proof.Claims Sys2Proof.Laws

/-- A block as patrol scrub leaves it, with the upset that its reads met. -/
def patrolRead (k u : Nat) (x : Upset) (s : State) : State :=
  let s1 := bump { s with upsets := tblSet Upset.zero s.upsets u Upset.zero } HBM_TRAFFIC_ACCESSES k (4 * min 3 (x.reads + 1))
  if 3 ≤ x.reads then hbmPoisoned (bump (poisonUnit s1 u) HBM_ERR_EVENTS_SCRUB_POISONED k 1) u 0x0203 (b2n x.stack)
  else if 0 < x.reads then bump s1 HBM_ERR_EVENTS_RETRY_OK k 1 else s1

/-- The pass goes on to the next block. -/
def patrolOn (k i : Nat) (s : State) : State :=
  let j := if i + 1 = blocksPerStack then 0 else i + 1
  let s3 := setF { s with mgmt := { s.mgmt with
      scrubAt := tblSet 0 s.mgmt.scrubAt k j
      scrubSince := if i = 0 then tblPut s.mgmt.scrubSince k (some s.counter) else s.mgmt.scrubSince } }
    HBM_STATUS_SCRUB_PROGRESS k (j / 4096)
  if j = 0 then bump s3 HBM_STATUS_SCRUB_PASSES k 1 else s3

/-- The upset that the reads of a block meet: one of their own, or one that waits there. -/
def patrolUpset (up w : Upset) : Upset := if w.reads < up.reads then up else w

theorem reads_patrolUpset (up w : Upset) : (patrolUpset up w).reads = max up.reads w.reads := by
  unfold patrolUpset
  split <;> omega

theorem patrolScrub_of_due {k now : Nat} {up : Upset} {s : State} (hk : k < 12) (hon : devOn s = true)
    (htrained : getF s HBM_STATUS_TRAINED k = 1) (hdue : scrubDue (advance s now) k = true) :
    patrolScrub k up now s = patrolOn k (tblGet 0 s.mgmt.scrubAt k)
      (patrolRead k (k * blocksPerStack + tblGet 0 s.mgmt.scrubAt k)
        (patrolUpset up (tblGet Upset.zero s.upsets (k * blocksPerStack + tblGet 0 s.mgmt.scrubAt k))) (advance s now)) := by
  unfold patrolScrub
  extract_lets t
  have hcond : ¬ (12 ≤ k ∨ devOn t = false ∨ getF t HBM_STATUS_TRAINED k = 0 ∨ scrubDue t k = false) := by
    rw [show devOn t = true from hon, show getF t HBM_STATUS_TRAINED k = 1 from htrained, show scrubDue t k = true from hdue]
    simp
    omega
  rw [if_neg hcond]
  rfl

theorem patrolScrub_of_not_due {k now : Nat} {up : Upset} {s : State} (hdue : scrubDue (advance s now) k = false) :
    patrolScrub k up now s = advance s now := by
  unfold patrolScrub
  exact if_pos (.inr (.inr (.inr hdue)))

/-- No register is claimed to stay. -/
def NoReg (_ : Nat) : Prop := False

/-- The event of a poisoned block (R299). -/
theorem hbmPoisoned_leaves {s : State} {u type cause : Nat} (hs : TablesOk s) (hu : stackOf (256 * u) < 64) :
    AfterEvents NoReg s (hbmPoisoned s u type cause) ∧ CauseShown 12 (stackOf (256 * u)) (hbmPoisoned s u type cause) := by
  unfold hbmPoisoned
  extract_lets k st o owner off s1 s2 src s3
  have h1 : AfterEvents NoReg s s1 := by
    unfold s1
    split
    · exact AfterEvents.refl hs
    · exact (AfterEvents.refl hs).setReg id
  clear_value s1
  have h2 : AfterEvents NoReg s s2 := h1.logEvent fun _ h => h.elim
  clear_value s2
  have h3 : AfterEvents NoReg s s3 := h2.withMgmt ⟨_, _, _, _, _, rfl⟩
  clear_value s3
  exact ⟨h3.raiseCause (fun _ h => h.elim) (by decide) hu, causeShown_raiseCause h3.tabOk hu⟩

theorem unitPoison_poisonUnit (s : State) (u : Nat) : (unitMeta (poisonUnit s u) u).poison = true := by
  unfold unitMeta poisonUnit tblModify
  dsimp only
  have hne : { tblGet UnitMeta.zero s.units u with poison := true } ≠ UnitMeta.zero :=
    fun h => Bool.false_ne_true (congrArg UnitMeta.poison h).symm
  rw [tblGet_tblSet_of_ne _ _ _ hne, if_pos rfl]

theorem unitPoison_of_units_eq {s t : State} {u : Nat} (h : t.units = s.units) (hs : (unitMeta s u).poison = true) : unitPoison t u = true := by
  unfold unitPoison unitMeta
  unfold unitMeta at hs
  rw [h, hs, Bool.true_or]

/-- What the read of a block leaves. -/
theorem patrolRead_leaves {k u : Nat} {x : Upset} {s : State} (hs : TablesOk s) (hu : stackOf (256 * u) = k) (hk : k < 12) :
    AfterEvents NoReg s (patrolRead k u x s) ∧ (patrolRead k u x s).mem = s.mem ∧
      (3 ≤ x.reads → (unitMeta (patrolRead k u x s) u).poison = true ∧ CauseShown 12 k (patrolRead k u x s)) ∧
      (x.reads < 3 → (patrolRead k u x s).units = s.units) := by
  unfold patrolRead
  extract_lets s1
  have h0 : TablesOk { s with upsets := tblSet Upset.zero s.upsets u Upset.zero } :=
    ⟨hs.regs, hs.resets, hs.queues, hs.fronds, hs.slots, hs.parts, hs.ports⟩
  have hev0 : AfterEvents NoReg s { s with upsets := tblSet Upset.zero s.upsets u Upset.zero } :=
    ⟨h0, fun _ _ => rfl, .refl _, .refl _, rfl⟩
  have h1 : AfterEvents NoReg s s1 := hev0.bump id
  have ha1 : Agree 32 { s with upsets := tblSet Upset.zero s.upsets u Upset.zero } s1 := bump_agree
  have hmem1 : s1.mem = s.mem := ha1.area .mem rfl
  have hunits1 : s1.units = s.units := (ha1.area .marks rfl).1
  clear_value s1
  by_cases hthree : 3 ≤ x.reads
  · rw [if_pos hthree]
    have h2 : AfterEvents NoReg s1 (bump (poisonUnit s1 u) HBM_ERR_EVENTS_SCRUB_POISONED k 1) :=
      (AfterEvents.after poisonUnit_agree (AfterEvents.refl h1.tabOk) rfl rfl rfl rfl).bump id
    have hpoison : (unitMeta (bump (poisonUnit s1 u) HBM_ERR_EVENTS_SCRUB_POISONED k 1) u).poison = true := by
      have hunits : (bump (poisonUnit s1 u) HBM_ERR_EVENTS_SCRUB_POISONED k 1).units = (poisonUnit s1 u).units := (bump_agree.area .marks rfl).1
      unfold unitMeta
      rw [hunits]
      exact unitPoison_poisonUnit s1 u
    have hmem2 : (bump (poisonUnit s1 u) HBM_ERR_EVENTS_SCRUB_POISONED k 1).mem = s1.mem := bump_agree.area .mem rfl
    generalize bump (poisonUnit s1 u) HBM_ERR_EVENTS_SCRUB_POISONED k 1 = w at h2 hpoison hmem2 ⊢
    obtain ⟨hev, hcaused⟩ := hbmPoisoned_leaves (u := u) (type := 0x0203) (cause := b2n x.stack) h2.tabOk (by omega)
    rw [hu] at hcaused
    refine ⟨(h1.trans h2).trans hev, (hbmPoisoned_agree.area .mem rfl).trans (hmem2.trans hmem1), fun _ => ⟨?_, hcaused⟩,
      fun h => absurd hthree (Nat.not_le.2 h)⟩
    unfold unitMeta
    rw [show (hbmPoisoned w u 0x0203 (b2n x.stack)).units = w.units from (hbmPoisoned_agree.area .marks rfl).1]
    exact hpoison
  · rw [if_neg hthree]
    have h2 : Agree 32 s1 (if 0 < x.reads then bump s1 HBM_ERR_EVENTS_RETRY_OK k 1 else s1) := Agree.ite bump_agree (Agree.refl _ _)
    refine ⟨?_, (h2.area .mem rfl).trans hmem1, fun h => absurd h hthree, fun _ => (h2.area .marks rfl).1.trans hunits1⟩
    split
    · exact h1.bump id
    · exact h1

/-- What going on to the next block leaves. -/
theorem patrolOn_leaves {k i : Nat} {s : State} :
    (patrolOn k i s).mem = s.mem ∧ (patrolOn k i s).units = s.units ∧
      (patrolOn k i s).mgmt.scrubAt = tblSet 0 s.mgmt.scrubAt k (if i + 1 = blocksPerStack then 0 else i + 1) ∧
      (CauseShown 12 k s → CauseShown 12 k (patrolOn k i s)) := by
  unfold patrolOn
  extract_lets j since s3
  have hset : s3.mem = s.mem ∧ s3.units = s.units ∧ s3.mgmt.scrubAt = tblSet 0 s.mgmt.scrubAt k j ∧ (CauseShown 12 k s → CauseShown 12 k s3) :=
    ⟨rfl, rfl, rfl, fun h => h.withMgmt.setF (by simp only [causeOff, Fld.at, INT_CAUSE_CAUSE, HBM_STATUS_SCRUB_PROGRESS]; omega)⟩
  clear_value s3
  obtain ⟨hmem, hunits, hat, hcaused⟩ := hset
  have hbump : Agree 32 s3 (bump s3 HBM_STATUS_SCRUB_PASSES k 1) := bump_agree
  split
  · refine ⟨(hbump.area .mem rfl).trans hmem, (hbump.area .marks rfl).1.trans hunits,
      (congrArg MgmtSt.scrubAt (hbump.area .mgmt rfl)).trans hat, fun h => (hcaused h).bump ?_⟩
    simp only [causeOff, Fld.at, INT_CAUSE_CAUSE, HBM_STATUS_SCRUB_PASSES]
    omega
  · exact ⟨hmem, hunits, hat, hcaused⟩

/-- What a due patrol scrub leaves (R304). -/
theorem patrolScrub_leaves {k reads now : Nat} {stack : Bool} {s : State} (hs : TablesOk s) (hon : devOn s = true) (hk : k < 12)
    (htrained : getF s HBM_STATUS_TRAINED k = 1) (hdue : scrubDue (advance s now) k = true)
    (hi : tblGet 0 s.mgmt.scrubAt k < blocksPerStack) :
    ∃ t, exec (.patrolScrub k ⟨reads, stack, now⟩) s = .next t ∧ t.mem = s.mem ∧
      t.mgmt.scrubAt = tblSet 0 s.mgmt.scrubAt k
        (if tblGet 0 s.mgmt.scrubAt k + 1 = blocksPerStack then 0 else tblGet 0 s.mgmt.scrubAt k + 1) ∧
      (3 ≤ max reads (tblGet Upset.zero s.upsets (k * blocksPerStack + tblGet 0 s.mgmt.scrubAt k)).reads →
        unitPoison t (k * blocksPerStack + tblGet 0 s.mgmt.scrubAt k) = true ∧ Caused t 12 k) ∧
      (max reads (tblGet Upset.zero s.upsets (k * blocksPerStack + tblGet 0 s.mgmt.scrubAt k)).reads < 3 → t.units = s.units) := by
  refine ⟨_, congrArg Host.Outcome.next (patrolScrub_of_due (up := ⟨reads, stack⟩) hk hon htrained hdue), ?_⟩
  have hadv : TablesOk (advance s now) := advance_agree.tabOk hs
  have hreads := reads_patrolUpset ⟨reads, stack⟩ (tblGet Upset.zero s.upsets (k * blocksPerStack + tblGet 0 s.mgmt.scrubAt k))
  rw [show max reads _ = _ from hreads.symm]
  generalize patrolUpset ⟨reads, stack⟩ _ = x
  have hstack : stackOf (256 * (k * blocksPerStack + tblGet 0 s.mgmt.scrubAt k)) = k := by
    unfold stackOf
    unfold blocksPerStack at hi ⊢
    omega
  generalize hat : tblGet 0 s.mgmt.scrubAt k = i at hstack hi ⊢
  generalize k * blocksPerStack + i = u at hstack ⊢
  obtain ⟨hev, hmem, hpoisoned, hgood⟩ := patrolRead_leaves (x := x) hadv hstack hk
  generalize patrolRead k u x (advance s now) = w at hev hmem hpoisoned hgood ⊢
  obtain ⟨hmem2, hunits2, hat2, hcaused2⟩ := patrolOn_leaves (k := k) (i := i) (s := w)
  have hscrub : w.mgmt.scrubAt = s.mgmt.scrubAt := by
    obtain ⟨_, _, _, _, _, hm⟩ := hev.mgmt
    rw [hm]
    rfl
  rw [hscrub] at hat2
  refine ⟨hmem2.trans hmem, hat2, fun h => ?_, fun h => hunits2.trans (hgood h)⟩
  obtain ⟨hpoison, hcaused⟩ := hpoisoned h
  exact ⟨unitPoison_of_units_eq hunits2 hpoison, (hcaused2 hcaused).2⟩

/-- Settles O57: what each sensor's sample and limit leaves, by its own case split, with the events after it keeping what it shows. -/
theorem sensorsAndLimits : Obligations.SensorsAndLimits := by
  unfold Obligations.SensorsAndLimits
  refine ⟨?_, ?_, ?_, ?_, ?_, ?_, ?_, ?_, ?_⟩
  · intro n s hs hon hn hnew
    obtain ⟨hfaulted, hcaused, hfield⟩ := sensorFault_leaves hs hn hnew
    exact ⟨_, congrArg Host.Outcome.next (if_pos hon), hfaulted, hcaused, sensorFault_agree.area .mem rfl, hfield⟩
  · intro n v s hs hon hn hv
    refine ⟨fun hhot => ?_, fun hlow => ?_⟩
    · obtain ⟨u, hu, ha⟩ := thermalSample_of_hot hn hon hv hhot
      exact ⟨shutDown u, congrArg Host.Outcome.next hu, stoodBy_shutDown (ha.tabOk hs) ((devOn_of_dev_eq (ha.area .dev rfl)).trans hon)⟩
    · obtain ⟨htemp, hfault, hnot, hwarn, hcrit⟩ := thermalSample_below_leaves hs hon hn hv hlow
      exact ⟨thermalSample n v s, rfl, dev_thermalSample_of_below hon hn hv hlow, mem_thermalSample_of_below hon hn hv hlow, htemp, hfault,
        hnot, hwarn, hcrit⟩
  · intro now x s hs hlow hwarn hcrit hlapsed
    obtain ⟨hheld, hfloor, hcaused⟩ := thermCritTimeout_leaves hs hlow hwarn hcrit hlapsed
    exact ⟨thermCritTimeout now s, rfl, hheld, hfloor, hcaused, thermCritTimeout_agree.area .mem rfl⟩
  · intro n volt curr power s hs hon hn
    refine ⟨fun h0 hoff => ?_, fun hgood => ?_⟩
    · obtain ⟨hdev, hmem⟩ := railSample_of_off (volt := volt) (curr := curr) (power := power) hs hon hn h0 hoff
      exact ⟨railSample n volt curr power s, rfl, hdev, hmem⟩
    · obtain ⟨ha, hvolt, hcurr, hcaused⟩ := railSample_leaves (curr := curr) (power := power) hs hon hn hgood
      exact ⟨railSample n volt curr power s, rfl, ha.area .dev rfl, ha.area .mem rfl, hvolt, hcurr, hcaused⟩
  · intro inlet outlet flow s hs hon hin hout hflow hot low
    obtain ⟨⟨hinlet, houtlet, hflows, hvalid⟩, hcap, hfree⟩ := coolantSample_leaves hs hon hin hout hflow
    exact ⟨coolantSample inlet outlet flow s, rfl, coolantSample_agree.area .mem rfl, hinlet, houtlet, hflows, hvalid, hcap, hfree⟩
  · intro k v s hs hon hk
    obtain ⟨htemp, hrefresh, hheld⟩ := hbmTempReadout_leaves (v := v) hs hon hk
    exact ⟨hbmTempReadout k v s, rfl, hbmTempReadout_agree.area .mem rfl, htemp, hrefresh, hheld⟩
  · intro b feeds s hs hon hcfg
    obtain ⟨hfeed, hsource⟩ := feedIdPoll_leaves (b := b) (feeds := feeds) hs hon hcfg
    exact ⟨feedIdPoll (some b) feeds s, rfl, feedIdPoll_agree.area .mem rfl, hfeed, hsource⟩
  · intro k reads now stack s hdue
    exact congrArg Host.Outcome.next (patrolScrub_of_not_due hdue)
  · intro k reads now stack s hs _ hon hk htrained hdue i u hi
    exact patrolScrub_leaves hs hon hk htrained hdue hi

end Sys2Proof.Proofs
end

section
/-! O58. The governor, the requested flow, and gating (R37, R522 to R532). -/

namespace Sys2Proof.Proofs

open Sys2Proof Sys2Proof.Machine Sys2Proof.Safety Sys2Proof.Frame Sys2Proof.Claims Sys2Proof.Laws

/-! ### The next ceiling and floor (R522) -/

theorem foldl_min_le_init (l : List Nat) (a : Nat) : l.foldl min a ≤ a := by
  induction l generalizing a with
  | nil => exact Nat.le_refl a
  | cons x l ih => exact Nat.le_trans (ih (min a x)) (Nat.min_le_left a x)

theorem foldl_min_le_of_mem {l : List Nat} {b : Nat} (hb : b ∈ l) (a : Nat) : l.foldl min a ≤ b := by
  induction l generalizing a with
  | nil => exact nomatch hb
  | cons x l ih =>
    rcases List.mem_cons.1 hb with rfl | hb
    · exact Nat.le_trans (foldl_min_le_init l (min a b)) (Nat.min_le_right a b)
    · exact ih hb (min a x)

theorem nextCeiling_le_top (s : State) (p : Nat) (x : PowerSt) : nextCeiling s p x ≤ 40000 := foldl_min_le_init _ _

theorem nextCeiling_le_slew (s : State) (p : Nat) (x : PowerSt) : nextCeiling s p x ≤ p + (powerCfg s).slewUp :=
  foldl_min_le_of_mem (by simp) _

theorem nextCeiling_le_warn (s : State) (p : Nat) {x : PowerSt} {c k : Nat} (h : x.warn = some (c, k)) :
    nextCeiling s p x ≤ max 6000 (c - 100 * k) := by
  refine foldl_min_le_of_mem ?_ _
  rw [h]
  simp

theorem nextCeiling_le_coolant (s : State) (p : Nat) {x : PowerSt} (h : x.capped = true) :
    nextCeiling s p x ≤ (powerCfg s).coolantCap * 10 := by
  refine foldl_min_le_of_mem ?_ _
  rw [h]
  simp

theorem nextFloor_le (s : State) (p c : Nat) (x : PowerSt) : nextFloor s p c x ≤ c := by
  unfold nextFloor
  extract_lets cfg busy
  split
  · exact Nat.zero_le c
  · exact Nat.min_le_left c _

theorem nextFloor_of_held (s : State) (p c : Nat) {x : PowerSt} (h : x.critHold = true) : nextFloor s p c x = 0 := by
  unfold nextFloor
  extract_lets cfg busy
  exact if_pos h

/-! ### The power state of a window (R523, R530) -/

/-- What the profile and the excursion rule leave of the power state. -/
def WindowKept (x y : PowerSt) : Prop :=
  y.windows = x.windows ∧ y.warn = x.warn ∧ y.critHold = x.critHold ∧ y.capped = x.capped

theorem windowKept_takeProfile (s : State) (x : PowerSt) : WindowKept x (takeProfile s x) := by
  unfold takeProfile
  split
  · exact ⟨rfl, rfl, rfl, rfl⟩
  · split
    · exact ⟨rfl, rfl, rfl, rfl⟩
    · split <;> exact ⟨rfl, rfl, rfl, rfl⟩

theorem windowKept_countExcursion (above : Bool) (x : PowerSt) : WindowKept x (countExcursion above x) := by
  unfold countExcursion
  split <;> exact ⟨rfl, rfl, rfl, rfl⟩

/-! ### GOVERNOR_WINDOW -/

/-- What GOVERNOR_WINDOW leaves of the power state. -/
structure Governed (p : Nat) (s : State) (x : PowerSt) : Prop where
  windows : x.windows = (p :: s.power.windows).take 10000
  slew    : x.ceiling ≤ p + (powerCfg s).slewUp
  top     : x.ceiling ≤ 40000
  warned  : ∀ c k, s.power.warn = some (c, k) → x.ceiling ≤ max 6000 (c - 100 * (k + 1))
  coolant : s.power.capped = true → x.ceiling ≤ (powerCfg s).coolantCap * 10
  below   : x.floor ≤ x.ceiling
  held    : s.power.critHold = true → x.floor = 0

theorem bumps_agree (l : List (Nat × Nat)) (f : Fld) (s : State) : Agree 32 s (l.foldl (fun s e => bump s f e.1 e.2) s) :=
  Agree.foldl (fun _ _ h => bump_agree.after rfl h) (Agree.refl _ _)

/-- The registers and the power state of a window that has ended. -/
theorem governorWindow_leaves {p : Nat} {throttle : Bool} {held ballast : List (Nat × Nat)} {s : State} (hs : TablesOk s)
    (hon : devOn s = true) :
    Governed p s (governorWindow p throttle held ballast s).power ∧
      getF (governorWindow p throttle held ballast s) PWR_STATUS_WINDOW_POWER = min p 65535 ∧
      getF (governorWindow p throttle held ballast s) PWR_LIMITS_CEILING = (governorWindow p throttle held ballast s).power.ceiling / 10 ∧
      getF (governorWindow p throttle held ballast s) PWR_LIMITS_FLOOR = (governorWindow p throttle held ballast s).power.floor / 10 ∧
      getF (governorWindow p throttle held ballast s) PWR_STATUS_THROTTLE = b2n throttle := by
  unfold governorWindow
  rw [if_neg (by rw [hon]; decide)]
  extract_lets +onlyGivenNames c above spun x0 x1 up low x2 s1 s2 s3 s4 s5 s6
  have hx1 : x1.windows = (p :: s.power.windows).take 10000 ∧ x1.warn = s.power.warn.map (fun w => (w.1, w.2 + 1)) ∧
      x1.critHold = s.power.critHold ∧ x1.capped = s.power.capped := by
    obtain ⟨hwin, hwarn, hcrit, hcap⟩ := windowKept_takeProfile s s.power
    obtain ⟨hwin1, hwarn1, hcrit1, hcap1⟩ := windowKept_countExcursion above { x0 with
      windows := (p :: x0.windows).take 10000
      stepWin := if x0.lastStep.isSome then p :: x0.stepWin else []
      ballast := !spun.isEmpty
      warn := x0.warn.map (fun w => (w.1, w.2 + 1)) }
    exact ⟨hwin1.trans (congrArg (fun l => (p :: l).take 10000) hwin), hwarn1.trans (congrArg (Option.map _) hwarn), hcrit1.trans hcrit,
      hcap1.trans hcap⟩
  clear_value x1
  obtain ⟨hwin, hwarn, hcrit, hcap⟩ := hx1
  have hx2 : Governed p s x2 := by
    refine ⟨hwin, nextCeiling_le_slew s p x1, nextCeiling_le_top s p x1, fun a k hw => ?_, fun h => ?_, nextFloor_le s p up x1, fun h => ?_⟩
    · exact nextCeiling_le_warn s p (hwarn.trans (congrArg _ hw))
    · exact nextCeiling_le_coolant s p (hcap.trans h)
    · exact nextFloor_of_held s p up (hcrit.trans h)
  clear_value x2
  have h1 : TablesOk s1 := setPower_agree.tabOk hs
  have hp1 : s1.power = x2 := rfl
  clear_value s1
  have ha4 : Agree 32 s1 s4 := by
    have ha2 : Agree 32 s1 s2 := bump_agree.after rfl (bump_agree.after rfl bump_agree)
    clear_value s2
    have ha3 : Agree 32 s1 s3 := (bumps_agree ..).after rfl ha2
    clear_value s3
    exact Agree.ite ((bumps_agree ..).after rfl ha3) ha3
  clear_value s4
  have h4 := ha4.tabOk h1
  have hp4 : s4.power = x2 := (ha4.area .power rfl).trans hp1
  have h5a := setF_tabOk h4 PWR_STATUS_WINDOW_POWER 0 (min p 65535)
  have hshown : FieldKept PWR_STATUS_WINDOW_POWER (setF s4 PWR_STATUS_WINDOW_POWER 0 (min p 65535)) s5 := .setF ⟨h5a, rfl⟩ (by decide)
  have hpower : getF s5 PWR_STATUS_WINDOW_POWER = min p 65535 :=
    hshown.2.trans ((getF_setF_same h4 (by decide)).trans (Nat.mod_eq_of_lt (by simp only [PWR_STATUS_WINDOW_POWER]; omega)))
  have h5 := hshown.1
  have hp5 : s5.power = x2 := hp4
  clear_value s5
  have h6a := setF_tabOk h5 PWR_STATUS_THROTTLE 0 (b2n throttle)
  have hthrottle : FieldKept PWR_STATUS_THROTTLE (setF s5 PWR_STATUS_THROTTLE 0 (b2n throttle)) s6 := .setF (.setF ⟨h6a, rfl⟩ (by decide)) (by decide)
  have hwindow : FieldKept PWR_STATUS_WINDOW_POWER s5 s6 := .setF (.setF (.setF ⟨h5, rfl⟩ (by decide)) (by decide)) (by decide)
  have hthrottled : getF s6 PWR_STATUS_THROTTLE = b2n throttle :=
    hthrottle.2.trans ((getF_setF_same h5 (by decide)).trans (by cases throttle <;> rfl))
  have h6 := hthrottle.1
  have hp6 : s6.power = x2 := hp5
  clear_value s6
  have h7 := setF_tabOk h6 PWR_LIMITS_CEILING 0 (x2.ceiling / 10)
  have hstatus {f : Fld} (hf : f.at 0 = PWR_STATUS_THROTTLE.off) :
      getF (setF (setF s6 PWR_LIMITS_CEILING 0 (x2.ceiling / 10)) PWR_LIMITS_FLOOR 0 (x2.floor / 10)) f = getF s6 f :=
    (getF_setF_ne (f := PWR_LIMITS_FLOOR) (g := f) h7 (by rw [hf]; decide)).trans
      (getF_setF_ne (f := PWR_LIMITS_CEILING) (g := f) h6 (by rw [hf]; decide))
  have hpow : (setF (setF s6 PWR_LIMITS_CEILING 0 (x2.ceiling / 10)) PWR_LIMITS_FLOOR 0 (x2.floor / 10)).power = x2 := hp6
  rw [hpow]
  have htop := hx2.top
  have hbelow := hx2.below
  refine ⟨hx2, (hstatus rfl).trans (hwindow.2.trans hpower), ?_, ?_, (hstatus rfl).trans hthrottled⟩
  · exact (getF_setF_beside (f := PWR_LIMITS_FLOOR) (g := PWR_LIMITS_CEILING) h7 (by decide) rfl (.inl (by decide))).trans
      ((getF_setF_same h6 (by decide)).trans (Nat.mod_eq_of_lt (by simp only [PWR_LIMITS_CEILING]; omega)))
  · exact (getF_setF_same h7 (by decide)).trans (Nat.mod_eq_of_lt (by simp only [PWR_LIMITS_FLOOR]; omega))

/-! ### The requested flow (R529) -/

/-- The duty that FLOW_REQ_UPDATE asks for. -/
theorem flowReqUpdate_leaves {s : State} (hs : TablesOk s) (hon : devOn s = true) :
    (fullFlow s = true → getF (flowReqUpdate s) PWR_FLOW_DUTY = 255) ∧
      (getF s PWR_FLOW_OVERRIDE_ENABLE = 1 → getF s PWR_FLOW_OVERRIDE_DUTY ≤ getF (flowReqUpdate s) PWR_FLOW_DUTY) := by
  unfold flowReqUpdate
  rw [if_neg (by rw [hon]; decide)]
  rcases flowWanted s with ⟨n, d⟩
  dsimp -zeta only
  extract_lets +onlyGivenNames full duty least target
  have hleast : least ≤ 255 := by
    have hlt : getF s PWR_FLOW_OVERRIDE_DUTY < 256 := bitsOf_lt _ _ _
    unfold least
    split <;> omega
  have hduty : duty ≤ 255 := Nat.min_le_left 255 _
  have h0 : TablesOk { s with free := s.free + 1 } := tabOk_freed hs
  generalize ({ s with free := s.free + 1 } : State) = u at h0 ⊢
  have h1 := setF_tabOk h0 PWR_FLOW_DUTY 0 (if fullFlow s then 255 else max duty least)
  have hshown : getF (setF (setF u PWR_FLOW_DUTY 0 (if fullFlow s then 255 else max duty least)) PWR_FLOW_TARGET 0 (min 65535 target))
      PWR_FLOW_DUTY = if fullFlow s then 255 else max duty least := by
    rw [getF_setF_beside (f := PWR_FLOW_TARGET) (g := PWR_FLOW_DUTY) h1 (by decide) rfl (.inl (by decide)), getF_setF_same h0 (by decide)]
    refine Nat.mod_eq_of_lt ?_
    simp only [PWR_FLOW_DUTY]
    split <;> omega
  rw [hshown]
  refine ⟨fun h => if_pos h, fun hen => ?_⟩
  have hl : least = getF s PWR_FLOW_OVERRIDE_DUTY := if_pos hen
  rw [← hl]
  split <;> omega

/-! ### Gating and wakes (R37, R531, R532) -/

theorem clockGate_of_idle {f : Nat} {s : State} (hen : frondEnabled s f = true) (hgate : (getFrond s f).gate = .awake)
    (hidle : frondIdle s f = true) : clockGate f s = setFrond s f { getFrond s f with gate := .clock } := by
  unfold clockGate
  rw [hen, hgate, hidle]
  rfl

/-- What `noteDies` does for one die. -/
def idleNoted (s : State) (t : Tbl Nat) (d : Nat) : Tbl Nat :=
  if !dieGated s d then tblPut t d none else if (tblFind t d).isSome then t else tblPut t d (some s.counter)

theorem dieIdleAt_noteDies_eq (s : State) : (noteDies s).power.dieIdleAt = idleNoted s (idleNoted s s.power.dieIdleAt 0) 1 := rfl

theorem tblFind_idleNoted_same {s : State} {t : Tbl Nat} {d : Nat} (hgated : dieGated s d = true) (hnone : tblFind t d = none) :
    tblFind (idleNoted s t d) d = some s.counter := by
  unfold idleNoted
  rw [hgated, hnone]
  exact (tblFind_tblPut_some t d d s.counter).trans (if_pos rfl)

theorem tblFind_idleNoted_above {s : State} {t : Tbl Nat} {d e : Nat} (h : d < e) : tblFind (idleNoted s t d) e = tblFind t e := by
  unfold idleNoted
  split
  · exact tblFind_tblPut_none_of_lt t h
  · split
    · rfl
    · rw [tblFind_tblPut_some, if_neg (by omega)]

theorem tblFind_tblPut_none_of_found {α : Type} {t : Tbl α} {k j : Nat} {v : α} (h : tblFind t j = some v) (hj : j < k) :
    tblFind (tblPut t k none) j = some v := by
  induction t with
  | nil => exact nomatch h
  | cons e t ih =>
    obtain ⟨i, w⟩ := e
    by_cases hik : i = k
    · grind [tblPut, tblFind]
    · by_cases hlt : k < i <;> grind [tblPut, tblFind]

theorem tblFind_idleNoted_below {s : State} {t : Tbl Nat} {d e v : Nat} (hv : tblFind t e = some v) (h : e < d) :
    tblFind (idleNoted s t d) e = some v := by
  unfold idleNoted
  split
  · exact tblFind_tblPut_none_of_found hv h
  · split
    · exact hv
    · rw [tblFind_tblPut_some, if_neg (by omega)]
      exact hv

/-- A die that is wholly gated from now on is noted with the present value of the counter (R531). -/
theorem dieIdleAt_noteDies {s : State} {d : Nat} (hd : d < 2) (hgated : dieGated s d = true)
    (hnone : tblFind s.power.dieIdleAt d = none) : tblFind (noteDies s).power.dieIdleAt d = some s.counter := by
  rw [dieIdleAt_noteDies_eq]
  rcases (by omega : d = 0 ∨ d = 1) with rfl | rfl
  · exact tblFind_idleNoted_below (tblFind_idleNoted_same hgated hnone) (by decide)
  · exact tblFind_idleNoted_same hgated ((tblFind_idleNoted_above (by decide)).trans hnone)

/-- What POWER_GATE leaves (R531). -/
theorem powerGate_leaves {f now p : Nat} {c : PartCfg} {s : State} (hs : TablesOk s) (howner : ownerOfFrond s f = some p)
    (hcfg : partCfg s p = some c) (hen : frondEnabled s f = true) (hgate : (getFrond s f).gate ≠ .power) (hidle : frondIdle s f = true)
    (hballast : (s.power.ballast && ballastable s f) = false)
    (hlapsed : elapsed (advance s now) (getFrond s f).idleAt c.pgateIdleUs 1000000 = true) :
    ∃ t, exec (.powerGate f now) s = .next t ∧ getFrond t f = { getFrond s f with gate := .power } ∧ t.mem = s.mem ∧
      t.queues = s.queues ∧ t.regs = s.regs ∧ (dieGated t (f / 144) = true →
        tblFind s.power.dieIdleAt (f / 144) = none → tblFind t.power.dieIdleAt (f / 144) = some (advance s now).counter) := by
  have hgated : powerGate f now s = noteDies (modFrond (advance s now) f (fun x => { x with gate := .power })) := by
    unfold powerGate
    extract_lets u
    have hpart : (ownerOfFrond u f).bind (partCfg u) = some c := (congrArg (Option.bind · (partCfg s)) howner).trans hcfg
    have hcond : (frondEnabled u f && (getFrond u f).gate != .power && frondIdle u f && !(u.power.ballast && ballastable u f)
        && elapsed u (getFrond u f).idleAt c.pgateIdleUs 1000000) = true := by
      rw [show frondEnabled u f = true from hen, show frondIdle u f = true from hidle,
        show (u.power.ballast && ballastable u f) = false from hballast, show elapsed u (getFrond u f).idleAt c.pgateIdleUs 1000000 = true from hlapsed,
        show ((getFrond u f).gate != .power) = true from bne_iff_ne.2 hgate]
      rfl
    rw [hpart]
    exact if_pos hcond
  refine ⟨_, congrArg Host.Outcome.next hgated, ?_⟩
  have hadv : TablesOk (advance s now) := advance_agree.tabOk hs
  have hf : f < 288 := by
    unfold frondEnabled at hen
    simp only [Bool.and_eq_true, decide_eq_true_eq] at hen
    exact hen.1
  have hfrond : getFrond (modFrond (advance s now) f (fun x => { x with gate := .power })) f = { getFrond s f with gate := .power } :=
    getFrond_modFrond_same hadv
  exact ⟨hfrond, rfl, rfl, rfl, fun hdie hnone => dieIdleAt_noteDies (by omega) hdie hnone⟩

theorem pllStop_of_idle {d now : Nat} {s : State} (hd : d < 2) (hon : devOn s = true) (hoff : s.power.pllOff.contains d = false)
    (hgated : dieGated s d = true) (hlapsed : elapsed (advance s now) (tblGet 0 s.power.dieIdleAt d) (powerCfg s).pllIdle 1000 = true) :
    pllStop d now s = { advance s now with power := { s.power with pllOff := s.power.pllOff ++ [d] } } :=
  if_pos ⟨hd, hon, hoff, hgated, hlapsed⟩

theorem frondWake_of_clock {f : Nat} {withheld : Bool} {s : State} (hen : frondEnabled s f = true) (hready : readyEntry s f = true)
    (hgate : (getFrond s f).gate = .clock) : frondWake f withheld s = setFrond s f { getFrond s f with gate := .awake } := by
  unfold frondWake
  rw [hen, hready, hgate]
  rfl

theorem frondWake_of_power {f : Nat} {withheld : Bool} {s : State} (hen : frondEnabled s f = true) (hready : readyEntry s f = true)
    (hgate : (getFrond s f).gate = .power) : frondWake f withheld s = if withheld then s else wakeFrond s f := by
  unfold frondWake
  rw [hen, hready, hgate]
  rfl

/-- What a wake from power gating leaves (R532). -/
theorem wakeFrond_leaves {f : Nat} {s : State} (hs : TablesOk s) :
    getFrond (wakeFrond s f) f = { getFrond s f with gate := .awake } ∧ f / 144 ∉ (wakeFrond s f).power.pllOff ∧
      getF (wakeFrond s f) FRD_PWR_EVENTS_POWER_WAKES f =
        satAdd FRD_PWR_EVENTS_POWER_WAKES.width (getF s FRD_PWR_EVENTS_POWER_WAKES f) 1 := by
  have h1 : TablesOk (modFrond s f (fun x => { x with gate := .awake })) := Agree.tabOk (modFrond_agree (g := fun x => { x with gate := .awake }) (fun _ _ h => h)) hs
  have hfrond : getFrond (modFrond s f (fun x => { x with gate := .awake })) f = { getFrond s f with gate := .awake } :=
    getFrond_modFrond_same hs
  have hregs : getF (modFrond s f (fun x => { x with gate := .awake })) FRD_PWR_EVENTS_POWER_WAKES f = getF s FRD_PWR_EVENTS_POWER_WAKES f := rfl
  unfold wakeFrond
  generalize modFrond s f (fun x => { x with gate := .awake }) = u at h1 hfrond hregs ⊢
  have h2 : Agree 32 u (bump u FRD_PWR_EVENTS_POWER_WAKES f 1) := bump_agree
  have hshown : getF (bump u FRD_PWR_EVENTS_POWER_WAKES f 1) FRD_PWR_EVENTS_POWER_WAKES f =
      satAdd FRD_PWR_EVENTS_POWER_WAKES.width (getF u FRD_PWR_EVENTS_POWER_WAKES f) 1 := getF_bump_same h1 (by decide)
  have hkept : getFrond (bump u FRD_PWR_EVENTS_POWER_WAKES f 1) f = getFrond u f :=
    congrArg (fun t => tblGet FrondSt.empty t f) (h2.area .fronds rfl)
  generalize bump u FRD_PWR_EVENTS_POWER_WAKES f 1 = w at hshown hkept ⊢
  refine ⟨hkept.trans hfrond, fun hin => ?_, hshown.trans (congrArg (satAdd _ · 1) hregs)⟩
  have hne := (List.mem_filter.1 (show f / 144 ∈ w.power.pllOff.filter (· != f / 144) from hin)).2
  simp at hne

/-- Settles O58: the bounds of the next ceiling and floor from the terms of their minimum, and each gating command from its own
condition. -/
theorem governorAndGating : Obligations.GovernorAndGating := by
  unfold Obligations.GovernorAndGating
  refine ⟨?_, ?_, ?_, ?_, ?_, ?_⟩
  · intro p throttle held ballast s hs hon
    obtain ⟨⟨hwin, hslew, htop, hwarn, hcool, hbelow, hheld⟩, hpower, hceiling, hfloor, hthrottle⟩ :=
      governorWindow_leaves (p := p) (throttle := throttle) (held := held) (ballast := ballast) hs hon
    exact ⟨_, rfl, governorWindow_agree.area .mem rfl, hwin, hslew, htop, hwarn, hcool, hbelow, hheld, hpower, hceiling, hfloor, hthrottle⟩
  · intro s hs hon
    obtain ⟨hfull, hleast⟩ := flowReqUpdate_leaves hs hon
    exact ⟨_, rfl, flowReqUpdate_agree.area .mem rfl, flowReqUpdate_agree.area .power rfl, hfull, hleast⟩
  · intro f s hen hgate hidle
    exact congrArg Host.Outcome.next (clockGate_of_idle hen hgate hidle)
  · intro f now p c s hs howner hcfg hen hgate hidle hballast hlapsed
    exact powerGate_leaves hs howner hcfg hen hgate hidle hballast hlapsed
  · intro d now s hd hon hoff hgated hlapsed
    exact congrArg Host.Outcome.next (pllStop_of_idle hd hon hoff hgated hlapsed)
  · intro f withheld s hs hen hready
    refine ⟨fun hgate => ?_, fun hgate hheld => ?_, fun hgate hheld => ?_⟩
    · exact congrArg Host.Outcome.next (frondWake_of_clock hen hready hgate)
    · exact congrArg Host.Outcome.next ((frondWake_of_power hen hready hgate).trans (if_pos hheld))
    · obtain ⟨hfrond, hpll, hwakes⟩ := wakeFrond_leaves (f := f) hs
      have hwake : frondWake f withheld s = wakeFrond s f := by
        rw [frondWake_of_power hen hready hgate, hheld]
        rfl
      exact ⟨_, congrArg Host.Outcome.next hwake, wakeFrond_agree.area .mem rfl, hfrond, hpll, hwakes⟩

end Sys2Proof.Proofs
end

section
/-! O59. Tests and mismatches: the claim of UNDERSTORY_TEST over every state (R412). -/

namespace Sys2Proof.Proofs

open Sys2Proof Sys2Proof.Machine Sys2Proof.Safety Sys2Proof.Frame Sys2Proof.Claims Sys2Proof.Laws

/-- A frond that is power-gated and holds nothing. -/
def gatedFrond : FrondSt := { FrondSt.empty with gate := .power }

/-- Frond 0, due for a test, stands twice in the table of fronds, which is no canonical form; each time it is power-gated. -/
def twiceGated : State := { State.reset with
  fronds := [(0, gatedFrond), (0, gatedFrond)]
  mgmt := { MgmtSt.reset with due := [0] } }

theorem twiceGated_due : twiceGated.mgmt.due.contains 0 = true ∧ twiceGated.mgmt.testing.contains 0 = false ∧
    understoryUnit twiceGated 0 = true ∧ frondAt twiceGated 0 = some 0 := by
  decide +kernel

/-- The wake takes the first of the two away, as an awake frond that holds nothing is not listed, and the second shows: the frond is
power-gated while it is tested. -/
theorem twiceGated_stays_gated : (getFrond (understoryTest 0 false twiceGated) 0).gate = .power := by
  decide +kernel

/-- Refutes O59: UNDERSTORY_TEST is claimed to wake the frond in every state, canonical or not, and of a frond that the table lists twice
the second entry stays power-gated. -/
theorem not_testsAndMismatches : ¬ Obligations.TestsAndMismatches := by
  unfold Obligations.TestsAndMismatches
  rintro ⟨-, -, -, -, htest, -⟩
  obtain ⟨hdue, htesting, hunit, hfrond⟩ := twiceGated_due
  obtain ⟨t, hexec, -, -, hawake, -⟩ := htest 0 false twiceGated (.inl rfl) hdue htesting hunit (.inl (by decide))
  have ht : understoryTest 0 false twiceGated = t := Host.Outcome.next.inj hexec
  have hgate := hawake 0 (by decide) hfrond
  rw [← ht, twiceGated_stays_gated] at hgate
  exact nomatch hgate

end Sys2Proof.Proofs
end

section
/-! O60, support. What ends running work leaves of flash, and opening the debug port (R506, R511 to R513). -/

namespace Sys2Proof.Proofs

open Sys2Proof Sys2Proof.Machine Sys2Proof.Safety Sys2Proof.Frame Sys2Proof.Claims Sys2Proof.Laws

/-! ### Flash, but for the log's number, through the end of entries -/

/-- The tables of `t` are canonical, and of flash only the log's number may differ from `s`. -/
def FlashKept (s t : State) : Prop := TablesOk t ∧ SameButLog t.flash s.flash

theorem FlashKept.refl {s : State} (h : TablesOk s) : FlashKept s s := ⟨h, rfl⟩

theorem EventKept.flashKept {s t : State} (h : EventKept s t) : FlashKept s t := ⟨h.tabOk, h.flash⟩

section
variable {s t u : State} (h : FlashKept s t)
include h

theorem FlashKept.trans (h' : FlashKept t u) : FlashKept s u := ⟨h'.1, h'.2.trans h.2⟩

theorem FlashKept.after {A : Nat} (ha : Agree A t u) (hflash : A.testBit Area.flash.idx = false) : FlashKept s u :=
  ⟨ha.tabOk h.1, (congrArg (SameButLog · s.flash) (ha.area .flash hflash)).mpr h.2⟩

/-- A change that leaves flash and the tables. -/
theorem FlashKept.of_eq (hu : TablesOk u) (hflash : u.flash = t.flash) : FlashKept s u := ⟨hu, (congrArg (SameButLog · s.flash) hflash).mpr h.2⟩

theorem FlashKept.foldl {β : Type} {g : State → β → State} {l : List β} (hg : ∀ v b, FlashKept s v → FlashKept s (g v b)) :
    FlashKept s (l.foldl g t) := by
  induction l generalizing t with
  | nil => exact h
  | cons b l ih => exact ih (hg t b h)

theorem FlashKept.readUnit {a : Nat} : FlashKept s (readUnit t a) := h.trans (EventKept.refl h.1).readUnit.flashKept

theorem FlashKept.writePart {a : Nat} {w : WSet} {halo : Bool} : FlashKept s (writePart t a w halo).1 := by
  have hunit {v : State} {kept : WSet} (hv : FlashKept s v) : FlashKept s (writeUnit v a kept) :=
    hv.of_eq ⟨hv.1.regs, hv.1.resets, hv.1.queues, hv.1.fronds, hv.1.slots, hv.1.parts, hv.1.ports⟩ rfl
  unfold Machine.writePart
  extract_lets kept d st s1
  split
  · exact h
  split
  · have h1 : FlashKept s s1 := by
      unfold s1
      split
      · exact h
      · exact h.readUnit.after bump_agree rfl
    clear_value s1
    show FlashKept s (bump (writeUnit s1 a kept) HBM_TRAFFIC_ACCESSES st 4)
    exact (hunit h1).after bump_agree rfl
  · exact hunit h

end

section
variable {s t : State} (h : FlashKept s t)
include h

theorem FlashKept.writeBytes {k : Nat} {bs : List Byte} {poison : Bool} : FlashKept s (writeBytes t k bs poison) := by
  unfold Machine.writeBytes writeSet
  have hfold (l : List Nat) (w : WSet) (acc : State × Nat) (hacc : FlashKept s acc.1) :
      FlashKept s (l.foldl (fun (acc : State × Nat) u =>
        let r := Machine.writePart acc.1 u (wUnit w u) false
        (r.1, acc.2 + r.2)) acc).1 := by
    induction l generalizing acc with
    | nil => exact hacc
    | cons u l ih => exact ih _ hacc.writePart
  exact hfold _ _ (t, 0) h

theorem FlashKept.finishEntry {q : QueueId} {i : Issued} : FlashKept s (finishEntry t q i) := by
  unfold Machine.finishEntry writeRecord
  extract_lets k r s1 s2 s3 s4
  have h1 : FlashKept s s1 := by
    have hr : FlashKept s r := by
      unfold r
      split
      · exact h.writeBytes
      · exact h
    exact hr.after modQ_agree rfl
  have h2 : FlashKept s s2 := h1.after modQ_agree rfl
  have h3 : FlashKept s s3 := by
    unfold s3
    split
    · next f =>
      have hidle := h2.after (modFrond_agree (f := f) (g := fun x => { x with idleAt := s2.counter }) fun _ _ hx => hx) rfl
      exact hidle.after mirrorPair_agree rfl
    · exact h2
  have h4 : FlashKept s s4 := h3.after signalMark_agree rfl
  split
  · exact (h3.after modQ_agree rfl).after haltCause_agree rfl
  · split
    · exact h4.after compCause_agree rfl
    · exact h4

theorem FlashKept.abortIssued {p : Nat} : FlashKept s (abortIssued t p) :=
  h.foldl fun _ _ hu => hu.foldl fun _ _ hv => hv.finishEntry

theorem FlashKept.enterFaulted {p status : Nat} : FlashKept s (enterFaulted t p status) := by
  unfold Machine.enterFaulted
  extract_lets s1
  have h1 : FlashKept s s1 := (h.after setPartState_agree rfl).after modPart_agree rfl
  clear_value s1
  exact h1.abortIssued.after raiseCause_agree rfl

theorem FlashKept.undefineSet0 {p : Nat} : FlashKept s (undefineSet0 t p) := by
  unfold Machine.undefineSet0
  refine h.foldl fun u t hu => hu.foldl fun v r hv => FlashKept.writeBytes ?_
  exact hv.of_eq ⟨hv.1.regs, hv.1.resets, hv.1.queues, hv.1.fronds, hv.1.slots, hv.1.parts, hv.1.ports⟩ rfl

theorem FlashKept.failRestore {status : Nat} : FlashKept s (failRestore t status) := by
  unfold Machine.failRestore
  split
  · exact h
  · next r _ =>
    have h1 : FlashKept s { Machine.undefineSet0 t r.part with mgmt := { t.mgmt with restore := none } } := by
      have hu : FlashKept s (Machine.undefineSet0 t r.part) := h.undefineSet0
      exact hu.of_eq ⟨hu.1.regs, hu.1.resets, hu.1.queues, hu.1.fronds, hu.1.slots, hu.1.parts, hu.1.ports⟩ rfl
    generalize ({ Machine.undefineSet0 t r.part with mgmt := { t.mgmt with restore := none } } : State) = u at h1 ⊢
    unfold restoreDone
    exact (((h1.after setF_agree rfl).after setF_agree rfl).after setF_agree rfl).after setF_agree rfl

theorem FlashKept.abortLichenWork : FlashKept s (abortLichenWork t) := by
  unfold Machine.abortLichenWork
  refine FlashKept.failRestore ?_
  split
  · split
    · refine FlashKept.after ?_ failCommit_agree rfl
      split
      · exact (h.after showBarrier_agree rfl).after dropBarrier_agree rfl
      · exact h
    · exact h.after failCommit_agree rfl
    · exact h
  · exact h

end

/-! ### Partitions rest (R513) -/

/-- The partition is neither RUNNING nor DRAINING. -/
def Rests (s : State) (p : Nat) : Prop := (getPart s p).state ≠ .running ∧ (getPart s p).state ≠ .draining

theorem getPart_enterFaulted_ne {s : State} {p q st : Nat} (hs : TablesOk s) (hq : q ≠ p) :
    getPart (enterFaulted s p st) q = getPart s q := by
  have hset : getPart (setPartState s p .faulted) q = getPart s q := by
    have hdefer : Agree 32 (modPart s p (fun x => { x with state := .faulted }))
      (deferTests (modPart s p (fun x => { x with state := .faulted })) p) := deferTests_agree
    unfold setPartState
    dsimp only
    rw [if_pos (Or.inr (Or.inr rfl)), if_neg (fun h => nomatch h), getPart_of_parts_eq (emptySlots_agree.area .parts rfl),
      getPart_of_parts_eq (hdefer.area .parts rfl), getPart_modPart_ne hs hq]
  unfold enterFaulted
  dsimp only
  rw [getPart_of_parts_eq (raiseCause_agree.area .parts rfl), getPart_of_parts_eq (abortIssued_agree.area .parts rfl),
    getPart_modPart_ne (setPartState_agree.tabOk hs) hq]
  exact hset

/-- What running or draining partitions of a list become (R513). -/
def stopParts (s : State) (l : List Nat) : State :=
  l.foldl (fun s p => if (getPart s p).state = .running ∨ (getPart s p).state = .draining then enterFaulted s p stAborted else s) s

theorem rests_stopParts {l : List Nat} {s : State} (hs : TablesOk s) :
    ∀ p, p ∈ l ∨ Rests s p → Rests (stopParts s l) p := by
  induction l generalizing s with
  | nil => exact fun p hp => hp.resolve_left (List.not_mem_nil)
  | cons q l ih =>
    intro p hp
    unfold stopParts
    rw [List.foldl_cons]
    by_cases hq : (getPart s q).state = .running ∨ (getPart s q).state = .draining
    · rw [if_pos hq]
      refine ih (enterFaulted_agree.tabOk hs) p ?_
      by_cases hpq : p = q
      · refine .inr ?_
        unfold Rests
        rw [hpq, getPart_enterFaulted hs]
        exact ⟨(fun h => nomatch h), (fun h => nomatch h)⟩
      · refine hp.imp (fun h => (List.mem_cons.1 h).resolve_left hpq) fun hrest => ?_
        unfold Rests
        rw [getPart_enterFaulted_ne hs hpq]
        exact hrest
    · rw [if_neg hq]
      refine ih hs p ?_
      by_cases hpq : p = q
      · rw [hpq]
        exact .inr (not_or.1 hq)
      · exact hp.imp (fun h => (List.mem_cons.1 h).resolve_left hpq) id

theorem stopParts_agree {s : State} {l : List Nat} : Agree 5075744 s (stopParts s l) :=
  Agree.foldl (fun _ _ h => Agree.ite (enterFaulted_agree.after rfl h) h) (Agree.refl _ _)

/-- SERVICE, as opening the port leads to it from READY. -/
def inService (s : State) : State := { s with dev := .service }

theorem tabOk_inService {s : State} (hs : TablesOk s) : TablesOk (inService s) :=
  ⟨hs.regs, hs.resets, hs.queues, hs.fronds, hs.slots, hs.parts, hs.ports⟩

theorem flash_inService (s : State) : (inService s).flash = s.flash := rfl

theorem FlashKept.stopParts {s t : State} {l : List Nat} (h : FlashKept s t) : FlashKept s (stopParts t l) := by
  unfold Proofs.stopParts
  refine h.foldl fun u p hu => ?_
  split
  · exact hu.enterFaulted
  · exact hu

theorem dev_abortLichenWork (s : State) : (abortLichenWork s).dev = s.dev := abortLichenWork_agree.area .dev rfl

theorem openStates_of_ready {s : State} (h : s.dev = .ready) :
    openStates s = stopParts (inService (abortLichenWork s)) (List.range 8) := if_pos ((dev_abortLichenWork s).trans h)

theorem openStates_of_other {s : State} (h : s.dev ≠ .ready) : openStates s = abortLichenWork s :=
  if_neg fun hr => h ((dev_abortLichenWork s).symm.trans hr)

/-- What step 1 of opening the port leaves (R513). -/
theorem openStates_leaves {s : State} (hs : TablesOk s) :
    FlashKept s (openStates s) ∧ (openStates s).dbgPort = s.dbgPort ∧
      (openStates s).dev = (if s.dev = .ready then .service else s.dev) ∧
      (s.dev = .ready → ∀ p < 8, Rests (openStates s) p) := by
  have hwork : FlashKept s (abortLichenWork s) := (FlashKept.refl hs).abortLichenWork
  have hdev := dev_abortLichenWork s
  refine ⟨?_, openStates_agree.area .dbgPort rfl, ?_⟩
  · by_cases hready : s.dev = .ready
    · rw [openStates_of_ready hready]
      exact (hwork.of_eq (tabOk_inService hwork.1) (flash_inService _)).stopParts
    · rw [openStates_of_other hready]
      exact hwork
  · by_cases hready : s.dev = .ready
    · rw [openStates_of_ready hready, if_pos hready]
      exact ⟨stopParts_agree.area .dev rfl, fun _ p hp => rests_stopParts (tabOk_inService hwork.1) p (.inl (List.mem_range.2 hp))⟩
    · rw [openStates_of_other hready, if_neg hready]
      exact ⟨hdev, fun h => absurd h hready⟩

end Sys2Proof.Proofs
end

section
/-! O60. The debug port: challenge, unlock and commands (R510 to R515). -/

namespace Sys2Proof.Proofs

open Sys2Proof Sys2Proof.Machine Sys2Proof.Safety Sys2Proof.Frame Sys2Proof.Claims Sys2Proof.Laws

/-! ### A token verifies (R512, R513) -/

/-- Flash as opening the port leaves it: no secret is sealed, and the identity is new and not certified (R513). -/
def openedFlash (f : FlashSt) : FlashSt :=
  { f with sealedAt := [], enrol := f.enrol + 1, certified := false, cert := [], opened := true }

/-- The device with its port opened, before this is shown and logged. -/
def portOpened (s : State) : State :=
  setDebug { renewIdentity s with flash := { (renewIdentity s).flash with opened := true } } (fun d => { d with opened := true })

theorem openPort_eq (s : State) : openPort s =
    raiseCause (logEvent (setF (showSecurity (portOpened (openStates s))) SEC_STATUS_PORT_OPEN 0 1) 0x0701 7 2 0 none
      (leBytes 1 (devCode s.dev))) 16 0 := rfl

theorem flash_renewIdentity (s : State) : (renewIdentity s).flash =
    { s.flash with sealedAt := [], enrol := s.flash.enrol + 1, certified := false, cert := [] } := rfl

theorem portOpened_leaves {s : State} (hs : TablesOk s) :
    TablesOk (portOpened s) ∧
      (portOpened s).flash = openedFlash s.flash ∧
      (portOpened s).dbgPort = { s.dbgPort with opened := true } ∧ (portOpened s).dev = s.dev ∧ (portOpened s).parts = s.parts := by
  have ha : Agree 262176 s (renewIdentity s) := renewIdentity_agree
  have hflash := flash_renewIdentity s
  have hdbg : (renewIdentity s).dbgPort = s.dbgPort := ha.area .dbgPort rfl
  have hdev : (renewIdentity s).dev = s.dev := ha.area .dev rfl
  have hparts : (renewIdentity s).parts = s.parts := ha.area .parts rfl
  have htab := ha.tabOk hs
  unfold portOpened
  generalize renewIdentity s = u at hflash hdbg hdev hparts htab ⊢
  refine ⟨⟨htab.regs, htab.resets, htab.queues, htab.fronds, htab.slots, htab.parts, htab.ports⟩, ?_, ?_, hdev, hparts⟩
  · show { u.flash with opened := true } = _
    rw [hflash]
    rfl
  · show { u.dbgPort with opened := true } = _
    rw [hdbg]

/-- What opening the port leaves. -/
theorem openPort_leaves {s : State} (hs : TablesOk s) :
    (openPort s).dbgPort = { s.dbgPort with opened := true } ∧ (openPort s).flash.opened = true ∧ (openPort s).flash.sealedAt = [] ∧
      (openPort s).flash.certified = false ∧ (openPort s).flash.imageCtr = s.flash.imageCtr ∧ (openPort s).flash.fwCtr = s.flash.fwCtr ∧
      (openPort s).flash.fpCounter = s.flash.fpCounter ∧ getF (openPort s) SEC_STATUS_PORT_OPEN = 1 ∧ Caused (openPort s) 16 0 ∧
      (openPort s).dev = (if s.dev = .ready then .service else s.dev) ∧ (s.dev = .ready → ∀ p < 8, Rests (openPort s) p) := by
  rw [openPort_eq]
  obtain ⟨⟨htab1, hflash1⟩, hdbg1, hdev1, hrest1⟩ := openStates_leaves hs
  generalize openStates s = u at htab1 hflash1 hdbg1 hdev1 hrest1 ⊢
  obtain ⟨htab2, hflash2, hdbg2, hdev2, hparts2⟩ := portOpened_leaves htab1
  generalize portOpened u = v at htab2 hflash2 hdbg2 hdev2 hparts2 ⊢
  have ha : Agree 32 v (showSecurity v) := showSecurity_agree
  have hv := ha.tabOk htab2
  have hb : Agree 32 v (setF (showSecurity v) SEC_STATUS_PORT_OPEN 0 1) := setF_agree.after rfl ha
  have hopen : getF (setF (showSecurity v) SEC_STATUS_PORT_OPEN 0 1) SEC_STATUS_PORT_OPEN = 1 := getF_setF_same hv (by decide)
  generalize setF (showSecurity v) SEC_STATUS_PORT_OPEN 0 1 = w at hb hopen ⊢
  have hlog : AfterEvents Quiet w (logEvent w 0x0701 7 2 0 none (leBytes 1 (devCode s.dev))) :=
    (AfterEvents.refl (hb.tabOk htab2)).logEvent fun _ h => h
  have hev := hlog.raiseCause (fun _ h => h) (show 16 < 64 by decide) (show 0 < 64 by decide)
  have hc : Agree 5046304 w (raiseCause (logEvent w 0x0701 7 2 0 none (leBytes 1 (devCode s.dev))) 16 0) :=
    raiseCause_agree.after rfl logEvent_agree
  have hcaused : Caused (raiseCause (logEvent w 0x0701 7 2 0 none (leBytes 1 (devCode s.dev))) 16 0) 16 0 :=
    raiseCause_caused hlog.tabOk (by decide)
  generalize raiseCause (logEvent w 0x0701 7 2 0 none (leBytes 1 (devCode s.dev))) 16 0 = t at hev hc hcaused ⊢
  obtain ⟨n, hn⟩ := flash_of_sameButLog hev.flash
  obtain ⟨m, hm⟩ := flash_of_sameButLog hflash1
  have hflash : t.flash = { openedFlash s.flash with logNext := n } := by
    rw [hn, show w.flash = v.flash from hb.area .flash rfl, hflash2, hm]
    rfl
  have hdbg : t.dbgPort = { s.dbgPort with opened := true } := by
    rw [show t.dbgPort = w.dbgPort from hc.area .dbgPort rfl, show w.dbgPort = v.dbgPort from hb.area .dbgPort rfl, hdbg2, hdbg1]
  have hdev : t.dev = u.dev := (hc.area .dev rfl).trans ((hb.area .dev rfl).trans hdev2)
  have hparts : t.parts = u.parts := (hc.area .parts rfl).trans ((hb.area .parts rfl).trans hparts2)
  rw [hflash]
  refine ⟨hdbg, rfl, rfl, rfl, rfl, rfl, rfl, (hev.getF ⟨by decide, by decide⟩).trans hopen, hcaused, hdev.trans hdev1, fun hready p hp => ?_⟩
  unfold Rests
  rw [getPart_of_parts_eq hparts]
  exact hrest1 hready p hp

/-! ### A token fails (R505, R511) -/

/-- What a token that fails leaves. -/
theorem rejectToken_leaves {s : State} (hs : TablesOk s) (hn : getF s SEC_STATUS_UNLOCK_FAILS < 8) :
    getF (rejectToken s) SEC_STATUS_UNLOCK_FAILS = getF s SEC_STATUS_UNLOCK_FAILS + 1 ∧ Caused (rejectToken s) 16 1 ∧
      Caused (rejectToken s) 16 2 ∧ (getF s SEC_STATUS_UNLOCK_FAILS = 7 → getF (rejectToken s) SEC_STATUS_LOCKED = 1) := by
  unfold rejectToken
  extract_lets n s1 s2
  have h1 : TablesOk s1 := setF_tabOk hs SEC_STATUS_UNLOCK_FAILS 0 n
  have hfails1 : getF s1 SEC_STATUS_UNLOCK_FAILS = n :=
    (getF_setF_same hs (by decide)).trans (Nat.mod_eq_of_lt (by simp only [SEC_STATUS_UNLOCK_FAILS]; omega))
  clear_value s1
  have h2 : TablesOk s2 ∧ getF s2 SEC_STATUS_UNLOCK_FAILS = n ∧ (8 ≤ n → getF s2 SEC_STATUS_LOCKED = 1) := by
    unfold s2
    split
    · exact ⟨setF_tabOk h1 SEC_STATUS_LOCKED 0 1,
        (getF_setF_beside (f := SEC_STATUS_LOCKED) (g := SEC_STATUS_UNLOCK_FAILS) h1 (by decide) rfl (.inr (by decide))).trans hfails1,
        fun _ => getF_setF_same h1 (by decide)⟩
    · next hno => exact ⟨h1, hfails1, fun h => absurd h hno⟩
  clear_value s2
  obtain ⟨h2, hfails2, hlocked⟩ := h2
  have hlog : AfterEvents Quiet s2 (logEvent s2 0x0702 7 2 0 none (leBytes 1 n)) := (AfterEvents.refl h2).logEvent fun _ h => h
  have hone := hlog.raiseCause (fun _ h => h) (show 16 < 64 by decide) (show 1 < 64 by decide)
  have htwo := hone.raiseCause (fun _ h => h) (show 16 < 64 by decide) (show 2 < 64 by decide)
  exact ⟨(htwo.getF ⟨by decide, by decide⟩).trans hfails2, ((causeShown_raiseCause hlog.tabOk (by decide)).raiseCause (by decide)).2,
    raiseCause_caused hone.tabOk (by decide), fun h7 => (htwo.getF ⟨by decide, by decide⟩).trans (hlocked (by omega))⟩

/-! ### DBG_UNLOCK -/

/-- The nonce is used once (R511). -/
def nonceTaken (s : State) : State := setDebug s (fun d => { d with nonce := none })

theorem tabOk_nonceTaken {s : State} (hs : TablesOk s) : TablesOk (nonceTaken s) :=
  ⟨hs.regs, hs.resets, hs.queues, hs.fronds, hs.slots, hs.parts, hs.ports⟩

theorem dbgUnlock_of_locked {token : List Byte} {verified : Bool} {s : State} (h : getF s SEC_STATUS_LOCKED = 1) :
    dbgUnlock token verified s = s :=
  if_pos (by rw [h]; simp)

theorem dbgUnlock_of_free {token : List Byte} {verified : Bool} {s : State} (hon : devOn s = true) (h : getF s SEC_STATUS_LOCKED = 0) :
    dbgUnlock token verified s =
      if s.dbgPort.nonce.isSome && blockOk token verified then openPort (nonceTaken s) else rejectToken (nonceTaken s) :=
  if_neg (by rw [h, hon]; decide)

theorem dbgUnlock_leaves {token : List Byte} {verified : Bool} {s : State} (hs : TablesOk s) (hon : devOn s = true) :
    (getF s SEC_STATUS_LOCKED = 1 → exec (.dbgUnlock token verified) s = .next s) ∧
    (getF s SEC_STATUS_LOCKED = 0 → s.dbgPort.nonce.isSome = true → blockOk token verified = true →
      ∃ t, exec (.dbgUnlock token verified) s = .next t ∧ t.dbgPort.opened = true ∧ t.dbgPort.nonce = none ∧
        t.flash.opened = true ∧ t.flash.sealedAt = [] ∧ t.flash.certified = false ∧ t.flash.imageCtr = s.flash.imageCtr ∧
        t.flash.fwCtr = s.flash.fwCtr ∧ t.flash.fpCounter = s.flash.fpCounter ∧ getF t SEC_STATUS_PORT_OPEN = 1 ∧ Caused t 16 0 ∧
        t.dev = (if s.dev = .ready then .service else s.dev) ∧
        (s.dev = .ready → ∀ p < 8, (getPart t p).state ≠ .running ∧ (getPart t p).state ≠ .draining)) ∧
    (getF s SEC_STATUS_LOCKED = 0 → (s.dbgPort.nonce = none ∨ blockOk token verified = false) →
      getF s SEC_STATUS_UNLOCK_FAILS < 8 →
      ∃ t, exec (.dbgUnlock token verified) s = .next t ∧ t.dbgPort.opened = s.dbgPort.opened ∧ t.mem = s.mem ∧
        getF t SEC_STATUS_UNLOCK_FAILS = getF s SEC_STATUS_UNLOCK_FAILS + 1 ∧ Caused t 16 1 ∧ Caused t 16 2 ∧
        (getF s SEC_STATUS_UNLOCK_FAILS = 7 → getF t SEC_STATUS_LOCKED = 1)) := by
  refine ⟨fun hlocked => congrArg Host.Outcome.next (dbgUnlock_of_locked hlocked), fun hfree hnonce hok => ?_, fun hfree hbad hn => ?_⟩
  · have hopen : dbgUnlock token verified s = openPort (nonceTaken s) := by
      rw [dbgUnlock_of_free hon hfree, hnonce, hok]
      rfl
    obtain ⟨hdbg, hopened, hsealed, hcert, himage, hfw, hfp, hport, hcaused, hdev, hrest⟩ := openPort_leaves (tabOk_nonceTaken hs)
    exact ⟨openPort (nonceTaken s), congrArg Host.Outcome.next hopen, congrArg DebugSt.opened hdbg, congrArg DebugSt.nonce hdbg, hopened,
      hsealed, hcert, himage, hfw, hfp, hport, hcaused, hdev, hrest⟩
  · have hreject : dbgUnlock token verified s = rejectToken (nonceTaken s) := by
      rw [dbgUnlock_of_free hon hfree]
      refine if_neg fun h => ?_
      rcases hbad with hnone | hno
      · rw [hnone] at h
        exact nomatch h
      · rw [hno, Bool.and_false] at h
        exact nomatch h
    obtain ⟨hfails, hone, htwo, hlocks⟩ := rejectToken_leaves (tabOk_nonceTaken hs) hn
    have ha : Agree 5046304 (nonceTaken s) (rejectToken (nonceTaken s)) := rejectToken_agree
    have hdbg : (rejectToken (nonceTaken s)).dbgPort = { s.dbgPort with nonce := none } := ha.area .dbgPort rfl
    exact ⟨rejectToken (nonceTaken s), congrArg Host.Outcome.next hreject, (congrArg DebugSt.opened hdbg).trans rfl, ha.area .mem rfl,
      hfails, hone, htwo, hlocks⟩

end Sys2Proof.Proofs
end

section
/-! O60, settled. Debug commands and the scans of the test access port (R510, R514, R515). -/

namespace Sys2Proof.Proofs

open Sys2Proof Sys2Proof.Machine Sys2Proof.Safety Sys2Proof.Frame Sys2Proof.Claims Sys2Proof.Laws

/-! ### Where a scan goes (R510, R514) -/

section
variable {bits : List Bool} {act core : State → State} {pair : Nat → State → State} {s : State}

theorem openScan_of_closed (hpow : portPowered s = true) (hclosed : s.dbgPort.opened = false) : openScan bits act s = bypassScan bits s := by
  unfold openScan
  rw [hpow, hclosed]
  rfl

theorem openScan_of_open (hpow : portPowered s = true) (hopen : s.dbgPort.opened = true) : openScan bits act s = act s := by
  unfold openScan
  rw [hpow, hopen]
  rfl

theorem dbgCmd_of_core (h : DebugOpen s 0) : dbgCmd bits core pair s = core s := by
  obtain ⟨hpow, hopen, htarget⟩ := h
  exact (openScan_of_open hpow hopen).trans (if_pos htarget)

theorem dbgCmd_of_pair {q : Nat} (h : DebugOpen s (q + 1)) (hq : q < 320) : dbgCmd bits core pair s = pair q s := by
  obtain ⟨hpow, hopen, htarget⟩ := h
  refine (openScan_of_open hpow hopen).trans ?_
  rw [htarget, if_neg (Nat.succ_ne_zero q), if_pos (by omega), Nat.add_sub_cancel]

theorem dbgCmd_of_none {n : Nat} (h : DebugOpen s n) (hn : 320 < n) : dbgCmd bits core pair s = dbgDone true s := by
  obtain ⟨hpow, hopen, htarget⟩ := h
  refine (openScan_of_open hpow hopen).trans ?_
  rw [htarget, if_neg (by omega), if_neg (by omega)]

/-- A command that acts alike on every target. -/
theorem dbgCmd_of_any {n : Nat} (h : DebugOpen s n) (hn : n ≤ 320) : dbgCmd bits act (fun _ => act) s = act s := by
  rcases n with _ | q
  · exact dbgCmd_of_core h
  · exact dbgCmd_of_pair h hn

end

/-! ### Scans that bypass a closed port -/

theorem openScans_bypass {x : Instr × List Bool} {n addr : Nat} {s : State} (hx : x ∈ openScans ∨ x ∈ openScansN n addr)
    (hpow : portPowered s = true) (hclosed : s.dbgPort.opened = false) : exec x.1 s = .next (bypassScan x.2 s) := by
  have hscan (bits : List Bool) (act : State → State) : (Host.Outcome.next (openScan bits act s) : Host.Outcome State Fault Refusal) = .next (bypassScan bits s) :=
    congrArg Host.Outcome.next (openScan_of_closed hpow hclosed)
  rcases hx with hx | hx
  · simp only [openScans, List.mem_cons, List.not_mem_nil, or_false] at hx
    rcases hx with rfl | rfl | rfl <;> exact hscan _ _
  · simp only [openScansN, List.mem_cons, List.not_mem_nil, or_false] at hx
    rcases hx with rfl | rfl | rfl | rfl | rfl <;> exact hscan _ _

/-- A target that is none gives ERROR. -/
theorem openScans_none {x : Instr × List Bool} {n : Nat} {s : State} (hx : x ∈ openScans) (h : DebugOpen s n) (hn : 320 < n) :
    exec x.1 s = .next { s with dbgPort := { s.dbgPort with done := true, error := true } } := by
  have hcmd (bits : List Bool) (core : State → State) (pair : Nat → State → State) :
      (Host.Outcome.next (dbgCmd bits core pair s) : Host.Outcome State Fault Refusal) = .next { s with dbgPort := { s.dbgPort with done := true, error := true } } :=
    congrArg Host.Outcome.next (dbgCmd_of_none h hn)
  simp only [openScans, List.mem_cons, List.not_mem_nil, or_false] at hx
  rcases hx with rfl | rfl | rfl <;> exact hcmd _ _ _

/-! ### Commands on the lichen core -/

theorem tblFind_tblPut_same {α : Type} (t : Tbl α) (k : Nat) (v : α) : tblFind (tblPut t k (some v)) k = some v :=
  (tblFind_tblPut_some t k k v).trans (if_pos rfl)

theorem coreCommands {s : State} (h : DebugOpen s 0) (n addr : Nat) :
    (∃ t, exec .halt s = .next t ∧ t.mgmt = { s.mgmt with halted := true } ∧ t.dbgPort.done = true ∧ t.dbgPort.error = false) ∧
    (∃ t, exec .run s = .next t ∧ t.mgmt = { s.mgmt with halted := false, fedAt := s.counter } ∧ t.dbgPort.error = false) ∧
    exec .step s = .next { s with dbgPort := { s.dbgPort with done := true, error := false } } ∧
    (∃ t, exec (.bpSet n addr) s = .next t ∧ tblFind t.dbgPort.lichenBps (n % 4) = some (addr % 2 ^ 48)) ∧
    (∃ t, exec (.bpClr n) s = .next t ∧ t.dbgPort.lichenBps = tblPut s.dbgPort.lichenBps (n % 4) none) := by
  refine ⟨⟨_, congrArg Host.Outcome.next (dbgCmd_of_core h), rfl, rfl, rfl⟩, ⟨_, congrArg Host.Outcome.next (dbgCmd_of_core h), rfl, rfl⟩,
    congrArg Host.Outcome.next (dbgCmd_of_core h), ⟨_, congrArg Host.Outcome.next (dbgCmd_of_core h), ?_⟩,
    ⟨_, congrArg Host.Outcome.next (dbgCmd_of_core h), rfl⟩⟩
  exact tblFind_tblPut_same s.dbgPort.lichenBps (n % 4) (addr % 2 ^ 48)

/-! ### Commands on the queue of the target -/

theorem notMem_filter_ne (l : List Nat) (q : Nat) : q ∉ l.filter (· != q) := by
  intro h
  have := (List.mem_filter.1 h).2
  simp at this

theorem pairCommands {q : Nat} {s : State} (hq : q < 320) (h : DebugOpen s (q + 1)) (n addr : Nat) :
    (∃ t, exec .halt s = .next t ∧ q ∈ t.dbgPort.halted ∧ q ∉ t.dbgPort.stepping ∧ t.dbgPort.error = false) ∧
    (∃ t, exec .run s = .next t ∧ q ∉ t.dbgPort.halted ∧ q ∉ t.dbgPort.stepping ∧ t.dbgPort.error = false) ∧
    (q ∈ s.dbgPort.halted → ∃ t, exec .step s = .next t ∧ q ∈ t.dbgPort.stepping ∧ t.dbgPort.error = false) ∧
    (addr % 2 ^ 48 < 2 ^ 32 → ∃ t, exec (.bpSet n addr) s = .next t ∧ t.dbgPort.error = false ∧
      tblFind t.dbgPort.bps (4 * q + n % 4) = some (addr % 2 ^ 48)) ∧
    (2 ^ 32 ≤ addr % 2 ^ 48 → ∃ t, exec (.bpSet n addr) s = .next t ∧ t.dbgPort.error = true ∧ t.dbgPort.bps = s.dbgPort.bps) ∧
    (∃ t, exec (.bpClr n) s = .next t ∧ t.dbgPort.bps = tblPut s.dbgPort.bps (4 * q + n % 4) none) := by
  refine ⟨⟨_, congrArg Host.Outcome.next (dbgCmd_of_pair h hq), ?_, ?_, rfl⟩, ⟨_, congrArg Host.Outcome.next (dbgCmd_of_pair h hq), ?_, ?_, rfl⟩,
    fun hhalted => ⟨_, congrArg Host.Outcome.next (dbgCmd_of_pair h hq), ?_, rfl⟩,
    fun hlow => ⟨_, congrArg Host.Outcome.next ((dbgCmd_of_pair h hq).trans (if_neg (Nat.not_le.2 hlow))), rfl, ?_⟩,
    fun hhigh => ⟨_, congrArg Host.Outcome.next ((dbgCmd_of_pair h hq).trans (if_pos hhigh)), rfl, rfl⟩,
    ⟨_, congrArg Host.Outcome.next (dbgCmd_of_pair h hq), rfl⟩⟩
  · exact mem_dedupNat.2 (List.mem_append_right _ (List.mem_singleton.2 rfl))
  · exact notMem_filter_ne s.dbgPort.stepping q
  · exact notMem_filter_ne s.dbgPort.halted q
  · exact notMem_filter_ne s.dbgPort.stepping q
  · have hstep : (if s.dbgPort.halted.contains q then { s.dbgPort with stepping := dedupNat (s.dbgPort.stepping ++ [q]) } else s.dbgPort) =
        { s.dbgPort with stepping := dedupNat (s.dbgPort.stepping ++ [q]) } := if_pos (List.contains_iff_mem.2 hhalted)
    refine (congrArg (fun d : DebugSt => q ∈ d.stepping) hstep).mpr ?_
    exact mem_dedupNat.2 (List.mem_append_right _ (List.mem_singleton.2 rfl))
  · exact tblFind_tblPut_same s.dbgPort.bps (4 * q + n % 4) (addr % 2 ^ 48)

/-! ### READ and WRITE (R514) -/

theorem dbgReadAt_reg (addr : Nat) (s : State) : dbgReadAt 0 addr s =
    dbgResult (ctlReadAt ⟨.debug, addr % 2 ^ 48, .w64⟩ 0 s).lastRead (ctlReadAt ⟨.debug, addr % 2 ^ 48, .w64⟩ 0 s) := rfl

theorem dbgWriteAt_reg (addr : Nat) (s : State) : dbgWriteAt 0 addr s =
    dbgDone false (ctlWriteAt ⟨.debug, addr % 2 ^ 48, .w64⟩ s.dbgPort.wrData s) := rfl

theorem dbgReadAt_hbm {addr : Nat} {s : State} (h : hbmRange (addr % 2 ^ 48) 8 = true) : dbgReadAt 1 addr s =
    dbgResult (BitVec.ofNat 64 (readNat (readUnits s (unitsOf (addr % 2 ^ 48) 8)) (addr % 2 ^ 48) 8))
      (readUnits s (unitsOf (addr % 2 ^ 48) 8)) := if_pos h

theorem dbgWriteAt_hbm {addr : Nat} {s : State} (h : hbmRange (addr % 2 ^ 48) 8 = true) : dbgWriteAt 1 addr s =
    dbgDone false (writeBytes s (addr % 2 ^ 48) (leBytes 8 s.dbgPort.wrData.toNat)) := if_pos h

theorem dbgWriteAt_beyond {addr : Nat} {s : State} (h : hbmRange (addr % 2 ^ 48) 8 = false) : dbgWriteAt 1 addr s = dbgDone true s :=
  if_neg (by rw [h]; exact Bool.false_ne_true)

theorem exec_dbgRead {n space addr : Nat} {s : State} (h : DebugOpen s n) (hn : n ≤ 320) :
    exec (.dbgRead space addr) s = .next (dbgReadAt space addr s) := congrArg Host.Outcome.next (dbgCmd_of_any h hn)

theorem exec_dbgWrite {n space addr : Nat} {s : State} (h : DebugOpen s n) (hn : n ≤ 320) :
    exec (.dbgWrite space addr) s = .next (dbgWriteAt space addr s) := congrArg Host.Outcome.next (dbgCmd_of_any h hn)

theorem dbgResult_shows (v : W64) (s : State) : (dbgResult v s).dbgPort.rdData = v ∧ (dbgResult v s).dbgPort.error = false ∧
    (dbgResult v s).regs = s.regs ∧ (dbgResult v s).mem = s.mem := ⟨rfl, rfl, rfl, rfl⟩

theorem dbgDone_shows (err : Bool) (s : State) : (dbgDone err s).dbgPort.error = err ∧ (dbgDone err s).regs = s.regs ∧
    (dbgDone err s).mem = s.mem := ⟨rfl, rfl, rfl⟩

theorem memoryCommands {n addr : Nat} {s : State} (hn : n ≤ 320) (h : DebugOpen s n) :
    (∃ t, exec (.dbgRead 0 addr) s = .next t ∧ t.dbgPort.rdData = (ctlReadAt ⟨.debug, addr % 2 ^ 48, .w64⟩ 0 s).lastRead ∧
      t.regs = (ctlReadAt ⟨.debug, addr % 2 ^ 48, .w64⟩ 0 s).regs) ∧
    (∃ t, exec (.dbgWrite 0 addr) s = .next t ∧ t.regs = (ctlWriteAt ⟨.debug, addr % 2 ^ 48, .w64⟩ s.dbgPort.wrData s).regs) ∧
    (hbmRange (addr % 2 ^ 48) 8 = true →
      (∃ t, exec (.dbgRead 1 addr) s = .next t ∧ t.mem = s.mem ∧
        t.dbgPort.rdData = BitVec.ofNat 64 (readNat s (addr % 2 ^ 48) 8) ∧ t.dbgPort.error = false) ∧
      (∃ t, exec (.dbgWrite 1 addr) s = .next t ∧
        t.mem = (writeBytes s (addr % 2 ^ 48) (leBytes 8 s.dbgPort.wrData.toNat)).mem ∧ t.dbgPort.error = false)) ∧
    (hbmRange (addr % 2 ^ 48) 8 = false → ∃ t, exec (.dbgWrite 1 addr) s = .next t ∧ t.mem = s.mem ∧ t.dbgPort.error = true) := by
  refine ⟨⟨dbgReadAt 0 addr s, exec_dbgRead h hn, ?_⟩, ⟨dbgWriteAt 0 addr s, exec_dbgWrite h hn, ?_⟩,
    fun hin => ⟨⟨dbgReadAt 1 addr s, exec_dbgRead h hn, ?_⟩, ⟨dbgWriteAt 1 addr s, exec_dbgWrite h hn, ?_⟩⟩,
    fun hout => ⟨dbgWriteAt 1 addr s, exec_dbgWrite h hn, ?_⟩⟩
  · rw [dbgReadAt_reg]
    obtain ⟨hdata, -, hregs, -⟩ := dbgResult_shows (ctlReadAt ⟨.debug, addr % 2 ^ 48, .w64⟩ 0 s).lastRead
      (ctlReadAt ⟨.debug, addr % 2 ^ 48, .w64⟩ 0 s)
    exact ⟨hdata, hregs⟩
  · rw [dbgWriteAt_reg]
    obtain ⟨-, hregs, -⟩ := dbgDone_shows false (ctlWriteAt ⟨.debug, addr % 2 ^ 48, .w64⟩ s.dbgPort.wrData s)
    exact hregs
  · rw [dbgReadAt_hbm hin]
    have hmem : (readUnits s (unitsOf (addr % 2 ^ 48) 8)).mem = s.mem := readUnits_agree.area .mem rfl
    rw [readNat_of_mem_eq hmem]
    obtain ⟨hdata, herror, -, hsame⟩ := dbgResult_shows (BitVec.ofNat 64 (readNat s (addr % 2 ^ 48) 8))
      (readUnits s (unitsOf (addr % 2 ^ 48) 8))
    exact ⟨hsame.trans hmem, hdata, herror⟩
  · rw [dbgWriteAt_hbm hin]
    obtain ⟨herror, -, hsame⟩ := dbgDone_shows false (writeBytes s (addr % 2 ^ 48) (leBytes 8 s.dbgPort.wrData.toNat))
    exact ⟨hsame, herror⟩
  · rw [dbgWriteAt_beyond hout]
    obtain ⟨herror, -, hsame⟩ := dbgDone_shows true s
    exact ⟨hsame, herror⟩

/-! ### The scans of the test access port -/

theorem exec_extest {v : List Bool} {s : State} (hpow : portPowered s = true) (hopen : s.dbgPort.opened = true) :
    exec (.extest v) s = .next (setDebug (boundaryScan v s) (fun d => { d with outputs := v })) :=
  congrArg Host.Outcome.next (openScan_of_open hpow hopen)

theorem exec_samplePreload {v : List Bool} {s : State} (hpow : portPowered s = true) :
    exec (.samplePreload v) s = .next (boundaryScan v s) := congrArg Host.Outcome.next (if_pos hpow)

/-- Settles O60: where a scan goes first, then what each command does to the debug port's own state. -/
theorem debugPort : Obligations.DebugPort := by
  unfold Obligations.DebugPort
  refine ⟨?_, ?_, ?_, ?_, ?_, ?_, ?_, ?_, ?_, ?_⟩
  · intro s hon
    exact ⟨_, congrArg Host.Outcome.next (if_pos hon), rfl, rfl⟩
  · intro token verified s hs hon
    exact dbgUnlock_leaves hs hon
  · intro x n addr s hx hpow hclosed
    exact openScans_bypass hx hpow hclosed
  · intro write v l s hpow hclosed
    exact ⟨congrArg Host.Outcome.next (openScan_of_closed hpow hclosed), congrArg Host.Outcome.next (openScan_of_closed hpow hclosed)⟩
  · rintro n s ⟨hpow, hopen, -⟩ m v
    exact ⟨congrArg Host.Outcome.next (openScan_of_open hpow hopen), congrArg Host.Outcome.next (openScan_of_open hpow hopen),
      congrArg Host.Outcome.next (openScan_of_open hpow hopen)⟩
  · intro s h n addr
    exact coreCommands h n addr
  · intro q s hq h n addr
    exact pairCommands hq h n addr
  · intro n addr s hn h
    exact memoryCommands hn h
  · intro n s hn h x hx
    exact openScans_none hx h hn
  · intro v tdi s hpow
    exact ⟨fun hopen => ⟨_, exec_extest hpow hopen, rfl, rfl, rfl⟩, ⟨_, exec_samplePreload hpow, rfl, rfl, rfl⟩,
      congrArg Host.Outcome.next (if_pos hpow), congrArg Host.Outcome.next (if_pos hpow)⟩

end Sys2Proof.Proofs
end
